-- ==== Sys2Proof/Word.lean ====
section
/-!
DEFINITION. The native word of the device and its plainest arithmetic (R8 to R12).
-/

namespace Sys2Proof

/-- The native word is 18 bits (00_scope.md, "Words, wide values and their layout"). -/
abbrev Word := BitVec 18

/-- A 36-bit value: two words, most significant first (R8). -/
abbrev Word36 := BitVec 36

/-- A 54-bit value: three words, most significant first (R8). -/
abbrev Word54 := BitVec 54

/-- One dword of the host link (R9). -/
abbrev Dword := BitVec 32

end Sys2Proof
end

