-- ==== Sys2Proof/Syntax.lean ====
section
/-!
DEFINITION. The syntax of the commands: who sends them, their operands, and `Instr` with one constructor
per row of spec/opcode_table.json. The table gives a row neither bits nor operands; the operands here are
what the requester, the pin, the lane or the partner supplies with the step (log entry 3).
-/

namespace Sys2Proof

/-- The requester of a register access, by its code (R20). -/
inductive Requester where
  | host | monitor | sat0 | sat1
deriving DecidableEq, Repr

/-- The twelve islands (R14), in the order of the island index (R50). -/
inductive Island where
  | pln | hst | que | mem | mot | tqa | tqb | tqc | tqd | fld | sat | rng
deriving DecidableEq, Repr

/-- One access to BAR0: requester, byte offset, size in bytes, byte enables, write data, poison (R20 to R26, R188). -/
structure RegAccess where
  req      : Requester
  addr     : BitVec 24
  size     : Nat := 4
  be       : BitVec 4 := 15
  value    : Dword := 0
  poisoned : Bool := false
deriving DecidableEq, Repr

/-- The mailboxes of the device: each is _SEL, _STS, _W0, _W1, _W2 (R40). -/
inductive MailboxId where
  | plnId | clkFmc | armInfo | armFuse | hstEye | hstPrbs | chnRes | queMb | tmpMb | nrgMb | motMb
  | tqMb (quad : Fin 4) | rngMb | satMb
deriving DecidableEq, Repr

/-- The lock bits that software writes (R44): ARM_SRC.LOCK, NRG_CTL.CEIL_LOCK, RNG_JOIN.LOCK, MON_CTL.LOCK. -/
inductive LockBit where
  | armSrc | ceilLock | ringJoin | monCtl
deriving DecidableEq, Repr

/-- The handshake channels of R53. -/
inductive ChannelId where
  | plnTo (i : Island) | toPln (i : Island)
  | motTq (quad : Fin 4) | tqQue (quad : Fin 4) | tqMem (quad : Fin 4)
  | queHst | hstQue | motRng | rngMot | fldQue | queFld
  | satHst (cls : Fin 3) | hstSat (cls : Fin 3)
  | toMem (i : Island) | memTo (i : Island)
deriving DecidableEq, Repr

/-- A configuration request (R131, R174): dword number, byte enables, data. -/
structure ConfigReq where
  write : Bool
  dword : BitVec 10
  be    : BitVec 4 := 15
  data  : Dword := 0
deriving DecidableEq, Repr

/-- A transmitter coefficient set: pre-cursor, main, post-cursor (R153, R154). -/
structure Coefficients where
  pre  : BitVec 6
  main : BitVec 6
  post : BitVec 6
deriving DecidableEq, Repr

/-- How a trained link lies on the lanes (R149): all four lanes reversed, and the lanes that are received inverted. -/
structure LaneWiring where
  reversed : Bool
  inverted : BitVec 4 := 0
deriving DecidableEq, Repr

/-- What Phase 2 found on one lane (R153): for each preset tried, the eye width at zero offset where the preset passed the
four-point test; the coefficient sets asked for while the chosen preset was refined; whether the equalisation of the lane
succeeded. -/
structure LaneEq where
  lane    : Fin 4
  passing : List (Fin 11 × BitVec 7)
  refined : List Coefficients := []
  ok      : Bool
deriving DecidableEq, Repr

/-- A Phase 3 request of the partner (R154): a preset, or a coefficient set with its legality under the standard. -/
inductive EqRequest where
  | preset (p : BitVec 4)
  | coefficients (pre main post : BitVec 6) (legal : Bool)
deriving DecidableEq, Repr

/-- The figures of a receiver that Lane Margining reports (R158). -/
inductive MarginReport where
  | capabilities | voltageSteps | timingSteps | timingOffset | voltageOffset | voltageRate | timingRate | maxLanes
deriving DecidableEq, Repr

/-- A Lane Margining at the Receiver command (R158): a step of timing or voltage, the return to normal settings, a report of
a figure, the error count limit, the clearing of the error log. -/
inductive MarginCmd where
  | timing (right : Bool) (steps : Nat)
  | voltage (up : Bool) (steps : Nat)
  | goToNormal
  | report (what : MarginReport)
  | errorLimit (n : BitVec 6)
  | clearErrors
deriving DecidableEq, Repr

/-- What the device says to its partner on a lane, by training sets or margining replies (R153, R154, R158, R161, R167). -/
inductive LaneMsg where
  | accepted
  | rejected
  | usePreset (p : Nat)
  | useCoefficients (c : Coefficients)
  | nFts (n : Nat)
  | redo
  | marginFigure (what : MarginReport) (value : Nat)
  | marginErrors (tooMany : Bool) (errors : Nat)
  | marginNormal
  | marginLimit (n : Nat)
  | marginCleared
deriving DecidableEq, Repr

/-- An access to BAR4: byte offset, 4 or 8 bytes, data, poison (R177, R188). -/
structure Bar4Access where
  write    : Bool
  offset   : BitVec 16
  size     : Nat := 4
  data     : BitVec 64 := 0
  poisoned : Bool := false
deriving DecidableEq, Repr

/-- The status of a completion. -/
inductive CplStatus where
  | sc | ur | ca
deriving DecidableEq, Repr

/-- A completion (part) to a read or AtomicOp the device issued (R188 to R192). -/
structure Completion where
  tag      : BitVec 10
  status   : CplStatus
  data     : List Dword
  poisoned : Bool := false
  last     : Bool := true
deriving DecidableEq, Repr

/-- The 32-bit AtomicOps (R194). -/
inductive AtomOp where
  | fetchAdd | swap | cas
deriving DecidableEq, Repr

/-- An AtomicOp request of the host (R188 case 8, R194): base address register 0, 2 or 4, byte offset, width in bits. -/
structure AtomicReq where
  op       : AtomOp
  bar      : Nat
  offset   : BitVec 26
  width    : Nat := 32
  operand  : Dword
  compare  : Dword := 0
  poisoned : Bool := false
deriving DecidableEq, Repr

/-- A translation completion (R200): page frame, permissions, untranslated-only bit, completion status. -/
structure Translation where
  status : CplStatus
  page   : BitVec 52
  read   : Bool
  write  : Bool
  uBit   : Bool := false
deriving DecidableEq, Repr

/-- What the write engine found in SRAM when it wrote an entry (R189, R228): nothing, an uncorrectable error in the
staged entry, or one in the queue's descriptor. -/
inductive EntryEcc where
  | clean | entryUE | descUE
deriving DecidableEq, Repr

/-- The arbiters of R250; each SRAM bank has its own. -/
inductive ArbiterId where
  | mem (bank : Fin 8) | hostTx | satBus | ringTx | plnBus
deriving DecidableEq, Repr

/-- What holds an arbiter as it decides (R256): nothing, a transfer, or a transfer whose TLP the link layer has. -/
inductive ArbHold where
  | free | transfer | handed
deriving DecidableEq, Repr

/-- One request waiting at an arbiter (R252): its activity and the arbiter clocks since it arrived. -/
structure ArbRequest where
  activity : Fin 16
  age      : Nat
deriving DecidableEq, Repr

/-- A request for the satellite bus (R407): master 0, master 1 or 2 the device (whose test bursts are TEST), and the
arbiter clocks since it arrived. -/
structure SatRequest where
  who  : Fin 3
  test : Bool := false
  age  : Nat
deriving DecidableEq, Repr

/-- The three inputs of an encoder (R274). -/
inductive EncInput where
  | a | b | z
deriving DecidableEq, Repr

/-- The causes of a quad fault (R320), in the order of PLN_QF_STS.CAUSE. -/
inductive QuadCause where
  | mismatch | sramUE | parityHold
deriving DecidableEq, Repr

/-- The two ring lanes (R334): EAST is L4, WEST is L5. -/
inductive Side where
  | east | west
deriving DecidableEq, Repr

/-- A CAN frame (R373, R383). A base identifier stands in bits 10:0 of `ident`. -/
structure CanFrame where
  ide   : Bool
  fdf   : Bool
  brs   : Bool
  esi   : Bool
  rtr   : Bool
  dlc   : BitVec 4
  ident : BitVec 29
  data  : List (BitVec 8)
deriving DecidableEq, Repr

/-- The protocol errors, in the order of FB_STS.LEC. -/
inductive CanError where
  | stuff | form | ack | bit1 | bit0 | crc
deriving DecidableEq, Repr

/-- The shorts of R394, in the order of FB_LINE bits 1 to 4. -/
inductive CanLine where
  | hGnd | hSup | lGnd | lSup
deriving DecidableEq, Repr

/-- One word on SAT_AD with its poison and parity state (R406). -/
structure SatWord where
  data   : Word
  poi    : Bool := false
  parBad : Bool := false
deriving DecidableEq, Repr

/-- A device-space burst of a satellite master (R403, R404): command code, word address, length, words, SAT_LOCK_N at the
address edge, address parity. -/
structure SatBurst where
  cmd     : BitVec 3
  addr    : BitVec 22
  len     : Nat
  words   : List SatWord := []
  lock    : Bool := false
  addrPar : Bool := true
  /-- a word of the burst, an HWR's to host memory, is uncorrectable in the bridge's buffer (R189, R416). -/
  ue      : Bool := false
deriving DecidableEq, Repr

/-- How the target answered a burst of the bridge (R404, R405): the words it gave or took, then the end. -/
inductive TargetAnswer where
  | done (words : List SatWord)
  | err (taken : List SatWord)
  | retry
  | timeout (taken : List SatWord)
deriving DecidableEq, Repr

/-- A host request to BAR2 (R411, R412): byte offset of the first dword, and for each dword its byte enables and data. -/
structure Bar2Access where
  offset   : BitVec 26
  dwords   : List (BitVec 4 × Dword)
  poisoned : Bool := false
deriving DecidableEq, Repr


/-- The commands of the device: one constructor per row of spec/opcode_table.json, in the table's order. -/
inductive Instr where
  /-- REGISTER_WRITE (R27): A write to a register that has no row of its own stores its fields according to their access codes. -/
  | registerWrite (a : RegAccess)
  /-- SET_ALIAS_WRITE (R31): A write through the set alias sets the written RW and RWL bits in one read-modify-write step. -/
  | setAliasWrite (req : Requester) (reg : BitVec 24) (value : Word)
  /-- CLEAR_ALIAS_WRITE (R31): A write through the clear alias clears the written RW and RWL bits in one read-modify-write step. -/
  | clearAliasWrite (req : Requester) (reg : BitVec 24) (value : Word)
  /-- TOGGLE_ALIAS_WRITE (R31): A write through the toggle alias inverts the written RW and RWL bits in one read-modify-write step. -/
  | toggleAliasWrite (req : Requester) (reg : BitVec 24) (value : Word)
  /-- RC_FIELD_READ (R29): A read of an RC field returns its value and then clears it, except for a read by the monitor. -/
  | rcFieldRead (req : Requester) (reg : BitVec 24)
  /-- DEVICE_TIME_WRAP (R11): Device time wraps from 2^54 - 1 to 0. -/
  | deviceTimeWrap
  /-- SCRUB_REGISTER_CHECK (R36): On a grant of SCRUB the Plinth checks the parity of the next register of the pass. -/
  | scrubRegisterCheck
  /-- PLN_PAR_HOLD_CLEAR (R39): Clearing an island's bit in PLN_PAR_HOLD releases HOLD only if no register of that island has a mismatch. -/
  | plnParHoldClear (req : Requester) (bits : Word)
  /-- MAILBOX_CAPTURE (R40): A _SEL write with APPLY = 0 starts an atomic capture of the named item. -/
  | mailboxCapture (req : Requester) (mb : MailboxId) (item : BitVec 17)
  /-- MAILBOX_CAPTURE_DONE (R40): The capture completes, and VALID and WIDTH are set. -/
  | mailboxCaptureDone (mb : MailboxId)
  /-- MAILBOX_WORD_READ (R41): A read of a captured mailbox word returns it, and the read of the last word clears VALID. -/
  | mailboxWordRead (req : Requester) (mb : MailboxId) (k : Fin 3)
  /-- MAILBOX_APPLY (R42): A _SEL write with APPLY = 1 applies the staging words to a writable item. -/
  | mailboxApply (req : Requester) (mb : MailboxId) (item : BitVec 17)
  /-- MAILBOX_APPLY_DONE (R42): The apply completes atomically and DONE sets. -/
  | mailboxApplyDone (mb : MailboxId)
  /-- LOCK_BIT_SET (R44): A write of one to a lock bit locks its RWL field until reset. -/
  | lockBitSet (req : Requester) (bit : LockBit)
  /-- PAIR_V_WRITE (R46): A write to a _V slot opens a value-and-complement pair, discarding any pair already open. -/
  | pairVWrite (req : Requester) (pair : Fin 9) (value : Word)
  /-- PAIR_TIMEOUT (R47): An open pair that has had no _C write within 1 ms fails with cause 1. -/
  | pairTimeout (pair : Fin 9)
  /-- HANDSHAKE_ENTRY_DELIVERED (R53): An entry written into a handshake channel becomes readable by the receiving island. -/
  | handshakeEntryDelivered (ch : ChannelId)
  /-- HANDSHAKE_SEND_RESUME (R52): A sender waiting on a full or holding channel writes once room frees. -/
  | handshakeSendResume (ch : ChannelId)
  /-- ISLAND_ENABLE (R60): Setting an island's bit in PLN_ISL_EN brings it from GATED to ON, subject to the checks of R61. -/
  | islandEnable (req : Requester) (i : Island)
  /-- ISLAND_GATE (R60): Clearing an island's bit in PLN_ISL_EN closes its ingress gate, drains it and gates it. -/
  | islandGate (req : Requester) (i : Island)
  /-- ISLAND_IDLE_TIMEOUT (R57): The idle timer expires and moves an idle island to DOZE, or to OFF for a fixed-pace island. -/
  | islandIdleTimeout (i : Island)
  /-- ISLAND_DRAIN_DONE (R63): An island's in-flight work completes and its clock stops to enter DOZE, OFF or GATED. -/
  | islandDrainDone (i : Island)
  /-- ISLAND_POWERUP_START (R59): The Plinth powers up the next waiting island from OFF or GATED at most once per 200 µs, in index order. -/
  | islandPowerupStart
  /-- ISLAND_WAKE_DONE (R58): An island reaches ON after a wake and re-initialisation from the armature shadow. -/
  | islandWakeDone (i : Island)
  /-- FPWR_FREE (R61): Pair 5 with MODE FREE returns the island to normal power management. -/
  | fpwrFree (req : Requester) (i : Island)
  /-- FPWR_KEEP_ON (R61): Pair 5 with MODE KEEP_ON keeps the island out of DOZE and OFF. -/
  | fpwrKeepOn (req : Requester) (i : Island)
  /-- FPWR_OFF_NOW (R57): Pair 5 with MODE OFF_NOW drains the island and puts it OFF at once. -/
  | fpwrOffNow (req : Requester) (i : Island)
  /-- PARKED_WRITE_DELIVER (R65): Parked writes are delivered in arrival order to the woken island. -/
  | parkedWriteDeliver (i : Island)
  /-- WAKE_FAIL (R67): A non-posted request whose island is not ON within 1 ms completes with CA and raises PLN_WAKEFAIL. -/
  | wakeFail (i : Island)
  /-- XTAL_IRC_GATE_END (R70): A 1 ms IRC gate ends and its XTAL count passes or restarts the series. -/
  | xtalIrcGateEnd (count : Nat)
  /-- REFCLK_GATE_END (R71): The 1,000,000-cycle REFCLK gate ends and its XTAL count passes or fails. -/
  | refclkGateEnd (count : Nat)
  /-- REFCLK_GATE_STALL (R71): No REFCLK edge for 1 ms during its gate fails the REFCLK test. -/
  | refclkGateStall
  /-- JUDGE_TIMEOUT (R73): XTAL not judged within 50 ms sets IRC_MODE and raises CLK_XTALBAD. -/
  | judgeTimeout
  /-- REJUDGE (R74): A write of one to CLK_CTL.REJUDGE in IRC mode starts a new judging. -/
  | rejudge (req : Requester)
  /-- PLN_SRC_SWITCH (R75): CLK_CTL.PLN_SRC switches the Plinth clock between IRC and PLN without a glitch. -/
  | plnSrcSwitch (req : Requester) (irc : Bool)
  /-- XTAL_STOP (R76): The crystal stops after judging and every island fed from the PLLs stops. -/
  | xtalStop
  /-- FMC_START (R78): A write of START to CLK_FMC_CTL starts a frequency-measuring gate. -/
  | fmcStart (req : Requester) (ctl : Word)
  /-- FMC_GATE_END (R78): The gate of 2^K reference cycles ends and the count is captured. -/
  | fmcGateEnd (count : BitVec 36)
  /-- FMC_TIMEOUT (R79): No reference edge for 1 s ends the gate with TIMEOUT set and a count of 0. -/
  | fmcTimeout
  /-- OP_REQUEST (R81): A write to PLN_ISL_OPREQ changes the requested operating point and starts the sequencer. -/
  | opRequest (req : Requester) (i : Island) (point : BitVec 2)
  /-- SEQUENCER_SETTLE_END (R82): The 20 µs voltage settle ends and the frequency is raised. -/
  | sequencerSettleEnd (i : Island)
  /-- SEQUENCER_STEP_DONE (R82): A sequencer step completes and the island's channels run again. -/
  | sequencerStepDone (i : Island)
  /-- FLASH_SLOT_READ_DONE (R112): A flash slot read completes and verification starts. -/
  | flashSlotReadDone
  /-- ARM_VERIFY_DONE (R117): Verification of a staged image ends with STAGE VERIFIED or FAILED. -/
  | armVerifyDone
  /-- LOAD_START (R116): ARM_LOAD_CTL.START begins a host load, with permission and busy checks. -/
  | loadStart (req : Requester)
  /-- ARM_DATA_WRITE (R116): A write to ARM_DATA stores a word at ARM_PTR and increments it. -/
  | armDataWrite (req : Requester) (word : Word)
  /-- LOAD_END (R116): ARM_LOAD_CTL.END ends the host load and starts verification. -/
  | loadEnd (req : Requester)
  /-- LOAD_ABORT (R126): ARM_LOAD_CTL.ABORT discards the staged image. -/
  | loadAbort (req : Requester)
  /-- LOAD_FLASH (R112): ARM_LOAD_CTL.FLASH stages slot A, then slot B, from flash. -/
  | loadFlash (req : Requester)
  /-- PROG_A (R113): ARM_LOAD_CTL.PROG_A writes the VERIFIED staged image into flash slot A. -/
  | progA (req : Requester)
  /-- PROG_B (R113): ARM_LOAD_CTL.PROG_B writes the VERIFIED staged image into flash slot B. -/
  | progB (req : Requester)
  /-- ARM_PROGDONE (R113): Flash programming and read-back end, and ARM_PROGDONE is raised, with cause 18 on a mismatch. -/
  | armProgdone (mismatch : Option Nat)
  /-- COMMIT_WHOLE (R120): Pair 4 with WHOLE gates the islands and brings up the staged image as the committed image. -/
  | commitWhole (req : Requester) (c : Word)
  /-- RECAST (R121): Pair 4 with a unit mask re-initialises the selected islands from their new sections. -/
  | recast (req : Requester) (c : Word)
  /-- MAQUETTE_WRITE (R124): A write to ARM_MAQ.EN enters or leaves maquette mode, and is ignored while any channel is live. -/
  | maquetteWrite (req : Requester) (en : Bool)
  /-- FUSE_PROGRAM (R110): Pair 6 programs a fuse item as the OR of its fused value and staging word W0. -/
  | fuseProgram (req : Requester) (c : Word)
  /-- FUSE_PROGRAM_DONE (R110): Fuse programming ends, with FAIL set if it was refused or failed. -/
  | fuseProgramDone (ok : Bool)
  /-- POR_ASSERT (R127): A rail leaves its operating range and POR resets the device. -/
  | porAssert
  /-- POR_END (R127): POR ends 0.2 ms after the monitored rails are in range and the power-up sequence starts. -/
  | porEnd (straps : BitVec 4)
  /-- RESET_N_PULSE (R128): RESET_N held for at least 1 µs resets the device as POR does. -/
  | resetNPulse (ns : Nat) (taken : Bool) (straps : BitVec 4)
  /-- SRAM_CLEAR_DONE (R129): Zeroing of every SRAM word completes and the flash load begins. -/
  | sramClearDone
  /-- POWERUP_COMMIT_START (R129): Once XTAL is judged or IRC mode is entered, the power-up whole commit starts and the device becomes ready. -/
  | powerupCommitStart
  /-- PERST_DEASSERT (R130): PERST_N deasserted with REFCLK seen enables HST. -/
  | perstDeassert
  /-- PERST_ASSERT (R145): PERST_N asserted resets HST and carries out the steps of R144. -/
  | perstAssert
  /-- HOT_RESET (R145): A hot reset takes the link to Detect, resets configuration space and carries out the steps of R144. -/
  | hotReset
  /-- FLR (R143): A configuration write starting a Function Level Reset stops TLPs and carries out the steps of R144. -/
  | flr
  /-- FLR_COMPLETE (R143): The FLR completes and configuration requests are answered normally again. -/
  | flrComplete
  /-- ISLAND_RESET (R146): PLN_ISL_RST with GO resets the named island through OFF. -/
  | islandReset (req : Requester) (value : Word)
  /-- DEVICE_PURGE (R147): Pair 8 destroys every channel, clears SRAM, optionally erases flash, and resets the device. -/
  | devicePurge (req : Requester) (c : Word)
  /-- PURGE_ERASE_DONE (R147): The flash erase of a purge ends and the device resets as RESET_N does. -/
  | purgeEraseDone
  /-- CONFIG_REQUEST (R131): A configuration request is answered, with Request Retry Status until the device is ready. -/
  | configRequest (q : ConfigReq)
  /-- LINK_UP (R172): The link reaches DL_Up, and LINKUP is set. -/
  | linkUp (rate : Fin 4) (lanes : BitVec 4) (wiring : LaneWiring) (upcfg : Bool)
  /-- EQ_PHASE2_DONE (R153): Phase 2 equalisation completes with a chosen preset for each lane. -/
  | eqPhase2Done (rate : Fin 4) (results : List LaneEq)
  /-- EQ_PHASE3_REQUEST (R154): A partner's Phase 3 request for transmitter settings is applied or rejected. -/
  | eqPhase3Request (lane : Fin 4) (request : EqRequest)
  /-- LANE_LOCK_LOSS (R166): A lane loses lock, and the link enters Recovery. -/
  | laneLockLoss (lane : Fin 4)
  /-- RECOVERY_TIMEOUT (R167): A Recovery in which a lane never locks ends at the 24 ms timeout. -/
  | recoveryTimeout (lane : Fin 4)
  /-- RECOVERY_SURVIVED (R166): A lane that keeps lock for 100 ms after Recovery resets the failure count. -/
  | recoverySurvived
  /-- UPCONFIGURE_ATTEMPT (R169): HST_UPCFG_T after a drop, the device offers the dropped lanes in Recovery and Configuration. -/
  | upconfigureAttempt
  /-- UPCONFIGURE_DONE (R169): The upconfigure ends, restoring the lanes that passed or recording its failure cause. -/
  | upconfigureDone (passed : BitVec 4) (trained : Bool)
  /-- EYE_SCAN_START (R156): HST_EYE_CTL.START begins an eye scan of one lane. -/
  | eyeScanStart (req : Requester) (lane : Fin 4)
  /-- EYE_SCAN_AUTO (R156): With AUTO set, the next configured lane is scanned once per second. -/
  | eyeScanAuto
  /-- EYE_SCAN_DONE (R156): An eye scan completes with WIDTH, HEIGHT and PASS, and raises EYEDONE. -/
  | eyeScanDone (width : Fin 65) (height : Fin 251)
  /-- EYE_SCAN_PAUSE_TIMEOUT (R157): A scan paused for more than 100 ms is aborted. -/
  | eyeScanPauseTimeout
  /-- LANE_MARGIN_COMMAND (R158): A Lane Margining at the Receiver command is executed with the offset sampler. -/
  | laneMarginCommand (lane : Fin 4) (cmd : MarginCmd)
  /-- TESTMODE_ENTER (R159): Setting TESTMODE from a non-host requester enters PRBS test mode, or is refused from the host. -/
  | testmodeEnter (req : Requester)
  /-- TESTMODE_EXIT (R160): Clearing TESTMODE returns the LTSSM to Detect. -/
  | testmodeExit (req : Requester)
  /-- PRBS_CHECKER_LOCK (R160): A PRBS checker locks after 64 consecutive correct bits. -/
  | prbsCheckerLock (lane : Fin 4)
  /-- PRBS_CLEAR (R160): HST_PRBS_CTL.CLEAR clears both counters of every lane. -/
  | prbsClear (req : Requester)
  /-- L0S_ENTRY (R161): The transmitter enters L0s after HST_L0S_IDLE µs with nothing to send. -/
  | l0sEntry
  /-- L1_REQUEST (R162): After HST_L1_IDLE µs of idleness the device requests L1. -/
  | l1Request
  /-- L11_EXIT (R163): A cause to transmit in L1.1 asserts CLKREQ_N and exits once REFCLK is stable. -/
  | l11Exit
  /-- LTR_AUTO_SEND (R165): An automatic LTR message is sent when the value moves by more than 25 %. -/
  | ltrAutoSend
  /-- LTR_SEND (R165): HST_LTR_CTL.SEND sends HST_LTR_US while AUTO is clear. -/
  | ltrSend (req : Requester)
  /-- REDETECT (R170): HST_PHY_CTL.REDETECT takes the link through Detect as a surprise link-down. -/
  | redetect (req : Requester)
  /-- REFCLK_STOP (R151): REFCLK stops, losing the link unless it is in L1.1. -/
  | refclkStop
  /-- SURPRISE_LINK_DOWN (R170): DL_Down with PERST_N deasserted stops TLPs, disables queues, breaks host locks and raises HST_LINKDOWN. -/
  | surpriseLinkDown
  /-- SLOT_POWER_LIMIT_MSG (R182): A Set_Slot_Power_Limit message updates the captured limit and the ledger ceiling source. -/
  | slotPowerLimitMsg (value : BitVec 8) (scale : BitVec 2)
  /-- BUS_MASTER_ENABLE_CLEAR (R184): Clearing Bus Master Enable stops request TLPs, and later records are dropped and counted. -/
  | busMasterEnableClear
  /-- BUS_MASTER_ENABLE_SET (R184): Setting Bus Master Enable again sends any pending MSI-X or MSI message. -/
  | busMasterEnableSet
  /-- D3HOT_ENTRY (R185): The function enters D3hot and issues no request other than PME. -/
  | d3hotEntry
  /-- BAR4_ACCESS (R177): An access to the MSI-X table or PBA in BAR4 is served, or answered with UR outside them. -/
  | bar4Access (a : Bar4Access)
  /-- COMPLETION_RECEIVED (R188): A completion to a device read is delivered to its consumer, or treated as an error case. -/
  | completionReceived (c : Completion)
  /-- COMPLETION_TIMEOUT (R191): A read times out, is reported, and its tag is quarantined and its consumer fails. -/
  | completionTimeout (tag : BitVec 10)
  /-- TAG_QUARANTINE_END (R191): A tag's quarantine of twice the timeout ends and the tag is free again. -/
  | tagQuarantineEnd (tag : BitVec 10)
  /-- ATOMICOP_REQUEST (R194): A host AtomicOp to a LOCKABLE window is carried out under SAT_LOCK_N. -/
  | atomicopRequest (a : AtomicReq)
  /-- ATOMICOP_LOCK_TIMEOUT (R195): An AtomicOp not started within 10 ms completes with CA and raises HST_ATOMICFAIL. -/
  | atomicopLockTimeout
  /-- TRANSLATION_COMPLETION (R200): A translation completion fills the cache, or faults the queue and raises HST_ATSFAULT. -/
  | translationCompletion (tag : BitVec 10) (t : Translation)
  /-- INVALIDATE_REQUEST (R201): An Invalidate Request removes the covered cache entries. -/
  | invalidateRequest (itag : BitVec 5) (page : BitVec 52) (pages : Nat)
  /-- INVALIDATE_COMPLETION (R201): The Invalidate Completion is sent once every request using a removed translation has finished. -/
  | invalidateCompletion (itag : BitVec 5)
  /-- ATC_FLUSH (R202): HST_ATC_CTL.FLUSH empties the address translation cache. -/
  | atcFlush (req : Requester)
  /-- ATS_ENABLE_CLEAR (R202): Clearing ATS Enable empties the cache and faults every translated queue. -/
  | atsEnableClear
  /-- MEM_PATROL_SCRUB (R206): On a grant of SCRUB the patrol scrub reads the next SRAM word and corrects it. -/
  | memPatrolScrub
  /-- SRAM_WINDOW_WRITE (R26): A write through the direct SRAM window stores a word, with any injected error, or is refused for the shadow. -/
  | sramWindowWrite (req : Requester) (word : BitVec 18) (value : Word)
  /-- CREATE (R211): CHN_OP CREATE judges the parameters and makes the lowest FREE slot LIVE. -/
  | create (req : Requester)
  /-- CHN_QUIESCE (R212): CHN_OP QUIESCE stops new fires of a LIVE channel, which becomes QUIESCING. -/
  | chnQuiesce (req : Requester)
  /-- RESUME (R214): CHN_OP RESUME makes a QUIESCED channel LIVE and writes QUIESCED gap records. -/
  | resume (req : Requester)
  /-- DESTROY (R215): CHN_OP DESTROY discards the channel's records, breaks its locks, advances its generation and frees the slot. -/
  | destroy (req : Requester)
  /-- CHN_OP_INVALID (R209): A CHN_OP code with no operation returns status PARAM. -/
  | chnOpInvalid (req : Requester) (code : BitVec 3)
  /-- CHANNEL_QUIESCED (R213): The last record of a QUIESCING channel is written, a CHANSTATE entry follows and QUE_CHNQUIESCED is raised. -/
  | channelQuiesced (slot : Fin 128)
  /-- QUEUE_ENABLE (R219): QUE_CMD ENABLE moves a DISABLED queue to ENABLED with both counts at zero. -/
  | queueEnable (req : Requester) (q : Fin 2048)
  /-- QUEUE_DISABLE (R219): QUE_CMD DISABLE moves a queue to DRAINING and discards its staged entries. -/
  | queueDisable (req : Requester) (q : Fin 2048)
  /-- QUEUE_DRAIN_DONE (R219): A DRAINING queue completes its started entry and becomes DISABLED. -/
  | queueDrainDone (q : Fin 2048)
  /-- QUEUE_RESET (R219): QUE_CMD RESET sets both counts of a DISABLED queue to zero. -/
  | queueReset (req : Requester) (q : Fin 2048)
  /-- QUEUE_FAULTCLR (R219): QUE_CMD FAULTCLR returns a FAULT queue to ENABLED with its counts kept. -/
  | queueFaultclr (req : Requester) (q : Fin 2048)
  /-- DOORBELL (R220): A doorbell write updates the consumer or producer count, or faults the queue or raises QUE_DBOFF. -/
  | doorbell (req : Requester) (q : Fin 2048) (count : Word)
  /-- QUEUE_ENTRY_WRITE (R187): A write engine writes a staged entry to host memory, body first and dword 0 with the phase bit last. -/
  | queueEntryWrite (q : Fin 2048) (ecc : EntryEcc)
  /-- COMMAND_FETCH (R223): A fetch engine reads up to 16 command entries from host memory. -/
  | commandFetch (q : Fin 2048) (descUE : Bool)
  /-- CMD_MARK (R227): The MARK command writes a MARK entry carrying its cookie. -/
  | cmdMark (q : Fin 2048)
  /-- CMD_QUIESCE (R227): The QUIESCE command quiesces its channel as R212 states. -/
  | cmdQuiesce (q : Fin 2048)
  /-- CMD_LOCK (R227): The LOCK command takes a hardware lock for the channel, stalling the queue until granted. -/
  | cmdLock (q : Fin 2048)
  /-- CMD_LOCK_GRANTED (R227): The waited-for lock is granted to the channel and a LOCKED entry is written. -/
  | cmdLockGranted (q : Fin 2048)
  /-- CMD_UNLOCK (R227): The UNLOCK command releases the lock if the channel owns it. -/
  | cmdUnlock (q : Fin 2048)
  /-- CMD_STALE_OR_UNKNOWN (R227): A command with a stale handle or unknown opcode is skipped and raises QUE_STALECMD or QUE_BADCMD. -/
  | cmdStaleOrUnknown (q : Fin 2048)
  /-- VECTOR_TIMER_EXPIRY (R233): A vector's coalescing timer expires and its message is sent. -/
  | vectorTimerExpiry (v : Fin 128)
  /-- EVT_MASK_WRITE (R231): Unmasking a pending source signals its vector. -/
  | evtMaskWrite (req : Requester) (k : Fin 32) (value : Word)
  /-- EVT_ROUTE_WRITE (R232): A write to EVT_ROUTE sets a source's vector, storing 0 as 1 for non-attention sources. -/
  | evtRouteWrite (req : Requester) (src : Fin 576) (value : Word)
  /-- LOCK_ACQUIRE (R236): A read of LCK[n] acquires the lock or returns BUSY with its owner. -/
  | lockAcquire (req : Requester) (n : Fin 64)
  /-- LOCK_RELEASE (R237): A write with RELEASE frees the lock if it comes from the owner, and otherwise is logged as foreign. -/
  | lockRelease (req : Requester) (n : Fin 64)
  /-- LOCK_FORCE (R237): A write with FORCE from the host or a level-2 monitor frees the lock and marks it broken. -/
  | lockForce (req : Requester) (n : Fin 64)
  /-- CADENCE_BOUNDARY (R245): A cadence ends by its fixed period, its slaved travel or a clamp, and new grant counts begin. -/
  | cadenceBoundary
  /-- ARBITER_GRANT (R253): An arbiter grants the owed or oldest eligible request. -/
  | arbiterGrant (arb : ArbiterId) (requests : List ArbRequest) (busy : ArbHold)
  /-- METER_REPORT (R259): An island LDO reports its metered energy to the ledger. -/
  | meterReport (i : Island) (nanojoule : Nat)
  /-- NRG_CEIL_DRV_WRITE (R264): A write to NRG_CEIL_DRV changes the driver ceiling and starts a planner pass. -/
  | nrgCeilDrvWrite (req : Requester) (value : Word)
  /-- ENC_INPUT_QUALIFIED (R275): An encoder input that stays outside the band for Q takes its new state, time-stamped at its departure from the band. -/
  | encInputQualified (e : Fin 8) (input : EncInput) (high : Bool) (age : Nat)
  /-- ENC_BAND_TIMEOUT (R280): An input in the band for 10 ms is judged, with a probe of an RS422 pair. -/
  | encBandTimeout (e : Fin 8) (input : EncInput) (cmInside : Bool)
  /-- ENC_PROBE_DONE (R281): The 2 µs probe ends and classifies the pair as OPEN or SHORT_LL. -/
  | encProbeDone (e : Fin 8) (input : EncInput) (aboveFifty : Bool)
  /-- ENC_SHORTCM (R280): A common mode outside its window for 1 µs raises ENC_SHORTCM. -/
  | encShortcm (e : Fin 8) (input : EncInput) (outside : Bool)
  /-- ENC_SUPPLYFLT (R283): ENCn_FLT_N asserted for 10 µs clears PEN, sets FLT and raises ENC_SUPPLYFLT. -/
  | encSupplyflt (e : Fin 8)
  /-- ENC_CLRCNT (R300): ENC_CTL.CLRCNT sets the encoder counter to zero. -/
  | encClrcnt (req : Requester) (e : Fin 8)
  /-- LEV_STATE_CHANGE (R284): A LEV input stable for its filter time changes state and captures time and position. -/
  | levStateChange (n : Fin 16) (high : Bool)
  /-- DIRECT_LEV_CHANGE (R330): The LEV input of a DIRECT port drives its trigger and strobe. -/
  | directLevChange (n : Fin 16) (high : Bool)
  /-- SE_STEP (R285): A running synthetic encoder steps its count once per interval. -/
  | seStep (n : Fin 4)
  /-- SPRUE_FILTER_RELEASE (R288): A count held FILT ticks reaches the predictor unless it was cancelled. -/
  | sprueFilterRelease (v : Fin 32)
  /-- VE_STILL_TIMEOUT (R292): No count for VE_STILL ms zeros speed and acceleration and sets STILL. -/
  | veStillTimeout (v : Fin 32)
  /-- VE_RESYNC (R300): VE_CTL.RESYNC sets speed and acceleration to zero. -/
  | veResync (req : Requester) (v : Fin 32)
  /-- ESTIMATE_SEND (R295): MOT sends the estimate of a virtual encoder feeding a live channel to the quads at least every 256 ticks. -/
  | estimateSend (v : Fin 32)
  /-- SLIP_DETECTED (R298): A speed difference above threshold for HOLD ms sets SLIPPING and raises ENC_SLIP. -/
  | slipDetected (k : Fin 8)
  /-- SLIP_CLEARED (R298): SLIPPING clears after the condition has been absent for HOLD ms. -/
  | slipCleared (k : Fin 8)
  /-- FIRE_FREEZE (R308): 64 ticks before the fire time, the fire is frozen and judged as made, postponed or missed. -/
  | fireFreeze (p : Fin 32) (rdy : Bool)
  /-- FIRE_EDGE (R309): The trigger edge of a made fire leaves at tf, placed to one sub-tick. -/
  | fireEdge (p : Fin 32)
  /-- TRIGGER_END (R311): The trigger ends after HP_TRGW ticks or the exposure used. -/
  | triggerEnd (p : Fin 32)
  /-- STROBE_ON (R313): The strobe sink starts conducting HP_STBLEAD before exposure start. -/
  | strobeOn (p : Fin 32)
  /-- STROBE_OFF (R313): The strobe sink stops conducting at the end of the exposure used. -/
  | strobeOff (p : Fin 32)
  /-- STB_LIM_CUT (R314): STB_LIM ends a strobe that has run its limit, sets STBCUT and raises STB_FAULT. -/
  | stbLimCut (p : Fin 32)
  /-- TRG_LIM_CUT (R314): TRG_LIM ends a trigger that has run its limit, sets TRGCUT and raises TRG_CUT. -/
  | trgLimCut (p : Fin 32)
  /-- STROBE_SINK_FAULT (R315): A strobe sink in current limit for 10 µs or in thermal shutdown sets STBFLT and raises STB_FAULT. -/
  | strobeSinkFault (p : Fin 32) (present : Bool)
  /-- GAP_RUN_TIMEOUT (R317): A gap run open for 100 ms is written as a GAP entry. -/
  | gapRunTimeout (p : Fin 32)
  /-- STANDSTILL_FRAME (R318): Every P14 ms at standstill, each bound port fires a standstill frame. -/
  | standstillFrame (p : Fin 32) (rdy : Bool)
  /-- NOACK (R329): HPn_RDY not rising within L + 2 µs of a fire raises NOACK once per run. -/
  | noack (p : Fin 32)
  /-- CMD_PITCH (R319): The PITCH command starts a new grid at the anchor with the new pitch. -/
  | cmdPitch (q : Fin 2048)
  /-- CMD_EXPOSURE (R319): The EXPOSURE command sets a new exposure. -/
  | cmdExposure (q : Fin 2048)
  /-- CMD_REPHASE (R319): The REPHASE command starts a new grid at a new X0 beyond the anchor. -/
  | cmdRephase (q : Fin 2048)
  /-- CMD_WINDOW_SET (R319): The WINDOW_SET command claims and sets a position window with its port mask. -/
  | cmdWindowSet (q : Fin 2048)
  /-- CMD_WINDOW_CLEAR (R319): The WINDOW_CLEAR command frees a window the channel owns. -/
  | cmdWindowClear (q : Fin 2048)
  /-- CMD_BLUR (R319): The BLUR command sets a new blur limit. -/
  | cmdBlur (q : Fin 2048)
  /-- CMD_TRIGGER_RESERVED (R319): A trigger opcode 0x00016-0x0001F is always refused with QUE_BADCMD. -/
  | cmdTriggerReserved (q : Fin 2048)
  /-- QUAD_FAULT (R321): An engine mismatch, SRAM error or parity HOLD puts the quad's ports high-impedance and raises TQx_FAULT. -/
  | quadFault (quad : Fin 4) (cause : QuadCause)
  /-- QUAD_RESTART (R322): PLN_QF_CTL bit q restarts a DOWN quad as one self-reset. -/
  | quadRestart (req : Requester) (bits : BitVec 4)
  /-- HEAD_PRESENCE_TAKEN (R324): HPn_PRS_N low for 20 ms takes presence and the port enters PRESENT. -/
  | headPresenceTaken (p : Fin 32)
  /-- HEAD_ABSENCE_TAKEN (R325): HPn_PRS_N high for 1 ms drops HPn_PEN, clears PWR and enters EMPTY. -/
  | headAbsenceTaken (p : Fin 32)
  /-- HEAD_PWR_SET (R324): Setting HP_CTL.PWR with the master enable set starts POWERING the head. -/
  | headPwrSet (req : Requester) (p : Fin 32)
  /-- HEAD_PWR_CLEAR (R324): Clearing HP_CTL.PWR returns the port to PRESENT. -/
  | headPwrClear (req : Requester) (p : Fin 32)
  /-- HEAD_PEN_RISE (R326): HPn_PEN rises once 5 ms have passed since the previous rise in the quad. -/
  | headPenRise (p : Fin 32)
  /-- HEAD_POWER_GOOD (R324): HPn_PGD high for 1 ms moves POWERING to POWERED and raises POWER_ON. -/
  | headPowerGood (p : Fin 32)
  /-- HEAD_PGD_TIMEOUT (R324): TQ_PGDT ms without power-good moves the port to FAULT. -/
  | headPgdTimeout (p : Fin 32)
  /-- HEAD_POWER_FAULT (R324): HPn_PGD low for 10 µs in POWERED moves the port to FAULT and raises POWER_FAULT. -/
  | headPowerFault (p : Fin 32)
  /-- MASTER_ENABLE_SET (R326): Pair q with value 1 sets the quad's head power master enable. -/
  | masterEnableSet (req : Requester) (quad : Fin 4) (c : Word)
  /-- MASTER_ENABLE_CLEAR (R326): Pair q with value 0 clears the master enable and takes the powered ports to PRESENT. -/
  | masterEnableClear (req : Requester) (quad : Fin 4) (c : Word)
  /-- ATTENTION_PRESS (R327): HPn_ATN_N low for 20 ms raises ATTENTION and starts or cancels the AUTO sequence. -/
  | attentionPress (p : Fin 32)
  /-- ATTENTION_SEQUENCE_END (R327): The 5 s attention sequence ends, raises ATN_DONE and toggles PWR if the port is unbound. -/
  | attentionSequenceEnd (p : Fin 32)
  /-- RING_TRAIN_START (R338): After waiting 2 ms × node ID the node sends training blocks on both lanes. -/
  | ringTrainStart
  /-- TRAINING_BLOCK_RX (R339): A received training block steers the taps and may bring the link up. -/
  | trainingBlockRx (side : Side) (block : BitVec 64) (adapted : Bool)
  /-- RING_TRAIN_TIMEOUT (R339): A lane not up within 10 ms shows FAILED and retries. -/
  | ringTrainTimeout (side : Side)
  /-- RING_FRAME_RX (R343): A received frame is checked and forwarded, removed or discarded by the ring rows. -/
  | ringFrameRx (side : Side) (header : BitVec 64) (data : List (BitVec 64)) (age : Nat)
  /-- BEACON_RX (R347): A beacon sets group time and the deviation, which is slewed, stepped or makes the node HELD. -/
  | beaconRx
  /-- SAMPLE_RX (R349): A SAMPLE frame feeds its group encoder. -/
  | sampleRx
  /-- STATUS_RX (R351): A STATUS frame updates the membership and the election. -/
  | statusRx
  /-- DELAY_REQ_RX (R345): A DELAY_REQ is answered with a DELAY_RESP carrying t2 and t3. -/
  | delayReqRx
  /-- DELAY_RESP_RX (R345): A DELAY_RESP completes a hop-delay measurement. -/
  | delayRespRx
  /-- WRAP_RX (R362): A WRAP naming the node makes it the west wrap end. -/
  | wrapRx
  /-- UNWRAP_RX (R364): UNWRAP returns the wrap ends to the healthy ring. -/
  | unwrapRx
  /-- LEAVE_RX (R355): A LEAVE frame removes the node from MEMBERS without declaring it missing. -/
  | leaveRx
  /-- GROUPRESET_RX (R368): A GROUPRESET schedules the ring reset of every member at the stated group time. -/
  | groupresetRx
  /-- FETCHREQ_RX (R359): The keeper answers a FETCHREQ with ARMATURE frames from the offset wanted. -/
  | fetchreqRx
  /-- ARMATURE_FRAME_RX (R359): An ARMATURE frame stages image words for the fetching node. -/
  | armatureFrameRx
  /-- GAP_FRAME_RX (R356): A GAP frame makes a member write a NODE group gap entry. -/
  | gapFrameRx
  /-- ECHO_RX (R369): An ECHO_REQ is returned, and an ECHO_RESP captures the round-trip time. -/
  | echoRx
  /-- STATUS_SEND (R355): A node with JOIN set sends STATUS every 100 µs. -/
  | statusSend
  /-- BEACON_SEND (R342): The keeper sends a BEACON every 1 µs. -/
  | beaconSend
  /-- SAMPLE_SEND (R349): A publisher sends a SAMPLE of each published group encoder every 512 ticks. -/
  | sampleSend (k : Fin 16)
  /-- HEARTBEAT_SEND (R336): The westward direction sends a wake burst and heartbeat every 100 µs. -/
  | heartbeatSend
  /-- DELAY_MEASURE (R345): The west end of each link sends DELAY_REQ at link-up and every 1 ms. -/
  | delayMeasure
  /-- GE_STALE (R350): A group encoder without samples for 4,096 ticks raises RNG_GESTALE. -/
  | geStale (k : Fin 16)
  /-- ELECTION_STABLE (R351): The best candidate unchanged for 32 ms becomes keeper. -/
  | electionStable
  /-- MEMBER_MISSING (R355): No STATUS from a member for 500 µs makes the keeper declare it missing and raise RNG_NODELOST. -/
  | memberMissing (node : Fin 16)
  /-- GAP_FRAME_SEND (R356): The keeper sends a GAP frame for a missing node every 100 ms. -/
  | gapFrameSend (node : Fin 16)
  /-- KEEPER_LOST (R365): No beacon for 100 µs raises RNG_KEEPERLOST and starts re-election. -/
  | keeperLost
  /-- RECEIVE_DIRECTION_LOST (R362): A lost receive direction makes the node a wrap end and raises RNG_WRAP. -/
  | receiveDirectionLost (side : Side)
  /-- DIRECTION_RESTORED (R364): A lost direction up again for 10 ms is measured and the ring unwraps. -/
  | directionRestored (side : Side)
  /-- MODULE_CHANGE (R370): A change of MOD_ABS raises the MODULE event. -/
  | moduleChange (side : Side) (absent : Bool)
  /-- FETCH_START (R359): A HELD node with cause DIGEST sends FETCHREQ once the staging area is IDLE and fetching is permitted. -/
  | fetchStart
  /-- FETCH_STALL (R361): A fetch with no progress for 1 s ends with RNG_FETCHFAIL. -/
  | fetchStall
  /-- FETCH_RETRY (R361): A failed fetch is retried every 10 s. -/
  | fetchRetry
  /-- GROUP_LEAVE (R367): Pair 7 sends LEAVE, sets LEFT and enters ALONE. -/
  | groupLeave (req : Requester) (c : Word)
  /-- REJOIN (R367): RNG_CTL.REJOIN clears LEFT and the node trains and joins again. -/
  | rejoin (req : Requester)
  /-- JOIN_WRITE (R366): Clearing RNG_JOIN.JOIN on a member acts as a leave. -/
  | joinWrite (req : Requester) (value : Word)
  /-- GRPRESET (R368): RNG_CTL.GRPRESET sends GROUPRESET to the keeper, which broadcasts it 1 ms ahead. -/
  | grpreset (req : Requester)
  /-- GROUP_RESET_TIME (R368): At the group-reset time each member quiesces group-fed channels and resets RNG. -/
  | groupResetTime
  /-- DIAG (R369): RNG_CTL.DIAG sends an ECHO_REQ around the ring. -/
  | diag (req : Requester)
  /-- FB_INIT_SET (R378): Setting FB_CTL.INIT puts the controller in initialisation and discards fetched frames. -/
  | fbInitSet (req : Requester) (c : Fin 4)
  /-- FB_INIT_CLEAR (R378): Clearing INIT zeroes TEC and REC and starts integration. -/
  | fbInitClear (req : Requester) (c : Fin 4)
  /-- FB_INTEGRATION_DONE (R379): After 11 recessive bits the controller joins the bus and its quiet period starts. -/
  | fbIntegrationDone (c : Fin 4)
  /-- FB_QUIET_END (R379): The quiet period ends, READY is raised and PHASE reads ACTIVE. -/
  | fbQuietEnd (c : Fin 4)
  /-- CAN_FRAME_RX (R382): A correctly received frame is decided by the filters and staged or rejected. -/
  | canFrameRx (c : Fin 4) (f : CanFrame) (sof : Nat)
  /-- CAN_RX_ENTRY_WRITE (R383): A staged frame is written to its CANRX queue as consecutive entries, all or none. -/
  | canRxEntryWrite
  /-- TXREQ_SET (R387): Setting a bit of FB_TXREQ requests a transmit buffer. -/
  | txreqSet (req : Requester) (c : Fin 4) (k : Fin 4) (bits : BitVec 16)
  /-- TXREQ_CANCEL (R387): Clearing a bit of FB_TXREQ cancels its request. -/
  | txreqCancel (req : Requester) (c : Fin 4) (k : Fin 4) (bits : BitVec 16)
  /-- CANTX_FETCH (R388): The controller fetches the head frame of a CANTX queue, discarding an illegal one. -/
  | cantxFetch (c : Fin 4) (k : Fin 2)
  /-- CAN_FRAME_TX_DONE (R390): A frame is sent, sets its TXDONE bit, raises TXDONE and may write a TXDONE entry. -/
  | canFrameTxDone (c : Fin 4) (sof : Nat) (amplitude : BitVec 12) (delay : BitVec 7)
  /-- CAN_TX_FAIL (R390): A ONESHOT frame that loses arbitration or meets an error fails and raises TXFAIL. -/
  | canTxFail (c : Fin 4)
  /-- CAN_BUS_ERROR (R391): A protocol error updates TEC or REC, warning levels and error state. -/
  | canBusError (c : Fin 4) (err : CanError) (asTransmitter : Bool)
  /-- CAN_BUSOFF_RECOVERED (R392): After 128 occurrences of 11 recessive bits the controller recovers and raises BUSON. -/
  | canBusoffRecovered (c : Fin 4)
  /-- FB_RECOVER (R392): FB_CTL.RECOVER starts recovery of a bus-off controller. -/
  | fbRecover (req : Requester) (c : Fin 4)
  /-- LIMITED_WINDOW_END (R392): WINDOW ms after it began, the LIMITED recovery count resets. -/
  | limitedWindowEnd (c : Fin 4)
  /-- CAN_PROTOCOL_EXCEPTION (R373): A recessive res bit in MODE FD makes the controller integrate again. -/
  | canProtocolException (c : Fin 4)
  /-- CAN_SWAP_DETECT (R393): Sixteen inverted dominant levels set SWAP and raise SWAP. -/
  | canSwapDetect (c : Fin 4)
  /-- POLARITY_INVERT (R393): At the next bus idle the transceiver inverts its polarity and sets POLINV. -/
  | polarityInvert (c : Fin 4)
  /-- CAN_LINE_SHORT (R394): FBn_H or FBn_L held shorted for 1 ms sets its FB_LINE bit and raises LINE. -/
  | canLineShort (c : Fin 4) (line : CanLine)
  /-- TXD_DOMINANT_TIMEOUT (R396): A transmit input dominant for 4 ms releases the transmitter, sets TXDTO and raises LINE. -/
  | txdDominantTimeout (c : Fin 4)
  /-- SAT_GRANT (R407): The device grants the satellite bus to a requesting master. -/
  | satGrant (requests : List SatRequest)
  /-- SAT_GRANT_TIMEOUT (R407): A master that starts no burst within 16 cycles of its grant loses it. -/
  | satGrantTimeout (m : Fin 2)
  /-- BRIDGE_BURST (R415): The bridge issues a burst of a host request on the satellite bus. -/
  | bridgeBurst (answer : TargetAnswer)
  /-- SAT_WR_OBSERVED (R414): A WR burst into a window's satellite range discards that window's prefetched words. -/
  | satWrObserved (addr : BitVec 22) (len : Nat)
  /-- SAT_HRD (R418): An HRD is answered with RETRY and queued, or with its held data when collected. -/
  | satHrd (m : Fin 2) (b : SatBurst)
  /-- SAT_HWR (R421): An HWR writes to a register or becomes a host memory write. -/
  | satHwr (m : Fin 2) (b : SatBurst)
  /-- SAT_HATM (R422): An HATM under SAT_LOCK_N becomes a 32-bit AtomicOp to host memory, split under R418. -/
  | satHatm (m : Fin 2) (b : SatBurst)
  /-- SAT_CMD_RESERVED (R403): A reserved SAT_CMD code is answered with SAT_ERR_N. -/
  | satCmdReserved (m : Fin 2) (b : SatBurst)
  /-- SAT_TARGET_TIMEOUT (R405): No answer within SAT_TTO cycles ends the burst with SAT_ERR_N and raises TTO. -/
  | satTargetTimeout (m : Fin 2) (addr : BitVec 22)
  /-- SAT_LOCK_TAKE (R408): A master takes the satellite lock with SAT_LOCK_N low at an address edge. -/
  | satLockTake (m : Fin 2)
  /-- SAT_LOCK_RELEASE (R408): The holder releases SAT_LOCK_N outside its bursts. -/
  | satLockRelease (m : Fin 2)
  /-- SAT_LOCKMAX_EXPIRY (R409): A lock held for SAT_LOCKMAX µs is broken and raises LOCKLONG. -/
  | satLockmaxExpiry
  /-- SAT_LKSTS_READ (R410): A read of SAT_LKSTS by the lock holder returns BROKEN and clears it. -/
  | satLkstsRead (req : Requester)
  /-- BRIDGE_HOST_WRITE (R413): A host write to a window is bridged under its POSTED or CONFIRMED attribute. -/
  | bridgeHostWrite (a : Bar2Access)
  /-- BRIDGE_HOST_READ (R413): A host read of a window is bridged, after earlier satellite-to-host writes are issued. -/
  | bridgeHostRead (a : Bar2Access)
  /-- BRIDGE_READ_START_TIMEOUT (R413): A host read whose first burst has not started within 10 ms completes with CA. -/
  | bridgeReadStartTimeout
  /-- PREFETCH_EXPIRY (R414): Prefetched words are discarded 20 µs after they were read. -/
  | prefetchExpiry (w : Fin 16)
  /-- SPLIT_ANSWER_TIMEOUT (R418): A split answer not collected within 1 ms is discarded and counted. -/
  | splitAnswerTimeout (m : Fin 2)
  /-- SAT_INT_ASSERT (R423): A SAT_INT_N low for 100 ns raises the wire's event. -/
  | satIntAssert (i : Fin 4)
  /-- SAT_MRST_ASSERT (R425): SAT_MRST_N removes the master's grant, truncates its burst and breaks its locks. -/
  | satMrstAssert (m : Fin 2)
  /-- SAT_MRST_DEASSERT (R425): SAT_MRST_N deasserted lets the master's requests be heard again. -/
  | satMrstDeassert (m : Fin 2)
  /-- SAT_REQ_WAKE (R426): A SAT_REQ_N assertion wakes SAT from DOZE or OFF. -/
  | satReqWake (m : Fin 2)
  /-- MON_BANNER (R429): 1 ms after POR the monitor sends its banner and waits for a session. -/
  | monBanner
  /-- MON_SESSION_START (R430): A carriage return with no session open sets the baud rate, starts a session and raises MON_ACCESS. -/
  | monSessionStart (startBitNs : Nat)
  /-- MON_BREAK (R431): MON_RXD low for 25 ms ends the session, aborts a load and breaks the monitor's locks. -/
  | monBreak
  /-- MON_BREAK_END (R431): MON_RXD high again after a break sends the banner. -/
  | monBreakEnd
  /-- MON_CHAR_RX (R435): A received character is echoed and edited into the command line, or refused as too long. -/
  | monCharRx (ch : BitVec 8)
  /-- MON_CMD_HELP (R440): The ? command lists the command letters. -/
  | monCmdHelp
  /-- MON_CMD_V (R440): The v command reports revision, grade, silicon ID, digest, epoch and node. -/
  | monCmdV
  /-- MON_CMD_R (R440): The r command reads 1-16 consecutive slots as requester 1. -/
  | monCmdR
  /-- MON_CMD_W (R439): The w command writes a word to a BAR0 offset as requester 1. -/
  | monCmdW
  /-- MON_CMD_P (R441): The p command writes a pair's value and complement and reads back the value. -/
  | monCmdP
  /-- MON_CMD_S (R440): The s command reports boot, readiness, clock and island states. -/
  | monCmdS
  /-- MON_CMD_E (R440): The e command reports the energy ledger summary. -/
  | monCmdE
  /-- MON_CMD_T (R440): The t command reports the cadence, or one activity's tamp figures. -/
  | monCmdT
  /-- MON_CMD_G (R440): The g command reports the group state. -/
  | monCmdG
  /-- MON_CMD_Q (R440): The q command reports a queue's state, counts and drops. -/
  | monCmdQ
  /-- MON_CMD_C (R440): The c command reports a channel slot's state, generation and losses. -/
  | monCmdC
  /-- MON_CMD_X (R440): The x command reports a lane's eye result or starts a scan. -/
  | monCmdX
  /-- MON_CMD_A (R440): The a command reports the staging and committed armature state. -/
  | monCmdA
  /-- MON_LOAD_END (R445): The a e command ends a monitor load, waits for verification and replies. -/
  | monLoadEnd
  /-- MON_LOAD_ABORT (R440): The a x command aborts a monitor load. -/
  | monLoadAbort
  /-- MON_CMD_L (R443): The l command starts a monitor load and enters load mode. -/
  | monCmdL
  /-- MON_HEX_LINE (R444): A hex line in load mode writes its words, or is refused with ! LINE or ! ARM. -/
  | monHexLine
  /-- MON_CMD_B (R440): The b command changes the monitor baud rate from the next character. -/
  | monCmdB
  /-- MON_CMD_Z (R442): The z command replies and then resets the device. -/
  | monCmdZ
  /-- MON_Z_RESET (R442): Once the z reply is sent the device resets as RESET_N. -/
  | monZReset
  /-- MON_EVENT_LINE (R438): A held event line is sent once no command runs and the input line is empty. -/
  | monEventLine
  /-- MON_LEVEL_WRITE (R432): A write to MON_CTL.LEVEL lowers the level, or is refused when raising or locked. -/
  | monLevelWrite (req : Requester) (value : Word)
  /-- REFCLK_START (R130): REFCLK edges appear or return, so that HST is enabled after PERST_N deassertion and the device leaves L1.1 within 30 µs. -/
  | refclkStart
  /-- ELECTRICAL_IDLE_EXIT (R164): A lane's electrical-idle exit detector or the CLKREQ_N input signals the Plinth, waking HST from DOZE for a partner-initiated exit from L1. -/
  | electricalIdleExit
  /-- LINK_RETURN_TO_L0 (R166): A Recovery ends with the configured lanes locked and the link back in L0, starting the 100 ms survival count and releasing the TLPs that waited. -/
  | linkReturnToL0
  /-- D3HOT_TO_D0 (R185): A power-state change from D3hot to D0 keeps every register and channel and lets request TLPs and pending messages go again. -/
  | d3hotToD0
  /-- SRAM_WINDOW_READ (R189): A host read through the direct SRAM window corrects and writes back a single-bit error, or returns an uncorrectable word with EP set and logs it in MEM_UE_ADDR. -/
  | sramWindowRead (req : Requester) (word : BitVec 18)
  /-- REGISTER_READ (R67): A non-posted register read reaching a closed gate wakes the island, or is refused with UR or CA and logged in the access-error log. -/
  | registerRead (a : RegAccess)
  /-- VIO_5_LOSS (R136): VIO_5 falls below its operating range, the VIO_5-fed switches disconnect the field-pin input loads, and the trigger drivers lose drive. -/
  | vio5Loss
  /-- VIO_5_RETURN (R136): VIO_5 returns within range, reconnecting the field-pin pull-downs, input resistance and fail-safe bias. -/
  | vio5Return
  /-- ENC_SUPPLY_FAULT_END (R283): ENCn_FLT_N is deasserted, which clears ENC_STS.FLT and lets PEN be set again. -/
  | encSupplyFaultEnd (e : Fin 8)
  /-- CAN_LINE_SHORT_END (R394): The short to ground or supply on FBn_H or FBn_L ends, and its FB_LINE bit clears. -/
  | canLineShortEnd (c : Fin 4) (line : CanLine)
  /-- TXDTO_REARM (R396): The next recessive level on the transmit input re-arms the dominant time-out and clears FB_LINE.TXDTO. -/
  | txdtoRearm (c : Fin 4)
deriving DecidableEq, Repr

end Sys2Proof
end

