-- ==== Sys2Proof/Decode.lean ====
section
/-!
DEFINITION. The command that a word spells. The opcode table gives its rows no bits, so no word spells a command.
-/

namespace Sys2Proof

/-- No row of spec/opcode_table.json has bits: no word is a command. -/
def decodeTableWord (_nbits _w : Nat) : Option Instr := none

end Sys2Proof
end

