-- ==== Sys2Proof/Config.lean ====
section
/-!
DEFINITION. What the manual leaves open: the free values. Each is a constant without a body, applied to the model's
counter of free values (`State.freeIdx`), so that nothing can be proved about the value it takes.
-/

namespace Sys2Proof.Config

/-- A free 18-bit word: the data bits of a word that the manual says is not defined (log entry 30). -/
opaque freeWord : Nat → Word

/-- A free bit. -/
opaque freeBit : Nat → Bool

/-- A free number. -/
opaque freeNat : Nat → Nat

/-- The phase of an indicator's blink, in ticks, by port: the manual gives its rate only (R328, log entry 136). -/
opaque blinkPhase : Nat → Nat

end Sys2Proof.Config
end

