-- ==== Sys2Proof/Machine/Operands.lean ====
section
/-!
DEFINITION. The operand forms of the device: fields of a word, wide values as words (R8), signed values (R10),
positions and device times (R11, R12), islands and requesters by their codes (R20, R50), the mailboxes' places.
-/

namespace Sys2Proof

/-- Bits `lo + w - 1 : lo` of a word as a number. -/
def fieldOf (v : Word) (lo w : Nat) : Nat := v.toNat / 2 ^ lo % 2 ^ w

/-- The word with bits `lo + w - 1 : lo` replaced by `n`. -/
def withField (v : Word) (lo w n : Nat) : Word :=
  let m : Word := BitVec.ofNat 18 ((2 ^ w - 1) * 2 ^ lo)
  (v &&& ~~~m) ||| (BitVec.ofNat 18 (n % 2 ^ w * 2 ^ lo))

/-- A number as one word. -/
abbrev word (n : Nat) : Word := BitVec.ofNat 18 n

/-- A flag as a number. -/
def flag (b : Bool) : Nat := if b then 1 else 0

/-- A 36-bit value as two words, most significant first (R8). -/
def words36 (v : Word36) : List Word := [word (v.toNat / 2 ^ 18), word v.toNat]

/-- A 54-bit value as three words, most significant first (R8). -/
def words54 (v : Word54) : List Word := [word (v.toNat / 2 ^ 36), word (v.toNat / 2 ^ 18), word v.toNat]

/-- Words joined, most significant first (R8). -/
def joinWords (ws : List Word) : Nat := ws.foldl (fun n w => n * 2 ^ 18 + w.toNat) 0

/-- Three words as a 54-bit value. -/
def join54 (a b c : Word) : Word54 := BitVec.ofNat 54 (joinWords [a, b, c])

/-- Two words as a 36-bit value. -/
def join36 (a b : Word) : Word36 := BitVec.ofNat 36 (joinWords [a, b])

/-- A signed number as a 54-bit two's complement value (R10). -/
def toWord54 (n : Int) : Word54 := BitVec.ofInt 54 n

/-- A signed number as a 36-bit two's complement value (R10). -/
def toWord36 (n : Int) : Word36 := BitVec.ofInt 36 n

/-- The word at index `k` of a list, zero beyond its end. -/
def wordAt (ws : List Word) (k : Nat) : Word := ws.getD k 0

/-- The list with word `k` replaced, filled with zero words up to it (R445). -/
def setWordAt : List Word → Nat → Word → List Word
  | [], 0, v => [v]
  | [], k + 1, v => 0 :: setWordAt [] k v
  | _ :: t, 0, v => v :: t
  | w :: t, k + 1, v => w :: setWordAt t k v

/-- The least integer not below a fraction, and the greatest not above it. -/
def ceilDiv (n d : Nat) : Nat := (n + d - 1) / d

/-- Requester codes (R20). -/
def Requester.code : Requester → Nat
  | .host => 0 | .monitor => 1 | .sat0 => 2 | .sat1 => 3

/-- The satellite master of a number. -/
def satReq (m : Nat) : Requester := if m = 0 then .sat0 else .sat1

/-- The index of an island (R50). -/
def Island.idx : Island → Nat
  | .pln => 0 | .hst => 1 | .que => 2 | .mem => 3 | .mot => 4 | .tqa => 5 | .tqb => 6 | .tqc => 7 | .tqd => 8
  | .fld => 9 | .sat => 10 | .rng => 11

/-- The islands in index order (R50). -/
def Island.all : List Island := [.pln, .hst, .que, .mem, .mot, .tqa, .tqb, .tqc, .tqd, .fld, .sat, .rng]

/-- The island of an index (R50). -/
def Island.ofIdx (n : Nat) : Option Island := Island.all[n]?

/-- Variable-pace islands (R14, R80). -/
def Island.variable : Island → Bool
  | .hst | .que | .mem | .sat => true
  | _ => false

/-- The trigger quads as islands, and the quad of an island. -/
def Island.ofQuad (q : Nat) : Island :=
  match q with
  | 0 => .tqa | 1 => .tqb | 2 => .tqc | _ => .tqd

def Island.quad? : Island → Option Nat
  | .tqa => some 0 | .tqb => some 1 | .tqc => some 2 | .tqd => some 3
  | _ => none

/-- The islands that an island leans on, leaving out a dependency marked "only" (R14, R15). -/
def Island.leansOn : Island → List Island
  | .pln => []
  | .hst => [.pln]
  | .que => [.pln, .hst, .mem]
  | .mem => [.pln]
  | .mot => [.pln, .mem]
  | .tqa | .tqb | .tqc | .tqd => [.pln, .mot, .mem, .que]
  | .fld => [.pln, .mem, .que]
  | .sat => [.pln, .hst, .mem]
  | .rng => [.pln, .mot, .mem]

/-- The island that owns a block of BAR0 (R23); blocks 0x80 to 0x8F belong to MEM (R26), the doorbells to QUE (R25). -/
def Island.ofBlock (blk : Nat) : Option Island :=
  match blk with
  | 0 | 1 | 2 | 3 | 4 | 8 | 19 => some .pln
  | 5 => some .hst
  | 6 | 7 | 9 => some .que
  | 10 => some .mot
  | 11 => some .tqa | 12 => some .tqb | 13 => some .tqc | 14 => some .tqd
  | 15 => some .fld | 16 => some .sat | 17 => some .rng | 18 => some .mem
  | 0x20 => some .que
  | _ => if 0x80 ≤ blk ∧ blk ≤ 0x8F then some .mem else none

/-- The blocks whose registers an island owns. -/
def Island.blocks : Island → List Nat
  | .pln => [0, 1, 2, 3, 4, 8, 19]
  | .hst => [5]
  | .que => [6, 7, 9]
  | .mem => [18]
  | .mot => [10]
  | .tqa => [11] | .tqb => [12] | .tqc => [13] | .tqd => [14]
  | .fld => [15] | .sat => [16] | .rng => [17]

/-- The BAR0 offset of a mailbox's _SEL; _STS, _W0, _W1 and _W2 follow at 4, 8, 12 and 16 (R40). -/
def MailboxId.sel : MailboxId → Nat
  | .plnId => 0x000010 | .clkFmc => 0x010014 | .armInfo => 0x040040 | .armFuse => 0x040070
  | .hstEye => 0x050034 | .hstPrbs => 0x050058 | .chnRes => 0x090050 | .queMb => 0x060010
  | .tmpMb => 0x030010 | .nrgMb => 0x020030 | .motMb => 0x0A0600
  | .tqMb q => 0x0B0180 + 0x10000 * q.val | .rngMb => 0x110050 | .satMb => 0x100040

/-- The mailboxes by number, for the table that holds them. -/
def MailboxId.idx : MailboxId → Nat
  | .plnId => 0 | .clkFmc => 1 | .armInfo => 2 | .armFuse => 3 | .hstEye => 4 | .hstPrbs => 5 | .chnRes => 6
  | .queMb => 7 | .tmpMb => 8 | .nrgMb => 9 | .motMb => 10 | .tqMb q => 11 + q.val | .rngMb => 15 | .satMb => 16

/-- Every mailbox. -/
def MailboxId.all : List MailboxId :=
  [.plnId, .clkFmc, .armInfo, .armFuse, .hstEye, .hstPrbs, .chnRes, .queMb, .tmpMb, .nrgMb, .motMb,
   .tqMb 0, .tqMb 1, .tqMb 2, .tqMb 3, .rngMb, .satMb]

/-- The mailbox that a BAR0 offset lies in, with the slot: 0 _SEL, 1 _STS, 2 to 4 the words. -/
def MailboxId.at? (k : Nat) : Option (MailboxId × Nat) :=
  (MailboxId.all.find? fun m => decide (m.sel ≤ k ∧ k < m.sel + 20)).map fun m => (m, (k - m.sel) / 4)

/-- The island that owns a mailbox. -/
def MailboxId.island (m : MailboxId) : Island := (Island.ofBlock (m.sel / 65536)).getD .pln

/-- The lock bit's register, its bit, and the bits it guards (R44). -/
def LockBit.reg : LockBit → Nat
  | .armSrc => 0x040000 | .ceilLock => 0x020010 | .ringJoin => 0x110010 | .monCtl => 0x130000

def LockBit.bit : LockBit → Nat
  | .armSrc => 4 | .ceilLock => 0 | .ringJoin => 1 | .monCtl => 2

/-- The _V slots of the pairs by identifier (R49); the _C slot follows at 4. -/
def pairV (pair : Nat) : Nat :=
  match pair with
  | 4 => 0x040030 | 5 => 0x000120 | 6 => 0x040060 | 7 => 0x110020 | 8 => 0x000230
  | q => 0x0B0010 + 0x10000 * q

/-- The pair and slot (false _V, true _C) at a BAR0 offset. -/
def pairAt? (k : Nat) : Option (Nat × Bool) :=
  ((List.range 9).find? fun p => decide (k = pairV p ∨ k = pairV p + 4)).map fun p => (p, decide (k = pairV p + 4))

/-- A handshake channel by number, for the table that holds them. -/
def ChannelId.idx : ChannelId → Nat
  | .plnTo i => i.idx | .toPln i => 12 + i.idx | .motTq q => 24 + q.val | .tqQue q => 28 + q.val | .tqMem q => 32 + q.val
  | .queHst => 36 | .hstQue => 37 | .motRng => 38 | .rngMot => 39 | .fldQue => 40 | .queFld => 41
  | .satHst c => 42 + c.val | .hstSat c => 45 + c.val | .toMem i => 48 + i.idx | .memTo i => 60 + i.idx

/-- The depth of a handshake channel in entries (R53). -/
def ChannelId.depth : ChannelId → Nat
  | .plnTo _ => 4 | .toPln _ => 8 | .motTq _ => 4 | .tqQue _ => 16 | .tqMem _ => 8 | .queHst => 32 | .hstQue => 32
  | .motRng | .rngMot => 8 | .fldQue | .queFld => 16 | .satHst _ | .hstSat _ => 16 | .toMem _ | .memTo _ => 8

/-- The islands at the ends of a handshake channel (R53). -/
def ChannelId.sender : ChannelId → Island
  | .plnTo _ => .pln | .toPln i => i | .motTq _ => .mot | .tqQue q => Island.ofQuad q.val | .tqMem q => Island.ofQuad q.val
  | .queHst => .que | .hstQue => .hst | .motRng => .mot | .rngMot => .rng | .fldQue => .fld | .queFld => .que
  | .satHst _ => .sat | .hstSat _ => .hst | .toMem i => i | .memTo _ => .mem

def ChannelId.receiver : ChannelId → Island
  | .plnTo i => i | .toPln _ => .pln | .motTq q => Island.ofQuad q.val | .tqQue _ => .que | .tqMem _ => .mem
  | .queHst => .hst | .hstQue => .que | .motRng => .rng | .rngMot => .mot | .fldQue => .que | .queFld => .fld
  | .satHst _ => .hst | .hstSat _ => .sat | .toMem _ => .mem | .memTo i => i

/-- Every handshake channel of R53. -/
def ChannelId.all : List ChannelId :=
  (Island.all.flatMap fun i => [.plnTo i, .toPln i, .toMem i, .memTo i]) ++
  ([0, 1, 2, 3].flatMap fun q => [.motTq q, .tqQue q, .tqMem q]) ++ ([0, 1, 2].flatMap fun c => [.satHst c, .hstSat c]) ++
  [.queHst, .hstQue, .motRng, .rngMot, .fldQue, .queFld]

/-- The place of a BAR0 offset in an array of `n` slots that begins at `base`. -/
def within? (k base n : Nat) : Option Nat := if base ≤ k ∧ k < base + 4 * n then some ((k - base) / 4) else none

/-- The classes of the sixteen activities (R249). -/
inductive ActClass where
  | lineCritical | control | bulk | background
deriving DecidableEq, Repr

def actClass (a : Nat) : ActClass :=
  match a with
  | 0 | 1 => .lineCritical
  | 2 | 3 | 6 | 7 => .control
  | 4 | 5 | 8 | 9 | 13 => .bulk
  | _ => .background

/-- Whether an activity may request on arbiter b = 0 MEM banks, 1 host transmit, 2 satellite bus, 3 ring transmit,
4 Plinth register bus (R249). -/
def actMarked (b a : Nat) : Bool :=
  match b with
  | 0 => [0, 1, 2, 3, 4, 5, 8, 9, 14, 15].contains a
  | 1 => [0, 1, 2, 3, 4, 6, 13, 15].contains a
  | 2 => [4, 5, 15].contains a
  | 3 => [7, 8, 15].contains a
  | 4 => [6, 10, 11, 12, 14, 15].contains a
  | _ => false

/-- The row number of an arbiter in the TAMP section (R103), and its number in the table of arbiters. -/
def ArbiterId.row : ArbiterId → Nat
  | .mem _ => 0 | .hostTx => 1 | .satBus => 2 | .ringTx => 3 | .plnBus => 4

def ArbiterId.idx : ArbiterId → Nat
  | .mem b => b.val | .hostTx => 8 | .satBus => 9 | .ringTx => 10 | .plnBus => 11

/-- The number of a deferrable work in NRG_DEFER, its shed step and its estimate in mW (R266). -/
def workInfo (n : Nat) : Nat × Nat :=
  match n with
  | 0 => (1, 40) | 1 => (1, 60) | 2 => (2, 80) | 3 => (2, 90) | _ => (3, 30)

end Sys2Proof
end

