-- ==== Sys2Proof/Machine/Tab.lean ====
section
/-!
DEFINITION. A sparse table in one canonical form: keys strictly rising, no entry equal to the value an
unlisted key reads as. The register file, the SRAM and every per-item table of the state use it.
-/

namespace Sys2Proof

/-- A sparse table by key. -/
abbrev Tab (α : Type) := List (Nat × α)

/-- The value at key `k`; `d` is what an unlisted `k` reads as. -/
def Tab.get {α : Type} (d : α) : Tab α → Nat → α
  | [], _ => d
  | (k', v) :: t, k => if k = k' then v else Tab.get d t k

/-- The table without key `k`. -/
def Tab.erase {α : Type} : Tab α → Nat → Tab α
  | [], _ => []
  | (k', v) :: t, k => if k = k' then Tab.erase t k else (k', v) :: Tab.erase t k

/-- The table with `v` entered at key `k`, in key order. -/
def Tab.insert {α : Type} : Tab α → Nat → α → Tab α
  | [], k, v => [(k, v)]
  | (k', v') :: t, k, v =>
    if k < k' then (k, v) :: (k', v') :: t
    else if k = k' then (k, v) :: t
    else (k', v') :: Tab.insert t k v

/-- A write: entering the value an unlisted key reads as removes the entry. -/
def Tab.set {α : Type} [DecidableEq α] (d : α) (t : Tab α) (k : Nat) (v : α) : Tab α :=
  if v = d then Tab.erase t k else Tab.insert t k v

/-- Keys strictly rising from `lo` on. -/
def Tab.sortedFrom {α : Type} : Nat → Tab α → Bool
  | _, [] => true
  | lo, (k, _) :: t => decide (lo ≤ k) && Tab.sortedFrom (k + 1) t

/-- The canonical form, for a table whose unlisted key `k` reads as `d k`. -/
def Tab.wf {α : Type} [DecidableEq α] (d : Nat → α) (t : Tab α) : Bool :=
  Tab.sortedFrom 0 t && t.all fun e => decide (e.2 ≠ d e.1)

end Sys2Proof
end

