-- ==== Sys2Proof/Machine/State.lean ====
section
/-!
DEFINITION. The state of the device as plain data, the reasons a step can stop, and the state after reset.
A field's default value is its value in `State.reset`. Times named `…At` are in ticks of `State.now`
(2.5 ns each); times named `…St` are in sub-ticks (1/64 tick).
-/

namespace Sys2Proof.Machine

/-- Why the machine stops with a fault. No meaning raises one: every error of the spec is an answer, a logged
cause, an event or a state of a unit. -/
inductive Fault where
  /-- Raised by nobody (kept for the host's interface). Safe: it can only stop. -/
  | none
deriving DecidableEq, Repr

/-- Why a command has no meaning. -/
inductive Refusal where
  /-- The command's arm has no meaning yet: no arm is left so. Safe: the machine stops. -/
  | notModelled (mnemonic : String)
deriving DecidableEq, Repr

/-- An island's power state (R55), in the order of PLN_ISL_STATE.STATE. -/
inductive Power where
  | on | doze | off | gated
deriving DecidableEq, Repr

/-- A running step of the operating-point sequencer (R82). -/
structure SeqStep where
  target  : Nat
  raising : Bool
  settled : Bool := false
  startAt : Nat
deriving DecidableEq, Repr

/-- One island (R55 to R68, R80 to R84). -/
structure IslSt where
  power   : Power := .gated
  op      : Nat := 1
  seq     : Option SeqStep := none
  /-- when the last sequencer step ended: the channels run at least 10 µs before the next (R82). -/
  seqEndAt : Option Nat := none
  /-- a wake waits for its turn (R59) or is running. -/
  waking  : Bool := false
  /-- the Plinth has powered it up; it is being initialised. -/
  powered : Bool := false
  /-- FORCE: 0 FREE, 1 KEEP_ON, 2 OFF_NOW. -/
  force   : Nat := 0
  lost    : Bool := false
  /-- the state it is draining towards (R63). -/
  drain   : Option Power := none
  /-- a wake cause arrived while it drained or slept (R68). -/
  cause   : Bool := false
  /-- it has been ON since POR, RESET_N, monitor z or purge (R58, R133). -/
  broughtUp : Bool := false
  /-- between its gating and its return to ON in a whole commit (R133). -/
  inCommit : Bool := false
  /-- its OFF is part of a re-cast (R121), an island reset (R146) or a quad self-reset (R322). -/
  recast  : Bool := false
  /-- since when its idle condition has held without a break (R57), looked at on every tick. -/
  idleAt  : Option Nat := none
deriving DecidableEq, Repr

/-- A packet waiting in the wake buffer (R64): a register or doorbell write, an internal event packet, a window write. -/
inductive Parked where
  /-- with the time at which it reached the Plinth (R46). -/
  | write (a : RegAccess) (arrivedAt : Nat)
  | event (src : Nat)
  /-- a write burst for the satellite bus: window, word address, words. -/
  | burst (win : Nat) (addr : BitVec 22) (words : List SatWord)
deriving DecidableEq, Repr

/-- A non-posted request waiting for its island's wake, with the time at which it reached the Plinth (R67). -/
structure Waiter where
  isl : Island
  write : Bool
  acc : RegAccess
  sinceAt : Nat
deriving DecidableEq, Repr

/-- A register access that waits for its grant on the Plinth register bus (R33, R252). -/
structure BusRequest where
  write : Bool
  acc : RegAccess
  /-- when it reached the Plinth (R46, R67). -/
  arrivedAt : Nat
deriving DecidableEq, Repr

/-- One mailbox (R40 to R43): the capture in progress, the shared words, the apply in progress. -/
structure Mb where
  capturing : Option (List Word) := none
  applying  : Option (Nat × List Word) := none
  width : Nat := 0
  valid : Bool := false
  done  : Bool := false
  w0 : Word := 0
  w1 : Word := 0
  w2 : Word := 0
deriving DecidableEq, Repr

/-- An open value-and-complement pair (R46). -/
structure PairOpen where
  value : Word
  req   : Requester
  openAt : Nat
deriving DecidableEq, Repr

/-- An estimate as the quads hold it (R289, R295): p in 1/64 unit, s in 1/64 unit per sub-tick, a in 1/64 unit per
sub-tick², at a time in sub-ticks; the position not to be reached (R290); U and the time it grows from (R294). -/
structure Est where
  p : Rat := 0
  s : Rat := 0
  a : Rat := 0
  atSt : Nat := 0
  limit : Option Rat := none
  /-- the direction of motion. -/
  up : Bool := true
  u0 : Nat := 0
  corrSt : Nat := 0
  still : Bool := false
  /-- the moment at which STILL set (R318). -/
  stillSt : Nat := 0
  noSrc : Bool := true
deriving DecidableEq, Repr

/-- An entry on its way through a handshake channel (R52). -/
inductive HsEntry where
  /-- a 12-word record for a queue, with its channel slot and port. -/
  | record (queue : Nat) (typ : Nat) (words : List Word) (slot port : Nat)
  /-- an estimate of a virtual encoder (R295). -/
  | estimate (ve : Nat) (e : Est)
  /-- any other traffic: its words. -/
  | words (ws : List Word)
deriving DecidableEq, Repr

/-- A handshake channel (R52, R53): entries written and not yet readable, entries readable, entries the sender holds back. -/
structure HsChan where
  inFlight : List HsEntry := []
  readable : List HsEntry := []
  waiting  : List HsEntry := []
deriving DecidableEq, Repr

/-- The clocks (R69 to R79). -/
structure ClkSt where
  /-- the crystal oscillates. -/
  xtalRuns   : Bool := true
  /-- when the running judging began (R73, R74). -/
  judgeAt    : Option Nat := some 0
  /-- the running judging is one under REJUDGE (R74). -/
  rejudging  : Bool := false
  /-- the IRC gate running now belongs to the series (R71: after a failure the running gate is not counted). -/
  gateCounts : Bool := true
  /-- REFCLK edges were seen when the series started (R71). -/
  refInSeries : Bool := false
  lastRefCount : Word36 := 0
  /-- the PLLs are locked to XTAL. -/
  pllXtal    : Bool := false
  /-- TIMEBASE runs (it stops with the clock the PLLs are locked to, R76). -/
  timebase   : Bool := true
  fmcCount   : Word36 := 0
  fmcAt      : Nat := 0
  /-- when the reference last gave an edge in the running gate (R79). -/
  fmcEdgeAt  : Nat := 0
deriving DecidableEq, Repr

/-- The one-time-programmable fuses (R5, R7, R110, R126): fused before shipment. -/
structure Fuses where
  grade    : Bool := false
  silicon  : Word54 := 0
  ircTrim  : BitVec 8 := 0
  secmode  : BitVec 2 := 0
  /-- PROVISIONING_ID, three words; its Vendor ID is neither 0x0000 nor 0xFFFF (R175). -/
  prov     : List Word := [1, 0, 0]
  /-- KEYHASH[0] to KEYHASH[15], 16 bits each; empty stands for all zero. -/
  keyhash  : Tab (BitVec 16) := []
deriving DecidableEq, Repr

/-- A verified or committed image (R86): words 0 to LENGTH − 1, the SIGNATURE section where it carries one, its digest. -/
structure Image where
  words  : List Word
  sig    : List Word := []
  digest : BitVec 36 := 0
  signed : Bool := false
deriving DecidableEq, Repr

/-- A commit or re-cast under way (R120, R121). -/
structure CommitRun where
  whole : Bool
  units : BitVec 12 := 0
  /-- islands still to be gated (whole) or drained (re-cast), then those still to come up. -/
  toGate : List Island := []
  toRaise : List Island := []
  powerUp : Bool := false
  /-- waiting for the planner (R266 step 2). -/
  deferred : Bool := false
deriving DecidableEq, Repr

/-- The armature (04_armature.md). -/
structure ArmSt where
  /-- the bytes of the flash slots A and B; a byte that is not listed is erased, 0xFF (R111 to R113). -/
  flashA : List (BitVec 8) := []
  flashB : List (BitVec 8) := []
  /-- the words staged or being staged; words that none wrote hold zero (R445). -/
  staging : List Word := []
  /-- words received by the load in progress. -/
  received : Nat := 0
  /-- the requester that holds a host load open (R116). -/
  loader : Option Requester := none
  /-- a monitor load is open (R443). -/
  monLoad : Bool := false
  /-- the flash slot being read: slot, and whether it is the power-up load (R112). -/
  reading : Option (Bool × Bool) := none
  staged : Option Image := none
  stagedSlot : Bool := false
  committed : Option Image := none
  /-- the image whose LEDGER, TAMP, POLICY and MONITOR are in force (R121). -/
  plnImage : Option Image := none
  run : Option CommitRun := none
  /-- which slot is being programmed (R113). -/
  prog : Option Bool := none
  /-- the pins whose function lock is set (R94): (group, member). -/
  pinLocks : List (Nat × Nat) := []
  lastCommitV : Word := 0
  lastFuseV : Word := 0
  /-- the identity words in force: VID, SSVID, SSID, PROGIF (R174, R175, R122). -/
  identity : List Word := [1, 0, 0, 0]
  /-- log2 of the BAR2 size in force (R176). -/
  bar2Log2 : Nat := 16
  /-- a fuse programming under way: item and value (R110). -/
  fusing : Option (Nat × Word) := none
deriving DecidableEq, Repr

/-- Power-up and resets (05_power_up_and_reset.md). -/
structure BootSt where
  inPor   : Bool := false
  /-- when the last POR, RESET_N, monitor z or purge ended. -/
  originAt : Nat := 0
  perstN  : Bool := false
  refclk  : Bool := false
  refclkSeenEver : Bool := false
  /-- a staged, verified image waits for the crystal (R129 step 4). -/
  waitXtal : Bool := false
  noArm   : Bool := false
  flr     : Bool := false
  /-- a purge is erasing the flash (R147). -/
  erasing : Bool := false
  vio5    : Bool := true
  /-- the resistors that the board has from STB_LIM and TRG_LIM to VSS, in Ω; none where the pin is open or shorted (R457). -/
  stbLim  : Option Nat := none
  trgLim  : Option Nat := none
  /-- when the Plinth last powered up an island (R59). -/
  lastPowerUpAt : Option Nat := none
deriving DecidableEq, Repr

/-- One eye-scan result (R173). -/
structure EyeRes where
  word : Word := 0
  endT : Word54 := 0
deriving DecidableEq, Repr

/-- The host link (06_host_link.md). -/
structure LinkSt where
  partnerUpcfg : Bool := false
  /-- lanes that can still be configured are those not in HST_DROP_STS.DROPPED. -/
  detectRate  : Nat := 0
  detectWidth : Nat := 0
  /-- the lanes that the training from Detect brought in, and those that stay dropped since. -/
  detectLanes : BitVec 4 := 0
  /-- an upconfigure is under way (R169). -/
  upcfgRun    : Bool := false
  /-- transmitter coefficients in force, by lane: pre + 64 × main + 4096 × post (R154). -/
  coefficients : Tab Nat := []
  /-- 16.0 GT/s (or 8.0 GT/s) is not tried again until the next Detect (R155). -/
  eqCap    : Nat := 3
  /-- equalisation at 8.0 GT/s, and at 16.0 GT/s, has ended well since the last Detect (R152). -/
  eq8      : Bool := false
  eq16     : Bool := false
  /-- lanes that lost lock since the last Recovery began, and have not survived 100 ms since (R166). -/
  unlocked : BitVec 4 := 0
  /-- when the link last returned to L0 (R166). -/
  l0At     : Option Nat := none
  /-- the second failed attempt requests an equalisation redo (R167). -/
  eqRedo   : Bool := false
  dropAt   : Option Nat := none
  noPartnerNoted : Bool := false
  eyes     : Tab EyeRes := []
  /-- the lane of the running or last scan. -/
  eyeLane  : Nat := 0
  eyePausedAt : Option Nat := none
  eyeRestart : Bool := false
  eyeLastAt : Nat := 0
  margining : BitVec 4 := 0
  prbsRuns : Bool := false
  /-- when a locked checker's counts were last brought up to date, by lane. -/
  prbsAt   : Tab Nat := []
  prbsMis  : Tab Word36 := []
  prbsCmp  : Tab Word54 := []
  /-- the error count limit of margining, by lane (R158). -/
  marginLimit : Tab Nat := []
  ltrLast  : Nat := 0
  ltrAt    : Option Nat := none
  /-- an LTR message that SEND asked for waits for the link (R165). -/
  ltrDue   : Bool := false
  /-- since when nothing has waited to be sent (R161, R162), looked at on every tick. -/
  quietAt  : Option Nat := none
  /-- when the last TLP left (R161). -/
  sentAt   : Nat := 0
  /-- when the running Recovery was entered (R167). -/
  recoveryAt : Nat := 0
  /-- CLKREQ_N asserted by the device. -/
  clkreq   : Bool := true
  /-- LINKLOSS HOLD waits for the next cadence boundary (R171). -/
  holdDue  : Bool := false
deriving DecidableEq, Repr

/-- Who asked for a read (R191). -/
inductive Consumer where
  | cmdQueue (q : Nat) (n : Nat)
  | canQueue (c k q : Nat)
  | satRead (m : Nat)
  | satAtomic (m : Nat)
  | ats (q : Nat) (page : BitVec 52)
deriving DecidableEq, Repr

/-- A tag awaiting its completion (R183, R190). -/
structure Tag where
  tag : Nat
  who : Consumer
  issuedAt : Nat
  got : List Dword := []
  poisoned : Bool := false
  /-- its consumer is gone: the completion is sunk (R144, R170, R216). -/
  sunk : Bool := false
  /-- the page whose translation the request used (R201). -/
  page : Option (BitVec 52) := none
deriving DecidableEq, Repr

/-- A quarantined tag and its end (R191). -/
structure Quarantine where
  tag : Nat
  endAt : Nat
deriving DecidableEq, Repr

/-- An entry of the address translation cache, most recently used first (R198). -/
structure AtcEntry where
  vpage : BitVec 52
  ppage : BitVec 52
  read  : Bool
  write : Bool
deriving DecidableEq, Repr

/-- A held invalidation (R201): its tag and the read tags it waits for. One without a tag is a flush of the device's own
(R202), which has the same wait and no completion. -/
structure Inval where
  itag : Option Nat
  waits : List Nat
deriving DecidableEq, Repr

/-- Host transactions and configuration space (07_host_transactions.md). -/
structure TxnSt where
  /-- writable dwords of configuration space (R174 to R178), by dword number. -/
  cfg : Tab Dword := []
  /-- the MSI-X table, 128 × 4 dwords (R176). -/
  msix : Tab Dword := []
  pba : BitVec 128 := 0
  d3hot : Bool := false
  tags : List Tag := []
  quarantine : List Quarantine := []
  atc : List AtcEntry := []
  invals : List Inval := []
  /-- failed translations that no access has met yet: queue and page (R200). -/
  atsBad : List (Nat × BitVec 52) := []
  /-- dwords 0x228 to 0x244 of the vendor capability as last refreshed (R204), by dword number. -/
  vsec : Tab Dword := []
  /-- 0x238 as latched by a read of 0x234 (R204). -/
  vsecLatch : Option Dword := none
deriving DecidableEq, Repr

/-- A word of SRAM (R206): the 18 bits stored and the 18 bits its check bits were computed from. One differing bit
is a correctable error, two or more are uncorrectable. -/
structure SramWord where
  stored  : Word := 0
  checked : Word := 0
deriving DecidableEq, Repr

/-- The patrol scrub (R206). -/
structure MemSt where
  next : Nat := 0
deriving DecidableEq, Repr

/-- A channel's state (R212), in the order of CHN_STATE. -/
inductive ChState where
  | free | live | quiescing | quiesced | destroying
deriving DecidableEq, Repr

/-- A channel slot (R207 to R216, R303 to R306). -/
structure Chan where
  state : ChState := .free
  gen   : BitVec 11 := 1
  tmpl  : Nat := 0
  ve    : Nat := 0
  /-- DIR: true is towards decreasing position. -/
  dirDown : Bool := false
  ports : BitVec 32 := 0
  recq  : Nat := 0
  cmdq  : Nat := 0
  evq   : Option Nat := none
  pitch : Nat := 0
  expo  : Nat := 0
  /-- the grid in force: its origin, and whether the origin itself is a target (R303) or only the targets beyond it (R319). -/
  x0    : Int := 0
  x0In  : Bool := true
  /-- the forward position at its create: what a port that has decided no target starts from (R303, R304). -/
  bornAt : Int := 0
  /-- the grid before the last PITCH or REPHASE, whose targets up to the anchor ports still behind fire (R319):
  origin, whether it is in, pitch, anchor. -/
  oldGrids : List (Int × Bool × Nat × Int) := []
  blur  : Nat := 0
  strobe : Bool := false
  standstill : Nat := 0
  tol   : Nat := 0
  /-- quiesced by a STOP of the group's run state (R358). -/
  stopped : Bool := false
  quiescedAt : Word54 := 0
  /-- when it last became LIVE (R318). -/
  liveAt : Nat := 0
  lost  : Word36 := 0
deriving DecidableEq, Repr

/-- A channel operation under way (R209): its code, the handle and the parameters as staged. -/
structure ChOp where
  code : Nat
  handle : Word
  params : List Word
deriving DecidableEq, Repr

/-- A queue's state (R219), in the order of QUE_STS.STATE. -/
inductive QState where
  | disabled | enabled | fault | draining
deriving DecidableEq, Repr

/-- A queue entry (R221, R224): type, words, and the channel slot and port it belongs to where it has one. -/
structure QEntry where
  typ   : Nat
  words : List Word
  slot  : Option Nat := none
  port  : Option Nat := none
  poisoned : Bool := false
  /-- the event source that the entry's arrival raises, where one does (R187). -/
  cause : Option Nat := none
deriving DecidableEq, Repr

/-- A hardware queue (R217 to R223). -/
structure Queue where
  state : QState := .disabled
  cfg   : Word := 0
  base  : Word54 := 0
  prod  : BitVec 17 := 0
  cons  : BitVec 17 := 0
  drops : Word36 := 0
  faultCause : Nat := 0
  /-- entries staged for the write engines. -/
  staged : List QEntry := []
  /-- commands fetched and not yet executed. -/
  fetched : List QEntry := []
  /-- a fetch is outstanding. -/
  fetching : Bool := false
  /-- the fetch position, ahead of the consumer by the entries fetched. -/
  fetchPos : BitVec 17 := 0
  /-- after FAULTCLR the fetch resumes on the next doorbell (R228). -/
  needDoorbell : Bool := false
  /-- the page whose miss has been counted and is not yet answered (R205). -/
  missAt : Option (BitVec 52) := none
deriving DecidableEq, Repr

/-- The owner of a hardware lock (R236, R244). -/
inductive LockOwner where
  | req (r : Requester)
  | chan (slot : Nat)
deriving DecidableEq, Repr

/-- A hardware lock (R236 to R239): every lock starts free and broken. -/
structure HwLock where
  owner  : Option LockOwner := none
  broken : Bool := true
deriving DecidableEq, Repr

/-- A vector's collector (R233). -/
structure VecSt where
  signals : Nat := 0
  firstAt : Option Nat := none
deriving DecidableEq, Repr

/-- Channels, queues, events and locks (08). -/
structure QueSt where
  chans : Tab Chan := []
  op    : Option ChOp := none
  opRes : List Word := [0, 0]
  queues : Tab Queue := []
  /-- STAGEFULL was raised for this fill (R223). -/
  stageFull : Bool := false
  vecs  : Tab VecSt := []
  locks : Tab HwLock := []
  /-- channels waiting for a lock, in the order they asked: (lock, slot, queue). -/
  lockWait : List (Nat × Nat × Nat) := []
deriving DecidableEq, Repr

/-- One arbiter (R252 to R257, R272). -/
structure Arb where
  grants : Tab Nat := []
  lastGrants : Tab Nat := []
  shorts : Tab Word36 := []
  /-- activities whose requests waited in this cadence. -/
  asked  : List Nat := []
  /-- the last grants of the window of 16, newest first: was it line-critical? (R254). -/
  window : List Bool := []
  parked : Option Nat := none
  /-- revocations in a row, by activity (R257). -/
  revoked : Tab Nat := []
deriving DecidableEq, Repr

/-- Deferrable work (R266), in the order of NRG_DEFER. -/
inductive Work where
  | eyeScan | prbs | recast | ringArm | ringDiag
deriving DecidableEq, Repr

/-- Tamp budgets, the cadence and the energy ledger (09). -/
structure NrgSt where
  arbs : Tab Arb := []
  cadStartAt : Nat := 0
  /-- the master's position when the cadence began, 1/64 unit (R245). -/
  cadStartPos : Int := 0
  /-- host-transmit scaling in force: present and reference width × rate (R258). -/
  scaleNum : Nat := 1
  scaleDen : Nat := 1
  nextScale : Option (Nat × Nat) := none
  acc  : Tab Word36 := []
  /-- the remainder below 1 µJ, by accumulator, in units of 0.5 pJ (R262). -/
  rem  : Tab Nat := []
  /-- booked in this cadence, in units of 0.5 pJ. -/
  cadHp : Nat := 0
  under90 : Nat := 0
  underCeil : Nat := 0
  /-- records of each quad in the running cadence and in the last one, whose length follows in ticks (R165). -/
  recCad  : Tab Nat := []
  recLast : Tab Nat := []
  cadTicks : Nat := 40000
  over7 : Nat := 0
  step7Whole : Bool := false
  deferred : List Work := []
  /-- admitted in this pass and about to start. -/
  ready : List Work := []
  /-- estimates of the work admitted in the current cadence, mW. -/
  admitted : Nat := 0
deriving DecidableEq, Repr

/-- One encoder input (R275 to R281). -/
structure EncIn where
  state : Option Bool := none
  /-- the time stamp of the last qualified transition, sub-ticks. -/
  lastSt : Option Nat := none
  /-- what the time in the band and the probe have found: 0 nothing, 1 OPEN, 2 SHORT_LL. -/
  band  : Nat := 0
  /-- the common mode is outside its window: SHORT_CM. -/
  cm    : Bool := false
  /-- a probe runs (R281); inside: the common mode stood in its window when it began. -/
  probing : Option Bool := none
deriving DecidableEq, Repr

/-- An encoder (R277 to R283). -/
structure Enc where
  a : EncIn := {}
  b : EncIn := {}
  z : EncIn := {}
  count : Word36 := 0
  lastT : Word54 := 0
  contrary : Nat := 0
  contraryOn : Bool := false
  /-- times of the illegal transitions of the last 1 ms, ticks. -/
  illegal : List Nat := []
  illegalOn : Bool := false
  /-- counts since the last edge of Z, counts that the last high of Z took, and the occasions of R280's reversed Z. -/
  zSteps : Option Nat := none
  zHigh : Option Nat := none
  zOcc  : Nat := 0
  zReversed : Bool := false
  flt   : Bool := false
deriving DecidableEq, Repr

/-- A line-event input (R284, R330): filtered state, captures, the level before the filter. -/
structure Lev where
  state : Option Bool := none
  capT  : Word54 := 0
  capP  : Word54 := 0
  raw   : Bool := false
  count : Word36 := 0
deriving DecidableEq, Repr

/-- A synthetic encoder (R285). -/
structure Se where
  interval : Word36 := 0
  /-- when the next step is due, sub-ticks. -/
  due   : Option Nat := none
  count : Word36 := 0
deriving DecidableEq, Repr

/-- A count held by the glitch filter (R288): direction, time stamp, and when it came. -/
structure HeldCount where
  up : Bool
  st : Nat
  atSt : Nat
deriving DecidableEq, Repr

/-- A virtual encoder (R286 to R297). -/
structure Ve where
  /-- the accumulator's remainder (R287). -/
  rem  : Int := 0
  /-- the exact count position, 1/64 unit. -/
  pos  : Int := 0
  est  : Est := {}
  /-- when it restarted at zero with no estimate, beyond MOT's own start (R292, R294). -/
  fromAt : Nat := 0
  /-- a count has arrived since the last restart. -/
  started : Bool := false
  lastSt : Option Nat := none
  /-- the direction of the last count. -/
  lastUp : Bool := true
  held : List HeldCount := []
  still : Bool := false
  reversals : Word36 := 0
  refP  : Word54 := 0
  refT  : Word54 := 0
  preset : Word54 := 0
  refDone : Bool := false
  refBlocked : Bool := false
  capT  : Word54 := 0
deriving DecidableEq, Repr

/-- Encoders and position (10). -/
structure MotSt where
  encs : Tab Enc := []
  levs : Tab Lev := []
  ses  : Tab Se := []
  ves  : Tab Ve := []
  slipping : BitVec 8 := 0
  /-- when MOT last started from nothing. -/
  startAt : Nat := 0
  /-- for each slip comparator whether its condition holds, and since when (R298). -/
  slipSince : Tab (Bool × Nat) := []
deriving DecidableEq, Repr

/-- A head port's slot state (R324), in the order of HP_STS.SLOT. -/
inductive Slot where
  | empty | present | powering | powered | fault
deriving DecidableEq, Repr

/-- How the port's outputs are driven. -/
inductive Drive where
  | hiZ | idle | active
deriving DecidableEq, Repr

/-- A fire that is frozen or under way (R307 to R313). -/
structure Fire where
  target : Int
  tfSt   : Nat
  tcSt   : Nat
  expo   : Nat
  clamped : Bool
  standstill : Bool := false
  late   : Bool := false
  strobe : Bool
  slot   : Nat
  /-- the head parameters as the fire was computed (R301): latency, trigger width, strobe lead, light class, ready mode. -/
  lat    : Nat := 0
  trgW   : Nat := 0
  lead   : Nat := 0
  cls    : Nat := 0
  rdyMode : Nat := 0
  /-- the trigger is asserted; the strobe conducts; the strobe has been started. -/
  trgOn  : Bool := false
  stbOn  : Bool := false
  stbBegun : Bool := false
  /-- the trigger edge has left. -/
  made   : Bool := false
deriving DecidableEq, Repr

/-- An open run of missed fires (R317). -/
structure GapRun where
  reason : Nat
  count  : Nat
  first  : Int
  last   : Int
  began  : Word54
deriving DecidableEq, Repr

/-- A head port (11). -/
structure Port where
  slot  : Slot := .empty
  prs   : Bool := false
  pgd   : Bool := false
  rdy   : Bool := false
  /-- HPn_PEN driven high. -/
  pen   : Bool := false
  /-- PWR and the master enable are set, and the rise of PEN waits its turn (R326). -/
  penDue : Bool := false
  poweringAt : Nat := 0
  drive : Drive := .hiZ
  /-- HPn_TRG asserted, HPn_STB conducting. -/
  trg   : Bool := false
  stb   : Bool := false
  /-- since when they are. -/
  trgAt : Nat := 0
  stbAt : Nat := 0
  stbFlt : Bool := false
  trgCut : Bool := false
  stbCut : Bool := false
  offset : Word36 := 0
  /-- the high-water mark: the last target decided (R304). -/
  hwm   : Option Int := none
  seq   : Word := 0
  /-- fires frozen, and fires made whose trigger or strobe still runs, oldest first. -/
  fires : List Fire := []
  /-- a fire was made whose exposure signal is awaited (R329). -/
  awaitAck : Bool := false
  /-- the latency that this fire was computed with. -/
  ackLat : Nat := 0
  lastFireSt : Option Nat := none
  lastFireT : Word54 := 0
  gap   : Option GapRun := none
  /-- records of this channel and port lost since the last TRIGGER entry (R225 word 12). -/
  lostRecs : Nat := 0
  /-- lost to its channel by a quad fault (R323). -/
  lost  : Bool := false
  /-- its presence was lost under a channel, and no fire has been made since (R308 step 1). -/
  removed : Bool := false
  atnEndAt : Option Nat := none
  /-- a run of fires without an exposure signal is open (R329). -/
  noack : Bool := false
  /-- due fires while the channel is not LIVE: count, first, last, time of the first (R214). -/
  qRun  : Option GapRun := none
  /-- when STILL frames last fired (R318). -/
  stillAt : Option Nat := none
  /-- the last target whose record reached the queue island (R323). -/
  lastRec : Option Int := none
deriving DecidableEq, Repr

/-- A position window (R305, R319). -/
structure Window where
  owner : Nat
  start : Int
  stop  : Int
  mask  : BitVec 32
deriving DecidableEq, Repr

/-- A trigger quad (R320 to R323, R326). -/
structure Quad where
  men : Bool := false
  faultAt : Option Nat := none
  lastPenAt : Option Nat := none
  /-- ports high-impedance since a fault. -/
  faulted : Bool := false
deriving DecidableEq, Repr

/-- Triggers and heads (11). -/
structure TrgSt where
  ports : Tab Port := []
  quads : Tab Quad := []
  /-- the estimates the quads hold, by 32 × quad + virtual encoder. -/
  ests  : Tab Est := []
  windows : Tab (Option Window) := []
deriving DecidableEq, Repr

/-- A ring frame as received or sent (R340, R341). -/
structure RFrame where
  typ   : Nat
  src   : Nat
  dst   : Nat
  bcast : Bool
  level : Nat
  west  : Bool
  w     : List Word
deriving DecidableEq, Repr

/-- A frame consumed by the node and the arrival time of its header, sub-ticks, with the side it came in on. -/
structure RxFrame where
  f    : RFrame
  side : Side
  arrSt : Nat
deriving DecidableEq, Repr

/-- What the node knows of another node (R351, R355). -/
structure NodeInfo where
  seen : Bool := false
  silicon : Word54 := 0
  w4   : Word := 0
  epoch : Word := 0
  digest : BitVec 36 := 0
  group : Word := 0
  lastAt : Nat := 0
  /-- the group time it was last heard, sub-ticks. -/
  lastGroupT : Word54 := 0
deriving DecidableEq, Repr

/-- A ring lane (R338, R339, R362). -/
structure RLane where
  taps : Tab Nat := []
  readyRun : Nat := 0
  ownReady : Nat := 0
  up   : Bool := false
  trainAt : Option Nat := none
  lostSince : Option Nat := none
  /-- since when the lane is up (R364). -/
  upAt : Option Nat := none
  /-- the delay of the link in each direction, sub-ticks (R345). -/
  delayEast : Int := 0
  /-- the node at the lane's other end, as its training blocks name it. -/
  partner : Nat := 0
deriving DecidableEq, Repr

/-- A fetch of the keeper's image (R359). -/
structure Fetch where
  words : List Word := []
  progressAt : Nat
deriving DecidableEq, Repr

/-- Working as a group (12). -/
structure RingSt where
  east : RLane := {}
  west : RLane := {}
  trainDueAt : Option Nat := none
  inbox : List RxFrame := []
  /-- frames of the node's own that wait for a grant of ring transmit, oldest first (R344, R252). -/
  txWait : List (Side × RFrame) := []
  /-- group time minus device time, sub-ticks (R347). -/
  offset : Int := 0
  /-- still to be slewed, sub-ticks, from when (sub-ticks) and at how many ppm (R347). -/
  slew  : Int := 0
  slewSt : Nat := 0
  slewPpm : Nat := 0
  /-- group time has been held since the node joined (R352). -/
  hasTime : Bool := false
  /-- the wrap ends return to the healthy rows at the next beacon (R364). -/
  unwrapDue : Bool := false
  /-- the breaks that the node knows of: the node at the east end of each, which sent WRAP, and the ends that have sent UNWRAP since
  (R362, R364). -/
  breaks : List (Nat × List Nat) := []
  lockRun : Nat := 0
  nodes : Tab NodeInfo := []
  keeper : Option Nat := none
  candidate : Option Nat := none
  candidateAt : Nat := 0
  keeperDigest : BitVec 36 := 0
  keeperEpoch : Word := 0
  keeperRun : Bool := true
  /-- the run state adopted at the last cadence boundary (R358). -/
  runAdopted : Bool := true
  beaconAt : Option Nat := none
  /-- 0 none, 1 west wrap end, 2 east wrap end (R362). -/
  wrapRole : Nat := 0
  delayReq : Option (Word × Nat) := none
  delaySeq : Word := 0
  beaconSeq : BitVec 12 := 0
  geAt  : Tab (Option Nat) := []
  ges   : Tab Est := []
  fetch : Option Fetch := none
  fetchFailAt : Option Nat := none
  fetchNoted : Bool := false
  /-- sending the image to a fetching node: node and next offset (R359). -/
  serving : Option (Nat × Nat) := none
  resetAtGroup : Option Word54 := none
  echoSentSt : Option (Word × Nat) := none
  echoSeq : Word := 0
  rtt   : Word36 := 0
  heldOkAt : Option Nat := none
  /-- the last group gap position and time, by missing node (R356). -/
  gapPos : Tab (Option Int) := []
deriving DecidableEq, Repr

/-- Where a frame on the bus came from (R389, R390). -/
inductive TxSource where
  | buffer (j : Nat)
  | queue (k : Nat)
deriving DecidableEq, Repr

/-- A frame to be sent, with its marker word (R386, R388) and the TX queue it came from. -/
structure TxFrame where
  f : CanFrame
  marker : Word
  queue : Nat := 0
deriving DecidableEq, Repr

/-- One CAN controller and transceiver (13). -/
structure Can where
  /-- the head frames fetched from TX queues 0 and 1. -/
  heads : Tab (Option TxFrame) := []
  /-- the quiet period of R379 is still to begin after the integration, or began then. -/
  quietDue : Bool := false
  quietAt : Option Nat := none
  windowAt : Option Nat := none
  /-- the polarity inverts at the next bus idle (R393). -/
  swapDue : Bool := false
  /-- a frame that was in arbitration or on the bus when its request ended: it completes (R378, R387, R398). -/
  onBus : Option (TxSource × TxFrame) := none
deriving DecidableEq, Repr

/-- A frame accepted and staged (R384). -/
structure RxStage where
  ctrl : Nat
  f    : CanFrame
  qsel : Nat
  filter : Nat
  noMatch : Bool
  sofT : Word54
deriving DecidableEq, Repr

/-- Field bus (13). -/
structure FldSt where
  cans : Tab Can := []
  /-- the transmit buffers: controller × 64 × 36 words (R386). -/
  txb  : Tab Word := []
  /-- the hidden parity bits of those words (R35). -/
  txbPar : Tab Bool := []
  stage : List RxStage := []
deriving DecidableEq, Repr

/-- A write burst of the bridge (R413, R415): window, satellite word address, words. -/
structure WriteBurst where
  win   : Nat
  addr  : BitVec 22
  words : List SatWord
deriving DecidableEq, Repr

/-- What a host's non-posted request of BAR2 wants: the words of a read (none for a skipped dword), or an AtomicOp with
its word, operand and compare value (R194, R412). -/
inductive HostWant where
  | read (want : List (Option (BitVec 22)))
  | atomic (op : AtomOp) (addr : BitVec 22) (operand compare : Word)
deriving DecidableEq, Repr

/-- A host's non-posted request in the bridge (R413, R416, R424): what it wants, the bursts still to issue, the words
read, and what must go before it. -/
structure BridgeJob where
  win  : Nat
  want : HostWant
  /-- read bursts still to issue: address and length. -/
  todo : List (BitVec 22 × Nat) := []
  got  : List (BitVec 22 × SatWord) := []
  started : Bool := false
  /-- its last burst was answered with RETRY. -/
  stalled : Bool := false
  /-- the function was reset or the link lost since it came: its completion is not sent (R143, R144, R170). -/
  sunk : Bool := false
  sinceAt : Nat
  /-- earlier write bursts still to be carried, and earlier satellite-to-host writes still to be issued (R417, R424). -/
  ahead : Nat
  behind : Nat
deriving DecidableEq, Repr

/-- A split request of a satellite master (R418): the burst, its answer once held (none inside: SAT_ERR_N). -/
structure Split where
  b : SatBurst
  /-- its host request has been sent or its register access begun. -/
  issued : Bool := false
  answer : Option (Option (List SatWord)) := none
  answerAt : Nat := 0
deriving DecidableEq, Repr

/-- Prefetched words of a window (R414). -/
structure Prefetch where
  /-- address, word, when it was read. -/
  words : List (BitVec 22 × SatWord × Nat) := []
deriving DecidableEq, Repr

/-- The satellite port (14). -/
structure SatSt where
  /-- host-to-satellite work, in order within each class. -/
  posted : List WriteBurst := []
  nonPosted : List BridgeJob := []
  /-- satellite-to-host writes taken from the bus and not yet issued: host address and words. -/
  toHost : List (BitVec 64 × List SatWord) := []
  splits : Tab (Option Split) := []
  prefetch : Tab Prefetch := []
  /-- lock holder: 0 none, 1 master 0, 2 master 1, 3 device. -/
  lockBy : Nat := 0
  lockAt : Nat := 0
  /-- masters whose bursts are refused until they release SAT_LOCK_N (R409). -/
  deaf : BitVec 2 := 0
  lockPin : BitVec 2 := 0
  reqPin : BitVec 2 := 0
  mrst : BitVec 2 := 3
  intPin : BitVec 4 := 0
  grant : Nat := 0
  grantAt : Nat := 0
  burstSince : Bool := false
  broken : Bool := false
  lastErr : List Word := [0, 0]
  trunc : List Word := [0, 0, 0]
  /-- aperture registers: 3 words each (R428). -/
  apertures : Tab (List Word) := []
  /-- a host-bound write burst in the middle: master, aperture word address, words taken. -/
  hwr : Option (Nat × BitVec 22 × List SatWord) := none
deriving DecidableEq, Repr

/-- The serial monitor (15). -/
structure MonSt where
  /-- the banner has been sent and sessions may start. -/
  ready : Bool := false
  bannerDueAt : Option Nat := none
  inBreak : Bool := false
  line : List (BitVec 8) := []
  tooLong : Bool := false
  /-- the completed line waiting for its command to run. -/
  cmd : Option (List (BitVec 8)) := none
  /-- the running register command: 1 `r`, 2 `w`, 3 `p` (0 none); its accesses still to make (write, offset, value); the
  offsets and values read so far. -/
  running : Nat := 0
  todo : List (Bool × BitVec 24 × Word) := []
  got : List (BitVec 24 × Word) := []
  slots : Nat := 0
  /-- characters kept while a command runs. -/
  kept : List (BitVec 8) := []
  events : List Nat := []
  /-- the `z` reply has been sent (R442). -/
  zDue : Bool := false
  /-- highest address written plus one (R445). -/
  loadTop : Nat := 0
  /-- which of the image's words 0 to 3 the load has written (R444). -/
  loadSeen : BitVec 4 := 0
  /-- a load waits for verification before it replies (R445). -/
  loadWait : Bool := false
  /-- the pair that the running `p` writes has failed (R441). -/
  pairFailed : Bool := false
deriving DecidableEq, Repr

/-- What left the device. -/
inductive Output where
  /-- a memory write TLP: address, dwords, relaxed ordering, poisoned. -/
  | memWrite (addr : BitVec 64) (data : List Dword) (relaxed poisoned : Bool)
  | memRead (tag : Nat) (addr : BitVec 64) (dwords : Nat)
  | atomic (tag : Nat) (addr : BitVec 64) (op : AtomOp) (operand compare : Dword)
  /-- the completion of a host request to BAR0, BAR2 or BAR4: status, data, EP. -/
  | completion (req : Requester) (status : CplStatus) (data : List Dword) (poisoned : Bool)
  /-- a configuration completion; none is Request Retry Status. -/
  | config (data : Option Dword)
  | translationReq (tag : Nat) (page : BitVec 52)
  | invalidateCpl (itag : Nat)
  /-- an MSI-X or MSI message: vector, message number, address, data (R234). -/
  | message (vector number : Nat) (msix : Bool) (addr : BitVec 64) (data : Dword)
  | pme
  | ltr (us : Nat)
  | satErr (master : Nat)
  | satRetry (master : Nat)
  | satData (master : Nat) (words : List SatWord)
  | satBurst (write : Bool) (addr : BitVec 22) (words : List SatWord) (len : Nat)
  | ringTrain (side : Side) (block : BitVec 64)
  | ringFrame (side : Side) (f : RFrame)
  | ringWake (side : Side)
  | canFrame (ctrl : Nat) (f : CanFrame)
  | monText (line : List Char)
  /-- training sets and margining replies on a host lane. -/
  | laneMsg (lane : Nat) (m : LaneMsg)
  /-- a command on the FL_ pins: its code, the 24-bit byte address, the data of a program, the rate of FL_CLK in MHz. -/
  | flash (cmd : BitVec 8) (addr : BitVec 24) (data : List (BitVec 8)) (mhz : Nat)
deriving DecidableEq, Repr

/-- The state of the device. -/
structure State where
  /-- the commands that wait, first in first out. -/
  pending : List Instr := []
  /-- ticks of 2.5 ns since the model began (the model's own wall clock). -/
  now : Nat := 0
  /-- device time (R11). -/
  devTime : Word54 := 0
  /-- the model's own counter of free values used (no field of the spec). -/
  freeIdx : Nat := 0
  /-- the register file: BAR0 byte offset to value, an unlisted register reads as its reset value. -/
  regs : Tab Word := []
  /-- the hidden parity bits (R35); an unlisted one is that of the reset value. -/
  parity : Tab Bool := []
  /-- the scrub pass: the island and the place among its registers with parity of the next one; none when no pass runs
  (R36). -/
  scrub : Option (Nat × Nat) := none
  scrubPasses : Word36 := 0
  isl : Tab IslSt := []
  wakeBuf : List (Island × Parked) := []
  waiters : List Waiter := []
  /-- register accesses that wait for the next cadence because their activity is at its maximum (R252). -/
  busWait : List BusRequest := []
  mbs : Tab Mb := []
  pairs : Tab (Option PairOpen) := []
  /-- PLN_FPWR_V as last applied. -/
  fpwr : Word := 0
  chans : Tab HsChan := []
  clk : ClkSt := {}
  fuses : Fuses := {}
  arm : ArmSt := {}
  boot : BootSt := {}
  link : LinkSt := {}
  txn : TxnSt := {}
  sram : Tab SramWord := []
  mem : MemSt := {}
  que : QueSt := {}
  nrg : NrgSt := {}
  mot : MotSt := {}
  trg : TrgSt := {}
  ring : RingSt := {}
  fb : FldSt := {}
  sat : SatSt := {}
  mon : MonSt := {}
  /-- what left the device, newest first. -/
  sent : List Output := []
deriving DecidableEq, Repr

/-- The device right after POR has ended (R127 to R129): every register at its reset value, every island but the Plinth
GATED, the SRAM clear about to run, nothing waiting. -/
def State.reset : State := {}

end Sys2Proof.Machine
end

