-- ==== Sys2Proof/Machine/ConfigSpace.lean ====
section
/-!
DEFINITION. Configuration space as dwords (R174 to R181, R203): default values, writable bits, and the control bits the
rest of the device reads. The places of the bits inside a capability are those of the PCI Express standard, which the
manual does not restate (PRESUMED, log entry 20); the capability offsets are R178's.
-/

namespace Sys2Proof.Machine

/-- The default of a configuration dword (R174, R178, R181); what depends on the armature is computed on a read. -/
def cfgDefault (d : Nat) : Dword :=
  match d with
  | 1 => 0x00100000           -- Status: Capabilities List
  | 13 => 0x00000040          -- Capabilities Pointer
  | 16 => 0x48035001          -- Power Management, version 3, PME from D0 and D3hot, next 0x50
  | 17 => 0x00000008          -- No_Soft_Reset
  | 20 => 0x018A7005          -- MSI: 32 messages capable, 64-bit, per-vector masking, next 0x70
  | 28 => 0x0002B010          -- PCI Express endpoint, next 0xB0
  | 29 => 0x10008022          -- Function Level Reset, role-based errors, 8-bit tags, 512-byte payload
  | 30 => 0x00002810          -- Device Control defaults
  | 31 => 0x00065C44          -- Link Capabilities: 16.0 GT/s, x4, ASPM L0s and L1, exit latencies 0b101 and 0b100, clock PM
  | 37 => 0x0003089F          -- Device Capabilities 2: timeout ranges A to D and disable, 32-bit AtomicOp, LTR, 10-bit tags
  | 38 => 0x00000000          -- Device Control 2
  | 39 => 0x0000001E          -- Link Capabilities 2: speeds to 16.0 GT/s
  | 40 => 0x00000004           -- Link Control 2: target 16.0 GT/s
  | 44 => 0x007F0011          -- MSI-X: table size 128, last of the list
  | 45 => 0x00000004          -- table in BAR4 at 0
  | 46 => 0x00008004          -- PBA in BAR4 at 0x8000
  | 64 => 0x14820001          -- AER, next 0x148
  | 67 => 0x00462030          -- Uncorrectable Error Severity defaults
  | 69 => 0x00002000          -- Correctable Error Mask: Advisory Non-Fatal masked
  | 70 => 0x000000A0          -- ECRC generation and check capable
  | 82 => 0x15810003          -- Device Serial Number, next 0x158
  | 86 => 0x1681000F          -- ATS, next 0x168
  | 87 => 0x00000020          -- Invalidate Queue Depth 32 (coded 0), Page Aligned Request
  | 90 => 0x17010018          -- LTR, next 0x170
  | 92 => 0x19010019          -- Secondary PCI Express, next 0x190
  | 100 => 0x1C010026         -- Physical Layer 16.0 GT/s, next 0x1C0
  | 112 => 0x1E010027         -- Lane Margining at the Receiver, next 0x1E0
  | 120 => 0x20010004         -- Power Budgeting, next 0x200
  | 128 => 0x2201001E         -- L1 PM Substates, next 0x220
  | 129 => 0x0000001A         -- ASPM L1.1 and PCI-PM L1.1
  | 136 => 0x0001000B         -- Hyrnaxa vendor-specific, version 1, last
  | 137 => 0x03410001         -- VSEC ID 1, Rev 1, Length 0x034
  | _ => 0

/-- The bits of a configuration dword that a configuration write stores. -/
def cfgWritable (d : Nat) : Dword :=
  match d with
  | 1 => 0x00000546           -- Memory Space, Bus Master, Parity Error Response, SERR#, Interrupt Disable
  | 3 => 0x000000FF           -- Cache Line Size
  | 15 => 0x000000FF          -- Interrupt Line
  | 4 => 0xFF000000 | 5 => 0xFFFFFFFF
  | 7 => 0xFFFFFFFF
  | 8 => 0xFFFF0000
  | 17 => 0x00000103          -- power state, PME_En
  | 20 => 0x00710000          -- MSI enable, Multiple Message Enable
  | 21 => 0xFFFFFFFC | 22 => 0xFFFFFFFF | 23 => 0x0000FFFF | 24 => 0xFFFFFFFF
  | 30 => 0x000071FF          -- Device Control
  | 32 => 0x000001C3          -- Link Control
  | 38 => 0x0000145F          -- Device Control 2
  | 44 => 0xC0000000          -- MSI-X Enable, Function Mask
  | 66 => 0x0FFFFFFF | 67 => 0x0FFFFFFF | 69 => 0x0000FFFF | 70 => 0x00000140
  | 87 => 0x801F0000          -- ATS Enable, Smallest Translation Unit
  | 91 => 0x1FFF1FFF          -- Max Snoop and No-Snoop Latency
  | 121 => 0x000000FF         -- Power Budgeting data select
  | 130 => 0x0000000A         -- PCI-PM L1.1 and ASPM L1.1; the enables of L1.2 read zero
  | _ => 0

/-- The bits of a configuration dword that a one clears: Status, Device Status, AER status, PME status, Lane Error Status. -/
def cfgW1c (d : Nat) : Dword :=
  match d with
  | 1 => 0xF9000000 | 17 => 0x00008000 | 30 => 0x000F0000 | 65 => 0x0FFFFFFF | 68 => 0x0000FFFF
  | 94 => 0x0000000F         -- Lane Error Status
  | _ => 0

/-- The dwords that stay through a hot reset or DL_Down: the sticky ones of PM and AER (R139, R170). -/
def cfgSticky (d : Nat) : Bool := decide (65 ≤ d ∧ d ≤ 74) || d == 94

/-- A configuration dword as stored. -/
def State.cfgD (s : State) (d : Nat) : Dword := Tab.get (cfgDefault d) s.txn.cfg d

def State.setCfg (s : State) (d : Nat) (v : Dword) : State :=
  { s with txn := { s.txn with cfg := Tab.set (cfgDefault d) s.txn.cfg d v } }

/-- Memory Space Enable, Bus Master Enable (R174, R184). -/
def State.mse (s : State) : Bool := (s.cfgD 1).getLsbD 1
def State.bme (s : State) : Bool := (s.cfgD 1).getLsbD 2
/-- PME_En (R185). -/
def State.pmeEn (s : State) : Bool := (s.cfgD 17).getLsbD 8
/-- Enable Relaxed Ordering (R187). -/
def State.relaxedOn (s : State) : Bool := (s.cfgD 30).getLsbD 4
/-- Max_Payload_Size and Max_Read_Request_Size in bytes (R183). -/
def State.mps (s : State) : Nat := 128 * 2 ^ ((s.cfgD 30).toNat / 32 % 8)
def State.mrrs (s : State) : Nat := min 4096 (128 * 2 ^ ((s.cfgD 30).toNat / 4096 % 8))
/-- The number of tags the device may have outstanding (R183). -/
def State.tagLimit (s : State) : Nat :=
  if (s.cfgD 38).getLsbD 12 then 256 else if (s.cfgD 30).getLsbD 8 then 256 else 32
/-- Completion Timeout Value and Disable (R190). -/
def State.ctoCode (s : State) : Nat := (s.cfgD 38).toNat % 16
def State.ctoDisable (s : State) : Bool := (s.cfgD 38).getLsbD 4
def State.atomicReqEn (s : State) : Bool := (s.cfgD 38).getLsbD 6
def State.ltrEn (s : State) : Bool := (s.cfgD 38).getLsbD 10
def State.msixEn (s : State) : Bool := (s.cfgD 44).getLsbD 31
def State.msixFmask (s : State) : Bool := (s.cfgD 44).getLsbD 30
def State.msiEn (s : State) : Bool := (s.cfgD 20).getLsbD 16
/-- The number of MSI messages allocated, 1 to 32. -/
def State.msiCount (s : State) : Nat := min 32 (2 ^ ((s.cfgD 20).toNat / 2 ^ 20 % 8))
def State.atsEn (s : State) : Bool := (s.cfgD 87).getLsbD 31
/-- A Max Latency register in µs, rounded down: its value times 32 to the power of its scale, in ns; none where it is zero
(R179; the coding is the standard's, PRESUMED, log entry 20). -/
def latencyUs (r : Nat) : Option Nat :=
  if r % 1024 = 0 then none else some (r % 1024 * 32 ^ (r / 1024 % 8) / 1000)
/-- ASPM control: L0s, L1 (R161, R162). -/
def State.aspmL0s (s : State) : Bool := (s.cfgD 32).getLsbD 0
def State.aspmL1 (s : State) : Bool := (s.cfgD 32).getLsbD 1

/-- The completion timeout in force in ticks of 2.5 ns (R190); a code that the table does not name counts as 0x0
(DESIGN CHOICE, log entry 21). -/
def State.ctoTicks (s : State) : Nat :=
  400 * (match s.ctoCode with
    | 0x1 => 80 | 0x2 => 8000 | 0x5 => 40000 | 0x6 => 160000 | 0x9 => 600000 | 0xA => 2500000
    | 0xD => 10000000 | 0xE => 40000000 | _ => 50000)

/-- An MSI-X table dword: the vector's mask bit is set after reset. -/
def msixDefault (d : Nat) : Dword := if d % 4 = 3 then 1 else 0
def State.msixD (s : State) (d : Nat) : Dword := Tab.get (msixDefault d) s.txn.msix d

end Sys2Proof.Machine
end

