-- ==== Sys2Proof/Machine/RegMap.lean ====
section
/-!
DEFINITION. The register map, row for row from the register tables of the chapters (R51, R84, R85, R126, R148, R173,
R205, R206, R240 to R243, R272, R273, R300, R332, R333, R371, R401, R428, R447): the name of each register as its
BAR0 byte offset, and one row a register with its elements, its reset value and the bits of each access code (R27).
-/

namespace Sys2Proof.Machine

/-- One row of a register table: byte offset in its block, elements (stride 4), reset value, and for each access code of
R27 the bits that have it; `only` is the mask of the elements that exist where not all do (0: all). -/
structure RegRow where
  base : Nat
  n    : Nat
  reset : Nat
  rw   : Nat := 0
  rwl  : Nat := 0
  ro   : Nat := 0
  w1c  : Nat := 0
  rc   : Nat := 0
  wo   : Nat := 0
  rwp  : Nat := 0
  mb   : Nat := 0
  only : Nat := 0
deriving DecidableEq, Repr

namespace Reg

abbrev PLN_PART : Nat := 0x000000  -- PLN_PART (R51). 
abbrev PLN_REV : Nat := 0x000004  -- PLN_REV (R51). 
abbrev PLN_ID_SEL : Nat := 0x000010  -- PLN_ID_SEL (R51). 
abbrev PLN_ID_STS : Nat := 0x000014  -- PLN_ID_STS (R51). 
abbrev PLN_ID_W (i : Nat) : Nat := 0x000018 + 4 * i  -- PLN_ID_W0–PLN_ID_W2 (R51). 
abbrev PLN_PAR_STS : Nat := 0x000030  -- PLN_PAR_STS (R51). 
abbrev PLN_PAR_BLK : Nat := 0x000034  -- PLN_PAR_BLK (R51). 
abbrev PLN_PAR_SLOT : Nat := 0x000038  -- PLN_PAR_SLOT (R51). 
abbrev PLN_PAR_HOLD : Nat := 0x00003C  -- PLN_PAR_HOLD (R51). 
abbrev PLN_PAR_CNT : Nat := 0x000040  -- PLN_PAR_CNT (R51). 
abbrev PLN_ACC_STS : Nat := 0x000050  -- PLN_ACC_STS (R51). 
abbrev PLN_ACC_BLK : Nat := 0x000054  -- PLN_ACC_BLK (R51). 
abbrev PLN_ACC_OFS : Nat := 0x000058  -- PLN_ACC_OFS (R51). 
abbrev PLN_PAIR_STS : Nat := 0x000060  -- PLN_PAIR_STS (R51). 
abbrev PLN_PAIR_LAST : Nat := 0x000064  -- PLN_PAIR_LAST (R51). 
abbrev PLN_SCRATCH : Nat := 0x000070  -- PLN_SCRATCH (R51). 
abbrev PLN_ISL_EN : Nat := 0x000100  -- PLN_ISL_EN (R84). 
abbrev PLN_EN_STS : Nat := 0x000104  -- PLN_EN_STS (R84). 
abbrev PLN_EN_REFUSE : Nat := 0x000108  -- PLN_EN_REFUSE (R84). 
abbrev PLN_WAKE_FILL : Nat := 0x000110  -- PLN_WAKE_FILL (R84). 
abbrev PLN_WAKE_DROP : Nat := 0x000114  -- PLN_WAKE_DROP (R84). 
abbrev PLN_WAKE_FAIL : Nat := 0x000118  -- PLN_WAKE_FAIL (R84). 
abbrev PLN_FPWR_V : Nat := 0x000120  -- PLN_FPWR_V (R84). 
abbrev PLN_FPWR_C : Nat := 0x000124  -- PLN_FPWR_C (R84). 
abbrev PLN_ISL_STATE (i : Nat) : Nat := 0x000140 + 4 * i  -- PLN_ISL_STATE[0–11] (R84). 
abbrev PLN_ISL_OPREQ (i : Nat) : Nat := 0x000180 + 4 * i  -- PLN_ISL_OPREQ[i], i = 1, 2, 3, 10 (R84). 
abbrev PLN_ISL_IDLE (i : Nat) : Nat := 0x0001C0 + 4 * i  -- PLN_ISL_IDLE[1–11] (R84). 
abbrev CLK_STS : Nat := 0x010000  -- CLK_STS (R85). 
abbrev CLK_EVT : Nat := 0x010004  -- CLK_EVT (R85). 
abbrev CLK_CTL : Nat := 0x010008  -- CLK_CTL (R85). 
abbrev CLK_JUDGE : Nat := 0x01000C  -- CLK_JUDGE (R85). 
abbrev CLK_FMC_CTL : Nat := 0x010010  -- CLK_FMC_CTL (R85). 
abbrev CLK_FMC_SEL : Nat := 0x010014  -- CLK_FMC_SEL (R85). 
abbrev CLK_FMC_STS : Nat := 0x010018  -- CLK_FMC_STS (R85). 
abbrev CLK_FMC_W (i : Nat) : Nat := 0x01001C + 4 * i  -- CLK_FMC_W0–CLK_FMC_W2 (R85). 
abbrev CLK_IRC_TRIM : Nat := 0x010030  -- CLK_IRC_TRIM (R85). 
abbrev ARM_SRC : Nat := 0x040000  -- ARM_SRC (R126). 
abbrev ARM_STS : Nat := 0x040004  -- ARM_STS (R126). 
abbrev ARM_EVT : Nat := 0x040008  -- ARM_EVT (R126). 
abbrev ARM_LOAD_CTL : Nat := 0x04000C  -- ARM_LOAD_CTL (R126). 
abbrev ARM_DATA : Nat := 0x040010  -- ARM_DATA (R126). 
abbrev ARM_PTR : Nat := 0x040014  -- ARM_PTR (R126). 
abbrev ARM_ERR : Nat := 0x040018  -- ARM_ERR (R126). 
abbrev ARM_ERR_WORD : Nat := 0x04001C  -- ARM_ERR_WORD (R126). 
abbrev ARM_MAQ : Nat := 0x040020  -- ARM_MAQ (R126). 
abbrev ARM_CMT_V : Nat := 0x040030  -- ARM_CMT_V (R126). 
abbrev ARM_CMT_C : Nat := 0x040034  -- ARM_CMT_C (R126). 
abbrev ARM_CMT_ERR : Nat := 0x040038  -- ARM_CMT_ERR (R126). 
abbrev ARM_INFO_SEL : Nat := 0x040040  -- ARM_INFO_SEL (R126). 
abbrev ARM_INFO_STS : Nat := 0x040044  -- ARM_INFO_STS (R126). 
abbrev ARM_INFO_W (i : Nat) : Nat := 0x040048 + 4 * i  -- ARM_INFO_W0–ARM_INFO_W2 (R126). 
abbrev ARM_FUSE_V : Nat := 0x040060  -- ARM_FUSE_V (R126). 
abbrev ARM_FUSE_C : Nat := 0x040064  -- ARM_FUSE_C (R126). 
abbrev ARM_FUSE_STS : Nat := 0x040068  -- ARM_FUSE_STS (R126). 
abbrev ARM_FUSE_SEL : Nat := 0x040070  -- ARM_FUSE_SEL (R126). 
abbrev ARM_FUSE_STS2 : Nat := 0x040074  -- ARM_FUSE_STS2 (R126). 
abbrev ARM_FUSE_W (i : Nat) : Nat := 0x040078 + 4 * i  -- ARM_FUSE_W0–ARM_FUSE_W2 (R126). 
abbrev PLN_RST_CAUSE : Nat := 0x000200  -- PLN_RST_CAUSE (R148). 
abbrev PLN_BOOT : Nat := 0x000204  -- PLN_BOOT (R148). 
abbrev PLN_READY_T : Nat := 0x000208  -- PLN_READY_T (R148). 
abbrev PLN_CMT_T : Nat := 0x00020C  -- PLN_CMT_T (R148). 
abbrev PLN_STRAP : Nat := 0x000210  -- PLN_STRAP (R148). 
abbrev PLN_ISL_RST : Nat := 0x000220  -- PLN_ISL_RST (R148). 
abbrev PLN_RST_LOST : Nat := 0x000224  -- PLN_RST_LOST (R148). 
abbrev PLN_PURGE_V : Nat := 0x000230  -- PLN_PURGE_V (R148). 
abbrev PLN_PURGE_C : Nat := 0x000234  -- PLN_PURGE_C (R148). 
abbrev HST_LINK_STS : Nat := 0x050000  -- HST_LINK_STS (R173). 
abbrev HST_LINK_EVT : Nat := 0x050004  -- HST_LINK_EVT (R173). 
abbrev HST_PHY_CTL : Nat := 0x050008  -- HST_PHY_CTL (R173). 
abbrev HST_DROP_STS : Nat := 0x05000C  -- HST_DROP_STS (R173). 
abbrev HST_RECOV_CNT : Nat := 0x050010  -- HST_RECOV_CNT (R173). 
abbrev HST_UPCFG_T : Nat := 0x050014  -- HST_UPCFG_T (R173). 
abbrev HST_EYE_PASS : Nat := 0x050018  -- HST_EYE_PASS (R173). 
abbrev HST_L0S_IDLE : Nat := 0x05001C  -- HST_L0S_IDLE (R173). 
abbrev HST_L1_IDLE : Nat := 0x050020  -- HST_L1_IDLE (R173). 
abbrev HST_LTR_CTL : Nat := 0x050024  -- HST_LTR_CTL (R173). 
abbrev HST_LTR_US : Nat := 0x050028  -- HST_LTR_US (R173). 
abbrev HST_UPCFG_STS : Nat := 0x05002C  -- HST_UPCFG_STS (R173). 
abbrev HST_EYE_CTL : Nat := 0x050030  -- HST_EYE_CTL (R173). 
abbrev HST_EYE_SEL : Nat := 0x050034  -- HST_EYE_SEL (R173). 
abbrev HST_EYE_STS : Nat := 0x050038  -- HST_EYE_STS (R173). 
abbrev HST_EYE_W (i : Nat) : Nat := 0x05003C + 4 * i  -- HST_EYE_W0–HST_EYE_W2 (R173). 
abbrev HST_EQ_MASK : Nat := 0x050048  -- HST_EQ_MASK (R173). 
abbrev HST_PRBS_CTL : Nat := 0x050050  -- HST_PRBS_CTL (R173). 
abbrev HST_PRBS_STS : Nat := 0x050054  -- HST_PRBS_STS (R173). 
abbrev HST_PRBS_SEL : Nat := 0x050058  -- HST_PRBS_SEL (R173). 
abbrev HST_PRBS_STS2 : Nat := 0x05005C  -- HST_PRBS_STS2 (R173). 
abbrev HST_PRBS_W (i : Nat) : Nat := 0x050060 + 4 * i  -- HST_PRBS_W0–HST_PRBS_W2 (R173). 
abbrev HST_LANE_STS (i : Nat) : Nat := 0x050080 + 4 * i  -- HST_LANE_STS[0–3] (R173). 
abbrev HST_LL_STS : Nat := 0x0500A0  -- HST_LL_STS (R173). 
abbrev HST_LL_DROP : Nat := 0x0500A4  -- HST_LL_DROP (R173). 
abbrev HST_TXN_EVT : Nat := 0x050100  -- HST_TXN_EVT (R205). 
abbrev HST_TAG_STS : Nat := 0x050104  -- HST_TAG_STS (R205). 
abbrev HST_CTO_CNT : Nat := 0x050108  -- HST_CTO_CNT (R205). 
abbrev HST_LATE_CNT : Nat := 0x05010C  -- HST_LATE_CNT (R205). 
abbrev HST_POISON_CNT : Nat := 0x050110  -- HST_POISON_CNT (R205). 
abbrev HST_CTO_LAST : Nat := 0x050114  -- HST_CTO_LAST (R205). 
abbrev HST_NOBM_DROP : Nat := 0x050118  -- HST_NOBM_DROP (R205). 
abbrev HST_ATC_STS : Nat := 0x050120  -- HST_ATC_STS (R205). 
abbrev HST_ATC_CTL : Nat := 0x050124  -- HST_ATC_CTL (R205). 
abbrev HST_ATC_MISS : Nat := 0x050128  -- HST_ATC_MISS (R205). 
abbrev HST_ATOMIC_CNT : Nat := 0x05012C  -- HST_ATOMIC_CNT (R205). 
abbrev HST_ATOMIC_FAIL : Nat := 0x050130  -- HST_ATOMIC_FAIL (R205). 
abbrev HST_SPL : Nat := 0x050134  -- HST_SPL (R205). 
abbrev MEM_ECC_STS : Nat := 0x120000  -- MEM_ECC_STS (R206). 
abbrev MEM_CE_ADDR : Nat := 0x120004  -- MEM_CE_ADDR (R206). 
abbrev MEM_UE_ADDR : Nat := 0x120008  -- MEM_UE_ADDR (R206). 
abbrev MEM_UE_CNT : Nat := 0x12000C  -- MEM_UE_CNT (R206). 
abbrev MEM_ECC_CTL : Nat := 0x120010  -- MEM_ECC_CTL (R206). 
abbrev MEM_SCRUB_CTL : Nat := 0x120014  -- MEM_SCRUB_CTL (R206). 
abbrev MEM_SCRUB_PASS : Nat := 0x120018  -- MEM_SCRUB_PASS (R206). 
abbrev MEM_CE_CNT (i : Nat) : Nat := 0x120020 + 4 * i  -- MEM_CE_CNT[0–7] (R206). 
abbrev CHN_P (i : Nat) : Nat := 0x090000 + 4 * i  -- CHN_P[0–15] (R240). 
abbrev CHN_HANDLE : Nat := 0x090040  -- CHN_HANDLE (R240). 
abbrev CHN_OP : Nat := 0x090044  -- CHN_OP (R240). 
abbrev CHN_OPSTS : Nat := 0x090048  -- CHN_OPSTS (R240). 
abbrev CHN_RES_SEL : Nat := 0x090050  -- CHN_RES_SEL (R240). 
abbrev CHN_RES_STS : Nat := 0x090054  -- CHN_RES_STS (R240). 
abbrev CHN_RES_W (i : Nat) : Nat := 0x090058 + 4 * i  -- CHN_RES_W0–CHN_RES_W2 (R240). 
abbrev CHN_STATE (i : Nat) : Nat := 0x090100 + 4 * i  -- CHN_STATE[0–127] (R240). 
abbrev QUE_CMD : Nat := 0x060000  -- QUE_CMD (R241). 
abbrev QUE_MB_SEL : Nat := 0x060010  -- QUE_MB_SEL (R241). 
abbrev QUE_MB_STS : Nat := 0x060014  -- QUE_MB_STS (R241). 
abbrev QUE_MB_W (i : Nat) : Nat := 0x060018 + 4 * i  -- QUE_MB_W0–QUE_MB_W2 (R241). 
abbrev QUE_EVT : Nat := 0x060040  -- QUE_EVT (R241). 
abbrev QUE_FAULTQ : Nat := 0x060044  -- QUE_FAULTQ (R241). 
abbrev QUE_STAGE : Nat := 0x060048  -- QUE_STAGE (R241). 
abbrev QUE_STS (i : Nat) : Nat := 0x062000 + 4 * i  -- QUE_STS[0–2047] (R241). 
abbrev EVT_PEND (i : Nat) : Nat := 0x070000 + 4 * i  -- EVT_PEND[0–31] (R242). 
abbrev EVT_MASK (i : Nat) : Nat := 0x070100 + 4 * i  -- EVT_MASK[0–31] (R242). 
abbrev EVT_MODE : Nat := 0x070200  -- EVT_MODE (R242). 
abbrev EVT_VEC (i : Nat) : Nat := 0x070400 + 4 * i  -- EVT_VEC[1–127] (R242). 
abbrev EVT_ROUTE (i : Nat) : Nat := 0x071000 + 4 * i  -- EVT_ROUTE[0–575] (R242). 
abbrev LCK (i : Nat) : Nat := 0x080000 + 4 * i  -- LCK[0–63] (R243). 
abbrev LCK_PEEK (i : Nat) : Nat := 0x080100 + 4 * i  -- LCK_PEEK[0–63] (R243). 
abbrev LCK_STS : Nat := 0x080200  -- LCK_STS (R243). 
abbrev LCK_FOREIGN : Nat := 0x080204  -- LCK_FOREIGN (R243). 
abbrev TMP_CAD_STS : Nat := 0x030000  -- TMP_CAD_STS (R272). 
abbrev TMP_CAD_LEN : Nat := 0x030004  -- TMP_CAD_LEN (R272). 
abbrev TMP_CAD_CNT : Nat := 0x030008  -- TMP_CAD_CNT (R272). 
abbrev TMP_QUOTA : Nat := 0x03000C  -- TMP_QUOTA (R272). 
abbrev TMP_MB_SEL : Nat := 0x030010  -- TMP_MB_SEL (R272). 
abbrev TMP_MB_STS : Nat := 0x030014  -- TMP_MB_STS (R272). 
abbrev TMP_MB_W (i : Nat) : Nat := 0x030018 + 4 * i  -- TMP_MB_W0–TMP_MB_W2 (R272). 
abbrev TMP_PREEMPT (i : Nat) : Nat := 0x030040 + 4 * i  -- TMP_PREEMPT[0–15] (R272). 
abbrev NRG_STS : Nat := 0x020000  -- NRG_STS (R273). 
abbrev NRG_EVT : Nat := 0x020004  -- NRG_EVT (R273). 
abbrev NRG_CEIL : Nat := 0x020008  -- NRG_CEIL (R273). 
abbrev NRG_CEIL_DRV : Nat := 0x02000C  -- NRG_CEIL_DRV (R273). 
abbrev NRG_CTL : Nat := 0x020010  -- NRG_CTL (R273). 
abbrev NRG_POWER : Nat := 0x020014  -- NRG_POWER (R273). 
abbrev NRG_FORECAST : Nat := 0x020018  -- NRG_FORECAST (R273). 
abbrev NRG_FIRE_EST : Nat := 0x02001C  -- NRG_FIRE_EST (R273). 
abbrev NRG_DEFER : Nat := 0x020020  -- NRG_DEFER (R273). 
abbrev NRG_REFUSED : Nat := 0x020024  -- NRG_REFUSED (R273). 
abbrev NRG_MB_SEL : Nat := 0x020030  -- NRG_MB_SEL (R273). 
abbrev NRG_MB_STS : Nat := 0x020034  -- NRG_MB_STS (R273). 
abbrev NRG_MB_W (i : Nat) : Nat := 0x020038 + 4 * i  -- NRG_MB_W0–NRG_MB_W2 (R273). 
abbrev ENC_CTL (i : Nat) : Nat := 0x0A0000 + 4 * i  -- ENC_CTL[0–7] (R300). 
abbrev ENC_STS (i : Nat) : Nat := 0x0A0020 + 4 * i  -- ENC_STS[0–7] (R300). 
abbrev ENC_EVT (i : Nat) : Nat := 0x0A0040 + 4 * i  -- ENC_EVT[0–7] (R300). 
abbrev ENC_ILL_THR (i : Nat) : Nat := 0x0A0060 + 4 * i  -- ENC_ILL_THR[0–7] (R300). 
abbrev ENC_ILL_CNT (i : Nat) : Nat := 0x0A0080 + 4 * i  -- ENC_ILL_CNT[0–7] (R300). 
abbrev ENC_CONTRARY (i : Nat) : Nat := 0x0A00A0 + 4 * i  -- ENC_CONTRARY[0–7] (R300). 
abbrev LEV_STS : Nat := 0x0A0100  -- LEV_STS (R300). 
abbrev LEV_CTL (i : Nat) : Nat := 0x0A0140 + 4 * i  -- LEV_CTL[0–15] (R300). 
abbrev SE_CTL (i : Nat) : Nat := 0x0A0180 + 4 * i  -- SE_CTL[0–3] (R300). 
abbrev VE_CTL (i : Nat) : Nat := 0x0A0200 + 4 * i  -- VE_CTL[0–31] (R300). 
abbrev VE_STS (i : Nat) : Nat := 0x0A0280 + 4 * i  -- VE_STS[0–31] (R300). 
abbrev VE_AMAX (i : Nat) : Nat := 0x0A0300 + 4 * i  -- VE_AMAX[0–31] (R300). 
abbrev VE_STILL (i : Nat) : Nat := 0x0A0380 + 4 * i  -- VE_STILL[0–31] (R300). 
abbrev VE_REF (i : Nat) : Nat := 0x0A0400 + 4 * i  -- VE_REF[0–31] (R300). 
abbrev SLIP_CFG (i : Nat) : Nat := 0x0A0500 + 4 * i  -- SLIP_CFG[0–7] (R300). 
abbrev SLIP_THR (i : Nat) : Nat := 0x0A0520 + 4 * i  -- SLIP_THR[0–7] (R300). 
abbrev MOT_MB_SEL : Nat := 0x0A0600  -- MOT_MB_SEL (R300). 
abbrev MOT_MB_STS : Nat := 0x0A0604  -- MOT_MB_STS (R300). 
abbrev MOT_MB_W (i : Nat) : Nat := 0x0A0608 + 4 * i  -- MOT_MB_W0–MOT_MB_W2 (R300). 
abbrev TQ_STS (q : Nat) : Nat := 0x0B0000 + 0x10000 * q + 0x0000  -- TQ_STS (R332). 
abbrev TQ_PWR_V (q : Nat) : Nat := 0x0B0000 + 0x10000 * q + 0x0010  -- TQ_PWR_V (R332). 
abbrev TQ_PWR_C (q : Nat) : Nat := 0x0B0000 + 0x10000 * q + 0x0014  -- TQ_PWR_C (R332). 
abbrev TQ_PGDT (q : Nat) : Nat := 0x0B0000 + 0x10000 * q + 0x0018  -- TQ_PGDT (R332). 
abbrev HP_CFG (q i : Nat) : Nat := 0x0B0000 + 0x10000 * q + 0x0020 + 4 * i  -- HP_CFG[0–7] (R332). 
abbrev HP_CTL (q i : Nat) : Nat := 0x0B0000 + 0x10000 * q + 0x0040 + 4 * i  -- HP_CTL[0–7] (R332). 
abbrev HP_STS (q i : Nat) : Nat := 0x0B0000 + 0x10000 * q + 0x0060 + 4 * i  -- HP_STS[0–7] (R332). 
abbrev HP_EVT (q i : Nat) : Nat := 0x0B0000 + 0x10000 * q + 0x0080 + 4 * i  -- HP_EVT[0–7] (R332). 
abbrev HP_LAT (q i : Nat) : Nat := 0x0B0000 + 0x10000 * q + 0x00A0 + 4 * i  -- HP_LAT[0–7] (R332). 
abbrev HP_MINFI (q i : Nat) : Nat := 0x0B0000 + 0x10000 * q + 0x00C0 + 4 * i  -- HP_MINFI[0–7] (R332). 
abbrev HP_TRGW (q i : Nat) : Nat := 0x0B0000 + 0x10000 * q + 0x00E0 + 4 * i  -- HP_TRGW[0–7] (R332). 
abbrev HP_STBLEAD (q i : Nat) : Nat := 0x0B0000 + 0x10000 * q + 0x0100 + 4 * i  -- HP_STBLEAD[0–7] (R332). 
abbrev HP_LATE (q i : Nat) : Nat := 0x0B0000 + 0x10000 * q + 0x0120 + 4 * i  -- HP_LATE[0–7] (R332). 
abbrev TQ_MB_SEL (q : Nat) : Nat := 0x0B0000 + 0x10000 * q + 0x0180  -- TQ_MB_SEL (R332). 
abbrev TQ_MB_STS (q : Nat) : Nat := 0x0B0000 + 0x10000 * q + 0x0184  -- TQ_MB_STS (R332). 
abbrev TQ_MB_W (q k : Nat) : Nat := 0x0B0000 + 0x10000 * q + 0x0188 + 4 * k  -- TQ_MB_W0–TQ_MB_W2 (R332). 
abbrev PLN_QF_STS (i : Nat) : Nat := 0x000300 + 4 * i  -- PLN_QF_STS[0–3] (R333). 
abbrev PLN_QF_LOST (i : Nat) : Nat := 0x000310 + 4 * i  -- PLN_QF_LOST[0–3] (R333). 
abbrev PLN_QF_CTL : Nat := 0x000320  -- PLN_QF_CTL (R333). 
abbrev RNG_STS : Nat := 0x110000  -- RNG_STS (R371). 
abbrev RNG_EVT0 : Nat := 0x110004  -- RNG_EVT0 (R371). 
abbrev RNG_EVT1 : Nat := 0x110008  -- RNG_EVT1 (R371). 
abbrev RNG_CTL : Nat := 0x11000C  -- RNG_CTL (R371). 
abbrev RNG_JOIN : Nat := 0x110010  -- RNG_JOIN (R371). 
abbrev RNG_NODE : Nat := 0x110014  -- RNG_NODE (R371). 
abbrev RNG_MEMBERS : Nat := 0x110018  -- RNG_MEMBERS (R371). 
abbrev RNG_MISSING : Nat := 0x11001C  -- RNG_MISSING (R371). 
abbrev RNG_LEAVE_V : Nat := 0x110020  -- RNG_LEAVE_V (R371). 
abbrev RNG_LEAVE_C : Nat := 0x110024  -- RNG_LEAVE_C (R371). 
abbrev RNG_GAPQ : Nat := 0x110028  -- RNG_GAPQ (R371). 
abbrev RNG_DEV : Nat := 0x11002C  -- RNG_DEV (R371). 
abbrev RNG_LANE_STS (i : Nat) : Nat := 0x110030 + 4 * i  -- RNG_LANE_STS[0–1] (R371). 
abbrev RNG_ASYM : Nat := 0x110038  -- RNG_ASYM (R371). 
abbrev RNG_GE_STS : Nat := 0x110040  -- RNG_GE_STS (R371). 
abbrev RNG_CRC_CNT : Nat := 0x110044  -- RNG_CRC_CNT (R371). 
abbrev RNG_MB_SEL : Nat := 0x110050  -- RNG_MB_SEL (R371). 
abbrev RNG_MB_STS : Nat := 0x110054  -- RNG_MB_STS (R371). 
abbrev RNG_MB_W (i : Nat) : Nat := 0x110058 + 4 * i  -- RNG_MB_W0–RNG_MB_W2 (R371). 
abbrev FB_CTL (c : Nat) : Nat := 0x0F0000 + 0x100 * c  -- FB_CTL[c] (R401). 
abbrev FB_STS (c : Nat) : Nat := 0x0F0004 + 0x100 * c  -- FB_STS[c] (R401). 
abbrev FB_EVT (c : Nat) : Nat := 0x0F0008 + 0x100 * c  -- FB_EVT[c] (R401). 
abbrev FB_TEC (c : Nat) : Nat := 0x0F000C + 0x100 * c  -- FB_TEC[c] (R401). 
abbrev FB_REC (c : Nat) : Nat := 0x0F0010 + 0x100 * c  -- FB_REC[c] (R401). 
abbrev FB_BOCNT (c : Nat) : Nat := 0x0F0014 + 0x100 * c  -- FB_BOCNT[c] (R401). 
abbrev FB_BUSOFFS (c : Nat) : Nat := 0x0F0018 + 0x100 * c  -- FB_BUSOFFS[c] (R401). 
abbrev FB_RXDROP (c : Nat) : Nat := 0x0F001C + 0x100 * c  -- FB_RXDROP[c] (R401). 
abbrev FB_TXDISC (c : Nat) : Nat := 0x0F0020 + 0x100 * c  -- FB_TXDISC[c] (R401). 
abbrev FB_TDC (c : Nat) : Nat := 0x0F0024 + 0x100 * c  -- FB_TDC[c] (R401). 
abbrev FB_TERM (c : Nat) : Nat := 0x0F0028 + 0x100 * c  -- FB_TERM[c] (R401). 
abbrev FB_LINE (c : Nat) : Nat := 0x0F002C + 0x100 * c  -- FB_LINE[c] (R401). 
abbrev FB_ERRCNT (c : Nat) : Nat := 0x0F0030 + 0x100 * c  -- FB_ERRCNT[c] (R401). 
abbrev FB_RXQ (c k : Nat) : Nat := 0x0F0040 + 0x100 * c + 4 * k  -- FB_RXQ[c][0–3] (R401). 
abbrev FB_TXQ (c k : Nat) : Nat := 0x0F0050 + 0x100 * c + 4 * k  -- FB_TXQ[c][0–1] (R401). 
abbrev FB_TXREQ (c k : Nat) : Nat := 0x0F0060 + 0x100 * c + 4 * k  -- FB_TXREQ[c][0–3] (R401). 
abbrev FB_TXDONE (c k : Nat) : Nat := 0x0F0070 + 0x100 * c + 4 * k  -- FB_TXDONE[c][0–3] (R401). 
abbrev FB_TXFAIL (c k : Nat) : Nat := 0x0F0080 + 0x100 * c + 4 * k  -- FB_TXFAIL[c][0–3] (R401). 
abbrev FB_TXB_SEL : Nat := 0x0F0400  -- FB_TXB_SEL (R401). 
abbrev FB_PART : Nat := 0x0F0404  -- FB_PART (R401). 
abbrev FB_STAGE : Nat := 0x0F0408  -- FB_STAGE (R401). 
abbrev FB_TXB_W (i : Nat) : Nat := 0x0F0480 + 4 * i  -- FB_TXB_W[0–35] (R401). 
abbrev SAT_STS : Nat := 0x100000  -- SAT_STS (R428). 
abbrev SAT_EVT : Nat := 0x100004  -- SAT_EVT (R428). 
abbrev SAT_CTL : Nat := 0x100008  -- SAT_CTL (R428). 
abbrev SAT_TTO : Nat := 0x10000C  -- SAT_TTO (R428). 
abbrev SAT_LOCKMAX : Nat := 0x100010  -- SAT_LOCKMAX (R428). 
abbrev SAT_FENCE : Nat := 0x100014  -- SAT_FENCE (R428). 
abbrev SAT_LKSTS : Nat := 0x100018  -- SAT_LKSTS (R428). 
abbrev SAT_WERR_CNT : Nat := 0x100020  -- SAT_WERR_CNT (R428). 
abbrev SAT_PARTIAL_CNT : Nat := 0x100024  -- SAT_PARTIAL_CNT (R428). 
abbrev SAT_SPLIT_DROP : Nat := 0x100028  -- SAT_SPLIT_DROP (R428). 
abbrev SAT_HDROP_CNT : Nat := 0x10002C  -- SAT_HDROP_CNT (R428). 
abbrev SAT_FENCE_DROP : Nat := 0x100030  -- SAT_FENCE_DROP (R428). 
abbrev SAT_PAR_CNT : Nat := 0x100034  -- SAT_PAR_CNT (R428). 
abbrev SAT_MB_SEL : Nat := 0x100040  -- SAT_MB_SEL (R428). 
abbrev SAT_MB_STS : Nat := 0x100044  -- SAT_MB_STS (R428). 
abbrev SAT_MB_W (i : Nat) : Nat := 0x100048 + 4 * i  -- SAT_MB_W0–SAT_MB_W2 (R428). 
abbrev MON_CTL : Nat := 0x130000  -- MON_CTL (R447). 
abbrev MON_STS : Nat := 0x130004  -- MON_STS (R447). 
abbrev MON_EVT : Nat := 0x130008  -- MON_EVT (R447). 
abbrev MON_CMD_CNT : Nat := 0x13000C  -- MON_CMD_CNT (R447). 
abbrev MON_ERR_CNT : Nat := 0x130010  -- MON_ERR_CNT (R447). 
abbrev MON_EVDROP : Nat := 0x130014  -- MON_EVDROP (R447). 

end Reg

/-- The rows of block PLN. -/
def plnRows : List RegRow :=
  [{ base := 0x0000, n := 1, reset := 0x03218, ro := 0x3FFFF },
   { base := 0x0004, n := 1, reset := 0x000B0, ro := 0x001FF },
   { base := 0x0010, n := 1, reset := 0x00000, rw := 0x3FFFF },
   { base := 0x0014, n := 1, reset := 0x00000, ro := 0x0000F },
   { base := 0x0018, n := 3, reset := 0x00000, mb := 0x3FFFF },
   { base := 0x0030, n := 1, reset := 0x00000, w1c := 0x00003 },
   { base := 0x0034, n := 1, reset := 0x00000, ro := 0x00FFF },
   { base := 0x0038, n := 1, reset := 0x00000, ro := 0x00FFF },
   { base := 0x003C, n := 1, reset := 0x00000, w1c := 0x00FFE },
   { base := 0x0040, n := 1, reset := 0x00000, rc := 0x3FFFF },
   { base := 0x0050, n := 1, reset := 0x00000, w1c := 0x00007 },
   { base := 0x0054, n := 1, reset := 0x00000, ro := 0x07FFF },
   { base := 0x0058, n := 1, reset := 0x00000, ro := 0x0FFFF },
   { base := 0x0060, n := 1, reset := 0x00000, w1c := 0x00003 },
   { base := 0x0064, n := 1, reset := 0x00000, ro := 0x003FF },
   { base := 0x0070, n := 1, reset := 0x00000, rw := 0x3FFFF },
   { base := 0x0100, n := 1, reset := 0x00000, rw := 0x00FFE },
   { base := 0x0104, n := 1, reset := 0x00000, w1c := 0x00003 },
   { base := 0x0108, n := 1, reset := 0x00000, ro := 0x0007F },
   { base := 0x0110, n := 1, reset := 0x00000, ro := 0x0003F },
   { base := 0x0114, n := 1, reset := 0x00000, rc := 0x3FFFF },
   { base := 0x0118, n := 1, reset := 0x00000, rc := 0x3FFFF },
   { base := 0x0120, n := 1, reset := 0x00000, rwp := 0x0003F },
   { base := 0x0124, n := 1, reset := 0x00000, rwp := 0x3FFFF },
   { base := 0x0140, n := 12, reset := 0x00000, ro := 0x002FF, w1c := 0x00100 },
   { base := 0x0180, n := 12, reset := 0x00001, rw := 0x00003, only := 0x40E },
   { base := 0x01C0, n := 12, reset := 0x00000, rw := 0x3FFFF, only := 0xFFE },
   { base := 0x0200, n := 1, reset := 0x00001, w1c := 0x001FF },
   { base := 0x0204, n := 1, reset := 0x00000, ro := 0x001FF },
   { base := 0x0208, n := 1, reset := 0x00000, ro := 0x3FFFF },
   { base := 0x020C, n := 1, reset := 0x00000, ro := 0x3FFFF },
   { base := 0x0210, n := 1, reset := 0x00000, ro := 0x0000F },
   { base := 0x0220, n := 1, reset := 0x00000, wo := 0x0001F },
   { base := 0x0224, n := 1, reset := 0x00000, rc := 0x3FFFF },
   { base := 0x0230, n := 1, reset := 0x00000, rwp := 0x00003 },
   { base := 0x0234, n := 1, reset := 0x00000, rwp := 0x3FFFF },
   { base := 0x0300, n := 4, reset := 0x00000, ro := 0x000FF },
   { base := 0x0310, n := 4, reset := 0x00000, rc := 0x3FFFF },
   { base := 0x0320, n := 1, reset := 0x00000, wo := 0x0000F }]

/-- The rows of block CLK. -/
def clkRows : List RegRow :=
  [{ base := 0x0000, n := 1, reset := 0x00010, ro := 0x0001F },
   { base := 0x0004, n := 1, reset := 0x00000, w1c := 0x00003 },
   { base := 0x0008, n := 1, reset := 0x00000, rw := 0x00001, wo := 0x00002 },
   { base := 0x000C, n := 1, reset := 0x00000, ro := 0x0003F },
   { base := 0x0010, n := 1, reset := 0x00000, rw := 0x01FFF, wo := 0x02000, ro := 0x0C000 },
   { base := 0x0014, n := 1, reset := 0x00000, rw := 0x3FFFF },
   { base := 0x0018, n := 1, reset := 0x00000, ro := 0x0000F },
   { base := 0x001C, n := 3, reset := 0x00000, mb := 0x3FFFF },
   { base := 0x0030, n := 1, reset := 0x00000, ro := 0x000FF }]

/-- The rows of block NRG. -/
def nrgRows : List RegRow :=
  [{ base := 0x0000, n := 1, reset := 0x00000, ro := 0x0007F },
   { base := 0x0004, n := 1, reset := 0x00000, w1c := 0x00003 },
   { base := 0x0008, n := 1, reset := 0x034BC, ro := 0x03FFF },
   { base := 0x000C, n := 1, reset := 0x00000, rwl := 0x03FFF },
   { base := 0x0010, n := 1, reset := 0x00000, rw := 0x00001 },
   { base := 0x0014, n := 1, reset := 0x00000, ro := 0x3FFFF },
   { base := 0x0018, n := 1, reset := 0x00000, ro := 0x3FFFF },
   { base := 0x001C, n := 1, reset := 0x003E8, rw := 0x3FFFF },
   { base := 0x0020, n := 1, reset := 0x00000, ro := 0x0001F },
   { base := 0x0024, n := 1, reset := 0x00000, rc := 0x3FFFF },
   { base := 0x0030, n := 1, reset := 0x00000, rw := 0x3FFFF },
   { base := 0x0034, n := 1, reset := 0x00000, ro := 0x0000F },
   { base := 0x0038, n := 3, reset := 0x00000, mb := 0x3FFFF }]

/-- The rows of block TMP. -/
def tmpRows : List RegRow :=
  [{ base := 0x0000, n := 1, reset := 0x00000, ro := 0x00007 },
   { base := 0x0004, n := 1, reset := 0x00064, ro := 0x007FF },
   { base := 0x0008, n := 1, reset := 0x00000, ro := 0x3FFFF },
   { base := 0x000C, n := 1, reset := 0x00008, ro := 0x0000F },
   { base := 0x0010, n := 1, reset := 0x00000, rw := 0x3FFFF },
   { base := 0x0014, n := 1, reset := 0x00000, ro := 0x0000F },
   { base := 0x0018, n := 3, reset := 0x00000, mb := 0x3FFFF },
   { base := 0x0040, n := 16, reset := 0x00000, rc := 0x3FFFF }]

/-- The rows of block ARM. -/
def armRows : List RegRow :=
  [{ base := 0x0000, n := 1, reset := 0x0000F, rwl := 0x0000F, rw := 0x00010 },
   { base := 0x0004, n := 1, reset := 0x00100, ro := 0x07FFF },
   { base := 0x0008, n := 1, reset := 0x00000, w1c := 0x000FF },
   { base := 0x000C, n := 1, reset := 0x00000, wo := 0x0003F },
   { base := 0x0010, n := 1, reset := 0x00000, wo := 0x3FFFF },
   { base := 0x0014, n := 1, reset := 0x00000, ro := 0x3FFFF },
   { base := 0x0018, n := 1, reset := 0x00000, ro := 0x001FF },
   { base := 0x001C, n := 1, reset := 0x00000, ro := 0x3FFFF },
   { base := 0x0020, n := 1, reset := 0x00000, rw := 0x00001 },
   { base := 0x0030, n := 1, reset := 0x00000, rwp := 0x3FFFF },
   { base := 0x0034, n := 1, reset := 0x00000, rwp := 0x3FFFF },
   { base := 0x0038, n := 1, reset := 0x00000, ro := 0x0007F },
   { base := 0x0040, n := 1, reset := 0x00000, rw := 0x3FFFF },
   { base := 0x0044, n := 1, reset := 0x00000, ro := 0x0000F },
   { base := 0x0048, n := 3, reset := 0x00000, mb := 0x3FFFF },
   { base := 0x0060, n := 1, reset := 0x00000, rwp := 0x0001F },
   { base := 0x0064, n := 1, reset := 0x00000, rwp := 0x3FFFF },
   { base := 0x0068, n := 1, reset := 0x00000, ro := 0x00001, w1c := 0x00002 },
   { base := 0x0070, n := 1, reset := 0x00000, rw := 0x3FFFF },
   { base := 0x0074, n := 1, reset := 0x00000, ro := 0x0000F },
   { base := 0x0078, n := 3, reset := 0x00000, mb := 0x3FFFF }]

/-- The rows of block HST. -/
def hstRows : List RegRow :=
  [{ base := 0x0000, n := 1, reset := 0x00000, ro := 0x3FFFF },
   { base := 0x0004, n := 1, reset := 0x00000, w1c := 0x003FF },
   { base := 0x0008, n := 1, reset := 0x0009B, rw := 0x000DF, wo := 0x00020 },
   { base := 0x000C, n := 1, reset := 0x00000, ro := 0x000FF },
   { base := 0x0010, n := 1, reset := 0x00000, rc := 0x3FFFF },
   { base := 0x0014, n := 1, reset := 0x0000A, rw := 0x3FFFF },
   { base := 0x0018, n := 1, reset := 0x003D0, rw := 0x03FFF },
   { base := 0x001C, n := 1, reset := 0x00007, rw := 0x00007 },
   { base := 0x0020, n := 1, reset := 0x00064, rw := 0x3FFFF },
   { base := 0x0024, n := 1, reset := 0x00001, rw := 0x00001, wo := 0x00002 },
   { base := 0x0028, n := 1, reset := 0x003E8, rw := 0x3FFFF },
   { base := 0x002C, n := 1, reset := 0x00000, ro := 0x00003 },
   { base := 0x0030, n := 1, reset := 0x00000, rw := 0x00023, wo := 0x00004, ro := 0x00018 },
   { base := 0x0034, n := 1, reset := 0x00000, rw := 0x3FFFF },
   { base := 0x0038, n := 1, reset := 0x00000, ro := 0x0000F },
   { base := 0x003C, n := 3, reset := 0x00000, mb := 0x3FFFF },
   { base := 0x0048, n := 1, reset := 0x007FF, rw := 0x007FF },
   { base := 0x0050, n := 1, reset := 0x00000, rw := 0x003FF, wo := 0x00400 },
   { base := 0x0054, n := 1, reset := 0x00000, ro := 0x0003F },
   { base := 0x0058, n := 1, reset := 0x00000, rw := 0x3FFFF },
   { base := 0x005C, n := 1, reset := 0x00000, ro := 0x0000F },
   { base := 0x0060, n := 3, reset := 0x00000, mb := 0x3FFFF },
   { base := 0x0080, n := 4, reset := 0x00000, ro := 0x00FFF, rc := 0x3F000 },
   { base := 0x00A0, n := 1, reset := 0x00000, ro := 0x00007 },
   { base := 0x00A4, n := 1, reset := 0x00000, rc := 0x3FFFF },
   { base := 0x0100, n := 1, reset := 0x00000, w1c := 0x0003F },
   { base := 0x0104, n := 1, reset := 0x00000, ro := 0x3FFFF },
   { base := 0x0108, n := 1, reset := 0x00000, rc := 0x3FFFF },
   { base := 0x010C, n := 1, reset := 0x00000, rc := 0x3FFFF },
   { base := 0x0110, n := 1, reset := 0x00000, rc := 0x3FFFF },
   { base := 0x0114, n := 1, reset := 0x00000, ro := 0x01FFF },
   { base := 0x0118, n := 1, reset := 0x00000, rc := 0x3FFFF },
   { base := 0x0120, n := 1, reset := 0x00000, ro := 0x01FFF },
   { base := 0x0124, n := 1, reset := 0x00000, wo := 0x00001 },
   { base := 0x0128, n := 1, reset := 0x00000, rc := 0x3FFFF },
   { base := 0x012C, n := 1, reset := 0x00000, rc := 0x3FFFF },
   { base := 0x0130, n := 1, reset := 0x00000, rc := 0x3FFFF },
   { base := 0x0134, n := 1, reset := 0x00000, ro := 0x3FFFF }]

/-- The rows of block QUE. -/
def queRows : List RegRow :=
  [{ base := 0x0000, n := 1, reset := 0x00000, wo := 0x03FFF },
   { base := 0x0010, n := 1, reset := 0x00000, rw := 0x3FFFF },
   { base := 0x0014, n := 1, reset := 0x00000, ro := 0x0000F },
   { base := 0x0018, n := 3, reset := 0x00000, mb := 0x3FFFF },
   { base := 0x0040, n := 1, reset := 0x00000, w1c := 0x0FFFF },
   { base := 0x0044, n := 1, reset := 0x00000, ro := 0x07FFF },
   { base := 0x0048, n := 1, reset := 0x00000, ro := 0x01FFF },
   { base := 0x2000, n := 2048, reset := 0x00000, ro := 0x007FF }]

/-- The rows of block EVT. -/
def evtRows : List RegRow :=
  [{ base := 0x0000, n := 32, reset := 0x00000, w1c := 0x3FFFF },
   { base := 0x0100, n := 32, reset := 0x3FFFF, rw := 0x3FFFF },
   { base := 0x0200, n := 1, reset := 0x00000, ro := 0x00003 },
   { base := 0x0404, n := 127, reset := 0x00000, rw := 0x3FFFF },
   { base := 0x1000, n := 576, reset := 0x00001, rw := 0x0007F, ro := 0x00080 }]

/-- The rows of block LCK. -/
def lckRows : List RegRow :=
  [{ base := 0x0000, n := 64, reset := 0x0001E, ro := 0x00FFC, wo := 0x00003 },
   { base := 0x0100, n := 64, reset := 0x0001E, ro := 0x00FFF },
   { base := 0x0200, n := 1, reset := 0x00000, w1c := 0x00003 },
   { base := 0x0204, n := 1, reset := 0x00000, ro := 0x001FF }]

/-- The rows of block CHN. -/
def chnRows : List RegRow :=
  [{ base := 0x0000, n := 16, reset := 0x00000, rw := 0x3FFFF },
   { base := 0x0040, n := 1, reset := 0x00000, rw := 0x3FFFF },
   { base := 0x0044, n := 1, reset := 0x00000, wo := 0x00007 },
   { base := 0x0048, n := 1, reset := 0x00000, ro := 0x00001, w1c := 0x00002 },
   { base := 0x0050, n := 1, reset := 0x00000, rw := 0x3FFFF },
   { base := 0x0054, n := 1, reset := 0x00000, ro := 0x0000F },
   { base := 0x0058, n := 3, reset := 0x00000, mb := 0x3FFFF },
   { base := 0x0100, n := 128, reset := 0x00008, ro := 0x03FFF }]

/-- The rows of block MOT. -/
def motRows : List RegRow :=
  [{ base := 0x0000, n := 8, reset := 0x00000, rw := 0x00007, wo := 0x00008 },
   { base := 0x0020, n := 8, reset := 0x00000, ro := 0x01FFF },
   { base := 0x0040, n := 8, reset := 0x00000, w1c := 0x00FFF },
   { base := 0x0060, n := 8, reset := 0x00010, rw := 0x3FFFF },
   { base := 0x0080, n := 8, reset := 0x00000, rc := 0x3FFFF },
   { base := 0x00A0, n := 8, reset := 0x00400, rw := 0x3FFFF },
   { base := 0x0100, n := 1, reset := 0x00000, ro := 0x0FFFF },
   { base := 0x0140, n := 16, reset := 0x00000, rw := 0x0007F },
   { base := 0x0180, n := 4, reset := 0x00000, rw := 0x00003 },
   { base := 0x0200, n := 32, reset := 0x00000, rw := 0x00007, wo := 0x00008 },
   { base := 0x0280, n := 32, reset := 0x00000, ro := 0x000FF },
   { base := 0x0300, n := 32, reset := 0x00000, rw := 0x3FFFF },
   { base := 0x0380, n := 32, reset := 0x00064, rw := 0x3FFFF },
   { base := 0x0400, n := 32, reset := 0x00000, rw := 0x000FF },
   { base := 0x0500, n := 8, reset := 0x00000, rw := 0x007FF, ro := 0x00800 },
   { base := 0x0520, n := 8, reset := 0x00000, rw := 0x3FFFF },
   { base := 0x0600, n := 1, reset := 0x00000, rw := 0x3FFFF },
   { base := 0x0604, n := 1, reset := 0x00000, ro := 0x0000F },
   { base := 0x0608, n := 3, reset := 0x00000, mb := 0x3FFFF }]

/-- The rows of block TQ. -/
def tqRows : List RegRow :=
  [{ base := 0x0000, n := 1, reset := 0x00001, ro := 0x3FFFF },
   { base := 0x0010, n := 1, reset := 0x00000, rwp := 0x00001 },
   { base := 0x0014, n := 1, reset := 0x00000, rwp := 0x3FFFF },
   { base := 0x0018, n := 1, reset := 0x00064, rw := 0x3FFFF },
   { base := 0x0020, n := 8, reset := 0x00040, rw := 0x0007F },
   { base := 0x0040, n := 8, reset := 0x00000, rw := 0x00007 },
   { base := 0x0060, n := 8, reset := 0x00000, ro := 0x03FFF },
   { base := 0x0080, n := 8, reset := 0x00000, w1c := 0x003FF },
   { base := 0x00A0, n := 8, reset := 0x00000, rw := 0x3FFFF },
   { base := 0x00C0, n := 8, reset := 0x00000, rw := 0x3FFFF },
   { base := 0x00E0, n := 8, reset := 0x00190, rw := 0x3FFFF },
   { base := 0x0100, n := 8, reset := 0x00000, rw := 0x3FFFF },
   { base := 0x0120, n := 8, reset := 0x00000, rc := 0x3FFFF },
   { base := 0x0180, n := 1, reset := 0x00000, rw := 0x3FFFF },
   { base := 0x0184, n := 1, reset := 0x00000, ro := 0x0000F },
   { base := 0x0188, n := 3, reset := 0x00000, mb := 0x3FFFF }]

/-- The rows of block FLD of one controller. -/
def fldCtrlRows : List RegRow :=
  [{ base := 0x0000, n := 1, reset := 0x00011, rw := 0x0001F, wo := 0x00020 },
   { base := 0x0004, n := 1, reset := 0x00000, ro := 0x1FFFF },
   { base := 0x0008, n := 1, reset := 0x00000, w1c := 0x0FFFF },
   { base := 0x000C, n := 1, reset := 0x00000, ro := 0x001FF },
   { base := 0x0010, n := 1, reset := 0x00000, ro := 0x000FF },
   { base := 0x0014, n := 1, reset := 0x00000, ro := 0x000FF },
   { base := 0x0018, n := 1, reset := 0x00000, rc := 0x3FFFF },
   { base := 0x001C, n := 1, reset := 0x00000, rc := 0x3FFFF },
   { base := 0x0020, n := 1, reset := 0x00000, rc := 0x3FFFF },
   { base := 0x0024, n := 1, reset := 0x00000, ro := 0x03FFF },
   { base := 0x0028, n := 1, reset := 0x03000, ro := 0x03FFF },
   { base := 0x002C, n := 1, reset := 0x00000, ro := 0x0003F },
   { base := 0x0030, n := 1, reset := 0x00000, rc := 0x3FFFF },
   { base := 0x0040, n := 4, reset := 0x00000, rw := 0x007FF },
   { base := 0x0050, n := 2, reset := 0x00000, rw := 0x00FFF },
   { base := 0x0060, n := 4, reset := 0x00000, rw := 0x0FFFF },
   { base := 0x0070, n := 4, reset := 0x00000, w1c := 0x0FFFF },
   { base := 0x0080, n := 4, reset := 0x00000, w1c := 0x0FFFF }]

/-- The rows of block FLD. -/
def fldSharedRows : List RegRow :=
  [{ base := 0x0400, n := 1, reset := 0x00000, rw := 0x000FF },
   { base := 0x0404, n := 1, reset := 0x00090, ro := 0x000FF },
   { base := 0x0408, n := 1, reset := 0x00000, ro := 0x007FF },
   { base := 0x0480, n := 36, reset := 0x00000, rw := 0x3FFFF }]

/-- The rows of block SAT. -/
def satRows : List RegRow :=
  [{ base := 0x0000, n := 1, reset := 0x00000, ro := 0x03FFF },
   { base := 0x0004, n := 1, reset := 0x00000, w1c := 0x0FFFF },
   { base := 0x0008, n := 1, reset := 0x00000, rw := 0x0000F },
   { base := 0x000C, n := 1, reset := 0x00100, rw := 0x00FFF },
   { base := 0x0010, n := 1, reset := 0x00064, rw := 0x3FFFF },
   { base := 0x0014, n := 1, reset := 0x00000, w1c := 0x0FFFF },
   { base := 0x0018, n := 1, reset := 0x00000, ro := 0x00001, rc := 0x00002 },
   { base := 0x0020, n := 1, reset := 0x00000, rc := 0x3FFFF },
   { base := 0x0024, n := 1, reset := 0x00000, rc := 0x3FFFF },
   { base := 0x0028, n := 1, reset := 0x00000, rc := 0x3FFFF },
   { base := 0x002C, n := 1, reset := 0x00000, rc := 0x3FFFF },
   { base := 0x0030, n := 1, reset := 0x00000, rc := 0x3FFFF },
   { base := 0x0034, n := 1, reset := 0x00000, rc := 0x3FFFF },
   { base := 0x0040, n := 1, reset := 0x00000, rw := 0x3FFFF },
   { base := 0x0044, n := 1, reset := 0x00000, ro := 0x0000F },
   { base := 0x0048, n := 3, reset := 0x00000, mb := 0x3FFFF }]

/-- The rows of block RNG. -/
def rngRows : List RegRow :=
  [{ base := 0x0000, n := 1, reset := 0x00000, ro := 0x1FFFF },
   { base := 0x0004, n := 1, reset := 0x00000, w1c := 0x3FFFF },
   { base := 0x0008, n := 1, reset := 0x00000, w1c := 0x0003F },
   { base := 0x000C, n := 1, reset := 0x00001, rw := 0x00001, wo := 0x0000E },
   { base := 0x0010, n := 1, reset := 0x00000, rwl := 0x00001, rw := 0x00002 },
   { base := 0x0014, n := 1, reset := 0x00000, ro := 0x03FFF },
   { base := 0x0018, n := 1, reset := 0x00000, ro := 0x0FFFF },
   { base := 0x001C, n := 1, reset := 0x00000, ro := 0x0FFFF },
   { base := 0x0020, n := 1, reset := 0x00000, rwp := 0x00001 },
   { base := 0x0024, n := 1, reset := 0x00000, rwp := 0x3FFFF },
   { base := 0x0028, n := 1, reset := 0x00000, rw := 0x1FFFF },
   { base := 0x002C, n := 1, reset := 0x00000, ro := 0x3FFFF },
   { base := 0x0030, n := 2, reset := 0x00000, ro := 0x001FF },
   { base := 0x0038, n := 1, reset := 0x00000, rw := 0x3FFFF },
   { base := 0x0040, n := 1, reset := 0x00000, ro := 0x0FFFF },
   { base := 0x0044, n := 1, reset := 0x00000, rc := 0x3FFFF },
   { base := 0x0050, n := 1, reset := 0x00000, rw := 0x3FFFF },
   { base := 0x0054, n := 1, reset := 0x00000, ro := 0x0000F },
   { base := 0x0058, n := 3, reset := 0x00000, mb := 0x3FFFF }]

/-- The rows of block MEM. -/
def memRows : List RegRow :=
  [{ base := 0x0000, n := 1, reset := 0x00000, w1c := 0x00007 },
   { base := 0x0004, n := 1, reset := 0x00000, ro := 0x3FFFF },
   { base := 0x0008, n := 1, reset := 0x00000, ro := 0x3FFFF },
   { base := 0x000C, n := 1, reset := 0x00000, rc := 0x3FFFF },
   { base := 0x0010, n := 1, reset := 0x00000, rw := 0x00003 },
   { base := 0x0014, n := 1, reset := 0x00001, rw := 0x00001 },
   { base := 0x0018, n := 1, reset := 0x00000, ro := 0x3FFFF },
   { base := 0x0020, n := 8, reset := 0x00000, rc := 0x3FFFF }]

/-- The rows of block MON. -/
def monRows : List RegRow :=
  [{ base := 0x0000, n := 1, reset := 0x00013, rwl := 0x00003, rw := 0x0001C },
   { base := 0x0004, n := 1, reset := 0x00008, ro := 0x0003F },
   { base := 0x0008, n := 1, reset := 0x00000, w1c := 0x00007 },
   { base := 0x000C, n := 1, reset := 0x00000, rc := 0x3FFFF },
   { base := 0x0010, n := 1, reset := 0x00000, rc := 0x3FFFF },
   { base := 0x0014, n := 1, reset := 0x00000, rc := 0x3FFFF }]

/-- The rows of a block and the offset within them, for a BAR0 block number and a byte offset below 0x4000 (R23, R24);
none for a block without registers. The four quad blocks share their rows (R332); a controller's registers stand at
0x100 times its number (R401). -/
def blockRows (blk off : Nat) : Option (List RegRow × Nat) :=
  match blk with

  | 0 => some (plnRows, off)
  | 1 => some (clkRows, off)
  | 2 => some (nrgRows, off)
  | 3 => some (tmpRows, off)
  | 4 => some (armRows, off)
  | 5 => some (hstRows, off)
  | 6 => some (queRows, off)
  | 7 => some (evtRows, off)
  | 8 => some (lckRows, off)
  | 9 => some (chnRows, off)
  | 10 => some (motRows, off)
  | 16 => some (satRows, off)
  | 17 => some (rngRows, off)
  | 18 => some (memRows, off)
  | 19 => some (monRows, off)
  | 11 => some (tqRows, off)
  | 12 => some (tqRows, off)
  | 13 => some (tqRows, off)
  | 14 => some (tqRows, off)
  | 15 => if off < 0x400 then some (fldCtrlRows, off % 0x100) else some (fldSharedRows, off)
  | _ => none

/-- The row that holds a byte offset of its block. -/
def findRow : List RegRow → Nat → Option RegRow
  | [], _ => none
  | r :: t, off => if r.base ≤ off ∧ off < r.base + 4 * r.n then some r else findRow t off

/-- What stands at a byte offset of a block: nothing (R33 cause 2), a reserved element of an array (cause 3), a register. -/
inductive RegAt where
  | nothing | reserved
  | reg (row : RegRow)
deriving DecidableEq, Repr

def regAt (blk off : Nat) : RegAt :=
  match blockRows blk off with
  | none => .nothing
  | some (rows, o) =>
    match findRow rows o with
    | none => .nothing
    | some r => if r.only = 0 ∨ r.only.testBit ((o - r.base) / 4) then .reg r else .reserved

/-- The sources of the attention class (R230, and QUE_DESCUE). -/
def isAttention (src : Nat) : Bool :=
  src == 547 || src == 552 || src == 559 || src == 560 || src == 567 || (569 ≤ src && src ≤ 573)

/-- The row of a register by its BAR0 offset. -/
def rowOf (k : Nat) : RegRow :=
  match regAt (k / 65536) (k % 65536) with
  | .reg r => r
  | _ => { base := 0, n := 0, reset := 0 }

/-- The value a register has after reset (R13 and the Reset columns); EVT_ROUTE is 0x80 for attention sources (R242). -/
def resetVal (k : Nat) : BitVec 18 :=
  if 0x071000 ≤ k ∧ k < 0x071900 then (if isAttention ((k - 0x071000) / 4) then 0x80 else 1)
  else BitVec.ofNat 18 (rowOf k).reset

end Sys2Proof.Machine
end

