-- ==== Sys2Proof/Machine/Flags.lean ====
section
/-!
DEFINITION. How a register's bits take a write and a read by their access codes (R27 to R32), the hidden parity over
the RW and RWL bits (R35), and the saturating counters.
-/

namespace Sys2Proof.Machine

/-- The masks of a row as words. -/
def RegRow.writable (r : RegRow) : Word := word (r.rw ||| r.rwl)

/-- The bits of a register that no field names (R13), within the 18 of its slot. -/
def RegRow.reservedBits (r : RegRow) : Word :=
  ~~~ word (r.rw ||| r.rwl ||| r.ro ||| r.w1c ||| r.rc ||| r.wo ||| r.rwp ||| r.mb)

/-- A register whose fields are all RO, all RC, or a mix of both (R30). -/
def RegRow.noWritable (r : RegRow) : Bool := r.rw ||| r.rwl ||| r.w1c ||| r.wo ||| r.rwp ||| r.mb == 0

/-- A write at the register's own offset: RW and RWL bits are stored, a one clears a W1C bit, the rest keep (R27). -/
def mergeWrite (r : RegRow) (old new : Word) : Word :=
  let rw := r.writable
  let clr := new &&& word r.w1c
  ((old &&& ~~~rw) ||| (new &&& rw)) &&& ~~~clr

/-- The three aliases (R24, R31). -/
inductive AliasKind where
  | set | clear | toggle
deriving DecidableEq, Repr

/-- An alias write in one read-modify-write step (R31). -/
def aliasWrite (kind : AliasKind) (r : RegRow) (old new : Word) : Word :=
  let m := new &&& r.writable
  match kind with
  | .set => old ||| m
  | .clear => old &&& ~~~m
  | .toggle => old ^^^ m

/-- The bits that an alias write may not have set (R32): every bit that is not RW or RWL, and the RWL bits whose lock is
set. -/
def aliasForbidden (r : RegRow) (locked : Word) : Word := ~~~r.writable ||| (word r.rwl &&& locked)

/-- A read of the register clears its RC bits, except for the monitor (R27, R29). -/
def readClears (r : RegRow) (req : Requester) (old : Word) : Word :=
  if req = .monitor then old else old &&& ~~~ word r.rc

/-- The value that a read shows: WO bits read as zero (R27). -/
def readShows (r : RegRow) (v : Word) : Word := v &&& ~~~ word r.wo

/-- Even parity of the low `n` bits. -/
def xorBits (v : Word) : Nat → Bool
  | 0 => false
  | n + 1 => Bool.xor (v.getLsbD n) (xorBits v n)

/-- The hidden parity bit over the RW and RWL fields (R35). -/
def parityBit (r : RegRow) (v : Word) : Bool := xorBits (v &&& r.writable) 18

/-- A counter that saturates at 0x3FFFF. -/
def satAdd (v : Word) (n : Nat) : Word := word (min 0x3FFFF (v.toNat + n))

/-- A counter that saturates at a smaller limit. -/
def satTo (limit v n : Nat) : Nat := min limit (v + n)

end Sys2Proof.Machine
end

