-- ==== Sys2Proof/Machine/ImageFields.lean ====
section
/-!
DEFINITION. Reading an armature image: its sections and their fields (R86 to R106), with the state in force where a
section is absent (R90).
-/

namespace Sys2Proof.Machine

/-- The section table's entry of a type: offset and length (R88). -/
def Image.entry? (im : Image) (t : Nat) : Option (Nat × Nat) :=
  let n := (wordAt im.words 5).toNat
  ((List.range n).find? fun k => decide ((wordAt im.words (8 + 3 * k)).toNat = t)).map fun k =>
    ((wordAt im.words (9 + 3 * k)).toNat, (wordAt im.words (10 + 3 * k)).toNat)

/-- The words of a section, with its TYPE and LENGTH words and its CRC (R89). -/
def Image.sect (im : Image) (t : Nat) : Option (List Word) :=
  (im.entry? t).map fun e => (im.words.drop e.1).take e.2

/-- The words of a section of the committed image; none where the section or the image is absent. -/
def sectOf (im : Option Image) (t : Nat) : Option (List Word) := im.bind fun i => i.sect t

/-- The image's EPOCH (R87). -/
def Image.epoch (im : Image) : Word := wordAt im.words 4

/-- FLAGS.MAQUETTE (R87). -/
def Image.maquette (im : Image) : Bool := (wordAt im.words 6).getLsbD 0

/-- A PINS entry by group and member: function and parameter; UNUSED where there is none (R93, R94). -/
def pinOf (im : Option Image) (group member : Nat) : Nat × Nat :=
  match sectOf im 1 with
  | none => (0, 0)
  | some ws =>
    let n := (wordAt ws 2).toNat
    match (List.range n).find? fun k =>
      decide (fieldOf (wordAt ws (3 + 3 * k)) 12 6 = group ∧ fieldOf (wordAt ws (3 + 3 * k)) 0 12 = member) with
    | none => (0, 0)
    | some k => ((wordAt ws (4 + 3 * k)).toNat, (wordAt ws (5 + 3 * k)).toNat)

/-- The pins that PINS names, as (group, member, function, parameter). -/
def pinList (im : Option Image) : List (Nat × Nat × Nat × Nat) :=
  match sectOf im 1 with
  | none => []
  | some ws => (List.range (wordAt ws 2).toNat).map fun k =>
      (fieldOf (wordAt ws (3 + 3 * k)) 12 6, fieldOf (wordAt ws (3 + 3 * k)) 0 12, (wordAt ws (4 + 3 * k)).toNat,
       (wordAt ws (5 + 3 * k)).toNat)

/-- An ISLANDS entry (R95). -/
structure IslandEntry where
  island : Nat
  present : Bool
  opMin : Nat
  opMax : Nat
  idle : Nat
deriving DecidableEq, Repr

/-- The ISLANDS entries in bring-up order (R95). -/
def islandEntries (im : Option Image) : List IslandEntry :=
  match sectOf im 2 with
  | none => []
  | some ws => (List.range 11).map fun k =>
      let w := wordAt ws (2 + 2 * k)
      { island := fieldOf w 0 4, present := w.getLsbD 4, opMin := fieldOf w 5 2, opMax := fieldOf w 7 2,
        idle := (wordAt ws (3 + 2 * k)).toNat }

/-- The ISLANDS entry of an island; without an armature an island is absent, and HST runs at OPN (R130, R132). -/
def islandEntry (im : Option Image) (i : Island) : IslandEntry :=
  ((islandEntries im).find? fun e => decide (e.island = i.idx)).getD
    { island := i.idx, present := false, opMin := 1, opMax := 1, idle := 0 }

/-- A virtual encoder's SPRUE entry (R96). -/
structure SprueEntry where
  kind : Nat
  index : Nat
  invert : Bool
  num : Nat
  den : Nat
  filt : Nat
deriving DecidableEq, Repr

def sprueOf (im : Option Image) (v : Nat) : SprueEntry :=
  match sectOf im 3 with
  | none => { kind := 0, index := 0, invert := false, num := 1, den := 1, filt := 0 }
  | some ws =>
    let w := wordAt ws (2 + 4 * v)
    { kind := fieldOf w 0 3, index := fieldOf w 3 4, invert := w.getLsbD 7, num := (wordAt ws (3 + 4 * v)).toNat,
      den := (wordAt ws (4 + 4 * v)).toNat, filt := (wordAt ws (5 + 4 * v)).toNat }

/-- A synthetic encoder's step interval in sub-ticks (R96). -/
def seInterval (im : Option Image) (n : Nat) : Word36 :=
  match sectOf im 3 with
  | none => 0
  | some ws => join36 (wordAt ws (130 + 2 * n)) (wordAt ws (131 + 2 * n))

/-- A channel template (R97). -/
structure Template where
  tnum : Nat
  evq : Bool
  standstill : Bool
  ports : BitVec 32
  ves : BitVec 32
  pitchMin : Nat
  expMax : Nat
  qmin : Nat
deriving DecidableEq, Repr

def templateAt (ws : List Word) (t : Nat) : Template :=
  let g := fun k => wordAt ws (3 + 8 * t + k)
  { tnum := fieldOf (g 0) 0 6, evq := (g 0).getLsbD 6, standstill := (g 0).getLsbD 7,
    ports := BitVec.ofNat 32 (fieldOf (g 1) 0 16 + fieldOf (g 2) 0 16 * 65536),
    ves := BitVec.ofNat 32 (fieldOf (g 3) 0 16 + fieldOf (g 4) 0 16 * 65536),
    pitchMin := (g 5).toNat, expMax := (g 6).toNat, qmin := fieldOf (g 7) 0 5 }

/-- The committed template of a number. -/
def template? (im : Option Image) (n : Nat) : Option Template :=
  match sectOf im 4 with
  | none => none
  | some ws => ((List.range (wordAt ws 2).toNat).map (templateAt ws)).find? fun t => decide (t.tnum = n)

/-- The partition sizes in Ki-words: queue, trigger table, CAN, armature shadow, satellite buffers (R98). -/
def partitions (im : Option Image) : List Nat :=
  match sectOf im 5 with
  | none => [96, 48, 32, 64, 16]
  | some ws => (List.range 5).map fun k => (wordAt ws (2 + k)).toNat

/-- The first SRAM word of partition `k` (R98). -/
def partBase (im : Option Image) (k : Nat) : Nat := ((partitions im).take k).sum * 1024

def partSize (im : Option Image) (k : Nat) : Nat := (partitions im).getD k 0 * 1024

/-- Word `k` of a controller's FIELDBUS entry; zero, which is OFF, without the section (R99). -/
def fbWord (im : Option Image) (c k : Nat) : Word :=
  match sectOf im 6 with
  | none => 0
  | some ws => wordAt ws (2 + 10 * c + k)

/-- MODE bits 1:0: 0 OFF, 1 FD, 2 CLASSIC. -/
def fbMode (im : Option Image) (c : Nat) : Nat := fieldOf (fbWord im c 0) 0 2

/-- A satellite window (R100, R411). -/
structure SatWindow where
  num : Nat
  confirmed : Bool
  pass : Bool
  lockable : Bool
  prefetchable : Bool
  base : Nat
  sbase : Nat
  size : Nat
deriving DecidableEq, Repr

def satWindows (im : Option Image) : List SatWindow :=
  match sectOf im 7 with
  | none => []
  | some ws => (List.range (wordAt ws 4).toNat).map fun k =>
      let g := fun j => wordAt ws (5 + 4 * k + j)
      { num := fieldOf (g 0) 0 4, confirmed := (g 0).getLsbD 4, pass := (g 0).getLsbD 5, lockable := (g 0).getLsbD 6,
        prefetchable := (g 0).getLsbD 7, base := (g 1).toNat, sbase := (g 2).toNat, size := (g 3).toNat }

/-- log2 of the BAR2 size: 64 KiB where SATELLITE is absent (R90, R176). -/
def bar2LogOf (im : Option Image) : Nat :=
  match sectOf im 7 with
  | none => 16
  | some ws => fieldOf (wordAt ws 2) 0 5

/-- The SAT_CLK divider, 2, 4 or 8 (R100); of an image without a SATELLITE section 4 (DESIGN CHOICE, log entry 121). -/
def satDivider (im : Option Image) : Nat :=
  match sectOf im 7 with
  | none => 4
  | some ws => match fieldOf (wordAt ws 3) 0 2 with
    | 0 => 2 | 1 => 4 | _ => 8

/-- RING FLAGS: DISTRIBUTE, ACCEPT, JOIN at bits 0, 1, 2 (R101). -/
def ringFlag (im : Option Image) (b : Nat) : Bool :=
  match sectOf im 8 with
  | none => false
  | some ws => (wordAt ws 2).getLsbD b

def ringWord (im : Option Image) (k : Nat) : Word :=
  match sectOf im 8 with
  | none => 0
  | some ws => wordAt ws k

/-- The group identifier (R101). -/
def ringGroup (im : Option Image) : Word := ringWord im 3

/-- GE[k]: publishing node and virtual encoder where VALID (R101). -/
def geEntry (im : Option Image) (k : Nat) : Option (Nat × Nat) :=
  let w := ringWord im (5 + k)
  if w.getLsbD 17 then some (fieldOf w 5 4, fieldOf w 0 5) else none

/-- The node ID that an override gives a silicon ID's low 36 bits (R101, R337). -/
def ringOverride (im : Option Image) (silicon : Word54) : Option Nat :=
  match sectOf im 8 with
  | none => none
  | some ws =>
    ((List.range (wordAt ws 21).toNat).find? fun k =>
      decide (joinWords [wordAt ws (22 + 3 * k), wordAt ws (23 + 3 * k)] = silicon.toNat % 2 ^ 36)).map fun k =>
        fieldOf (wordAt ws (24 + 3 * k)) 0 4

/-- The LEDGER ceiling in mW, 13,500 without the section (R90, R102). -/
def ledgerCeil (im : Option Image) : Nat :=
  match sectOf im 9 with
  | none => 13500
  | some ws => (wordAt ws 2).toNat

def ledgerLock (im : Option Image) : Bool :=
  match sectOf im 9 with
  | none => false
  | some ws => (wordAt ws 3).getLsbD 0

/-- The declared draw of a load in mW, 0 where it is not declared (R102, R261). -/
def loadDraw (im : Option Image) (load : Nat) : Nat :=
  match sectOf im 9 with
  | none => 0
  | some ws =>
    match (List.range (wordAt ws 4).toNat).find? fun k => decide (fieldOf (wordAt ws (5 + 2 * k)) 0 6 = load) with
    | none => 0
    | some k => (wordAt ws (6 + 2 * k)).toNat

/-- COST[a] in nJ, 0 without the section (R102). -/
def costOf (im : Option Image) (a : Nat) : Nat :=
  match sectOf im 9 with
  | none => 0
  | some ws => (wordAt ws (5 + 2 * (wordAt ws 4).toNat + a)).toNat

/-- The TAMP section's word `k`, or none. -/
def tampWord (im : Option Image) (k : Nat) : Option Nat := (sectOf im 10).map fun ws => (wordAt ws k).toNat

def tampSlaved (im : Option Image) : Bool := match tampWord im 2 with | none => false | some w => w.testBit 0

/-- The fixed period in µs: 100 without the section (R90, R103). -/
def tampPeriod (im : Option Image) : Nat := match tampWord im 2 with | none => 100 | some w => w / 2 % 1024 + 1

def tampMaster (im : Option Image) : Nat := match tampWord im 3 with | none => 0 | some w => w % 32
def tampUnits (im : Option Image) : Nat := (tampWord im 4).getD 0
def tampMinClamp (im : Option Image) : Nat := (tampWord im 5).getD 100
def tampMaxClamp (im : Option Image) : Nat := (tampWord im 6).getD 100
def tampQuota (im : Option Image) : Nat := match tampWord im 7 with | none => 8 | some w => w % 16

/-- The minimum and maximum grants of an activity on an arbiter row; every minimum 0 and every maximum 0x3FFFF without
the section (R90, R103). -/
def tampMin (im : Option Image) (b a : Nat) : Nat :=
  if actMarked b a then (tampWord im (8 + 32 * b + 2 * a)).getD 0 else 0
def tampMax (im : Option Image) (b a : Nat) : Nat :=
  if actMarked b a then (tampWord im (9 + 32 * b + 2 * a)).getD 0x3FFFF else 0x3FFFF

/-- LINKLOSS: true is HOLD, which also holds without the section (R90, R104). -/
def policyHold (im : Option Image) : Bool := match sectOf im 11 with | none => true | some ws => decide (wordAt ws 2 = 1)

/-- Whether an island's parity policy is HOLD (R104). -/
def policyParity (im : Option Image) (i : Island) : Bool :=
  match sectOf im 11 with | none => false | some ws => (wordAt ws 3).getLsbD i.idx

/-- QUADFAULT.RETRY, 1 without the section (R90, R104). -/
def policyRetry (im : Option Image) : Bool := match sectOf im 11 with | none => true | some ws => (wordAt ws 4).getLsbD 0

/-- The monitor level and event enable: level 1, events off without the section (R90, R105). -/
def monitorLevel (im : Option Image) : Nat := match sectOf im 12 with | none => 1 | some ws => fieldOf (wordAt ws 2) 0 2
def monitorEvents (im : Option Image) : Bool := match sectOf im 12 with | none => false | some ws => (wordAt ws 3).getLsbD 0

end Sys2Proof.Machine
end

