-- ==== Sys2Proof/Machine/Ops.lean ====
section
/-!
DEFINITION. The named operations over the state that every family uses: the register file, the typed tables, time,
raising an event and sending its message, waking an island and parking a write, the SRAM with its error correction.
-/

namespace Sys2Proof.Machine

/-- What the meaning of a command answers. -/
abbrev Out := Host.Outcome State Fault Refusal

/-! ### The register file -/

/-- The value a register holds. -/
def State.rd (s : State) (k : Nat) : Word := Tab.get (resetVal k) s.regs k

/-- The hidden parity bit of a register is recomputed from its value (R35). -/
def State.reparity (s : State) (k : Nat) : State :=
  { s with parity := Tab.set (parityBit (rowOf k) (resetVal k)) s.parity k (parityBit (rowOf k) (s.rd k)) }

/-- The register takes a value; a change of an RW or RWL field recomputes its hidden parity bit (R35). -/
def State.wr (s : State) (k : Nat) (v : Word) : State :=
  { s with regs := Tab.set (resetVal k) s.regs k v
           parity := if (s.rd k ^^^ v) &&& (rowOf k).writable = 0 then s.parity
             else Tab.set (parityBit (rowOf k) (resetVal k)) s.parity k (parityBit (rowOf k) v) }

/-- The hidden parity bit that a register carries (R35). -/
def State.parityOf (s : State) (k : Nat) : Bool := Tab.get (parityBit (rowOf k) (resetVal k)) s.parity k

def State.fld (s : State) (k lo w : Nat) : Nat := fieldOf (s.rd k) lo w
def State.setFld (s : State) (k lo w n : Nat) : State := s.wr k (withField (s.rd k) lo w n)
def State.bit (s : State) (k b : Nat) : Bool := (s.rd k).getLsbD b
def State.setBit (s : State) (k b : Nat) (v : Bool) : State := s.setFld k b 1 (flag v)

/-- A saturating counter takes `n` more. -/
def State.bumpBy (s : State) (k n : Nat) : State := s.wr k (satAdd (s.rd k) n)
def State.bump (s : State) (k : Nat) : State := s.bumpBy k 1

/-- A TLP or message on the host link. -/
def Output.onLink : Output → Bool
  | .memWrite .. | .memRead .. | .atomic .. | .completion .host .. | .config .. | .translationReq .. | .invalidateCpl ..
  | .message .. | .pme | .ltr .. => true
  | _ => false

/-- A configuration completion: the one TLP that leaves during an FLR (R143). -/
def Output.isConfig : Output → Bool
  | .config .. => true
  | _ => false

/-- Something leaves the device; the host transmitter leaves L0s for it (R161). During an FLR no other TLP leaves (R143). -/
def State.send (s : State) (o : Output) : State :=
  if o.onLink && s.boot.flr && !o.isConfig then s
  else
    let t := if o.onLink && s.bit Reg.HST_LINK_STS 13 then s.setBit Reg.HST_LINK_STS 13 false else s
    { t with sent := o :: t.sent, link := if o.onLink then { t.link with sentAt := t.now } else t.link }

/-! ### Typed tables -/

/-- An island's state after reset: the Plinth ON, the others GATED (R60); OP 1 variable, 3 fixed pace (R84). -/
def islDefault (i : Island) : IslSt :=
  { power := if i = .pln then .on else .gated, op := if i.variable then 1 else 3, broughtUp := decide (i = .pln) }

def State.island (s : State) (i : Island) : IslSt := Tab.get (islDefault i) s.isl i.idx
def State.setIsland (s : State) (i : Island) (v : IslSt) : State :=
  { s with isl := Tab.set (islDefault i) s.isl i.idx v }
def State.modIsland (s : State) (i : Island) (f : IslSt → IslSt) : State := s.setIsland i (f (s.island i))
def State.isOn (s : State) (i : Island) : Bool := decide ((s.island i).power = .on)
/-- An island is in HOLD (R38): its outputs stand at idle drive. -/
def State.held (s : State) (i : Island) : Bool := s.bit Reg.PLN_PAR_HOLD i.idx

def State.chn (s : State) (k : Nat) : Chan := Tab.get {} s.que.chans k
def State.setChn (s : State) (k : Nat) (v : Chan) : State :=
  { s with que := { s.que with chans := Tab.set {} s.que.chans k v } }
def State.queue (s : State) (q : Nat) : Queue := Tab.get {} s.que.queues q
def State.setQueue (s : State) (q : Nat) (v : Queue) : State :=
  { s with que := { s.que with queues := Tab.set {} s.que.queues q v } }
def State.modQueue (s : State) (q : Nat) (f : Queue → Queue) : State := s.setQueue q (f (s.queue q))
def State.lock (s : State) (n : Nat) : HwLock := Tab.get {} s.que.locks n
def State.setLock (s : State) (n : Nat) (v : HwLock) : State :=
  { s with que := { s.que with locks := Tab.set {} s.que.locks n v } }
def State.vec (s : State) (v : Nat) : VecSt := Tab.get {} s.que.vecs v
def State.setVec (s : State) (v : Nat) (x : VecSt) : State :=
  { s with que := { s.que with vecs := Tab.set {} s.que.vecs v x } }
def State.port (s : State) (p : Nat) : Port := Tab.get {} s.trg.ports p
def State.setPort (s : State) (p : Nat) (v : Port) : State :=
  { s with trg := { s.trg with ports := Tab.set {} s.trg.ports p v } }
def State.modPort (s : State) (p : Nat) (f : Port → Port) : State := s.setPort p (f (s.port p))
def State.quad (s : State) (q : Nat) : Quad := Tab.get {} s.trg.quads q
def State.setQuad (s : State) (q : Nat) (v : Quad) : State :=
  { s with trg := { s.trg with quads := Tab.set {} s.trg.quads q v } }
def State.est (s : State) (q v : Nat) : Est := Tab.get {} s.trg.ests (32 * q + v)
def State.setEst (s : State) (q v : Nat) (e : Est) : State :=
  { s with trg := { s.trg with ests := Tab.set {} s.trg.ests (32 * q + v) e } }
def State.window (s : State) (w : Nat) : Option Window := Tab.get none s.trg.windows w
def State.setWindow (s : State) (w : Nat) (x : Option Window) : State :=
  { s with trg := { s.trg with windows := Tab.set none s.trg.windows w x } }
def State.enc (s : State) (e : Nat) : Enc := Tab.get {} s.mot.encs e
def State.setEnc (s : State) (e : Nat) (v : Enc) : State :=
  { s with mot := { s.mot with encs := Tab.set {} s.mot.encs e v } }
def State.lev (s : State) (n : Nat) : Lev := Tab.get {} s.mot.levs n
def State.setLev (s : State) (n : Nat) (v : Lev) : State :=
  { s with mot := { s.mot with levs := Tab.set {} s.mot.levs n v } }
def State.se (s : State) (n : Nat) : Se := Tab.get {} s.mot.ses n
def State.setSe (s : State) (n : Nat) (v : Se) : State :=
  { s with mot := { s.mot with ses := Tab.set {} s.mot.ses n v } }
def State.ve (s : State) (v : Nat) : Ve := Tab.get {} s.mot.ves v
def State.setVe (s : State) (v : Nat) (x : Ve) : State :=
  { s with mot := { s.mot with ves := Tab.set {} s.mot.ves v x } }
def State.can (s : State) (c : Nat) : Can := Tab.get {} s.fb.cans c
def State.setCan (s : State) (c : Nat) (x : Can) : State :=
  { s with fb := { s.fb with cans := Tab.set {} s.fb.cans c x } }
def State.mb (s : State) (m : MailboxId) : Mb := Tab.get {} s.mbs m.idx
def State.setMb (s : State) (m : MailboxId) (x : Mb) : State := { s with mbs := Tab.set {} s.mbs m.idx x }
def State.pair (s : State) (p : Nat) : Option PairOpen := Tab.get none s.pairs p
def State.setPair (s : State) (p : Nat) (x : Option PairOpen) : State := { s with pairs := Tab.set none s.pairs p x }
def State.hs (s : State) (c : ChannelId) : HsChan := Tab.get {} s.chans c.idx
def State.setHs (s : State) (c : ChannelId) (x : HsChan) : State := { s with chans := Tab.set {} s.chans c.idx x }
def State.arb (s : State) (n : Nat) : Arb := Tab.get {} s.nrg.arbs n
def State.setArb (s : State) (n : Nat) (x : Arb) : State := { s with nrg := { s.nrg with arbs := Tab.set {} s.nrg.arbs n x } }
def State.node (s : State) (n : Nat) : NodeInfo := Tab.get {} s.ring.nodes n
def State.setNode (s : State) (n : Nat) (x : NodeInfo) : State :=
  { s with ring := { s.ring with nodes := Tab.set {} s.ring.nodes n x } }
def State.splitOf (s : State) (m : Nat) : Option Split := Tab.get none s.sat.splits m
def State.setSplit (s : State) (m : Nat) (x : Option Split) : State :=
  { s with sat := { s.sat with splits := Tab.set none s.sat.splits m x } }

/-- An update over every number of a list. -/
def State.forAll (s : State) (ks : List Nat) (f : State → Nat → State) : State := ks.foldl f s

/-! ### Time -/

/-- Ticks in a microsecond and a millisecond (R11). -/
abbrev usTicks (us : Nat) : Nat := 400 * us
abbrev msTicks (ms : Nat) : Nat := 400000 * ms

/-- The model's clock in sub-ticks. -/
def State.nowSt (s : State) : Nat := s.now * 64

/-- Whether an interval of `ticks` that began at `since` has passed. -/
def State.passed (s : State) (since ticks : Nat) : Bool := decide (since + ticks ≤ s.now)

/-- The device time of an instant given on the model's clock, in sub-ticks (R11): whole ticks. -/
def State.devAtSt (s : State) (st : Nat) : Word54 := toWord54 ((s.devTime.toNat : Int) + (st / 64 : Nat) - (s.now : Int))

/-- Device time now in sub-ticks, modulo 2^60. -/
def State.devSt (s : State) : Nat := s.devTime.toNat * 64

/-- The image that shapes the islands: the committed one; while a commit or re-cast brings islands up, the staged one
(R120, R121). -/
def State.image (s : State) : Option Image :=
  match s.arm.run with
  | none => s.arm.committed
  | some r => if r.deferred || !r.toGate.isEmpty then s.arm.committed else s.arm.staged

/-- An island's clock has stopped with the crystal (R76). -/
def State.stopped (s : State) (i : Island) : Bool :=
  !s.clk.xtalRuns && s.clk.pllXtal && decide (i ≠ .hst) && !(decide (i = .pln) && s.bit Reg.CLK_CTL 0)

/-- The node ID of the device (R337). -/
def State.nodeId (s : State) : Nat :=
  (ringOverride s.image s.fuses.silicon).getD (s.fld Reg.PLN_STRAP 0 4)

/-- A channel slot is in use (R212). -/
def Chan.inUse (c : Chan) : Bool := decide (c.state ≠ .free)
/-- A live channel, in the sense of the device's checks: any channel that is not FREE binds what it binds
(DEDUCED, log entry 22). -/
def State.liveSlots (s : State) : List Nat := (List.range 128).filter fun k => (s.chn k).inUse
def State.anyLive (s : State) : Bool := s.que.chans.any fun e => e.2.inUse
/-- The slot of the channel that binds a port. -/
def State.binder (s : State) (p : Nat) : Option Nat :=
  (s.que.chans.find? fun e => e.2.inUse && e.2.ports.getLsbD p).map (·.1)
/-- Whether a running channel feeds from a virtual encoder: a quiesced one does not hold its position (R296, R297; DEDUCED, log
entry 22). -/
def State.veBound (s : State) (v : Nat) : Bool :=
  s.que.chans.any fun e => decide (e.2.state = .live ∨ e.2.state = .quiescing) && decide (e.2.ve = v)

/-! ### Waking and parking (R64 to R68) -/

/-- A DOWN quad is kept OFF and may not wake (R322). -/
def State.quadDown (s : State) (i : Island) : Bool :=
  match i.quad? with
  | none => false
  | some q => decide (s.fld (Reg.PLN_QF_STS q) 0 2 = 2)

/-- The plan or a forced OFF forbids the wake (R66, R322). -/
def State.wakeForbidden (s : State) (i : Island) : Bool := decide ((s.island i).force = 2) || s.quadDown i

/-- PERST_N, while it is asserted, holds HST in reset (R130). -/
def State.inReset (s : State) (i : Island) : Bool := decide (i = .hst) && !s.boot.perstN

/-- A wake cause reaches an island: asleep, it starts to wake; draining, it will wake at once afterwards (R64, R68).
An island whose wake is forbidden, or that is GATED or ON, stays as it is. -/
def State.wake (s : State) (i : Island) : State :=
  let x := s.island i
  if x.drain.isSome then s.setIsland i { x with cause := true }
  else if s.wakeForbidden i then s
  else match x.power with
    | .doze | .off => s.setIsland i { x with waking := true }
    | _ => s

/-- A step of the operating-point sequencer holds the island's channels; the next step begins 10 µs after the last (R82). -/
def State.stepping (s : State) (i : Island) : Bool :=
  match (s.island i).seq with
  | some x => decide (x.startAt ≤ s.now)
  | none => false

/-- The ingress gate of an island is closed: asleep or draining, once a running sequencer step has ended (R63, R83). -/
def State.gateClosed (s : State) (i : Island) : Bool :=
  let x := s.island i
  (x.drain.isSome && !s.stepping i) || decide (x.power = .doze) || decide (x.power = .off)

/-- The wake buffer's capacity (R64). -/
abbrev wakeCap : Nat := 32

/-! ### Messages and events (R184, R185, R231 to R234) -/

/-- DL_Up (R172). -/
def State.linkUp (s : State) : Bool := s.bit Reg.HST_LINK_STS 17

/-- The link is in L0 or L0s (HST_LINK_STS.LTSSM, R173). -/
def State.inL0 (s : State) : Bool := s.linkUp && decide (s.fld Reg.HST_LINK_STS 0 3 = 3)

/-- Whether the device may issue a request TLP now (R143, R166, R170, R184). -/
def State.canSend (s : State) : Bool := s.inL0 && s.bme && !s.txn.d3hot && !s.boot.flr && s.isOn .hst

/-- The link is in Recovery from now on, out of every sleep state, and the entry is counted (R166, R167, R173). -/
def State.toRecovery (s : State) : State :=
  let t := ((s.setFld Reg.HST_LINK_STS 0 3 4).setFld Reg.HST_LINK_STS 13 3 0).bump Reg.HST_RECOV_CNT
  { t with link := { t.link with recoveryAt := t.now } }

/-- A cause to transmit takes the link out of L1 through Recovery, waking HST (R162); in L1.1 it waits for REFCLK (R163). -/
def State.leaveL1 (s : State) : State :=
  if s.linkUp && decide (s.fld Reg.HST_LINK_STS 0 3 = 5) && !s.bit Reg.HST_LINK_STS 15 then (s.wake .hst).toRecovery else s

/-- EVT_MODE: 0 none, 1 MSI, 2 MSI-X (R234). -/
def State.evtMode (s : State) : Nat := if s.msixEn then 2 else if s.msiEn then 1 else 0

/-- The MSI message of a vector with `n` messages allocated (R234). -/
def msiNumber (n v : Nat) : Nat := if v = 0 ∨ n = 1 then 0 else 1 + (v - 1) % (n - 1)

/-- Whether the vector is masked by the function or vector mask of the mode in force (R234). -/
def State.vecMasked (s : State) (v : Nat) : Bool :=
  match s.evtMode with
  | 2 => s.msixFmask || (s.msixD (4 * v + 3)).getLsbD 0
  | 1 => (s.cfgD 24).getLsbD (msiNumber s.msiCount v)
  | _ => false

/-- A vector's message: sent, or kept pending in the PBA or the MSI pending bits while it is masked or nothing may
leave (R184, R234). -/
def State.sendMessage (s : State) (v : Nat) : State :=
  match s.evtMode with
  | 2 =>
    if s.vecMasked v || !s.canSend then
      { s with txn := { s.txn with pba := s.txn.pba ||| BitVec.ofNat 128 (2 ^ v) } }.leaveL1
    else
      let t := { s with txn := { s.txn with pba := s.txn.pba &&& ~~~(BitVec.ofNat 128 (2 ^ v)) } }
      t.send (.message v v true (BitVec.ofNat 64 ((s.msixD (4 * v)).toNat + (s.msixD (4 * v + 1)).toNat * 2 ^ 32))
        (s.msixD (4 * v + 2)))
  | 1 =>
    let n := msiNumber s.msiCount v
    if s.vecMasked v || !s.canSend then (s.setCfg 25 (s.cfgD 25 ||| BitVec.ofNat 32 (2 ^ n))).leaveL1
    else
      let t := s.setCfg 25 (s.cfgD 25 &&& ~~~(BitVec.ofNat 32 (2 ^ n)))
      t.send (.message v n false (BitVec.ofNat 64 ((s.cfgD 21).toNat + (s.cfgD 22).toNat * 2 ^ 32))
        (BitVec.ofNat 32 ((s.cfgD 23).toNat / s.msiCount * s.msiCount + n)))
  | _ => s

/-- In D3hot with PME_En, an event on an unmasked vector sends a PME message (R185). -/
def State.pmeFor (s : State) (v : Nat) : State :=
  if s.txn.d3hot && s.pmeEn && !s.vecMasked v && s.linkUp then s.send .pme else s

/-- The timer of a vector in ticks; shed step 4 widens it (R233, R268). -/
def State.vecTimer (s : State) (v : Nat) : Nat :=
  let t := s.fld (Reg.EVT_VEC v) 8 10
  if t = 0 then 0 else usTicks (10 * (if 4 ≤ s.fld Reg.NRG_STS 0 3 then max (4 * t) 100 else t))

/-- A signal reaches a vector (R233): vector 0 sends at once, the others when COUNT signals are collected. -/
def State.signalVector (s : State) (v : Nat) : State :=
  if v = 0 then (s.pmeFor 0).sendMessage 0
  else
    let x := s.vec v
    let n := x.signals + 1
    let t := s.pmeFor v
    if s.fld (Reg.EVT_VEC v) 0 8 ≤ n then (t.setVec v {}).sendMessage v
    else t.setVec v { signals := n, firstAt := some (x.firstAt.getD s.now) }

/-- EVT_PEND and EVT_MASK bit of a source (R231). -/
def State.pended (s : State) (src : Nat) : Bool := s.bit (Reg.EVT_PEND (src / 18)) (src % 18)
def State.maskedSrc (s : State) (src : Nat) : Bool := s.bit (Reg.EVT_MASK (src / 18)) (src % 18)

/-- The queue island takes a raise (R231). -/
def State.takeEvent (s : State) (src : Nat) : State :=
  if s.pended src then s
  else
    let t := s.setBit (Reg.EVT_PEND (src / 18)) (src % 18) true
    if s.maskedSrc src then t else t.signalVector (s.fld (Reg.EVT_ROUTE src) 0 7)

/-- The monitor's unsolicited event line is held (R438). -/
def State.monEvent (s : State) (src : Nat) : State :=
  if s.bit Reg.MON_CTL 3 && (decide (552 ≤ src) || isAttention src) then
    if s.mon.events.length < 16 then { s with mon := { s.mon with events := s.mon.events ++ [src] } }
    else s.bump Reg.MON_EVDROP
  else s

/-- A source is raised (R231): taken by QUE when it is ON; parked for it while it sleeps, waking it (R64), or dropped and
counted when the wake buffer is full (R66), but that PLN_WAKEDROP itself is not counted again; lost to QUE while it is GATED (DESIGN CHOICE, log entry 23). -/
def State.raise (s : State) (src : Nat) : State :=
  let s := s.monEvent src
  if s.gateClosed .que then
    if s.wakeBuf.length < wakeCap then
      { s with wakeBuf := s.wakeBuf ++ [(Island.que, Parked.event src)] }.wake .que
    else if src = 557 then s else s.bump Reg.PLN_WAKE_DROP
  else if s.isOn .que && !s.stopped .que then s.takeEvent src
  else s

/-- A field of an event register is set and raises its source. -/
def State.raiseBit (s : State) (reg b src : Nat) : State := (s.setBit reg b true).raise src

def State.raiseQue (s : State) (b : Nat) : State := s.raiseBit Reg.QUE_EVT b (536 + b)
def State.raiseLink (s : State) (b : Nat) : State := s.raiseBit Reg.HST_LINK_EVT b (504 + b)
def State.raiseTxn (s : State) (b : Nat) : State := s.raiseBit Reg.HST_TXN_EVT b (514 + b)
def State.raiseArm (s : State) (b : Nat) : State := s.raiseBit Reg.ARM_EVT b (561 + b)
def State.raiseEnc (s : State) (e k : Nat) : State := s.raiseBit (Reg.ENC_EVT e) k (320 + 12 * e + k)
def State.raiseCan (s : State) (c k : Nat) : State := s.raiseBit (Reg.FB_EVT c) k (416 + 16 * c + k)
def State.raiseRing (s : State) (k : Nat) : State :=
  if k < 18 then s.raiseBit Reg.RNG_EVT0 k (480 + k) else s.raiseBit Reg.RNG_EVT1 (k - 18) (480 + k)
def State.raiseSat (s : State) (k : Nat) : State := s.raiseBit Reg.SAT_EVT k (520 + k)
def State.raiseNrg (s : State) (b : Nat) : State := s.raiseBit Reg.NRG_EVT b (573 + b)
def State.raiseMon (s : State) (b : Nat) : State := s.raiseBit Reg.MON_EVT b 575

/-! ### The access-error, pair and enable logs (R33, R47, R61) -/

/-- A refusal is logged: the first is kept, a further one sets OVERFLOW (R33, R51). -/
def State.logAccess (s : State) (req : Requester) (addr : Nat) (ca : Bool) (cause : Nat) : State :=
  if s.fld Reg.PLN_ACC_STS 0 2 = 0 then
    ((s.setBit Reg.PLN_ACC_STS (flag ca) true).wr Reg.PLN_ACC_BLK
      (word (addr / 65536 % 256 + req.code * 256 + cause * 2048))).wr Reg.PLN_ACC_OFS (word (addr % 65536))
  else s.setBit Reg.PLN_ACC_STS 2 true

/-- A pair fails (R47); a `p` of the monitor whose write broke it notes that (R441). -/
def State.pairFail (s : State) (pair cause : Nat) (req : Requester) : State :=
  let t := s.setPair pair none
  let t := if req = .monitor ∧ t.mon.running = 3 then { t with mon := { t.mon with pairFailed := true } } else t
  let t :=
    if t.bit Reg.PLN_PAIR_STS 0 then t.setBit Reg.PLN_PAIR_STS 1 true
    else (t.setBit Reg.PLN_PAIR_STS 0 true).wr Reg.PLN_PAIR_LAST (word (pair + cause * 16 + req.code * 128))
  t.raise 553

/-- A refused enable, gate or forced power write is logged (R61, R146). -/
def State.enableRefused (s : State) (island cause : Nat) : State :=
  let t :=
    if s.bit Reg.PLN_EN_STS 0 then s.setBit Reg.PLN_EN_STS 1 true
    else (s.setBit Reg.PLN_EN_STS 0 true).wr Reg.PLN_EN_REFUSE (word (island % 16 + cause * 16))
  t.raise 558

/-- A posted write to a closed gate is parked and its island woken, or dropped when the buffer is full (R64, R66). -/
def State.park (s : State) (i : Island) (p : Parked) : State :=
  if s.wakeBuf.length < wakeCap then { s with wakeBuf := s.wakeBuf ++ [(i, p)] }.wake i
  else (s.bump Reg.PLN_WAKE_DROP).raise 557

/-! ### SRAM (R26, R206) -/

/-- SRAM words. -/
abbrev sramWords : Nat := 262144

/-- How many of the low `n` bits of a word are set. -/
def onesCount (v : Word) : Nat → Nat
  | 0 => 0
  | n + 1 => flag (v.getLsbD n) + onesCount v n

/-- The error of a stored word: 0 none, 1 correctable, 2 uncorrectable. -/
def SramWord.err (w : SramWord) : Nat := min 2 (onesCount (w.stored ^^^ w.checked) 18)

def State.sramW (s : State) (w : Nat) : SramWord := Tab.get {} s.sram w
def State.setSram (s : State) (w : Nat) (x : SramWord) : State := { s with sram := Tab.set {} s.sram w x }

/-- A word is stored with fresh check bits. -/
def State.sramWrite (s : State) (w : Nat) (v : Word) : State := s.setSram w { stored := v, checked := v }

/-- The armature shadow's words (R98). -/
def State.inShadow (s : State) (w : Nat) : Bool :=
  decide (partBase s.image 3 ≤ w ∧ w < partBase s.image 3 + partSize s.image 3)

/-- A correctable or uncorrectable error is logged, counted and raised (R206); one in the committed image of the shadow
raises ARM_SHADOW with the word's offset in the image. -/
def State.eccNote (s : State) (w : Nat) (ue : Bool) : State :=
  let b := flag ue
  let t :=
    if s.bit Reg.MEM_ECC_STS b then s.setBit Reg.MEM_ECC_STS 2 true
    else (s.setBit Reg.MEM_ECC_STS b true).wr (if ue then Reg.MEM_UE_ADDR else Reg.MEM_CE_ADDR) (word w)
  let t := (t.bump (if ue then Reg.MEM_UE_CNT else Reg.MEM_CE_CNT (w / 32768))).raise 559
  if ue && t.inShadow w && decide (w - partBase t.image 3 < ((t.arm.committed.map fun i => i.words.length + i.sig.length).getD 0))
  then (t.wr Reg.ARM_ERR_WORD (word (w - partBase t.image 3))).raiseArm 6
  else t

/-- A read of an SRAM word by any consumer (R206): the data, whether it was uncorrectable, the state after. -/
def State.sramRead (s : State) (w : Nat) : Word × Bool × State :=
  let x := s.sramW w
  match x.err with
  | 0 => (x.stored, false, s)
  | 1 => (x.checked, false, (s.setSram w { stored := x.checked, checked := x.checked }).eccNote w false)
  | _ => (x.stored, true, s.eccNote w true)

/-! ### Hardware locks (R236 to R238) -/

/-- A lock is freed and marked broken. -/
def State.breakLock (s : State) (n : Nat) : State := s.setLock n { owner := none, broken := true }

/-- The locks of an owner are freed and marked broken (R238). -/
def State.breakLocks (s : State) (mine : LockOwner → Bool) : State :=
  s.forAll (List.range 64) fun t n =>
    match (t.lock n).owner with
    | some o => if mine o then t.breakLock n else t
    | none => t

def isHostOwner : LockOwner → Bool
  | .req .host => true
  | _ => false

/-! ### Free values -/

/-- The state after one free value has been drawn. -/
def State.drew (s : State) : State := { s with freeIdx := s.freeIdx + 1 }

/-! ### Island registers -/

/-- The registers of an island return to their reset values, keeping a lock bit that is set and the field it guards
(R44, R58, R140); their parity with them. -/
def State.resetRegs (s : State) (i : Island) : State :=
  let keep := fun (k : Nat) => !(i.blocks.contains (k / 65536)) || (decide (k = Reg.RNG_JOIN) && s.bit Reg.RNG_JOIN 1)
  { s with regs := s.regs.filter (fun e => keep e.1), parity := s.parity.filter (fun e => keep e.1)
           mbs := s.mbs.filter fun e => !((MailboxId.all.filter fun m => decide (m.island = i)).any fun m => decide (m.idx = e.1)) }

end Sys2Proof.Machine
end

