-- ==== Sys2Proof/Machine/Answers.lean ====
section
/-!
DEFINITION. How the device answers and reports: the AER bits of a host request (R188), the bridge log (R428), the lines
of the serial monitor (R435, R436), and the answer to a register access by its requester.
-/

namespace Sys2Proof.Machine

/-! ### AER -/

/-- The first unmasked error since the status was clear names itself in the First Error Pointer, and the header of its TLP, which
is the sender's (free values), stands in the header log; a timeout has no TLP. -/
def State.aerFirst (s : State) (bit : Nat) : State :=
  let t := s.setCfg 70 ((s.cfgD 70 &&& ~~~(31 : Dword)) ||| BitVec.ofNat 32 bit)
  if bit = 14 then t
  else ((List.range 4).foldl (fun t k => t.setCfg (71 + k) (BitVec.ofNat 32 (Config.freeNat (t.freeIdx + k)))) t).drew.drew.drew.drew

/-- The bits of the Status register that an error sets: Detected Parity Error for a poisoned TLP, Signaled Target Abort for a
CA completion, Signaled System Error for one reported under SERR# Enable. -/
def statusBits (bit : Nat) (answered reported : Bool) : Dword :=
  (if bit = 12 then 0x80000000 else 0) ||| (if bit = 15 ∧ answered = true then 0x08000000 else 0) |||
    (if reported then 0x40000000 else 0)

/-- An error is recorded in AER, Device Status and Status (R174, R188): an advisory one whose severity is non-fatal in the
Correctable Error Status too. The bit places are the standard's (PRESUMED, log entry 20). -/
def State.aer (s : State) (bit : Nat) (advisory : Bool) : State :=
  let fatal := (s.cfgD 67).getLsbD bit
  let masked := (s.cfgD 66).getLsbD bit
  let adv := advisory && !fatal
  let t := if !masked && decide (s.cfgD 65 &&& ~~~(s.cfgD 66) = 0) then s.aerFirst bit else s
  let t := t.setCfg 65 (t.cfgD 65 ||| BitVec.ofNat 32 (2 ^ bit))
  let t := if adv then t.setCfg 68 (t.cfgD 68 ||| 0x2000) else t
  let t := t.setCfg 30 (t.cfgD 30 ||| (if adv then 0x00010000 else if fatal then 0x00040000 else 0x00020000) |||
    (if bit = 20 then 0x00080000 else 0))
  t.setCfg 1 (t.cfgD 1 ||| statusBits bit advisory (!adv && !masked && (t.cfgD 1).getLsbD 8))

/-- The device sent or took poisoned data under Parity Error Response: Master Data Parity Error (R174). -/
def State.masterParity (s : State) : State := if (s.cfgD 1).getLsbD 6 then s.setCfg 1 (s.cfgD 1 ||| 0x01000000) else s

/-- AER bits: Completion Timeout, Completer Abort, Unexpected Completion, Poisoned TLP Received, Unsupported Request. -/
abbrev aerPoison : Nat := 12
abbrev aerCto : Nat := 14
abbrev aerCa : Nat := 15
abbrev aerUc : Nat := 16
abbrev aerUr : Nat := 20

/-- A poisoned TLP was received (R188): counted and raised. -/
def State.poisonNote (s : State) (advisory : Bool) : State :=
  ((s.aer aerPoison advisory).bump Reg.HST_POISON_CNT).raiseTxn 2

/-! ### The bridge log -/

/-- An error is logged in LASTERR (R428): cause, window, requester (0 device, 1 or 2 master) and address. -/
def State.satLog (s : State) (cause window requester : Nat) (addr : BitVec 22) : State :=
  { s with sat := { s.sat with lastErr :=
      [word (addr.toNat / 2 ^ 18 + requester * 16 + window * 64 + cause * 1024), word addr.toNat] } }

/-- The split request of a master is answered: `none` stands for SAT_ERR_N (R418). -/
def State.splitAnswer (s : State) (m : Nat) (ans : Option (List SatWord)) : State :=
  match s.splitOf m with
  | none => s
  | some x => s.setSplit m (some { x with answer := some ans, answerAt := s.now })

/-! ### Text of the monitor -/

/-- One upper-case hexadecimal digit. -/
def hexDigit (n : Nat) : Char :=
  match n with
  | 0 => '0' | 1 => '1' | 2 => '2' | 3 => '3' | 4 => '4' | 5 => '5' | 6 => '6' | 7 => '7' | 8 => '8' | 9 => '9'
  | 10 => 'A' | 11 => 'B' | 12 => 'C' | 13 => 'D' | 14 => 'E' | _ => 'F'

/-- A value in `digits` upper-case hexadecimal digits (R436). -/
def hexN : Nat → Nat → List Char
  | 0, _ => []
  | d + 1, v => hexN d (v / 16) ++ [hexDigit (v % 16)]

/-- A value in as few hexadecimal digits as it needs: for cause codes (R437). -/
def hexMin (v : Nat) : List Char := if v < 16 then hexN 1 v else hexN 2 v

/-- A number below 1,000 in three decimal digits (R438). -/
def dec3 (n : Nat) : List Char := [hexDigit (n / 100 % 10), hexDigit (n / 10 % 10), hexDigit (n % 10)]

/-- A value of `width` bits as the monitor prints it (R436). -/
def hexW (width v : Nat) : List Char := hexN ((width + 3) / 4) v

/-- Characters leave on MON_TXD; nothing leaves at level 0 (R433). -/
def State.monOut (s : State) (cs : List Char) : State :=
  if s.fld Reg.MON_CTL 0 2 = 0 then s else s.send (.monText cs)

/-- A line with its carriage return and line feed (R436). -/
def State.monLine (s : State) (line : List Char) : State := s.monOut (line ++ [Char.ofNat 13, Char.ofNat 10])

/-- The prompt (R436). -/
def State.monPrompt (s : State) : State := s.monOut "> ".toList

/-- The command in progress ends: its reply and the prompt go out, it is counted, and the monitor takes the next line
(R436, R447). -/
def State.monReply (s : State) (lines : List (List Char)) (ok : Bool) : State :=
  let t := lines.foldl State.monLine s
  let t := t.monPrompt.bump (if ok then Reg.MON_CMD_CNT else Reg.MON_ERR_CNT)
  let t := { t with mon := { t.mon with cmd := none, running := 0, todo := [], got := [], slots := 0, loadWait := false,
                                        pairFailed := false } }
  t.setBit Reg.MON_STS 5 false

def State.monOk (s : State) (line : List Char) : State := s.monReply ["= ".toList ++ line] true
def State.monNo (s : State) (line : List Char) : State := s.monReply ["! ".toList ++ line] false

/-- The refusal of a register access, naming the slot in an `r` of more than one (R437, R440). -/
def State.monRefused (s : State) (ca : Bool) (cause : Nat) (addr : BitVec 24) : State :=
  s.monNo ((if ca then "CA ".toList else "UR ".toList) ++ hexMin cause ++
    (if s.mon.running = 1 ∧ 1 < s.mon.slots then " ".toList ++ hexN 6 addr.toNat else []))

/-! ### Refusals of register accesses -/

/-- Whether a cause of R33 is answered with CA. -/
def causeCA (cause : Nat) : Bool := decide (9 ≤ cause ∧ cause ≤ 12)

/-- The event that a refusal also raises (R33). -/
def State.raiseCause (s : State) (cause : Nat) : State :=
  match cause with
  | 9 => s.raise 554
  | 10 => s.raise 555
  | 11 => (s.bump Reg.PLN_WAKE_FAIL).raise 556
  | _ => s

/-- A register access is refused (R33, R188): logged, raised, and for the host entered in AER. -/
def State.accessRefused (s : State) (write : Bool) (a : RegAccess) (cause : Nat) : State :=
  let t := if s.stopped .pln then s else (s.logAccess a.req a.addr.toNat (causeCA cause) cause).raiseCause cause
  if a.req = .host then t.aer (if causeCA cause then aerCa else aerUr) (!write) else t

/-- The answer to a refused access: a host read gets its completion, a satellite master's read SAT_ERR_N and an entry in
the bridge log (R420), the monitor its refusal line. -/
def State.answerRefused (s : State) (write : Bool) (a : RegAccess) (cause : Nat) : State :=
  match a.req with
  | .host => if write then s else s.send (.completion .host (if causeCA cause then .ca else .ur) [] false)
  | .monitor => if s.mon.running = 0 then s else s.monRefused (causeCA cause) cause a.addr
  | .sat0 | .sat1 =>
    let m := flag (decide (a.req = .sat1))
    let t := s.satLog 6 0 (m + 1) (BitVec.ofNat 22 (a.addr.toNat / 65536 * 16384 + a.addr.toNat % 65536 / 4))
    if write then t.raiseSat 14 else t.splitAnswer m none

end Sys2Proof.Machine
end

