-- ==== Sys2Proof/WellFormed.lean ====
section
/-!
DEFINITION. The operands that a command can have: what its types do not say already. Fields that no bus can carry are read as
what stands on the bus when they are sent.
-/

namespace Sys2Proof

/-- The number of data bytes that a DLC names (R373): FD frames have the long steps. -/
def dlcLen (fdf : Bool) (dlc : Nat) : Nat :=
  if dlc ≤ 8 then dlc
  else if fdf then
    match dlc with
    | 9 => 12 | 10 => 16 | 11 => 20 | 12 => 24 | 13 => 32 | 14 => 48 | _ => 64
  else 8

/-- A frame that can stand on the bus: a base identifier has 11 bits, BRS and ESI stand in FD frames only, RTR in
classical frames only, and the data are as many bytes as the DLC names; a remote frame has none. -/
def CanFrame.ok (f : CanFrame) : Bool :=
  (f.ide || decide (f.ident.toNat < 2048)) && (f.fdf || (!f.brs && !f.esi)) && !(f.fdf && f.rtr) &&
    decide (f.data.length = if f.rtr then 0 else dlcLen f.fdf f.dlc.toNat)

/-- The frame that stands on the bus when these fields are sent: what a frame of its kind has no place for is not there, and the
data are as many bytes as the DLC names, those not listed zero. -/
def CanFrame.onBus (f : CanFrame) : CanFrame :=
  let rtr := f.rtr && !f.fdf
  let n := if rtr then 0 else dlcLen f.fdf f.dlc.toNat
  { f with brs := f.brs && f.fdf, esi := f.esi && f.fdf, rtr := rtr
           ident := if f.ide then f.ident else BitVec.ofNat 29 (f.ident.toNat % 2048)
           data := (List.range n).map fun k => f.data.getD k 0 }

/-- A device-space burst of a master with one of the command codes: 1 to 16 words within one 64-word block (R403, R404). A write
carries the words that have come so far, at most its length; a HATM its operands (R422). -/
def SatBurst.ok (b : SatBurst) (cmds : List Nat) : Bool :=
  cmds.contains b.cmd.toNat && decide (1 ≤ b.len ∧ b.len ≤ 16 ∧ b.addr.toNat % 64 + b.len ≤ 64) &&
    (match b.cmd.toNat with
    | 4 => decide (b.words.length ≤ b.len)
    | 5 => decide (3 < b.len ∨ b.words.length = if b.len = 3 then 2 else 1)
    | _ => decide (b.words = []))

/-- The burst that stands on the bus when a master sends these fields under a command code (R404): SAT_LEN carries the length
minus 1 in four bits, no burst crosses its 64-word block, a read carries no words, and a write no more than its length; an
operand that a HATM does not list is zero. -/
def SatBurst.onBus (b : SatBurst) (cmd : BitVec 3) : SatBurst :=
  let len := min ((b.len + 15) % 16 + 1) (64 - b.addr.toNat % 64)
  { b with cmd := cmd, len := len, words := if cmd.toNat = 4 ∨ cmd.toNat = 5 then b.words.take len else [] }

/-- A host request to BAR2 has 1 to 1,024 dwords. -/
def Bar2Access.ok (a : Bar2Access) : Bool := decide (1 ≤ a.dwords.length ∧ a.dwords.length ≤ 1024)

/-- Whether the operands of a command are ones that its bus can carry as they stand. Every command has a meaning with any
operands: other operands are read as `CanFrame.onBus` and `SatBurst.onBus` say, or are answered as R177, R188 and R209 say. -/
def Instr.ok : Instr → Bool
  | .canFrameRx _ f _ => f.ok
  | .atomicopRequest a => (a.bar == 0 || a.bar == 2 || a.bar == 4) && (a.width == 32 || a.width == 64 || a.width == 128)
  | .bar4Access a => a.size == 4 || a.size == 8
  | .bridgeHostWrite a | .bridgeHostRead a => a.ok
  | .chnOpInvalid _ code => decide (code = 0 ∨ 4 < code.toNat)
  | .satHrd _ b => b.ok [3]
  | .satHwr _ b => b.ok [4]
  | .satHatm _ b => b.ok [5]
  | .satCmdReserved _ b => b.ok [6, 7]
  | _ => true

end Sys2Proof
end

