-- ==== Sys2Proof/Machine/CanTx.lean ====
section
/-!
DEFINITION. What a field bus controller has to send (R386 to R389): frames and their words, the transmit buffers, the
frame offered to the bus, and what becomes of a request that ends while its frame is in arbitration or on the bus.
-/

namespace Sys2Proof.Machine

/-! ### Frames and their words (R383, R386) -/

/-- Bytes two per word in bits 15:0, the earlier byte in bits 15:8 (R383). -/
def packBytes : List (BitVec 8) → List Word
  | [] => []
  | [a] => [word (a.toNat * 256)]
  | a :: b :: t => word (a.toNat * 256 + b.toNat) :: packBytes t

/-- The first `n` bytes of packed words. -/
def unpackBytes (ws : List Word) (n : Nat) : List (BitVec 8) :=
  (ws.flatMap fun w => [BitVec.ofNat 8 (w.toNat / 256), BitVec.ofNat 8 w.toNat]).take n

/-- Bits 10:2 of RXFRAME word 1 (R383). -/
def canFlags (f : CanFrame) : Nat :=
  flag f.ide * 4 + flag f.fdf * 8 + flag f.brs * 16 + flag f.esi * 32 + flag f.rtr * 64 + f.dlc.toNat * 128

def canIdHi (f : CanFrame) : Nat := if f.ide then f.ident.toNat / 2 ^ 18 else 0
def canIdLo (f : CanFrame) : Nat := if f.ide then f.ident.toNat % 2 ^ 18 else f.ident.toNat % 2048

/-- How many data bytes a frame with these flags carries (R373). -/
def dataLen (fdf rtr : Bool) (dlc : Nat) : Nat := if rtr then 0 else dlcLen fdf dlc

/-- A frame read from its flags, identifier and data words; ESI is ignored on transmit (R386). -/
def frameOf (flags hi lo : Word) (data : List Word) : CanFrame :=
  { ide := flags.getLsbD 2, fdf := flags.getLsbD 3, brs := flags.getLsbD 4, esi := false, rtr := flags.getLsbD 6
    dlc := BitVec.ofNat 4 (fieldOf flags 7 4)
    ident := BitVec.ofNat 29 (if flags.getLsbD 2 then fieldOf hi 0 11 * 2 ^ 18 + lo.toNat else fieldOf lo 0 11)
    data := unpackBytes data (dataLen (flags.getLsbD 3) (flags.getLsbD 6) (fieldOf flags 7 4)) }

/-- Flags that no frame to be sent may have (R388): RTR with FDF, BRS without FDF, FDF in MODE CLASSIC. -/
def canIllegal (f : CanFrame) (mode : Nat) : Bool := (f.rtr && f.fdf) || (f.brs && !f.fdf) || (f.fdf && decide (mode = 2))

/-! ### Buffers (R386) -/

def txbIndex (c j w : Nat) : Nat := (c * 64 + j) * 36 + w
def State.txb (s : State) (c j w : Nat) : Word := Tab.get 0 s.fb.txb (txbIndex c j w)
/-- A word of a buffer takes a value, and its hidden parity bit that of the value (R35). -/
def State.setTxb (s : State) (c j w : Nat) (v : Word) : State :=
  { s with fb := { s.fb with txb := Tab.set 0 s.fb.txb (txbIndex c j w) v
                             txbPar := Tab.set false s.fb.txbPar (txbIndex c j w) (parityBit (rowOf (Reg.FB_TXB_W w)) v) } }

/-- FB_TXB_SEL: the controller and buffer in the window (R386). -/
def State.txbAt (s : State) : Nat × Nat := (s.fld Reg.FB_TXB_SEL 6 2, s.fld Reg.FB_TXB_SEL 0 6)

/-- The frame in a transmit buffer. -/
def State.bufFrame (s : State) (c j : Nat) : TxFrame :=
  { f := frameOf (s.txb c j 0) (s.txb c j 1) (s.txb c j 2) ((List.range 32).map fun k => s.txb c j (4 + k))
    marker := s.txb c j 3 }

/-- Whether a buffer is requested (R387). -/
def State.requested (s : State) (c j : Nat) : Bool := s.bit (Reg.FB_TXREQ c (j / 16)) (j % 16)

/-! ### The frame offered to the bus (R389) -/

/-- The arbitration field as a number: the lower one wins. A base frame sends its identifier, RTR and IDE dominant; an
extended frame SRR and IDE recessive, the low identifier bits and RTR. -/
def canKey (f : CanFrame) : Nat :=
  if f.ide then canIdHi f * 2 ^ 21 + 2 ^ 20 + 2 ^ 19 + canIdLo f * 2 + flag f.rtr else canIdLo f * 2 ^ 21 + flag f.rtr * 2 ^ 20

/-- The frames that wait: requested buffers, then the head frames of the TX queues. -/
def State.txWaiting (s : State) (c : Nat) : List (TxSource × TxFrame) :=
  (((List.range 64).filter fun j => s.requested c j).map fun j => (TxSource.buffer j, s.bufFrame c j)) ++
    [0, 1].filterMap fun k => (Tab.get none (s.can c).heads k).map fun f => (TxSource.queue k, f)

/-- The first of the waiting frames with the least key. -/
def leastKey : List (TxSource × TxFrame) → Option (TxSource × TxFrame)
  | [] => none
  | x :: t => match leastKey t with
    | none => some x
    | some y => some (if canKey x.2.f ≤ canKey y.2.f then x else y)

/-- The phase of a controller (FB_STS.PHASE, R401). -/
def State.fbPhase (s : State) (c : Nat) : Nat := s.fld (Reg.FB_STS c) 0 3
def State.setPhase (s : State) (c p : Nat) : State := s.setFld (Reg.FB_STS c) 0 3 p

/-- Bus monitoring, which maquette mode imposes (R385, R399). -/
def State.listens (s : State) (c : Nat) : Bool := s.bit (Reg.FB_CTL c) 1 || s.bit Reg.ARM_STS 12

/-- The frame that the controller has in arbitration or on the bus. -/
def State.offered (s : State) (c : Nat) : Option (TxSource × TxFrame) :=
  match (s.can c).onBus with
  | some x => some x
  | none => if s.fbPhase c = 3 && !s.listens c then leastKey (s.txWaiting c) else none

/-! ### Requests that end (R378, R387, R398) -/

/-- A request or head frame is withdrawn: one that is in arbitration or on the bus stays there until it completes. -/
def State.keepOnBus (s : State) (c : Nat) (src : TxSource) : State :=
  match s.offered c with
  | some x => if x.1 = src then s.setCan c { s.can c with onBus := some x } else s
  | none => s

/-- A request bit is cleared. -/
def State.cancelBuffer (s : State) (c j : Nat) : State :=
  if s.requested c j then (s.keepOnBus c (.buffer j)).setBit (Reg.FB_TXREQ c (j / 16)) (j % 16) false else s

/-- A head frame is discarded; it is counted unless it is already on the bus. -/
def State.discardHead (s : State) (c k : Nat) : State :=
  match Tab.get none (s.can c).heads k with
  | none => s
  | some f =>
    let t := s.keepOnBus c (.queue k)
    let t := if (t.can c).onBus = some (.queue k, f) then t else t.bump (Reg.FB_TXDISC c)
    t.setCan c { t.can c with heads := Tab.set none (t.can c).heads k none }

/-- Requests are cleared and head frames discarded (R378, R398). -/
def State.clearRequests (s : State) (c : Nat) : State :=
  let t := s.forAll (List.range 64) fun t j => t.cancelBuffer c j
  t.forAll [0, 1] fun t k => t.discardHead c k

/-- R398: an FLR, PERST_N, a hot reset or a link loss on every controller. -/
def State.fldRequestsEnd (s : State) : State :=
  if s.isOn .fld then s.forAll (List.range 4) State.clearRequests else s

/-- A queue is disabled: a head frame fetched from it is discarded ("A TX queue is disabled while its head frame
waits", 13_fieldbus.md). -/
def State.canQueueGone (s : State) (q : Nat) : State :=
  s.forAll (List.range 4) fun t c => t.forAll [0, 1] fun t k =>
    match Tab.get none (t.can c).heads k with
    | some f => if f.queue = q then t.discardHead c k else t
    | none => t

/-! ### Initialisation (R378, R379) -/

/-- The PINS function of a controller (R93, R372). -/
def State.fbPin (s : State) (c : Nat) : Nat := (pinOf s.image 3 c).1

/-- A controller leaves initialisation: counters zero, integrating, the quiet period to follow. -/
def State.fbLeaveInit (s : State) (c : Nat) : State :=
  if s.fbPin c = 1 ∧ fbMode s.image c ≠ 0 then
    let t := (s.setBit (Reg.FB_CTL c) 0 false).wr (Reg.FB_STS c) 1
    let t := ((t.wr (Reg.FB_TEC c) 0).wr (Reg.FB_REC c) 0).wr (Reg.FB_TERM c) 0x3000
    t.setCan c { t.can c with quietDue := true, quietAt := none, onBus := none }
  else s

/-- A controller enters initialisation (R378, R393). -/
def State.fbEnterInit (s : State) (c : Nat) : State :=
  let t := (s.clearRequests c).setBit (Reg.FB_CTL c) 0 true
  let t := if t.fbPhase c = 6 then t else (t.setPhase c 0).setBit (Reg.FB_STS c) 6 false
  t.setCan c { t.can c with quietDue := false, quietAt := none, swapDue := false }

/-- What FLD takes from its sections (R372, R378, R381, R397). -/
def State.fldInit (s : State) : State :=
  let t := s.wr Reg.FB_PART (word (partBase s.image 2 / 1024))
  t.forAll (List.range 4) fun t c => if t.fbPin c = 2 then t.setPhase c 6 else t.fbLeaveInit c

end Sys2Proof.Machine
end

