-- ==== Sys2Proof/Machine/Arbiter.lean ====
section
/-!
DEFINITION. The grants of the arbiters (R249 to R252, R258): the maximum in force, the count of a grant, a lone request.
-/

namespace Sys2Proof.Machine

/-- The TAMP row of an arbiter by its number (R250). -/
def arbRow (n : Nat) : Nat := if n < 8 then 0 else n - 7

def State.minOf (s : State) (row a : Nat) : Nat := tampMin s.arm.plnImage row a

/-- The maximum in force: the bulk and background maximums of host transmit follow the link's width and rate (R258). -/
def State.maxOf (s : State) (row a : Nat) : Nat :=
  let m := tampMax s.arm.plnImage row a
  if row = 1 ∧ (actClass a = .bulk ∨ actClass a = .background) then
    max (s.minOf row a) (min 0x3FFFF (m * s.nrg.scaleNum / max 1 s.nrg.scaleDen))
  else m

def Arb.granted (x : Arb) (a : Nat) : Nat := Tab.get 0 x.grants a

/-- A grant to an activity is counted; the windows of the line-critical quota hold 16 grants each (R254). -/
def Arb.grant (x : Arb) (a : Nat) : Arb :=
  { x with grants := Tab.set 0 x.grants a (x.granted a + 1), parked := some a
           window := (if x.window.length < 16 then x.window else []) ++ [decide (actClass a = .lineCritical)] }

/-- The waiting activities are noted for SHORT (R272). -/
def State.noteAsked (s : State) (n : Nat) (acts : List Nat) : State :=
  let x := s.arb n
  s.setArb n { x with asked := x.asked ++ (acts.eraseDups.filter fun a => !x.asked.contains a) }

/-- A lone request for `k` grants of an activity at arbiter `n`: granted, unless they would take the activity over its maximum
(R252). -/
def State.grantsAt (s : State) (n a k : Nat) : Option State :=
  if (s.arb n).granted a + k ≤ s.maxOf (arbRow n) a then
    some (s.setArb n ((List.range k).foldl (fun x _ => x.grant a) (s.arb n)))
  else none

/-- A lone request for one grant. -/
def State.grantAt (s : State) (n a : Nat) : Option State := s.grantsAt n a 1

/-- An access on the Plinth register bus. -/
def State.busGrant (s : State) (a : Nat) : Option State := s.grantAt 11 a

end Sys2Proof.Machine
end

