-- ==== Sys2Proof/Machine/TxnOps.lean ====
section
/-!
DEFINITION. Requests of the device on the link: tags, reads and their timeouts (R183, R190 to R193), the address
translation cache (R198 to R202), the messages kept pending (R184).
-/

namespace Sys2Proof.Machine

/-- The lowest tag that is neither outstanding nor quarantined (R183, R191). -/
def State.freeTag (s : State) : Option Nat :=
  (List.range s.tagLimit).find? fun t =>
    !(s.txn.tags.any fun x => decide (x.tag = t)) && !(s.txn.quarantine.any fun x => decide (x.tag = t))

/-- The number of the host-transmit arbiter, and the activities of what it carries (R249, R250). -/
abbrev arbHostTx : Nat := 8
def readActivity : Consumer → Nat
  | .cmdQueue .. => 2 | .canQueue .. => 3 | .satRead _ | .satAtomic _ => 4 | .ats .. => 13

/-- A non-posted request takes its grant of host transmit and its tag, and leaves; with no grant or tag to be had, or nothing
allowed to leave, it waits (R184, R193, R252): `none`. -/
def State.issue (s : State) (who : Consumer) (out : Nat → Output) (page : Option (BitVec 52) := none) : Option State :=
  if !s.canSend then none
  else match s.freeTag, s.grantAt arbHostTx (readActivity who) with
    | some t, some u =>
      some ({ u with txn := { u.txn with tags := u.txn.tags ++ [({ tag := t, who := who, issuedAt := s.now, page := page } : Tag)] } }.send (out t))
    | _, _ => none

/-- A request that could not be issued waits; where it wants only its grant, the arbiter has been asked (R272). -/
def State.issueWaits (s : State) (who : Consumer) : State :=
  if s.canSend && s.freeTag.isSome then s.noteAsked arbHostTx [readActivity who] else s

/-- A memory read of `n` dwords. -/
def State.issueRead (s : State) (who : Consumer) (addr : BitVec 64) (n : Nat) (page : Option (BitVec 52) := none) : Option State :=
  s.issue who (fun t => .memRead t addr n) page

/-- The entry of an outstanding tag. -/
def State.tagOf (s : State) (t : Nat) : Option Tag := s.txn.tags.find? fun x => decide (x.tag = t)

/-- The held invalidations once no read with a tag of `gone` is outstanding; a flush that waits for none any more is over. -/
def invalsAfter (invals : List Inval) (gone : Nat → Bool) : List Inval :=
  (invals.map fun i => { i with waits := i.waits.filter fun w => !gone w }).filter fun i => i.itag.isSome || !i.waits.isEmpty

/-- The tag is free again. -/
def State.freeTagOf (s : State) (t : Nat) : State :=
  { s with txn := { s.txn with tags := s.txn.tags.filter (fun x => !decide (x.tag = t))
                               invals := invalsAfter s.txn.invals fun w => decide (w = t) } }

/-- A tag is free again only after its quarantine, of twice the timeout in force (R191). -/
def State.quarantineTag (s : State) (t : Nat) : State :=
  let u := s.freeTagOf t
  { u with txn := { u.txn with quarantine := u.txn.quarantine ++ [({ tag := t, endAt := s.now + 2 * s.ctoTicks } : Quarantine)] } }

/-- The tags of a consumer will have their completions sunk (R144, R216, R425). -/
def State.sinkTags (s : State) (mine : Consumer → Bool) : State :=
  { s with txn := { s.txn with tags := s.txn.tags.map fun x => if mine x.who then { x with sunk := true } else x } }

/-- HST_CTO_LAST's value for a consumer (R205). -/
def ctoLast : Consumer → Nat
  | .cmdQueue q _ | .canQueue _ _ q => q
  | .satRead m | .satAtomic m => 2048 * (m + 1)
  | .ats _ _ => 2048 * 3

/-- HST_TAG_STS and HST_ATC_STS as read (R205). -/
def State.tagSts (s : State) : Word := word (s.txn.tags.length + s.txn.quarantine.length * 512)
def State.atcSts (s : State) : Word :=
  word (s.txn.atc.length + (s.txn.invals.filter fun i => i.itag.isSome).length * 128)

/-! ### Address translation (R198 to R202) -/

/-- Page of an address. -/
def pageOf (addr : BitVec 64) : BitVec 52 := BitVec.ofNat 52 (addr.toNat / 4096)

/-- The cache's entry of a page. -/
def State.atcFind (s : State) (p : BitVec 52) : Option AtcEntry := s.txn.atc.find? fun e => decide (e.vpage = p)

/-- A use of an entry makes it the most recent; at most 64 entries stay (R198). -/
def State.atcUse (s : State) (e : AtcEntry) : State :=
  { s with txn := { s.txn with atc := (e :: s.txn.atc.filter fun x => !decide (x.vpage = e.vpage)).take 64 } }

/-- A flush waits for the reads that used what it removed (R202): no translation is requested meanwhile (DEDUCED, log entry 125). -/
def State.flushing (s : State) : Bool := s.txn.invals.any fun i => i.itag.isNone

/-- A translation of a page is requested for a queue, unless one is outstanding (R199). -/
def State.requestTranslation (s : State) (q : Nat) (p : BitVec 52) : State :=
  if s.flushing || (s.txn.tags.any fun x => decide (x.who = .ats q p)) then s
  else (s.issue (.ats q p) fun t => .translationReq t p).getD (s.issueWaits (.ats q p))

/-- The cache is emptied, entirely or within a range of pages (R201, R202). -/
def State.atcRemove (s : State) (gone : BitVec 52 → Bool) : State :=
  { s with txn := { s.txn with atc := s.txn.atc.filter fun e => !gone e.vpage } }

/-- The tags of the reads that used translations of some pages (R201). -/
def State.readsThrough (s : State) (gone : BitVec 52 → Bool) : List Nat :=
  (s.txn.tags.filter fun x => x.page.any gone).map (·.tag)

/-- The covered entries go; a completion (`itag`), or the end of a flush, waits for the reads that used them (R201, R202). -/
def State.invalidate (s : State) (itag : Option Nat) (gone : BitVec 52 → Bool) : State :=
  let waits := s.readsThrough gone
  let t := s.atcRemove gone
  if itag.isNone && waits.isEmpty then t
  else { t with txn := { t.txn with invals := t.txn.invals ++ [{ itag := itag, waits := waits }] } }

/-- The cache is emptied (R202). -/
def State.flushAtc (s : State) : State := s.invalidate none fun _ => true

/-! ### Pending messages -/

/-- An LTR message with a value in µs leaves. -/
def State.sendLtr (s : State) (us : Nat) : State :=
  { s with link := { s.link with ltrLast := us, ltrAt := some s.now, ltrDue := false } }.send (.ltr us)

/-- An LTR message that SEND asked for while the link could not carry it leaves (R165). -/
def State.sendLtrDue (s : State) : State :=
  if s.link.ltrDue && s.ltrEn && s.canSend then s.sendLtr (s.rd Reg.HST_LTR_US).toNat else s

/-- Every message that waits and may leave now leaves (R165, R184, R234). -/
def State.sendPending (u : State) : State :=
  let s := u.sendLtrDue
  match s.evtMode with
  | 2 => s.forAll (List.range 128) fun t v => if t.txn.pba.getLsbD v && !t.vecMasked v then t.sendMessage v else t
  | 1 => s.forAll (List.range 32) fun t n =>
      if (t.cfgD 25).getLsbD n && !(t.cfgD 24).getLsbD n then
        let v := if n = 0 then 0 else n
        t.sendMessage v
      else t
  | _ => s

end Sys2Proof.Machine
end

