-- ==== Sys2Proof/Machine/QueueOps.lean ====
section
/-!
DEFINITION. Operations over queues, entries and hardware locks (R217 to R227, R236 to R238).
-/

namespace Sys2Proof.Machine

/-! ### Fields of a queue (R217, R220) -/

def Queue.typ (q : Queue) : Nat := fieldOf q.cfg 0 3
def Queue.depth (q : Queue) : Nat := 2 ^ (fieldOf q.cfg 3 4 + 4)
def Queue.translated (q : Queue) : Bool := q.cfg.getLsbD 7
def Queue.notify (q : Queue) : Bool := q.cfg.getLsbD 8
/-- VECTOR; 0 counts as 1. -/
def Queue.vector (q : Queue) : Nat := max 1 (fieldOf q.cfg 9 7)
/-- Occupancy: (producer − consumer) mod 2^17. -/
def Queue.occ (q : Queue) : Nat := (q.prod - q.cons).toNat
def Queue.isFull (q : Queue) : Bool := decide (q.depth ≤ q.occ + q.staged.length)
/-- The host address of entry `k`. -/
def Queue.addr (q : Queue) (k : Nat) : BitVec 64 := BitVec.ofNat 64 (q.base.toNat * 4096 + 64 * (k % q.depth))
/-- The phase bit of entry `k` (R221). -/
def Queue.phase (q : Queue) (k : Nat) : Nat := 1 - k / q.depth % 2
/-- The host rings the doorbell with the producer: COMMAND and CANTX queues. -/
def Queue.hostProduces (q : Queue) : Bool := decide (q.typ = 3 ∨ q.typ = 5)

def qStateCode : QState → Nat
  | .disabled => 0 | .enabled => 1 | .fault => 2 | .draining => 3

/-- QUE_STS[q] as read (R241). -/
def Queue.sts (q : Queue) : Word :=
  word (qStateCode q.state + q.typ * 4 + flag (decide (q.depth ≤ q.occ)) * 32 + flag q.translated * 64 +
    (if q.state = .fault then q.faultCause else 0) * 128)

/-- Entries staged in all (QUE_STAGE). -/
def State.stagedCount (s : State) : Nat := (s.que.queues.map fun e => e.2.staged.length).sum

/-- Entries that the staging area holds (R223). -/
def State.stageCap (s : State) : Nat := (partSize s.image 0 - 16384) / 16

/-! ### Faults of a queue -/

/-- A read that fetches for a queue. -/
def fetchesFor (q : Nat) : Consumer → Bool
  | .cmdQueue k _ | .canQueue _ _ k => decide (k = q)
  | _ => false

/-- An ENABLED queue faults (R228, R241): the first fault's queue and cause are kept while any of QUE_EVT bits 2 to 4 and 11 is
set; a FAULT queue fetches nothing, so a read under way for it is sunk. -/
def State.faultQueue (s : State) (q cause : Nat) : State :=
  if (s.queue q).state ≠ .enabled then s
  else
    let quiet := !(s.bit Reg.QUE_EVT 2 || s.bit Reg.QUE_EVT 3 || s.bit Reg.QUE_EVT 4 || s.bit Reg.QUE_EVT 11)
    let t := (s.modQueue q fun x => { x with state := .fault, faultCause := cause, fetching := false, needDoorbell := true }).sinkTags
      (fetchesFor q)
    let t := if quiet then t.wr Reg.QUE_FAULTQ (word (q + cause * 2048)) else t
    t.raiseQue cause

/-- The address of the SRAM word in which a descriptor, or a staged entry, went bad: somewhere in its part of the queue
partition, whose layout the manual does not give (a free value). -/
def State.badQueueWord (s : State) (desc : Bool) : Nat :=
  let n := Config.freeNat s.freeIdx
  (partBase s.image 0 + (if desc then n % 16384 else 16384 + n % (partSize s.image 0 - 16384))) % sramWords

/-- A word of a queue's descriptor or of a staged entry was uncorrectable: logged and counted like any read (R189, R206). -/
def State.queueUE (s : State) (desc : Bool) : State := (s.eccNote (s.badQueueWord desc) true).drew

/-! ### Address translation for a queue (R198 to R200) -/

/-- The translation that a queue needs failed (R200): HST_ATSFAULT, and the queue faults. -/
def State.atsFault (s : State) (q : Nat) : State := (s.raiseTxn 4).faultQueue q 4

/-- A miss of a queue is counted once, whether its request may leave or not (R199, R205). -/
def State.countMiss (s : State) (q : Nat) (p : BitVec 52) : State :=
  if (s.queue q).missAt = some p then s
  else (s.modQueue q fun x => { x with missAt := some p }).bump Reg.HST_ATC_MISS

/-- The address that leaves for a queue's access: `none` while a translation with the permission it needs is awaited, and where
the access fails: while ATS is not enabled, or after a translation that failed (R200). -/
def State.translate (s : State) (q : Nat) (write : Bool) (addr : BitVec 64) : Option (BitVec 64) × State :=
  let p := pageOf addr
  if !(s.queue q).translated then (some addr, s)
  else if !s.atsEn || s.txn.atsBad.contains (q, p) then
    (none, { s with txn := { s.txn with atsBad := s.txn.atsBad.filter fun e => !decide (e = (q, p)) } }.atsFault q)
  else match (s.atcFind p).filter fun e => if write then e.write else e.read with
    | some e =>
      (some (BitVec.ofNat 64 (e.ppage.toNat * 4096 + addr.toNat % 4096)), (s.atcUse e).modQueue q fun x => { x with missAt := none })
    | none => (none, (s.countMiss q p).requestTranslation q p)

/-- The queue's pointer moves from entry `k` by `n`: where it enters the last 1 KiB of a page, the translation of the next page
is requested, unless the cache holds it (R199). -/
def State.askAhead (s : State) (q k n : Nat) : State :=
  let x := s.queue q
  let i := k % x.depth % 64
  let p := pageOf (x.addr (k - i + 64))
  if x.translated && s.atsEn && decide (i < 48 ∧ 48 ≤ i + n) && (s.atcFind p).isNone then s.requestTranslation q p else s

/-! ### Channel bookkeeping -/

/-- The handle of a slot: bits 17:11 slot, bits 10:0 generation (R207). -/
def State.handleOf (s : State) (slot : Nat) : Word := word (slot * 2048 + (s.chn slot).gen.toNat)

/-- The slot of a handle that is not stale (R208). -/
def State.slotOf (s : State) (h : Word) : Option Nat :=
  let slot := fieldOf h 11 7
  let c := s.chn slot
  if h ≠ 0 ∧ fieldOf h 0 11 = c.gen.toNat ∧ c.inUse = true then some slot else none

/-- A record of a slot and port is lost (R222): the slot's LOST item and the port's gap count take it. -/
def State.loseRecord (s : State) (slot port : Option Nat) : State :=
  let t := match slot with
    | some k => s.setChn k { s.chn k with lost := (s.chn k).lost + 1 }
    | none => s
  match port with
  | some p => t.modPort p fun x => { x with lostRecs := satTo 0x3FFFF x.lostRecs 1 }
  | none => t

/-- An entry is discarded for its queue: DROPS counts it. -/
def State.dropEntry (s : State) (q : Nat) (e : QEntry) : State :=
  let t := s.modQueue q fun x => { x with drops := x.drops + 1 }
  t.loseRecord e.slot e.port

/-- A record or gap record: what the counters of dropped records count (R171, R184). -/
def QEntry.isRecord (e : QEntry) : Bool := decide (e.typ = 1 ∨ e.typ = 2)

/-- Every staged entry is dropped, its records counted in `reg` (R171, R184); what the entries would have reported is raised. -/
def State.dropStagedInto (s : State) (reg : Nat) : State :=
  let all := s.que.queues.flatMap fun e => e.2.staged
  let t := { s with que := { s.que with queues := s.que.queues.map (fun (e : Nat × Queue) => (e.1, { e.2 with staged := [] })), stageFull := false } }
  let t := t.bumpBy reg (all.filter QEntry.isRecord).length
  (all.filterMap fun e => e.cause).foldl State.raiseQue t

/-- An entry reaches the queue island for a device-to-host queue (R171, R184, R222, R235): lost after a surprise link-down, or without the bus
master enable, where records and gap records are counted; dropped for a queue that is full or not ENABLED, else staged. A TRIGGER entry takes the port's gap count
into word 12 (R225). -/
def State.stageEntry (s : State) (q : Nat) (e : QEntry) : State :=
  let x := s.queue q
  if s.bit Reg.HST_LL_STS 1 then s.bumpBy Reg.HST_LL_DROP (flag e.isRecord)
  else if !s.bme || s.txn.d3hot then s.bumpBy Reg.HST_NOBM_DROP (flag e.isRecord)
  else if x.state ≠ .enabled then
    if e.typ = 0x10 then (s.modQueue q fun x => { x with drops := x.drops + 1 }).raiseQue 15 else (s.dropEntry q e).raiseQue 9
  else if x.isFull then
    if e.typ = 0x10 then (s.modQueue q fun x => { x with drops := x.drops + 1 }).raiseQue 15 else (s.dropEntry q e).raiseQue 0
  else
    let g := match e.port with | some p => (s.port p).lostRecs | none => 0
    let e := if e.typ = 1 then { e with words := e.words.take 11 ++ [word g] } else e
    let t := (s.modQueue q fun x => { x with staged := x.staged ++ [e] }).leaveL1
    let t := match e.typ, e.port with
      | 1, some p => t.modPort p fun x => { x with lostRecs := 0 }
      | _, _ => t
    if t.stageCap ≤ t.stagedCount ∧ t.que.stageFull = false then
      { t with que := { t.que with stageFull := true } }.raiseQue 7
    else t

/-- A record or other entry of a channel goes to the channel's record queue. -/
def State.stageRecord (s : State) (slot : Nat) (typ : Nat) (words : List Word) (port : Option Nat) (cause : Option Nat) :
    State :=
  s.stageEntry (s.chn slot).recq { typ := typ, words := words, slot := some slot, port := port, cause := cause }

/-- An event of a head port of a channel that has an event queue (R235): source, device time, detail. -/
def State.stageEvent (s : State) (port src : Nat) (detail : Word) : State :=
  match s.binder port with
  | none => s
  | some slot =>
    match (s.chn slot).evq with
    | none => s
    | some q =>
      s.stageEntry q { typ := 0x10, words := [s.handleOf slot, word src] ++ words54 s.devTime ++ [detail], slot := some slot }

/-! ### Queue commands (R219) -/

def State.queueRefused (s : State) : State := s.raiseQue 5

/-- A queue's CFG names a type and a depth that R217 gives: the reserved types and LOG2 above 12 are refused like type NONE
(DESIGN CHOICE, log entry 126). -/
def Queue.cfgOk (q : Queue) : Bool := decide (1 ≤ q.typ ∧ q.typ ≤ 5 ∧ fieldOf q.cfg 3 4 ≤ 12)

/-- ENABLE; the page of a translated queue is asked for as it is enabled (R199). -/
def State.queueEnableOp (s : State) (q : Nat) : State :=
  let x := s.queue q
  if x.state = .disabled ∧ x.cfgOk = true then
    let t := s.setQueue q { x with state := .enabled, prod := 0, cons := 0, fetchPos := 0, staged := [], fetched := [],
                                   fetching := false, needDoorbell := false, missAt := none }
    let t := { t with txn := { t.txn with atsBad := t.txn.atsBad.filter fun e => !decide (e.1 = q) } }
    let p := pageOf (x.addr 0)
    if x.translated && t.atsEn && (t.atcFind p).isNone then t.requestTranslation q p else t
  else s.queueRefused

/-- DISABLE: the staged entries are discarded and counted in DROPS; QUE_LOST is raised where there were any, and what they would
have reported. -/
def State.queueDisableOp (s : State) (q : Nat) : State :=
  let x := s.queue q
  if x.state = .enabled ∨ x.state = .fault then
    let t := s.modQueue q fun y => { y with state := .draining, staged := [], fetched := [], needDoorbell := false,
                                            drops := y.drops + BitVec.ofNat 36 x.staged.length }
    let t := { t with que := { t.que with lockWait := t.que.lockWait.filter fun w => !decide (w.2.2 = q) } }
    let t := t.canQueueGone q
    let t := if x.staged.isEmpty then t else t.raiseQue 8
    (x.staged.filterMap fun e => e.cause).foldl State.raiseQue t
  else s.queueRefused

def State.queueDrained (s : State) (q : Nat) : State :=
  if (s.queue q).state = .draining then
    (s.modQueue q fun x => { x with state := .disabled, fetching := false }).sinkTags (fetchesFor q)
  else s

def State.queueResetOp (s : State) (q : Nat) : State :=
  if (s.queue q).state = .disabled then s.modQueue q fun x => { x with prod := 0, cons := 0, fetchPos := 0 }
  else s.queueRefused

def State.queueFaultclrOp (s : State) (q : Nat) : State :=
  if (s.queue q).state = .fault then s.modQueue q fun x => { x with state := .enabled, faultCause := 0, fetchPos := x.cons }
  else s.queueRefused

/-- QUE_CMD is written: other operation codes are ignored. -/
def State.queueCmd (s : State) (v : Word) : State :=
  let q := fieldOf v 0 11
  match fieldOf v 11 3 with
  | 1 => s.queueEnableOp q
  | 2 => s.queueDisableOp q
  | 3 => s.queueResetOp q
  | 4 => s.queueFaultclrOp q
  | _ => s

/-- A queue is disabled outright, by a reset or by the destroy of its channel (R144, R170, R215). -/
def State.killQueue (s : State) (q : Nat) : State :=
  let t := { s with que := { s.que with lockWait := s.que.lockWait.filter fun w => !decide (w.2.2 = q) } }
  (t.modQueue q fun x => { x with state := .disabled, staged := [], fetched := [], fetching := false, faultCause := 0,
                                  needDoorbell := false }).sinkTags (fetchesFor q)

def State.killQueues (s : State) : State := (s.que.queues.map (·.1)).foldl State.killQueue s

/-- A doorbell reaches its queue (R220). -/
def State.doorbellOp (s : State) (q : Nat) (v : Word) : State :=
  let x := s.queue q
  let c : BitVec 17 := BitVec.ofNat 17 v.toNat
  if x.state ≠ .enabled then s.raiseQue 1
  else if x.hostProduces then
    if x.depth < (c - x.cons).toNat then s.faultQueue q 2
    else s.setQueue q { x with prod := c, needDoorbell := false }
  else if x.occ < (c - x.cons).toNat then s.faultQueue q 2
  else s.setQueue q { x with cons := c }

/-! ### Writing entries (R187, R221) -/

/-- A native word as a dword (R9). -/
def dwordOf (w : Word) : Dword := BitVec.ofNat 32 w.toNat

/-- Dword 0: phase, words used, type. -/
def dword0 (phase typ used : Nat) : Dword := BitVec.ofNat 32 (phase * 2 ^ 31 + used * 256 + typ)

/-- Dwords 1 to 15 of an entry: its words and zeros. -/
def bodyOf (ws : List Word) : List Dword := (List.range 15).map fun k => dwordOf (wordAt ws k)

/-- The activity as which an entry is written (R223, R249): EVENT, CANQ for the entries of the field bus, RECORD else. -/
def QEntry.activity (e : QEntry) : Nat := if e.typ = 0x10 then 1 else if 0x30 ≤ e.typ ∧ e.typ < 0x40 then 3 else 0

/-- An entry leaves as two posted writes, the body and then dword 0 (R187); a word gone bad, or a poisoned one, goes in a
poisoned write (R189). -/
def State.sendEntry (s : State) (x : Queue) (e : QEntry) (addr : BitVec 64) (poi : Bool) : State :=
  let t := (if poi then s.masterParity else s).send (.memWrite (addr + 4) (bodyOf e.words) s.relaxedOn poi)
  t.send (.memWrite addr [dword0 (x.phase x.prod.toNat) e.typ e.words.length] false false)

/-- The first staged entry has been written: the producer advances (R220), the next page is asked for (R199), the queue's
notification and the event that the entry causes follow (R187, R217). -/
def State.entryWritten (s : State) (q : Nat) (e : QEntry) (rest : List QEntry) : State :=
  let x := s.queue q
  let t := s.setQueue q { x with prod := x.prod + 1, staged := rest }
  let t := if t.stagedCount < t.stageCap then { t with que := { t.que with stageFull := false } } else t
  let t := t.askAhead q x.prod.toNat 1
  let t := if x.notify then t.signalVector x.vector else t
  match e.cause with
  | some b => t.raiseQue b
  | none => t

/-- A write engine writes the first staged entry of a queue, with two grants of host transmit (R187, R221, R223, R250). -/
def State.writeEntry (s : State) (q : Nat) (ecc : EntryEcc) : State :=
  let x := s.queue q
  match x.staged with
  | [] => s
  | e :: rest =>
    if x.state ≠ .enabled then s
    else if ecc = .descUE then (s.queueUE true).faultQueue q 11
    else if !s.canSend then s
    else
      match s.translate q true (x.addr x.prod.toNat) with
      | (none, t) => t
      | (some addr, t) =>
        match t.grantsAt arbHostTx e.activity 2 with
        | none => t.noteAsked arbHostTx [e.activity]
        | some t =>
          let ue := decide (ecc = .entryUE)
          let t := if ue then (t.queueUE false).raiseQue 10 else t
          (t.sendEntry x e addr (ue || e.poisoned)).entryWritten q e rest

/-! ### Fetching entries (R223, R228) -/

/-- How many entries a fetch reads: up to 16, up to what the host has produced, within the queue's end, the page and the
largest read request. -/
def State.fetchCount (s : State) (x : Queue) (limit : Nat) : Nat :=
  let k := x.fetchPos.toNat
  min limit (min (x.prod - x.fetchPos).toNat (min (x.depth - k % x.depth) (min (64 - k % 64) (max 1 (s.mrrs / 64)))))

/-- The four fetch engines of the command queues are all waiting for a read (R223). -/
def State.enginesBusy (s : State) : Bool :=
  decide (4 ≤ (s.txn.tags.filter fun x => !x.sunk && match x.who with | .cmdQueue .. => true | _ => false).length)

/-- A fetch engine reads entries: one fetch at a time for each queue (R223); commands are fetched once the last ones have
run. -/
def State.fetchOp (s : State) (q : Nat) (descUE : Bool) (limit : Nat) (who : Nat → Consumer) : State :=
  let x := s.queue q
  if x.state ≠ .enabled || !x.hostProduces || x.fetching || x.needDoorbell || (decide (x.typ = 3) && (!x.fetched.isEmpty || s.enginesBusy)) ||
      decide (x.prod = x.fetchPos) then s
  else if descUE then (s.queueUE true).faultQueue q 11
  else
    let virt := x.addr x.fetchPos.toNat
    match s.translate q false virt with
    | (none, t) => t
    | (some addr, t) =>
      let n := t.fetchCount x limit
      match t.issueRead (who n) addr (16 * n) (if x.translated then some (pageOf virt) else none) with
      | none => t.issueWaits (who n)
      | some u => u.modQueue q fun y => { y with fetching := true }

/-- The entries in a fetch's dwords (R221). -/
def entriesOf (ds : List Dword) : List QEntry :=
  (List.range (ds.length / 16)).map fun k =>
    { typ := (ds.getD (16 * k) 0).toNat % 256
      words := (List.range 15).map fun j => word (ds.getD (16 * k + 1 + j) 0).toNat }

/-- A fetch ends well: the consumer count advances by the entries fetched. -/
def State.fetchDone (s : State) (q : Nat) (n : Nat) (ds : List Dword) : State :=
  let t := s.modQueue q fun x =>
    { x with fetching := false, fetched := x.fetched ++ entriesOf ds, fetchPos := x.fetchPos + BitVec.ofNat 17 n,
             cons := x.cons + BitVec.ofNat 17 n }
  t.askAhead q (s.queue q).fetchPos.toNat n

/-! ### Hardware locks (R236, R237, R244) -/

def ownerCode : Option LockOwner → Nat
  | none => 7
  | some (.req r) => r.code
  | some (.chan _) => 4

def ownerSlot : Option LockOwner → Nat
  | some (.chan k) => k
  | _ => 0

/-- The word that a read of LCK[n] or LCK_PEEK[n] shows: result and owner. -/
def lockWord (result : Nat) (o : Option LockOwner) : Word := word (result + ownerCode o * 4 + ownerSlot o * 32)

/-- LCK_PEEK[n] (R239). -/
def State.lockPeek (s : State) (n : Nat) : Word :=
  let l := s.lock n
  match l.owner with
  | some _ => lockWord 0 l.owner
  | none => lockWord (if l.broken then 2 else 1) none

/-- An acquire (R236): the word returned and the state after. -/
def State.lockAcquire (s : State) (n : Nat) (who : LockOwner) : Word × State :=
  let l := s.lock n
  match l.owner with
  | some _ => (lockWord 0 l.owner, s)
  | none => (lockWord (if l.broken then 2 else 1) (some who), s.setLock n { owner := some who, broken := false })

/-- A lock is freed without being broken. -/
def State.lockFree (s : State) (n : Nat) : State := s.setLock n { owner := none, broken := false }

/-- A write to LCK[n] (R237): FORCE from the host or a monitor at level 2 or above, RELEASE from the owner; a RELEASE from
another is logged as foreign. A FORCE that its requester may not make is ignored. -/
def State.lockWrite (s : State) (n : Nat) (req : Requester) (v : Word) : State :=
  if v.getLsbD 1 && (decide (req = .host) || (decide (req = .monitor) && decide (2 ≤ s.fld Reg.MON_CTL 0 2))) then s.breakLock n
  else if v.getLsbD 0 then
    if (s.lock n).owner = some (.req req) then s.lockFree n
    else if s.bit Reg.LCK_STS 0 then s.setBit Reg.LCK_STS 1 true
    else (s.setBit Reg.LCK_STS 0 true).wr Reg.LCK_FOREIGN (word (n + req.code * 64))
  else s

end Sys2Proof.Machine
end

