-- ==== Sys2Proof/Machine/CanOps.lean ====
section
/-!
DEFINITION. The field bus controllers at work: start-up, filters and receiving, fetching and sending, error confinement,
line faults (R376 to R400). Each operation does nothing while FLD is not ON or its clock has stopped.
-/

namespace Sys2Proof.Machine

/-- FLD runs. -/
def State.fldRuns (s : State) : Bool := s.isOn .fld && !s.stopped .fld

/-! ### Error counters (R391) -/

/-- The three warning levels of a counter from two words of the FIELDBUS entry. -/
def warnLevels (w12 w3 : Word) : List Nat := [fieldOf w12 0 8, fieldOf w12 8 8, fieldOf w3 0 8]

/-- The levels that a count has reached. -/
def levelsReached (levels : List Nat) (n : Nat) : Nat :=
  ((List.range 3).map fun k => let l := levels.getD k 0; flag (decide (l ≠ 0 ∧ l ≤ n)) * 2 ^ k).sum

/-- The level bits of a counter follow its new value; a level newly reached raises its event. -/
def State.noteLevels (s : State) (c lo ev : Nat) (levels : List Nat) (n : Nat) : State :=
  let old := s.fld (Reg.FB_STS c) lo 3
  let new := levelsReached levels n
  let t := s.setFld (Reg.FB_STS c) lo 3 new
  if (List.range 3).any fun k => new.testBit k && !old.testBit k then t.raiseCan c ev else t

/-- The LIMITED window ends WINDOW ms after it began: the count resets (R392). -/
def State.windowEnd (s : State) (c : Nat) : State :=
  match (s.can c).windowAt with
  | none => s
  | some a =>
    if s.fldRuns && s.passed a (msTicks (fbWord s.image c 5).toNat) then
      (s.setCan c { s.can c with windowAt := none }).wr (Reg.FB_BOCNT c) 0
    else s

/-- A controller has gone bus-off (R392): it recovers, or waits for RECOVER, by its MODE. -/
def State.busOff (s : State) (c : Nat) : State :=
  let s := s.windowEnd c
  let t := (s.setFld (Reg.FB_STS c) 3 2 2).bump (Reg.FB_BUSOFFS c)
  let t := t.raiseCan c 0
  match fieldOf (fbWord t.image c 0) 3 2 with
  | 1 => t.setPhase c 4
  | 2 =>
    let t := t.setCan c { t.can c with windowAt := some ((t.can c).windowAt.getD t.now) }
    if t.fld (Reg.FB_BOCNT c) 0 8 < fieldOf (fbWord t.image c 0) 6 8 then t.setPhase c 5
    else (t.setPhase c 4).raiseCan c 6
  | _ => t.setPhase c 5

/-- TEC and REC take new values: warnings, error state, bus-off. -/
def State.setCounters (s : State) (c tec rec : Nat) : State :=
  let tec := min 256 tec
  let rec' := min 255 rec
  let t := (s.wr (Reg.FB_TEC c) (word tec)).wr (Reg.FB_REC c) (word rec')
  let t := t.noteLevels c 11 4 (warnLevels (fbWord t.image c 6) (fbWord t.image c 7)) tec
  let t := t.noteLevels c 14 5 (warnLevels (fbWord t.image c 8) (fbWord t.image c 9)) rec'
  let warn := decide (96 ≤ tec ∨ 96 ≤ rec')
  let t := if warn && !t.bit (Reg.FB_STS c) 5 then t.raiseCan c 3 else t
  let t := t.setBit (Reg.FB_STS c) 5 warn
  if tec = 256 then (if s.fld (Reg.FB_STS c) 3 2 = 2 then t else t.busOff c)
  else
    let passive := decide (128 ≤ tec ∨ 128 ≤ rec')
    let t := if passive && decide (s.fld (Reg.FB_STS c) 3 2 = 0) then t.raiseCan c 2 else t
    t.setFld (Reg.FB_STS c) 3 2 (flag passive)

def State.tec (s : State) (c : Nat) : Nat := s.fld (Reg.FB_TEC c) 0 9
def State.recCnt (s : State) (c : Nat) : Nat := s.fld (Reg.FB_REC c) 0 8

/-- A frame has been received well: REC falls by one, or from above 127 to a value between 119 and 127 that ISO
11898-1:2015 leaves to the controller (a free value). -/
def State.recFalls (s : State) (c : Nat) : State :=
  let r := s.recCnt c
  if 127 < r then (s.setCounters c (s.tec c) (119 + Config.freeNat s.freeIdx % 9)).drew
  else s.setCounters c (s.tec c) (r - 1)

/-! ### Filters (R381, R382) -/

/-- Whether a filter's four words decide a frame. -/
def filterDecides (w0 w1 w2 w3 : Word) (f : CanFrame) : Bool :=
  w0.getLsbD 11 && decide (w0.getLsbD 12 = f.ide) &&
    (match fieldOf w2 11 2 with | 0 => true | 1 => !f.fdf | 2 => f.fdf | _ => false) &&
    (if f.ide then
      decide ((canIdHi f ^^^ fieldOf w0 0 11) &&& fieldOf w2 0 11 = 0) &&
        decide ((canIdLo f ^^^ w1.toNat) &&& w3.toNat = 0)
    else decide ((canIdLo f ^^^ fieldOf w1 0 11) &&& fieldOf w3 0 11 = 0))

/-- Filter `k` of a controller is tried: its word 0 where it decides the frame. A word with an uncorrectable error
disables the filter. -/
def State.tryFilter (s : State) (c k : Nat) (f : CanFrame) : Option Word × State :=
  let a := partBase s.image 2 + 512 * c + 4 * k
  let (w0, e0, t) := s.sramRead a
  if e0 || !w0.getLsbD 11 then (none, t)
  else
    let (w1, e1, t) := t.sramRead (a + 1)
    let (w2, e2, t) := t.sramRead (a + 2)
    let (w3, e3, t) := t.sramRead (a + 3)
    if !(e1 || e2 || e3) && filterDecides w0 w1 w2 w3 f then (some w0, t) else (none, t)

/-- The filters are tried in ascending order: the first that decides, with its index. -/
def State.firstFilter (s : State) (c : Nat) (f : CanFrame) : List Nat → Option (Nat × Word) × State
  | [] => (none, s)
  | k :: ks =>
    match s.tryFilter c k f with
    | (some w, t) => (some (k, w), t)
    | (none, t) => t.firstFilter c f ks

/-- A frame is staged, or dropped where 1,024 are staged (R384). -/
def State.stageFrame (s : State) (x : RxStage) : State :=
  if s.fb.stage.length < 1024 then { s with fb := { s.fb with stage := s.fb.stage ++ [x] } }
  else (s.bump (Reg.FB_RXDROP x.ctrl)).raiseCan x.ctrl 7

/-- The filters decide a received frame. -/
def State.acceptFrame (s : State) (c : Nat) (f : CanFrame) (sofT : Word54) : State :=
  match s.firstFilter c f (List.range 128) with
  | (some (k, w), t) =>
    let t := if w.getLsbD 16 then t.raiseCan c 15 else t
    if w.getLsbD 13 then
      t.stageFrame { ctrl := c, f := f, qsel := fieldOf w 14 2, filter := k, noMatch := false, sofT := sofT }
    else t
  | (none, t) =>
    if t.bit (Reg.FB_CTL c) 4 then
      (t.stageFrame { ctrl := c, f := f, qsel := 0, filter := Config.freeNat t.freeIdx % 128, noMatch := true, sofT := sofT }).drew
    else t

/-- The device time of an instant `age` ticks ago. -/
def State.agoT (s : State) (age : Nat) : Word54 := s.devTime - BitVec.ofNat 54 age

/-- A frame has been received correctly. FD frames are frames in MODE FD only (R373). -/
def State.frameRx (s : State) (c : Nat) (f : CanFrame) (sof : Nat) : State :=
  if s.fldRuns && decide (s.fbPhase c = 2 ∨ s.fbPhase c = 3) && (!f.fdf || decide (fbMode s.image c = 1)) then (s.recFalls c).acceptFrame c f (s.agoT sof) else s

/-! ### Entries (R383, R384, R390) -/

/-- The entries of a staged frame: one, two or three. -/
def rxEntries (x : RxStage) : List QEntry :=
  let ws := packBytes x.f.data
  let head := [word (x.ctrl + canFlags x.f + x.filter * 2048), word (canIdHi x.f + flag x.noMatch * 2 ^ 17), word (canIdLo x.f)] ++
    words54 x.sofT ++ ws.take 9
  let cont := fun part lo n => if ws.length ≤ lo then [] else
    [({ typ := 0x31, words := word (x.ctrl + part * 4) :: (ws.drop lo).take n } : QEntry)]
  { typ := 0x30, words := head } :: (cont 1 9 14 ++ cont 2 23 9)

/-- An ENABLED CANRX queue with room for `n` entries. -/
def State.canRoom (s : State) (q n : Nat) : Bool :=
  let x := s.queue q
  decide (x.state = .enabled ∧ x.typ = 4 ∧ x.occ + x.staged.length + n ≤ x.depth)

/-- The frame staged first is written to its queue, whole, or dropped whole. -/
def State.rxEntryWrite (s : State) : State :=
  match s.fb.stage with
  | [] => s
  | x :: rest =>
    if !s.fldRuns then s
    else
      let t := { s with fb := { s.fb with stage := rest } }
      let q := t.fld (Reg.FB_RXQ x.ctrl x.qsel) 0 11
      let es := rxEntries x
      if t.canRoom q es.length then es.foldl (fun t e => t.stageEntry q e) t
      else (t.bump (Reg.FB_RXDROP x.ctrl)).raiseCan x.ctrl 7

/-- The completion entry of a frame whose EVREQ is set. -/
def State.txReport (s : State) (c : Nat) (src : TxSource) (marker : Word) (failed : Bool) (sofT : Word54) : State :=
  if marker.getLsbD 16 then
    let from' := match src with | .buffer j => j * 8 | .queue k => 4 + k * 8
    let q := s.fld (Reg.FB_RXQ c 0) 0 11
    let ws := [word (c + from' + flag failed * 512), word (fieldOf marker 0 16)] ++ words54 (if failed then 0 else sofT)
    if s.canRoom q 1 then s.stageEntry q { typ := 0x32, words := ws }
    else s.bump (Reg.FB_RXDROP c)
  else s

/-! ### TX queues (R388) -/

/-- A fetched frame is discarded whole. -/
def State.discardFetched (s : State) (c q n : Nat) : State :=
  ((s.modQueue q fun x => { x with fetched := x.fetched.drop n }).bump (Reg.FB_TXDISC c)).raiseQue 5

/-- The entries at the head of what has been fetched from a TX queue become its head frame once they are complete. A
frame whose entries are out of order goes with its TXCONT entries; an entry of another type begins anew. -/
def State.assembleOnce (s : State) (c k q : Nat) : State :=
  match (s.queue q).fetched with
  | [] => s
  | e :: more =>
    if e.typ ≠ 0x38 then s.discardFetched c q 1
    else
      let fl := wordAt e.words 0
      let n := dataLen (fl.getLsbD 3) (fl.getLsbD 6) (fieldOf fl 7 4)
      let conts := if n ≤ 18 then 0 else if n ≤ 46 then 1 else 2
      let right := fun j => match more[j]? with
        | some m => decide (m.typ = 0x39 ∧ fieldOf (wordAt m.words 0) 2 2 = j + 1)
        | none => true
      if !(List.range conts).all right then s.discardFetched c q (1 + ((more.take conts).takeWhile fun m => m.typ == 0x39).length)
      else if more.length < conts then s
      else
        let data := (e.words.drop 6).take 9 ++ (more.take conts).flatMap fun m => (m.words.drop 1).take 14
        let f := frameOf fl (wordAt e.words 1) (wordAt e.words 2) data
        if canIllegal f (fbMode s.image c) then s.discardFetched c q (1 + conts)
        else
          let t := s.modQueue q fun x => { x with fetched := x.fetched.drop (1 + conts) }
          t.setCan c { t.can c with heads := Tab.set none (t.can c).heads k (some { f := f, marker := wordAt e.words 3, queue := q }) }

/-- An entry has been fetched: after a frame that is discarded, the entry that ended it may itself be a whole frame. -/
def State.assembleHead (s : State) (c k q : Nat) : State := (s.assembleOnce c k q).assembleOnce c k q

/-- The controller fetches the next entry of a TX queue's head frame. -/
def State.cantxFetchOp (s : State) (c k : Nat) : State :=
  let w := s.rd (Reg.FB_TXQ c k)
  let q := fieldOf w 0 11
  if s.fldRuns && w.getLsbD 11 && decide ((s.queue q).typ = 5) && (Tab.get none (s.can c).heads k).isNone then
    s.fetchOp q false 1 fun _ => .canQueue c k q
  else s

/-! ### Sending (R376, R377, R389, R390, R395) -/

/-- The frame as it is sent: BRS only in MODE FD with its BRS bit and not in IRC mode, ESI while error passive. -/
def State.asSent (s : State) (c : Nat) (f : CanFrame) : CanFrame :=
  { f with brs := f.brs && (fbWord s.image c 0).getLsbD 2 && decide (fbMode s.image c = 1) && !s.bit Reg.CLK_STS 1
           esi := f.fdf && decide (s.fld (Reg.FB_STS c) 3 2 = 1) }

/-- The amplitude of the own dominant bits is judged. -/
def State.judgeTerm (s : State) (c : Nat) (amp : Nat) : State :=
  let stat := if 2500 < amp then 1 else if amp < 1700 then 2 else 0
  let old := s.fld (Reg.FB_TERM c) 12 2
  let t := s.wr (Reg.FB_TERM c) (word (amp + stat * 4096))
  if stat ≠ 0 ∧ stat ≠ old then t.raiseCan c 12 else t

/-- A frame leaves the controller: its request bit or head is cleared. -/
def State.txOver (s : State) (c : Nat) (src : TxSource) : State :=
  let held := (s.can c).onBus.isSome
  let t := s.setCan c { s.can c with onBus := none }
  if held then t
  else match src with
    | .buffer j => t.setBit (Reg.FB_TXREQ c (j / 16)) (j % 16) false
    | .queue k => t.setCan c { t.can c with heads := Tab.set none (t.can c).heads k none }

/-- The buffer's bit of FB_TXDONE or FB_TXFAIL is set where the frame came from a buffer. -/
def State.noteBuffer (s : State) (src : TxSource) (reg : Nat → Nat) : State :=
  match src with
  | .buffer j => s.setBit (reg (j / 16)) (j % 16) true
  | .queue _ => s

/-- A frame has been sent. In TRANSCEIVER mode only the line is measured (R397); in maquette mode that transceiver holds
its bus recessive (R399). -/
def State.frameSent (s : State) (c : Nat) (sof : Nat) (amp : BitVec 12) (delay : BitVec 7) : State :=
  if !s.fldRuns || s.held .fld then s
  else if s.fbPhase c = 6 then (if s.bit Reg.ARM_STS 12 then s else s.judgeTerm c amp.toNat)
  else match s.offered c with
    | none => s
    | some (src, x) =>
      let f := s.asSent c x.f
      let t := (s.txOver c src).setCounters c (s.tec c - 1) (s.recCnt c)
      let t := if f.brs then
          t.wr (Reg.FB_TDC c) (word (delay.toNat + min 127 (delay.toNat + fieldOf (fbWord t.image c 3) 11 7) * 128))
        else t
      let t := (t.send (.canFrame c f)).noteBuffer src (Reg.FB_TXDONE c)
      let t := (t.raiseCan c 8).txReport c src x.marker false (s.agoT sof)
      let t := if t.bit (Reg.FB_CTL c) 3 then t.acceptFrame c f (s.agoT sof) else t
      t.judgeTerm c amp.toNat

/-- A ONESHOT frame has failed. -/
def State.frameFailed (s : State) (c : Nat) : State :=
  if s.fldRuns && s.bit (Reg.FB_CTL c) 2 then
    match s.offered c with
    | none => s
    | some (src, x) =>
      let t := (s.txOver c src).noteBuffer src (Reg.FB_TXFAIL c)
      (t.raiseCan c 9).txReport c src x.marker true 0
  else s

/-! ### Errors and recovery (R391, R392) -/

def lecOf : CanError → Nat
  | .stuff => 1 | .form => 2 | .ack => 3 | .bit1 => 4 | .bit0 => 5 | .crc => 6

/-- A protocol error. As transmitter TEC rises by 8, but for an acknowledgement error while error passive; as receiver
REC rises by 1, and by 8 for a bit error while it sends its flags (ISO 11898-1:2015). -/
def State.busError (s : State) (c : Nat) (err : CanError) (tx : Bool) : State :=
  if s.fldRuns && (decide (s.fbPhase c = 3) || (decide (s.fbPhase c = 2) && !tx)) && (!tx || (s.offered c).isSome) then
    let t := (s.bump (Reg.FB_ERRCNT c)).setFld (Reg.FB_STS c) 8 3 (lecOf err)
    let t := t.raiseCan c 13
    if tx then
      if err = .ack ∧ s.fld (Reg.FB_STS c) 3 2 = 1 then t else t.setCounters c (t.tec c + 8) (t.recCnt c)
    else t.setCounters c (t.tec c) (t.recCnt c + (if err = .bit0 ∨ err = .bit1 then 8 else 1))
  else s

/-- The 128 occurrences have passed: the controller is back on the bus, without a quiet period (R380). -/
def State.recovered (s : State) (c : Nat) : State :=
  if s.fldRuns && decide (s.fbPhase c = 5) then
    let t := ((s.windowEnd c).setPhase c 3).setFld (Reg.FB_STS c) 3 2 0
    let t := t.setCounters c 0 0
    let t := if (t.can c).windowAt.isSome then t.wr (Reg.FB_BOCNT c) (word (satTo 255 (t.fld (Reg.FB_BOCNT c) 0 8) 1)) else t
    t.raiseCan c 1
  else s

/-- FB_CTL[c].RECOVER. -/
def State.recoverOp (s : State) (c : Nat) : State := if s.fbPhase c = 4 then s.setPhase c 5 else s

/-! ### Start-up (R379) -/

def State.integrated (s : State) (c : Nat) : State :=
  if s.fldRuns && decide (s.fbPhase c = 1) then
    let x := s.can c
    if x.quietDue then (s.setCan c { x with quietDue := false, quietAt := some s.now }).setPhase c 2
    else s.setPhase c (if x.quietAt.isSome then 2 else 3)
  else s

def State.quietEnd (s : State) (c : Nat) : State :=
  match (s.can c).quietAt with
  | none => s
  | some a =>
    if s.fldRuns && s.passed a (msTicks (fbWord s.image c 4).toNat) then
      let t := s.setCan c { s.can c with quietAt := none }
      (if t.fbPhase c = 2 then t.setPhase c 3 else t).raiseCan c 14
    else s

/-- A protocol exception event in MODE FD: the controller integrates again (R373). -/
def State.protocolException (s : State) (c : Nat) : State :=
  if s.fldRuns && decide (fbMode s.image c = 1) && decide (s.fbPhase c = 2 ∨ s.fbPhase c = 3) then s.setPhase c 1 else s

/-! ### Line faults (R393, R394, R396) -/

/-- A transceiver in use, by a controller or in TRANSCEIVER mode (R372). The watch needs no clock of FLD (R396). -/
def State.lineWatched (s : State) (c : Nat) : Bool := s.isOn .fld && decide (s.fbPin c ≠ 0)

def State.swapSeen (s : State) (c : Nat) : State :=
  if s.fldRuns && decide (s.fbPhase c ≠ 0) then
    let t := (s.setBit (Reg.FB_LINE c) 0 true).raiseCan c 10
    if (fbWord t.image c 0).getLsbD 5 then t.setCan c { t.can c with swapDue := true } else t
  else s

def State.invertPolarity (s : State) (c : Nat) : State :=
  if s.fldRuns && (s.can c).swapDue then
    (s.setCan c { s.can c with swapDue := false }).setBit (Reg.FB_STS c) 6 (!s.bit (Reg.FB_STS c) 6)
  else s

def lineBit : CanLine → Nat
  | .hGnd => 1 | .hSup => 2 | .lGnd => 3 | .lSup => 4

/-- A bit of FB_LINE is set and raises LINE. -/
def State.lineFault (s : State) (c b : Nat) : State :=
  if s.lineWatched c then (s.setBit (Reg.FB_LINE c) b true).raiseCan c 11 else s

def State.lineClear (s : State) (c b : Nat) : State :=
  if s.lineWatched c then s.setBit (Reg.FB_LINE c) b false else s

/-! ### Writes to FB_CTL and FB_TXREQ (R378, R386, R387) -/

/-- FB_CTL[c] has been written: `old` is its value before. -/
def State.fbCtlHook (s : State) (c : Nat) (old written : Word) : State :=
  let t := if written.getLsbD 5 then s.recoverOp c else s
  if t.bit (Reg.FB_CTL c) 0 then (if old.getLsbD 0 then t else t.fbEnterInit c)
  else if old.getLsbD 0 then (t.setBit (Reg.FB_CTL c) 0 true).fbLeaveInit c
  else t

/-- FB_TXREQ[c][k] has been written: bits newly clear were cancelled; an illegal frame newly requested is discarded. -/
def State.txreqHook (s : State) (c k : Nat) (old : Word) : State :=
  s.forAll (List.range 16) fun t b =>
    let was := old.getLsbD b
    let now := t.bit (Reg.FB_TXREQ c k) b
    if was && !now then ((t.setBit (Reg.FB_TXREQ c k) b true).cancelBuffer c (16 * k + b))
    else if now && !was && canIllegal (t.bufFrame c (16 * k + b)).f (fbMode t.image c) then
      (t.setBit (Reg.FB_TXREQ c k) b false).bump (Reg.FB_TXDISC c)
    else t

end Sys2Proof.Machine
end

