-- ==== Sys2Proof/Machine/Crypto.lean ====
section
/-!
DEFINITION. The checks over an image's words: CRC-32 (R92), SHA-256 (R107) and ECDSA P-256 (R108), over the bytes that
R91 gives each word. SHA-256 and ECDSA P-256 are the published standards that R107 and R108 name.
-/

namespace Sys2Proof.Machine

/-- The three bytes of a word: bits 17:16, bits 15:8, bits 7:0 (R91). -/
def wordBytes (w : Word) : List (BitVec 8) :=
  [BitVec.ofNat 8 (w.toNat / 65536), BitVec.ofNat 8 (w.toNat / 256), BitVec.ofNat 8 w.toNat]

def bytesOf (ws : List Word) : List (BitVec 8) := ws.flatMap wordBytes

/-! ### CRC-32 -/

/-- One bit of the reflected CRC-32 (polynomial 0x04C11DB7). -/
def crcBit (c : BitVec 32) : BitVec 32 := if c.getLsbD 0 then (c >>> 1) ^^^ 0xEDB88320 else c >>> 1

def crcBits : Nat → BitVec 32 → BitVec 32
  | 0, c => c
  | n + 1, c => crcBits n (crcBit c)

/-- The CRC-32 of bytes (R92). -/
def crc32 (bs : List (BitVec 8)) : BitVec 32 :=
  ~~~ bs.foldl (fun c b => crcBits 8 (c ^^^ b.setWidth 32)) 0xFFFFFFFF

/-- The CRC of words as the two words that store it (R92). -/
def crcWords (ws : List Word) : List Word :=
  let c := (crc32 (bytesOf ws)).toNat
  [word (c / 65536), word (c % 65536)]

/-! ### SHA-256 -/

/-- The greatest `x` below `2 ^ n` above `x₀` with `x ^ k ≤ v`, found bit by bit from the top. -/
def rootBits (k v : Nat) : Nat → Nat → Nat
  | 0, x => x
  | n + 1, x => rootBits k v n (if (x + 2 ^ n) ^ k ≤ v then x + 2 ^ n else x)

/-- The first 32 bits of the fractional part of the `k`-th root of `p`. -/
def rootFraction (k p : Nat) : BitVec 32 := BitVec.ofNat 32 (rootBits k (p * 2 ^ (32 * k)) 40 0)

/-- The first 64 primes, which the standard takes its constants from. -/
def smallPrimes : List Nat := (List.range 312).filter fun n => decide (2 ≤ n) && (List.range 18).all fun d => decide (d < 2 ∨ n ≤ d ∨ n % d ≠ 0)

/-- The round constants, from cube roots, and the initial hash value, from square roots. -/
def roundConstants : List (BitVec 32) := smallPrimes.map (rootFraction 3)
def initialHash : List (BitVec 32) := (smallPrimes.take 8).map (rootFraction 2)

/-- The exclusive or of a word turned right by each of some distances. -/
def turned (x : BitVec 32) (ds : List Nat) : BitVec 32 := ds.foldl (fun y d => y ^^^ x.rotateRight d) 0

/-- The working variables of a block: `new` holds a, b, c, d and `low` holds e, f, g, h. -/
structure Working where
  new : Nat → BitVec 32
  low : Nat → BitVec 32

/-- A value pushed in front of a window of four. -/
def pushed (v : BitVec 32) (w : Nat → BitVec 32) : Nat → BitVec 32
  | 0 => v
  | n + 1 => w n

/-- One round with a round constant and a word of the schedule. -/
def Working.round (x : Working) (k w : BitVec 32) : Working :=
  let chosen := x.low 2 ^^^ (x.low 0 &&& (x.low 1 ^^^ x.low 2))
  let majority := (x.new 0 &&& (x.new 1 ||| x.new 2)) ||| (x.new 1 &&& x.new 2)
  let carry := x.low 3 + turned (x.low 0) [6, 11, 25] + chosen + k + w
  { new := pushed (carry + turned (x.new 0) [2, 13, 22] + majority) x.new, low := pushed (x.new 3 + carry) x.low }

/-- The next word of the schedule after the sixteen that the window holds, oldest first. -/
def scheduled (win : List (BitVec 32)) : BitVec 32 :=
  let back := fun n => win.getD (16 - n) 0
  (turned (back 2) [17, 19] ^^^ (back 2 >>> 10)) + back 7 + (turned (back 15) [7, 18] ^^^ (back 15 >>> 3)) + back 16

/-- The rounds of a block: each takes the oldest word of the window, and the window slides on by one word. -/
def blockRounds : List (BitVec 32) → List (BitVec 32) → Working → Working
  | k :: ks, win, x => blockRounds ks (win.drop 1 ++ [scheduled win]) (x.round k (win.getD 0 0))
  | [], _, x => x

/-- Word `j` of bytes, most significant byte first. -/
def bigEndian32 (bs : List (BitVec 8)) (j : Nat) : BitVec 32 :=
  BitVec.ofNat 32 (((bs.drop (4 * j)).take 4).foldl (fun n b => n * 256 + b.toNat) 0)

/-- The hash value after a block of 64 bytes. -/
def hashBlock (h : List (BitVec 32)) (block : List (BitVec 8)) : List (BitVec 32) :=
  let x := blockRounds roundConstants ((List.range 16).map (bigEndian32 block)) { new := fun n => h.getD n 0, low := fun n => h.getD (4 + n) 0 }
  (List.range 8).map fun n => h.getD n 0 + (if n < 4 then x.new n else x.low (n - 4))

/-- A number as `n` big-endian bytes. -/
def beBytes : Nat → Nat → List (BitVec 8)
  | 0, _ => []
  | n + 1, v => beBytes n (v / 256) ++ [BitVec.ofNat 8 v]

/-- A message with its padding: a one bit, zeros, and its length in bits, up to whole blocks. -/
def paddedMessage (bs : List (BitVec 8)) : List (BitVec 8) :=
  bs ++ 0x80 :: (List.replicate ((119 - bs.length % 64) % 64) 0 ++ beBytes 8 (8 * bs.length))

/-- The SHA-256 of bytes, as a number. -/
def sha256 (bs : List (BitVec 8)) : Nat :=
  let m := paddedMessage bs
  ((List.range (m.length / 64)).foldl (fun h k => hashBlock h ((m.drop (64 * k)).take 64)) initialHash).foldl
    (fun a w => a * 2 ^ 32 + w.toNat) 0

/-- The digest of an image's words: bits 255:220 of the SHA-256 (R107). -/
def digestOf (ws : List Word) : BitVec 36 := BitVec.ofNat 36 (sha256 (bytesOf ws) / 2 ^ 220)

/-! ### ECDSA over P-256 -/

def p256 : Nat := 0xffffffff00000001000000000000000000000000ffffffffffffffffffffffff
def p256n : Nat := 0xffffffff00000000ffffffffffffffffbce6faada7179e84f3b9cac2fc632551
def p256b : Nat := 0x5ac635d8aa3a93e7b3ebbd55769886bc651d06b0cc53b0f63bce3c3e27d2604b
def p256G : Nat × Nat :=
  (0x6b17d1f2e12c4247f8bce6e563a440f277037d812deb33a0f4a13945d898c296,
   0x4fe342e2fe1a7f9b8ee7eb4a7c0f9e162bce33576b315ececbb6406837bf51f5)

/-- Modular power by squaring, over the bits of the exponent. -/
def powMod (m : Nat) : Nat → Nat → Nat → Nat
  | 0, _, _ => 1 % m
  | n + 1, b, e =>
    let r := powMod m n (b * b % m) (e / 2)
    if e % 2 = 1 then b * r % m else r

/-- The inverse modulo a prime. -/
def invMod (m a : Nat) : Nat := powMod m 257 (a % m) (m - 2)

/-- A point of the curve; none is the point at infinity. -/
abbrev ECPoint := Option (Nat × Nat)

def ecAdd (a b : ECPoint) : ECPoint :=
  match a, b with
  | none, q => q
  | p, none => p
  | some (x1, y1), some (x2, y2) =>
    if x1 = x2 ∧ (y1 + y2) % p256 = 0 then none
    else
      let l := if x1 = x2 then (3 * x1 * x1 + (p256 - 3)) * invMod p256 (2 * y1) % p256
        else (y2 + p256 - y1) * invMod p256 (x2 + p256 - x1) % p256
      let x := (l * l + 2 * p256 - x1 - x2) % p256
      some (x, (l * (x1 + p256 - x) + p256 - y1) % p256)

/-- `k` times a point, over the bits of `k`. -/
def ecMul : Nat → Nat → ECPoint → ECPoint
  | 0, _, _ => none
  | n + 1, k, p =>
    let r := ecMul n (k / 2) (ecAdd p p)
    if k % 2 = 1 then ecAdd p r else r

/-- A valid ECDSA P-256 signature (r, s) by the key (x, y) over the hash `e` (R108). -/
def ecdsaOk (x y r s e : Nat) : Bool :=
  decide (x < p256 ∧ y < p256 ∧ y * y % p256 = (x * x * x + (p256 - 3) * x + p256b) % p256) &&
  decide (0 < r ∧ r < p256n ∧ 0 < s ∧ s < p256n) &&
  (let w := invMod p256n s
   match ecAdd (ecMul 256 (e * w % p256n) (some p256G)) (ecMul 256 (r * w % p256n) (some (x, y))) with
   | none => false
   | some (px, _) => decide (px % p256n = r))

/-- Sixteen words of 16 bits as a 256-bit number, most significant first (R106). -/
def big256 (ws : List Word) : Nat := ws.foldl (fun a w => a * 65536 + w.toNat % 65536) 0

end Sys2Proof.Machine
end

