-- ==== Sys2Proof/Machine/IslandOps.lean ====
section
/-!
DEFINITION. Operations over the islands: their enable bits, sleep, draining, wakes, operating points (R55 to R68, R80 to
R83), and what an island loses with its supply and takes from the armature when it returns (R58).
-/

namespace Sys2Proof.Machine

/-! ### Binding and idleness -/

/-- A channel binds a head port of the island, or a virtual encoder of MOT feeds one (R61 cause 4). -/
def State.busyIsland (s : State) (i : Island) : Bool :=
  match i.quad? with
  | some q => s.que.chans.any fun e => e.2.inUse && decide (e.2.ports.toNat / 2 ^ (8 * q) % 256 ≠ 0)
  | none => decide (i = .mot) && s.anyLive

/-- An island that R57 never puts OFF: MEM; HST while PERST_N is deasserted. -/
def State.neverOff (s : State) (i : Island) : Bool := decide (i = .mem) || (decide (i = .hst) && s.boot.perstN)

/-- Whether any queue is enabled. -/
def State.anyQueueEnabled (s : State) : Bool := s.que.queues.any fun e => decide (e.2.state = .enabled)

/-- The link is in L1 or L1.1 (HST_LINK_STS.LTSSM, R173). -/
def State.linkInL1 (s : State) : Bool := decide (s.fld Reg.HST_LINK_STS 0 3 = 5)

/-- The idle condition of an island (R57). -/
def State.idle (s : State) (i : Island) : Bool :=
  match i with
  | .pln => false
  | .hst => s.linkInL1 && s.txn.tags.isEmpty && s.waiters.isEmpty
  | .que => !s.anyQueueEnabled && !(s.wakeBuf.any fun e => decide (e.1 = .que))
  | .mem => Island.all.all fun j => (s.hs (.toMem j)).readable.isEmpty && (s.hs (.toMem j)).inFlight.isEmpty
  | .mot => ((List.range 8).all fun e => !s.bit (Reg.ENC_CTL e) 0) &&
      (List.range 32).all fun v => decide ((sprueOf s.image v).kind = 0)
  | .tqa | .tqb | .tqc | .tqd =>
    let q := (i.quad?).getD 0
    !(s.que.chans.any fun e => e.2.inUse && decide (e.2.ports.toNat / 2 ^ (8 * q) % 256 ≠ 0)) &&
      (List.range 8).all fun k => !s.bit (Reg.HP_CTL q k) 0 && !(s.port (8 * q + k)).pen
  | .fld => (List.range 4).all fun c => s.bit (Reg.FB_CTL c) 0
  | .sat => s.sat.posted.isEmpty && s.sat.nonPosted.isEmpty && decide (s.sat.reqPin = 0)
  | .rng => !s.bit Reg.RNG_JOIN 0

/-- Whether an idle island may go OFF (R57). -/
def State.mayOff (s : State) (i : Island) : Bool :=
  match i with
  | .pln | .mem => false
  | .hst => !s.boot.perstN
  | .que => !s.anyQueueEnabled && !s.anyLive
  | .sat => decide (s.sat.mrst = 3)
  | _ => true

/-- The idle timers' view of an instant (R57): a condition that begins to hold is dated, one that has ended is not. -/
def State.noteIdle (s : State) : State :=
  Island.all.foldl (fun t i =>
    let x := t.island i
    let idle := decide (x.power = .on) && t.idle i
    if idle = x.idleAt.isSome then t else t.setIsland i { x with idleAt := if idle then some t.now else none }) s

/-! ### What an island loses with its supply -/

/-- The typed state that an island holds returns to its value after reset. What lives elsewhere stays: SRAM, the
channels, their generations and the hardware locks through an OFF of QUE (R139, R141), whose staged records count as lost, window claims and offsets through an OFF of a
quad (they stand in the trigger table). -/
def State.loseUnits (s : State) (i : Island) : State :=
  match i with
  | .pln => s
  | .mem => { s with mem := {} }
  | .hst => { s with link := { s.link with margining := 0 }, txn := {} }
  | .que =>
    let t := (s.que.queues.flatMap fun e => e.2.staged).foldl (fun t e => if e.isRecord then t.loseRecord e.slot e.port else t) s
    { t with que := { t.que with op := none, opRes := [0, 0], queues := [], stageFull := false, vecs := [], lockWait := [] } }
  | .mot => { s with mot := {} }
  | .tqa | .tqb | .tqc | .tqd =>
    let q := (i.quad?).getD 0
    let t := s.forAll (List.range 8) fun t k =>
      let p := t.port (8 * q + k)
      t.setPort (8 * q + k) { rdy := p.rdy, offset := p.offset, hwm := p.hwm, seq := p.seq, lost := p.lost, removed := p.removed,
                              lostRecs := p.lostRecs, gap := p.gap, qRun := p.qRun, lastRec := p.lastRec }
    let t := { t with trg := { t.trg with ests := t.trg.ests.filter fun e => !decide (e.1 / 32 = q) } }
    t.setQuad q { faultAt := (t.quad q).faultAt }
  | .fld => { s with fb := {} }
  | .sat => { s with sat := { mrst := s.sat.mrst, intPin := s.sat.intPin, reqPin := s.sat.reqPin, lockPin := s.sat.lockPin } }
  | .rng => { s with ring := {} }

/-- An island without supply has lost its registers and state (R55, R58). -/
def State.loseState (s : State) (i : Island) : State := (s.resetRegs i).loseUnits i

/-- What an island takes from its sections of the armature as it comes ON (R58): the ring-join permission (R101), idle
drive of the quad's ports (R137), the field bus controllers (R378), the synthetic encoders' intervals (R285), the
receivers and supplies of the used encoders (R283). The other sections are read where they act. -/
def State.initIsland (s : State) (i : Island) : State :=
  match i with
  | .rng => if s.bit Reg.RNG_JOIN 1 then s else s.setBit Reg.RNG_JOIN 0 (ringFlag s.image 2)
  | .tqa | .tqb | .tqc | .tqd =>
    let q := (i.quad?).getD 0
    s.forAll (List.range 8) fun t k =>
      if (pinOf t.image 0 (8 * q + k)).1 = 0 || t.bit Reg.ARM_STS 12 then t
      else t.modPort (8 * q + k) fun p => { p with drive := .idle }
  | .fld => s.fldInit
  | .mot =>
    let t := { s with mot := { s.mot with startAt := s.now } }
    let t := t.forAll (List.range 4) fun t n => t.setSe n { t.se n with interval := seInterval t.image n }
    t.forAll (List.range 8) fun t e => if (pinOf t.image 1 e).1 % 4 = 0 then t else t.setFld (Reg.ENC_CTL e) 0 2 3
  | _ => s

/-! ### Operating points (R80 to R83) -/

/-- The frequency of SAT in MHz at a point (R69). -/
def satMHz (point : Nat) : Nat := match point with | 0 => 100 | 1 => 200 | _ => 250

/-- Whether SAT_CLK stays within 25 to 100 MHz at a point (R81). -/
def satPointOk (im : Option Image) (point : Nat) : Bool :=
  decide (25 * satDivider im ≤ satMHz point ∧ satMHz point ≤ 100 * satDivider im)

/-- The planner's cap: OPL while shed step 5 is in force (R268). -/
def State.opCap (s : State) : Nat := if 5 ≤ s.fld Reg.NRG_STS 0 3 then 0 else 2

/-- The point in force of a variable-pace island (R81). -/
def State.opInForce (s : State) (i : Island) : Nat :=
  let e := islandEntry s.image i
  let p := max e.opMin (min e.opMax (min s.opCap (min 2 (s.fld (Reg.PLN_ISL_OPREQ i.idx) 0 2))))
  if i = .sat ∧ satPointOk s.image p = false then
    let ok := fun q => decide (e.opMin ≤ q ∧ q ≤ e.opMax) && satPointOk s.image q
    if ok (p + 1) then p + 1 else if 1 ≤ p ∧ ok (p - 1) then p - 1 else if ok (p + 2) then p + 2
    else if 2 ≤ p ∧ ok (p - 2) then p - 2 else p
  else p

/-- The sequencer starts a step of one point towards the point in force where one is due (R82). -/
def State.kickSeq (s : State) (i : Island) : State :=
  let x := s.island i
  if i.variable && decide (x.power = .on) && x.seq.isNone && x.drain.isNone then
    let p := s.opInForce i
    if x.op = p then s
    else
      let up := decide (x.op < p)
      s.setIsland i { x with seq := some { target := if up then x.op + 1 else x.op - 1, raising := up,
                                             startAt := match x.seqEndAt with
                                               | some e => max s.now (e + usTicks 10)
                                               | none => s.now } }
  else s

/-- Every variable-pace island moves towards its point. -/
def State.replanPoints (s : State) : State := [Island.hst, .que, .mem, .sat].foldl State.kickSeq s

/-! ### Ends of traffic -/

/-- The completion of a host request in the bridge, where the request still stands. -/
def State.jobReply (s : State) (j : BridgeJob) (st : CplStatus) (data : List Dword) (poisoned : Bool) : State :=
  if j.sunk then s else s.send (.completion .host st data poisoned)

/-- The host's requests in the bridge end with CA (R62, R67). -/
def State.endJobs (s : State) : State :=
  s.sat.nonPosted.foldl (fun t j => (t.aer aerCa true).jobReply j .ca [] false)
    { s with sat := { s.sat with nonPosted := [] } }

/-- A posted host write to a satellite window that was parked for SAT is discarded and logged (R62). It is no register
access: BLOCK is that of SAT, and OFFSET, which the manual does not give it, is free (log entry 113). -/
def State.burstRefused (s : State) (cause : Nat) : State :=
  let t := s.drew.logAccess .host (0x100000 + (Config.freeWord s.freeIdx).toNat % 65536) (causeCA cause) cause
  (t.raiseCause cause).aer (if causeCA cause then aerCa else aerUr) false

/-- A gated island's parked writes are discarded and logged, its waiting requests end with CA, under cause 9 (R62). -/
def State.gatedTrafficEnd (s : State) (i : Island) : State :=
  let mine := s.wakeBuf.filter fun e => decide (e.1 = i)
  let waits := s.waiters.filter fun w => decide (w.isl = i)
  let t := { s with wakeBuf := s.wakeBuf.filter (fun e => !decide (e.1 = i))
                    waiters := s.waiters.filter fun w => !decide (w.isl = i) }
  let t := mine.foldl (fun t e => match e.2 with
    | .write a _ => t.accessRefused true a 9
    | .burst .. => t.burstRefused 9
    | .event _ => t) t
  let t := waits.foldl (fun t w => (t.accessRefused w.write w.acc 9).answerRefused w.write w.acc 9) t
  if i = .sat then t.endJobs else t

/-! ### Sleep, gating and wakes -/

def powerDepth : Power → Nat
  | .on => 0 | .doze => 1 | .off => 2 | .gated => 3

/-- Something waits for the island: parked traffic or a request. -/
def State.hasWork (s : State) (i : Island) : Bool :=
  (s.wakeBuf.any fun e => decide (e.1 = i)) || s.waiters.any fun w => decide (w.isl = i)

/-- The island enters DOZE, OFF or GATED: its clock stops, its supply with it where the state says so (R55). With its
enable bit set again it will come up, or goes to OFF, enabled, while OFF_NOW holds (R60); a wake cause that is still due starts the wake at once (R68); a re-cast, an island
reset or a self-reset wakes it again (R121, R146, R322). -/
def State.enterPower (s : State) (i : Island) (target : Power) : State :=
  let x := s.island i
  let t := s.setIsland i { x with power := target, drain := none, waking := false, powered := false, seq := none,
                                  cause := false }
  let t := if target = .off ∨ target = .gated then t.loseState i else t
  let y := t.island i
  match target with
  | .gated =>
    if t.bit Reg.PLN_ISL_EN i.idx then t.setIsland i (if x.force = 2 then { y with power := .off } else { y with waking := true })
    else t.gatedTrafficEnd i
  | _ =>
    if x.recast then t.setIsland i { y with waking := true }
    else if (x.cause || t.hasWork i || decide (x.force = 1)) && !t.wakeForbidden i then t.setIsland i { y with waking := true }
    else t

/-- The island is to enter a deeper state: asleep already, it enters at once, since nothing is in flight; else its
ingress gate closes and it drains (R63), once a running sequencer step has ended (R83). -/
def State.sleepTo (s : State) (i : Island) (target : Power) : State :=
  let x := s.island i
  match x.power with
  | .gated => s
  | .doze | .off =>
    if powerDepth x.power < powerDepth target then s.enterPower i target
    else if target = .off ∨ target = .doze then s.setIsland i { x with waking := false, powered := false } else s
  | .on =>
    match x.drain with
    | some d => if powerDepth d < powerDepth target then s.setIsland i { x with drain := some target } else s
    | none => s.setIsland i { x with drain := some target, cause := false }

/-- The island drains to the sleep state that R57 gives it: OFF for a fixed-pace island, DOZE else. -/
def State.sleepIdle (s : State) (i : Island) : State := s.sleepTo i (if i.variable then .doze else .off)

/-- The enable bit has been set: a GATED island is to come up, or goes to OFF, enabled, while OFF_NOW holds (R60). -/
def State.islandEnabled (s : State) (i : Island) : State :=
  let x := s.island i
  match x.power with
  | .gated =>
    if x.force = 2 then s.setIsland i { x with power := .off } else s.setIsland i { x with waking := true }
  | .on => if x.drain = some .gated ∧ s.stepping i = true then s.setIsland i { x with drain := none } else s
  | _ => s

/-- The enable bit has been cleared (R60, R62): waiting traffic ends, and the island drains and is gated. -/
def State.islandDisabled (s : State) (i : Island) : State := (s.gatedTrafficEnd i).sleepTo i .gated

/-- The Plinth itself sets or clears an enable bit (R60, R120, R130). -/
def State.plinthEnable (s : State) (i : Island) : State := (s.setBit Reg.PLN_ISL_EN i.idx true).islandEnabled i
def State.plinthDisable (s : State) (i : Island) : State := (s.setBit Reg.PLN_ISL_EN i.idx false).islandDisabled i

/-! ### Judging enables and gates (R15, R61) -/

/-- The order in which the changes are judged: an island after the islands it leans on. -/
def enableOrder : List Island := [.hst, .mem, .que, .mot, .tqa, .tqb, .tqc, .tqd, .fld, .sat, .rng]

def crystalBound (i : Island) : Bool := i.quad?.isSome || decide (i = .mot) || decide (i = .rng)

/-- Why an enable of an island is refused, given the enables that the write would leave (R61, R15, R132). -/
def State.enableCause (s : State) (v : Word) (i : Island) : Option Nat :=
  if !(islandEntry s.image i).present then some 2
  else if crystalBound i && !s.bit Reg.CLK_STS 0 then some 3
  else if i.leansOn.any fun j => !decide (j = .pln) && !v.getLsbD j.idx then some 0
  else none

/-- Why a gate of an island is refused (R61, R15). -/
def State.gateCause (s : State) (v : Word) (i : Island) : Option Nat :=
  if s.busyIsland i then some 4
  else if Island.all.any fun j => v.getLsbD j.idx && j.leansOn.contains i then some 1
  else none

/-- The enables that a write to PLN_ISL_EN leaves, and the refusals (R61): the enables are judged first, then the gates
against the enables that remain; a refused bit keeps its old value. -/
def State.judgeEnables (s : State) (old new : Word) : Word × List (Island × Nat) :=
  let sets := enableOrder.filter fun i => new.getLsbD i.idx && !old.getLsbD i.idx
  let clears := enableOrder.reverse.filter fun i => !new.getLsbD i.idx && old.getLsbD i.idx
  let p := sets.foldl (fun (p : Word × List (Island × Nat)) i =>
    match s.enableCause p.1 i with
    | some c => (withField p.1 i.idx 1 0, p.2 ++ [(i, c)])
    | none => p) (new, [])
  clears.foldl (fun (p : Word × List (Island × Nat)) i =>
    match s.gateCause p.1 i with
    | some c => (withField p.1 i.idx 1 1, p.2 ++ [(i, c)])
    | none => p) p

/-- PLN_ISL_EN is written (R60, R61): each refusal is logged, in index order, and each accepted change takes place. -/
def State.writeEnables (s : State) (new : Word) : State :=
  let old := s.rd Reg.PLN_ISL_EN
  let r := s.judgeEnables old new
  let t := s.wr Reg.PLN_ISL_EN r.1
  let t := Island.all.foldl (fun t i => match r.2.find? fun e => decide (e.1 = i) with
    | some e => t.enableRefused i.idx e.2
    | none => t) t
  let t := Island.all.foldl (fun t i => if r.1.getLsbD i.idx && !old.getLsbD i.idx then t.islandEnabled i else t) t
  Island.all.reverse.foldl (fun t i => if !r.1.getLsbD i.idx && old.getLsbD i.idx then t.islandDisabled i else t) t

/-! ### Forced power, pair 5 (R57, R60, R61) -/

/-- Why a forced power write is refused. -/
def State.forceCause (s : State) (isl mode : Nat) : Option Nat :=
  match Island.ofIdx isl with
  | none => some 5
  | some i =>
    if i = .pln ∨ mode = 3 then some 5
    else if mode = 2 ∧ s.neverOff i = true then some 5
    else if mode = 2 ∧ s.busyIsland i = true then some 4
    else none

/-- The pair write of PLN_FPWR_V is applied or refused. OFF_NOW of an island that is enabled and still on its way out of
GATED leaves it OFF, and enabled (R60). -/
def State.forcePower (s : State) (v : Word) : State :=
  let isl := fieldOf v 0 4
  let mode := fieldOf v 4 2
  match s.forceCause isl mode, Island.ofIdx isl with
  | some c, _ => s.enableRefused isl c
  | none, none => s
  | none, some i =>
    let t := { s.modIsland i fun x => { x with force := mode } with fpwr := v &&& 0x3F }
    match mode with
    | 2 =>
      let t := t.sleepTo i .off
      let x := t.island i
      if x.power = .gated ∧ t.bit Reg.PLN_ISL_EN i.idx = true then
        t.setIsland i { x with power := .off, waking := false, powered := false }
      else t
    | 1 => t.wake i
    | _ => if (s.island i).force = 2 && t.bit Reg.PLN_ISL_EN i.idx && decide ((t.island i).power = Power.off) then t.wake i
           else if t.hasWork i then t.wake i else t

/-! ### Island reset (R146) -/

/-- Why an island reset is refused: cause 6 before cause 4. -/
def State.islandResetCause (s : State) (isl : Nat) : Option Nat :=
  match Island.ofIdx isl with
  | none => some 6
  | some i =>
    if i = .pln ∨ i = .hst ∨ i = .mem ∨ (s.island i).power ≠ .on then some 6
    else if s.busyIsland i then some 4 else none

/-- The island is drained, goes OFF and wakes with LOST set. -/
def State.islandReset (s : State) (isl : Nat) : State :=
  match s.islandResetCause isl, Island.ofIdx isl with
  | some c, _ => s.enableRefused isl c
  | none, none => s
  | none, some i =>
    let t := s.setBit Reg.PLN_RST_CAUSE 7 true
    (t.modIsland i fun x => { x with recast := true }).sleepTo i .off

/-! ### The register view -/

/-- PLN_ISL_STATE[i] (R84). -/
def State.islState (s : State) (i : Island) : Word :=
  let x := s.island i
  word ((match x.power with | .on => 0 | .doze => 1 | .off => 2 | .gated => 3) + x.op * 4 + flag (s.stepping i) * 16 +
    flag x.waking * 32 + x.force * 64 + flag x.lost * 256 + flag (s.stepping i) * 512)

end Sys2Proof.Machine
end

