-- ==== Sys2Proof/Machine/ArmVerify.lean ====
section
/-!
DEFINITION. Verification of an image (R117, R465): the header, the table, the sections with the ranges of R93 to R106
and of the chapters that own a field, the order of the islands, the partition of memory, the signature and the epoch.
-/

namespace Sys2Proof.Machine

/-- A failure of verification: cause, section type and the offset of the failing word in the image (ARM_ERR). -/
structure ArmFail where
  cause : Nat
  typ   : Nat := 15
  word  : Nat := 0
deriving DecidableEq, Repr

/-- The offset of the first check that does not hold. -/
def firstBad (l : List (Nat × Bool)) : Option Nat := (l.find? fun e => !e.2).map (·.1)

/-- The checks of `n` entries, each given by its number. -/
def checks (n : Nat) (f : Nat → List (Nat × Bool)) : List (Nat × Bool) := (List.range n).flatMap f

/-- A word without bits from `w` on, and a word within a range. -/
def within (v : Word) (w : Nat) : Bool := decide (v.toNat < 2 ^ w)
def between (v : Word) (lo hi : Nat) : Bool := decide (lo ≤ v.toNat ∧ v.toNat ≤ hi)

/-- No earlier entry has the same key. -/
def fresh {α : Type} [DecidableEq α] (f : Nat → α) (k : Nat) : Bool := (List.range k).all fun j => decide (f j ≠ f k)

/-! ### The sections: offset in the section of each check -/

/-- IDENTITY (R93). -/
def checkIdentity (ws : List Word) : List (Nat × Bool) :=
  [(2, within (wordAt ws 2) 16 && between (wordAt ws 2) 1 0xFFFE), (3, within (wordAt ws 3) 16), (4, within (wordAt ws 4) 16),
   (5, within (wordAt ws 5) 8)]

/-- One PINS entry's function and parameter (R93, R465). -/
def checkPin (group member : Nat) (fn par : Word) (at_ : Nat) : List (Nat × Bool) :=
  match group with
  | 0 => [(at_, decide (member < 32)), (at_ + 1, between fn 0 2),
          (at_ + 2, if fn.toNat = 2 then between par 0 15 else decide (par = 0))]
  | 1 =>
    let used := decide (fieldOf fn 0 2 ≠ 0)
    [(at_, decide (member < 8)), (at_ + 1, within fn 6 && decide (fieldOf fn 0 2 ≠ 3)), (at_ + 2, !used || between par 8 4000)]
  | 2 => [(at_, decide (member < 16)), (at_ + 1, between fn 0 1), (at_ + 2, decide (fn = 0) || between par 0 4000)]
  | 3 => [(at_, decide (member < 4)), (at_ + 1, between fn 0 2), (at_ + 2, decide (par = 0))]
  | 4 => [(at_, decide (member = 0)), (at_ + 1, within fn 7), (at_ + 2, decide (par = 0))]
  | 5 => [(at_, decide (member < 2)), (at_ + 1, between fn 0 2), (at_ + 2, decide (par = 0))]
  | _ => [(at_, false)]

def checkPins (ws : List Word) : List (Nat × Bool) :=
  let n := (wordAt ws 2).toNat
  [(2, decide (n ≤ 63)), (1, decide (ws.length = 5 + 3 * n))] ++ checks (min n 63) fun k =>
    let p := wordAt ws (3 + 3 * k)
    (3 + 3 * k, fresh (fun j => wordAt ws (3 + 3 * j)) k) ::
      checkPin (fieldOf p 12 6) (fieldOf p 0 12) (wordAt ws (4 + 3 * k)) (wordAt ws (5 + 3 * k)) (3 + 3 * k)

/-- ISLANDS: each of the islands 1 to 11 once, points within their range (R95). -/
def checkIslands (ws : List Word) : List (Nat × Bool) :=
  checks 11 fun k =>
    let w := wordAt ws (2 + 2 * k)
    let i := fieldOf w 0 4
    let lo := fieldOf w 5 2
    let hi := fieldOf w 7 2
    let fixed := match Island.ofIdx i with | some j => !j.variable | none => true
    [(2 + 2 * k, within w 9 && decide (1 ≤ i ∧ i ≤ 11 ∧ lo ≤ hi ∧ hi ≤ 2) && (!fixed || decide (hi = 0)) &&
        fresh (fun j => fieldOf (wordAt ws (2 + 2 * j)) 0 4) k)]

/-- SPRUE (R96, R465). -/
def checkSprue (ws : List Word) : List (Nat × Bool) :=
  checks 32 fun v =>
    let w := wordAt ws (2 + 4 * v)
    let kind := fieldOf w 0 3
    let ix := fieldOf w 3 4
    let used := decide (kind ≠ 0)
    [(2 + 4 * v, within w 8 && decide (kind ≤ 4) && decide (kind = 1 → ix < 8) && decide (kind = 4 → ix < 4)),
     (3 + 4 * v, !used || decide (wordAt ws (3 + 4 * v) ≠ 0)), (4 + 4 * v, !used || decide (wordAt ws (4 + 4 * v) ≠ 0)),
     (5 + 4 * v, !used || between (wordAt ws (5 + 4 * v)) 0 4000)]

/-- TEMPLATES (R97). -/
def checkTemplates (ws : List Word) : List (Nat × Bool) :=
  let n := (wordAt ws 2).toNat
  [(2, decide (n ≤ 64)), (1, decide (ws.length = 5 + 8 * n))] ++ checks (min n 64) fun t =>
    let g := fun k => wordAt ws (3 + 8 * t + k)
    [(3 + 8 * t, within (g 0) 8 && fresh (fun j => fieldOf (wordAt ws (3 + 8 * j)) 0 6) t), (4 + 8 * t, within (g 1) 16),
     (5 + 8 * t, within (g 2) 16), (6 + 8 * t, within (g 3) 16), (7 + 8 * t, within (g 4) 16), (8 + 8 * t, decide (g 5 ≠ 0)),
     (10 + 8 * t, between (g 7) 4 16)]

/-- FIELDBUS (R99, R375, R465); `ctrl c`: the FB pin of the controller is CONTROLLER. The whole MODE word of an OFF entry is
judged. What R374 asks above 5 Mbit/s is taken as a condition of use and not judged (DESIGN CHOICE, log entry 115). -/
def checkFieldbus (ctrl : Nat → Bool) (ws : List Word) : List (Nat × Bool) :=
  checks 4 fun c =>
    let o := 2 + 10 * c
    let g := fun k => wordAt ws (o + k)
    let m := fieldOf (g 0) 0 2
    let off := decide (m = 0)
    let fd := decide (m = 1)
    let lim := decide (fieldOf (g 0) 3 2 = 2)
    let brp := fieldOf (g 1) 0 5 + 1
    let seg1 := fieldOf (g 1) 5 8 + 1
    let seg2 := fieldOf (g 1) 13 5 + 1
    let nbt := 1 + seg1 + seg2
    let dbrp := fieldOf (g 2) 5 5 + 1
    let dseg1 := fieldOf (g 3) 0 6 + 1
    let dseg2 := fieldOf (g 3) 6 5 + 1
    let dbt := 1 + dseg1 + dseg2
    let rsv := [(o + 2, within (g 2) 15), (o + 6, within (g 6) 16), (o + 7, within (g 7) 8), (o + 8, within (g 8) 16),
      (o + 9, within (g 9) 8)]
    [(o, within (g 0) 14 && decide (m ≤ 2) && (ctrl c || off) && (decide (m ≠ 2) || !(g 0).getLsbD 2) &&
        decide (fieldOf (g 0) 3 2 ≤ 2) && (!lim || decide (1 ≤ fieldOf (g 0) 6 8)))] ++
    (if off then rsv else
      [(o + 1, decide (2 ≤ seg1 ∧ 2 ≤ seg2 ∧ 8 ≤ nbt ∧ nbt ≤ 289 ∧ 80 ≤ brp * nbt ∧ brp * nbt ≤ 8000)),
       (o + 2, decide (fieldOf (g 2) 0 5 + 1 ≤ seg2) && within (g 2) 15 && (!fd || decide (fieldOf (g 2) 10 5 + 1 ≤ dseg2))),
       (o + 3, !fd || decide (5 ≤ dbt ∧ dbt ≤ 97 ∧ 10 ≤ dbrp * dbt ∧ dbrp * dbt ≤ brp * nbt)),
       (o + 4, between (g 4) 0 500), (o + 5, !lim || decide (g 5 ≠ 0))] ++ rsv)

/-- SATELLITE (R100, R81); `points` are the points of SAT between its OP_MIN and OP_MAX. -/
def checkSatellite (points : List Nat) (ws : List Word) : List (Nat × Bool) :=
  let n := (wordAt ws 4).toNat
  let div := match fieldOf (wordAt ws 3) 0 2 with | 0 => 2 | 1 => 4 | _ => 8
  let bar := 2 ^ (wordAt ws 2).toNat
  let lo := fun k => (wordAt ws (6 + 4 * k)).toNat * 256
  let hi := fun k => lo k + (wordAt ws (8 + 4 * k)).toNat * 256
  [(2, between (wordAt ws 2) 16 26),
   (3, between (wordAt ws 3) 0 2 && points.any fun p => decide (25 * div ≤ satMHz p ∧ satMHz p ≤ 100 * div)),
   (4, decide (n ≤ 16)), (1, decide (ws.length = 7 + 4 * n))] ++ checks (min n 16) fun k =>
    [(5 + 4 * k, within (wordAt ws (5 + 4 * k)) 8 && fresh (fun j => fieldOf (wordAt ws (5 + 4 * j)) 0 4) k),
     (8 + 4 * k, between (wordAt ws (8 + 4 * k)) 1 65536), (6 + 4 * k, decide (hi k ≤ bar)),
     (7 + 4 * k, decide ((wordAt ws (7 + 4 * k)).toNat + (wordAt ws (8 + 4 * k)).toNat ≤ 65536)),
     (6 + 4 * k, (List.range k).all fun j => decide (hi j ≤ lo k ∨ hi k ≤ lo j))]

/-- RING (R101). -/
def checkRing (ws : List Word) : List (Nat × Bool) :=
  let n := (wordAt ws 21).toNat
  [(2, within (wordAt ws 2) 3), (4, between (wordAt ws 4) 1 16)] ++
  (checks 16 fun k => [(5 + k, decide (fieldOf (wordAt ws (5 + k)) 9 8 = 0))]) ++
  [(21, decide (n ≤ 16)), (1, decide (ws.length = 24 + 3 * n))] ++
  checks (min n 16) fun k => [(24 + 3 * k, within (wordAt ws (24 + 3 * k)) 4)]

/-- LEDGER (R102). -/
def checkLedger (ws : List Word) : List (Nat × Bool) :=
  let n := (wordAt ws 4).toNat
  [(2, between (wordAt ws 2) 1 13500), (3, within (wordAt ws 3) 1), (4, decide (n ≤ 40)), (1, decide (ws.length = 23 + 2 * n))] ++
  checks (min n 40) fun k =>
    [(5 + 2 * k, between (wordAt ws (5 + 2 * k)) 0 39 && fresh (fun j => wordAt ws (5 + 2 * j)) k)]

/-- The check capacity of an arbiter in grants per µs (R250). -/
def arbCapacity (b : Nat) : Nat := match b with | 0 => 200 | 1 => 2 | 2 => 1 | 3 => 24 | _ => 12

/-- TAMP (R103, R248, R251, R465). -/
def checkTamp (ws : List Word) : List (Nat × Bool) :=
  let slaved := (wordAt ws 2).getLsbD 0
  let shortest := if slaved then (wordAt ws 5).toNat else fieldOf (wordAt ws 2) 1 10 + 1
  [(2, within (wordAt ws 2) 11), (3, within (wordAt ws 3) 5),
   (4, !slaved || decide (wordAt ws 4 ≠ 0)), (5, !slaved || between (wordAt ws 5) 1 1024), (6, !slaved || between (wordAt ws 6) 1 1024),
   (5, !slaved || decide ((wordAt ws 5).toNat ≤ (wordAt ws 6).toNat)), (7, between (wordAt ws 7) 1 15)] ++
  checks 5 fun b =>
    let mark := (List.range 16).filter (actMarked b)
    (mark.map fun a => (8 + 32 * b + 2 * a, decide ((wordAt ws (8 + 32 * b + 2 * a)).toNat ≤ (wordAt ws (9 + 32 * b + 2 * a)).toNat))) ++
    [(8 + 32 * b, decide ((mark.map fun a => (wordAt ws (8 + 32 * b + 2 * a)).toNat).sum ≤ arbCapacity b * shortest))]

/-- POLICY (R104) and MONITOR (R105). -/
def checkPolicy (ws : List Word) : List (Nat × Bool) :=
  [(2, within (wordAt ws 2) 1), (3, within (wordAt ws 3) 12 && !(wordAt ws 3).getLsbD 0), (4, within (wordAt ws 4) 1)]
def checkMonitor (ws : List Word) : List (Nat × Bool) := [(2, within (wordAt ws 2) 2), (3, within (wordAt ws 3) 1)]

/-- The length that a section of a fixed length has (R90). -/
def sectionLength (t : Nat) : Option Nat :=
  match t with
  | 0 => some 8 | 2 => some 26 | 3 => some 140 | 5 => some 9 | 6 => some 44 | 10 => some 170 | 11 => some 7 | 12 => some 6
  | _ => none

/-- The least length of a section, for those whose length grows with their entries. -/
def sectionLeast (t : Nat) : Nat :=
  match t with
  | 1 => 5 | 4 => 5 | 7 => 7 | 8 => 24 | 9 => 23 | _ => 4

/-- The checks of cause 8 of one section. -/
def checkSection (im : Image) (t : Nat) (ws : List Word) : Option Nat :=
  if (match sectionLength t with | some n => decide (ws.length ≠ n) | none => decide (ws.length < sectionLeast t)) then some 1
  else firstBad (match t with
    | 0 => checkIdentity ws
    | 1 => checkPins ws
    | 2 => checkIslands ws
    | 3 => checkSprue ws
    | 4 => checkTemplates ws
    | 6 => checkFieldbus (fun c => decide ((pinOf (some im) 3 c).1 = 1)) ws
    | 7 =>
      let e := islandEntry (some im) .sat
      checkSatellite ((List.range 3).filter fun p => decide (e.opMin ≤ p ∧ p ≤ e.opMax)) ws
    | 8 => checkRing ws
    | 9 => checkLedger ws
    | 10 => checkTamp ws
    | 11 => checkPolicy ws
    | 12 => checkMonitor ws
    | _ => [])

/-! ### The whole image -/

/-- An image's table entries: type, offset, length (R88). -/
def Image.table (im : Image) : List (Nat × Nat × Nat) :=
  (List.range (wordAt im.words 5).toNat).map fun k =>
    ((wordAt im.words (8 + 3 * k)).toNat, (wordAt im.words (9 + 3 * k)).toNat, (wordAt im.words (10 + 3 * k)).toNat)

/-- The SIGNATURE's values X, Y, r, s as numbers (R106). -/
def sigValue (sig : List Word) (k : Nat) : Nat := big256 ((sig.drop (2 + 16 * k)).take 16)

/-- A failure at the first failing entry of a list. -/
def firstFail (l : List (Option ArmFail)) : Option ArmFail := (l.find? Option.isSome).bind id

/-- Causes 1 to 3 and the part of cause 5 that comes before cause 4; `got` words were received. -/
def checkHeader (ws : List Word) (got : Nat) : Option ArmFail :=
  let n := (wordAt ws 5).toNat
  let len := (wordAt ws 3).toNat
  if wordAt ws 0 ≠ 0x04359 then some { cause := 1, word := 0 }
  else if wordAt ws 1 ≠ 0x05441 then some { cause := 1, word := 1 }
  else if wordAt ws 2 ≠ 1 then some { cause := 2, word := 2 }
  else if len < 64 ∨ (if len < got then 65468 else 65536) < len ∨ got < len then some { cause := 3, word := 3 }
  else if len < 10 + 3 * n then some { cause := 5, word := 5 }
  else if (ws.drop (8 + 3 * n)).take 2 ≠ crcWords (ws.take (8 + 3 * n)) then some { cause := 4, word := 8 + 3 * n }
  else if n < 2 ∨ 13 < n then some { cause := 5, word := 5 }
  else none

/-- Cause 5 of the table's entries (R88, R89). -/
def checkTable (im : Image) : Option ArmFail :=
  let tab := im.table
  let len := (wordAt im.words 3).toNat
  let n := tab.length
  firstFail ((List.range n).map fun k =>
    let e := tab.getD k (0, 0, 0)
    let p := tab.getD (k - 1) (0, 0, 0)
    if 12 < e.1 ∨ (k ≠ 0 ∧ e.1 ≤ p.1) then some { cause := 5, word := 8 + 3 * k }
    else if e.2.1 < 10 + 3 * n ∨ len < e.2.1 + e.2.2 ∨
        ((List.range k).any fun j =>
          let f := tab.getD j (0, 0, 0)
          decide (e.2.1 < f.2.1 + f.2.2 ∧ f.2.1 < e.2.1 + e.2.2)) = true then some { cause := 5, word := 9 + 3 * k }
    else if e.2.2 < 4 then some { cause := 5, word := 10 + 3 * k }
    else none)

/-- Cause 6 of the sections, and of the SIGNATURE that follows (R89, R106, R117). -/
def checkSectionCrcs (im : Image) (trailing : List Word) : Option ArmFail :=
  (firstFail (im.table.map fun e =>
    let ws := (im.words.drop e.2.1).take e.2.2
    if (wordAt ws 0).toNat ≠ e.1 then some { cause := 6, typ := e.1, word := e.2.1 }
    else if (wordAt ws 1).toNat ≠ e.2.2 then some { cause := 6, typ := e.1, word := e.2.1 + 1 }
    else if ws.drop (e.2.2 - 2) ≠ crcWords (ws.take (e.2.2 - 2)) then some { cause := 6, typ := e.1, word := e.2.1 + e.2.2 - 2 }
    else none)).orElse fun _ =>
  let len := im.words.length
  if trailing.isEmpty then none
  else if trailing.length ≠ 68 ∨ wordAt trailing 0 ≠ 0x0000D ∨ wordAt trailing 1 ≠ 68 then
    some { cause := 6, typ := 13, word := len }
  else if trailing.drop 66 ≠ crcWords (trailing.take 66) then some { cause := 6, typ := 13, word := len + 66 }
  else none

/-- Cause 7 (R90). -/
def checkMissing (im : Image) : Option ArmFail :=
  if (im.entry? 0).isNone then some { cause := 7, typ := 0, word := 5 }
  else if (im.entry? 2).isNone then some { cause := 7, typ := 2, word := 5 }
  else none

/-- Cause 8 (R465): the header's reserved bits, then the sections in order, then the SIGNATURE's. -/
def checkFields (im : Image) (sig : List Word) : Option ArmFail :=
  if !within (wordAt im.words 6) 1 then some { cause := 8, word := 6 }
  else if wordAt im.words 7 ≠ 0 then some { cause := 8, word := 7 }
  else (firstFail (im.table.map fun e =>
    (checkSection im e.1 ((im.words.drop e.2.1).take e.2.2)).map fun k => ({ cause := 8, typ := e.1, word := e.2.1 + k } : ArmFail))).orElse
    fun _ => (firstBad (checks 64 fun k => [(2 + k, sig.isEmpty || within (wordAt sig (2 + k)) 16)])).map fun k =>
      ({ cause := 8, typ := 13, word := im.words.length + k } : ArmFail)

/-- Cause 9 (R95, R15): every present island follows every island it leans on, which is present; HST is present. -/
def checkOrder (im : Image) : Option ArmFail :=
  let es := islandEntries (some im)
  let base := ((im.entry? 2).map (·.1)).getD 0
  (firstFail ((List.range 11).map fun k =>
    match es[k]? with
    | none => none
    | some e =>
      if e.present && ((Island.ofIdx e.island).map fun i => i.leansOn.any fun j =>
          decide (j ≠ .pln) && !((es.take k).any fun f => f.present && decide (f.island = j.idx))).getD false
      then some ({ cause := 9, typ := 2, word := base + 2 + 2 * k } : ArmFail) else none)).orElse fun _ =>
  match (List.range 11).find? fun k => match es[k]? with
    | some e => decide (e.island = 1) && !e.present
    | none => false with
  | some k => some { cause := 9, typ := 2, word := base + 2 + 2 * k }
  | none => none

/-- Cause 10 (R98, R416). -/
def checkMemory (im : Image) (total : Nat) : Option ArmFail :=
  let p := partitions (some im)
  let base := ((im.entry? 5).map (·.1)).getD 3
  let typ := if (im.entry? 5).isSome then 5 else 15
  let word := fun k => if (im.entry? 5).isSome then base + 2 + k else 3
  let can := (List.range 4).any fun c => decide ((pinOf (some im) 3 c).1 = 1)
  let sat := (pinOf (some im) 4 0).1.testBit 0
  (firstBad [(0, decide (p.sum = 256)), (0, decide (17 ≤ p.getD 0 0)), (1, decide (8 ≤ p.getD 1 0)),
    (2, !can || decide (4 ≤ p.getD 2 0)), (3, decide (ceilDiv (2 * total) 1024 ≤ p.getD 3 0)), (4, !sat || decide (2 ≤ p.getD 4 0))]).map
    fun k => { cause := 10, typ := typ, word := word k }

/-- ENFORCE (R109): codes 2 and 3. -/
def Fuses.enforce (f : Fuses) : Bool := decide (2 ≤ f.secmode.toNat)

/-- The fused key hash, KEYHASH[0] most significant (R126). -/
def Fuses.keyHash (f : Fuses) : Nat := (List.range 16).foldl (fun n k => n * 65536 + (Tab.get 0 f.keyhash k).toNat) 0

/-- The key hash of a SIGNATURE's key is the fused one (R108): the SHA-256 of the 64 bytes X then Y. -/
def keyMatches (f : Fuses) (sig : List Word) : Bool :=
  decide (sha256 (beBytes 32 (sigValue sig 0) ++ beBytes 32 (sigValue sig 1)) = f.keyHash)

/-- A signature is valid (R108). -/
def signatureValid (f : Fuses) (words sig : List Word) : Bool :=
  !sig.isEmpty && keyMatches f sig && ecdsaOk (sigValue sig 0) (sigValue sig 1) (sigValue sig 2) (sigValue sig 3) (sha256 (bytesOf words))

/-- Causes 11 to 13 and 17 (R109, R117). -/
def checkSignature (f : Fuses) (committedEpoch : Nat) (im : Image) (sig : List Word) : Option ArmFail :=
  if !f.enforce then none
  else if sig.isEmpty then some { cause := 11, word := im.words.length }
  else if !keyMatches f sig then some { cause := 12, typ := 13, word := im.words.length + 2 }
  else if !signatureValid f im.words sig then some { cause := 13, typ := 13, word := im.words.length + 34 }
  else if im.epoch.toNat < committedEpoch then some { cause := 17, word := 4 }
  else none

/-- Verification of `got` words received (R117): the first failure in the table's order, or the image. -/
def verifyImage (f : Fuses) (committed : Option Image) (ws : List Word) (got : Nat) : Except ArmFail Image :=
  let len := (wordAt ws 3).toNat
  let im : Image := { words := ws.take len }
  let tail := (ws.take got).drop len
  match (checkHeader ws got).orElse fun _ => (checkTable im).orElse fun _ => (checkSectionCrcs im tail).orElse fun _ =>
    (checkMissing im).orElse fun _ => (checkFields im tail).orElse fun _ => (checkOrder im).orElse fun _ =>
    (checkMemory im (len + tail.length)).orElse fun _ =>
    checkSignature f ((committed.map fun i => i.epoch.toNat).getD 0) im tail with
  | some e => .error e
  | none => .ok { im with sig := tail, digest := digestOf im.words, signed := signatureValid f im.words tail }

end Sys2Proof.Machine
end

