-- ==== Sys2Proof/Machine/MotionOps.lean ====
section
/-!
DEFINITION. Position and prediction (R286 to R297): the accumulator, the estimate and its correction, the clamp, the
uncertainty, the crossing time (R307), references. Times are in sub-ticks of the model's clock; positions in 1/64 unit;
the estimate is kept exactly (log entry 31).
-/

namespace Sys2Proof.Machine

/-! ### An estimate over time (R290) -/

/-- Time since the estimate, in sub-ticks. -/
def Est.dt (e : Est) (t : Nat) : Rat := ((t - e.atSt : Nat) : Rat)

/-- The predicted position and speed before the limit. An estimate whose acceleration opposes its speed holds its
extremum, so that the position moves monotonically (R290). -/
def Est.rawAt (e : Est) (t : Nat) : Rat × Rat :=
  let d := e.dt t
  if e.s * e.a < 0 ∧ -e.s / e.a < d then (e.p - e.s * e.s / (2 * e.a), 0)
  else (e.p + e.s * d + e.a * d * d / 2, e.s + e.a * d)

/-- The limit holds: the prediction would pass one 1/64 unit short of the next count (R290). -/
def Est.clampedAt (e : Est) (t : Nat) : Bool :=
  match e.limit with
  | none => false
  | some l => if e.up then decide (l < (e.rawAt t).1) else decide ((e.rawAt t).1 < l)

/-- The predicted position (R290). -/
def Est.posAt (e : Est) (t : Nat) : Rat :=
  if e.clampedAt t then e.limit.getD 0 else (e.rawAt t).1

/-- The position of a virtual encoder as a whole number of 1/64 units. -/
def Est.posIntAt (e : Est) (t : Nat) : Int := (e.posAt t).floor

/-- The uncertainty bound (R294), `amax` in units/s²: U0 + AMAX × 64 × t²/2, saturating; U0 while STILL, unless NOSRC. -/
def Est.uAt (e : Est) (amax t : Nat) : Nat :=
  if e.still && !e.noSrc then min 0x3FFFF e.u0
  else
    let secs : Rat := ((t - e.corrSt : Nat) : Rat) / 25600000000
    min 0x3FFFF (((e.u0 : Rat) + (amax : Rat) * 32 * secs * secs).ceil.toNat)

/-! ### The crossing time (R307) -/

/-- Whether the prediction has reached `x` in the forward direction at half sub-tick `h`. -/
def Est.reached (e : Est) (dirDown : Bool) (x : Rat) (h : Nat) : Bool :=
  let d : Rat := ((h : Rat) / 2) - (e.atSt : Rat)
  let p := if e.s * e.a < 0 ∧ -e.s / e.a < d then e.p - e.s * e.s / (2 * e.a) else e.p + e.s * d + e.a * d * d / 2
  if dirDown then decide (p ≤ x) else decide (x ≤ p)

/-- A bound by doubling: the first of `lo + 2^k` at which it is reached. -/
def Est.bracket (e : Est) (dirDown : Bool) (x : Rat) (lo : Nat) : Nat → Nat → Option Nat
  | 0, _ => none
  | fuel + 1, w => if e.reached dirDown x (2 * (lo + w)) then some (lo + w) else Est.bracket e dirDown x lo fuel (2 * w)

/-- The least sub-tick in (lo, hi] at which it is reached. -/
def Est.bisect (e : Est) (dirDown : Bool) (x : Rat) : Nat → Nat → Nat → Nat
  | 0, _, hi => hi
  | fuel + 1, lo, hi =>
    if hi ≤ lo + 1 then hi
    else
      let m := (lo + hi) / 2
      if e.reached dirDown x (2 * m) then Est.bisect e dirDown x fuel lo m else Est.bisect e dirDown x fuel m hi

/-- A bound before the estimate, by doubling: the first of `atSt - 2^k` at which it is not reached yet. -/
def Est.bracketBack (e : Est) (dirDown : Bool) (x : Rat) : Nat → Nat → Option Nat
  | 0, _ => none
  | fuel + 1, w =>
    if e.atSt < w then none
    else if e.reached dirDown x (2 * (e.atSt - w)) then Est.bracketBack e dirDown x fuel (2 * w) else some (e.atSt - w)

/-- The nearest sub-tick to a crossing in (lo, hi]. -/
def Est.crossIn (e : Est) (dirDown : Bool) (x : Rat) (lo hi : Nat) : Nat :=
  let t := e.bisect dirDown x 62 lo hi
  if e.reached dirDown x (2 * t - 1) then t - 1 else t

/-- The time at which the predicted position reaches `x` in the forward direction, rounded to the nearest sub-tick; none
while it never does. Where it has passed `x` already, the time lies before `now`; an estimate that stands beyond `x` and
never came to it gives its own instant (DEDUCED, log entry 31). -/
def Est.crossing (e : Est) (dirDown : Bool) (x : Rat) (now : Nat) : Option Nat :=
  let lo := max now e.atSt
  if !e.reached dirDown x (2 * lo) then (e.bracket dirDown x lo 60 64).map fun hi => e.crossIn dirDown x lo hi
  else if !e.reached dirDown x (2 * e.atSt) then some (e.crossIn dirDown x e.atSt lo)
  else some (match e.bracketBack dirDown x 60 64 with
    | some b => e.crossIn dirDown x b e.atSt
    | none => e.atSt)

/-! ### Virtual encoders -/

/-- A virtual encoder whose source cannot deliver is NOSRC (R286). -/
def State.veNoSrc (s : State) (v : Nat) : Bool :=
  let e := sprueOf s.image v
  match e.kind with
  | 0 => true
  | 1 =>
    let x := s.enc e.index
    !s.bit (Reg.ENC_CTL e.index) 0 || x.a.state.isNone || x.b.state.isNone || decide (x.a.band = 1) || decide (x.b.band = 1)
  | 2 => ((Tab.get none s.ring.geAt e.index)).isNone || !s.bit Reg.RNG_GE_STS e.index
  | _ => false

/-- The gains of the predictor for a row (R289). -/
def gains (row : Nat) : Rat × Rat × Rat :=
  match row with
  | 1 => (1 / 2, 1 / 8, 1 / 128)
  | 2 => (3 / 4, 1 / 4, 1 / 32)
  | 3 => (7 / 8, 3 / 8, 1 / 16)
  | _ => (1, 1 / 2, 1 / 8)

/-- The row that T in sub-ticks selects: below 1 µs, 10 µs, 100 µs (R289). -/
def gainRow (t : Nat) : Nat := if t < 25600 then 1 else if t < 256000 then 2 else if t < 2560000 then 3 else 4

/-- The accumulator takes `n` (R287): how far the position moves, and the remainder. -/
def accumulate (rem : Int) (n : Int) (den : Nat) : Int × Int := ((rem + n) / (den : Int), (rem + n) % (den : Int))

/-- One 1/64 unit short of the next count's position in the direction of motion (R290). -/
def nextLimit (pos rem : Int) (num den : Nat) (up : Bool) : Rat :=
  let step : Int := if up then 64 * num else -(64 * num : Int)
  let q := (accumulate rem step den).1
  ((pos + q + (if up then -1 else 1) : Int) : Rat)

/-- The position is shifted, keeping speed and acceleration (R296, R297). -/
def Ve.shift (x : Ve) (d : Int) : Ve :=
  { x with pos := x.pos + d
           est := { x.est with p := x.est.p + (d : Rat), limit := x.est.limit.map fun l => l + (d : Rat) } }

/-- A position has 48 bits and 6 of fraction (R19): beyond their range it wraps (DESIGN CHOICE, log entry 132). -/
def Ve.wrapped (x : Ve) : Ve := x.shift ((toWord54 x.pos).toInt - x.pos)

/-- A position that does not stand for a whole number of units, within the same range. -/
def wrapRat (p : Rat) : Rat := p - (((p.floor + 2 ^ 53) / 2 ^ 54 * 2 ^ 54 : Int) : Rat)

/-- The direction of motion that an estimate predicts; that of the last count where it stands. -/
def motionUp (sp a : Rat) (up : Bool) : Bool := if sp ≠ 0 then decide (0 < sp) else if a ≠ 0 then decide (0 < a) else up

/-- A count reaches the predictor (R287, R289, R291, R292): the position moves; a first count, a count after STILL or a
reversal restarts the estimate at the count; any other corrects it. The prediction then stops short of the next count in
the direction in which it moves (R290). -/
def State.veCount (s : State) (v : Nat) (srcUp : Bool) (st : Nat) : State :=
  let e := sprueOf s.image v
  let x := s.ve v
  let up := srcUp != e.invert
  let m := accumulate x.rem (if up then 64 * e.num else -(64 * e.num : Int)) e.den
  let pos := x.pos + m.1
  let pr := x.est.rawAt st
  let fresh := !x.started || x.still
  let sgn := if pr.2 = 0 then x.est.s else pr.2
  let rev := !fresh && (if up then decide (sgn < 0) else decide (0 < sgn))
  let base : Est := { atSt := st, corrSt := st, u0 := ceilDiv (32 * e.num) e.den, still := false, noSrc := false }
  let est : Est :=
    if fresh || rev then { base with p := (pos : Rat) }
    else
      let t := max 1 (st - x.est.corrSt)
      let row := s.fld (Reg.VE_CTL v) 0 3
      let g := gains (if 1 ≤ row ∧ row ≤ 4 then row else gainRow t)
      let r : Rat := (pos : Rat) - pr.1
      let tr : Rat := (t : Rat)
      { base with p := pr.1 + g.1 * r, s := pr.2 + g.2.1 * r / tr,
                  a := x.est.a + 2 * g.2.2 * r / (tr * tr) }
  let dir := motionUp est.s est.a up
  let est := { est with up := dir, limit := some (nextLimit pos m.2 e.num e.den dir) }
  s.setVe v ({ x with rem := m.2, pos := pos, est := est, started := true, still := false, lastSt := some st, lastUp := up,
                      reversals := x.reversals + (if rev then 1 else 0) } : Ve).wrapped

/-- A counted source (R294): an encoder, a line event or a synthetic encoder. -/
def SprueEntry.counted (e : SprueEntry) : Bool := decide (e.kind = 1 ∨ e.kind = 3 ∨ e.kind = 4)

/-- When a virtual encoder started from nothing. -/
def State.veStart (s : State) (v : Nat) : Nat := max s.mot.startAt (s.ve v).fromAt

/-- The estimate of a virtual encoder as it stands: NOSRC follows the source, U0 of a counted source its scaling, and before any
count U grows from the start (R286, R294). -/
def State.veEst (s : State) (v : Nat) : Est :=
  let x := s.ve v
  let e := sprueOf s.image v
  { x.est with noSrc := s.veNoSrc v
               u0 := if e.counted then ceilDiv (32 * e.num) e.den else x.est.u0
               corrSt := if x.started then x.est.corrSt else 64 * s.veStart v }

/-- The quads whose channels a virtual encoder feeds. -/
def State.quadsOf (s : State) (v : Nat) : List Nat :=
  (List.range 4).filter fun q => s.que.chans.any fun e =>
    e.2.inUse && decide (e.2.ve = v) && decide (e.2.ports.toNat / 2 ^ (8 * q) % 256 ≠ 0)

/-- An entry is written into a handshake channel, or waits at the sender while the channel is full, its receiver holds
or entries wait already (R52). -/
def State.hsSend (s : State) (c : ChannelId) (e : HsEntry) : State :=
  let x := s.hs c
  if x.waiting.isEmpty && decide (x.inFlight.length + x.readable.length < c.depth) && !s.stepping c.receiver &&
      !s.gateClosed c.receiver then
    s.setHs c { x with inFlight := x.inFlight ++ [e] }
  else s.setHs c { x with waiting := x.waiting ++ [e] }

/-- MOT sends the estimate of a virtual encoder to the quads whose live channels it feeds (R295). -/
def State.sendEstimate (s : State) (v : Nat) : State :=
  (s.quadsOf v).foldl (fun t q =>
    if t.isOn (Island.ofQuad q) then
      t.hsSend (.motTq (Fin.ofNat 4 q)) (.estimate v (t.veEst v))
    else t) s

/-- A source count arrives at a virtual encoder: held by the glitch filter, cancelled with a count in the other
direction within FILT ticks, or taken at once (R288); the quads get the new estimate (R295). -/
def State.veSource (s : State) (v : Nat) (up : Bool) (st : Nat) : State :=
  let filt := (sprueOf s.image v).filt
  if filt = 0 then (s.veCount v up st).sendEstimate v
  else
    let x := s.ve v
    match x.held.getLast? with
    | some h =>
      if h.up ≠ up ∧ st ≤ h.st + 64 * filt then s.setVe v { x with held := x.held.dropLast }
      else s.setVe v { x with held := x.held ++ [{ up := up, st := st, atSt := s.nowSt }] }
    | none => s.setVe v { x with held := [{ up := up, st := st, atSt := s.nowSt }] }

/-- A source counts: every virtual encoder it feeds takes the count (R286). -/
def State.sourceCount (s : State) (kind index : Nat) (up : Bool) (st : Nat) : State :=
  s.forAll (List.range 32) fun t v =>
    let e := sprueOf t.image v
    if e.kind = kind ∧ e.index = index then t.veSource v up st else t

/-- Speed and acceleration become zero where the prediction stands (R292, R300). -/
def Ve.rest (x : Ve) (t : Nat) (still : Bool) : Ve :=
  { x with still := still, est := { x.est with p := x.est.posAt t, s := 0, a := 0, atSt := t, still := still
                                               stillSt := if still && !x.est.still then t else x.est.stillSt } }

/-- The position of a virtual encoder at a time. -/
def State.vePos (s : State) (v st : Nat) : Int := (s.ve v).est.posIntAt st

/-- A 54-bit position as a signed number (R10, R12). -/
def signed54 (p : Word54) : Int := p.toInt

/-- A reference edge for a virtual encoder (R296). A PRESET_ONCE that is taken as a capture has had its edge too: the driver arms it
again (10_motion.md; DEDUCED, log entry 129). -/
def State.veReference (s : State) (v st : Nat) : State :=
  let x := s.ve v
  let ctl := s.rd (Reg.VE_REF v)
  let mode := fieldOf ctl 0 2
  let at_ := x.est.posIntAt st
  let cap := { x with refP := toWord54 at_, refT := s.devAtSt st }
  match mode with
  | 1 => s.setVe v cap
  | 2 =>
    if !ctl.getLsbD 7 then s
    else if s.veBound v then (s.setVe v { cap with refBlocked := true }).setBit (Reg.VE_REF v) 7 false
    else ((s.setVe v { (cap.shift (signed54 x.preset - at_)).wrapped with refDone := true }).setBit (Reg.VE_REF v) 7 false)
  | 3 =>
    if s.veBound v then s.setVe v { cap with refBlocked := true }
    else s.setVe v { (cap.shift (signed54 x.preset - at_)).wrapped with refDone := true }
  | _ => s

/-- Every virtual encoder that a reference edge concerns: the index of its feeding encoder, or the LEV input it names. -/
def State.references (s : State) (lev : Bool) (index st : Nat) : State :=
  s.forAll (List.range 32) fun t v =>
    let ctl := t.rd (Reg.VE_REF v)
    let e := sprueOf t.image v
    let hit := if lev then ctl.getLsbD 2 && decide (fieldOf ctl 3 4 = index)
      else !ctl.getLsbD 2 && decide (e.kind = 1 ∧ e.index = index)
    if hit then t.veReference v st else t

/-! ### Synthetic encoders (R285) -/

/-- The sub-ticks between two steps: an interval below 640 counts as 640; none where it is 0. -/
def Se.gap (x : Se) : Option Nat := if x.interval = 0 then none else some (max 640 x.interval.toNat)

/-- The encoder steps while RUN is set: its first step is due an interval after. -/
def State.seRun (s : State) (n : Nat) (run : Bool) : State :=
  let x := s.se n
  s.setSe n { x with due := if run then x.due.orElse fun _ => x.gap.map fun g => s.nowSt + g else none }

/-- A new interval takes effect at the next step, which keeps its time; after that step 0 has the encoder stop. -/
def State.setInterval (s : State) (n : Nat) (v : Word36) : State :=
  let t := s.setSe n { s.se n with interval := v }
  if s.bit (Reg.SE_CTL n) 0 then t.seRun n true else t

/-! ### Slip comparators (R298) -/

/-- The rational's magnitude. -/
def ratAbs (r : Rat) : Rat := if r < 0 then -r else r

/-- Both virtual encoders move, and their speeds differ by more than THR/1,024 of the larger one. -/
def State.slips (s : State) (k : Nat) : Bool :=
  let c := s.rd (Reg.SLIP_CFG k)
  if c.getLsbD 10 then
    let a := ((s.ve (fieldOf c 0 5)).est.rawAt s.nowSt).2
    let b := ((s.ve (fieldOf c 5 5)).est.rawAt s.nowSt).2
    let big := if ratAbs a < ratAbs b then ratAbs b else ratAbs a
    decide (a ≠ 0) && decide (b ≠ 0) && decide (big * (s.fld (Reg.SLIP_THR k) 0 10 : Nat) < ratAbs (a - b) * 1024)
  else false

/-- A comparator's condition, and since when it is so. -/
def State.slipNow (s : State) (k : Nat) : Bool × Nat := Tab.get (false, 0) s.mot.slipSince k

/-- The comparators look at their conditions: what has changed has so since now. -/
def State.noteSlips (s : State) : State :=
  if s.isOn .mot && !s.stopped .mot then
    s.forAll (List.range 8) fun t k =>
      if t.slips k = (t.slipNow k).1 then t
      else { t with mot := { t.mot with slipSince := Tab.set (false, 0) t.mot.slipSince k (t.slips k, t.now) } }
  else s

/-- HOLD ms, which 0 makes 1, have passed since the condition has stood as `on`. -/
def State.slipHeld (s : State) (k : Nat) (on : Bool) : Bool :=
  let x := s.slipNow k
  s.slips k == on && x.1 == on && s.passed x.2 (msTicks (max 1 (s.fld (Reg.SLIP_THR k) 10 8)))

/-! ### Inputs without a state (R134) -/

/-- The inputs of an encoder start again with no state. -/
def Enc.blank (x : Enc) : Enc := { x with a := {}, b := {}, z := {}, zSteps := none, zHigh := none, zOcc := 0, zReversed := false }

/-! ### Register views (R300) -/

def State.veSts (s : State) (v : Nat) : Word :=
  let e := sprueOf s.image v
  let x := s.ve v
  word (flag (decide (e.kind ≠ 0)) + flag (s.veNoSrc v) * 2 + flag x.still * 4 +
    flag (decide ((x.est.rawAt s.nowSt).2 < 0)) * 8 + flag (x.est.clampedAt s.nowSt) * 16 + flag x.refDone * 32 +
    flag x.refBlocked * 64 + flag (decide (e.kind = 2)) * 128)

/-- Encoder e is used, and the bits of its PINS function (R93). -/
def State.encFn (s : State) (e : Nat) : Nat := (pinOf s.image 1 e).1
def State.encCounting (s : State) (e : Nat) : Bool := (s.enc e).a.state.isSome && (s.enc e).b.state.isSome
/-- The condition of an input as ENC_STS shows it: SHORT_CM before what the band shows (DESIGN CHOICE, log entry 133). -/
def EncIn.cond (v : EncIn) : Nat := if v.cm then 3 else v.band

/-- ENCn_PEN is driven high (R283, R123). -/
def State.encPenOn (s : State) (e : Nat) : Bool :=
  s.bit (Reg.ENC_CTL e) 1 && (s.encFn e).testBit 3 && s.isOn .mot && !s.held .mot && !s.bit Reg.ARM_STS 12

def State.encSts (s : State) (e : Nat) : Word :=
  let x := s.enc e
  word (flag (x.a.state == some true) + flag (x.b.state == some true) * 2 + flag (x.z.state == some true) * 4 +
    flag (s.encCounting e) * 8 + x.a.cond * 16 + x.b.cond * 64 + (if (s.encFn e).testBit 2 then x.z.cond else 0) * 256 +
    flag x.flt * 1024 + flag (s.encPenOn e) * 2048 + flag x.contraryOn * 4096)

def State.levSts (s : State) : Word :=
  word ((List.range 16).map fun n => flag ((s.lev n).state == some true) * 2 ^ n).sum

/-- SPEED and ACCEL as their items give them (R300): 2^-36 unit per tick and 2^-54 unit per tick², rounded down. -/
def speedItem (v : Rat) : Word54 := toWord54 ((v * 68719476736).floor)
def accelItem (v : Rat) : Word54 := toWord54 ((v * 64 * 18014398509481984).floor)

end Sys2Proof.Machine
end

