-- ==== Sys2Proof/Machine/TriggerOps.lean ====
section
/-!
DEFINITION. Operations of the trigger quads: targets and windows (R303 to R305), judging a fire (R307 to R309), records
and gap runs (R316, R317), the head ports as slots (R324 to R327), quad faults (R320 to R323), and the quiesce, resume
and destroy of channels (R212 to R216).
-/

namespace Sys2Proof.Machine

/-! ### Pins and slots -/

/-- The quad of a port and its place in it. -/
abbrev qOf (p : Nat) : Nat := p / 8
abbrev iOf (p : Nat) : Nat := p % 8

/-- The PINS function of head port p (R93): 0 UNUSED, 1 HEAD, 2 DIRECT. -/
def State.hpFn (s : State) (p : Nat) : Nat := (pinOf s.image 0 p).1

/-- Maquette mode (R123). -/
def State.maquette (s : State) : Bool := s.bit Reg.ARM_STS 12

/-- The quad's outputs drive the port's pins: ON, not faulted, not maquette, a function given (R123, R136, R321). -/
def State.drives (s : State) (p : Nat) : Bool :=
  s.isOn (Island.ofQuad (qOf p)) && !(s.quad (qOf p)).faulted && !s.maquette && decide (s.hpFn p ≠ 0)

/-- Idle drive of a port (R137): trigger idle, strobe released; power and indicator are the slot's own (DEDUCED, log entry 141). -/
def State.idleDrive (s : State) (p : Nat) : State :=
  s.modPort p fun x => { x with drive := if s.drives p then .idle else .hiZ, trg := false, stb := false }

/-- The port counts as present (R324). -/
def State.present (s : State) (p : Nat) : Bool := !s.bit (Reg.HP_CFG (qOf p) (iOf p)) 6 || (s.port p).prs

/-- HP_STS[i] (R332). -/
def slotCode : Slot → Nat
  | .empty => 0 | .present => 1 | .powering => 2 | .powered => 3 | .fault => 4

/-- The slot state as seen: with PRSUSE clear a port that would be EMPTY is PRESENT (R324). -/
def State.slot (s : State) (p : Nat) : Slot :=
  match (s.port p).slot with
  | .empty => if s.bit (Reg.HP_CFG (qOf p) (iOf p)) 6 then .empty else .present
  | x => x

def State.hpSts (s : State) (p : Nat) : Word :=
  let x := s.port p
  word (slotCode (s.slot p) + flag (s.present p) * 8 + flag x.pgd * 16 + flag x.pen * 32 + flag x.rdy * 64 +
    flag x.atnEndAt.isSome * 128 + flag x.stbFlt * 256 + flag x.trgCut * 512 + flag x.stbCut * 1024 +
    flag (s.binder p).isSome * 2048 + flag x.lost * 4096 + flag (decide (s.hpFn p = 2)) * 8192)

/-- TQ_STS (R332). -/
def State.tqSts (s : State) (q : Nat) : Word :=
  word (flag (decide (s.fld (Reg.PLN_QF_STS q) 0 2 = 0)) + flag s.maquette * 2 +
    ((List.range 8).map fun i => flag (s.binder (8 * q + i)).isSome * 2 ^ (2 + i)).sum +
    ((List.range 8).map fun i => flag (decide (s.hpFn (8 * q + i) = 2)) * 2 ^ (10 + i)).sum)

/-- An event of port p (R331): the HP_EVT bit, the source, the EVENT entry with HP_STS as its detail (R235). -/
def State.raiseHp (s : State) (p k : Nat) : State :=
  let t := s.raiseBit (Reg.HP_EVT (qOf p) (iOf p)) k (10 * p + k)
  t.stageEvent p (10 * p + k) (t.hpSts p)

/-! ### Targets (R303 to R305, R319); forward coordinates grow in the channel's direction -/

def fwd (down : Bool) (x : Int) : Int := if down then -x else x

/-- The first target of a grid at or beyond `g`. -/
def gridGe (f0 : Int) (inc : Bool) (p : Nat) (g : Int) : Int :=
  let first := if inc then f0 else f0 + (p : Int)
  if g ≤ first then first else first + (g - first + (p : Int) - 1) / (p : Int) * (p : Int)

/-- The first target of a channel beyond `h`, in forward coordinates: an older grid's up to its anchor, then the grid in
force (R319). -/
def Chan.nextTarget (c : Chan) (h : Int) : Int :=
  let olds := c.oldGrids.filterMap fun g =>
    let t := gridGe (fwd c.dirDown g.1) g.2.1 (max 1 g.2.2.1) (h + 1)
    if t ≤ fwd c.dirDown g.2.2.2 then some t else none
  match olds with
  | t :: _ => t
  | [] => gridGe (fwd c.dirDown c.x0) c.x0In (max 1 c.pitch) (h + 1)

/-- The channel of a slot owns a window; a target lies within one that includes port n (R305). -/
def State.ownsWindow (s : State) (slot : Nat) : Bool :=
  s.trg.windows.any fun e => match e.2 with | some w => decide (w.owner = slot) | none => false
def State.inWindow (s : State) (slot n : Nat) (x : Int) : Bool :=
  s.trg.windows.any fun e => match e.2 with
    | some w => decide (w.owner = slot ∧ w.start ≤ x ∧ x ≤ w.stop) && w.mask.getLsbD n
    | none => false

/-- The anchor: the furthest target decided by any bound port, in forward coordinates (R319). -/
def State.anchor (s : State) (slot : Nat) : Option Int :=
  let c := s.chn slot
  ((List.range 32).filter fun p => c.ports.getLsbD p).foldl (fun m p => match (s.port p).hwm, m with
    | none, m => m
    | some h, none => some (fwd c.dirDown h)
    | some h, some a => some (max a (fwd c.dirDown h))) none

/-! ### Records and gap runs (R316, R317) -/

/-- The flags of record word 2 (R225). -/
def recordFlags (p : Nat) (maq still clamped group : Bool) : Word :=
  word (p + flag maq * 32 + flag still * 64 + flag clamped * 128 + flag group * 256)

/-- A record leaves the quad: into its channel to QUE, or its egress buffer of 64, or it is lost and counted (R18, R53): in the
slot's LOST and the port's gap count, the counters that R222 and R225 give a lost record (DESIGN CHOICE, log entry 124). -/
def State.sendRecord (s : State) (p slot typ : Nat) (ws : List Word) : State :=
  let c := ChannelId.tqQue (Fin.ofNat 4 (qOf p))
  let s := { s with nrg := { s.nrg with recCad := Tab.set 0 s.nrg.recCad (qOf p) (Tab.get 0 s.nrg.recCad (qOf p) + 1) } }
  if 64 ≤ (s.hs c).waiting.length then s.loseRecord (some slot) (some p)
  else s.hsSend c (.record (s.chn slot).recq typ ws slot p)

/-- The GAP entry of a run (R226). -/
def gapWords (h : Word) (p reason count : Nat) (first last : Int) (began : Word54) : List Word :=
  [h, word (p + reason * 256), word count] ++ words54 (toWord54 first) ++ words54 (toWord54 last) ++ words54 began

/-- The open run of a port is written; the queue island writes the QUADFAULT runs itself (R317, R323). -/
def State.closeGap (s : State) (p slot : Nat) : State :=
  match (s.port p).gap with
  | none => s
  | some g =>
    let t := s.modPort p fun x => { x with gap := none, lastRec := if g.reason = 3 then some g.last else x.lastRec }
    let ws := gapWords (t.handleOf slot) p g.reason g.count g.first g.last g.began
    if g.reason = 3 then t.stageRecord slot 2 ws (some p) none else t.sendRecord p slot 2 ws

/-- A due fire is missed (R308, R317): it joins the run of its reason; another reason or 4,096 missed fires end a run;
the first OVERSPEED miss of a run raises OVERSPEED. -/
def State.missFire (s : State) (p slot reason : Nat) (x : Int) : State :=
  let t := match (s.port p).gap with
    | some g => if g.reason = reason then s else s.closeGap p slot
    | none => s
  let t := match (t.port p).gap with
    | some g => t.modPort p fun y => { y with gap := some { g with count := g.count + 1, last := x } }
    | none =>
      let u := t.modPort p fun y =>
        { y with gap := some { reason := reason, count := 1, first := x, last := x, began := t.devTime } }
      if reason = 1 then u.raiseHp p 7 else u
  match (t.port p).gap with
  | some g => if 4096 ≤ g.count then t.closeGap p slot else t
  | none => t

/-! ### Judging a fire (R308, R354) -/

/-- The group state holds fires (R354): TRAIN to LOCKING and HELD; see the codes of RNG_STS.STATE. -/
def State.groupHeld (s : State) : Bool :=
  let st := s.fld Reg.RNG_STS 0 3
  s.isOn .rng && decide (1 ≤ st ∧ st ≤ 7 ∧ st ≠ 5 ∧ st ≠ 7)

/-- Steps 1 to 3 of R308 for a port whose ready pin is `rdy`, but for a presence that was lost before. -/
def State.slotReason (s : State) (p : Nat) (rdy : Bool) : Option Nat :=
  if s.maquette then none
  else match s.slot p with
    | .empty => some 2
    | .fault => some 7
    | .powered => if s.fld (Reg.HP_CFG (qOf p) (iOf p)) 0 2 = 1 ∧ rdy = false then some 9 else none
    | _ => some 9

/-- Step 5 of R308: tf comes before the last fire, or one still frozen, plus the minimum frame interval. -/
def State.tooSoon (s : State) (p tf : Nat) : Bool :=
  let gap := 25600 * (s.rd (Reg.HP_MINFI (qOf p) (iOf p))).toNat
  (match (s.port p).lastFireSt with
  | none => false
  | some l => decide (tf < l + gap)) || (s.port p).fires.any fun f => !f.made && decide (tf < f.tfSt + gap)

/-- Steps 1 to 5 of R308; a port whose presence was lost misses as REMOVED until its first made fire, but not in maquette
mode. -/
def State.stepReason (s : State) (p : Nat) (rdy : Bool) (u tf tol : Nat) : Option Nat :=
  let r := match s.slotReason p rdy with
    | some r => some r
    | none => if tol ≠ 0 ∧ tol < u then some 4 else if s.tooSoon p tf then some 1 else none
  if (s.port p).removed && !s.maquette then r.map fun _ => 2 else r

/-- Why a due fire is missed, or none: it is made (R308, R323, R354). -/
def State.missReason (s : State) (p : Nat) (rdy : Bool) (u tf tol : Nat) : Option Nat :=
  if s.groupHeld then some 8
  else if (s.port p).lost && !(decide (s.slot p = .powered) && s.isOn (Island.ofQuad (qOf p))) then some 3
  else s.stepReason p rdy u tf tol

/-- The exposure used (R312): min(E, ⌊64 × B / v⌋), never below 1; v in 1/64 unit per µs. -/
def exposureUsed (e b : Nat) (v : Rat) : Nat :=
  if b = 0 ∨ v = 0 then e else max 1 (min e ((64 * (b : Rat) / v).floor.toNat))

/-- A fire is frozen as made (R309), with the head parameters of the moment (R301): late, it goes 16 ticks after the freeze. -/
def State.makeFire (s : State) (p slot tf tc : Nat) (x : Int) (e : Est) (still : Bool) : State :=
  let c := s.chn slot
  let late := decide (tf < s.nowSt + 16 * 64)
  let v := ratAbs (e.rawAt tc).2 * 25600
  let used := exposureUsed c.expo c.blur v
  let t := s.closeGap p slot
  let t := if late then t.bump (Reg.HP_LATE (qOf p) (iOf p)) else t
  let cfg := s.rd (Reg.HP_CFG (qOf p) (iOf p))
  let f : Fire := { target := x, tfSt := if late then s.nowSt + 16 * 64 else tf, tcSt := tc, expo := used
                    clamped := decide (used < c.expo), standstill := still, late := late, strobe := c.strobe, slot := slot
                    lat := (s.rd (Reg.HP_LAT (qOf p) (iOf p))).toNat, trgW := (s.rd (Reg.HP_TRGW (qOf p) (iOf p))).toNat
                    lead := (s.rd (Reg.HP_STBLEAD (qOf p) (iOf p))).toNat, cls := fieldOf cfg 3 3, rdyMode := fieldOf cfg 0 2 }
  t.modPort p fun y => { y with fires := y.fires ++ [f], removed := false }

/-- A due fire of a channel that is not LIVE is gathered for its QUIESCED record (R214). -/
def State.countQuiesced (s : State) (p : Nat) (x : Int) : State :=
  s.modPort p fun y => { y with qRun := match y.qRun with
    | none => some { reason := 5, count := 1, first := x, last := x, began := s.devTime }
    | some g => some { g with count := min 0x3FFFF (g.count + 1), last := x } }

/-- The target that a port decides next, of a port that has decided none the first one beyond the position at the channel's
create or, where the web has moved back, the present one (log entry 58), and the estimate it goes by: the quad's, or for the
port of a quad that is not ON, whose targets the queue island follows (R323), the virtual encoder's own. -/
def State.portTarget (s : State) (p slot : Nat) : Int × Est :=
  let c := s.chn slot
  let e := if s.isOn (Island.ofQuad (qOf p)) then s.est (qOf p) c.ve else s.veEst c.ve
  let off := (s.port p).offset.toInt
  let h : Int := match (s.port p).hwm with
    | some h => fwd c.dirDown h
    | none => min c.bornAt (if c.dirDown then -(e.posAt s.nowSt) else e.posAt s.nowSt).floor - fwd c.dirDown off
  (fwd c.dirDown (c.nextTarget h), e)

/-- A target is decided (R304): the high-water mark advances; of the first one, the queue island's record begins before it. -/
def Port.decide (x : Port) (down : Bool) (target : Int) (rdy : Bool) : Port :=
  { x with hwm := some target, rdy := rdy
           lastRec := if x.hwm.isNone then some (fwd down (fwd down target - 1)) else x.lastRec }

/-- While the prediction is clamped the fire waits for the next estimate (R308); a fire that would be missed, on a virtual
encoder that is NOSRC, joins its gap nevertheless, as chapter 10 has the channels of a cut encoder write gap records (log
entry 52). -/
def Est.waits (e : Est) (t : Nat) (miss : Option Nat) : Bool := e.clampedAt t && !(e.noSrc && miss.isSome)

/-- The freeze of a port's next target (R304, R305, R307, R308): nothing before 64 ticks ahead of its fire time, nor
while the prediction is clamped; else the target is decided and the high-water mark advances. -/
def State.freeze (s : State) (p : Nat) (rdy : Bool) : State :=
  match s.binder p with
  | none => s
  | some slot =>
    let c := s.chn slot
    let (x, e) := s.portTarget p slot
    match e.crossing c.dirDown ((x + (s.port p).offset.toInt : Int) : Rat) s.nowSt with
    | none => s
    | some tc =>
      let tf := tc - (s.rd (Reg.HP_LAT (qOf p) (iOf p))).toNat
      let miss := s.missReason p rdy (e.uAt (s.rd (Reg.VE_AMAX c.ve)).toNat s.nowSt) tf c.tol
      if s.nowSt + 64 * 64 < tf then s
      else if e.waits s.nowSt miss then s
      else
        let t := s.modPort p fun y => y.decide c.dirDown x rdy
        if s.ownsWindow slot && !s.inWindow slot p x then t
        else if c.state ≠ .live then t.countQuiesced p x
        else
          match miss with
          | some r => t.missFire p slot r x
          | none =>
            let t := if (t.port p).lost then (t.closeGap p slot).modPort p fun y => { y with lost := false } else t
            t.makeFire p slot tf tc x e false

/-! ### The edges of a fire (R309, R311, R313, R316) -/

/-- Record word 11: light class and strobe-on time in whole µs, rounded up (R313). -/
def Fire.lightWord (f : Fire) : Word :=
  if !f.strobe then 0
  else
    let us64 := f.expo * 25 + f.lead * 4         -- in 1/1600 µs
    word (f.cls + min 32767 (ceilDiv us64 1600) * 8)

/-- The first fire whose edge has not left. -/
def Port.frozen (x : Port) : Option Fire := x.fires.find? fun f => !f.made

/-- The first fire that meets `want` is replaced; a fire that has nothing left to run is removed. -/
def replaceFire (want : Fire → Bool) (f' : Fire → Fire) : List Fire → List Fire
  | [] => []
  | f :: t =>
    if want f then
      let g := f' f
      if g.made && !g.trgOn && !g.stbOn && (g.stbBegun || !g.strobe) then t else g :: t
    else f :: replaceFire want f' t

/-- The pins take new levels at `now`; a level that stays keeps the time since which it stands. -/
def Port.level (x : Port) (now : Nat) (trg stb : Bool) : Port :=
  { x with trg := trg, stb := stb, trgAt := if trg && !x.trg then now else x.trgAt, stbAt := if stb && !x.stb then now else x.stbAt }

/-- The trigger pin follows the fires under way, the strobe likewise. -/
def Port.pins (x : Port) (now : Nat) : Port :=
  { x.level now (x.fires.any fun f => f.trgOn) (x.fires.any fun f => f.stbOn) with
           drive := match x.drive with
             | .hiZ => .hiZ
             | _ => if x.fires.any fun f => f.trgOn || f.stbOn then .active else .idle }

/-- The fires of a port change, and its pins with them; a port without fires, such as one in direct mode, stays as it is. -/
def Port.setFires (x : Port) (now : Nat) (fs : List Fire) : Port := if x.fires.isEmpty then x else ({ x with fires := fs }).pins now

/-- A trigger edge leaves (R309): the record is written (R316), the frame sequence advances. -/
def State.fireEdgeOp (s : State) (p : Nat) : State :=
  match (s.port p).frozen with
  | none => s
  | some f =>
    if s.now < f.tfSt / 64 then s
    else
      let c := s.chn f.slot
      let drv := s.drives p
      let x := s.port p
      let tDev := s.devAtSt f.tfSt
      let g := decide ((sprueOf s.image c.ve).kind = 2)
      let ws := [s.handleOf f.slot, recordFlags p s.maquette f.standstill f.clamped g, x.seq] ++ words54 (toWord54 f.target) ++
        words54 tDev ++ [word f.expo, f.lightWord, 0]
      let leave := fun (h : Fire) => { h with made := true, trgOn := drv, stbBegun := h.stbBegun || !drv }
      let y := { x with fires := replaceFire (fun h => !h.made) leave x.fires,
                        lastFireSt := some f.tfSt, lastFireT := tDev, seq := x.seq + 1,
                        noack := if x.awaitAck then false else x.noack, awaitAck := decide (f.rdyMode = 2),
                        ackLat := f.lat, trgCut := false }
      (s.setPort p (y.pins s.now)).sendRecord p f.slot 1 ws

/-- How long the trigger is held, in sub-ticks (R311): HP_TRGW ticks, or the exposure used to the nearest tick. -/
def Fire.width (f : Fire) : Nat := 64 * (if f.trgW ≠ 0 then f.trgW else (f.expo * 25 + 2) / 4)

def State.triggerEndOp (s : State) (p : Nat) : State :=
  let due := fun (f : Fire) => f.trgOn && decide (f.tfSt + f.width ≤ s.nowSt + 63)
  s.modPort p fun x => x.setFires s.now (replaceFire due (fun f => { f with trgOn := false }) x.fires)

/-- The strobe starts HP_STBLEAD before the exposure starts (R313). -/
def State.strobeOnOp (s : State) (p : Nat) : State :=
  let due := fun (f : Fire) => f.strobe && !f.stbBegun && decide (f.tcSt ≤ s.nowSt + 63 + 64 * f.lead)
  if s.drives p then
    s.modPort p fun x =>
      { x.setFires s.now (replaceFire due (fun f => { f with stbOn := true, stbBegun := true }) x.fires) with
        stbCut := if x.fires.any due then false else x.stbCut }
  else s

/-- The strobe ends with the exposure used (R313): E_used is in 1/64 µs, 400 sub-ticks each. -/
def State.strobeOffOp (s : State) (p : Nat) : State :=
  let due := fun (f : Fire) => f.stbOn && decide (f.tcSt + 400 * f.expo ≤ s.nowSt + 63)
  s.modPort p fun x => x.setFires s.now (replaceFire due (fun f => { f with stbOn := false }) x.fires)

/-- The resistor that a limiter goes by, in Ω: one outside 5 to 500 kΩ, or none, sets the shortest time (R457). -/
def limOhm (r : Option Nat) : Nat :=
  match r with
  | some x => if 5000 ≤ x ∧ x ≤ 500000 then x else 5000
  | none => 5000

/-- The earliest at which a limiter may cut, in ticks: 10 µs per kΩ for a strobe and 1 µs per kΩ for a trigger, less 15 % (R457). -/
def State.stbLimTicks (s : State) : Nat := limOhm s.boot.stbLim * 4 * 85 / 100
def State.trgLimTicks (s : State) : Nat := limOhm s.boot.trgLim * 4 * 85 / 1000

/-- The quad's clock stands: it raises nothing (R77). -/
def State.raiseCut (s : State) (p k : Nat) : State := if s.stopped (Island.ofQuad (qOf p)) then s else s.raiseHp p k

/-- A pad limiter ends every trigger, or every strobe, under way, once it has lasted its time (R314, R457). -/
def State.cutTrg (s : State) (p : Nat) : State :=
  if (s.port p).trg && s.passed (s.port p).trgAt s.trgLimTicks then
    let end_ := fun (f : Fire) => { f with trgOn := false }
    (s.modPort p fun x => { x.setFires s.now (x.fires.map end_) with trgCut := true, trg := false }).raiseCut p 9
  else s
def State.cutStb (s : State) (p : Nat) : State :=
  if (s.port p).stb && s.passed (s.port p).stbAt s.stbLimTicks then
    let end_ := fun (f : Fire) => { f with stbOn := false }
    (s.modPort p fun x => { x.setFires s.now (x.fires.map end_) with stbCut := true, stb := false }).raiseCut p 8
  else s

/-! ### Direct mode (R330) -/

/-- A DIRECT port drives its trigger and strobe while the line-event input that it follows is high. -/
def State.directDrive (s : State) (p : Nat) : State :=
  let f := pinOf s.image 0 p
  if f.1 = 2 ∧ s.drives p = true then
    let high := (s.lev f.2).raw
    s.modPort p fun x => { x.level s.now high high with drive := if high then .active else .idle }
  else s

/-! ### Head ports as slots (R324 to R327) -/

/-- PEN falls; the port stops being powered. -/
def State.unpower (s : State) (p : Nat) (next : Slot) : State :=
  s.modPort p fun x => { x with pen := false, penDue := false, slot := next, pgd := if next = .fault then x.pgd else false }

/-- PWR is written one (R324, R326): ignored while EMPTY; with the master enable set the port is to be powered, PEN
rising in its turn. -/
def State.powerRequest (s : State) (p : Nat) : State :=
  match s.slot p with
  | .empty => s.setBit (Reg.HP_CTL (qOf p) (iOf p)) 0 false
  | .present | .fault =>
    if (s.quad (qOf p)).men && decide (s.hpFn p ≠ 0) then
      s.modPort p fun x => { x with slot := .powering, penDue := true, poweringAt := s.now }
    else s
  | _ => s

/-- PWR is written zero: a powered port returns to PRESENT (R324). -/
def State.powerDrop (s : State) (p : Nat) : State :=
  match s.slot p with
  | .powering | .powered => s.unpower p .present
  | _ => s

/-- A port goes to FAULT: PEN falls, PWR is cleared (R324, R331). -/
def State.powerFault (s : State) (p : Nat) : State :=
  ((s.unpower p .fault).setBit (Reg.HP_CTL (qOf p) (iOf p)) 0 false).raiseHp p 3

/-- The master enable of a quad (R326). -/
def State.masterEnable (s : State) (q : Nat) (on : Bool) : State :=
  let t := s.setQuad q { s.quad q with men := on }
  t.forAll (List.range 8) fun t i =>
    if on then (if t.bit (Reg.HP_CTL q i) 0 then t.powerRequest (8 * q + i) else t)
    else t.powerDrop (8 * q + i)

/-! ### Quad faults (R320 to R323) -/

/-- Records in the quad's channel and egress buffer are lost and counted (R321). -/
def State.loseQuadRecords (s : State) (q : Nat) : State :=
  let c := ChannelId.tqQue (Fin.ofNat 4 q)
  let x := s.hs c
  (s.setHs c {}).bumpBy (Reg.PLN_QF_LOST q) (x.inFlight.length + x.readable.length + x.waiting.length)

/-- The self-reset of a quad: OFF, then awake again (R322). -/
def State.quadSelfReset (s : State) (q : Nat) : State :=
  let t := (s.setFld (Reg.PLN_QF_STS q) 0 2 1).setBit Reg.PLN_PAR_HOLD (5 + q) false
  (t.modIsland (Island.ofQuad q) fun x => { x with recast := true, drain := none }).enterPower (Island.ofQuad q) .off

/-- The targets of a channel beyond `lo` up to `hi`, in forward coordinates. -/
def Chan.targetsIn (c : Chan) (hi : Int) : Nat → Int → List Int
  | 0, _ => []
  | fuel + 1, lo =>
    let x := c.nextTarget lo
    if hi < x then [] else x :: Chan.targetsIn c hi fuel x

/-- The targets that a port has decided beyond the last record that reached the queue island, but for those that its QUIESCED record
covers: their records are lost with the quad, and the QUADFAULT run covers them (R323). -/
def State.uncovered (s : State) (p slot : Nat) : List Int :=
  let c := s.chn slot
  let x := s.port p
  match x.lastRec, x.hwm with
  | some lo, some hi =>
    let lo := fwd c.dirDown lo
    let hi := match x.qRun with
      | some g => min (fwd c.dirDown hi) (fwd c.dirDown g.first - 1)
      | none => fwd c.dirDown hi
    ((c.targetsIn hi (hi - lo).toNat lo).map (fwd c.dirDown)).filter fun t => !s.ownsWindow slot || s.inWindow slot p t
  | _, _ => []

/-- A port is lost to its channel (R323): its open gap run and its frozen fires go, and the QUADFAULT run takes what they and the
lost records would have covered; a port lost before goes on with its run. -/
def State.losePort (s : State) (p : Nat) : State :=
  match s.binder p with
  | none => s.modPort p fun x => { x with lost := false }
  | some slot =>
    if (s.port p).lost then s
    else
      let xs := s.uncovered p slot
      xs.foldl (fun t x => t.missFire p slot 3 x) (s.modPort p fun x => { x with gap := none, lost := true })

/-- A quad faults (R321, R322): its ports go high-impedance, its records are lost, the cause is recorded and TQx_FAULT
raised; the queue island's runs begin beyond the last record that reached it (R323); then it resets itself, or stays DOWN
after a second fault within 1 s or under RETRY 0. -/
def State.quadFaultOp (s : State) (q : Nat) (cause : Nat) : State :=
  let again := match (s.quad q).faultAt with
    | some a => decide (s.now < a + msTicks 1000)
    | none => false
  let t := s.loseQuadRecords q
  let t := t.wr (Reg.PLN_QF_STS q) (word (t.fld (Reg.PLN_QF_STS q) 0 2 + cause * 4 +
    min 15 (t.fld (Reg.PLN_QF_STS q) 4 4 + 1) * 16))
  let t := t.forAll (List.range 8) fun t i =>
    let p := 8 * q + i
    (t.modPort p fun x => { x with drive := .hiZ, trg := false, stb := false, pen := false, penDue := false, fires := [],
                                   slot := if x.slot = .empty then .empty else .present }).losePort p
  let t := t.setQuad q { t.quad q with faultAt := some s.now, faulted := true, men := false }
  let t := t.raise (569 + q)
  if again || !policyRetry t.arm.plnImage then
    ((t.setFld (Reg.PLN_QF_STS q) 0 2 2).modIsland (Island.ofQuad q) fun x => { x with drain := none }).enterPower (Island.ofQuad q) .off
  else t.quadSelfReset q

/-! ### Channels (R212 to R216) -/

/-- The ports that a channel binds. -/
def Chan.portList (c : Chan) : List Nat := (List.range 32).filter fun p => c.ports.getLsbD p

/-- A LIVE channel stops firing and becomes QUIESCING; its open gap runs are written (R212, R317). -/
def State.quiesceChan (s : State) (slot : Nat) (byStop : Bool) : State :=
  let c := s.chn slot
  if c.state = .live then
    let t := s.setChn slot { c with state := .quiescing, stopped := byStop, quiescedAt := s.devTime }
    c.portList.foldl (fun t p => t.closeGap p slot) t
  else s

/-- RESUME (R214): for each bound port the fires that fell due are covered by one QUIESCED gap record. -/
def State.resumeChan (s : State) (slot : Nat) : State :=
  let c := s.chn slot
  let t := s.setChn slot { c with state := .live, stopped := false, liveAt := s.now }
  c.portList.foldl (fun t p =>
    match (t.port p).qRun with
    | none => t
    | some g =>
      (t.modPort p fun x => { x with qRun := none }).sendRecord p slot 2
        (gapWords (t.handleOf slot) p 5 g.count g.first g.last c.quiescedAt)) t

/-- The entries of a channel that wait in a handshake channel. -/
def hsOf (slot : Nat) (e : HsEntry) : Bool :=
  match e with
  | .record _ _ _ k _ => decide (k = slot)
  | _ => false

/-- The number of records of a channel not yet written: in the quads' channels and in the staging area. Its EVENT entries are none
of them (R213, R215). -/
def State.unwritten (s : State) (slot : Nat) : Nat :=
  ((List.range 4).map fun q =>
    let x := s.hs (.tqQue (Fin.ofNat 4 q))
    ((x.inFlight ++ x.readable ++ x.waiting).filter (hsOf slot)).length).sum +
  (s.que.queues.map fun e => (e.2.staged.filter fun x => decide (x.slot = some slot ∧ x.typ ≠ 0x10)).length).sum

/-- The gap runs and QUIESCED runs of a channel that are still open (R214, R317). -/
def State.openRuns (s : State) (slot : Nat) : Nat :=
  ((s.chn slot).portList.map fun p => flag (s.port p).gap.isSome + flag (s.port p).qRun.isSome).sum

/-- Fires of a channel still frozen. -/
def State.firesPending (s : State) (slot : Nat) : Bool :=
  (s.chn slot).portList.any fun p => (s.port p).fires.any fun f => decide (f.slot = slot) && !f.made

/-- The unwritten records of a channel are discarded. -/
def State.discardRecords (s : State) (slot : Nat) : State :=
  let t := s.forAll (List.range 4) fun t q =>
    let c := ChannelId.tqQue (Fin.ofNat 4 q)
    let x := t.hs c
    let keep := fun (l : List HsEntry) => l.filter fun e => !hsOf slot e
    t.setHs c { inFlight := keep x.inFlight, readable := keep x.readable, waiting := keep x.waiting }
  { t with que := { t.que with queues := t.que.queues.map fun e =>
      (e.1, { e.2 with staged := e.2.staged.filter fun x => !decide (x.slot = some slot ∧ x.typ ≠ 0x10) }) } }

/-- A channel ends: its records are discarded, open runs with them (R317; DEDUCED of QUIESCED runs, log entry 130), its command queue disabled, its windows freed, its locks broken, its ports
released to idle drive, its generation advanced; the slot is FREE (R215, R216, R141). -/
def State.endChan (s : State) (slot : Nat) (count : Bool) : State :=
  let c := s.chn slot
  let n := s.unwritten slot + s.openRuns slot
  let t := (s.discardRecords slot).killQueue c.cmdq
  let t := { t with trg := { t.trg with windows := t.trg.windows.filter fun e => match e.2 with
                                          | some w => !decide (w.owner = slot)
                                          | none => true }
                    que := { t.que with lockWait := t.que.lockWait.filter fun w => !decide (w.2.1 = slot) } }
  let t := t.breakLocks fun o => match o with | .chan k => decide (k = slot) | _ => false
  let t := t.setChn slot { gen := if c.gen = 2047 then 1 else c.gen + 1,
                           lost := if count then c.lost + BitVec.ofNat 36 n else c.lost }
  c.portList.foldl (fun t p =>
    let x := t.port p
    let busy := x.fires.filter fun f => f.made
    (t.setPort p { x with hwm := none, seq := 0, gap := none, qRun := none, lost := false, removed := false, lostRecs := 0,
                          lastRec := none, fires := busy, stillAt := none }) ) t

/-- The ports of an ended channel go to idle drive (R139, R215); a pulse already asserted ends at its width. -/
def State.idlePorts (s : State) (ports : List Nat) : State :=
  ports.foldl (fun t p => if (t.port p).fires.isEmpty then t.idleDrive p else t) s

end Sys2Proof.Machine
end

