-- ==== Sys2Proof/Machine/EnergyOps.lean ====
section
/-!
DEFINITION. The energy ledger and its planner (R259 to R271): booking, the ceiling, the forecast, deferred work and the
shed order.
-/

namespace Sys2Proof.Machine

/-! ### Booking (R259 to R263) -/

/-- Energy is booked in units of 0.5 pJ into accumulator `k` and the total (R262): 0 to 11 the islands, 16 + L the loads,
64 the total, as the NRG_MB items number them (R273). -/
def State.bookOne (s : State) (k hp : Nat) : State :=
  let r := Tab.get 0 s.nrg.rem k + hp
  { s with nrg := { s.nrg with rem := Tab.set 0 s.nrg.rem k (r % 2000000)
                               acc := Tab.set 0 s.nrg.acc k (Tab.get 0 s.nrg.acc k + BitVec.ofNat 36 (r / 2000000)) } }

def State.book (s : State) (k hp : Nat) : State :=
  if hp = 0 then s
  else
    let t := (s.bookOne k hp).bookOne 64 hp
    { t with nrg := { t.nrg with cadHp := t.nrg.cadHp + hp } }

/-- An island has its supply: it is neither OFF nor GATED. -/
def State.supplied (s : State) (i : Island) : Bool :=
  let p := (s.island i).power
  decide (p = .on ∨ p = .doze)

/-- mW of the host lanes (R260). -/
def State.laneDraw (s : State) : Nat :=
  if !s.supplied .hst then 0
  else
    let n := s.fld Reg.HST_LINK_STS 5 3
    let l0 := decide (s.fld Reg.HST_LINK_STS 0 3 = 3) && !s.bit Reg.HST_LINK_STS 13
    let each := match s.fld Reg.HST_LINK_STS 3 2 with | 0 => 60 | 1 => 70 | 2 => 110 | _ => 160
    if l0 then n * each + (4 - n) * 15 else 60

/-- A ring transmitter sends: the eastward one while the lane is in use; the westward one in training and while the ring
is wrapped (R336, R362). -/
def State.ringSends (s : State) (side : Side) : Bool :=
  let m := match side with | .east => 0 | .west => 1
  let l := match side with | .east => s.ring.east | .west => s.ring.west
  s.isOn .rng && decide ((pinOf s.image 5 m).1 ≠ 0) && s.ring.trainDueAt.isNone && decide (s.fld Reg.RNG_STS 0 3 ≠ 0) &&
    (decide (side = .east) || !l.up || s.bit Reg.RNG_STS 4)

/-- mW of the ring lanes (R260). -/
def State.ringDraw (s : State) : Nat :=
  if !s.supplied .rng then 0
  else (if s.ringSends .east then 90 else 20) + (if s.ringSends .west then 90 else 20)

/-- mW of declared load `l` now (R261). -/
def State.loadNow (s : State) (l : Nat) : Nat :=
  if l < 32 then (if (s.port l).pen then loadDraw s.arm.plnImage l else 0)
  else if s.encPenOn (l - 32) then loadDraw s.arm.plnImage l else 0

/-- The declared draw booked now (NRG_MB item 65). -/
def State.loadsNow (s : State) : Nat := ((List.range 40).map s.loadNow).sum

/-- One tick's energy of what is not metered: 1 mW over 2.5 ns is 2.5 pJ. -/
def State.bookTick (s : State) : State :=
  let t := ((s.book 0 (5 * 350)).book 1 (5 * s.laneDraw)).book 11 (5 * s.ringDraw)
  t.forAll (List.range 40) fun t l => t.book (16 + l) (5 * s.loadNow l)

/-- NRG_POWER over a cadence of `us` µs (R263): 1 mW is 2,000 units of 0.5 pJ each µs. -/
def State.cadPower (s : State) (us : Nat) : Nat := min 0x3FFFF (s.nrg.cadHp / (2000 * max 1 us))

/-! ### The ceiling (R264) -/

/-- The ceiling in force and its source: 0 armature, 1 driver, 2 Slot Power Limit. -/
def State.ceiling (s : State) : Nat × Nat :=
  let a := min 13500 (ledgerCeil s.arm.plnImage)
  let d := min 13500 (s.rd Reg.NRG_CEIL_DRV).toNat
  let l := min 13500 (s.rd Reg.HST_SPL).toNat
  let p := if d ≠ 0 ∧ d < a then (d, 1) else (a, 0)
  if l ≠ 0 ∧ l < p.1 then (l, 2) else p

def State.forecast (s : State) : Nat := min 0x3FFFF ((s.rd Reg.NRG_POWER).toNat + s.nrg.admitted)

/-- The step in force, the work deferred and the ceiling as NRG_STS, NRG_CEIL, NRG_FORECAST and NRG_DEFER show them. -/
def workNum : Work → Nat
  | .eyeScan => 0 | .prbs => 1 | .recast => 2 | .ringArm => 3 | .ringDiag => 4

def State.showNrg (s : State) : State :=
  let c := s.ceiling
  let d := ((List.range 5).map fun k => flag (s.nrg.deferred.any fun w => decide (workNum w = k)) * 2 ^ k).sum
  ((((s.wr Reg.NRG_CEIL (word c.1)).setFld Reg.NRG_STS 4 2 c.2).setBit Reg.NRG_STS 6 (decide (d ≠ 0))).wr Reg.NRG_FORECAST
    (word s.forecast)).wr Reg.NRG_DEFER (word d)

/-! ### The shed order (R268) -/

/-- A running or paused eye scan is aborted (R157); by the planner it also sets SHED. -/
def State.abortEye (s : State) (byPlanner : Bool) : State :=
  if s.bit Reg.HST_EYE_CTL 3 then
    let t := (s.setBit Reg.HST_EYE_CTL 3 false).setBit Reg.HST_EYE_CTL 4 true
    let t := { t with link := { t.link with eyePausedAt := none, eyeRestart := true }
                      nrg := { t.nrg with deferred := t.nrg.deferred.filter fun w => !decide (w = .eyeScan) } }
    if byPlanner then t.raiseLink 9 else t
  else s

/-- Bits that a lane compares in four ticks at a rate: 2.5, 5.0, 8.0, 16.0 GT/s. -/
def bitsIn4Ticks (rate : Nat) : Nat := match rate with | 0 => 25 | 1 => 50 | 2 => 80 | _ => 160

/-- The counts of the locked checkers are brought up to date (R160): every bit since is compared; how many of them
mismatch is the lane's own (a free value). -/
def State.prbsSettle (s : State) : State :=
  if !s.link.prbsRuns then s
  else s.forAll (List.range 4) fun t k =>
    if !t.bit Reg.HST_PRBS_STS k then t
    else
      let n := (t.now - Tab.get t.now t.link.prbsAt k) * bitsIn4Ticks (t.fld Reg.HST_PRBS_CTL 4 2) / 4
      let m := Config.freeNat t.freeIdx % (n + 1)
      let c := min (2 ^ 54 - 1) ((Tab.get 0 t.link.prbsCmp k).toNat + n)
      let d := min (2 ^ 36 - 1) ((Tab.get 0 t.link.prbsMis k).toNat + m)
      { t with freeIdx := t.freeIdx + 1
               link := { t.link with prbsCmp := Tab.set 0 t.link.prbsCmp k (BitVec.ofNat 54 c)
                                     prbsMis := Tab.set 0 t.link.prbsMis k (BitVec.ofNat 36 d)
                                     prbsAt := Tab.insert t.link.prbsAt k t.now } }

/-- The PRBS generators and checkers stop (R160). -/
def State.shedPrbs (s : State) : State :=
  let s := s.prbsSettle
  if s.link.prbsRuns then ({ s with link := { s.link with prbsRuns := false } }.setBit Reg.HST_PRBS_STS 5 true).raiseLink 9 else s

/-- Every idle island sleeps at once (R268 step 6). -/
def State.sleepAllIdle (s : State) : State :=
  Island.all.foldl (fun t i =>
    let x := t.island i
    if t.idle i && decide (x.force ≠ 1) && x.drain.isNone && !x.waking && !t.hasWork i then
      match x.power with
      | .on => t.sleepIdle i
      | .doze => if t.mayOff i then t.sleepTo i .off else t
      | _ => t
    else t) s

/-- While step 6 is in force an island that becomes idle sleeps at once, from DOZE to OFF too (R268). -/
def State.sleepUnderShed (s : State) : State := if 6 ≤ s.fld Reg.NRG_STS 0 3 then s.sleepAllIdle else s

/-- A ring distribution under way stops, at the keeper or at a fetching node, and waits to start again from its beginning
(R268 step 2). -/
def State.shedRingArm (s : State) : State :=
  if s.ring.serving.isSome || s.ring.fetch.isSome then
    { s with nrg := { s.nrg with deferred := (s.nrg.deferred.filter fun w => !decide (w = Work.ringArm)) ++ [Work.ringArm] }
             ring := { s.ring with serving := s.ring.serving.map (fun p => (p.1, 0)), fetch := none
                                   txWait := s.ring.txWait.filter fun e => !decide (e.2.typ = 3) } }
  else s

/-- The action of a step as it is taken. -/
def State.shedAction (s : State) (step : Nat) : State :=
  match step with
  | 1 => (s.abortEye true).shedPrbs
  | 2 => s.shedRingArm
  | 5 => s.replanPoints
  | 6 => s.sleepAllIdle
  | _ => s

/-- The estimate of a work in mW (R266): that of PRBS test mode is for each lane selected as it asks. -/
def State.workEstimate (s : State) (w : Work) : Nat :=
  match w with
  | .prbs => (workInfo (workNum w)).2 * onesCount (s.rd Reg.HST_PRBS_CTL) 4
  | _ => (workInfo (workNum w)).2

/-- Whether a deferrable work is admitted now (R266). -/
def State.admits (s : State) (w : Work) : Bool :=
  decide (s.fld Reg.NRG_STS 0 3 < (workInfo (workNum w)).1 ∧ s.forecast + s.workEstimate w ≤ s.ceiling.1)

/-- Waiting work is admitted in the order of NRG_DEFER: it is about to start, and its estimate counts in the forecast. -/
def State.admitWork (s : State) : State :=
  [Work.eyeScan, .prbs, .recast, .ringArm, .ringDiag].foldl (fun t w =>
    if t.nrg.deferred.contains w && t.admits w then
      { t with nrg := { t.nrg with deferred := t.nrg.deferred.filter (fun x => !decide (x = w)), ready := t.nrg.ready ++ [w]
                                   admitted := t.nrg.admitted + t.workEstimate w } }
    else t) s

/-- One planner pass (R266, R268): at most one further step, then the work that may start. -/
def State.planPass (s : State) : State :=
  let c := s.ceiling.1
  let step := s.fld Reg.NRG_STS 0 3
  let s := if (c < (s.rd Reg.NRG_POWER).toNat ∨ c < s.forecast) ∧ step < 7 then
      let t := s.setFld Reg.NRG_STS 0 3 (step + 1)
      (({ t with nrg := { t.nrg with over7 := 0, step7Whole := false } }).shedAction (step + 1)).raiseNrg 1
    else s
  s.admitWork.showNrg

/-- A request for deferrable work (R266): it joins the work that waits, and a pass judges it. -/
def State.requestWork (s : State) (w : Work) : State :=
  { s with nrg := { s.nrg with deferred := s.nrg.deferred.filter (fun x => !decide (x = w)) ++ [w] } }.planPass

/-- The three sources of the ceiling (R264). -/
def State.ceilSources (s : State) : Nat × Word × Word := (ledgerCeil s.arm.plnImage, s.rd Reg.NRG_CEIL_DRV, s.rd Reg.HST_SPL)

/-- A change of any source of the ceiling starts a planner pass (R264). -/
def State.ceilingFrom (s : State) (old : Nat × Word × Word) : State := if s.ceilSources = old then s else s.planPass

/-- The counts of R270 and R271 at a cadence boundary, after NRG_POWER has been set: a step is undone after 8 cadences at or
below 90 % of the ceiling; OVERCEIL after two whole cadences over it under step 7, until 8 cadences not over it. -/
def State.shedCounts (s : State) : State :=
  let c := s.ceiling.1
  let p := (s.rd Reg.NRG_POWER).toNat
  let step := s.fld Reg.NRG_STS 0 3
  let u90 := if 10 * p ≤ 9 * c then s.nrg.under90 + 1 else 0
  let uc := if p ≤ c then s.nrg.underCeil + 1 else 0
  let o7 := if step = 7 ∧ s.nrg.step7Whole = true ∧ c < p then s.nrg.over7 + 1 else 0
  let t := { s with nrg := { s.nrg with under90 := (if 8 ≤ u90 then 0 else u90), underCeil := uc, over7 := o7 } }
  let t := if 8 ≤ u90 ∧ step ≠ 0 then
      let v := t.setFld Reg.NRG_STS 0 3 (step - 1)
      if step = 5 then v.replanPoints else v
    else t
  let t := if 8 ≤ uc then t.setBit Reg.NRG_STS 3 false else t
  if 2 ≤ o7 ∧ t.bit Reg.NRG_STS 3 = false then (t.setBit Reg.NRG_STS 3 true).raiseNrg 0 else t

end Sys2Proof.Machine
end

