-- ==== Sys2Proof/Machine/ArmOps.lean ====
section
/-!
DEFINITION. The armature's loads, verification results, commits and re-casts, fuses and maquette mode (R110 to R124), and
the vendor capability that shows it (R203, R204).
-/

namespace Sys2Proof.Machine

/-! ### The stage -/

/-- ARM_STS.STAGE: 0 IDLE, 1 LOADING, 2 VERIFYING, 3 VERIFIED, 4 FAILED, 5 COMMITTING, 6 PROGRAMMING. -/
def State.stage (s : State) : Nat := s.fld Reg.ARM_STS 0 3
def State.setStage (s : State) (n : Nat) : State := s.setFld Reg.ARM_STS 0 3 n

/-- ARM_ERR and ARM_ERR_WORD take a failure. -/
def State.armRecord (s : State) (e : ArmFail) : State :=
  (s.wr Reg.ARM_ERR (word (e.cause + e.typ * 32))).wr Reg.ARM_ERR_WORD (word e.word)

/-- The words staged and every load are given up. -/
def State.dropStaged (s : State) : State :=
  { s with arm := { s.arm with staged := none, staging := [], received := 0, loader := none, monLoad := false, reading := none } }

/-- A load or verification fails (R117): FAILED, the staged image discarded, ARM_VERIFYFAIL. -/
def State.verifyFails (s : State) (e : ArmFail) : State := ((s.dropStaged.setStage 4).armRecord e).raiseArm 0

/-- The device is between POR and the start of the power-up commit, or its entry into NOARM (R115). -/
def State.powerUpRuns (s : State) : Bool := decide (s.fld Reg.PLN_BOOT 0 3 ≤ 2)

/-- The staging area is busy (R115). -/
def State.stagingBusy (s : State) : Bool := s.ring.fetch.isSome || decide (s.stage = 5 ∨ s.stage = 6) || s.powerUpRuns

/-- Words of an image with its SIGNATURE. -/
def Image.total (im : Image) : Nat := im.words.length + im.sig.length

/-- The words that the staging area holds (R115). -/
def State.stagingRoom (s : State) : Nat := partSize s.arm.committed 3 - (s.arm.committed.map Image.total).getD 0

/-- Why a load from a source may not start (R114, R115). -/
def State.loadRefusal (s : State) (src : Nat) : Option Nat :=
  if !(s.rd Reg.ARM_SRC).getLsbD src then some 15 else if s.stagingBusy then some 14 else none

/-- A START or FLASH is refused: recorded, ARM_VERIFYFAIL raised, the stage as it was (R117). -/
def State.loadRefused (s : State) (cause : Nat) : State := (s.armRecord { cause := cause }).raiseArm 0

/-- A load begins, whatever its source: any staged image is discarded, and ARM_PTR returns to 0, which the manual says of a
START alone (R115, R116, R126; DESIGN CHOICE, log entry 117). -/
def State.beginLoad (s : State) (src : Nat) : State :=
  (((s.dropStaged.setStage 1).setFld Reg.ARM_STS 3 2 src)).wr Reg.ARM_PTR 0

def State.hostLoad (s : State) (req : Requester) : State :=
  match s.loadRefusal 1 with
  | some c => s.loadRefused c
  | none => let t := s.beginLoad 1; { t with arm := { t.arm with loader := some req } }

/-- Whether a word at offset `k` may be staged: cause 16 beyond LENGTH + 68 or 65,536, cause 14 beyond the staging area. -/
def State.wordCause (s : State) (k : Nat) : Option Nat :=
  let len := (wordAt s.arm.staging 3).toNat
  if 65536 ≤ k ∨ (3 < s.arm.staging.length ∧ 3 < k ∧ len + 68 ≤ k) then some 16
  else if s.stagingRoom ≤ k then some 14 else none

/-- A word is staged at an offset. -/
def State.stageWord (s : State) (k : Nat) (v : Word) : State :=
  { s with arm := { s.arm with staging := setWordAt s.arm.staging k v, received := max s.arm.received (k + 1) } }

/-- ARM_DATA in an open host load (R116, R117). -/
def State.armData (s : State) (v : Word) : State :=
  let k := (s.rd Reg.ARM_PTR).toNat
  match s.wordCause k with
  | some c => s.verifyFails { cause := c, word := k }
  | none => (s.stageWord k v).wr Reg.ARM_PTR (word (k + 1))

/-- A load ends and verification begins. -/
def State.beginVerify (s : State) : State :=
  ({ s with arm := { s.arm with loader := none, monLoad := false } }).setStage 2

/-- ABORT (R126): ignored only while COMMITTING or PROGRAMMING. -/
def State.abortLoad (s : State) : State :=
  if s.stage = 5 ∨ s.stage = 6 then s
  else
    let t := s.dropStaged.setStage 0
    { t with ring := { t.ring with fetch := none } }

/-- The monitor's session ends, as by a break (R431, R433): the waiting command is discarded, load mode and a monitor load
end, the monitor's locks are broken. A `z` that has been answered still resets the device. -/
def State.monEnds (s : State) : State :=
  let t := if s.arm.monLoad then s.abortLoad else s
  let t := t.breakLocks fun o => decide (o = .req .monitor)
  let t := { t with waiters := t.waiters.filter (fun w => decide (w.acc.req ≠ Requester.monitor))
                    busWait := t.busWait.filter (fun w => decide (w.acc.req ≠ Requester.monitor))
                    mon := { ready := t.mon.ready, bannerDueAt := t.mon.bannerDueAt, inBreak := t.mon.inBreak,
                             events := t.mon.events, zDue := t.mon.zDue } }
  t.wr Reg.MON_STS (t.rd Reg.MON_STS &&& 0xE)

/-! ### Flash (R111 to R113) -/

/-- The commands of the flash: Quad Output Fast Read, sector erase, page program (R112, R113). -/
abbrev flashReadCmd : BitVec 8 := 0x6B
abbrev flashEraseCmd : BitVec 8 := 0x20
abbrev flashPageCmd : BitVec 8 := 0x02

/-- The flash byte at which a slot begins (R112). -/
def slotBase (slotB : Bool) : Nat := if slotB then 0x040000 else 0x000000

/-- FL_CLK in MHz: 24 from IRC, 25 once XTAL is judged (R112). -/
def State.flashMHz (s : State) : Nat := if s.bit Reg.CLK_STS 0 then 25 else 24

/-- A command goes out on the FL_ pins. -/
def State.flashCmd (s : State) (cmd : BitVec 8) (addr : Nat) (data : List (BitVec 8)) : State :=
  s.send (.flash cmd (BitVec.ofNat 24 addr) data s.flashMHz)

def State.flashOf (s : State) (slotB : Bool) : List (BitVec 8) := if slotB then s.arm.flashB else s.arm.flashA
def State.setFlash (s : State) (slotB : Bool) (bs : List (BitVec 8)) : State :=
  if slotB then { s with arm := { s.arm with flashB := bs } } else { s with arm := { s.arm with flashA := bs } }

/-- The 72-bit value of a group of four words, w0 the most significant (R111). -/
def groupValue (ws : List Word) (g : Nat) : Nat := joinWords ((List.range 4).map fun j => wordAt ws (4 * g + j))

/-- The bytes that store an image's words: nine a group, most significant first, a last group filled with zeros (R111). -/
def slotBytes (ws : List Word) : List (BitVec 8) := (List.range (ceilDiv ws.length 4)).flatMap fun g => beBytes 9 (groupValue ws g)

/-- The value of a group as a slot's bytes hold it; an erased byte reads as 0xFF. -/
def groupRead (f : List (BitVec 8)) (g : Nat) : Nat :=
  (List.range 9).foldl (fun n j => n * 256 + (f.getD (9 * g + j) 0xFF).toNat) 0

/-- A word of a slot (R111). -/
def flashWord (f : List (BitVec 8)) (k : Nat) : Word := word (groupRead f (k / 4) / 2 ^ (18 * (3 - k % 4)))

/-- The words that a read of a slot takes (R112). -/
def flashRead (f : List (BitVec 8)) : List Word :=
  let len := (flashWord f 3).toNat
  if len < 64 ∨ 65536 < len then (List.range 8).map (flashWord f)
  else
    let n := if len ≤ 65468 ∧ flashWord f len = 0x0000D ∧ flashWord f (len + 1) = 68 then len + 68 else len
    (List.range n).map (flashWord f)

/-- The Plinth begins to read a slot: the read command goes out with the slot's address (R112). -/
def State.readSlot (s : State) (slotB powerUp : Bool) : State :=
  let t := s.beginLoad 0
  { t with arm := { t.arm with reading := some (slotB, powerUp) } }.flashCmd flashReadCmd (slotBase slotB) []

/-- The slot's words are staged and verification starts. -/
def State.slotRead (s : State) : State :=
  match s.arm.reading with
  | none => s
  | some r =>
    let ws := flashRead (s.flashOf r.1)
    { s with arm := { s.arm with staging := ws, received := ws.length } }.setStage 2

def State.flashLoad (s : State) : State :=
  match s.loadRefusal 0 with
  | some c => s.loadRefused c
  | none => s.readSlot false false

/-- Both slots hold 256 KiB, 64 sectors of 4 KiB: an erase takes them all (DESIGN CHOICE, log entry 116). -/
def State.eraseSlot (s : State) (slotB : Bool) : State :=
  ((List.range 64).foldl (fun t k => t.flashCmd flashEraseCmd (slotBase slotB + 4096 * k) []) s).setFlash slotB []

/-- The pages of 256 bytes are programmed (R113). -/
def State.programSlot (s : State) (slotB : Bool) (bs : List (BitVec 8)) : State :=
  ((List.range (ceilDiv bs.length 256)).foldl (fun t k =>
    t.flashCmd flashPageCmd (slotBase slotB + 256 * k) ((bs.drop (256 * k)).take 256)) s).setFlash slotB bs

/-- PROG_A and PROG_B (R113): the slot's sectors are erased, so that a reset from now to the end leaves a slot that fails
verification. -/
def State.program (s : State) (slotB : Bool) : State :=
  if s.stage = 3 then ({ s with arm := { s.arm with prog := some slotB } }.setStage 6).eraseSlot slotB else s

/-- Programming has ended: the slot holds the image, or differs from it first at a word of it. -/
def State.programDone (s : State) (mismatch : Option Nat) : State :=
  match s.arm.prog, s.arm.staged with
  | some b, some im =>
    let ws := im.words ++ im.sig
    let mismatch := mismatch.filter fun k => decide (k < im.total)
    let ws := match mismatch with
      | none => ws
      | some k => setWordAt ws k (Config.freeWord s.freeIdx)
    let t := ({ s with arm := { s.arm with prog := none } }.programSlot b (slotBytes ws)).setStage 3
    let typ := fun k => ((im.table.find? fun e => decide (e.2.1 ≤ k ∧ k < e.2.1 + e.2.2)).map (·.1)).getD
      (if im.words.length ≤ k then 13 else 15)
    (match mismatch with
      | none => t
      | some k => t.drew.armRecord { cause := 18, typ := typ k, word := k }).raiseArm 7
  | _, _ => s

/-! ### The vendor capability (R203, R204) -/

def State.vsecWord (s : State) (d : Nat) : Nat :=
  let sid := s.fuses.silicon.toNat
  let none? := s.arm.committed.isNone
  let dig := (s.arm.committed.map fun i => i.digest.toNat).getD 0
  let q := ((List.range 4).map fun q => flag (decide (s.fld (Reg.PLN_QF_STS q) 0 2 = 2)) * 2 ^ q).sum
  let sts := s.rd Reg.RNG_STS
  match d with
  | 138 => sid % 2 ^ 32
  | 139 => sid / 2 ^ 32
  | 140 => fieldOf (s.rd Reg.PLN_REV) 0 8 + flag s.fuses.grade * 256 + flag none? * 512 + flag (s.bit Reg.ARM_STS 11) * 1024 +
      s.fuses.secmode.toNat * 2048 + flag s.maquette * 8192 + flag (s.bit Reg.ARM_STS 13) * 16384 +
      flag (s.bit Reg.CLK_STS 1) * 32768 + q * 65536
  | 141 => dig % 2 ^ 32
  | 142 => dig / 2 ^ 32 + ((s.arm.committed.map fun i => i.epoch.toNat).getD 0) * 16
  | 143 => (s.rd Reg.NRG_CEIL).toNat + min 16383 (s.rd Reg.NRG_POWER).toNat * 2 ^ 14 + s.fld Reg.NRG_STS 4 2 * 2 ^ 28 +
      flag (s.bit Reg.NRG_STS 3) * 2 ^ 30
  | 144 => s.nodeId + s.fld Reg.RNG_NODE 5 4 * 16 + s.fld Reg.RNG_NODE 9 5 * 256 + flag (decide (fieldOf sts 0 3 = 5)) * 2 ^ 13 +
      flag (sts.getLsbD 3) * 2 ^ 14 + flag (decide (fieldOf sts 0 3 = 6)) * 2 ^ 15 + flag (sts.getLsbD 4) * 2 ^ 16
  | 145 => (ringGroup s.arm.committed).toNat
  | _ => 0

/-- The fields that never change: the silicon ID, the revision byte and the grade (R5, R7). -/
def State.vsecFixed (s : State) (d : Nat) (old : Dword) : Dword :=
  match d with
  | 138 | 139 => BitVec.ofNat 32 (s.vsecWord d)
  | 140 => BitVec.ofNat 32 (old.toNat / 512 * 512 + s.vsecWord 140 % 512)
  | _ => old

/-- The Plinth refreshes the fields; in NOARM every field after 0x230 is zero. -/
def State.refreshVsec (s : State) : State :=
  { s with txn := { s.txn with vsec := (List.range 8).foldl (fun t k =>
      Tab.set 0 t (138 + k) (if 2 < k ∧ s.arm.committed.isNone = true then 0 else BitVec.ofNat 32 (s.vsecWord (138 + k)))) s.txn.vsec } }

/-! ### Identity (R122, R132, R174) -/

/-- The identity of the image, or PROVISIONING_ID without one: VID, SSVID, SSID, PROGIF. -/
def State.identityOf (s : State) (im : Option Image) : List Word :=
  match sectOf im 0 with
  | some ws => [wordAt ws 2, wordAt ws 3, wordAt ws 4, wordAt ws 5]
  | none => [wordAt s.fuses.prov 0, wordAt s.fuses.prov 1, wordAt s.fuses.prov 2, 0]

/-- IDENTITY and the BAR2 size of an image take effect. -/
def State.takeIdentity (s : State) (im : Option Image) : State :=
  ({ s with arm := { s.arm with identity := s.identityOf im, bar2Log2 := bar2LogOf im } }).setBit Reg.ARM_STS 13 false

/-- They are applied, or wait with PENDING while the link is up and they change (R122). -/
def State.applyIdentity (s : State) (im : Option Image) : State :=
  if s.arm.identity = s.identityOf im ∧ s.arm.bar2Log2 = bar2LogOf im then s.setBit Reg.ARM_STS 13 false
  else if s.linkUp then s.setBit Reg.ARM_STS 13 true else s.takeIdentity im

/-- The link enters Detect: what was pending takes effect. -/
def State.detectIdentity (s : State) : State :=
  if s.bit Reg.ARM_STS 13 then s.takeIdentity (match s.image with | some i => some i | none => s.arm.staged) else s

/-! ### Maquette mode (R123, R124) -/

/-- The mode is entered or left: the head ports' outputs become high-impedance, or take idle drive again. -/
def State.setMaquette (s : State) (on : Bool) : State :=
  let t := (s.setBit Reg.ARM_MAQ 0 on).setBit Reg.ARM_STS 12 on
  t.forAll (List.range 32) fun t p =>
    if on then t.modPort p fun x => { x with drive := .hiZ, trg := false, stb := false, pen := false }
    else if t.drives p then t.modPort p fun x => { x with drive := .idle, pen := decide (x.slot = .powering ∨ x.slot = .powered) && !x.penDue }
    else t

/-! ### Commits (R119 to R121) -/

/-- The island that owns a pin of a group (R90). -/
def pinOwner (group member : Nat) : Nat :=
  match group with
  | 0 => 5 + member / 8 | 1 => 4 | 2 => 4 | 3 => 9 | 4 => 10 | _ => 11

/-- A FUNC of a group that is not UNUSED (R93, R465): of an encoder bits 1:0 say so, of the satellite port bit 0. -/
def pinUsed (group fn : Nat) : Bool :=
  match group with
  | 1 => decide (fn % 4 ≠ 0)
  | 4 => fn.testBit 0
  | _ => decide (fn ≠ 0)

/-- Every pin that either image names. -/
def allPins (a b : Option Image) : List (Nat × Nat) := (pinList a ++ pinList b).map fun e => (e.1, e.2.1)

/-- The pins whose entry differs between two images. -/
def changedPins (a b : Option Image) : List (Nat × Nat) :=
  (allPins a b).filter fun p => decide (pinOf a p.1 p.2 ≠ pinOf b p.1 p.2)

/-- The re-cast unit of a section type that has one (R90). -/
def sectionUnit (t : Nat) : Option Nat :=
  match t with
  | 3 => some 4 | 4 => some 2 | 6 => some 9 | 7 => some 10 | 8 => some 11 | 9 => some 0 | 10 => some 0 | 11 => some 0 | 12 => some 0
  | _ => none

/-- The staged image differs outside the selected units (R119 cause 3). -/
def outsideUnits (units : Word) (a b : Option Image) : Bool :=
  ([0, 2, 3, 4, 5, 6, 7, 8, 9, 10, 11, 12].any fun t =>
    decide (sectOf a t ≠ sectOf b t) && (match sectionUnit t with | some u => !units.getLsbD u | none => true)) ||
  (changedPins a b).any fun p => !units.getLsbD (pinOwner p.1 p.2)

/-- The channels in use of a set are quiesced. -/
def State.allQuiesced (s : State) (of : Chan → Bool) : Bool :=
  s.que.chans.all fun e => !e.2.inUse || !of e.2 || decide (e.2.state = .quiesced)

/-- Whether PINS only adds pins to quad `q` (R121). -/
def pinsOnlyAdded (a b : Option Image) (q : Nat) : Bool :=
  (changedPins a b).all fun p => !(decide (p.1 = 0 ∧ p.2 / 8 = q)) || !pinUsed 0 (pinOf a p.1 p.2).1

/-- The condition of a re-cast unit (R121). -/
def State.unitReady (s : State) (u : Nat) (a b : Option Image) : Bool :=
  match u with
  | 4 => s.allQuiesced fun _ => true
  | 5 | 6 | 7 | 8 =>
    let q := u - 5
    (s.allQuiesced fun c => decide (c.ports.toNat / 2 ^ (8 * q) % 256 ≠ 0)) && pinsOnlyAdded a b q
  | 2 => s.que.chans.all fun e => !e.2.inUse || decide (template? a e.2.tmpl = template? b e.2.tmpl)
  | 9 => (List.range 4).all fun c => (List.range 10).all (fun k => decide (fbWord a c k = fbWord b c k)) || s.bit (Reg.FB_CTL c) 0
  | 10 => s.sat.posted.isEmpty && s.sat.nonPosted.isEmpty && decide (s.sat.lockBy = 0) && decide (s.sat.lockPin = 0)
  | 11 => s.allQuiesced fun c => decide ((sprueOf a c.ve).kind = 2)
  | _ => true

/-- A locked pin function, or a locked ledger ceiling, would change (R119 cause 5). -/
def State.lockedChange (s : State) (a b : Option Image) : Bool :=
  (s.arm.pinLocks.any fun p => decide ((pinOf a p.1 p.2).1 ≠ (pinOf b p.1 p.2).1)) ||
  (s.bit Reg.NRG_CTL 0 && decide (ledgerCeil a ≠ ledgerCeil b))

/-- Why a commit is refused: cause and unit (R119). Bits 16:12 of the value, which ARM_CMT_V gives as zero, are ignored: no
cause names them (R126; DESIGN CHOICE, log entry 118). -/
def State.commitRefusal (s : State) (v : Word) : Option (Nat × Nat) :=
  let whole := v.getLsbD 17
  let units := v &&& 0xFFF
  let a := s.arm.committed
  let b := s.arm.staged
  if (whole && decide (units ≠ 0)) || (!whole && decide (units = 0)) then some (6, 0)
  else if s.stage ≠ 3 then some (1, 0)
  else if whole && s.anyLive then some (2, 0)
  else if !whole && outsideUnits units a b then some (3, 0)
  else match (if whole then none else (List.range 12).find? fun u => units.getLsbD u && !s.unitReady u a b) with
    | some u => some (4, u)
    | none => if s.lockedChange a b then some (5, 0) else none

def State.commitRefused (s : State) (c : Nat × Nat) : State :=
  (s.wr Reg.ARM_CMT_ERR (word (c.1 + c.2 * 8))).raiseArm 3

/-- The pins that an image gives a function have their locks set (R94). -/
def State.lockPins (s : State) (im : Image) : State :=
  let new := ((pinList (some im)).filter fun e => pinUsed e.1 e.2.2.1).map fun e => (e.1, e.2.1)
  { s with arm := { s.arm with pinLocks := s.arm.pinLocks ++ new.filter fun p => !s.arm.pinLocks.contains p } }

/-- The image and its SIGNATURE are written to the shadow (R98, R120). -/
def State.writeShadow (s : State) (im : Image) : State :=
  let base := partBase (some im) 3
  ((im.words ++ im.sig).foldl (fun (p : Nat × State) w => (p.1 + 1, p.2.sramWrite p.1 w)) (base, s)).2

/-- The islands that an image marks present, in its order, HST left out (R95, R130). -/
def presentIslands (im : Option Image) : List Island :=
  (islandEntries im).filterMap fun e => if e.present then (Island.ofIdx e.island).filter (fun i => decide (i ≠ .hst)) else none

/-- PLN_ISL_IDLE takes the IDLE words (R95). -/
def State.copyIdle (s : State) (im : Option Image) : State :=
  (islandEntries im).foldl (fun t e => t.wr (Reg.PLN_ISL_IDLE e.island) (word e.idle)) s

/-- LEDGER, TAMP, POLICY and MONITOR of an image come into force; CEIL_LOCK sets where LEDGER locks it, and a lower
monitor level applies unless it is locked (R105, R265, R432). -/
def State.applyPlinth (s : State) (im : Option Image) : State :=
  let t := { s with arm := { s.arm with plnImage := im } }
  let t := if ledgerLock im then t.setBit Reg.NRG_CTL 0 true else t
  let t := if monitorLevel im < t.fld Reg.MON_CTL 0 2 ∧ t.bit Reg.MON_CTL 2 = false then t.setFld Reg.MON_CTL 0 2 (monitorLevel im) else t
  let t := if t.fld Reg.MON_CTL 0 2 = 0 ∧ t.bit Reg.MON_STS 0 = true then t.monEnds else t
  let t := t.setBit Reg.MON_CTL 3 (monitorEvents im)
  let t := t.wr Reg.TMP_QUOTA (word (tampQuota im))
  t.ceilingFrom s.ceilSources

/-- The commit or re-cast has ended: the staged image is the committed one, ARM_COMMITTED is raised (R120, R121); a BAR2 size
that a re-cast of SAT changes takes effect or waits (R122), and an island that did not come up is early no longer (R133). -/
def State.commitDone (s : State) : State :=
  match s.arm.run, s.arm.staged with
  | some r, some im =>
    let src := s.fld Reg.ARM_STS 3 2
    let t := { s with arm := { s.arm with committed := some im, staged := none, staging := [], received := 0, run := none } }
    let t := ((((t.setStage 0).setFld Reg.ARM_STS 5 2 src).setBit Reg.ARM_STS 8 false).setBit Reg.ARM_STS 11 im.signed).setBit Reg.ARM_STS 14 false
    let t := if r.whole then (t.applyPlinth (some im)).setFld Reg.PLN_BOOT 0 3 4 else t.applyIdentity (some im)
    let t := if r.whole then Island.all.foldl (fun t i => t.modIsland i fun x => { x with inCommit := false }) t else t
    let t := if r.powerUp then t.wr Reg.PLN_CMT_T (word (min 0x3FFFF ((t.now - t.boot.originAt) / usTicks 10))) else t
    (t.raiseArm 2).refreshVsec
  | _, _ => s

/-- The image comes into force for the islands about to come up: pins locked, the shadow written, idle times copied. -/
def State.castImage (s : State) (im : Image) (whole : Bool) : State :=
  let t := (s.writeShadow im).lockPins im
  if whole then (if im.maquette then (t.copyIdle (some im)).setMaquette true else t.copyIdle (some im)) else t

/-- The islands of a whole commit are set to come up; those that the crystal's state forbids are skipped (R129). -/
def State.raiseIslands (s : State) : State :=
  match s.arm.run with
  | none => s
  | some r =>
    let up := r.toRaise.filter fun i => !crystalBound i || s.bit Reg.CLK_STS 0
    let t := { s with arm := { s.arm with run := some { r with toRaise := up } } }
    let t := if up.length = r.toRaise.length then t else t.setBit Reg.PLN_BOOT 8 true
    let t := up.foldl (fun t i => (t.modIsland i fun x => { x with inCommit := true }).plinthEnable i) t
    if up.isEmpty then t.commitDone else t

/-- The next island of a whole commit is gated; once all are, the image comes into force and the islands come up (R120). -/
def State.gateNext (s : State) : Nat → State
  | 0 => s
  | fuel + 1 =>
    match s.arm.run, s.arm.staged with
    | some r, some im =>
      if r.deferred || !r.whole then s
      else match r.toGate with
        | [] => s
        | i :: rest =>
          let t := if s.bit Reg.PLN_ISL_EN i.idx then s.plinthDisable i else s
          if (t.island i).power = .gated then
            let t := { t with arm := { t.arm with run := some { r with toGate := rest } } }.modIsland i fun x => { x with inCommit := true }
            if rest.isEmpty then (t.castImage im true).raiseIslands else t.gateNext fuel
          else t
    | _, _ => s

/-- Islands of a whole commit have been gated: the commit goes on. -/
def State.commitGated (s : State) : State := s.gateNext 12

/-- A whole commit begins (R120): identity applied, then the islands but PLN and HST gated in reverse order; at power-up
none is gated, and the device becomes ready (R129, R131). -/
def State.startWhole (s : State) (powerUp : Bool) : State :=
  match s.arm.staged with
  | none => s
  | some im =>
    let order := presentIslands (some im)
    let old := if s.arm.committed.isSome then presentIslands s.arm.committed else order
    let gate := if powerUp then [] else old.reverse.filter fun i => decide ((s.island i).power ≠ .gated)
    let t := (s.applyIdentity (some im)).setStage 5
    let t := if powerUp then
        ((t.setFld Reg.PLN_BOOT 0 3 3).setBit Reg.PLN_BOOT 3 true).wr Reg.PLN_READY_T (word (min 0x3FFFF ((t.now - t.boot.originAt) / usTicks 10)))
      else t
    let t := { t with arm := { t.arm with run := some { whole := true, toGate := gate, toRaise := order, powerUp := powerUp } }
                      boot := { t.boot with waitXtal := false } }
    if gate.isEmpty then (t.castImage im true).raiseIslands else t.commitGated

/-- The selected islands of a re-cast that have something to re-initialise: those that are not OFF or GATED, which take
their new sections when they leave that state (R58). -/
def State.recastIslands (s : State) (units : Word) : List Island :=
  Island.all.filter fun i => decide (i ≠ .pln) && units.getLsbD i.idx && decide (powerDepth (s.island i).power < 2)

/-- A re-cast island has drained; once all have, the new image is in force for their waking. One that was gated meanwhile
is not awaited. -/
def State.recastDrained (s : State) (i : Island) : State :=
  match s.arm.run, s.arm.staged with
  | some r, some im =>
    if !r.whole && r.toGate.contains i then
      let others := fun (l : List Island) => l.filter fun j => !decide (j = i)
      let up := if (s.island i).power = .gated then others r.toRaise else r.toRaise
      let t := { s with arm := { s.arm with run := some { r with toGate := others r.toGate, toRaise := up } } }
      let t := if (others r.toGate).isEmpty then t.castImage im false else t
      if (others r.toGate).isEmpty && up.isEmpty then t.commitDone else t
    else s
  | _, _ => s

/-- An admitted re-cast starts: the selected islands drain and will wake (R121). Drained, an island stands with its clock
stopped and its state kept, as in DOZE: a re-cast takes nothing from it but what its new sections re-initialise (DESIGN
CHOICE, log entry 119). One in DOZE has drained already. -/
def State.startRecast (s : State) : State :=
  match s.arm.run, s.arm.staged with
  | some r, some im =>
    let isl := s.recastIslands (r.units.setWidth 18)
    let t := s.setBit Reg.ARM_STS 14 true
    let t := { t with arm := { t.arm with run := some { r with deferred := false, toGate := isl, toRaise := isl } } }
    if isl.isEmpty then (t.castImage im false).commitDone
    else isl.foldl (fun t i =>
      let t := t.modIsland i fun x => { x with recast := true }
      if (t.island i).power = .doze then (t.modIsland i fun x => { x with waking := true }).recastDrained i else t.sleepTo i .doze) t
  | _, _ => s

/-- The island is of a re-cast whose selected islands have not all drained: it waits with its return (R121). -/
def State.recastHolds (s : State) (i : Island) : Bool :=
  match s.arm.run with
  | some r => !r.whole && !r.deferred && !r.toGate.isEmpty && r.toRaise.contains i
  | none => false

/-- An island of a commit or re-cast is ON. -/
def State.commitRaised (s : State) (i : Island) : State :=
  match s.arm.run with
  | none => s
  | some r =>
    if r.toGate.isEmpty && r.toRaise.contains i then
      let rest := r.toRaise.filter fun j => !decide (j = i)
      let t := { s with arm := { s.arm with run := some { r with toRaise := rest } } }
      if rest.isEmpty then t.commitDone else t
    else s

/-- Pair 4 is applied (R119): refused, or a whole commit starts, or a re-cast asks the planner. -/
def State.commitOp (s : State) (v : Word) : State :=
  match s.commitRefusal v with
  | some c => s.commitRefused c
  | none =>
    let t := { s with arm := { s.arm with lastCommitV := v } }
    if v.getLsbD 17 then t.startWhole s.boot.waitXtal
    else
      let t := t.setStage 5
      { t with arm := { t.arm with run := some { whole := false, units := BitVec.ofNat 12 v.toNat, deferred := true } } }.requestWork .recast

/-! ### The result of verification (R117, R112, R132) -/

/-- Both slots have failed at power-up: NOARM (R132). -/
def State.enterNoArm (s : State) : State :=
  let t := ((s.setFld Reg.PLN_BOOT 0 3 5).setBit Reg.PLN_BOOT 3 true).wr Reg.PLN_READY_T (word (min 0x3FFFF ((s.now - s.boot.originAt) / usTicks 10)))
  ({ t with boot := { t.boot with noArm := true } }.applyIdentity none).refreshVsec

/-- ARM_LOAD_CTL.ABORT (R126). One that takes away the image of the power-up load leaves the device without an image to
commit, as two failed slots do (DESIGN CHOICE, log entry 33). -/
def State.abortCtl (s : State) : State :=
  let powerUp := s.powerUpRuns && (s.boot.waitXtal || (s.arm.reading.any fun r => r.2))
  let t := s.abortLoad
  if powerUp && decide (t.stage = 0) then { t with boot := { t.boot with waitXtal := false } }.enterNoArm else t

/-- Verification ends. -/
def State.verifyDone (s : State) : State :=
  if s.stage ≠ 2 then s
  else match verifyImage s.fuses s.arm.committed s.arm.staging s.arm.received with
    | .ok im =>
      let rd := s.arm.reading
      let t := { s with arm := { s.arm with staged := some im, reading := none } }.setStage 3
      let t := if s.fuses.secmode = 1 ∧ im.signed = false then t.raiseArm 1 else t
      match rd with
      | none => t
      | some (b, pw) =>
        let t := t.setBit Reg.ARM_STS 7 b
        let t := if b then t.raiseArm 4 else t
        if pw then { t with boot := { t.boot with waitXtal := true } }.setFld Reg.PLN_BOOT 0 3 2 else t
    | .error e =>
      let t := s.verifyFails e
      match s.arm.reading with
      | some (false, pw) => t.readSlot true pw
      | some (true, true) => t.enterNoArm
      | _ => t

/-! ### Fuses (R110) -/

/-- The fuse items after one is programmed with `w`, where R110 permits it. -/
def Fuses.programmed (f : Fuses) (item : Nat) (w : Word) : Option Fuses :=
  if item = 0 then
    let m : BitVec 2 := f.secmode ||| BitVec.ofNat 2 w.toNat
    if m = 2 ∨ (m = 3 ∧ f.keyhash = []) then none else some { f with secmode := m }
  else if 16 ≤ item ∧ item ≤ 31 then
    if f.secmode ≠ 0 then none
    else
      let k := item - 16
      some { f with keyhash := Tab.set 0 f.keyhash k (Tab.get 0 f.keyhash k ||| BitVec.ofNat 16 w.toNat) }
  else none

/-- Pair 6 is applied: programming starts with staging word W0 of the ARM_FUSE mailbox, or is refused. One that comes while
another is BUSY is refused with FAIL, and the running one goes on (DESIGN CHOICE, log entry 120). -/
def State.fuseOp (s : State) (item : Nat) : State :=
  let w := (s.mb .armFuse).w0
  if s.arm.fusing.isSome then s.setBit Reg.ARM_FUSE_STS 1 true
  else match s.fuses.programmed item w with
    | none => s.setBit Reg.ARM_FUSE_STS 1 true
    | some _ => { s with arm := { s.arm with fusing := some (item, w) } }.setBit Reg.ARM_FUSE_STS 0 true

/-- A fuse programming ends: the fuses take the item, and ARM_FUSE_V reads it as the last one programmed, or it has failed. -/
def State.fuseDone (s : State) (ok : Bool) : State :=
  match s.arm.fusing with
  | none => s
  | some (item, w) =>
    let t := { s with arm := { s.arm with fusing := none } }.setBit Reg.ARM_FUSE_STS 0 false
    if ok then match t.fuses.programmed item w with
      | some f => { t with fuses := f, arm := { t.arm with lastFuseV := word item } }.setFld Reg.ARM_STS 9 2 f.secmode.toNat
      | none => t.setBit Reg.ARM_FUSE_STS 1 true
    else t.setBit Reg.ARM_FUSE_STS 1 true

end Sys2Proof.Machine
end

