-- ==== Sys2Proof/Machine/RingOps.lean ====
section
/-!
DEFINITION. The Alsyn ring (12_alsyn_group.md): blocks and frames (R338 to R342), forwarding (R343), group time (R345 to
R347), group encoders (R349), election and membership (R351 to R355), group gaps (R356), run state (R358), the fetch of
the keeper's armature (R359 to R361), wraps (R362 to R365).
-/

namespace Sys2Proof.Machine

/-! ### Blocks and their CRC (R338, R340, R341) -/

/-- The bytes of a block, first sent first: bit 0 is sent first. -/
def blockBytes : Nat → Nat → List (BitVec 8)
  | 0, _ => []
  | n + 1, v => BitVec.ofNat 8 v :: blockBytes n (v / 256)

/-- The payload bytes of 14 words: V is the words, most significant first, above four zero bits (R341). -/
def payloadBytes (ws : List Word) : List (BitVec 8) :=
  beBytes 32 (joinWords ((List.range 14).map (wordAt ws)) * 16)

/-- The words in 32 payload bytes. -/
def payloadWords (bs : List (BitVec 8)) : List Word :=
  let v := bs.foldl (fun n b => n * 256 + b.toNat) 0
  (List.range 14).map fun k => word (v / 2 ^ (238 - 18 * k))

/-- Bits 31:0 of a frame's header (R340). -/
def RFrame.header (f : RFrame) : Nat :=
  0xB4 + f.typ * 2 ^ 8 + f.src * 2 ^ 12 + f.dst * 2 ^ 16 + flag f.bcast * 2 ^ 20 + f.level * 2 ^ 26 + flag f.west * 2 ^ 30

/-- The CRC of a frame. -/
def RFrame.crc (f : RFrame) : BitVec 32 := crc32 (blockBytes 4 f.header ++ payloadBytes f.w)

/-- The frame that a header block and its data blocks hold; none where the CRC is bad or the TYPE is reserved (R341). -/
def parseFrame (header : BitVec 64) (data : List (BitVec 64)) : Option RFrame :=
  let h := header.toNat
  let bytes := data.flatMap fun d => blockBytes 8 d.toNat
  let f : RFrame := { typ := h / 2 ^ 8 % 16, src := h / 2 ^ 12 % 16, dst := h / 2 ^ 16 % 16, bcast := header.getLsbD 20,
                      level := h / 2 ^ 26 % 16, west := header.getLsbD 30, w := payloadWords bytes }
  if data.length = 4 ∧ f.typ ≤ 5 ∧ crc32 (blockBytes 4 (h % 2 ^ 32) ++ bytes) = BitVec.ofNat 32 (h / 2 ^ 32) then some f else none

/-! ### State of the node -/

/-- RNG_STS.STATE (R354): 0 ALONE, 1 TRAIN, 2 ELECT, 3 CHECK, 4 LOCKING, 5 MEMBER, 6 HELD, 7 REFUSED. -/
def State.ringState (s : State) : Nat := s.fld Reg.RNG_STS 0 3

/-- JOIN set, LEFT clear, RNG ON, and a ring pin used (R354). -/
def State.ringWanted (s : State) : Bool :=
  s.isOn .rng && s.bit Reg.RNG_JOIN 0 && !s.bit Reg.RNG_STS 10 &&
    (decide ((pinOf s.image 5 0).1 ≠ 0) || decide ((pinOf s.image 5 1).1 ≠ 0))

/-- The group state changes; where it holds fires, every bound port goes to idle drive (R354). -/
def State.setRing (s : State) (st : Nat) : State :=
  let t := s.setFld Reg.RNG_STS 0 3 st
  let t := if st = 6 then t else t.setFld Reg.RNG_STS 15 2 0
  if t.groupHeld && !s.groupHeld then
    t.forAll (List.range 32) fun t p => if (t.binder p).isSome && (t.port p).fires.isEmpty then t.idleDrive p else t
  else t

/-- A channel of the node is LIVE or QUIESCING: the node is running (R347). -/
def State.running (s : State) : Bool := s.que.chans.any fun e => decide (e.2.state = .live ∨ e.2.state = .quiescing)

def State.lane (s : State) (side : Side) : RLane := match side with | .east => s.ring.east | .west => s.ring.west
def State.setLane (s : State) (side : Side) (l : RLane) : State :=
  match side with
  | .east => { s with ring := { s.ring with east := l } }
  | .west => { s with ring := { s.ring with west := l } }
def sideNum : Side → Nat | .east => 0 | .west => 1
def Side.other : Side → Side | .east => .west | .west => .east

/-- RNG_NODE: node, override, keeper, members seen (R371). -/
def State.showNode (s : State) : State :=
  let m := s.rd Reg.RNG_MEMBERS
  let n := onesCount m 16
  let t := s.wr Reg.RNG_NODE (word (s.nodeId + flag (ringOverride s.image s.fuses.silicon).isSome * 16 +
    s.ring.keeper.getD 0 * 32 + n * 512))
  let exp := (ringWord s.image 4).toNat
  let short := decide (n < exp) && decide (t.ringState = 5)
  if short && !t.bit Reg.RNG_STS 9 then (t.setBit Reg.RNG_STS 9 true).raiseRing 23 else t.setBit Reg.RNG_STS 9 short

/-! ### Time (R345 to R347, R352); sub-ticks -/

/-- Device time at an instant of the model's clock, in sub-ticks. -/
def State.devSub (s : State) (st : Nat) : Int := (s.devSt : Int) + ((st : Int) - (s.nowSt : Int))

/-- The offset at an instant: what is slewed so far is in it. -/
def State.offsetAt (s : State) (st : Nat) : Int :=
  let moved : Nat := (st - s.ring.slewSt) * s.ring.slewPpm / 1000000
  if s.ring.slew.natAbs ≤ moved then s.ring.offset + s.ring.slew
  else if s.ring.slew < 0 then s.ring.offset - (moved : Int) else s.ring.offset + (moved : Int)

/-- Group time at an instant. -/
def State.groupAt (s : State) (st : Nat) : Int := s.devSub st + s.offsetAt st

/-- A time as three words, modulo 2^54. -/
def time54 (t : Int) : List Word := words54 (toWord54 t)

/-- The difference of two times modulo 2^n, taken as signed. -/
def signedDiff (n : Nat) (a b : Int) : Int := (a - b + 2 ^ (n - 1)) % 2 ^ n - 2 ^ (n - 1)

/-- RNG_DEV's value: signed, saturating. -/
def devWord (d : Int) : Word := BitVec.ofInt 18 (max (-131072) (min 131071 d))

/-! ### Sending -/

/-- A westward frame finds its transmitter asleep, except while the ring is wrapped: a wake burst goes ahead of it (R336; DEDUCED, log
entry 137). -/
def State.wakeSide (s : State) (side : Side) : State :=
  if side = .west ∧ s.ringSends .west = false then s.send (.ringWake .west) else s

/-- A frame leaves on a side; the lane must be up and RNG ON. -/
def State.frameOut (s : State) (side : Side) (f : RFrame) : State :=
  if s.isOn .rng && !s.held .rng && (s.lane side).up then
    (s.wakeSide side).send (.ringFrame side { f with west := decide (side = .west) })
  else s

/-- The side on which the node's own frames leave: a west wrap end's only neighbour lies west (R343). -/
def State.ownSide (s : State) : Side := if s.ring.wrapRole = 1 then .west else .east

/-- A frame of this node. -/
def State.frame (s : State) (typ : Nat) (dst : Option Nat) (ws : List Word) : RFrame :=
  { typ := typ, src := s.nodeId, dst := dst.getD 0, bcast := dst.isNone, level := 1, west := false,
    w := (List.range 14).map (wordAt ws) }

/-- The number of the ring-transmit arbiter, and the activities of the frames that it grants (R249, R250, R344): forwarded frames
and the node's own BEACON and SAMPLE frames take the lane ahead of it. -/
abbrev arbRing : Nat := 10
def ringActivity (f : RFrame) : Nat := if f.typ = 3 then 8 else if f.typ = 5 then 15 else 7

/-- A DELAY_RESP carries the instant at which it leaves (R345). -/
def State.stamped (s : State) (f : RFrame) : RFrame :=
  if f.typ = 2 ∧ wordAt f.w 0 = 3 then { f with w := f.w.take 5 ++ time54 (s.devSub s.nowSt) ++ f.w.drop 8 } else f

/-- A DELAY_REQ or ECHO_REQ that leaves starts its measurement (R345, R369). -/
def State.stampSent (s : State) (f : RFrame) : State :=
  if f.typ = 2 ∧ wordAt f.w 0 = 2 then { s with ring := { s.ring with delayReq := some (wordAt f.w 1, s.nowSt) } }
  else if f.typ = 5 ∧ wordAt f.w 0 = 1 then { s with ring := { s.ring with echoSentSt := some (wordAt f.w 1, s.nowSt) } }
  else s

/-- A frame that the arbiter grants leaves with its grant, behind those of its activity that wait already; without one it waits
(R252, R344). -/
def State.sendOwn (s : State) (side : Side) (f : RFrame) : State :=
  let a := ringActivity f
  if !(s.isOn .rng && !s.held .rng && (s.lane side).up) then s
  else
    match if s.ring.txWait.any fun e => decide (ringActivity e.2 = a) then none else s.grantAt arbRing a with
    | some t => (t.stampSent f).frameOut side (t.stamped f)
    | none => { s with ring := { s.ring with txWait := s.ring.txWait ++ [(side, f)] } }.noteAsked arbRing [a]

/-- The frames that waited leave as far as they get grants; where no ARMATURE frame waits any more the image has been served. -/
def State.flushRing (s : State) : State :=
  let t := s.ring.txWait.foldl (fun t e => t.sendOwn e.1 e.2) { s with ring := { s.ring with txWait := [] } }
  if s.ring.txWait.any (fun e => decide (e.2.typ = 3)) && !(t.ring.txWait.any fun e => decide (e.2.typ = 3)) then
    { t with ring := { t.ring with serving := none } }
  else t

def State.control (s : State) (dst : Option Nat) (ws : List Word) : State := s.sendOwn s.ownSide (s.frame 2 dst ws)

/-! ### Training (R338, R339) -/

/-- The training block that a lane sends: the answer to the partner's tap requests, and requests of its own, which the
manual does not determine (free values). -/
def State.trainBlock (s : State) (status : Nat) (adapted : Bool) (req : Nat) : BitVec 64 :=
  let v := 0xC3 + (if adapted then 0 else req % 64) * 2 ^ 8 + status * 2 ^ 15 + flag adapted * 2 ^ 21 + s.nodeId * 2 ^ 22 + 2 ^ 26
  BitVec.ofNat 64 (v + (crc32 (blockBytes 4 v)).toNat * 2 ^ 32)

/-- A training block leaves; the transmitter of a held island stands at idle drive (R38, R138). -/
def State.sendBlock (s : State) (side : Side) (block : BitVec 64) : State :=
  if s.held .rng then s else s.send (.ringTrain side block)

/-- A lane starts to train: it sends its first block. -/
def State.trainLane (s : State) (side : Side) : State :=
  if (s.lane side).up || decide ((pinOf s.image 5 (sideNum side)).1 = 0) then s
  else
    let t := s.setLane side { s.lane side with trainAt := some s.now, readyRun := 0, ownReady := 0 }
    let t := t.setFld (Reg.RNG_LANE_STS (sideNum side)) 6 2 1
    (t.sendBlock side (t.trainBlock 0 false (Config.freeNat t.freeIdx))).drew

/-- One tap's answer to a request: its status and position; whether it stands at its limit is open (free value). -/
def tapAnswer (req : Nat) (pos : Nat) (atLimit : Bool) : Nat × Nat :=
  match req with
  | 1 => if atLimit then (3, pos) else (1, pos + 1)
  | 2 => if atLimit then (2, pos) else (1, pos - 1)
  | _ => (0, pos)

/-- The lane is up (R339); a direction that was lost counts as lost until it has been up for 10 ms (R364). -/
def State.laneUp (s : State) (side : Side) : State :=
  let k := sideNum side
  let t := s.setLane side { s.lane side with up := true, upAt := some s.now, trainAt := none }
  let t := ((t.setFld (Reg.RNG_LANE_STS k) 6 2 2).setBit (Reg.RNG_LANE_STS k) 0 true).raiseRing (2 * k)
  if t.ringState = 1 then { t with ring := { t.ring with candidateAt := t.now } }.setRing 2 else t

/-- A training block is taken (R338, R339): the taps answer its requests, the runs of RX_READY are counted, an answer leaves. -/
def State.trainRx (s : State) (side : Side) (block : BitVec 64) (adapted : Bool) : State :=
  let b := block.toNat
  if !s.isOn .rng || decide (b % 256 ≠ 0xC3) || decide (crc32 (blockBytes 4 (b % 2 ^ 32)) ≠ BitVec.ofNat 32 (b / 2 ^ 32)) ||
      decide ((pinOf s.image 5 (sideNum side)).1 = 0) || (s.lane side).up then s
  else
    let s := if (s.lane side).trainAt.isNone then s.trainLane side else s
    let l := s.lane side
    let ans := (List.range 3).map fun k => tapAnswer (b / 2 ^ (8 + 2 * k) % 4) (Tab.get 64 l.taps k) (Config.freeBit (s.freeIdx + k))
    let preset := block.getLsbD 14
    let status := if preset then 0x15 else ((List.range 3).map fun k => (ans.getD k (0, 0)).1 * 4 ^ k).sum
    let taps := if preset then [] else (List.range 3).foldl (fun t k => Tab.set 64 t k (ans.getD k (0, 0)).2) l.taps
    let l := { l with taps := taps, readyRun := if block.getLsbD 21 then l.readyRun + 1 else 0,
                      ownReady := if adapted then l.ownReady + 1 else 0, partner := b / 2 ^ 22 % 16 }
    let t := (s.setLane side l).sendBlock side (s.trainBlock status adapted (Config.freeNat (s.freeIdx + 3)))
    let t := { t with freeIdx := t.freeIdx + 4 }
    if 16 ≤ l.readyRun ∧ 16 ≤ l.ownReady then t.laneUp side else t

/-! ### Group encoders (R349, R350, R293) -/

/-- The estimate of a group encoder reaches the virtual encoders that it feeds. -/
def State.feedGroup (s : State) (k : Nat) : State :=
  s.forAll (List.range 32) fun t v =>
    let e := sprueOf t.image v
    if e.kind = 2 ∧ e.index = k then
      let g := Tab.get {} t.ring.ges k
      let sc : Rat := (if e.invert then -1 else 1) * (e.num : Rat) / (e.den : Rat)
      let x := t.ve v
      (t.setVe v { x with started := true, still := false, lastSt := some t.nowSt,
                          est := { g with p := wrapRat (g.p * sc + (x.pos : Rat)), s := g.s * sc, a := g.a * sc, limit := none,
                                          up := decide (0 ≤ g.s * sc), noSrc := false, still := false } }).sendEstimate v
    else t

/-- A sample is taken into group encoder `k`. -/
def State.takeSample (s : State) (k : Nat) (e : Est) : State :=
  let t := { s with ring := { s.ring with ges := Tab.set {} s.ring.ges k e, geAt := Tab.set none s.ring.geAt k (some s.now) } }
  (t.setBit Reg.RNG_GE_STS k true).feedGroup k

/-- Group time in sub-ticks modulo 2^54, and the instant of the model's clock that one names. -/
def State.groupNow (s : State) : Int := s.groupAt s.nowSt
def State.groupToSt (s : State) (g : Word54) : Nat := ((s.nowSt : Int) - signedDiff 54 s.groupNow g.toNat).toNat

/-- The SAMPLE of group encoder `k` that this node publishes while the virtual encoder is SOURCED, taken by itself at the instant of
sending. -/
def State.sampleOp (s : State) (k : Nat) : State :=
  match geEntry s.image k with
  | none => s
  | some (n, v) =>
    if n = s.nodeId ∧ s.ringState = 5 ∧ (sprueOf s.image v).kind ≠ 0 then
      let e := s.veEst v
      let st := s.nowSt
      let r := e.rawAt st
      let u := e.uAt (s.rd (Reg.VE_AMAX v)).toNat st
      let ws := [word (k + n * 16)] ++ words54 (toWord54 (e.posIntAt st)) ++ words54 (speedItem r.2) ++ words54 (accelItem e.a) ++
        [word u] ++ time54 s.groupNow
      let t := s.frameOut s.ownSide (s.frame 1 none ws)
      t.takeSample k { e with p := (e.posIntAt st : Int), s := r.2, atSt := st, u0 := u, corrSt := st, limit := none }
    else s

/-- A SAMPLE frame that was received. -/
def State.sampleIn (s : State) (f : RFrame) : State :=
  let g := fun k => wordAt f.w k
  let k := fieldOf (g 0) 0 4
  let st := s.groupToSt (join54 (g 11) (g 12) (g 13))
  let v : Rat := ((join54 (g 4) (g 5) (g 6)).toInt : Rat) / 68719476736
  let a : Rat := ((join54 (g 7) (g 8) (g 9)).toInt : Rat) / (64 * 18014398509481984)
  s.takeSample k { p := ((join54 (g 1) (g 2) (g 3)).toInt : Rat), s := v, a := a, atSt := st, u0 := (g 10).toNat, corrSt := st,
                   up := decide (0 ≤ v), noSrc := false }

/-! ### Election (R351, R352) -/

/-- EPOCH of a node as this node knows it. -/
def State.epochOf (s : State) (n : Nat) : Nat :=
  if n = s.nodeId then (s.arm.committed.map fun i => i.epoch.toNat).getD 0 else (s.node n).epoch.toNat

/-- The eligible nodes (R351): JOIN set, the same group, the same level. A node judges by the STATUS frames that it receives: one whose
last is 500 µs old, the limit of R355, counts no more (DEDUCED, log entry 138). -/
def State.eligible (s : State) (n : Nat) : Bool :=
  if n = s.nodeId then s.ringWanted && decide (s.ringState ≠ 7)
  else
    let x := s.node n
    x.seen && !s.passed x.lastAt (usTicks 500) && x.w4.getLsbD 15 && decide (fieldOf x.w4 0 4 = 1) && decide (x.group = ringGroup s.image)

/-- The best candidate: the highest EPOCH, then the lowest node ID. -/
def State.bestCandidate (s : State) : Option Nat :=
  (List.range 16).foldl (fun b n =>
    if s.eligible n then
      match b with
      | none => some n
      | some m => if s.epochOf m < s.epochOf n then some n else some m
    else b) none

/-- The candidate is judged again; a change restarts the 32 ms. -/
def State.judgeCandidate (s : State) : State :=
  let b := s.bestCandidate
  if b = s.ring.candidate then s else { s with ring := { s.ring with candidate := b, candidateAt := s.now } }

/-- The digest in force here. -/
def State.ownDigest (s : State) : BitVec 36 := (s.arm.committed.map (·.digest)).getD 0

/-- The node becomes HELD with a cause: 1 DIGEST, 2 TIME (R357). -/
def State.holdRing (s : State) (cause : Nat) : State :=
  let t := { s with ring := { s.ring with heldOkAt := none, fetchNoted := false } }.setRing 6
  (t.setFld Reg.RNG_STS 15 2 cause).raiseRing (if cause = 1 then 11 else 10)

/-- The node compares itself with the keeper (R357), in the states from CHECK on. -/
def State.checkKeeper (s : State) : State :=
  if s.bit Reg.RNG_STS 3 then s
  else
    let differs := decide (s.ring.keeperDigest ≠ s.ownDigest)
    match s.ringState with
    | 3 => if differs then s.holdRing 1 else s.setRing 4
    | 4 => if differs then s.holdRing 1 else if s.bit Reg.RNG_STS 7 then s.setRing 5 else s
    | 5 => if differs then s.holdRing 1 else s
    | 6 =>
      if differs || !s.bit Reg.RNG_STS 7 then { s with ring := { s.ring with heldOkAt := none } }
      else match s.ring.heldOkAt with
        | none => { s with ring := { s.ring with heldOkAt := some s.now } }
        | some a => if s.passed a (msTicks 1) then s.setRing 5 else s
    | _ => s

/-- A keeper is known: ELECT ends (R354). -/
def State.keeperKnown (s : State) (n : Nat) : State :=
  let t := if s.ring.keeper = some n then s else { s with ring := { s.ring with keeper := some n } }.raiseRing 7
  let t := t.setBit Reg.RNG_STS 6 false
  (if t.ringState = 2 then t.setRing 3 else t).showNode

/-- This node becomes keeper (R352): with group time held it keeps its offset frozen, else the offset is zero. -/
def State.becomeKeeper (s : State) : State :=
  let off := if s.ring.hasTime then s.offsetAt s.nowSt else 0
  let t := { s with ring := { s.ring with offset := off, slew := 0, hasTime := true, keeperDigest := s.ownDigest,
                                          keeperEpoch := word (s.epochOf s.nodeId) } }
  let t := ((t.setBit Reg.RNG_STS 3 true).setBit Reg.RNG_STS 7 true).keeperKnown s.nodeId
  (t.setRing 5).setBit Reg.RNG_MEMBERS s.nodeId true

/-- The best candidate, judged now, has stayed unchanged for 32 ms (R351, R352). -/
def State.electOp (s : State) : State :=
  let s := s.judgeCandidate
  match s.ring.candidate with
  | none => s
  | some n =>
    if !s.ringWanted || decide (s.ringState < 2) || !s.passed s.ring.candidateAt (msTicks 32) then s
    else if s.ring.keeper = some n then s
    else match s.ring.keeper with
      | some k => if s.epochOf n ≤ s.epochOf k ∧ s.bit Reg.RNG_STS 6 = false then s
        else if n = s.nodeId then s.becomeKeeper else s
      | none =>
        if n = s.nodeId then s.becomeKeeper.showNode
        else
          let t := { s with ring := { s.ring with keeperDigest := (s.node n).digest, keeperEpoch := (s.node n).epoch } }
          (t.keeperKnown n).checkKeeper

/-! ### Membership (R355, R356) -/

/-- The group gap entries of a member (R356): nothing for the first GAP frame about a node. -/
def State.gapIn (s : State) (f : RFrame) : State :=
  let g := fun k => wordAt f.w k
  let n := fieldOf (g 0) 0 4
  let closed := (g 1).getLsbD 0
  let q := s.rd Reg.RNG_GAPQ
  let pos := s.vePos (fieldOf q 12 5) s.nowSt
  let t := { s with ring := { s.ring with gapPos := Tab.set none s.ring.gapPos n (if closed then none else some pos) } }
  match Tab.get none s.ring.gapPos n with
  | none => t
  | some p =>
    if q.getLsbD 11 then
      let lastDev := (s.devSub s.nowSt + signedDiff 54 (join54 (g 2) (g 3) (g 4)).toNat s.groupNow) / 64
      let ws := [0, word (n + 32 + 6 * 256), 0] ++ words54 (toWord54 p) ++ words54 (toWord54 pos) ++ words54 (toWord54 lastDev)
      t.stageEntry (fieldOf q 0 11) { typ := 2, words := ws }
    else t

/-- A GAP frame about a missing node; its times are in sub-ticks (R342). The keeper is a member itself: what it sends counts for its
own entries too (DEDUCED, log entry 138). -/
def State.gapFrame (s : State) (n : Nat) (closed : Bool) : State :=
  let f := s.frame 4 none ([word n, word (flag closed)] ++ words54 (s.node n).lastGroupT ++ time54 s.groupNow)
  (s.sendOwn s.ownSide f).gapIn f

/-- The keeper declares a member missing. -/
def State.declareMissing (s : State) (n : Nat) : State :=
  (((s.setBit Reg.RNG_MISSING n true).raiseRing 14).gapFrame n false).showNode

/-- The keeper hears a node in state MEMBER. -/
def State.hearMember (s : State) (n : Nat) : State :=
  if s.bit Reg.RNG_MISSING n then ((s.setBit Reg.RNG_MISSING n false).raiseRing 15).gapFrame n true
  else s.setBit Reg.RNG_MEMBERS n true

/-! ### Frames about time and state -/

/-- REVISION byte of this device. -/
def State.rev (s : State) : Nat := s.fld Reg.PLN_REV 0 8

/-- A STATUS frame (R342); a node that has left joins nothing. -/
def State.statusOp (s : State) : State :=
  if s.isOn .rng && s.bit Reg.RNG_JOIN 0 then
    let d := s.ownDigest.toNat
    let pub := ((List.range 16).map fun k => match geEntry s.image k with
      | some (n, _) => flag (decide (n = s.nodeId)) * 2 ^ k
      | none => 0).sum
    s.control none ([1, word (s.epochOf s.nodeId), word (d / 2 ^ 18), word d, word (1 + s.rev * 16 + s.ringState * 4096 + flag (!s.bit Reg.RNG_STS 10) * 32768)] ++
      words54 s.fuses.silicon ++ [ringGroup s.image, word pub])
  else s

/-- A STATUS frame that was received (R351, R353, R355, R357). -/
def State.statusIn (s : State) (f : RFrame) : State :=
  let g := fun k => wordAt f.w k
  let n := f.src
  let sid := join54 (g 5) (g 6) (g 7)
  let x : NodeInfo := { seen := true, silicon := sid, w4 := g 4, epoch := g 1, digest := BitVec.ofNat 36 (joinWords [g 2, g 3]),
                        group := g 8, lastAt := s.now, lastGroupT := toWord54 s.groupNow }
  if n = s.nodeId then
    if sid = s.fuses.silicon then s
    else
      let t := s.raiseRing 18
      if sid.toNat < s.fuses.silicon.toNat then t.setRing 7 else t
  else
    let t := (s.setNode n x).judgeCandidate
    let rev := decide (fieldOf (g 4) 4 8 ≠ t.rev) && t.eligible n
    let t := if rev && !t.bit Reg.RNG_STS 13 then (t.setBit Reg.RNG_STS 13 true).raiseRing 13 else t
    let t := if t.ring.keeper = some n then { t with ring := { t.ring with keeperEpoch := g 1, keeperDigest := x.digest } } else t
    (if t.bit Reg.RNG_STS 3 && decide (fieldOf (g 4) 12 3 = 5) && t.eligible n then t.hearMember n else t).showNode

/-- The node is an end of a break that is still there (R362). -/
def RingSt.endOf (r : RingSt) (own : Nat) : Nat :=
  if r.wrapRole = 2 ∧ r.breaks.any (fun x => decide (x.1 = own)) then 2
  else if r.wrapRole = 1 ∧ r.breaks.any (fun x => decide (x.1 = r.east.partner)) then 1 else 0

/-- After UNWRAP the wrap ends, and the nodes between them, return to the healthy rows at a beacon; where another break is left the
ring stays wrapped at it (R364). -/
def State.unwrapNow (s : State) : State :=
  if s.ring.unwrapDue then
    let role := s.ring.endOf s.nodeId
    let t := { s with ring := { s.ring with unwrapDue := false, wrapRole := role } }.setBit Reg.RNG_STS 4 (!s.ring.breaks.isEmpty)
    if s.ring.wrapRole = role then t else t.raiseRing 6
  else s

/-- The keeper's BEACON (R342, R346). -/
def State.beaconOp (s : State) : State :=
  if s.bit Reg.RNG_STS 3 && s.isOn .rng then
    let d := s.ownDigest.toNat
    let g := s.groupNow
    let corr : Int := if s.ownSide = .east then s.ring.east.delayEast else 0
    let run := s.bit Reg.RNG_CTL 0
    let ws := [ringGroup s.image, word (s.epochOf s.nodeId), word (d / 2 ^ 18), word d,
        word (s.nodeId + 16 + flag run * 256 + flag (s.bit Reg.RNG_STS 4) * 512 + s.rev * 1024)] ++
      words54 (toWord54 (g / 64)) ++ [word (g % 64).toNat] ++ words36 (toWord36 corr) ++
      [s.rd Reg.RNG_MEMBERS, s.rd Reg.RNG_MISSING, word s.ring.beaconSeq.toNat]
    let t := s.frameOut s.ownSide (s.frame 0 none ws)
    let t := { t with ring := { t.ring with beaconSeq := t.ring.beaconSeq + 1, keeperRun := run } }
    t.unwrapNow
  else s

/-- The deviation is acted on (R347). -/
def State.steer (s : State) (d : Int) (st : Nat) : State :=
  let t := s.wr Reg.RNG_DEV (devWord d)
  let near := decide (d.natAbs ≤ 51)
  let runUp := if near then t.ring.lockRun + 1 else 0
  let now' := t.offsetAt st
  let slewed := fun (ppm : Nat) => { t with ring := { t.ring with offset := now', slew := d, slewSt := st, slewPpm := ppm, lockRun := runUp, hasTime := true } }
  let stepped := { t with ring := { t.ring with offset := now' + d, slew := 0, slewSt := st, lockRun := runUp, hasTime := true } }
  let t := if near then slewed 10
    else if s.running && decide (s.ringState ≠ 6) then
      if d.natAbs ≤ 1280 then slewed 100
      else if s.ringState = 6 then stepped else ({ t with ring := { t.ring with lockRun := 0 } }).holdRing 2
    else stepped
  if near then
    if 16 ≤ runUp ∧ t.bit Reg.RNG_STS 7 = false then (t.setBit Reg.RNG_STS 7 true).raiseRing 9 else t
  else t.setBit Reg.RNG_STS 7 false

/-- MISSING as a beacon carries it: NODELOST and NODEBACK are raised on every node (R355). -/
def State.takeMissing (s : State) (m : Word) : State :=
  let old := s.rd Reg.RNG_MISSING
  let t := s.wr Reg.RNG_MISSING (m &&& 0xFFFF)
  let t := if (m &&& ~~~old &&& 0xFFFF) ≠ 0 then t.raiseRing 14 else t
  if (old &&& ~~~m &&& 0xFFFF) ≠ 0 then t.raiseRing 15 else t

/-- The group time at a beacon's arrival (R346): T × 64 + w8 + CORR, and the delay of the link on the EAST receiver. -/
def State.beaconTime (s : State) (w : List Word) (side : Side) : Int :=
  let g := fun k => wordAt w k
  let link : Int := if side = .east then s.ring.east.delayEast - (s.rd Reg.RNG_ASYM).toInt else 0
  ((join54 (g 5) (g 6) (g 7)).toNat : Int) * 64 + (fieldOf (g 8) 0 6 : Int) + (join36 (g 9) (g 10)).toInt + link

/-- The beacon of a keeper that this node, itself keeper, yields to: a better candidate under R351. -/
def State.yieldsTo (s : State) (k epoch : Nat) : Bool :=
  let own := s.epochOf s.nodeId
  decide (own < epoch) || (decide (own = epoch) && decide (k < s.nodeId))

/-- A node that is no wrap end takes WRAPPED from the beacon. -/
def State.beaconWrapped (s : State) (wrapped : Bool) : State :=
  if s.ring.wrapRole = 0 ∧ s.ring.unwrapDue = false then
    { s with ring := { s.ring with breaks := if wrapped then s.ring.breaks else [] } }.setBit Reg.RNG_STS 4 wrapped
  else s

/-- What a beacon says of the keeper and the group is taken (R352, R355, R357). -/
def State.beaconKeeper (s : State) (w : List Word) : State :=
  let g := fun k => wordAt w k
  let t := s.setBit Reg.RNG_STS 3 false
  let t := { t with ring := { t.ring with beaconAt := some t.now, keeperDigest := BitVec.ofNat 36 (joinWords [g 2, g 3]),
                                          keeperEpoch := g 1, keeperRun := (g 4).getLsbD 8 } }
  let t := (t.keeperKnown (fieldOf (g 4) 0 4)).takeMissing (g 12)
  (t.wr Reg.RNG_MEMBERS (g 11 &&& 0xFFFF)).beaconWrapped ((g 4).getLsbD 9)

/-- A beacon of another group: a node that has no keeper yet is not eligible there; it stays ALONE and forwards (R357). -/
def State.otherGroup (s : State) : State :=
  if 1 ≤ s.ringState ∧ s.ringState ≤ 2 then ({ s with ring := { s.ring with candidate := none } }).setRing 0 else s

/-- A BEACON that was received (R346, R347, R352, R357, R364). -/
def State.beaconIn (s : State) (f : RFrame) (side : Side) (arrSt : Nat) : State :=
  let w4 := wordAt f.w 4
  if s.ringWanted = false ∨ s.ringState = 0 then s
  else if wordAt f.w 0 ≠ ringGroup s.image then s.otherGroup
  else if fieldOf w4 4 4 ≠ 1 then
    if s.ringState = 7 then s else (s.setRing 7).raiseRing 12
  else if s.bit Reg.RNG_STS 3 && !s.yieldsTo (fieldOf w4 0 4) (wordAt f.w 1).toNat then s
  else
    let t := s.beaconKeeper f.w
    let d := signedDiff 60 (t.beaconTime f.w side) (t.groupAt arrSt)
    let t := if t.bit Reg.RNG_STS 5 || decide (t.ringState = 7) then t else t.steer d arrSt
    (t.checkKeeper.unwrapNow).showNode

/-! ### Forwarding (R343, R346) -/

/-- A forwarded frame; a beacon's CORR takes the residence time and, eastward, the delay of the link it leaves on. -/
def State.forward (s : State) (f : RFrame) (from_ dst : Side) (age : Nat) : State :=
  if f.typ = 0 then
    let c := (join36 (wordAt f.w 9) (wordAt f.w 10)).toInt + (age : Int) + (if dst = .east then s.ring.east.delayEast else 0) +
      (if from_ = .east then s.ring.east.delayEast - (s.rd Reg.RNG_ASYM).toInt else 0)
    s.frameOut dst { f with w := f.w.take 9 ++ words36 (toWord36 c) ++ f.w.drop 11 }
  else s.frameOut dst f

/-- A CONTROL frame with this opcode (R342). -/
def isControl (op : Nat) (f : RFrame) : Bool := decide (f.typ = 2 ∧ wordAt f.w 0 = word op)

/-- A frame is kept for this node where it is addressed to it. -/
def State.consume (s : State) (f : RFrame) (side : Side) (age : Nat) : State :=
  if f.bcast || decide (f.dst = s.nodeId) then
    { s with ring := { s.ring with inbox := s.ring.inbox ++ [{ f := f, side := side, arrSt := s.nowSt - age }] } }
  else s

/-- A STATUS frame with this node's ID from another device (R353). -/
def State.duplicates (s : State) (f : RFrame) : Bool :=
  decide (f.src = s.nodeId) && isControl 1 f && decide (join54 (wordAt f.w 5) (wordAt f.w 6) (wordAt f.w 7) ≠ s.fuses.silicon)

/-- The table of R343. Two things beside it: a STATUS frame that betrays a second node of this ID is kept for R353, and the
DELAY_REQ of the western neighbour is taken as it arrives, in a wrapped ring too, since R345 measures the link alone (log
entry 54). -/
def State.route (s : State) (f : RFrame) (side : Side) (age : Nat) : State :=
  let own := decide (f.src = s.nodeId)
  let s := if s.duplicates f then s.consume f side age else s
  if !s.bit Reg.RNG_STS 4 then
    if own then s
    else
      let t := s.consume f side age
      if side = .west then t.forward f side .east age else t
  else
    match s.ring.wrapRole with
    | 1 => if own then s else (s.consume f side age).forward f side .west age
    | 2 => if own then s else (s.consume f side age).forward f side .east age
    | _ =>
      if own && (f.west == isControl 3 f) then s
      else if f.west then (if own then s else s.consume f side age).forward f side .west age
      else (if isControl 2 f then s.consume f side age else s).forward f side .east age

/-- A control block and the blocks that follow it (R340, R341). -/
def State.frameIn (s : State) (side : Side) (header : BitVec 64) (data : List (BitVec 64)) (age : Nat) : State :=
  if !s.isOn .rng then s
  else
    let typ := header.toNat % 256
    if typ = 0x1E ∨ typ = 0xC3 then s
    else if typ ≠ 0xB4 then s.bump Reg.RNG_CRC_CNT
    else match parseFrame header data with
      | none => s.bump Reg.RNG_CRC_CNT
      | some f => s.route f side age

/-- The oldest consumed frame, where it is of a kind; it leaves the inbox. -/
def State.takeFrame (s : State) (want : RFrame → Bool) : Option (RxFrame × State) :=
  match s.ring.inbox with
  | x :: rest => if want x.f then some (x, { s with ring := { s.ring with inbox := rest } }) else none
  | [] => none

def isDiag (f : RFrame) : Bool := decide (f.typ = 5)

/-! ### Hop delay (R345, R363) -/

/-- A DELAY_REQ is sent east; its measurement starts as it leaves. -/
def State.delayReqOp (s : State) : State :=
  if s.isOn .rng && s.ring.east.up then
    let q := s.ring.delaySeq
    let t := s.sendOwn .east (s.frame 2 (some s.ring.east.partner) [2, q])
    { t with ring := { t.ring with delaySeq := q + 1 } }
  else if s.ring.wrapRole = 1 then s.setBit Reg.RNG_STS 5 false else s

/-- A DELAY_REQ is answered west with t2 and t3. -/
def State.delayReqIn (s : State) (x : RxFrame) : State :=
  s.sendOwn .west (s.frame 2 (some x.f.src) ([3, wordAt x.f.w 1] ++ time54 (s.devSub x.arrSt) ++ time54 (s.devSub s.nowSt)))

/-- A DELAY_RESP completes a measurement. -/
def State.delayRespIn (s : State) (x : RxFrame) : State :=
  match s.ring.delayReq with
  | none => s
  | some (q, t1) =>
    if wordAt x.f.w 1 ≠ q then s
    else
      let g := fun k => wordAt x.f.w k
      let away := signedDiff 54 (join54 (g 5) (g 6) (g 7)).toNat (join54 (g 2) (g 3) (g 4)).toNat
      let d := (((x.arrSt : Int) - (t1 : Int)) - away + (s.rd Reg.RNG_ASYM).toInt) / 2
      ({ s with ring := { s.ring with delayReq := none, east := { s.ring.east with delayEast := d } } }).setBit Reg.RNG_STS 5 false

/-! ### Wraps (R362 to R365) -/

/-- A break, named by the node at its east end, is known; a second one splits the ring (R364). -/
def State.noteBreak (s : State) (b : Nat) : State :=
  if s.ring.breaks.any fun x => decide (x.1 = b) then s
  else
    let t := { s with ring := { s.ring with breaks := (b, []) :: s.ring.breaks } }
    if s.ring.breaks.isEmpty then t else (t.setBit Reg.RNG_STS 8 true).raiseRing 19

/-- One end of a break has sent UNWRAP; once both have, the break is closed (R364). -/
def State.unwrapFrom (s : State) (n other : Nat) : State :=
  let b := if s.ring.breaks.any fun x => decide (x.1 = n) then n else other
  match s.ring.breaks.find? fun x => decide (x.1 = b) with
  | none => s
  | some x =>
    let rest := s.ring.breaks.filter fun x => decide (x.1 ≠ b)
    if x.2.any fun k => decide (k ≠ n) then
      { s with ring := { s.ring with breaks := rest, unwrapDue := true } }.setBit Reg.RNG_STS 8 (decide (2 ≤ rest.length))
    else { s with ring := { s.ring with breaks := (b, [n]) :: rest } }

/-- The node becomes a wrap end of a break: 1 west, 2 east. -/
def State.wrapEnd (s : State) (role b : Nat) : State :=
  let t := s.noteBreak b
  let t := { t with ring := { t.ring with wrapRole := role, unwrapDue := false } }
  ((t.setBit Reg.RNG_STS 4 true).setBit Reg.RNG_STS 5 true).raiseRing 5

/-- A receive direction is lost (R362). -/
def State.directionLost (s : State) (side : Side) : State :=
  let k := sideNum side
  let l := s.lane side
  if !s.isOn .rng || !l.up then s
  else
    let t := s.setLane side { l with up := false, upAt := none, lostSince := some s.now, trainAt := some s.now, readyRun := 0, ownReady := 0 }
    let t := (((t.setBit (Reg.RNG_LANE_STS k) 8 true).setBit (Reg.RNG_LANE_STS k) 0 false).setFld (Reg.RNG_LANE_STS k) 6 2 1).raiseRing (2 * k + 1)
    match side with
    | .west => (t.wrapEnd 2 s.nodeId).control none [4, word l.partner]
    | .east => t.wrapEnd 1 l.partner

/-- WRAP (R362, R363): the node it names becomes the west wrap end; every node has to measure again. -/
def State.wrapIn (s : State) (f : RFrame) : State :=
  if wordAt f.w 1 = word s.nodeId then (if s.ring.wrapRole = 1 then s.noteBreak f.src else s.wrapEnd 1 f.src)
  else ((s.noteBreak f.src).setBit Reg.RNG_STS 4 true).setBit Reg.RNG_STS 5 true

/-- This end of a break sends its UNWRAP, which goes around the ring as WRAP did. -/
def State.sendUnwrap (s : State) (other : Nat) : State := (s.control none [5, word other]).unwrapFrom s.nodeId other

/-- The lane has been up for 10 ms. -/
def State.upAgain (s : State) (l : RLane) : Bool :=
  l.up && match l.upAt with
    | some a => s.passed a (msTicks 10)
    | none => false

/-- A lost direction has been up again for 10 ms (R364): its link is measured, and UNWRAP is exchanged. -/
def State.directionBack (s : State) (side : Side) : State :=
  let k := sideNum side
  let l := s.lane side
  if !s.isOn .rng || l.lostSince.isNone || !s.upAgain l then s
  else
    let t := (s.setLane side { l with lostSince := none }).setBit (Reg.RNG_LANE_STS k) 8 false
    (if side = .east then t.delayReqOp else t).sendUnwrap l.partner

/-- UNWRAP (R364): the other end of the break answers with its own, where its receive direction is not lost. -/
def State.unwrapIn (s : State) (f : RFrame) : State :=
  let t := s.unwrapFrom f.src (wordAt f.w 1).toNat
  let lost := match s.ring.wrapRole with | 1 => s.ring.east.lostSince.isSome | 2 => s.ring.west.lostSince.isSome | _ => true
  let sent := s.ring.breaks.any fun x => decide (x.1 = s.nodeId ∨ x.1 = f.src) && x.2.contains s.nodeId
  if wordAt f.w 1 = word s.nodeId ∧ lost = false ∧ sent = false then t.sendUnwrap f.src else t

/-- No beacon for 100 µs (R365): the keeper is lost and a candidate is sought among the others. -/
def State.keeperLostOp (s : State) : State :=
  match s.ring.keeper, s.ring.beaconAt with
  | some k, some a =>
    if s.bit Reg.RNG_STS 3 || !s.passed a (usTicks 100) then s
    else
      let t := s.setNode k {}
      let t := { t with ring := { t.ring with keeper := none, beaconAt := none, candidate := none } }
      ((t.judgeCandidate).setBit Reg.RNG_STS 6 true).raiseRing 8
  | _, _ => s

/-! ### Leaving and joining (R366 to R368) -/

/-- The node leaves (R367): LEAVE is sent, LEFT set, ALONE; its group-fed virtual encoders are NOSRC. -/
def State.leaveGroup (s : State) (left : Bool) : State :=
  let t := if s.ringState = 0 then s else s.control none [6]
  let t := if left then t.setBit Reg.RNG_STS 10 true else t
  let t := { t with ring := { t.ring with keeper := none, candidate := none, geAt := [], beaconAt := none, hasTime := false } }
  ((((t.setBit Reg.RNG_STS 3 false).setBit Reg.RNG_STS 7 false).wr Reg.RNG_GE_STS 0).setRing 0).forAll (List.range 32) fun t v =>
    if (sprueOf t.image v).kind = 2 then t.sendEstimate v else t

/-- The node starts to train and join, where it may (R354, R338). -/
def State.startTrain (s : State) : State :=
  let s := { s with ring := { s.ring with trainDueAt := some (s.now + msTicks (2 * s.nodeId)) } }
  (if s.ringWanted then s.setRing 1 else s).showNode

/-- The wait of 2 ms × node ID is over: training blocks go out on both lanes. -/
def State.trainStartOp (s : State) : State :=
  match s.ring.trainDueAt with
  | none => s
  | some t => if s.now < t || !s.isOn .rng then s else
    ({ s with ring := { s.ring with trainDueAt := none } }.trainLane .east).trainLane .west

/-- LEFT is cleared: the node trains and joins again; lanes that are up stay up, so ELECT follows (R367). -/
def State.rejoinOp (s : State) : State :=
  if s.bit Reg.RNG_STS 10 then
    let t := s.setBit Reg.RNG_STS 10 false
    if t.ringWanted && decide (t.ringState = 0) then
      let t := t.setRing 1
      if t.ring.east.up || t.ring.west.up then { t with ring := { t.ring with candidateAt := t.now } }.setRing 2 else t.startTrain
    else t
  else s

/-- RNG_JOIN is written (R366). -/
def State.joinOp (s : State) (v : Word) : State :=
  let was := s.bit Reg.RNG_JOIN 0
  let locked := s.bit Reg.RNG_JOIN 1
  let t := s.wr Reg.RNG_JOIN (if locked then (s.rd Reg.RNG_JOIN) else v &&& 3)
  if was && !t.bit Reg.RNG_JOIN 0 then t.leaveGroup false
  else if !was && t.bit Reg.RNG_JOIN 0 && t.ringWanted then
    (if t.ring.east.up || t.ring.west.up then { (t.setRing 1) with ring := { (t.setRing 1).ring with candidateAt := t.now } }.setRing 2 else t.startTrain)
  else t

/-- GRPRESET on a member (R368): the request to the keeper, or the keeper's broadcast. -/
def State.broadcastReset (s : State) : State :=
  let at_ : Word54 := toWord54 (s.groupNow / 64 + 400000)
  let t := s.control none ([7] ++ words54 at_)
  { t with ring := { t.ring with resetAtGroup := some at_ } }

def State.grpresetOp (s : State) : State :=
  if s.ringState ≠ 5 then s
  else if s.bit Reg.RNG_STS 3 then s.broadcastReset
  else s.control s.ring.keeper [7]

def State.groupresetIn (s : State) (f : RFrame) : State :=
  if f.bcast then { s with ring := { s.ring with resetAtGroup := some (join54 (wordAt f.w 1) (wordAt f.w 2) (wordAt f.w 3)) } }
  else if s.bit Reg.RNG_STS 3 then s.broadcastReset else s

/-- The group-fed channels of the node are quiesced (R139, R368). -/
def State.quiesceGroupFed (s : State) : State :=
  (s.liveSlots.filter fun k => decide ((sprueOf s.image (s.chn k).ve).kind = 2)).foldl (fun t k => t.quiesceChan k false) s

/-- The group-reset time has come (R368). -/
def State.groupResetOp (s : State) : State :=
  match s.ring.resetAtGroup with
  | none => s
  | some g =>
    if !s.isOn .rng || decide (signedDiff 54 (s.groupNow / 64) g.toNat < 0) then s
    else
      let t := ((s.quiesceGroupFed).setBit Reg.PLN_RST_CAUSE 8 true).raiseRing 22
      ({ t with ring := { t.ring with resetAtGroup := none } }.modIsland .rng fun x => { x with recast := true }).sleepTo .rng .off

/-! ### Run state (R358) -/

/-- At a cadence boundary the keeper's run state is adopted: STOP quiesces, RUN resumes what STOP quiesced. -/
def State.adoptRun (s : State) : State :=
  let st := s.ringState
  if !s.isOn .rng || decide (st = 0 ∨ st = 7) || s.ring.keeper.isNone then s
  else if s.ring.keeperRun = s.ring.runAdopted then s.setBit Reg.RNG_STS 14 s.ring.keeperRun
  else
    let t := ({ s with ring := { s.ring with runAdopted := s.ring.keeperRun } }.setBit Reg.RNG_STS 14 s.ring.keeperRun).raiseRing 21
    if s.ring.keeperRun then
      t.liveSlots.foldl (fun t k => if (t.chn k).stopped && decide ((t.chn k).state = .quiesced) then t.resumeChan k else t) t
    else t.liveSlots.foldl (fun t k => t.quiesceChan k true) t

/-! ### The fetch (R359 to R361) -/

/-- Whether the node may fetch (R359): ACCEPT, source RING permitted. -/
def State.mayFetch (s : State) : Bool := ringFlag s.arm.committed 1 && s.bit Reg.ARM_SRC 2

/-- The conditions of a fetch now: HELD with cause DIGEST, the staging area IDLE, none running. -/
def State.fetchWanted (s : State) : Bool :=
  decide (s.ringState = 6 ∧ s.fld Reg.RNG_STS 15 2 = 1) && decide (s.stage = 0) && s.ring.fetch.isNone && !s.powerUpRuns

def State.fetchRequest (s : State) (off : Nat) : State := s.control s.ring.keeper [8, word off]

/-- The fetch begins, once the planner has admitted it. -/
def State.beginFetch (s : State) : State :=
  if s.fetchWanted && s.mayFetch then
    let t := s.beginLoad 2
    ({ t with ring := { t.ring with fetch := some { progressAt := t.now } } }.setBit Reg.RNG_STS 11 true).fetchRequest 0
  else s

/-- A fetch is asked for; a node that may not fetch raises FETCHFAIL once. -/
def State.fetchOpRing (s : State) : State :=
  if !s.fetchWanted then s
  else if s.mayFetch then s.requestWork .ringArm
  else if s.ring.fetchNoted then s
  else { s with ring := { s.ring with fetchNoted := true } }.raiseRing 17

/-- A fetch fails (R361): the staged image is discarded, the staging area idle again. -/
def State.fetchFails (s : State) : State :=
  let t := s.dropStaged.setStage 0
  ({ t with ring := { t.ring with fetch := none, fetchFailAt := some t.now } }.setBit Reg.RNG_STS 11 false).raiseRing 17

/-- The units whose sections differ between the committed and the fetched image, and whether others do (R360). -/
def fetchUnits (a b : Option Image) : Word × Bool :=
  let us := (([3, 4, 6, 7, 8, 9, 10, 11, 12].filter fun t => decide (sectOf a t ≠ sectOf b t)).filterMap sectionUnit) ++
    (changedPins a b).map fun p => pinOwner p.1 p.2
  (us.foldl (fun m u => m ||| word (2 ^ u)) 0, [0, 2, 5].any fun t => decide (sectOf a t ≠ sectOf b t))

/-- The channels whose binding lies in a selected island are quiesced (R360). -/
def State.quiesceUnits (s : State) (m : Word) : State :=
  (s.liveSlots.filter fun k =>
    let c := s.chn k
    m.getLsbD 4 || m.getLsbD 2 || ((List.range 4).any fun q => m.getLsbD (5 + q) && decide (c.ports.toNat / 2 ^ (8 * q) % 256 ≠ 0)) ||
      (m.getLsbD 11 && decide ((sprueOf s.image c.ve).kind = 2))).foldl (fun t k => t.quiesceChan k false) s

/-- A derived unit whose condition in R121 no quiesce can meet: a quad that would lose or change pins. -/
def neverReady (m : Word) (a b : Option Image) : Option Nat :=
  [5, 6, 7, 8].find? fun u => m.getLsbD u && !pinsOnlyAdded a b (u - 5)

/-- The fetched image is complete (R360). A re-cast that R119 would refuse whatever the node does is refused as a commit is, with the
staged image kept; one whose conditions may still be met waits for them (DEDUCED, log entry 127). -/
def State.fetchComplete (s : State) (ws : List Word) : State :=
  let t := { s with ring := { s.ring with fetch := none } }.setBit Reg.RNG_STS 11 false
  let t := { t with arm := { t.arm with staging := ws, received := ws.length } }
  match verifyImage t.fuses t.arm.committed ws ws.length with
  | .error e => (t.verifyFails e).fetchFails
  | .ok im =>
    if im.digest ≠ t.ring.keeperDigest then t.fetchFails
    else
      let t := { t with arm := { t.arm with staged := some im } }.setStage 3
      let u := fetchUnits t.arm.committed (some im)
      if u.2 then t.setBit Reg.RNG_STS 12 true
      else if t.lockedChange t.arm.committed (some im) then t.commitRefused (5, 0)
      else if let some u := neverReady u.1 t.arm.committed (some im) then t.commitRefused (4, u)
      else
        let t := ((t.raiseArm 5).raiseRing 16).quiesceUnits u.1
        if u.1 = 0 then
          { t with arm := { t.arm with run := some { whole := false } } }.commitDone
        else
          { t.setStage 5 with arm := { (t.setStage 5).arm with run := some { whole := false, units := BitVec.ofNat 12 u.1.toNat, deferred := true } } }.requestWork .recast

/-- An ARMATURE frame (R359): words in order are taken; a missing offset is asked for again. -/
def State.armatureIn (s : State) (f : RFrame) : State :=
  match s.ring.fetch with
  | none => s
  | some x =>
    let off := fieldOf (wordAt f.w 0) 0 17
    let n := min 12 (fieldOf (wordAt f.w 1) 0 4)
    if off < x.words.length then s
    else if x.words.length < off then s.fetchRequest x.words.length
    else
      let ws := x.words ++ (f.w.drop 2).take n
      let len := (wordAt ws 3).toNat
      if 4 ≤ ws.length ∧ len ≤ ws.length ∧ (n < 12 ∨ ws.length = len ∨ len + 68 ≤ ws.length) then s.fetchComplete (ws.take (len + 68))
      else { s with ring := { s.ring with fetch := some { words := ws, progressAt := s.now } } }

/-- The ARMATURE frames of the committed image from an offset on (R359). -/
def State.sendImage (s : State) (n off : Nat) : State :=
  match s.arm.committed with
  | none => s
  | some im =>
    let ws := (im.words ++ im.sig).drop off
    (List.range (ceilDiv ws.length 12)).foldl (fun t k =>
      let c := (ws.drop (12 * k)).take 12
      t.sendOwn t.ownSide (t.frame 3 (some n) ([word (off + 12 * k), word c.length] ++ c))) s

/-- Serving begins, once the planner has admitted it; it goes on while frames of the image wait for their grants. -/
def State.beginServe (s : State) : State :=
  match s.ring.serving with
  | none => s
  | some (n, off) =>
    let t := s.sendImage n off
    if t.ring.txWait.any fun e => decide (e.2.typ = 3) then t else { t with ring := { t.ring with serving := none } }

/-- FETCHREQ reaches the keeper (R359). -/
def State.fetchreqIn (s : State) (f : RFrame) : State :=
  if s.bit Reg.RNG_STS 3 && ringFlag s.arm.committed 0 then
    { s with ring := { s.ring with serving := some (f.src, (wordAt f.w 1).toNat) } }.requestWork .ringArm
  else s

def State.fetchStallOp (s : State) : State :=
  match s.ring.fetch with
  | none => s
  | some x => if s.passed x.progressAt (msTicks 1000) then s.fetchFails else s

def State.fetchRetryOp (s : State) : State :=
  match s.ring.fetchFailAt with
  | none => s
  | some a => if s.passed a (msTicks 10000) then { s with ring := { s.ring with fetchFailAt := none } }.fetchOpRing else s

/-! ### Diagnostics (R369) -/

/-- The echo leaves, once the planner has admitted it: addressed to the western neighbour, so that request and answer go
once around the ring (log entry 41). -/
def State.beginEcho (s : State) : State :=
  let q := s.ring.echoSeq
  let t := s.sendOwn s.ownSide (s.frame 5 (some s.ring.west.partner) [1, q])
  { t with ring := { t.ring with echoSeq := q + 1 } }

/-- ECHO_REQ is returned; ECHO_RESP gives the round trip. -/
def State.echoIn (s : State) (x : RxFrame) : State :=
  if wordAt x.f.w 0 = 1 then s.sendOwn s.ownSide (s.frame 5 (some x.f.src) (2 :: x.f.w.drop 1))
  else match s.ring.echoSentSt with
    | some (q, st) =>
      if wordAt x.f.w 0 = 2 ∧ wordAt x.f.w 1 = q then
        { s with ring := { s.ring with echoSentSt := none, rtt := BitVec.ofNat 36 (x.arrSt - st) } }
      else s
    | none => s

/-! ### Work that the planner has admitted -/

/-- Every selected unit may be re-cast now (R121). -/
def State.recastReady (s : State) : Bool :=
  match s.arm.run with
  | some r => (List.range 12).all fun u => !r.units.getLsbD u || s.unitReady u s.arm.committed s.arm.staged
  | none => true

/-- Admitted work starts (R266); a re-cast whose units may not be re-cast yet goes on waiting (R121, R360). -/
def State.startReady (s : State) : State :=
  let go := s.nrg.ready
  let t := { s with nrg := { s.nrg with ready := [] } }
  go.foldl (fun t w => match w with
    | .eyeScan => t
    | .prbs => { t with link := { t.link with prbsRuns := true } }.setBit Reg.HST_PRBS_STS 5 false
    | .recast =>
      if t.recastReady then t.startRecast else { t with nrg := { t.nrg with deferred := t.nrg.deferred ++ [Work.recast] } }.showNrg
    | .ringArm => if t.ring.serving.isSome then t.beginServe else t.beginFetch
    | .ringDiag => t.beginEcho) t

end Sys2Proof.Machine
end

