-- ==== Sys2Proof/Machine/ResetOps.lean ====
section
/-!
DEFINITION. Resets (R127 to R147), the reads and writes of configuration space (R131, R174 to R185, R203, R204), and the
coming and going of the link (R149, R170 to R172).
-/

namespace Sys2Proof.Machine

/-! ### What the resets of the function do (R144) -/

/-- Records on their way are discarded and counted in PLN_RST_LOST (R144 step 2). -/
def State.discardAllRecords (s : State) : State :=
  let egress := ((List.range 4).map fun q =>
    let x := s.hs (.tqQue (Fin.ofNat 4 q))
    x.inFlight.length + x.readable.length + x.waiting.length).sum
  let t := s.bumpBy Reg.PLN_RST_LOST (egress + s.stagedCount)
  let t := t.forAll (List.range 4) fun t q => t.setHs (.tqQue (Fin.ofNat 4 q)) {}
  { t with que := { t.que with queues := t.que.queues.map fun e => (e.1, { e.2 with staged := [] }), stageFull := false } }

/-- Every channel is destroyed, its ports in idle drive (R139, R141). -/
def State.destroyAll (s : State) : State :=
  s.liveSlots.foldl (fun t k =>
    let ports := (t.chn k).portList
    (t.endChan k false).idlePorts ports) s

/-- Every head port takes idle drive (R137, R144): no strobe or trigger starts any more, a pulse already asserted ends at
its width; PWR, the indicator and every master enable clear, so the heads lose power (11_triggers_and_heads.md). -/
def State.idleAllPorts (s : State) : State :=
  let s := s.forAll (List.range 4) fun t q => t.setQuad q { t.quad q with men := false }
  s.forAll (List.range 32) fun t p =>
    let t := t.setFld (Reg.HP_CTL (qOf p) (iOf p)) 0 3 0
    let t := t.powerDrop p
    let t := t.modPort p fun x =>
      { x with atnEndAt := none, fires := (x.fires.filter fun f => f.made).map fun f => { f with strobe := f.strobe && f.stbBegun } }
    if (t.port p).fires.isEmpty then t.idleDrive p else t

/-- The events are cleared: pending bits, collectors, messages kept. -/
def State.clearEvents (s : State) : State :=
  let t := s.forAll (List.range 32) fun t k => t.wr (Reg.EVT_PEND k) 0
  { t with que := { t.que with vecs := [] }, txn := { t.txn with pba := 0 } }

/-- Satellite masters' work towards the host ends: held writes are discarded, reads answered with SAT_ERR_N (R144). -/
def State.dropHostBound (s : State) : State :=
  let t := { s with sat := { s.sat with toHost := [], nonPosted := s.sat.nonPosted.map fun j => { j with behind := 0 } } }
  [0, 1].foldl (fun t m => match t.splitOf m with
    | some x => if x.answer.isNone then t.splitAnswer m none else t
    | none => t) t

/-- The host's reads and AtomicOps that still wait for their completion are given up: none leaves for them (R143, R170). -/
def State.sinkHostReads (s : State) : State :=
  { s with waiters := s.waiters.filter (fun w => !decide (w.acc.req = .host))
           busWait := s.busWait.filter (fun w => w.write || !decide (w.acc.req = .host))
           sat := { s.sat with nonPosted := s.sat.nonPosted.map fun j => { j with sunk := true } } }

/-- The steps of R144. -/
def State.functionSteps (s : State) : State :=
  let t := s.sinkHostReads.discardAllRecords
  let t := t.sinkTags fun _ => true
  let t := (t.killQueues.clearEvents).destroyAll
  let t := t.breakLocks fun o => match o with | .req .host => true | .chan _ => true | _ => false
  t.idleAllPorts.dropHostBound.fldRequestsEnd

/-- Configuration space returns to its defaults; sticky dwords stay where `sticky` (R139, R170). The captured slot power
limit stays with HST_SPL. -/
def State.resetConfig (s : State) (sticky : Bool) : State :=
  { s with txn := { s.txn with cfg := s.txn.cfg.filter (fun e => sticky && (cfgSticky e.1 || e.1 == 29)), msix := [], pba := 0, d3hot := false,
                               atc := [], invals := [] } }

/-! ### The link (R170 to R172) -/

/-- The LTSSM is in Detect: every rate may be tried again (R155), and what was pending takes effect (R122). -/
def State.enterDetect (s : State) : State :=
  { s with link := { s.link with eqCap := 3, eq8 := false, eq16 := false, eqRedo := false } }.detectIdentity

/-- The link leaves L0 for Detect: what a new training will set anew is cleared. -/
def State.linkDetect (s : State) : State :=
  let t := s.wr Reg.HST_LINK_STS (s.rd Reg.HST_LINK_STS &&& 0x10000)
  let t := (t.abortEye false).forAll (List.range 4) fun t l => t.setFld (Reg.HST_LANE_STS l) 0 2 0
  { t with link := { t.link with unlocked := 0, l0At := none, margining := 0, marginLimit := [], upcfgRun := false, ltrDue := false } }.enterDetect

/-- The reads that the device has outstanding end with the link (R170): their tags are free, and a satellite master's request is
answered as for a read that failed. -/
def State.endReads (s : State) : State :=
  let t := s.txn.tags.foldl (fun t x => match x.who with
    | .satRead m | .satAtomic m => if x.sunk then t else t.splitAnswer m none
    | _ => t) s
  { t with txn := { t.txn with tags := [] } }

/-- A surprise link-down (R170, R171). -/
def State.surpriseDown (s : State) : State :=
  if !s.linkUp then s
  else
    let t := (s.sinkHostReads.endReads.dropStagedInto Reg.HST_LL_DROP).killQueues.fldRequestsEnd
    let t := t.breakLocks isHostOwner
    let t := (t.linkDetect).resetConfig true
    let t := t.setBit Reg.HST_LL_STS 1 true
    let t := { t with link := { t.link with holdDue := policyHold t.arm.plnImage } }
    t.raiseLink 1

/-- At the cadence boundary after a link loss under HOLD every channel quiesces, the link up again or not (R171). -/
def State.holdQuiesce (s : State) : State :=
  if s.link.holdDue then
    let t := { s with link := { s.link with holdDue := false } }
    (t.liveSlots.foldl (fun t k => t.quiesceChan k false) t).setBit Reg.HST_LL_STS 2 true
  else s

/-! ### FLR, hot reset, PERST_N (R143 to R145) -/

def State.flrOp (s : State) : State :=
  if s.boot.flr || !s.boot.perstN then s
  else ({ s with boot := { s.boot with flr := true } }.setBit Reg.PLN_RST_CAUSE 6 true).functionSteps.resetConfig true

def State.hotResetOp (s : State) : State :=
  if !s.linkUp then s
  else (s.setBit Reg.PLN_RST_CAUSE 5 true).functionSteps.linkDetect.resetConfig true

/-- HST is enabled: PERST_N deasserted and REFCLK seen (R130). -/
def State.enableHst (s : State) : State :=
  if s.boot.perstN && s.boot.refclk && !s.boot.inPor then s.plinthEnable .hst else s

/-- PERST_N asserted (R145): the steps of R144, HST in reset, sticky state included. -/
def State.perstOp (s : State) : State :=
  let t := { s with boot := { s.boot with perstN := false, flr := false } }
  let t := (t.setBit Reg.PLN_RST_CAUSE 4 true).functionSteps
  let t := (t.linkDetect).resetConfig false
  let t := t.setBit Reg.PLN_ISL_EN Island.hst.idx false
  let t := ((t.modIsland .hst fun x => { x with drain := none }).enterPower .hst .gated)
  { t with link := {}, txn := { t.txn with tags := [], quarantine := [] } }.ceilingFrom s.ceilSources

/-! ### Resets of the whole device (R127, R128, R139 to R142, R147) -/

/-- The device as a reset leaves it: State.reset, but for what stands outside it or outlasts a reset: the clock of the
model, the fuses, the flash, the pins, what has left the device. `por` clears PLN_RST_CAUSE first. -/
def State.resetDevice (s : State) (por : Bool) (bit : Nat) (straps : BitVec 4) : State :=
  let t : State :=
    { pending := s.pending, now := s.now, freeIdx := s.freeIdx, fuses := s.fuses, sram := s.sram, sent := s.sent
      arm := { flashA := s.arm.flashA, flashB := s.arm.flashB,
               identity := [wordAt s.fuses.prov 0, wordAt s.fuses.prov 1, wordAt s.fuses.prov 2, 0] }
      boot := { originAt := s.now, perstN := s.boot.perstN, refclk := s.boot.refclk, refclkSeenEver := s.boot.refclk, vio5 := s.boot.vio5
                stbLim := s.boot.stbLim, trgLim := s.boot.trgLim }
      clk := { xtalRuns := s.clk.xtalRuns, judgeAt := some s.now, refInSeries := s.boot.refclk }
      sat := { mrst := s.sat.mrst, intPin := s.sat.intPin, reqPin := s.sat.reqPin, lockPin := s.sat.lockPin }
      nrg := { cadStartAt := s.now }
      mon := { bannerDueAt := some (s.now + msTicks 1) } }
  let old := if por then 0 else s.rd Reg.PLN_RST_CAUSE
  let t := t.wr Reg.PLN_RST_CAUSE (old ||| word (2 ^ bit))
  let t := t.wr Reg.PLN_STRAP (word straps.toNat)
  let t := t.setBit Reg.CLK_STS 2 s.boot.refclk
  let t := t.wr Reg.CLK_JUDGE (word (if s.boot.refclk then 48 else 0))
  (t.setFld Reg.ARM_STS 9 2 s.fuses.secmode.toNat).enableHst

/-- POR is asserted (R127): everything is reset and nothing runs until it ends. -/
def State.porAssertOp (s : State) : State :=
  let t := s.resetDevice true 0 0
  { t with boot := { t.boot with inPor := true }, mon := {} }

/-- PURGE (R147): bit 0 must be one. -/
def State.purgeOp (s : State) (v : Word) : State :=
  if v.getLsbD 0 then
    let t := s.destroyAll.idleAllPorts
    let t := ({ t with wakeBuf := [], sram := [] }).dropStaged
    if v.getLsbD 1 then
      ({ t with boot := { t.boot with erasing := true } }.eraseSlot false).eraseSlot true
    else t.resetDevice false 3 (BitVec.ofNat 4 (s.fld Reg.PLN_STRAP 0 4))
  else s

/-- The erase has ended: both slots are empty, and the device resets itself. -/
def State.purgeDone (s : State) : State :=
  if s.boot.erasing then
    ((s.setFlash false []).setFlash true []).resetDevice false 3 (BitVec.ofNat 4 (s.fld Reg.PLN_STRAP 0 4))
  else s

/-! ### Configuration space -/

/-- An entry of Power Budgeting (R181); the bits of its register are the standard's (PRESUMED, log entry 20). -/
def powerEntry (k : Nat) : Nat :=
  match k with
  | 0 => 135 + 256 + 7 * 2 ^ 15
  | 1 => 84 + 256 + 3 * 2 ^ 15
  | 2 => 15 + 256 + 3 * 2 ^ 13 + 7 * 2 ^ 15
  | _ => 0

/-- Lane equalisation control of two lanes: the transmitter preset in force in bits 11:8 of each half (PRESUMED, log entry 20). -/
def State.laneEqWord (s : State) (l : Nat) : Dword :=
  BitVec.ofNat 32 (s.fld (Reg.HST_LANE_STS l) 4 4 * 2 ^ 8 + s.fld (Reg.HST_LANE_STS (l + 1)) 4 4 * 2 ^ 24)

/-- A configuration dword as it is read (R174 to R182, R203). -/
def State.cfgRead (s : State) (d : Nat) : Dword :=
  let id := fun k => (wordAt s.arm.identity k).toNat % 65536
  match d with
  | 0 => BitVec.ofNat 32 (id 0 + 0x3218 * 65536)
  | 2 => BitVec.ofNat 32 (0xB0 + (wordAt s.arm.identity 3).toNat % 256 * 256 + 0x1180 * 65536)
  | 4 => (s.cfgD 4 &&& 0xFF000000) ||| 4
  | 6 => (s.cfgD 6 &&& BitVec.ofNat 32 (2 ^ 32 - 2 ^ s.arm.bar2Log2)) ||| 4
  | 11 => BitVec.ofNat 32 (id 1 + id 2 * 65536)
  | 29 => cfgDefault 29 ||| s.cfgD 29
  | 40 => s.cfgD 40 ||| (if s.link.eq8 then 0x001E0000 else 0) ||| (if s.link.eqRedo && decide (s.fld Reg.HST_LINK_STS 3 2 = 2) then 0x00200000 else 0)
  | 95 => s.laneEqWord 0
  | 96 => s.laneEqWord 2
  | 103 => (if s.link.eq16 then 0xF else 0) ||| (if s.link.eqRedo && decide (s.fld Reg.HST_LINK_STS 3 2 = 3) then 0x10 else 0)
  | 113 => if s.inL0 && decide (s.fld Reg.HST_LINK_STS 3 2 = 3) then 0x00010000 else 0
  | 32 => (s.cfgD 32 &&& 0xFFFF) ||| BitVec.ofNat 32 ((if s.linkUp then s.fld Reg.HST_LINK_STS 3 2 + 1 + s.fld Reg.HST_LINK_STS 5 3 * 16 else 0) * 65536)
  | 83 => BitVec.ofNat 32 s.fuses.silicon.toNat
  | 84 => BitVec.ofNat 32 (s.fuses.silicon.toNat / 2 ^ 32)
  | 122 => BitVec.ofNat 32 (powerEntry ((s.cfgD 121).toNat % 256))
  | 142 => (s.txn.vsecLatch).getD (Tab.get 0 s.txn.vsec 142)
  | _ => if 138 ≤ d ∧ d ≤ 145 then s.vsecFixed d (Tab.get 0 s.txn.vsec d) else s.cfgD d

/-- A byte mask of four enables. -/
def beMask (be : BitVec 4) : Dword :=
  BitVec.ofNat 32 (((List.range 4).map fun k => flag (be.getLsbD k) * 255 * 256 ^ k).sum)

/-- The writable bits of a dword; BAR2's follow the size in force (R176). -/
def State.cfgMask (s : State) (d : Nat) : Dword :=
  if d = 6 then BitVec.ofNat 32 (2 ^ 32 - 2 ^ s.arm.bar2Log2) else cfgWritable d

/-- Bus Master Enable is cleared or set (R184): cleared, the entries already queued are dropped too. -/
def State.bmeOp (s : State) (on : Bool) : State :=
  let t := s.setCfg 1 (if on then s.cfgD 1 ||| 4 else s.cfgD 1 &&& ~~~(4 : Dword))
  if on then t.sendPending else t.dropStagedInto Reg.HST_NOBM_DROP

/-- The power states D3hot and D0 (R184, R185). -/
def State.d3Op (s : State) (d3 : Bool) : State :=
  let t := { s with txn := { s.txn with d3hot := d3 } }
  let t := t.setCfg 17 ((t.cfgD 17 &&& ~~~(3 : Dword)) ||| (if d3 then 3 else 0))
  if d3 then t.dropStagedInto Reg.HST_NOBM_DROP else t.sendPending

/-- ATS Enable is cleared (R202): the cache is emptied, every translated queue faults. -/
def State.atsOff (s : State) : State :=
  let t := (s.setCfg 87 (s.cfgD 87 &&& ~~~(0x80000000 : Dword))).flushAtc
  let qs := (t.que.queues.filter fun e => decide (e.2.state = .enabled) && e.2.translated).map (·.1)
  qs.foldl (fun t q => t.faultQueue q 4) (if qs.isEmpty then t else t.raiseTxn 4)

/-- A configuration write: the writable bits stored, the written ones of W1C bits cleared, and what the bits that changed
start. -/
def State.cfgWrite (s : State) (d : Nat) (be : BitVec 4) (data : Dword) : State :=
  let m := beMask be
  let old := s.cfgD d
  let w := s.cfgMask d &&& m
  let new := ((old &&& ~~~w) ||| (data &&& w)) &&& ~~~(data &&& m &&& cfgW1c d)
  match d with
  | 1 =>
    let t := s.setCfg 1 new
    if new.getLsbD 2 && !old.getLsbD 2 then t.bmeOp true else if old.getLsbD 2 && !new.getLsbD 2 then t.bmeOp false else t
  | 17 =>
    let st := new.toNat % 4
    let new := if st = 1 ∨ st = 2 then (new &&& ~~~(3 : Dword)) ||| (old &&& 3) else new
    let t := s.setCfg 17 new
    if st = 3 then t.d3Op true else if st = 0 ∧ s.txn.d3hot then t.d3Op false else t
  | 30 =>
    let t := s.setCfg 30 new
    if m.getLsbD 15 && data.getLsbD 15 then t.flrOp else t
  | 87 =>
    let t := s.setCfg 87 new
    if old.getLsbD 31 && !new.getLsbD 31 then t.atsOff else t
  | 20 | 24 | 44 => (s.setCfg d new).sendPending
  | _ => s.setCfg d new

/-- A configuration request (R131, R143, R204): Request Retry Status until the device is ready and during an FLR. -/
def State.configOp (s : State) (q : ConfigReq) : State :=
  if !s.linkUp || !s.isOn .hst then s
  else if !s.bit Reg.PLN_BOOT 3 || s.boot.flr then s.send (.config none)
  else
    let d := q.dword.toNat
    if q.write then (s.cfgWrite d q.be q.data).send (.config (some 0))
    else
      let t := s.send (.config (some (s.cfgRead d)))
      match d with
      | 141 => { t with txn := { t.txn with vsecLatch := some (Tab.get 0 t.txn.vsec 142) } }
      | 142 => { t with txn := { t.txn with vsecLatch := none } }
      | _ => t

end Sys2Proof.Machine
end

