-- ==== Sys2Proof/Machine/LinkOps.lean ====
section
/-!
DEFINITION. The host link's lanes and states (R149 to R173): training, equalisation, the eye scan and margining, PRBS test
mode, the link power states, Recovery, lane drop and upconfigure.
-/

namespace Sys2Proof.Machine

/-! ### Rate and width -/

/-- Rate in units of 0.1 GT/s. -/
def rate10 (r : Nat) : Nat := match r with | 0 => 25 | 1 => 50 | 2 => 80 | _ => 160

/-- HST_LINK_STS.LTSSM, RATE, WIDTH and ACTIVE (R173). -/
def State.ltssm (s : State) : Nat := s.fld Reg.HST_LINK_STS 0 3
def State.linkRate (s : State) : Nat := s.fld Reg.HST_LINK_STS 3 2
def State.linkWidth (s : State) : Nat := s.fld Reg.HST_LINK_STS 5 3
def State.activeLane (s : State) (l : Nat) : Bool := s.bit Reg.HST_LINK_STS (9 + l)

/-- The highest rate offered: MAX_RATE, lowered by a failed equalisation until the next Detect (R155, R173). -/
def State.rateCap (s : State) : Nat := min (s.fld Reg.HST_PHY_CTL 0 2) s.link.eqCap

/-- The widest width offered (R173: 3 counts as 2). -/
def State.widthCap (s : State) : Nat := match s.fld Reg.HST_PHY_CTL 2 2 with | 0 => 1 | 1 => 2 | _ => 4

/-- The lanes of a mask, and the configurations R149 allows: width and reversal. -/
def laneConfig (m : BitVec 4) : Option (Nat × Bool) :=
  match m.toNat with
  | 0xF => some (4, false) | 0x3 => some (2, false) | 0xC => some (2, true) | 0x1 => some (1, false) | 0x8 => some (1, true)
  | _ => none

/-- The first configuration that the lanes in service can form (R168); x4 where all four are. -/
def bestLanes (m : BitVec 4) : Option (BitVec 4) :=
  [0xF, 0x3, 0xC, 0x1, 0x8].find? fun c => decide (m &&& c = c)

/-- Host transmit is planned anew for the present width and rate, from the next cadence (R258). -/
def State.replanTransmit (s : State) : State :=
  let d := s.link.detectWidth * rate10 s.link.detectRate
  if d = 0 then s
  else { s with nrg := { s.nrg with nextScale := some (s.linkWidth * rate10 s.linkRate, d) } }

/-- The link runs at another rate. -/
def State.changeRate (s : State) (r : Nat) : State :=
  if s.linkRate = r then s else ((s.setFld Reg.HST_LINK_STS 3 2 r).raiseLink 6).replanTransmit

/-- The configured lanes, with their width and reversal. -/
def State.setLanes (s : State) (m : BitVec 4) (reversed : Bool) : State :=
  let w := ((laneConfig m).map (·.1)).getD 0
  let t := ((s.setFld Reg.HST_LINK_STS 5 3 w).setBit Reg.HST_LINK_STS 8 reversed).setFld Reg.HST_LINK_STS 9 4 m.toNat
  t.forAll (List.range 4) fun t l => t.setBit (Reg.HST_LANE_STS l) 0 (m.getLsbD l)

/-- The dropped lanes as HST_DROP_STS, HST_LANE_STS and NARROWED show them. -/
def State.setDropped (s : State) (m : BitVec 4) : State :=
  let t := (s.setFld Reg.HST_DROP_STS 0 4 m.toNat).setBit Reg.HST_LINK_STS 16 (decide (m ≠ 0))
  t.forAll (List.range 4) fun t l => t.setBit (Reg.HST_LANE_STS l) 3 (m.getLsbD l)

def State.dropped (s : State) : BitVec 4 := BitVec.ofNat 4 (s.fld Reg.HST_DROP_STS 0 4)

/-! ### Training (R149, R172) -/

/-- The link is being trained: HST ON, PERST_N deasserted, REFCLK there, not in test mode. -/
def State.training (s : State) : Bool :=
  s.isOn .hst && s.boot.perstN && s.boot.refclk && !s.bit Reg.HST_PHY_CTL 6 && !s.boot.inPor

/-- The N_FTS advertised at a rate (R161). -/
def nFts (rate : Nat) : Nat := if rate ≤ 1 then 128 else 255

/-- DL_Up (R172). With the link up already, another rate is a change of rate. Lanes that a Detect has found again are no
longer dropped (DESIGN CHOICE, log entry 45). Every lane may be received inverted (R149). A training at 8.0 or 16.0 GT/s has
been through the equalisation of that rate and of 8.0 GT/s before it (R152). -/
def State.linkUpOp (s : State) (rate : Nat) (lanes : BitVec 4) (wiring : LaneWiring) (upcfg : Bool) : State :=
  match laneConfig lanes with
  | none => s
  | some (w, rev) =>
    if !s.training || decide (s.rateCap < rate ∨ s.widthCap < w) then s
    else if s.linkUp then
      if s.ltssm = 3 ∧ s.fld Reg.HST_LINK_STS 9 4 = lanes.toNat then s.changeRate rate else s
    else
      let rv := if w = 4 then wiring.reversed else rev
      let d := s.dropped &&& ~~~lanes
      let t := s.wr Reg.HST_LINK_STS (word (3 + rate * 8 + 2 ^ 17))
      let t := (t.setLanes lanes rv).setDropped d
      let t := t.forAll (List.range 4) fun t l => t.setBit (Reg.HST_LANE_STS l) 1 (lanes.getLsbD l && wiring.inverted.getLsbD l)
      let t := (t.setFld Reg.HST_DROP_STS 4 4 0).setBit Reg.HST_LL_STS 1 false
      let t := { t with link := { t.link with partnerUpcfg := upcfg, detectRate := rate, detectWidth := w, detectLanes := lanes ||| d,
                                              unlocked := 0, l0At := none, eqRedo := false, upcfgRun := false,
                                              dropAt := if d = 0 then none else some t.now, noPartnerNoted := false,
                                              eq8 := t.link.eq8 || decide (2 ≤ rate), eq16 := t.link.eq16 || decide (3 ≤ rate),
                                              ltrAt := none, ltrDue := false, clkreq := true, quietAt := none }
                        nrg := { t.nrg with nextScale := some (1, 1) } }
      let t := (List.range 4).foldl (fun t l => if lanes.getLsbD l then t.send (.laneMsg l (.nFts (nFts rate))) else t) t
      (t.raiseLink 0).sendPending

/-! ### Equalisation (R153 to R155) -/

/-- HST_EQ_MASK; all zero counts as all one (R173). -/
def State.eqMask (s : State) : Word := if s.rd Reg.HST_EQ_MASK = 0 then 0x7FF else s.rd Reg.HST_EQ_MASK

/-- The passing preset of the mask with the widest eye (R153); the lowest number among equal ones (DESIGN CHOICE, log
entry 46). -/
def bestPreset (mask : Word) (ps : List (Fin 11 × BitVec 7)) : Option (Fin 11 × BitVec 7) :=
  (List.range 11).foldl (fun b k =>
    match ps.find? fun e => decide (e.1.val = k) && mask.getLsbD k with
    | none => b
    | some e => match b with
      | none => some e
      | some c => if c.2.toNat < e.2.toNat then some e else b) none

/-- What the device asks of the partner on a lane in Phase 2 (R153): each preset of the mask in turn, then the chosen one, then
at most eight coefficient sets that refine it. -/
def phase2Requests (mask : Word) (r : LaneEq) : List LaneMsg :=
  ((List.range 11).filter fun p => mask.getLsbD p).map LaneMsg.usePreset ++
    match bestPreset mask r.passing with
    | some e => LaneMsg.usePreset e.1.val :: (r.refined.take 8).map LaneMsg.useCoefficients
    | none => []

/-- Every lane to be equalised is in the results and succeeded (R153, R155): the configured lanes, or before the link is up
the lanes that train, at least one. -/
def State.eqAllWell (s : State) (mine : List LaneEq) : Bool :=
  !mine.isEmpty && (mine.all fun r => r.ok && (bestPreset s.eqMask r.passing).isSome) &&
    (!s.linkUp || (List.range 4).all fun l => !s.activeLane l || mine.any fun r => decide (r.lane.val = l))

/-- Phase 2 ends at a rate (R153, R155), at 16.0 GT/s only after 8.0 GT/s (R152): the chosen presets are shown; a failure on a
configured lane lowers the rate. -/
def State.eqDone (s : State) (rate : Nat) (rs : List LaneEq) : State :=
  if !s.training || decide (rate < 2) || decide (s.rateCap < rate) || (decide (rate = 3) && !s.link.eq8) then s
  else
    let mine := rs.filter fun r => !s.linkUp || s.activeLane r.lane.val
    let ok := s.eqAllWell mine
    let t := mine.foldl (fun t r => (phase2Requests s.eqMask r).foldl (fun t m => t.send (.laneMsg r.lane.val m)) t) s
    let t := mine.foldl (fun t r => match bestPreset s.eqMask r.passing with
      | some e => t.setFld (Reg.HST_LANE_STS r.lane.val) 8 4 e.1.val
      | none => t) t
    let t := { t with link := { t.link with eqRedo := false } }
    if ok then
      let t := { t with link := { t.link with eq8 := true, eq16 := t.link.eq16 || decide (rate = 3) } }
      if t.linkUp then t.changeRate rate else t
    else
      let t := { t with link := { t.link with eqCap := rate - 1 } }
      let t := if t.linkUp && decide (rate ≤ t.linkRate) then t.changeRate (rate - 1) else t
      t.raiseLink 5

/-- A Phase 3 request of the partner (R154): applied where legal, else rejected. -/
def State.eqRequest (s : State) (lane : Nat) (q : EqRequest) : State :=
  if !s.training then s
  else match q with
    | .preset p =>
      if p.toNat ≤ 10 then (s.setFld (Reg.HST_LANE_STS lane) 4 4 p.toNat).send (.laneMsg lane .accepted)
      else s.send (.laneMsg lane .rejected)
    | .coefficients a b c legal =>
      if legal then
        { s with link := { s.link with coefficients := Tab.set 0 s.link.coefficients lane (a.toNat + 64 * b.toNat + 4096 * c.toNat) } }.send
          (.laneMsg lane .accepted)
      else s.send (.laneMsg lane .rejected)

/-! ### Eye scan and margining (R156 to R158) -/

/-- A scan of a lane is asked for (R156, R266); a lane that is not configured in L0 cannot be scanned, and the scan counts
as aborted (DESIGN CHOICE, log entry 47). -/
def State.eyeStart (s : State) (lane : Nat) : State :=
  if s.bit Reg.HST_EYE_CTL 3 then s
  else
    let t := { s with link := { s.link with eyeLane := lane, eyePausedAt := none, eyeRestart := false, eyeLastAt := s.now } }
    if s.inL0 && s.activeLane lane then
      ((t.setBit Reg.HST_EYE_CTL 3 true).setBit Reg.HST_EYE_CTL 4 false).requestWork .eyeScan
    else t.setBit Reg.HST_EYE_CTL 4 true

/-- The next configured lane after one. -/
def State.nextLane (s : State) (l : Nat) : Nat :=
  ([1, 2, 3, 4].map fun k => (l + k) % 4).find? (fun k => s.activeLane k) |>.getD l

/-- AUTO (R156, R157): an aborted scan again, or the next lane once a second. -/
def State.eyeAuto (s : State) : State :=
  if !s.bit Reg.HST_EYE_CTL 5 || s.bit Reg.HST_EYE_CTL 3 || !s.inL0 then s
  else if s.link.eyeRestart then
    if s.link.margining.getLsbD s.link.eyeLane || decide (1 ≤ s.fld Reg.NRG_STS 0 3) then s else s.eyeStart s.link.eyeLane
  else if s.passed s.link.eyeLastAt (msTicks 1000) then s.eyeStart (s.nextLane s.link.eyeLane) else s

/-- The lanes sleep: in L1, or in L0s in either direction. -/
def State.lanesAsleep (s : State) : Bool := decide (s.ltssm = 5) || s.bit Reg.HST_LINK_STS 13 || s.bit Reg.HST_LINK_STS 14

/-- The scan runs: its lane is in L0, awake, and the planner has admitted it (R157, R266). -/
def State.eyeRuns (s : State) : Bool :=
  s.bit Reg.HST_EYE_CTL 3 && s.inL0 && !s.lanesAsleep && !s.nrg.deferred.contains Work.eyeScan

/-- The activity EYESCAN (R249). -/
abbrev actEyeScan : Nat := 10

/-- A scan completes (R156) with its grant of EYESCAN on the register bus; without one it goes on to the next cadence (R157,
R252; DESIGN CHOICE, log entry 63). -/
def State.eyeDone (s : State) (width height : Nat) : State :=
  if s.eyeRuns then
    match s.busGrant actEyeScan with
    | none => s.noteAsked 11 [actEyeScan]
    | some s =>
      let pass := decide (s.fld Reg.HST_EYE_PASS 0 6 ≤ width ∧ s.fld Reg.HST_EYE_PASS 6 8 ≤ height)
      let r : EyeRes := { word := word (width + height * 2 ^ 7 + flag pass * 2 ^ 16 + 2 ^ 17), endT := s.devTime }
      ({ s with link := { s.link with eyes := Tab.set {} s.link.eyes s.link.eyeLane r } }.setBit Reg.HST_EYE_CTL 3 false).raiseLink 7
  else s

/-- The lanes go to sleep, as `enter` says: a scan pauses from that moment, unless it was paused already (R157). -/
def State.eyePause (s : State) (enter : State → State) : State :=
  let t := enter s
  if s.bit Reg.HST_EYE_CTL 3 && !s.lanesAsleep then { t with link := { t.link with eyePausedAt := some t.now } } else t

def State.eyePauseOver (s : State) : State :=
  match s.link.eyePausedAt with
  | none => s
  | some a => if s.lanesAsleep && decide (a + msTicks 100 < s.now) then s.abortEye false else s

/-- The steps of Lane Margining at the Receiver (R158): up to 32 of timing and 125 of voltage. -/
def marginOk : MarginCmd → Bool
  | .timing _ n => decide (n ≤ 32)
  | .voltage _ n => decide (n ≤ 125)
  | _ => true

/-- The figures of R158. Of the capabilities every flag is set: voltage margining, independent up and down, independent left
and right, sampling rate as the reporting method, an independent error sampler. -/
def marginFigure : MarginReport → Nat
  | .capabilities => 0x1F
  | .voltageSteps => 125
  | .timingSteps => 32
  | .timingOffset => 50
  | .voltageOffset => 25
  | .voltageRate => 0
  | .timingRate => 0
  | .maxLanes => 3

/-- The error count limit of a lane until the partner sets one: the standard's 4 (PRESUMED, log entry 20). -/
abbrev marginLimitDefault : Nat := 4

/-- A lane is set to a margin (R158): a scan of the lane is aborted (R157), and the errors counted, which are the lane's own (a
free value of 0 to 63), are reported. Above the error count limit the lane returns to its normal settings. -/
def State.marginStep (s : State) (lane : Nat) : State :=
  let t := if s.link.eyeLane = lane then s.abortEye false else s
  let n := Config.freeNat t.freeIdx % 64
  let tooMany := decide (Tab.get marginLimitDefault t.link.marginLimit lane < n)
  let b := BitVec.ofNat 4 (2 ^ lane)
  let m := if tooMany then t.link.margining &&& ~~~b else t.link.margining ||| b
  ({ t with link := { t.link with margining := m } }.send (.laneMsg lane (.marginErrors tooMany n))).drew

/-- A margining command of the partner, at 16.0 GT/s in L0 (R158). -/
def State.marginOp (s : State) (lane : Nat) (c : MarginCmd) : State :=
  if !s.inL0 || decide (s.linkRate ≠ 3) || !s.activeLane lane || !marginOk c then s
  else match c with
    | .goToNormal =>
      { s with link := { s.link with margining := s.link.margining &&& ~~~(BitVec.ofNat 4 (2 ^ lane)) } }.send (.laneMsg lane .marginNormal)
    | .report what => s.send (.laneMsg lane (.marginFigure what (marginFigure what)))
    | .errorLimit n =>
      { s with link := { s.link with marginLimit := Tab.set marginLimitDefault s.link.marginLimit lane n.toNat } }.send
        (.laneMsg lane (.marginLimit n.toNat))
    | .clearErrors => s.send (.laneMsg lane .marginCleared)
    | .timing _ _ => s.marginStep lane
    | .voltage _ _ => s.marginStep lane

/-! ### PRBS test mode (R159, R160) -/

/-- In test mode the selected lanes send with the preset of TXPRESET, where 11 to 15 count as 10 (R160, R173). -/
def State.prbsPreset (s : State) : State :=
  if s.ltssm = 7 then
    s.forAll (List.range 4) fun t l =>
      if t.bit Reg.HST_PRBS_CTL l then t.setFld (Reg.HST_LANE_STS l) 4 4 (min 10 (t.fld Reg.HST_PRBS_CTL 6 4)) else t
  else s

/-- TESTMODE goes from 0 to 1, not by the host: the link goes down, the LTSSM is held. -/
def State.testEnter (s : State) : State :=
  let t := s.surpriseDown
  let t := (t.setFld Reg.HST_LINK_STS 0 3 7).prbsPreset
  let t := (t.wr Reg.HST_PRBS_STS 0x10)
  { t with link := { t.link with prbsRuns := false } }.requestWork .prbs

def State.testExit (s : State) : State :=
  let t := s.prbsSettle
  let t := { t with link := { t.link with prbsRuns := false }
                    nrg := { t.nrg with deferred := t.nrg.deferred.filter fun w => !decide (w = Work.prbs) } }
  (((t.setFld Reg.HST_LINK_STS 0 3 0).setBit Reg.HST_PRBS_STS 4 false).setFld Reg.HST_PRBS_STS 0 4 0).enterDetect.showNrg

/-- The checker of a lane locks. -/
def State.prbsLock (s : State) (lane : Nat) : State :=
  if s.link.prbsRuns && s.bit Reg.HST_PRBS_CTL lane && !s.bit Reg.HST_PRBS_STS lane then
    { s with link := { s.link with prbsAt := Tab.insert s.link.prbsAt lane s.now } }.setBit Reg.HST_PRBS_STS lane true
  else s

/-- CLEAR: both counters of every lane. -/
def State.prbsZero (s : State) : State :=
  let t := s.prbsSettle
  { t with link := { t.link with prbsMis := [], prbsCmp := [] } }

/-- HST_PRBS_CTL has been written: lanes left out, or a new rate, lose their lock. -/
def State.prbsCtl (s : State) (old new : Word) : State :=
  let t := if fieldOf old 4 2 = fieldOf new 4 2 then s.setFld Reg.HST_PRBS_STS 0 4 (s.fld Reg.HST_PRBS_STS 0 4 &&& fieldOf new 0 4)
    else s.setFld Reg.HST_PRBS_STS 0 4 0
  if new.getLsbD 10 then { t with link := { t.link with prbsMis := [], prbsCmp := [] } } else t

/-! ### Link power states (R161 to R165) -/

/-- Something waits to be sent: records on their way, entries staged, queues with work, requests outstanding (R162). -/
def State.txWork (s : State) : Bool :=
  ((List.range 4).any fun q =>
    let x := s.hs (.tqQue (Fin.ofNat 4 q))
    !x.inFlight.isEmpty || !x.readable.isEmpty || !x.waiting.isEmpty) ||
  (s.que.queues.any fun e => decide (e.2.state = .enabled) && (!e.2.staged.isEmpty || !e.2.fetched.isEmpty ||
    (e.2.hostProduces && decide (e.2.prod ≠ e.2.fetchPos)))) ||
  !s.txn.tags.isEmpty || !s.waiters.isEmpty

/-- The link's view of an instant (R161, R162): the moment from which nothing waits to be sent is dated. -/
def State.noteQuiet (s : State) : State :=
  if !s.txWork = s.link.quietAt.isSome then s
  else { s with link := { s.link with quietAt := if s.txWork then none else some s.now } }

/-- Nothing has waited to be sent for `us` µs. -/
def State.quietFor (s : State) (us : Nat) : Bool := s.link.quietAt.any fun t => s.passed t (usTicks us)

/-- The transmitter may enter L0s (R161): nothing waited and no TLP left for HST_L0S_IDLE µs, where 0 counts as 1. -/
def State.txL0sDue (s : State) : Bool :=
  let us := max 1 (s.fld Reg.HST_L0S_IDLE 0 3)
  !s.bit Reg.HST_LINK_STS 13 && !s.txWork && s.quietFor us && s.passed s.link.sentAt (usTicks us)

/-- L0s, with ASPM L0s enabled, in each direction on its own (R161): the transmitter enters it where it may. An entry that cannot be
the transmitter's is the partner's, which the receiver follows (DESIGN CHOICE, log entry 142). -/
def State.l0sOp (s : State) : State :=
  if !s.aspmL0s || !s.inL0 || !s.isOn .hst then s
  else s.eyePause fun t => t.setBit Reg.HST_LINK_STS (if s.txL0sDue then 13 else 14) true

/-- L1 (R162): with ASPM L1 after HST_L1_IDLE µs with nothing to do, or in D3hot as the standard asks; with L1.1 enabled the link
goes on to L1.1 and CLKREQ_N is released (R163). -/
def State.l1Op (s : State) : State :=
  if (s.txn.d3hot || (s.aspmL1 && s.quietFor (s.rd Reg.HST_L1_IDLE).toNat)) && s.inL0 && s.isOn .hst && !s.txWork then
    let l11 := (s.cfgD 130).getLsbD (if s.txn.d3hot then 1 else 3)
    s.eyePause fun s =>
      let t := (s.setFld Reg.HST_LINK_STS 0 3 5).setFld Reg.HST_LINK_STS 13 3 (4 * flag l11)
      { t with link := { t.link with clkreq := !l11 } }
  else s

/-- The link leaves L1 or L1.1 through Recovery, HST waking for it. A scan that paused goes on after it (R157). -/
def State.exitL1 (s : State) : State := if s.ltssm = 5 then (s.wake .hst).toRecovery else s

/-- A cause to transmit, or the partner's wish, in L1.1 (R163, R164): CLKREQ_N is asserted, and the exit follows once REFCLK
runs. -/
def State.l11Exit (s : State) : State :=
  if s.ltssm = 5 ∧ s.bit Reg.HST_LINK_STS 15 = true then
    let t := { s with link := { s.link with clkreq := true } }
    if t.boot.refclk then t.exitL1 else t.wake .hst
  else s

/-- The receivers leave electrical idle: the wake inputs at the Plinth in L1 (R164); receive L0s ends (R161); a partner is there
and Detect goes on to Polling (R172, R173; DESIGN CHOICE, log entry 142). -/
def State.idleExit (s : State) : State :=
  if s.ltssm = 5 then (if s.bit Reg.HST_LINK_STS 15 then s.l11Exit else s.exitL1)
  else if s.inL0 then s.setBit Reg.HST_LINK_STS 14 false
  else if s.training && !s.linkUp && decide (s.ltssm = 0) then s.setFld Reg.HST_LINK_STS 0 3 1
  else s

/-- REFCLK stops (R151, R163). -/
def State.refclkStop (s : State) : State :=
  let t := { s with boot := { s.boot with refclk := false } }.setBit Reg.CLK_STS 2 false
  if t.ltssm = 5 ∧ t.bit Reg.HST_LINK_STS 15 = true then t else t.surpriseDown

/-- REFCLK appears or returns (R130, R163). -/
def State.refclkStart (s : State) : State :=
  let t := { s with boot := { s.boot with refclk := true, refclkSeenEver := true } }.setBit Reg.CLK_STS 2 true
  let t := t.enableHst
  if t.ltssm = 5 ∧ t.bit Reg.HST_LINK_STS 15 = true then { t with link := { t.link with clkreq := true } }.exitL1 else t

/-- The time in µs in which half of a quad's egress buffer of 64 records fills at the record rate of the last cadence. -/
def State.halfFill (s : State) (q : Nat) : Option Nat :=
  let n := Tab.get 0 s.nrg.recLast q
  if n = 0 then none else some (32 * s.nrg.cadTicks / (400 * n))

/-- The automatic LTR value (R165, R179): the quad whose buffer fills first decides (DEDUCED, log entry 48); the Max Snoop and
No-Snoop Latency registers lower it. -/
def State.ltrValue (s : State) : Nat :=
  let us := (s.rd Reg.HST_LTR_US).toNat
  let most := fun (v : Nat) (r : Nat) => match latencyUs r with | some l => min v l | none => v
  most (most (if !s.anyLive then us
  else max 1 ((List.range 4).foldl (fun m q => match s.halfFill q with | some h => min m h | none => m) us))
    ((s.cfgD 91).toNat % 65536)) ((s.cfgD 91).toNat / 65536)

def State.ltrAuto (s : State) : State :=
  if !s.bit Reg.HST_LTR_CTL 0 || !s.ltrEn || !s.canSend then s
  else
    let v := s.ltrValue
    let l := s.link.ltrLast
    let moved := decide (l < 4 * (v - l) ∨ l < 4 * (l - v))
    match s.link.ltrAt with
    | none => s.sendLtr v
    | some a => if moved && s.passed a (msTicks 1) then s.sendLtr v else s

/-- SEND with AUTO clear (R165): the message leaves at once, or as soon as the link, which it takes out of L1, can carry it. -/
def State.ltrSendOp (s : State) : State :=
  if s.bit Reg.HST_LTR_CTL 0 || !s.ltrEn || !s.linkUp then s
  else if s.canSend then s.sendLtr (s.rd Reg.HST_LTR_US).toNat
  else { s with link := { s.link with ltrDue := true } }.leaveL1.l11Exit

/-! ### Recovery, lane drop, upconfigure (R166 to R169) -/

/-- The link enters Recovery: counted, a running scan aborted (R157). -/
def State.enterRecovery (s : State) : State := s.toRecovery.abortEye false

/-- A lane is dropped (R168): the link retrains without it at the current rate; with no width left, or DROP_EN clear, the
link is lost. -/
def State.dropLane (s : State) (lane : Nat) : State :=
  let d := s.dropped ||| BitVec.ofNat 4 (2 ^ lane)
  if !s.bit Reg.HST_PHY_CTL 7 then s.surpriseDown
  else match bestLanes (s.link.detectLanes &&& ~~~d) with
    | none => s.surpriseDown
    | some m =>
      let rev := ((laneConfig m).map (·.2)).getD false
      let t := ((s.setLanes m rev).setDropped d).setFld Reg.HST_DROP_STS 4 4 0
      let t := t.setFld Reg.HST_LINK_STS 0 3 3
      let t := { t with link := { t.link with unlocked := 0, l0At := none, eqRedo := false, dropAt := some t.now } }
      (t.replanTransmit.raiseLink 2).sendPending

/-- A Recovery has failed for a lane (R166, R167): counted for the first lane to fail; the third failure drops it, else the
next Recovery is entered at once, with an equalisation redo at 8.0 and 16.0 GT/s. -/
def State.recoveryFailed (s : State) (lane : Nat) : State :=
  let fails := s.fld Reg.HST_DROP_STS 4 2
  let mine := decide (fails = 0 ∨ s.fld Reg.HST_DROP_STS 6 2 = lane)
  if mine ∧ 2 ≤ fails then s.dropLane lane
  else
    let t := if mine then s.setFld Reg.HST_DROP_STS 4 4 (fails + 1 + 4 * lane) else s
    let t := t.enterRecovery
    let redo := decide (2 ≤ t.linkRate ∧ t.fld Reg.HST_DROP_STS 4 2 = 1)
    let t := { t with link := { t.link with eqRedo := redo } }
    if redo then t.forAll (List.range 4) fun t l => if t.activeLane l then t.send (.laneMsg l .redo) else t else t

/-- A configured lane loses lock (R166). -/
def State.lockLoss (s : State) (lane : Nat) : State :=
  if !s.linkUp || !s.activeLane lane || !s.bit (Reg.HST_LANE_STS lane) 0 then s
  else
    let b := BitVec.ofNat 4 (2 ^ lane)
    let t := s.setBit (Reg.HST_LANE_STS lane) 0 false
    let t := if 2 ≤ s.linkRate then t.setCfg 94 (t.cfgD 94 ||| BitVec.ofNat 32 (2 ^ lane)) else t
    if s.ltssm = 3 then
      let t := t.setFld (Reg.HST_LANE_STS lane) 12 6 (satTo 63 (t.fld (Reg.HST_LANE_STS lane) 12 6) 1)
      let soon := match s.link.l0At with
        | some a => decide (s.now < a + msTicks 100)
        | none => false
      let t := if soon then t else { t with link := { t.link with unlocked := 0 } }.setFld Reg.HST_DROP_STS 4 4 0
      if soon && s.link.unlocked.getLsbD lane then
        { t with link := { t.link with unlocked := t.link.unlocked ||| b } }.recoveryFailed lane
      else
        { t with link := { t.link with unlocked := t.link.unlocked ||| b } }.enterRecovery
    else { t with link := { t.link with unlocked := t.link.unlocked ||| b } }

/-- A Recovery in which a configured lane never locks ends at the timeout of 24 ms (R167). -/
def State.recoveryTimeout (s : State) (lane : Nat) : State :=
  if s.linkUp && decide (s.ltssm = 4) && s.activeLane lane && !s.bit (Reg.HST_LANE_STS lane) 0 && s.passed s.link.recoveryAt (msTicks 24) then
    s.recoveryFailed lane
  else s

/-- The link is back in L0 with the configured lanes locked (R166): what waited may leave. -/
def State.returnL0 (s : State) : State :=
  if s.linkUp && decide (s.ltssm = 4) && !s.link.upcfgRun && s.isOn .hst then
    let t := s.setFld Reg.HST_LINK_STS 0 3 3
    let t := t.setLanes (BitVec.ofNat 4 (t.fld Reg.HST_LINK_STS 9 4)) (t.bit Reg.HST_LINK_STS 8)
    { t with link := { t.link with l0At := if t.link.unlocked = 0 then none else some t.now, eqRedo := false } }.sendPending
  else s

/-- 100 ms without a further loss (R166). -/
def State.survived (s : State) : State :=
  match s.link.l0At with
  | none => s
  | some a =>
    if s.inL0 && s.passed a (msTicks 100) then
      { s with link := { s.link with l0At := none, unlocked := 0 } }.setFld Reg.HST_DROP_STS 4 4 0
    else s

/-- HST_UPCFG_T in ticks (R169). -/
def State.upcfgTicks (s : State) : Nat := msTicks (1000 * max 10 (s.rd Reg.HST_UPCFG_T).toNat)

/-- An upconfigure is tried (R169): through Recovery the link goes to Configuration. -/
def State.upcfgAttempt (s : State) : State :=
  match s.link.dropAt with
  | none => s
  | some a =>
    if !s.inL0 || decide (s.dropped = 0) || !s.bit Reg.HST_PHY_CTL 4 || !s.passed a s.upcfgTicks then s
    else if !s.link.partnerUpcfg then
      if s.link.noPartnerNoted then s else { s with link := { s.link with noPartnerNoted := true } }.setFld Reg.HST_UPCFG_STS 0 2 1
    else
      let t := s.enterRecovery.setFld Reg.HST_LINK_STS 0 3 2
      { t with link := { t.link with upcfgRun := true, dropAt := some t.now } }

/-- It ends (R169). -/
def State.upcfgDone (s : State) (passed : BitVec 4) (trained : Bool) : State :=
  if !s.link.upcfgRun || !s.linkUp then s
  else
    let t := { s with link := { s.link with upcfgRun := false } }.setFld Reg.HST_LINK_STS 0 3 3
    let got := passed &&& t.dropped
    if got = 0 ∨ trained = false then
      ((t.setFld Reg.HST_UPCFG_STS 0 2 (if got = 0 then 2 else 3)).raiseLink 4).sendPending
    else
      let d := t.dropped &&& ~~~got
      match bestLanes (t.link.detectLanes &&& ~~~d) with
      | none => t
      | some m =>
        let t := (t.setLanes m (((laneConfig m).map (·.2)).getD false)).setDropped d
        let t := { t with link := { t.link with dropAt := if d = 0 then none else some t.now } }
        (t.replanTransmit.raiseLink 3).sendPending

/-- REDETECT (R170). -/
def State.redetectOp (s : State) : State :=
  if s.bit Reg.HST_PHY_CTL 6 then s else if s.linkUp then s.surpriseDown else (s.setFld Reg.HST_LINK_STS 0 3 0).enterDetect

end Sys2Proof.Machine
end

