-- ==== Sys2Proof/Machine/SatOps.lean ====
section
/-!
DEFINITION. The satellite port (14_satellite_bridge.md): its errors, the bus lock, the bridge between BAR2 and the bus, the
writes towards the host, split answers, a master's reset.
-/

namespace Sys2Proof.Machine

/-- SAT runs. -/
def State.satRuns (s : State) : Bool := s.isOn .sat && !s.stopped .sat

/-- The bits of the SAT entry of PINS: bit 0 port used, 1 and 2 masters present, 6:3 interrupt wires (R93). -/
def State.satPins (s : State) : Nat := (pinOf s.image 4 0).1
def State.masterThere (s : State) (m : Nat) : Bool := s.satPins.testBit (1 + m) && !s.sat.mrst.getLsbD m

/-- The bus works for its participants: the port is idle in maquette mode (R123) and during a sequencer step (R426). -/
def State.satBusOpen (s : State) : Bool := s.satRuns && !s.held .sat && !s.bit Reg.ARM_STS 12 && !s.stepping .sat

/-! ### Errors of the port (R405, R406, R428) -/

/-- An error without a window or an address: those fields of LASTERR are not stated (a free value). -/
def State.satLogNo (s : State) (cause requester : Nat) (addr : Option (BitVec 22)) : State :=
  let n := Config.freeNat s.freeIdx
  (s.satLog cause (n % 16) requester (addr.getD (BitVec.ofNat 22 (n / 16)))).drew

/-- Parity errors (R406): each is counted and raises PARITY. -/
def State.parityErrors (s : State) (n requester : Nat) (addr : Option (BitVec 22)) : State :=
  if n = 0 then s else ((s.bumpBy Reg.SAT_PAR_CNT n).satLogNo 4 requester addr).raiseSat 11

/-- Words taken with a parity error are treated as poisoned. -/
def takeWords (ws : List SatWord) : List SatWord := ws.map fun w => { w with poi := w.poi || w.parBad, parBad := false }
def badWords (ws : List SatWord) : Nat := (ws.filter fun w => w.parBad).length
def poisonedIn (ws : List SatWord) : Bool := ws.any fun w => w.poi

/-- A target has not answered (R405). -/
def State.targetTimeout (s : State) (requester : Nat) (addr : BitVec 22) : State :=
  (s.satLogNo 3 requester (some addr)).raiseSat 12

/-! ### The bus lock (R408 to R410) -/

/-- The lock is released and broken. -/
def State.breakSatLock (s : State) : State :=
  ({ s with sat := { s.sat with lockBy := 0, broken := true } }).raiseSat 10

def State.satLockTakeOp (s : State) (m : Nat) : State :=
  if s.satRuns && s.masterThere m && decide (s.sat.lockBy = 0) && !s.sat.deaf.getLsbD m then
    { s with sat := { s.sat with lockBy := m + 1, lockAt := s.now, lockPin := s.sat.lockPin ||| BitVec.ofNat 2 (2 ^ m) } }
  else s

/-- A burst of master `m` is under way. -/
def State.inBurst (s : State) (m : Nat) : Bool := match s.sat.hwr with | some (k, _, _) => decide (k = m) | none => false

/-- The lock of a master that holds SAT_LOCK_N no more is free, at an edge outside its bursts (R408). -/
def State.satLockSettle (s : State) (m : Nat) : State :=
  if s.sat.lockBy = m + 1 ∧ s.sat.lockPin.getLsbD m = false ∧ s.inBurst m = false then { s with sat := { s.sat with lockBy := 0 } } else s

def State.satLockReleaseOp (s : State) (m : Nat) : State :=
  let x := s.sat
  let off := ~~~(BitVec.ofNat 2 (2 ^ m))
  { s with sat := { x with deaf := x.deaf &&& off, lockPin := x.lockPin &&& off } }.satLockSettle m

def State.lockmaxOp (s : State) : State :=
  let us := (s.rd Reg.SAT_LOCKMAX).toNat
  let h := s.sat.lockBy
  if s.satRuns && decide (h = 1 ∨ h = 2) && decide (us ≠ 0) && s.passed s.sat.lockAt (usTicks us) then
    let t := s.breakSatLock
    let t := { t with sat := { t.sat with deaf := t.sat.deaf ||| BitVec.ofNat 2 (2 ^ (h - 1)) } }
    (t.satLogNo 7 h none).raiseSat 15
  else s

/-! ### Grants (R407) -/

/-- The ticks of `n` cycles of SAT_CLK (R69, R426). -/
def State.satCycles (s : State) (n : Nat) : Nat := ceilDiv (n * 400 * satDivider s.image) (satMHz (s.island .sat).op)

/-- No burst within 16 cycles of the grant (R407). -/
def State.satGrantTimeoutOp (s : State) (m : Nat) : State :=
  if s.sat.grant = m + 1 ∧ s.sat.burstSince = false ∧ s.passed s.sat.grantAt (s.satCycles 16) = true then
    { s with sat := { s.sat with grant := 0 } }
  else s

/-- A master has begun a burst under its grant; its request is served. -/
def State.burstBegun (s : State) (m : Nat) : State :=
  { s with sat := { s.sat with burstSince := true, reqPin := s.sat.reqPin &&& ~~~(BitVec.ofNat 2 (2 ^ m)) } }

/-! ### Windows and bursts (R411, R415) -/

/-- The window that holds `n` dwords from a BAR2 offset, and the number of the first word in it. -/
def windowAt (im : Option Image) (offset n : Nat) : Option (SatWindow × Nat) :=
  ((satWindows im).find? fun w =>
    decide (offset % 4 = 0 ∧ w.base * 256 ≤ offset ∧ (offset - w.base * 256) / 4 + n ≤ w.size * 64)).map fun w =>
      (w, (offset - w.base * 256) / 4)

/-- The satellite address of word `j` of a window. -/
def SatWindow.word (w : SatWindow) (j : Nat) : BitVec 22 := BitVec.ofNat 22 (w.sbase * 64 + j)

/-- An address continues a burst: contiguous, within 16 words and its 64-word block. -/
def continues (start len a : Nat) : Bool := decide (a = start + len ∧ len < 16 ∧ a % 64 ≠ 0)

/-- Addresses cut into read bursts: the bursts so far, newest first. -/
def cutReads : List (BitVec 22) → List (BitVec 22 × Nat) → List (BitVec 22 × Nat)
  | [], acc => acc.reverse
  | a :: t, [] => cutReads t [(a, 1)]
  | a :: t, (b, n) :: acc =>
    if continues b.toNat n a.toNat then cutReads t ((b, n + 1) :: acc) else cutReads t ((a, 1) :: (b, n) :: acc)

/-- The write bursts of words in address order. -/
def cutBursts (win : Nat) (ws : List (BitVec 22 × SatWord)) : List WriteBurst :=
  (cutReads (ws.map (·.1)) []).map fun b =>
    { win := win, addr := b.1
      words := (List.range b.2).map fun k =>
        ((ws.find? fun e => decide (e.1.toNat = b.1.toNat + k)).map (·.2)).getD { data := 0 } }

/-! ### The prefetch store (R414) -/

def State.prefetched (s : State) (win : Nat) : Prefetch := Tab.get {} s.sat.prefetch win
def State.setPrefetch (s : State) (win : Nat) (p : Prefetch) : State :=
  { s with sat := { s.sat with prefetch := Tab.set {} s.sat.prefetch win p } }
def State.dropPrefetch (s : State) (win : Nat) : State := s.setPrefetch win {}

/-- A stored word that is not older than 20 µs. -/
def State.stored? (s : State) (win : Nat) (a : BitVec 22) : Option SatWord :=
  ((s.prefetched win).words.find? fun e => decide (e.1 = a) && decide (s.now < e.2.2 + usTicks 20)).map fun e => e.2.1

/-! ### Writes towards the host (R417, R421, R424) -/

/-- The host's requests whose reads are complete and whose earlier satellite writes have gone are completed, in order. -/
def State.completeJob (s : State) (j : BridgeJob) : State :=
  let pass := ((satWindows s.image).find? fun w => decide (w.num = j.win)).map (·.pass) |>.getD false
  match j.want with
  | .read want =>
    let words : List (Option SatWord) := want.map fun a? => match a? with
      | none => none
      | some a => (j.got.find? fun e => decide (e.1 = a)).map fun e => e.2
    let poi := words.any fun w => match w with
      | some x => x.poi
      | none => false
    if poi && !pass then
      ((s.satLog 5 j.win 0 ((want.findSome? id).getD 0)).aer aerCa true).jobReply j .ca [] false
    else
      let ds := words.map fun w => match w with
        | some x => dwordOf x.data
        | none => dwordOf (Config.freeWord s.freeIdx)
      let t := if poi then s.raiseSat 13 else s
      (t.drew).jobReply j .sc ds poi
  | .atomic _ a _ _ =>
    let old := ((j.got.find? fun e => decide (e.1 = a)).map (·.2.data)).getD 0
    (s.bump Reg.HST_ATOMIC_CNT).jobReply j .sc [dwordOf old] false

def jobDone (j : BridgeJob) : Bool := j.started && j.todo.isEmpty && decide (j.ahead = 0) && decide (j.behind = 0)

/-- The read bursts of a request: the words that the store does not answer, and for a PREFETCHABLE window every word up to
the end of the 64-word block of the last one requested (R414). -/
def State.readBursts (s : State) (w : SatWindow) (want : List (BitVec 22)) : List (BitVec 22 × Nat) :=
  let fresh := fun (as' : List (BitVec 22)) => as'.filter fun a => (s.stored? w.num a).isNone
  match fresh want, want.getLast? with
  | [], _ | _, none => []
  | missing, some last =>
    let more := if w.prefetchable then
        ((List.range (63 - last.toNat % 64)).map fun k => BitVec.ofNat 22 (last.toNat + 1 + k)).filter fun a =>
          decide (a.toNat < w.sbase * 64 + w.size * 64)
      else []
    cutReads (missing ++ fresh more) []

/-- A read job begins: what the store answers is taken from it (R414). -/
def State.beginRead (s : State) (j : BridgeJob) (want : List (Option (BitVec 22))) : BridgeJob :=
  let as' := want.filterMap id
  let w := ((satWindows s.image).find? fun w => decide (w.num = j.win)).getD
    { num := j.win, confirmed := false, pass := false, lockable := false, prefetchable := false, base := 0, sbase := 0, size := 0 }
  { j with todo := s.readBursts w as', got := as'.filterMap fun a => (s.stored? j.win a).map fun x => (a, x), started := true }

/-- A read that needs the bus for no word begins without it (R412, R414). -/
def State.startStored (s : State) (j : BridgeJob) : BridgeJob :=
  match j.want with
  | .read want =>
    let b := s.beginRead j want
    if s.satRuns && !j.started && decide (j.ahead = 0) && b.todo.isEmpty then b else j
  | .atomic .. => j

/-- The first request is completed where it is done (and those behind it as far as they are). -/
def State.finishJobs (s : State) : Nat → State
  | 0 => s
  | n + 1 =>
    match s.sat.nonPosted with
    | j :: rest =>
      let j := s.startStored j
      if jobDone j then (({ s with sat := { s.sat with nonPosted := rest } }).completeJob j).finishJobs n
      else { s with sat := { s.sat with nonPosted := j :: rest } }
    | [] => s

def State.finishAll (s : State) : State := s.finishJobs s.sat.nonPosted.length

/-- The oldest held write towards the host is issued with a grant of SAT2HOST on host transmit (R250, R421): EP where a word is
poisoned. -/
def State.issueToHost (s : State) : State :=
  match s.sat.toHost with
  | [] => s
  | (addr, ws) :: rest =>
    match s.grantAt arbHostTx 4 with
    | none => s.noteAsked arbHostTx [4]
    | some t =>
      let jobs := t.sat.nonPosted.map fun j => { j with behind := j.behind - 1 }
      let t := { t with sat := { t.sat with toHost := rest, nonPosted := jobs } }
      let t := if poisonedIn ws then t.masterParity else t
      let t := t.send (.memWrite addr (ws.map fun w => dwordOf w.data) false (poisonedIn ws))
      if poisonedIn ws then t.raiseSat 13 else t

/-- Every held write that may leave leaves; host reads that waited for them complete (R424). -/
def State.flushToHost (s : State) : State :=
  if s.canSend then ((List.range s.sat.toHost.length).foldl (fun t _ => t.issueToHost) s).finishAll else s

/-! ### Host requests of BAR2 (R188, R411 to R416) -/

/-- The base of a host request of BAR2: refused where Memory Space Enable is clear or in D3hot. -/
def State.hostReaches (s : State) : Bool := s.linkUp && !s.boot.inPor && !s.boot.flr

/-- UR or CA for a host request; a posted one is discarded. -/
def State.hostRefuse (s : State) (posted ca : Bool) : State :=
  let t := s.aer (if ca then aerCa else aerUr) (!posted)
  if posted then t else t.send (.completion .host (if ca then .ca else .ur) [] false)

/-- SAT cannot take traffic at all: gated, or its clock has stopped with the crystal. -/
def State.satGone (s : State) : Bool :=
  decide ((s.island .sat).power = .gated) || s.stopped .sat || !s.bit Reg.PLN_ISL_EN Island.sat.idx

/-- Byte enables by kind: 0 skipped, 1 a whole word, 2 partial. -/
def beKind (be : BitVec 4) : Nat := if be = 0 then 0 else if be = 7 ∨ be = 15 then 1 else 2

/-- Write bursts enter the bridge, or are parked while SAT sleeps (R64). -/
def State.queueBursts (s : State) (bs : List WriteBurst) : State :=
  if s.gateClosed .sat then bs.foldl (fun t b => t.park .sat (.burst b.win b.addr b.words)) s
  else { s with sat := { s.sat with posted := s.sat.posted ++ bs } }

/-- A host write of BAR2. The link withholds its credits, and the request stays with the host, while the posted buffer has
no room for its bursts (R416). -/
def State.hostWindowWrite (s : State) (a : Bar2Access) : State :=
  if !s.hostReaches then s
  else if !s.mse || s.txn.d3hot then s.hostRefuse true false
  else
    match windowAt s.image a.offset.toNat a.dwords.length with
    | none => s.hostRefuse true false
    | some (w, j) =>
      if s.bit Reg.ARM_STS 12 then s.hostRefuse true false
      else if s.satGone then s.hostRefuse true true
      else if a.poisoned && !w.pass then s.poisonNote false
      else if !w.pass && (a.dwords.any fun d => decide (beKind d.1 = 2)) then s.hostRefuse true false
      else
        let words := ((List.range a.dwords.length).zip a.dwords).filterMap fun e =>
          if beKind e.2.1 = 1 then some (w.word (j + e.1), ({ data := word e.2.2.toNat, poi := a.poisoned } : SatWord)) else none
        let bs := cutBursts w.num words
        if 32 < s.sat.posted.length + bs.length ∧ s.gateClosed .sat = false then s
        else
          let t := if a.poisoned then s.poisonNote true else s
          (t.bumpBy Reg.SAT_PARTIAL_CNT (a.dwords.filter fun d => decide (beKind d.1 = 2)).length).queueBursts bs

/-- A job enters the bridge, behind the writes that came before it; SAT is woken for it. -/
def State.queueJob (s : State) (win : Nat) (want : HostWant) : State :=
  let parked := (s.wakeBuf.filter fun e => decide (e.1 = .sat)).length
  let j : BridgeJob := { win := win, want := want, sinceAt := s.now, ahead := s.sat.posted.length + parked,
                         behind := s.sat.toHost.length }
  let t := { s with sat := { s.sat with nonPosted := s.sat.nonPosted ++ [j] } }
  if t.gateClosed .sat then t.wake .sat else t

/-- A host read of BAR2: it is answered at once where it is alone and needs no word from the bus. -/
def State.hostWindowRead (s : State) (a : Bar2Access) : State :=
  if !s.hostReaches then s
  else if !s.mse || s.txn.d3hot then s.hostRefuse false false
  else
    match windowAt s.image a.offset.toNat a.dwords.length with
    | none => s.hostRefuse false false
    | some (w, j) =>
      if s.bit Reg.ARM_STS 12 || decide (128 < a.dwords.length) then s.hostRefuse false false
      else if s.satGone then s.hostRefuse false true
      else if !w.pass && (a.dwords.any fun d => decide (beKind d.1 = 2)) then s.hostRefuse false false
      else if 16 ≤ s.sat.nonPosted.length then s
      else
        let t := s.queueJob w.num (.read (((List.range a.dwords.length).zip a.dwords).map fun e =>
          if beKind e.2.1 = 0 then none else some (w.word (j + e.1))))
        if s.sat.nonPosted.isEmpty then t.finishAll else t

/-- A host AtomicOp (R188 case 8, R194). -/
def State.hostAtomic (s : State) (a : AtomicReq) : State :=
  if !s.hostReaches then s
  else if !s.mse || s.txn.d3hot then s.hostRefuse false false
  else
    match windowAt s.image a.offset.toNat 1 with
    | none => s.hostRefuse false false
    | some (w, j) =>
      if a.bar ≠ 2 ∨ w.lockable = false ∨ a.width ≠ 32 ∨ 2 ^ 18 ≤ a.operand.toNat ∨ (a.op = .cas ∧ 2 ^ 18 ≤ a.compare.toNat) ∨
          s.bit Reg.ARM_STS 12 then s.hostRefuse false false
      else if a.poisoned then (s.poisonNote true).hostRefuse false false
      else if s.satGone then s.hostRefuse false true
      else if 16 ≤ s.sat.nonPosted.length then s
      else s.queueJob w.num (.atomic a.op (w.word j) (word a.operand.toNat) (word a.compare.toNat))

/-! ### The bridge's bursts (R195, R405, R413 to R415) -/

/-- A write burst ends in an error (R413). -/
def State.writeFailed (s : State) (b : WriteBurst) : State :=
  let confirmed := ((satWindows s.image).find? fun w => decide (w.num = b.win)).map (·.confirmed) |>.getD false
  if confirmed then ((s.satLog 2 b.win 0 b.addr).setBit Reg.SAT_FENCE b.win true).raiseSat 5
  else ((s.bump Reg.SAT_WERR_CNT).satLog 1 b.win 0 b.addr).raiseSat 4

/-- A host request in the bridge ends with CA (R413, R195). -/
def State.jobFailed (s : State) (j : BridgeJob) (cause : Nat) (addr : BitVec 22) : State :=
  let t := { s with sat := { s.sat with nonPosted := s.sat.nonPosted.drop 1
                                        lockBy := if s.sat.lockBy = 3 then 0 else s.sat.lockBy } }
  let t := (t.satLog cause j.win 0 addr)
  let t := match j.want with
    | .read _ => t.raiseSat 6
    | .atomic .. => (t.bump Reg.HST_ATOMIC_FAIL).raiseTxn 5
  ((t.aer aerCa true).jobReply j .ca [] false).finishAll

/-- The write burst at the front is gone. -/
def State.postedGone (s : State) : State :=
  { s with sat := { s.sat with posted := s.sat.posted.drop 1
                               nonPosted := s.sat.nonPosted.map fun j => { j with ahead := j.ahead - 1 } } }

/-- The first write burst is carried with the target's answer; at a fence it is discarded and counted. -/
def State.carryWrite (s : State) (b : WriteBurst) (ans : TargetAnswer) : State :=
  if s.bit Reg.SAT_FENCE b.win then (s.postedGone.bump Reg.SAT_FENCE_DROP).finishAll
  else
    let t := (s.dropPrefetch b.win).send (.satBurst true b.addr b.words b.words.length)
    match ans with
    | .retry => t
    | .done _ => (if poisonedIn b.words then t.postedGone.raiseSat 13 else t.postedGone).finishAll
    | .err _ => (t.postedGone.writeFailed b).finishAll
    | .timeout _ => ((t.postedGone.targetTimeout 0 b.addr).writeFailed b).finishAll

/-- The new value of an AtomicOp (R194). -/
def atomicNew (op : AtomOp) (old operand compare : Word) : Word :=
  match op with
  | .fetchAdd => old + operand
  | .swap => operand
  | .cas => if old = compare then operand else old

/-- The words that the prefetch store holds: the satellite-buffer partition beyond its first 2 Ki-words (R416). -/
def storeCap (im : Option Image) : Nat := partSize im 4 - 2048

/-- Words go into the store of a window, as far as the store has room. -/
def State.storeWords (s : State) (win : Nat) (ws : List (BitVec 22 × SatWord × Nat)) : State :=
  let others := (((List.range 16).filter fun w => decide (w ≠ win)).map fun w => (s.prefetched w).words.length).sum
  s.setPrefetch win { words := (ws ++ (s.prefetched win).words).take (storeCap s.image - others) }

/-- The first job takes the words of a read burst; what a PREFETCHABLE window gave beyond the request is stored. -/
def State.takeRead (s : State) (j : BridgeJob) (addr : BitVec 22) (n : Nat) (ws : List SatWord) : State :=
  let got : List (BitVec 22 × SatWord) := (List.range n).map fun k => (BitVec.ofNat 22 (addr.toNat + k), (takeWords ws).getD k { data := 0 })
  let t := s.parityErrors (badWords ws) 0 (some addr)
  let extra : List (BitVec 22 × SatWord) := match j.want with
    | .read want => got.filter fun e => !want.contains (some e.1)
    | .atomic .. => []
  let t := if extra.isEmpty then t else t.storeWords j.win (extra.map fun e => (e.1, e.2, t.now))
  let j := { j with todo := j.todo.drop 1, got := j.got ++ got, started := true, stalled := false }
  { t with sat := { t.sat with nonPosted := j :: t.sat.nonPosted.drop 1 } }

/-- The next read burst of the first job. -/
def State.carryRead (s : State) (j : BridgeJob) (addr : BitVec 22) (n : Nat) (ans : TargetAnswer) : State :=
  let t := s.send (.satBurst false addr [] n)
  match ans with
  | .retry =>
    { t with sat := { t.sat with nonPosted := { j with started := true, stalled := true } :: t.sat.nonPosted.drop 1 } }
  | .done ws => if ws.length = n then (t.takeRead j addr n ws).finishAll else s
  | .err _ => t.jobFailed j 0 addr
  | .timeout _ => (t.targetTimeout 0 addr).jobFailed j 0 addr

/-- The AtomicOp at the front: its read, then its write, under the bus lock (R195). -/
def State.carryAtomic (s : State) (j : BridgeJob) (op : AtomOp) (addr : BitVec 22) (operand compare : Word) (ans : TargetAnswer) :
    State :=
  let s := { s with sat := { s.sat with lockBy := 3 } }
  match j.got with
  | [] => match ans with
    | .done ws => if ws.length = 1 then
        (s.send (.satBurst false addr [] 1)).takeRead { j with todo := [(addr, 1), (addr, 1)] } addr 1 ws else s
    | .retry => { s.send (.satBurst false addr [] 1) with
        sat := { s.sat with nonPosted := { j with started := true, stalled := true } :: s.sat.nonPosted.drop 1 } }
    | .err _ => (s.send (.satBurst false addr [] 1)).jobFailed j 0 addr
    | .timeout _ => ((s.send (.satBurst false addr [] 1)).targetTimeout 0 addr).jobFailed j 0 addr
  | (_, x) :: _ =>
    let t := (s.dropPrefetch j.win).send (.satBurst true addr [{ data := atomicNew op x.data operand compare }] 1)
    match ans with
    | .done _ =>
      ({ t with sat := { t.sat with lockBy := 0, nonPosted := { j with todo := [] } :: t.sat.nonPosted.drop 1 } }).finishAll
    | .retry => t
    | .err _ => t.jobFailed j 1 addr
    | .timeout _ => (t.targetTimeout 0 addr).jobFailed j 1 addr

/-- The next burst of the bridge: the first write burst, unless the first host read or AtomicOp may go and is not held up
by a RETRY (R417). Only while the device has the grant and no master holds the lock (R407, R408). -/
def State.bridgeBurstOp (s : State) (ans : TargetAnswer) : State :=
  if !s.satBusOpen || decide (s.sat.grant ≠ 3) || decide (s.sat.lockBy = 1 ∨ s.sat.lockBy = 2) then s
  else
    match s.sat.nonPosted, s.sat.posted with
    | j :: _, ps =>
      let mine := decide (j.ahead = 0) && (!j.stalled || ps.isEmpty || decide (s.sat.lockBy = 3)) &&
        !(j.started && j.todo.isEmpty && j.stalled = false && !j.got.isEmpty)
      if mine then
        match j.want with
        | .atomic op a x y => s.carryAtomic j op a x y ans
        | .read want =>
          let j := if j.started then j else s.beginRead j want
          match j.todo with
          | (a, n) :: _ => s.carryRead j a n ans
          | [] => ({ s with sat := { s.sat with nonPosted := j :: s.sat.nonPosted.drop 1 } }).finishAll
      else match ps with
        | b :: _ => s.carryWrite b ans
        | [] => s
    | [], b :: _ => s.carryWrite b ans
    | [], [] => s

/-- The first host request has waited 10 ms without its first burst (R195, R413). -/
def State.jobStartTimeout (s : State) (atomic : Bool) : State :=
  match s.sat.nonPosted with
  | [] => s
  | j :: _ =>
    let isAtomic := match j.want with | .atomic .. => true | _ => false
    let addr := match j.want with
      | .atomic _ a _ _ => a
      | .read want => (want.findSome? id).getD 0
    if j.started || decide (isAtomic ≠ atomic) || !s.passed j.sinceAt (msTicks 10) then s
    else if atomic then
      let t := { s with sat := { s.sat with nonPosted := s.sat.nonPosted.drop 1 } }
      ((((t.bump Reg.HST_ATOMIC_FAIL).raiseTxn 5).aer aerCa true).jobReply j .ca [] false).finishAll
    else s.jobFailed j 0 addr

def State.prefetchExpiryOp (s : State) (w : Nat) : State :=
  s.setPrefetch w { words := (s.prefetched w).words.filter fun e => decide (s.now < e.2.2 + usTicks 20) }

/-- A WR burst on the bus discards what is stored of its words' window (R414). -/
def State.wrObserved (s : State) (addr len : Nat) : State :=
  (satWindows s.image).foldl (fun t w =>
    if decide (addr < w.sbase * 64 + w.size * 64 ∧ w.sbase * 64 < addr + len) then t.dropPrefetch w.num else t) s

/-! ### Split answers (R418) -/

def State.splitTimeoutOp (s : State) (m : Nat) : State :=
  match s.splitOf m with
  | none => s
  | some x =>
    if x.answer.isSome && s.passed x.answerAt (msTicks 1) then
      ((s.setSplit m none).bump Reg.SAT_SPLIT_DROP).satLogNo 8 (m + 1) (some x.b.addr)
    else s

/-- What a split request of a master meets: whether the burst repeats the one pending. -/
def sameSplit (a b : SatBurst) : Bool :=
  decide (a.cmd = b.cmd ∧ a.addr = b.addr ∧ a.len = b.len) && (decide (a.cmd ≠ 5) || decide (a.words = b.words))

/-- A repeated split burst: RETRY until the answer is held, then the answer. -/
def State.collect (s : State) (m : Nat) (x : Split) : State :=
  match x.answer with
  | none => s.send (.satRetry m)
  | some (some ws) => (s.setSplit m none).send (.satData m ws)
  | some none => (s.setSplit m none).send (.satErr m)

/-- The address edge of a device-space burst of a master: a master in reset is not heard, one whose lock was broken gets
SAT_ERR_N (R409), a parity error is answered with SAT_ERR_N (R406), SAT_LOCK_N low takes a free lock (R408). -/
def State.addressEdge (s : State) (m : Nat) (b : SatBurst) : Option State × State :=
  if !s.satBusOpen || !s.masterThere m then (none, s)
  else if s.sat.deaf.getLsbD m then (none, (s.burstBegun m).send (.satErr m))
  else if !b.addrPar then (none, ((s.burstBegun m).parityErrors 1 (m + 1) (some b.addr)).send (.satErr m))
  else
    let t := s.burstBegun m
    (some (if b.lock then t.satLockTakeOp m else t), s)

/-! ### Apertures (R421, R428) -/

/-- Aperture `k`: its base, none while its EN is clear. -/
def State.aperture (s : State) (k : Nat) : Option Nat :=
  let ws := Tab.get [0, 0, 0] s.sat.apertures k
  if (wordAt ws 2).getLsbD 17 then
    some (fieldOf (wordAt ws 0) 0 16 * 2 ^ 48 + (wordAt ws 1).toNat * 2 ^ 30 + fieldOf (wordAt ws 2) 0 12 * 2 ^ 18)
  else none

/-- The host address of a device-space word, where the master may reach it. -/
def State.hostAddr (s : State) (addr : BitVec 22) : Option (BitVec 64) :=
  (s.aperture (addr.toNat / 65536 % 16)).map fun a => BitVec.ofNat 64 (a + 4 * (addr.toNat % 65536))

/-! ### Masters' resets and wires (R423, R425, R426) -/

/-- SAT has its supply. -/
def State.satPowered (s : State) : Bool := s.isOn .sat || decide ((s.island .sat).power = .doze)

def State.mrstAssert (s : State) (m : Nat) : State :=
  let off := ~~~(BitVec.ofNat 2 (2 ^ m))
  let x := s.sat
  let t := { s with sat := { x with mrst := x.mrst ||| BitVec.ofNat 2 (2 ^ m), reqPin := x.reqPin &&& off, deaf := x.deaf &&& off,
                                    lockPin := x.lockPin &&& off, grant := if x.grant = m + 1 then 0 else x.grant } }
  let t := match x.hwr with
    | some (k, addr, ws) =>
      if k = m then
        let u := { t with sat := { t.sat with hwr := none } }
        match ws, u.hostAddr addr with
        | _ :: _, some host =>
          let last := addr.toNat + ws.length - 1
          let u := { u with sat := { u.sat with
            toHost := u.sat.toHost ++ [(host, ws)]
            trunc := [word (addr.toNat / 2 ^ 18 + last / 2 ^ 18 * 16 + m * 2 ^ 17), word addr.toNat, word last] } }
          u.flushToHost.raiseSat 7
        | _, _ => u
      else t
    | none => t
  let t := (t.sinkTags fun w => match w with | .satRead k | .satAtomic k => decide (k = m) | _ => false).setSplit m none
  let t := if t.sat.lockBy = m + 1 then t.breakSatLock else t
  let t := t.breakLocks fun o => decide (o = .req (satReq m))
  if t.satPowered then t.raiseSat (8 + m) else t.raise (528 + m)

def State.mrstDeassert (s : State) (m : Nat) : State :=
  { s with sat := { s.sat with mrst := s.sat.mrst &&& ~~~(BitVec.ofNat 2 (2 ^ m)) } }

/-- An interrupt wire that PINS marks used has been low for 100 ns. -/
def State.satInt (s : State) (i : Nat) : State :=
  if s.satPins.testBit (3 + i) then
    let t := { s with sat := { s.sat with intPin := s.sat.intPin ||| BitVec.ofNat 4 (2 ^ i) } }
    if t.satPowered then t.raiseSat i else t.raise (520 + i)
  else s

def State.satReq (s : State) (m : Nat) : State :=
  if s.masterThere m then
    let t := { s with sat := { s.sat with reqPin := s.sat.reqPin ||| BitVec.ofNat 2 (2 ^ m) } }
    t.wake .sat
  else s

/-! ### The register views (R410, R428) -/

def State.satSts (s : State) : Word :=
  word (s.sat.intPin.toNat + s.sat.mrst.toNat * 16 + s.sat.lockBy * 64 + s.sat.grant * 256 + flag s.satRuns * 1024 +
    flag (s.splitOf 0).isSome * 2048 + flag (s.splitOf 1).isSome * 4096 + flag s.sat.broken * 8192)

def State.satLksts (s : State) : Word := word (flag (decide (s.sat.lockBy ≠ 0)) + flag s.sat.broken * 2)

/-- A read of SAT_LKSTS clears BROKEN where its requester is the master that holds the lock. -/
def State.lkstsRead (s : State) (req : Requester) : State :=
  if decide (s.sat.lockBy = 1 ∧ req = .sat0 ∨ s.sat.lockBy = 2 ∧ req = .sat1) then
    { s with sat := { s.sat with broken := false } }
  else s

end Sys2Proof.Machine
end

