-- ==== Sys2Proof/Machine/CadenceOps.lean ====
section
/-!
DEFINITION. The arbiters (R249 to R258), the cadence (R245 to R247) and what happens at its boundary (R36, R121, R171,
R204, R263, R358), the scrub pass over the parity bits (R36 to R39).
-/

namespace Sys2Proof.Machine

/-! ### Arbitration -/

/-- Line-critical requests are masked: the quota of the window is used up and a request of another class waits (R254). -/
def Arb.masked (x : Arb) (quota : Nat) (others : Bool) : Bool :=
  others && decide (x.window.length < 16) && decide (quota ≤ (x.window.filter id).length)

/-- Which of two eligible requests wins (R253): owed before not owed, then the older, then the lower activity. -/
def beats (owedA : Bool) (ageA a : Nat) (owedB : Bool) (ageB b : Nat) : Bool :=
  if owedA = owedB then (if ageA = ageB then decide (a < b) else decide (ageB < ageA)) else owedA

/-- A request as the arbiter judges it: activity, age up to 1,023 (R252), owed, and its place among the requests. -/
structure Cand where
  act : Nat
  age : Nat
  owed : Bool
  pos : Nat
deriving DecidableEq, Repr

def bestCand : List Cand → Option Cand
  | [] => none
  | c :: t => match bestCand t with
    | none => some c
    | some d => some (if beats d.owed d.age d.act c.owed c.age c.act then d else c)

/-- The requests that may win at arbiter `n`. -/
def State.arbCands (s : State) (n : Nat) (reqs : List (Nat × Nat)) : List Cand :=
  let row := arbRow n
  let x := s.arb n
  let others := reqs.any fun r => decide (actClass r.1 ≠ .lineCritical)
  (((List.range reqs.length).zip reqs).filter fun e =>
    actMarked row e.2.1 && decide (x.granted e.2.1 < s.maxOf row e.2.1) &&
      !(decide (actClass e.2.1 = .lineCritical) && x.masked (tampQuota s.arm.plnImage) others)).map fun e =>
    { act := e.2.1, age := min 1023 e.2.2, owed := decide (x.granted e.2.1 < s.minOf row e.2.1), pos := e.1 }

/-- Whether the transfer in progress may be revoked by a waiting line-critical request (R256, R257): on host transmit not once
its TLP has been handed to the link layer. -/
def State.revocable (s : State) (n : Nat) (cands : List Cand) (handed : Bool) : Bool :=
  let x := s.arb n
  decide (arbRow n ≤ 1) && !(decide (arbRow n = 1) && handed) && (cands.any fun c => decide (actClass c.act = .lineCritical)) &&
    (match x.parked with
    | some a => decide (actClass a = .bulk ∨ actClass a = .background) && decide (Tab.get 0 x.revoked a < 3)
    | none => false)

/-- The grant in progress is revoked: it does not count, and TMP_PREEMPT counts it (R256). -/
def State.revoke (s : State) (n : Nat) : State :=
  let x := s.arb n
  match x.parked with
  | none => s
  | some a =>
    (s.setArb n { x with grants := Tab.set 0 x.grants a (x.granted a - 1), window := x.window.dropLast
                         revoked := Tab.set 0 x.revoked a (Tab.get 0 x.revoked a + 1) }).bump (Reg.TMP_PREEMPT a)

/-- An arbiter decides among its requests (R252 to R257). While a transfer still holds it, only a line-critical request can
take the grant, by revocation. The winner's place among the requests, and the state after. -/
def State.decideGrant (s : State) (n : Nat) (reqs : List (Nat × Nat)) (busy handed : Bool) : Option Nat × State :=
  let cands := s.arbCands n reqs
  if busy then
    if s.revocable n cands handed then
      let t := s.revoke n
      match bestCand (cands.filter fun c => decide (actClass c.act = .lineCritical)) with
      | some c => (some c.pos, t.setArb n ((t.arb n).grant c.act))
      | none => (none, t)
    else (none, s)
  else
    let x := s.arb n
    let t := s.setArb n { x with revoked := match x.parked with
      | some a => Tab.set 0 x.revoked a 0
      | none => x.revoked }
    match bestCand cands with
    | some c => (some c.pos, t.setArb n ((t.arb n).grant c.act))
    | none => (none, t)

/-- The activities whose requests waited: all but the winner, and the winner too where it is older than its grant. -/
def waitedActs (reqs : List (Nat × Nat)) (won : Option Nat) : List Nat :=
  (((List.range reqs.length).zip reqs).filter fun e => decide (won ≠ some e.1) || decide (e.2.2 ≠ 0)).map fun e => e.2.1

/-- A decision, with the activities that waited noted for SHORT (R272). -/
def State.arbitrate (s : State) (n : Nat) (reqs : List (Nat × Nat)) (busy : Bool) (handed : Bool := false) : Option Nat × State :=
  let p := s.decideGrant n reqs busy handed
  (p.1, p.2.noteAsked n (waitedActs reqs p.1))

/-- The satellite-bus arbiter (R407): the masters that PINS names and that are not in reset, the device; only the lock's
holder while the lock is held (R408). -/
def State.satGrantOp (s : State) (reqs : List SatRequest) : State :=
  if !s.satBusOpen then s
  else
    let may := reqs.filter fun r =>
      (decide (r.who.val = 2) || s.masterThere r.who.val) && (decide (s.sat.lockBy = 0) || decide (s.sat.lockBy = r.who.val + 1))
    match s.arbitrate 9 (may.map fun r => (if r.test then 15 else if r.who.val = 2 then 5 else 4, r.age)) false with
    | (some k, t) => match may[k]? with
      | some r => { t with sat := { t.sat with grant := r.who.val + 1, grantAt := t.now, burstSince := false } }
      | none => t
    | (none, t) => t

/-- The arbiters of a row: the eight banks for row 0, else one (R250). -/
def rowArbs (row : Nat) : List Nat := if row = 0 then List.range 8 else [row + 7]

/-- The activities that waited at an arbiter of a row and had fewer grants there than their minimum: the cadence counts once
for each in SHORT, which the row's first arbiter keeps (R272). -/
def State.countShorts (s : State) (row : Nat) : State :=
  let short := (List.range 16).filter fun a => (rowArbs row).any fun n =>
    (s.arb n).asked.contains a && decide ((s.arb n).granted a < s.minOf row a)
  let n := (rowArbs row).headD 0
  let x := s.arb n
  s.setArb n { x with shorts := short.foldl (fun t a => Tab.set 0 t a (Tab.get 0 t a + 1)) x.shorts }

/-- At the boundary an arbiter starts its new counts (R247). -/
def State.newCounts (s : State) (n : Nat) : State :=
  let x := s.arb n
  s.setArb n { x with grants := [], lastGrants := x.grants, asked := [] }

/-! ### The cadence -/

/-- The master virtual encoder delivers a position (R246). -/
def State.masterMoves (s : State) : Bool :=
  let v := tampMaster s.arm.plnImage
  decide ((sprueOf s.image v).kind ≠ 0) && s.isOn .mot && !s.veNoSrc v

def State.masterPos (s : State) : Int := s.vePos (tampMaster s.arm.plnImage) s.nowSt

/-- Whether the cadence ends now, and on which clamp: none, 1 the minimum, 2 the maximum (R245). -/
def State.cadenceEnds (s : State) : Option Nat :=
  let im := s.arm.plnImage
  let us := (s.now - s.nrg.cadStartAt) / usTicks 1
  if !s.clk.timebase then none
  else if tampSlaved im then
    let moved := s.masterMoves && decide (64 * tampUnits im ≤ (s.masterPos - s.nrg.cadStartPos).natAbs)
    if us < tampMinClamp im then none
    else if moved then some (if us = tampMinClamp im then 1 else 0)
    else if tampMaxClamp im ≤ us then some 2 else none
  else if tampPeriod im ≤ us then some 0 else none

/-- The registers over which a scrub pass goes in one island, in slot order (R36): those that carry parity. -/
def rowRegs (base : Nat) (r : RegRow) : List Nat :=
  if r.writable = 0 then []
  else ((List.range r.n).filter fun k => decide (r.only = 0) || r.only.testBit k).map fun k => base + r.base + 4 * k

def parityRegs (i : Island) : List Nat :=
  i.blocks.flatMap fun blk =>
    if blk = 15 then
      ((List.range 4).flatMap fun c => fldCtrlRows.flatMap (rowRegs (0x0F0000 + 0x100 * c))) ++ fldSharedRows.flatMap (rowRegs 0x0F0000)
    else match blockRows blk 0 with
      | some (rows, _) => rows.flatMap (rowRegs (blk * 65536))
      | none => []

/-- The next register of a pass at or after a place: its island, its place there, its offset. -/
def State.scrubFrom (s : State) (isl k : Nat) : Option (Island × Nat × Nat) :=
  (Island.all.filter fun i => decide (isl ≤ i.idx) && s.isOn i).findSome? fun i =>
    let at_ := if i.idx = isl then k else 0
    ((parityRegs i)[at_]?).map fun r => (i, at_, r)

/-- The hidden parity bit of a register disagrees with its present value (R36, R37): a word of the buffer window carries the
parity of the word that it shows. -/
def State.parityBad (s : State) (k : Nat) : Bool :=
  match within? k (Reg.FB_TXB_W 0) 36 with
  | some w =>
    parityBit (rowOf k) (s.txb s.txbAt.1 s.txbAt.2 w) != Tab.get false s.fb.txbPar (txbIndex s.txbAt.1 s.txbAt.2 w)
  | none => parityBit (rowOf k) (s.rd k) != s.parityOf k

/-- A parity mismatch is logged, counted and raised (R37), and its island acts by POLICY (R38). -/
def State.parityMismatch (s : State) (i : Island) (reg : Nat) : State :=
  let t :=
    if s.bit Reg.PLN_PAR_STS 0 then s.setBit Reg.PLN_PAR_STS 1 true
    else ((s.setBit Reg.PLN_PAR_STS 0 true).wr Reg.PLN_PAR_BLK (word (reg / 65536 + i.idx * 256))).wr Reg.PLN_PAR_SLOT
      (word (reg % 65536 / 4))
  let t := (t.bump Reg.PLN_PAR_CNT).raise 552
  if i ≠ .pln ∧ policyParity t.arm.plnImage i then
    let t := t.setBit Reg.PLN_PAR_HOLD i.idx true
    match i.quad? with
    | some q => t.quadFaultOp q 2
    | none => t
  else t

/-- One register is checked (R36). -/
def State.scrubCheck (s : State) : State :=
  match s.scrub with
  | none => s
  | some (isl, k) =>
    match s.scrubFrom isl k with
    | none => { s with scrub := none, scrubPasses := s.scrubPasses + 1 }
    | some (i, at_, reg) =>
      let t := { s with scrub := some (i.idx, at_ + 1) }
      let t := if t.parityBad reg then t.parityMismatch i reg else t
      match t.scrub with
      | some (isl, k) => if (t.scrubFrom isl k).isNone then { t with scrub := none, scrubPasses := t.scrubPasses + 1 } else t
      | none => t

/-- The boundary (R247): the register-bus accesses that waited for it are served by the caller. -/
def State.boundary (s : State) (clamp : Nat) : State :=
  let us := (s.now - s.nrg.cadStartAt) / usTicks 1
  let t := (s.forAll (List.range 5) State.countShorts).forAll (List.range 12) State.newCounts
  let t := if t.arm.run.isNone && decide (t.arm.plnImage ≠ t.arm.committed) then t.applyPlinth t.arm.committed else t
  let t := match t.nrg.nextScale with
    | some (n, d) => { t with nrg := { t.nrg with scaleNum := n, scaleDen := d, nextScale := none } }
    | none => t
  let t := (((t.setBit Reg.TMP_CAD_STS 1 (decide (clamp = 1))).setBit Reg.TMP_CAD_STS 2 (decide (clamp = 2))).setBit Reg.TMP_CAD_STS 0
    (tampSlaved t.arm.plnImage))
  let t := (t.wr Reg.TMP_CAD_LEN (word (min 2047 us))).wr Reg.TMP_CAD_CNT (t.rd Reg.TMP_CAD_CNT + 1)
  let t := t.wr Reg.NRG_POWER (word (s.cadPower us))
  let t := { t with nrg := { t.nrg with admitted := 0 } }
  let t := t.shedCounts.planPass
  let t := { t with nrg := { t.nrg with cadStartAt := t.now, cadStartPos := t.masterPos, cadHp := 0, recLast := t.nrg.recCad,
                                        recCad := [], cadTicks := s.now - s.nrg.cadStartAt,
                                        step7Whole := decide (t.fld Reg.NRG_STS 0 3 = 7) } }
  let t := t.holdQuiesce.adoptRun
  let t := { t.refreshVsec with scrub := some (t.scrub.getD (0, 0)) }
  t.startReady

end Sys2Proof.Machine
end

