-- ==== Sys2Proof/Machine/ClockOps.lean ====
section
/-!
DEFINITION. The clocks: judging the crystal (R70 to R74), the Plinth's source (R75), the crystal's failure (R76), the
frequency-measuring counter (R78, R79), and the steps of the operating-point sequencer (R82, R83).
-/

namespace Sys2Proof.Machine

/-! ### Judging -/

/-- CLK_STS as read: JUDGING shows a running judging (R85). -/
def State.clkSts (s : State) : Word := withField (s.rd Reg.CLK_STS) 3 1 (flag s.clk.judgeAt.isSome)

/-- The Plinth runs directly from IRC until XTAL is judged or IRC mode is entered, and whenever PLN_SRC is one (R72, R73, R75). -/
def State.showSource (s : State) : State :=
  s.setBit Reg.CLK_STS 4 (s.bit Reg.CLK_CTL 0 || !(s.bit Reg.CLK_STS 0 || s.bit Reg.CLK_STS 1))

/-- A series of gates starts now (R70, R71): the REFCLK gate starts with it where REFCLK edges are seen. -/
def State.newSeries (s : State) : State :=
  let t := { s with clk := { s.clk with gateCounts := true, refInSeries := s.boot.refclk } }
  t.wr Reg.CLK_JUDGE (word (if s.boot.refclk then 48 else 0))

/-- XTAL is judged stable when both tests have passed, or the first alone where REFCLK was not seen (R72, R74). -/
def State.judgeDone (s : State) : State :=
  if s.fld Reg.CLK_JUDGE 0 4 = 8 ∧ (s.clk.refInSeries = false ∨ s.fld Reg.CLK_JUDGE 4 2 = 1) then
    let t := (s.setBit Reg.CLK_STS 0 true).setBit Reg.CLK_STS 1 false
    let t := if s.clk.rejudging then t.setBit Reg.CLK_EVT 1 true else t
    { t with clk := { t.clk with pllXtal := true, timebase := true, judgeAt := none, rejudging := false } }.showSource
  else s

/-- An IRC gate ends with its count (R70): eight in a row pass the test; a failed one restarts the series; one that a
failure of the REFCLK test cut into is not counted, and the new series starts at its end (R71). -/
def State.ircGate (s : State) (count : Nat) : State :=
  if s.clk.judgeAt.isNone || s.stopped .pln then s
  else if !s.clk.gateCounts then s.newSeries
  else if s.fld Reg.CLK_JUDGE 0 4 = 8 then s
  else if 24625 ≤ count ∧ count ≤ 25375 then (s.setFld Reg.CLK_JUDGE 0 4 (s.fld Reg.CLK_JUDGE 0 4 + 1)).judgeDone
  else s.newSeries

/-- A REFCLK gate of judging runs. -/
def State.refGateRuns (s : State) : Bool := s.clk.judgeAt.isSome && decide (s.fld Reg.CLK_JUDGE 4 2 = 3)

/-- The REFCLK test fails: both tests restart (R71). -/
def State.refFailed (s : State) : State :=
  { s with clk := { s.clk with gateCounts := false } }.wr Reg.CLK_JUDGE 32

/-- The REFCLK gate ends with its count (R71). -/
def State.refGate (s : State) (count : Nat) : State :=
  if s.refGateRuns then
    let t := { s with clk := { s.clk with lastRefCount := BitVec.ofNat 36 count } }
    if 249925 ≤ count ∧ count ≤ 250700 then (t.setFld Reg.CLK_JUDGE 4 2 1).judgeDone else t.refFailed
  else s

/-- No REFCLK edge for 1 ms during its gate (R71). -/
def State.refStall (s : State) : State := if s.refGateRuns then s.refFailed else s

/-- The judging has lasted 50 ms (R73, R74): IRC mode, and CLK_XTALBAD. -/
def State.judgeOver (s : State) : State :=
  match s.clk.judgeAt with
  | none => s
  | some t0 =>
    if s.passed t0 (msTicks 50) then
      let t := { s with clk := { s.clk with judgeAt := none, rejudging := false } }
      ((t.setBit Reg.CLK_STS 1 true).showSource).raiseBit Reg.CLK_EVT 0 560
    else s

/-- REJUDGE (R74): ignored outside IRC mode and unless FLD, SAT, QUE and MEM are GATED. -/
def State.rejudgeOp (s : State) : State :=
  if s.bit Reg.CLK_STS 1 && [Island.fld, .sat, .que, .mem].all fun i => decide ((s.island i).power = .gated) then
    { s with clk := { s.clk with judgeAt := some s.now, rejudging := true } }.newSeries
  else s

/-- CLK_CTL has been written (R74, R75). -/
def State.clkCtlHook (s : State) (written : Word) : State :=
  let t := s.showSource
  if written.getLsbD 1 then t.rejudgeOp else t

/-- The crystal stops: the PLLs locked to it stop, and TIMEBASE with them (R76). -/
def State.xtalStops (s : State) : State :=
  { s with clk := { s.clk with xtalRuns := false, timebase := s.clk.timebase && !s.clk.pllXtal } }

/-! ### The frequency-measuring counter -/

/-- The island whose clock a code names (R78); the others are clocks of no island. -/
def fmcIsland (code : Nat) : Option Island :=
  match code with
  | 5 | 6 => some .hst
  | 7 => some .que | 8 => some .mem | 9 => some .fld | 10 => some .sat
  | 11 | 12 => some .rng
  | _ => none

/-- The main and the ring PLL run: with the crystal that they are locked to, or on IRC (R69, R76). -/
def State.pllRuns (s : State) : Bool := s.clk.xtalRuns || !s.clk.pllXtal

/-- A clock gives edges (R78, R79): not that of a DOZE, OFF or GATED island, nor one whose source is gone. Codes 13 to 15 name
no clock (DESIGN CHOICE, log entry 114: they give no edges). -/
def State.clockRuns (s : State) (code : Nat) : Bool :=
  match code with
  | 0 => true
  | 1 => s.clk.xtalRuns
  | 2 => s.boot.refclk
  | 3 => !s.stopped .pln
  | 4 => s.pllRuns
  | 5 | 6 => s.isOn .hst && s.boot.refclk
  | 12 => s.isOn .rng && s.pllRuns && s.ring.east.up
  | _ => match fmcIsland code with
    | some i => s.isOn i && s.pllRuns
    | none => false

/-- The nominal frequency of a clock in units of 1/384 MHz, which makes each of them whole (03_islands_and_clocks.md, the table
of clocks, R80). -/
def State.clockRate (s : State) (code : Nat) : Nat :=
  let mhz := fun (i : Island) => match (s.island i).op with | 0 => 200 | 1 => 400 | _ => 500
  match code with
  | 0 => 384 * 48
  | 1 => 384 * 25
  | 2 => 384 * 100
  | 3 => if s.bit Reg.CLK_STS 4 then 384 * 48 else 384 * 100
  | 4 => 384 * 400
  | 5 => 384 * 250
  | 6 => 384 * mhz .hst
  | 7 => 384 * mhz .que
  | 8 => 384 * mhz .mem
  | 9 => 384 * 80
  | 10 => 384 * satMHz (s.island .sat).op
  | _ => 123750

/-- The length K of the gate that CLK_FMC_CTL sets (R78): 4 to 24. -/
def State.fmcK (s : State) : Nat := max 4 (min 24 (s.fld Reg.CLK_FMC_CTL 8 5))

/-- 2^K cycles of the reference have passed since the gate began; the reference may run 1 % faster than its nominal rate
(log entry 114). -/
def State.fmcGateOver (s : State) : Bool :=
  decide (2 ^ s.fmcK * 400 * 384 * 100 ≤ (s.now - s.clk.fmcAt) * s.clockRate (s.fld Reg.CLK_FMC_CTL 4 4) * 101)

/-- START begins a gate (R78); the caller has checked that none runs (R79). -/
def State.fmcBegin (s : State) : State :=
  { (s.setBit Reg.CLK_FMC_CTL 14 true).setBit Reg.CLK_FMC_CTL 15 false with
    clk := { s.clk with fmcAt := s.now, fmcEdgeAt := s.now } }

/-- The reference of the running gate gives edges on this tick (R79). -/
def State.fmcTick (s : State) : State :=
  if s.bit Reg.CLK_FMC_CTL 14 && s.clockRuns (s.fld Reg.CLK_FMC_CTL 4 4) then { s with clk := { s.clk with fmcEdgeAt := s.now } }
  else s

/-- The gate of 2^K reference cycles ends with a count (R78): 0 for a clock that gives no edges. A reference that gives none
ends no gate. -/
def State.fmcEnd (s : State) (count : Word36) : State :=
  if s.bit Reg.CLK_FMC_CTL 14 && !s.stopped .pln && s.clockRuns (s.fld Reg.CLK_FMC_CTL 4 4) && s.fmcGateOver then
    { s.setBit Reg.CLK_FMC_CTL 14 false with
      clk := { s.clk with fmcCount := if s.clockRuns (s.fld Reg.CLK_FMC_CTL 0 4) then count else 0 } }
  else s

/-- The reference has given no edge for 1 s (R79). -/
def State.fmcOver (s : State) : State :=
  if s.bit Reg.CLK_FMC_CTL 14 && !s.stopped .pln && !s.clockRuns (s.fld Reg.CLK_FMC_CTL 4 4) &&
      s.passed s.clk.fmcEdgeAt (msTicks 1000) then
    { (s.setBit Reg.CLK_FMC_CTL 14 false).setBit Reg.CLK_FMC_CTL 15 true with clk := { s.clk with fmcCount := 0 } }
  else s

/-! ### The sequencer -/

/-- The 20 µs settle of a raising step ends (R82). -/
def State.seqSettled (s : State) (i : Island) : State :=
  match (s.island i).seq with
  | some x =>
    if x.raising && !x.settled && s.passed x.startAt (usTicks 20) then
      s.modIsland i fun y => { y with seq := some { x with settled := true } }
    else s
  | none => s

/-- A step completes: the island is at its new point and its channels run again; a further step follows where the point in
force asks for one (R82). -/
def State.seqDone (s : State) (i : Island) : State :=
  match (s.island i).seq with
  | some x =>
    if decide (x.startAt ≤ s.now) && (x.settled || !x.raising) then
      (s.modIsland i fun y => { y with op := x.target, seq := none, seqEndAt := some s.now }).kickSeq i
    else s
  | none => s

/-- What an island that drains still waits for (R63): entries inside its gate, and the requests that it issued. -/
def State.drainedOut (s : State) (i : Island) : Bool :=
  (ChannelId.all.all fun c => decide (c.receiver ≠ i) || ((s.hs c).inFlight.isEmpty && (s.hs c).readable.isEmpty)) &&
  (match i with
  | .hst => s.txn.tags.isEmpty
  | .que => s.txn.tags.all fun x => match x.who with | .cmdQueue .. => false | _ => true
  | .fld => s.txn.tags.all fun x => match x.who with | .canQueue .. => false | _ => true
  | .sat => (s.txn.tags.all fun x => match x.who with | .satRead _ | .satAtomic _ => false | _ => true) &&
      s.sat.posted.isEmpty && s.sat.nonPosted.all fun j => !j.started
  | _ => true)

/-- The island's in-flight work has completed (R63): it enters the state it drained towards, once a running step has ended
(R83). -/
def State.drainDone (s : State) (i : Island) : State :=
  let x := s.island i
  match x.drain with
  | some target => if s.stepping i then s else s.enterPower i target
  | none => s

end Sys2Proof.Machine
end

