-- ==== Sys2Proof/Machine/ChanOps.lean ====
section
/-!
DEFINITION. The channel operations (R209 to R216): CREATE with its judgement, QUIESCE, RESUME, DESTROY and the codes without
an operation; the end of a quiesce (R213).
-/

namespace Sys2Proof.Machine

/-- Staging word P`k`. -/
def State.chnP (s : State) (k : Nat) : Word := s.rd (Reg.CHN_P k)

/-- The ports that P2 and P3 name (R210). -/
def State.createPorts (s : State) : BitVec 32 := BitVec.ofNat 32 (fieldOf (s.chnP 2) 0 16 + fieldOf (s.chnP 3) 0 16 * 65536)

def State.createVe (s : State) : Nat := fieldOf (s.chnP 1) 0 5
def State.createEvq (s : State) : Option Nat := if (s.chnP 6).getLsbD 11 then some (fieldOf (s.chnP 6) 0 11) else none

/-- A port that a channel may bind (R211): in the template, a HEAD pin, in a quad that is ON, bound to no live channel. -/
def State.portFree (s : State) (t : Template) (p : Nat) : Bool :=
  t.ports.getLsbD p && decide (s.hpFn p = 1) && s.isOn (Island.ofQuad (qOf p)) && (s.binder p).isNone

/-- The PARAM step of R211 and R306. -/
def State.createParamOk (s : State) (t : Template) : Bool :=
  let ports := s.createPorts
  let v := s.createVe
  let rq := s.queue (fieldOf (s.chnP 4) 0 11)
  let cq := fieldOf (s.chnP 5) 0 11
  decide (ports ≠ 0) && ((List.range 32).all fun p => !ports.getLsbD p || s.portFree t p) &&
  t.ves.getLsbD v && decide ((sprueOf s.image v).kind ≠ 0) &&
  decide (rq.state = .enabled ∧ rq.typ = 1 ∧ 2 ^ t.qmin ≤ rq.depth) &&
  decide ((s.queue cq).state = .enabled ∧ (s.queue cq).typ = 3) && !(s.que.chans.any fun e => e.2.inUse && decide (e.2.cmdq = cq)) &&
  (match s.createEvq with
    | none => true
    | some q => t.evq && decide ((s.queue q).state = .enabled ∧ (s.queue q).typ = 2)) &&
  decide (t.pitchMin ≤ (s.chnP 7).toNat ∧ (s.chnP 8).toNat ≤ t.expMax) &&
  decide (fieldOf (s.chnP 13) 1 17 = 0) && (decide (s.chnP 14 = 0) || t.standstill)

/-- The lowest FREE slot (R211). -/
def State.freeSlot (s : State) : Option Nat := (List.range 128).find? fun k => !(s.chn k).inUse

/-- R16: MOT's source is a group encoder and RNG is GATED. -/
def State.groupFeedGone (s : State) (v : Nat) : Bool :=
  decide ((sprueOf s.image v).kind = 2) && decide ((s.island .rng).power = .gated)

/-- The planner refuses the channel (R267). -/
def State.overBudget (s : State) (ports : Nat) : Bool :=
  decide (s.fld Reg.NRG_STS 0 3 = 7) ||
    decide (s.ceiling.1 * 1000000 < s.forecast * 1000000 + costOf s.arm.plnImage 0 * ports * (s.rd Reg.NRG_FIRE_EST).toNat)

/-- The status of a CREATE (R211): 0 with the slot it takes. -/
def State.createStatus (s : State) : Nat × Option Nat :=
  match template? s.image (fieldOf (s.chnP 0) 0 6) with
  | none => (2, none)
  | some t =>
    if !s.createParamOk t then (5, none)
    else match s.freeSlot with
      | none => (1, none)
      | some k =>
        if s.groupFeedGone s.createVe || s.overBudget ((List.range 32).filter fun p => s.createPorts.getLsbD p).length then (3, none)
        else (0, some k)

/-- The result is captured as item 0 of CHN_RES and QUE_OPDONE raised (R209). -/
def State.opResult (s : State) (code status : Nat) (handle : Word) : State :=
  { s with que := { s.que with op := none, opRes := [word (status + code * 8), handle] } }.raiseQue 14

/-- The channel that CREATE makes: the targets at or behind the present position were never crossed (R303). -/
def State.newChan (s : State) (k : Nat) : Chan :=
  let pos := (s.ve s.createVe).est.posAt s.nowSt
  { state := .live, gen := (s.chn k).gen, tmpl := fieldOf (s.chnP 0) 0 6, ve := s.createVe, dirDown := (s.chnP 1).getLsbD 5
    ports := s.createPorts, recq := fieldOf (s.chnP 4) 0 11, cmdq := fieldOf (s.chnP 5) 0 11, evq := s.createEvq
    pitch := (s.chnP 7).toNat, expo := (s.chnP 8).toNat, x0 := (join54 (s.chnP 9) (s.chnP 10) (s.chnP 11)).toInt
    bornAt := (if (s.chnP 1).getLsbD 5 then -pos else pos).floor
    blur := (s.chnP 12).toNat, strobe := (s.chnP 13).getLsbD 0, standstill := (s.chnP 14).toNat, tol := (s.chnP 15).toNat, liveAt := s.now }

def State.createOp (s : State) : State :=
  match s.createStatus with
  | (0, some k) =>
    let t := s.setChn k (s.newChan k)
    (t.sendEstimate s.createVe).opResult 1 0 (t.handleOf k)
  | (st, _) =>
    let planner := decide (st = 3) && !s.groupFeedGone s.createVe
    (if planner then s.bump Reg.NRG_REFUSED else s).opResult 1 st 0

/-- An operation on a handle: STALE where it names no channel (R208). -/
def State.onHandle (s : State) (code : Nat) (f : Nat → State) : State :=
  let h := s.rd Reg.CHN_HANDLE
  match s.slotOf h with
  | none => s.opResult code 4 0
  | some k => f k

def State.quiesceOp (s : State) : State :=
  s.onHandle 2 fun k => (s.quiesceChan k false).opResult 2 0 (s.rd Reg.CHN_HANDLE)

def State.resumeOp (s : State) : State :=
  s.onHandle 3 fun k =>
    if (s.chn k).state = .quiesced then (s.resumeChan k).opResult 3 0 (s.rd Reg.CHN_HANDLE) else s.opResult 3 5 0

/-- A channel is destroyed (R215, R216). -/
def State.destroyChan (s : State) (k : Nat) : State :=
  let ports := (s.chn k).portList
  (((s.endChan k true).idlePorts ports).raiseQue 13)

def State.destroyOp (s : State) : State :=
  s.onHandle 4 fun k => (s.destroyChan k).opResult 4 0 (s.rd Reg.CHN_HANDLE)

/-- CHN_OP has been written: discarded as an overrun while BUSY (R209). During an FLR a CREATE waits for its end
(DESIGN CHOICE, log entry 49). -/
def State.chnOp (s : State) (code : Nat) : State :=
  if s.que.op.isSome then s.setBit Reg.CHN_OPSTS 1 true
  else match code with
    | 1 =>
      if s.boot.flr then
        { s with que := { s.que with op := some { code := 1, handle := s.rd Reg.CHN_HANDLE, params := (List.range 16).map s.chnP } } }
      else s.createOp
    | 2 => s.quiesceOp
    | 3 => s.resumeOp
    | 4 => s.destroyOp
    | c => s.opResult c 5 0

/-- The FLR has ended: a CREATE that waited runs with the parameters it was given. -/
def State.createAfterFlr (s : State) : State :=
  match s.que.op with
  | none => s
  | some o =>
    let held := (List.range 16).map s.chnP
    let put := fun (t : State) (ws : List Word) => t.forAll (List.range 16) fun t k => t.wr (Reg.CHN_P k) (wordAt ws k)
    put ({ put s o.params with que := { s.que with op := none } }.createOp) held

/-- The last record of a QUIESCING channel has been written or lost (R213): QUIESCED, with a CHANSTATE entry (R226) as its
last entry. -/
def State.quiesced (s : State) (k : Nat) : State :=
  if (s.chn k).state = .quiescing && decide (s.unwritten k = 0) && !s.firesPending k then
    let t := s.setChn k { s.chn k with state := .quiesced }
    let q := (t.chn k).recq
    let u := t.stageRecord k 4 ([t.handleOf k, 3] ++ words54 t.devTime) none (some 12)
    if (u.queue q).staged.length = (t.queue q).staged.length then u.raiseQue 12 else u
  else s

end Sys2Proof.Machine
end

