-- ==== Sys2Proof/Machine/Mailbox.lean ====
section
/-!
DEFINITION. The mailboxes (R40 to R43): their items with their widths, what a capture takes, what an apply does, the _SEL
write and the reads of _STS and the words.
-/

namespace Sys2Proof.Machine

/-- Word `k` of an item's list of words (0 beyond). -/
def oneWord (n : Nat) : List Word := [word n]

/-! ### Items: width in words, and whether it is writable now -/

/-- An item within `base … base + n − 1`. -/
def inItems (item base n : Nat) : Bool := decide (base ≤ item ∧ item < base + n)

/-- MOT_MB (R300): POSITION is writable while no channel binds the virtual encoder (R297). -/
def State.motItem (s : State) (i : Nat) : Option (Nat × Bool) :=
  if inItems i 0x000 8 then some (2, false)
  else if inItems i 0x010 8 || inItems i 0x020 16 || inItems i 0x040 16 then some (3, false)
  else if inItems i 0x060 4 then some (2, true)
  else if inItems i 0x100 32 then some (3, !s.veBound (i - 0x100))
  else if inItems i 0x120 32 || inItems i 0x140 32 then some (3, false)
  else if inItems i 0x160 32 then some (1, false)
  else if inItems i 0x180 32 || inItems i 0x1A0 32 then some (3, false)
  else if inItems i 0x1C0 32 then some (2, false)
  else if inItems i 0x1E0 32 then some (3, false)
  else if inItems i 0x200 32 then some (3, true)
  else none

/-- The width and writability of an item; none where it does not exist (R33 cause 8). -/
def State.mbItem (s : State) (m : MailboxId) (i : Nat) : Option (Nat × Bool) :=
  match m with
  | .plnId => match i with | 0 => some (3, false) | 1 => some (2, false) | _ => none
  | .clkFmc => if i < 2 then some (2, false) else none
  | .armInfo => if i < 2 then some (2, false) else if i < 5 then some (1, false) else none
  | .armFuse => if i = 0 || inItems i 16 16 then some (1, false) else if i = 1 then some (3, false) else none
  | .hstEye => if i < 4 then some (1, false) else if i < 8 then some (3, false) else none
  | .hstPrbs => if i < 4 then some (2, false) else if i < 8 then some (3, false) else none
  | .chnRes => if i = 0 || inItems i 0x100 128 then some (2, false) else none
  | .queMb =>
    if 2048 * 8 ≤ i then none
    else
      let w := decide ((s.queue (i / 8)).state = .disabled)
      match i % 8 with | 0 => some (3, w) | 1 => some (1, w) | 2 => some (2, false) | 3 => some (2, false) | _ => none
  | .tmpMb =>
    if inItems i 0 80 || inItems i 0x80 80 then some (1, false)
    else if inItems i 0x100 80 || inItems i 0x180 80 then some (2, false) else none
  | .nrgMb => if i < 12 || inItems i 16 40 || i = 64 then some (2, false) else if i = 65 then some (1, false) else none
  | .motMb => s.motItem i
  | .tqMb q =>
    if i < 8 then some (2, (s.binder (8 * q.val + i)).isNone)
    else if i < 0x18 then some (3, false) else if i < 0x20 then some (1, false) else none
  | .rngMb =>
    if i < 2 then some (3, false) else if i < 4 then some (2, false) else if i = 4 then some (1, false)
    else if i = 5 then some (2, false) else if inItems i 0x10 16 then some (3, false)
    else if inItems i 0x20 16 then some (1, false) else none
  | .satMb => if i = 0 then some (2, false) else if i = 1 then some (3, false) else if inItems i 0x10 16 then some (3, true) else none

/-! ### What a capture takes -/

def State.captureMot (s : State) (i : Nat) : List Word :=
  let now := s.nowSt
  if inItems i 0x000 8 then words36 (s.enc i).count
  else if inItems i 0x010 8 then words54 (s.enc (i - 0x010)).lastT
  else if inItems i 0x020 16 then words54 (s.lev (i - 0x020)).capT
  else if inItems i 0x040 16 then words54 (s.lev (i - 0x040)).capP
  else if inItems i 0x060 4 then words36 (s.se (i - 0x060)).interval
  else if inItems i 0x100 32 then words54 (toWord54 (s.vePos (i - 0x100) now))
  else if inItems i 0x120 32 then words54 (speedItem ((s.ve (i - 0x120)).est.rawAt now).2)
  else if inItems i 0x140 32 then words54 (accelItem (s.ve (i - 0x140)).est.a)
  else if inItems i 0x160 32 then oneWord ((s.veEst (i - 0x160)).uAt (s.rd (Reg.VE_AMAX (i - 0x160))).toNat now)
  else if inItems i 0x180 32 then words54 (s.ve (i - 0x180)).refP
  else if inItems i 0x1A0 32 then words54 (s.ve (i - 0x1A0)).refT
  else if inItems i 0x1C0 32 then words36 (s.ve (i - 0x1C0)).reversals
  else if inItems i 0x1E0 32 then words54 (s.ve (i - 0x1E0)).capT
  else words54 (s.ve (i - 0x200)).preset

/-- GRANTS of the last cadence, summed over the banks for arbiter 0; of SHORT only the first bank keeps a count (R272). -/
def State.arbSum (s : State) (row : Nat) (f : Arb → Nat) : Nat :=
  if row = 0 then ((List.range 8).map fun b => f (s.arb b)).sum else f (s.arb (row + 7))

def State.captureTmp (s : State) (i : Nat) : List Word :=
  let row := i % 0x80 / 16
  let a := i % 16
  match i / 0x80 with
  | 0 => oneWord (s.minOf row a)
  | 1 => oneWord (s.maxOf row a)
  | 2 => words36 (BitVec.ofNat 36 (s.arbSum row fun x => Tab.get 0 x.lastGrants a))
  | _ => words36 (BitVec.ofNat 36 (s.arbSum row fun x => (Tab.get 0 x.shorts a).toNat))

def State.captureTq (s : State) (q i : Nat) : List Word :=
  let p := 8 * q + i % 8
  match i / 8 with
  | 0 => words36 (s.port p).offset
  | 1 => words54 (toWord54 ((s.port p).hwm.getD 0))
  | 2 => words54 (s.port p).lastFireT
  | _ => [(s.port p).seq]

def State.captureRng (s : State) (i : Nat) : List Word :=
  if i = 0 then time54 (s.groupNow / 64)
  else if i = 1 then time54 (s.offsetAt s.nowSt)
  else if i = 2 then words36 (toWord36 s.ring.east.delayEast)
  else if i = 3 then words36 s.ring.keeperDigest
  else if i = 4 then [s.ring.keeperEpoch]
  else if i = 5 then words36 s.ring.rtt
  else if i < 0x20 then words54 (s.node (i - 0x10)).silicon
  else [(s.node (i - 0x20)).w4]

/-- The words of an item at this instant, most significant first. The items of ARM_INFO on an image that is not there read zeros: 0, 2
and 4 with none committed, 1 and 3 with none verified (DESIGN CHOICE, log entry 122). -/
def State.mbCapture (s : State) (m : MailboxId) (i : Nat) : List Word :=
  match m with
  | .plnId => if i = 0 then words54 s.fuses.silicon else words36 s.scrubPasses
  | .clkFmc => if i = 0 then words36 s.clk.fmcCount else words36 s.clk.lastRefCount
  | .armInfo =>
    match i with
    | 0 => words36 ((s.arm.committed.map (·.digest)).getD 0)
    | 1 => words36 ((s.arm.staged.map (·.digest)).getD 0)
    | 2 => [(s.arm.committed.map Image.epoch).getD 0]
    | 3 => [(s.arm.staged.map Image.epoch).getD 0]
    | _ => oneWord ((s.arm.committed.map fun im => im.words.length).getD 0)
  | .armFuse =>
    if i = 0 then oneWord s.fuses.secmode.toNat
    else if i = 1 then s.fuses.prov
    else oneWord (Tab.get 0 s.fuses.keyhash (i - 16)).toNat
  | .hstEye => if i < 4 then [(Tab.get {} s.link.eyes i).word] else words54 (Tab.get {} s.link.eyes (i - 4)).endT
  | .hstPrbs => if i < 4 then words36 (Tab.get 0 s.link.prbsMis i) else words54 (Tab.get 0 s.link.prbsCmp (i - 4))
  | .chnRes => if i = 0 then s.que.opRes else words36 (s.chn (i - 0x100)).lost
  | .queMb =>
    let q := s.queue (i / 8)
    match i % 8 with
    | 0 => [word (q.base.toNat / 2 ^ 36 % 2 ^ 16), word (q.base.toNat / 2 ^ 18), word q.base.toNat]
    | 1 => [q.cfg]
    | 2 => [word q.prod.toNat, word q.cons.toNat]
    | _ => words36 q.drops
  | .tmpMb => s.captureTmp i
  | .nrgMb => if i = 65 then oneWord s.loadsNow else words36 (Tab.get 0 s.nrg.acc i)
  | .motMb => s.captureMot i
  | .tqMb q => s.captureTq q.val i
  | .rngMb => s.captureRng i
  | .satMb =>
    match i with
    | 0 => s.sat.lastErr
    | 1 => s.sat.trunc
    | _ => Tab.get [0, 0, 0] s.sat.apertures (i - 0x10)

/-- What a capture does beside: POSITION latches its time (R300); the counts of the PRBS checkers are brought up to date. -/
def State.beforeCapture (s : State) (m : MailboxId) (i : Nat) : State :=
  match m with
  | .hstPrbs => s.prbsSettle
  | .motMb => if inItems i 0x100 32 then s.setVe (i - 0x100) { s.ve (i - 0x100) with capT := s.devTime } else s
  | _ => s

/-! ### What an apply does -/

/-- POSITION takes a value (R297): the shift keeps speed and acceleration. -/
def State.setPosition (s : State) (v : Nat) (p : Word54) : State :=
  (s.setVe v ((s.ve v).shift (signed54 p - s.vePos v s.nowSt)).wrapped).sendEstimate v

/-- A writable item takes its value. -/
def State.mbApply (s : State) (m : MailboxId) (i : Nat) (ws : List Word) : State :=
  let w := wordAt ws
  match m with
  | .queMb =>
    let q := i / 8
    if (s.queue q).state ≠ .disabled then s
    else if i % 8 = 0 then s.modQueue q fun x => { x with base := BitVec.ofNat 54 (joinWords [word (fieldOf (w 0) 0 16), w 1, w 2]) }
    else s.modQueue q fun x => { x with cfg := word (fieldOf (w 0) 0 16) }
  | .motMb =>
    if inItems i 0x060 4 then s.setInterval (i - 0x060) (join36 (w 0) (w 1))
    else if inItems i 0x100 32 then s.setPosition (i - 0x100) (join54 (w 0) (w 1) (w 2))
    else s.setVe (i - 0x200) { s.ve (i - 0x200) with preset := join54 (w 0) (w 1) (w 2) }
  | .tqMb q => s.modPort (8 * q.val + i) fun x => { x with offset := join36 (w 0) (w 1) }
  | .satMb => { s with sat := { s.sat with apertures := Tab.set [0, 0, 0] s.sat.apertures (i - 0x10) [w 0, w 1, w 2] } }
  | _ => s

/-! ### The slots (R40 to R42) -/

/-- _SEL names an item that does not exist, or asks to apply to a read-only one (R33 cause 8). -/
def State.selRefused (s : State) (m : MailboxId) (sel : Word) : Bool :=
  match s.mbItem m (fieldOf sel 0 17) with
  | none => true
  | some (_, w) => sel.getLsbD 17 && !w

/-- The apply is complete. It completes with its own command, and before that where a further write to _SEL or a change of
what it is judged by comes first (log entry 111). -/
def State.applyDone (s : State) (m : MailboxId) : State :=
  match (s.mb m).applying with
  | none => s
  | some (i, ws) =>
    let t := s.mbApply m i ws
    t.setMb m { t.mb m with applying := none, done := true }

/-- _SEL has been written: a capture from this instant, or an apply of the staging words. An apply still pending completes
first, since its item takes its value whatever is written next (R42). -/
def State.selWritten (s : State) (m : MailboxId) (sel : Word) : State :=
  let s := s.applyDone m
  let i := fieldOf sel 0 17
  match s.mbItem m i with
  | none => s
  | some (n, _) =>
    let t := if sel.getLsbD 17 then s else s.beforeCapture m i
    let b := t.mb m
    if sel.getLsbD 17 then
      t.setMb m { b with applying := some (i, [b.w0, b.w1, b.w2].take n), capturing := none, width := n, valid := false, done := false }
    else
      t.setMb m { b with capturing := some (t.mbCapture m i), applying := none, width := n, valid := false, done := false }

/-- The capture is complete: its words replace the staging words, those beyond its width with zero (DESIGN CHOICE, log
entry 112). -/
def State.captureDone (s : State) (m : MailboxId) : State :=
  let b := s.mb m
  match b.capturing with
  | none => s
  | some ws => s.setMb m { b with capturing := none, valid := true, w0 := wordAt ws 0, w1 := wordAt ws 1, w2 := wordAt ws 2 }

/-- _STS as read. -/
def Mb.sts (b : Mb) : Word := word (flag b.valid + flag b.done * 2 + b.width * 4)

/-- A word is read: zero while VALID is clear; the last word of the width clears VALID (R41). -/
def State.mbWordRead (s : State) (m : MailboxId) (k : Nat) : Word × State :=
  let b := s.mb m
  if !b.valid then (0, s)
  else
    let v := match k with | 0 => b.w0 | 1 => b.w1 | _ => b.w2
    (v, if k + 1 = b.width then s.setMb m { b with valid := false } else s)

/-- A staging word is written. One storage holds the captured words and the staging words (R43), so a write while VALID is
set is what the word then reads (DESIGN CHOICE, log entry 112). -/
def State.mbWordWrite (s : State) (m : MailboxId) (k : Nat) (v : Word) : State :=
  let b := s.mb m
  s.setMb m (match k with | 0 => { b with w0 := v } | 1 => { b with w1 := v } | _ => { b with w2 := v })

end Sys2Proof.Machine
end

