-- ==== Sys2Proof/Machine/RegBus.lean ====
section
/-!
DEFINITION. The register path of the device: an access on the Plinth register bus from its grant to its answer. The
address map (R21 to R26), the refusals and their order (R33, R34), reads and writes by access code (R27 to R32), lock bits
(R44, R45), pairs (R46 to R49), the direct SRAM window (R26, R206), and what a write to each register starts.
-/

namespace Sys2Proof.Machine

/-! ### Addresses (R21 to R26) -/

/-- The block and the byte offset within it. -/
def accBlk (a : RegAccess) : Nat := a.addr.toNat / 65536
def accOff (a : RegAccess) : Nat := a.addr.toNat % 65536
/-- The alias range: 0 the register itself, 1 set, 2 clear, 3 toggle (R24). -/
def accAlias (a : RegAccess) : Nat := if accBlk a ≤ 0x13 then accOff a / 0x4000 else 0
/-- The BAR0 offset of the register addressed, whichever range it is addressed through. -/
def accKey (a : RegAccess) : Nat := accBlk a * 65536 + (if accBlk a ≤ 0x13 then accOff a % 0x4000 else accOff a)
/-- Bits 17:0 of the slot (R21). -/
def accWord (a : RegAccess) : Word := word a.value.toNat

def aliasKind (n : Nat) : AliasKind := match n with | 1 => .set | 2 => .clear | _ => .toggle

/-- Causes 0 and 1, judged from address and size alone (R22, R23, R33); the monitor reaches blocks 0x00 to 0x13 (R439). -/
def sizeCause (a : RegAccess) : Option Nat :=
  if a.size ≠ 4 ∨ ¬(a.be = 7 ∨ a.be = 15) ∨ a.addr.toNat % 4 ≠ 0 then some 0
  else if (Island.ofBlock (accBlk a)).isNone || (decide (a.req = .monitor) && decide (0x13 < accBlk a)) then some 1
  else none

/-! ### Lock bits (R44, R45) -/

/-- The bits of a register that a set lock guards. -/
def State.lockedBits (s : State) (k : Nat) : Word :=
  if k = Reg.ARM_SRC ∧ s.bit Reg.ARM_SRC 4 = true then 0xF
  else if k = Reg.NRG_CEIL_DRV ∧ s.bit Reg.NRG_CTL 0 = true then 0x3FFFF
  else if k = Reg.RNG_JOIN ∧ s.bit Reg.RNG_JOIN 1 = true then 1
  else if k = Reg.MON_CTL ∧ s.bit Reg.MON_CTL 2 = true then 3
  else 0

/-- The lock bits of a register: a write never clears them. -/
def stickyBits (k : Nat) : Word :=
  if k = Reg.ARM_SRC then 16 else if k = Reg.NRG_CTL then 1 else if k = Reg.RNG_JOIN then 2
  else if k = Reg.MON_CTL then 4 else 0

/-! ### Reads -/

/-- What PLN shows of the islands and the wake buffer (R84). -/
def State.plnView (s : State) (k : Nat) : Word :=
  if k = Reg.PLN_WAKE_FILL then word s.wakeBuf.length
  else if k = Reg.PLN_REV then withField (s.rd k) 8 1 (flag s.fuses.grade)
  else match (within? k (Reg.PLN_ISL_STATE 0) 12).bind Island.ofIdx with
    | some i => s.islState i
    | none => s.rd k

/-- HST shows its tags and translations, the LINKLOSS policy in force (R171), and of each lane whether its receiver is in
electrical idle: while the link is up, in L1, in receive L0s, and on lanes that are not configured (DEDUCED, log entry 76). -/
def State.hstView (s : State) (k : Nat) : Word :=
  if k = Reg.HST_TAG_STS then s.tagSts else if k = Reg.HST_ATC_STS then s.atcSts
  else if k = Reg.HST_LL_STS then withField (s.rd k) 0 1 (flag (policyHold s.arm.plnImage))
  else match within? k (Reg.HST_LANE_STS 0) 4 with
    | some l => withField (s.rd k) 2 1 (flag (s.linkUp && (s.bit Reg.HST_LINK_STS 14 || s.linkInL1 || !s.bit Reg.HST_LINK_STS (9 + l))))
    | none => s.rd k

def State.queView (s : State) (k : Nat) : Word :=
  if k = Reg.QUE_STAGE then word (min 8191 s.stagedCount)
  else match within? k (Reg.QUE_STS 0) 2048 with
    | some q => (s.queue q).sts
    | none => s.rd k

def chStateCode : ChState → Nat
  | .free => 0 | .live => 1 | .quiescing => 2 | .quiesced => 3 | .destroying => 4

def State.chnView (s : State) (k : Nat) : Word :=
  if k = Reg.CHN_OPSTS then withField (s.rd k) 0 1 (flag s.que.op.isSome)
  else match within? k (Reg.CHN_STATE 0) 128 with
    | some n => word (chStateCode (s.chn n).state + (s.chn n).gen.toNat * 8)
    | none => s.rd k

def State.motView (s : State) (k : Nat) : Word :=
  if k = Reg.LEV_STS then s.levSts
  else match within? k (Reg.ENC_STS 0) 8, within? k (Reg.VE_STS 0) 32, within? k (Reg.SLIP_CFG 0) 8 with
    | some e, _, _ => s.encSts e
    | _, some v, _ => s.veSts v
    | _, _, some n => withField (s.rd k) 11 1 (flag (s.mot.slipping.getLsbD n))
    | _, _, _ => s.rd k

def State.tqView (s : State) (q k : Nat) : Word :=
  if k = Reg.TQ_STS q then s.tqSts q
  else match within? k (Reg.HP_STS q 0) 8 with
    | some i => s.hpSts (8 * q + i)
    | none => s.rd k

/-- FB_STS.NOBRS (R377). -/
def State.noBrs (s : State) (c : Nat) : Bool := s.bit Reg.CLK_STS 1 && decide (fbMode s.image c = 1)

def State.fldView (s : State) (k : Nat) : Word :=
  if k = Reg.FB_STAGE then word s.fb.stage.length
  else match within? k (Reg.FB_TXB_W 0) 36 with
    | some w => s.txb s.txbAt.1 s.txbAt.2 w
    | none =>
      match (List.range 4).find? fun c => decide (k = Reg.FB_STS c) with
      | some c => withField (s.rd k) 7 1 (flag (s.noBrs c))
      | none => s.rd k

/-- RNG_LANE_STS: in a healthy ring the westward direction of a link that is up sleeps: the WEST transmitter, and the EAST
receiver (R336). TX_DIS is high while RNG is held, where a module is driven (R335, R138). -/
def State.rngView (s : State) (k : Nat) : Word :=
  match within? k (Reg.RNG_LANE_STS 0) 2 with
  | some l =>
    let v := withField (s.rd k) 3 1 (flag (decide ((pinOf s.image 5 l).1 = 1) && (s.held .rng || !s.isOn .rng)))
    if l = 0 then withField v 5 1 (flag (s.ring.east.up && !s.bit Reg.RNG_STS 4)) else withField v 4 1 (flag !(s.ringSends .west))
  | none => s.rd k

/-- The value of a pair's _V slot: the value now in force (R48). -/
def State.pairValue (s : State) (p : Nat) : Word :=
  match p with
  | 4 => s.arm.lastCommitV
  | 5 => s.fpwr
  | 6 => s.arm.lastFuseV
  | 7 => word (flag (s.bit Reg.RNG_STS 10))
  | 8 => 0
  | q => word (flag (s.quad q).men)

/-- A register's value as a read finds it, before what the read does. -/
def State.view (s : State) (k : Nat) : Word :=
  match k / 65536 with
  | 0x00 => s.plnView k
  | 0x01 => if k = Reg.CLK_STS then s.clkSts else if k = Reg.CLK_IRC_TRIM then word s.fuses.ircTrim.toNat else s.rd k
  | 0x05 => s.hstView k
  | 0x06 => s.queView k
  | 0x07 => if k = Reg.EVT_MODE then word s.evtMode else s.rd k
  | 0x08 => match within? k (Reg.LCK_PEEK 0) 64 with | some n => s.lockPeek n | none => s.rd k
  | 0x09 => s.chnView k
  | 0x0A => s.motView k
  | 0x0B => s.tqView 0 k | 0x0C => s.tqView 1 k | 0x0D => s.tqView 2 k | 0x0E => s.tqView 3 k
  | 0x0F => s.fldView k
  | 0x11 => s.rngView k
  | 0x10 => if k = Reg.SAT_STS then s.satSts else if k = Reg.SAT_LKSTS then s.satLksts else s.rd k
  | _ => s.rd k

/-- A read of a register with its row: the value, and the state after what the read does: an RC field clears unless the
monitor reads (R27, R29), a mailbox's last word clears VALID (R41), a lock is acquired (R236), BROKEN clears for the
holder (R410). -/
def State.rowRead (s : State) (r : RegRow) (k : Nat) (req : Requester) : Word × State :=
  match pairAt? k with
  | some (p, c) => (if c then 0 else s.pairValue p, s)
  | none =>
    match MailboxId.at? k with
    | some (_, 0) => (s.rd k, s)
    | some (m, 1) => ((s.mb m).sts, s)
    | some (m, n) => s.mbWordRead m (n - 2)
    | none =>
      match within? k 0x080000 64 with
      | some n => s.lockAcquire n (.req req)
      | none =>
        let t := if r.rc = 0 then s else s.wr k (readClears r req (s.rd k))
        (readShows r (s.view k), if k = Reg.SAT_LKSTS then t.lkstsRead req else t)

/-- A read within an open island: a cause of R33, or the word, whether it is uncorrectable, and the state after. A
doorbell's value on a read is stated nowhere: it is free (DESIGN CHOICE, log entry 30). -/
def State.regRead (s : State) (a : RegAccess) : Except Nat (Word × Bool × State) :=
  if accBlk a = 0x20 then
    if accOff a < 0x2000 then .ok (Config.freeWord s.freeIdx, false, s.drew) else .error 2
  else if 0x80 ≤ accBlk a then .ok (s.sramRead ((a.addr.toNat - 0x800000) / 4))
  else match regAt (accBlk a) (accOff a % 0x4000) with
    | .nothing => .error 2
    | .reserved => .error 3
    | .reg r => let x := s.rowRead r (accKey a) a.req; .ok (x.1, false, x.2)

/-! ### Pairs (R46 to R49) -/

/-- A pair's value takes effect. -/
def State.pairApply (s : State) (p : Nat) (v : Word) : State :=
  match p with
  | 4 => s.commitOp v
  | 5 => s.forcePower v
  | 6 => s.fuseOp v.toNat
  | 7 => if v = 1 then s.leaveGroup true else s
  | 8 => s.purgeOp v
  | q => s.masterEnable q (v.getLsbD 0)

/-- A pair that has been open for more than 1 ms when a write reaches the Plinth has failed before it (R47). -/
def State.pairStale (s : State) (p arrivedAt : Nat) : State :=
  match s.pair p with
  | some o => if o.openAt + msTicks 1 < arrivedAt then s.pairFail p 1 o.req else s
  | none => s

/-- A direct write to a _V or _C slot, which reached the Plinth at `arrivedAt` (R46). -/
def State.pairWrite (u : State) (p : Nat) (isC : Bool) (req : Requester) (v : Word) (arrivedAt : Nat) : State :=
  let s := u.pairStale p arrivedAt
  match s.pair p, isC with
  | none, false => s.setPair p (some { value := v, req := req, openAt := arrivedAt })
  | some o, false => s.pairFail p (if o.req = req then 4 else 2) req
  | none, true => s.pairFail p 3 req
  | some o, true =>
    if o.req ≠ req then s.pairFail p 2 req
    else if v ≠ ~~~o.value then s.pairFail p 0 req
    else (s.setPair p none).pairApply p o.value

/-- A write to a _C slot that has reached the Plinth no later than `byAt` and still waits, for its bus grant or in the wake
buffer: it counts from its arrival (R46). -/
def State.pairCWaits (s : State) (p byAt : Nat) : Bool :=
  let hit := fun (a : RegAccess) (at_ : Nat) =>
    decide (at_ ≤ byAt) && decide (accAlias a = 0) && decide (pairAt? (accKey a) = some (p, true))
  (s.busWait.any fun w => w.write && hit w.acc w.arrivedAt) ||
  (s.wakeBuf.any fun e => match e.2 with | .write a n => hit a n | _ => false) ||
  s.waiters.any fun w => w.write && hit w.acc w.sinceAt

/-- A pair has seen no _C write when 1 ms has passed (R47); one that reaches the Plinth at exactly 1 ms is in time (R46). -/
def State.pairOver (s : State) (p : Nat) : State :=
  match s.pair p with
  | some o =>
    if o.openAt + msTicks 1 < s.now && !s.pairCWaits p (o.openAt + msTicks 1) then s.pairFail p 1 o.req else s
  | none => s

/-! ### What a register's own rule refuses or changes in a written value -/

/-- Some register of the island has a parity mismatch (R39). -/
def State.mismatchIn (s : State) (i : Island) : Bool := (parityRegs i).any s.parityBad

/-- PLN_PAR_HOLD: a bit clears only where no register of its island has a mismatch (R39). -/
def State.holdKept (s : State) (old new : Word) : Word :=
  new ||| (Island.all.foldl (fun (w : Word) i =>
    if old.getLsbD i.idx && !new.getLsbD i.idx && s.mismatchIn i then w ||| word (2 ^ i.idx) else w) 0)

/-- A buffer word of a CAN controller may not be written while its request is set (R386, cause 14). -/
def State.txbLocked (s : State) : Bool := s.requested s.txbAt.1 s.txbAt.2

/-- Only one bit of ARM_LOAD_CTL at a time; ARM_DATA and END only in a host load and from its requester (R116). -/
def State.loadRefuses (s : State) (k : Nat) (req : Requester) (v : Word) : Bool :=
  if k = Reg.ARM_DATA then decide (s.arm.loader ≠ some req)
  else if k = Reg.ARM_LOAD_CTL then decide (1 < onesCount v 18) || (v.getLsbD 1 && decide (s.arm.loader ≠ some req))
  else false

/-- The value that a write leaves, or the cause 13 or 14 under which the register's own rule refuses it. `new` is the value
by the access codes; `v` the word written. -/
def State.writeJudged (s : State) (k : Nat) (req : Requester) (old v new : Word) : Except Nat Word :=
  if s.loadRefuses k req v then .error 13
  else if k = Reg.MON_CTL ∧ fieldOf old 0 2 < fieldOf new 0 2 then .error 13
  else if (within? k (Reg.FB_TXB_W 0) 36).isSome && s.txbLocked then .error 14
  else .ok <|
    if k = Reg.PLN_PAR_HOLD then s.holdKept old new
    else if k = Reg.CLK_FMC_CTL ∧ v.getLsbD 13 = true ∧ old.getLsbD 14 = true then old
    else if k = Reg.ARM_MAQ ∧ s.anyLive = true then old
    else if k = Reg.HST_PHY_CTL ∧ req = .host then withField new 6 1 (flag (old.getLsbD 6 && new.getLsbD 6))
    else if k = Reg.MEM_ECC_CTL ∧ fieldOf new 0 2 = 3 then 0
    else match within? k (Reg.ENC_CTL 0) 8, within? k (Reg.EVT_ROUTE 0) 576 with
      | some e, _ => if (s.enc e).flt && !old.getLsbD 1 then withField new 1 1 0 else new
      | _, some src => if fieldOf new 0 7 = 0 && !isAttention src then withField new 0 7 1 else new
      | _, _ => new

/-! ### What a write starts -/

/-- The word written and the value before and after. -/
structure Written where
  req  : Requester
  old  : Word
  v    : Word
  /-- the value by the access codes, before the register's own rule. -/
  want : Word
  new  : Word
  /-- at the register's own offset. -/
  direct : Bool

def State.plnHook (s : State) (k : Nat) (w : Written) : State :=
  if k = Reg.PLN_ISL_RST then (if w.v.getLsbD 4 then s.islandReset (fieldOf w.v 0 4) else s)
  else if k = Reg.PLN_QF_CTL then
    s.forAll (List.range 4) fun t q => if w.v.getLsbD q && decide (t.fld (Reg.PLN_QF_STS q) 0 2 = 2) then t.quadSelfReset q else t
  else match (within? k (Reg.PLN_ISL_STATE 0) 12).bind Island.ofIdx, (within? k (Reg.PLN_ISL_OPREQ 0) 12).bind Island.ofIdx with
    | some i, _ => if w.v.getLsbD 8 && w.direct then s.modIsland i fun x => { x with lost := false } else s
    | _, some i => s.kickSeq i
    | _, _ => s

def State.clkHook (s : State) (k : Nat) (w : Written) : State :=
  if k = Reg.CLK_CTL then s.clkCtlHook w.v
  else if k = Reg.CLK_FMC_CTL ∧ w.v.getLsbD 13 = true ∧ w.old.getLsbD 14 = false then s.fmcBegin
  else s

/-- ARM_LOAD_CTL, with one bit set (R112, R113, R116, R126). -/
def State.loadCtl (s : State) (req : Requester) (v : Word) : State :=
  if v.getLsbD 0 then s.hostLoad req
  else if v.getLsbD 1 then s.beginVerify
  else if v.getLsbD 2 then s.abortCtl
  else if v.getLsbD 3 then s.flashLoad
  else if v.getLsbD 4 then s.program false
  else if v.getLsbD 5 then s.program true
  else s

def State.armHook (s : State) (k : Nat) (w : Written) : State :=
  if k = Reg.ARM_LOAD_CTL then s.loadCtl w.req w.v
  else if k = Reg.ARM_DATA then (if w.direct then s.armData w.v else s)
  else if k = Reg.ARM_MAQ ∧ w.old ≠ w.new then s.setMaquette (w.new.getLsbD 0)
  else s

/-- HST_PHY_CTL (R159, R160, R170). -/
def State.phyHook (s : State) (w : Written) : State :=
  let t := if w.req = .host ∧ w.want.getLsbD 6 = true ∧ w.v.getLsbD 6 = true then s.raiseLink 8 else s
  let t := if w.new.getLsbD 6 && !w.old.getLsbD 6 then t.testEnter
    else if !w.new.getLsbD 6 && w.old.getLsbD 6 then t.testExit else t
  if w.v.getLsbD 5 then t.redetectOp else t

def State.hstHook (s : State) (k : Nat) (w : Written) : State :=
  if k = Reg.HST_PHY_CTL then s.phyHook w
  else if k = Reg.HST_LTR_CTL then (if w.v.getLsbD 1 then s.ltrSendOp else s)
  else if k = Reg.HST_EYE_CTL then (if w.v.getLsbD 2 then s.eyeStart (fieldOf w.new 0 2) else s)
  else if k = Reg.HST_PRBS_CTL then (s.prbsCtl w.old (w.new ||| (w.v &&& 0x400))).prbsPreset
  else if k = Reg.HST_ATC_CTL then (if w.v.getLsbD 0 then s.flushAtc else s)
  else s

/-- Bits of EVT_MASK that fall signal the vectors of their pending sources (R231). -/
def State.unmasked (s : State) (k : Nat) (old new : Word) : State :=
  s.forAll (List.range 18) fun t b =>
    if old.getLsbD b && !new.getLsbD b && t.pended (18 * k + b) then t.signalVector (t.fld (Reg.EVT_ROUTE (18 * k + b)) 0 7) else t

/-- The applies to items that a channel's binding makes read-only complete before a channel operation (R42, R300, R332; log entry
111). -/
def State.applyAll (s : State) : State :=
  [MailboxId.motMb, .tqMb 0, .tqMb 1, .tqMb 2, .tqMb 3].foldl State.applyDone s

def State.queHook (s : State) (k : Nat) (w : Written) : State :=
  if k = Reg.QUE_CMD then (if w.direct then (s.applyDone .queMb).queueCmd w.v else s)
  else if k = Reg.CHN_OP then (if w.direct then s.applyAll.chnOp (fieldOf w.v 0 3) else s)
  else match within? k (Reg.EVT_MASK 0) 32 with
    | some n => s.unmasked n w.old w.new
    | none => s

/-- ENC_CTL: receivers that are enabled, and a supply that is switched on again, start from no state (R134, R283); a change
of ZINV judges Z afresh (R281); CLRCNT sets the counter to zero. -/
def State.encCtlHook (s : State) (e : Nat) (w : Written) : State :=
  let on := fun (b : Nat) => w.new.getLsbD b && !w.old.getLsbD b
  let x := s.enc e
  let x := if on 0 || on 1 then x.blank else x
  let x := if w.new.getLsbD 2 != w.old.getLsbD 2 then { x with zSteps := none, zHigh := none, zOcc := 0, zReversed := false } else x
  s.setEnc e (if w.v.getLsbD 3 then { x with count := 0 } else x)

def State.motHook (s : State) (k : Nat) (w : Written) : State :=
  match within? k (Reg.ENC_CTL 0) 8, within? k (Reg.VE_CTL 0) 32, within? k (Reg.SE_CTL 0) 4 with
  | some e, _, _ => s.encCtlHook e w
  | _, some v, _ => if w.v.getLsbD 3 then (s.setVe v ((s.ve v).rest s.nowSt (s.ve v).still)).sendEstimate v else s
  | _, _, some n => s.seRun n (w.new.getLsbD 0)
  | _, _, _ => s

def State.tqHook (s : State) (q k : Nat) (w : Written) : State :=
  match within? k (Reg.HP_CTL q 0) 8 with
  | some i => if w.new.getLsbD 0 then s.powerRequest (8 * q + i) else if w.old.getLsbD 0 then s.powerDrop (8 * q + i) else s
  | none => s

def State.fldHook (s : State) (k : Nat) (w : Written) : State :=
  s.forAll (List.range 4) fun t c =>
    if k = Reg.FB_CTL c then t.fbCtlHook c w.old w.v
    else match within? k (Reg.FB_TXREQ c 0) 4 with
      | some n => t.txreqHook c n w.old
      | none => t

def State.rngHook (s : State) (k : Nat) (w : Written) : State :=
  if k = Reg.RNG_CTL then
    let t := if w.v.getLsbD 1 then s.rejoinOp else s
    let t := if w.v.getLsbD 2 then t.grpresetOp else t
    if w.v.getLsbD 3 then t.requestWork .ringDiag else t
  else s

/-- What a write to a register starts, by its block. -/
def State.wrote (s : State) (k : Nat) (w : Written) : State :=
  match MailboxId.at? k with
  | some (m, 0) => s.selWritten m w.new
  | some (m, n) => if w.direct then s.mbWordWrite m (n - 2) w.v else s
  | none =>
    match k / 65536 with
    | 0x00 => s.plnHook k w
    | 0x01 => s.clkHook k w
    | 0x02 => if k = Reg.NRG_CEIL_DRV ∧ w.old ≠ w.new then s.planPass else s
    | 0x04 => s.armHook k w
    | 0x05 => s.hstHook k w
    | 0x06 | 0x07 | 0x09 => s.queHook k w
    | 0x08 => match within? k 0x080000 64 with
      | some n => if w.direct then s.lockWrite n w.req w.v else s
      | none => s
    | 0x0A => s.motHook k w
    | 0x0B => s.tqHook 0 k w | 0x0C => s.tqHook 1 k w | 0x0D => s.tqHook 2 k w | 0x0E => s.tqHook 3 k w
    | 0x0F => s.fldHook k w
    | 0x11 => s.rngHook k w
    | 0x12 => if k = Reg.MEM_SCRUB_CTL ∧ w.old ≠ w.new then { s with mem := {} } else s
    | 0x13 => if k = Reg.MON_CTL ∧ fieldOf w.new 0 2 = 0 ∧ s.bit Reg.MON_STS 0 = true then s.monEnds else s
    | _ => s

/-- The register takes its new value; two registers are written by the operations that their change starts, and the
buffer window lies in the FLD island's own memory. The parity of an accepted write is recomputed (R35). -/
def State.store (s : State) (k : Nat) (new : Word) : State :=
  if k = Reg.PLN_ISL_EN then ((s.writeEnables new).commitGated).reparity k
  else if k = Reg.RNG_JOIN then (s.joinOp new).reparity k
  else match within? k (Reg.FB_TXB_W 0) 36 with
    | some w => s.setTxb s.txbAt.1 s.txbAt.2 w new
    | none => (s.wr k new).reparity k

/-- The value that a read-modify-write of a register starts from. -/
def State.current (s : State) (k : Nat) : Word :=
  match within? k (Reg.FB_TXB_W 0) 36 with
  | some w => s.txb s.txbAt.1 s.txbAt.2 w
  | none => s.rd k

/-- _SEL refuses the item (cause 8). -/
def State.selCause (s : State) (k : Nat) (new : Word) : Bool :=
  match MailboxId.at? k with
  | some (m, 0) => s.selRefused m new
  | _ => false

/-- A write that the access codes admit: locked fields (cause 6), mailbox items (cause 8), the register's own rule (causes
13 and 14); then the value is stored and what it starts takes place. -/
def State.storeWrite (s : State) (k : Nat) (req : Requester) (v new : Word) (direct : Bool) : Except Nat State :=
  let old := s.current k
  let want := new ||| (old &&& stickyBits k)
  if (want ^^^ old) &&& s.lockedBits k ≠ 0 then .error 6
  else if s.selCause k want then .error 8
  else match s.writeJudged k req old v want with
    | .error c => .error c
    | .ok fin =>
      let t := if k = Reg.HST_PRBS_CTL then s.prbsSettle else s
      .ok ((t.store k fin).wrote k { req := req, old := old, v := v, want := want, new := fin, direct := direct })

/-- A write to a register with its row, directly or through an alias (R30 to R32). -/
def State.rowWrite (s : State) (r : RegRow) (k alias_ : Nat) (req : Requester) (v : Word) (arrivedAt : Nat) : Except Nat State :=
  if v &&& r.reservedBits ≠ 0 then .error 4
  else if alias_ = 0 then
    if r.noWritable then .error 7
    else match pairAt? k with
      | some (p, c) => .ok (s.pairWrite p c req v arrivedAt)
      | none => s.storeWrite k req v (mergeWrite r (s.current k) v) true
  else if v &&& aliasForbidden r (s.lockedBits k) ≠ 0 then .error 5
  else if r.noWritable then .error 7
  else if (pairAt? k).isSome then .ok s
  else s.storeWrite k req v (aliasWrite (aliasKind alias_) r (s.current k) v) false

/-- A write through the direct SRAM window (R26, R206): refused for the shadow (cause 14); INJECT flips stored bits of the
word after its check bits have been computed, and returns to 0. -/
def State.windowWrite (s : State) (w : Nat) (v : Word) : Except Nat State :=
  if s.inShadow w then .error 14
  else
    let flip : Word := match s.fld Reg.MEM_ECC_CTL 0 2 with | 1 => 1 | 2 => 3 | _ => 0
    .ok ((s.setSram w { stored := v ^^^ flip, checked := v }).setFld Reg.MEM_ECC_CTL 0 2 0)

/-- A write within an open island, which reached the Plinth at `arrivedAt`: a cause of R33, or the state after. -/
def State.regWrite (s : State) (a : RegAccess) (arrivedAt : Nat := s.now) : Except Nat State :=
  if accBlk a = 0x20 then
    if accOff a < 0x2000 then .ok (s.doorbellOp (accOff a / 4) (accWord a)) else .error 2
  else if 0x80 ≤ accBlk a then s.windowWrite ((a.addr.toNat - 0x800000) / 4) (accWord a)
  else match regAt (accBlk a) (accOff a % 0x4000) with
    | .nothing => .error 2
    | .reserved => .error 3
    | .reg r => s.rowWrite r (accKey a) (accAlias a) a.req (accWord a) arrivedAt

/-! ### Admission by the state of the island (R33 causes 9 to 12, R62) -/

/-- Cause 10 rather than 9: at power-up the island has not been brought up yet, or a whole commit is bringing it up. -/
def State.early (s : State) (i : Island) : Bool :=
  (s.island i).inCommit ||
  (!(s.island i).broughtUp &&
    (decide (s.fld Reg.PLN_BOOT 0 3 ≤ 2) || decide (i = .hst) ||
      (match s.arm.run with | some r => r.toRaise.contains i | none => false)))

/-- The cause under which an island answers at once with CA. -/
def State.islandCause (s : State) (i : Island) : Option Nat :=
  if i = .pln then none
  else if !s.bit Reg.PLN_ISL_EN i.idx || decide ((s.island i).power = .gated) then some (if s.early i then 10 else 9)
  else if s.stopped i && !s.gateClosed i then some 12
  else none

/-! ### Answers -/

/-- The answer to an access that took place: the completion of a host read, the data for a satellite master's split
request, the next step of the monitor's command. -/
def State.answered (s : State) (write : Bool) (a : RegAccess) (v : Word) (ue : Bool) : State :=
  match a.req with
  | .host => if write then s else s.send (.completion .host .sc [dwordOf v] ue)
  | .monitor =>
    { s with mon := { s.mon with todo := s.mon.todo.tail, got := if write then s.mon.got else s.mon.got ++ [(a.addr, v)] } }
  | .sat0 => if write then s else s.splitAnswer 0 (some [{ data := v, poi := ue }])
  | .sat1 => if write then s else s.splitAnswer 1 (some [{ data := v, poi := ue }])

/-- A refused access: logged and answered. -/
def State.refuseAccess (s : State) (write : Bool) (a : RegAccess) (cause : Nat) : State :=
  (s.accessRefused write a cause).answerRefused write a cause

/-- An access takes place in its island, or is refused under causes 2 to 8, 13 and 14. -/
def State.perform (s : State) (write : Bool) (a : RegAccess) (arrivedAt : Nat) : State :=
  if write then
    match s.regWrite a arrivedAt with
    | .error c => s.refuseAccess true a c
    | .ok t => t.startReady.answered true a 0 false
  else
    match s.regRead a with
    | .error c => s.refuseAccess false a c
    | .ok (v, ue, t) => t.answered false a v ue

/-! ### Parked writes and waiting requests (R64 to R67) -/

/-- A parked packet is delivered. -/
def State.deliver (s : State) (p : Parked) : State :=
  match p with
  | .write a n => s.perform true a n
  | .event src => s.takeEvent src
  | .burst win addr words => { s with sat := { s.sat with posted := s.sat.posted ++ [{ win := win, addr := addr, words := words }] } }

/-- The writes parked for an island are delivered in the order in which they arrived (R65). -/
def State.deliverParked (s : State) (i : Island) : State :=
  let mine := s.wakeBuf.filter fun e => decide (e.1 = i)
  mine.foldl (fun t e => t.deliver e.2) { s with wakeBuf := s.wakeBuf.filter fun e => !decide (e.1 = i) }

/-- The requests that wait for an island complete (R65, R67). -/
def State.serveWaiters (s : State) (i : Island) : State :=
  let mine := s.waiters.filter fun w => decide (w.isl = i)
  mine.foldl (fun t w => t.perform w.write w.acc w.sinceAt) { s with waiters := s.waiters.filter fun w => !decide (w.isl = i) }

/-- An access reaches a closed gate: a posted write of the host or a satellite master is parked; any other waits for the
wake that it causes (R64, R67). -/
def State.atGate (s : State) (write : Bool) (a : RegAccess) (i : Island) (arrivedAt : Nat) : State :=
  if write && decide (a.req ≠ .monitor) then s.park i (.write a arrivedAt)
  else
    let w : Waiter := { isl := i, write := write, acc := a, sinceAt := arrivedAt }
    { s with waiters := s.waiters ++ [w] }.wake i

/-- The requests that have waited 1 ms for an island that is not ON end with CA (R67, R416). -/
def State.waitOver (s : State) (i : Island) : State :=
  if s.isOn i && !s.gateClosed i then s
  else
    let old := fun (w : Waiter) => decide (w.isl = i) && s.passed w.sinceAt (msTicks 1)
    let mine := s.waiters.filter old
    mine.foldl (fun t w => t.refuseAccess w.write w.acc 11) { s with waiters := s.waiters.filter fun w => !old w }

/-! ### The bus -/

/-- An access that holds its grant is judged (R33). -/
def State.judge (s : State) (write : Bool) (a : RegAccess) (arrivedAt : Nat) : State :=
  match sizeCause a with
  | some c => s.refuseAccess write a c
  | none =>
    match Island.ofBlock (accBlk a) with
    | none => s.refuseAccess write a 1
    | some i =>
      match s.islandCause i with
      | some c => s.refuseAccess write a c
      | none => if s.gateClosed i then s.atGate write a i arrivedAt else (s.deliverParked i).perform write a arrivedAt

/-- The activity of a register access (R249): HOSTREG, and MONITOR for the monitor. -/
def busActivity (a : RegAccess) : Nat := if a.req = .monitor then 11 else 6

/-- An access reaches the Plinth (R33, R76): it takes its grant and is judged; it waits for the next cadence where its
activity is at its maximum (R252). A stopped Plinth answers nobody; the host gets CA from HST, unlogged. -/
def State.accessFrom (s : State) (write : Bool) (a : RegAccess) (arrivedAt : Nat) : State :=
  if s.boot.inPor then s
  else if s.stopped .pln then (if a.req = .host then s.refuseAccess write a 12 else s)
  else match s.busGrant (busActivity a) with
    | some t => t.judge write a arrivedAt
    | none =>
      let t := s.noteAsked 11 [busActivity a]
      { t with busWait := t.busWait ++ [{ write := write, acc := a, arrivedAt := arrivedAt }] }

/-- An access reaches the Plinth now. -/
def State.access (s : State) (write : Bool) (a : RegAccess) : State := s.accessFrom write a s.now

/-- The accesses that waited for the cadence boundary are served in order. -/
def State.serveBus (s : State) : State :=
  s.busWait.foldl (fun t w => t.accessFrom w.write w.acc w.arrivedAt) { s with busWait := [] }

/-- A host access to BAR0 as HST takes it (R188): nothing reaches the device without the link; a request while Memory Space
Enable is clear or in D3hot is unsupported, and a poisoned write is dropped. -/
def State.hostAccess (s : State) (write : Bool) (a : RegAccess) : State :=
  if !s.hostReaches then s
  else if !s.mse || s.txn.d3hot then
    let t := s.aer aerUr (!write)
    if write then t else t.send (.completion .host .ur [] false)
  else if write && a.poisoned then s.poisonNote true
  else s.access write a

/-- A register access by its requester. Accesses of a satellite master need a running SAT. -/
def State.regAccess (s : State) (write : Bool) (a : RegAccess) : State :=
  match a.req with
  | .host => s.hostAccess write a
  | .monitor => s.access write a
  | .sat0 | .sat1 => if s.satRuns then s.access write a else s

/-- The write of a word to a register's own offset. -/
def State.writeReg (s : State) (req : Requester) (k : Nat) (v : Word) : State :=
  s.regAccess true { req := req, addr := BitVec.ofNat 24 k, value := dwordOf v }

/-- The read of a register at its own offset. -/
def State.readReg (s : State) (req : Requester) (k : Nat) : State :=
  s.regAccess false { req := req, addr := BitVec.ofNat 24 k }

end Sys2Proof.Machine
end

