-- ==== Sys2Proof/Machine/MonitorOps.lean ====
section
/-!
DEFINITION. The serial monitor (15_serial_monitor.md): line, session and levels (R429 to R434), the grammar of a command line
(R435 to R438), the commands (R439 to R442), the load of an armature (R443 to R445).
-/

namespace Sys2Proof.Machine

/-! ### State of the line -/

/-- The monitor works: the Plinth runs and POR is over (R76, R429). -/
def State.monAlive (s : State) : Bool := !s.boot.inPor && !s.stopped .pln
def State.monLevel (s : State) : Nat := s.fld Reg.MON_CTL 0 2
def State.monSession (s : State) : Bool := s.bit Reg.MON_STS 0
/-- A command is running or waiting (MON_STS.BUSY). -/
def State.monBusy (s : State) : Bool := s.mon.cmd.isSome || decide (s.mon.running ≠ 0) || s.mon.loadWait

/-- The banner (R429), at 115,200 baud. -/
def State.monBanner (s : State) : State :=
  (s.setFld Reg.MON_STS 1 3 4).monLine ("CV-3218 B0 L".toList ++ [hexDigit s.monLevel])

/-- 1 ms after POR the banner goes out, and sessions may start. -/
def State.monBannerOp (s : State) : State :=
  match s.mon.bannerDueAt with
  | some t => if s.monAlive && decide (t ≤ s.now) then { s with mon := { s.mon with ready := true, bannerDueAt := none } }.monBanner else s
  | none => s

/-- The bauds by their codes (R430). -/
def bauds : List Nat := [9600, 19200, 38400, 57600, 115200, 230400, 460800, 921600]

/-- The rate whose bit time the start bit meets within 5 %, in nanoseconds (R430). -/
def rateOf (ns : Nat) : Option Nat :=
  (List.range 8).find? fun k =>
    let b := bauds.getD k 1
    decide (20 * (ns * b - 1000000000) ≤ 1000000000 ∧ 20 * (1000000000 - ns * b) ≤ 1000000000)

/-- A carriage return with no session open (R430). -/
def State.monStart (s : State) (ns : Nat) : State :=
  if !s.monAlive || !s.mon.ready || s.mon.inBreak || s.monSession || decide (s.monLevel = 0) then s
  else match rateOf ns with
    | none => s
    | some k => (((s.setFld Reg.MON_STS 1 3 k).setBit Reg.MON_STS 0 true).raiseMon 0).monPrompt

/-- MON_RXD has been low for 25 ms (R431); at level 0 the input is discarded (R433). -/
def State.monBreakOp (s : State) : State :=
  if !s.monAlive || !s.mon.ready || decide (s.monLevel = 0) then s
  else ({ s with mon := { s.mon with inBreak := true } }.monEnds).raiseMon 2

def State.monBreakEndOp (s : State) : State :=
  if s.monAlive && s.mon.inBreak then { s with mon := { s.mon with inBreak := false } }.monBanner else s

/-! ### Grammar (R435) -/

/-- A line cut at its spaces; empty parts are left out. -/
def cutSpaces : List (BitVec 8) → List (List (BitVec 8))
  | [] => []
  | c :: t =>
    if c = 0x20 then cutSpaces t
    else match t, cutSpaces t with
      | d :: _, w :: ws => if d = 0x20 then [c] :: w :: ws else (c :: w) :: ws
      | _, ws => [c] :: ws

/-- The command letters (R440). -/
def monLetters : List Char := "?vrwpsetgqcxalbz".toList

def monChar (c : BitVec 8) : Char := Char.ofNat c.toNat

/-- The letter and the arguments of a line; none where it does not begin with a lone known letter. -/
def monParse (line : List (BitVec 8)) : Option (Char × List (List (BitVec 8))) :=
  match line with
  | [] => none
  | c :: t =>
    if monLetters.contains (monChar c) && (match t with | [] => true | d :: _ => decide (d = 0x20)) then
      some (monChar c, (cutSpaces line).drop 1)
    else none

/-- The value of a hexadecimal digit in either case. -/
def hexVal (c : BitVec 8) : Option Nat :=
  let n := c.toNat
  if 48 ≤ n ∧ n ≤ 57 then some (n - 48) else if 65 ≤ n ∧ n ≤ 70 then some (n - 55)
  else if 97 ≤ n ∧ n ≤ 102 then some (n - 87) else none

/-- The value of hexadecimal digits, most significant first. -/
def hexNum : Nat → List (BitVec 8) → Option Nat
  | acc, [] => some acc
  | acc, c :: t => (hexVal c).bind fun d => hexNum (16 * acc + d) t

/-- An argument of at most `digits` digits with a value from `lo` to `hi`. -/
def hexArg (digits lo hi : Nat) (w : List (BitVec 8)) : Option Nat :=
  if 1 ≤ w.length ∧ w.length ≤ digits then
    (hexNum 0 w).bind fun n => if lo ≤ n ∧ n ≤ hi then some n else none
  else none

/-- The echo of an accepted character (R435). -/
def State.monEcho (s : State) (c : BitVec 8) : State := if s.bit Reg.MON_CTL 4 then s.monOut [monChar c] else s

/-- A carriage return ends the line (R435, R443): an empty line gives a prompt, an overlong one and one without a known
letter their refusals; any other waits for its command to run. A line that begins with no colon leaves load mode. -/
def State.monEnter (s : State) : State :=
  let line := s.mon.line
  let long := s.mon.tooLong
  let t := { s with mon := { s.mon with line := [], tooLong := false } }
  let hex := decide (line.head? = some 0x3A) && s.bit Reg.MON_STS 4
  let t := if hex then t else t.setBit Reg.MON_STS 4 false
  if long then t.monNo "LONG".toList
  else if line = [] then t.monPrompt
  else if hex || (monParse line).isSome then { t with mon := { t.mon with cmd := some line } }.setBit Reg.MON_STS 5 true
  else t.monNo "SYNTAX".toList

/-- A character is taken into the line (R435). -/
def State.monTake (s : State) (c : BitVec 8) : State :=
  if c = 0x0A then s
  else if c = 0x0D then (s.monEcho c).monEnter
  else if c = 0x08 ∨ c = 0x7F then
    if s.mon.line = [] then s else { s with mon := { s.mon with line := s.mon.line.dropLast } }.monEcho c
  else if s.mon.line.length < 80 then { s with mon := { s.mon with line := s.mon.line ++ [c] } }.monEcho c
  else { s with mon := { s.mon with tooLong := true } }

/-- Characters kept while a command ran are taken once it has ended (R435). -/
def State.monDrain (s : State) : Nat → State
  | 0 => s
  | fuel + 1 =>
    match s.mon.kept with
    | [] => s
    | c :: rest => if s.monBusy then s else ({ s with mon := { s.mon with kept := rest } }.monTake c).monDrain fuel

def State.monSettle (s : State) : State := s.monDrain s.mon.kept.length

/-- A character arrives (R429, R430, R433, R435). -/
def State.monRx (s : State) (c : BitVec 8) : State :=
  if !s.monAlive || !s.mon.ready || s.mon.inBreak || !s.monSession || decide (s.monLevel = 0) then s
  else if s.monBusy then { s with mon := { s.mon with kept := s.mon.kept ++ [c] } }
  else s.monTake c

/-! ### Running a command -/

/-- The arguments of the waiting command, where its letter is `c` and it may run now. -/
def State.monWaits (s : State) (c : Char) : Option (List (List (BitVec 8))) :=
  if !s.monAlive || decide (s.mon.running ≠ 0) || s.mon.loadWait then none
  else match s.mon.cmd with
    | none => none
    | some line => (monParse line).bind fun p => if p.1 = c then some p.2 else none

def State.monSyntax (s : State) : State := s.monNo "SYNTAX".toList

/-- A command that needs a level (R434). -/
def State.monNeeds (s : State) (n : Nat) (f : State → State) : State :=
  if s.monLevel < n then (s.raiseMon 1).monNo ("LEVEL ".toList ++ [hexDigit n]) else f s

/-- A command takes a grant of MONITOR, or waits for the next cadence (R446). -/
def State.monGranted (s : State) (f : State → State) : State :=
  match s.busGrant 11 with
  | some t => f t
  | none => s.noteAsked 11 [11]

/-- A command without arguments. -/
def State.monPlain (s : State) (c : Char) (level : Nat) (f : State → State) : State :=
  match s.monWaits c with
  | none => s
  | some [] => (s.monNeeds level f).monSettle
  | some _ => s.monSyntax.monSettle

/-- A result field. -/
def monField (name : String) (digits v : Nat) : List Char := name.toList ++ [' '] ++ hexN digits v
def monFields (fs : List (String × Nat × Nat)) : List Char :=
  match fs with
  | [] => []
  | f :: t => t.foldl (fun l g => l ++ [' '] ++ monField g.1 g.2.1 g.2.2) (monField f.1 f.2.1 f.2.2)

/-! ### Summary commands (R440) -/

def State.monHelp (s : State) : State := s.monPlain '?' 1 fun t => t.monOk monLetters

def State.monV (s : State) : State :=
  s.monPlain 'v' 1 fun t => t.monGranted fun t =>
    t.monOk ("CV-3218 ".toList ++ monFields [("REV", 2, t.fld Reg.PLN_REV 0 8), ("GRADE", 1, flag t.fuses.grade),
      ("SID", 14, t.fuses.silicon.toNat), ("DIG", 9, ((t.arm.committed.map fun i => i.digest.toNat).getD 0)),
      ("EP", 5, ((t.arm.committed.map fun i => i.epoch.toNat).getD 0)), ("NODE", 1, t.nodeId)])

def powerCode : Power → Nat
  | .on => 0 | .doze => 1 | .off => 2 | .gated => 3

def State.monS (s : State) : State :=
  s.monPlain 's' 1 fun t => t.monGranted fun t =>
    t.monOk (monFields [("BOOT", 1, t.fld Reg.PLN_BOOT 0 3), ("RDY", 1, t.fld Reg.PLN_BOOT 3 1), ("XTAL", 1, t.fld Reg.CLK_STS 0 1),
      ("IRC", 1, t.fld Reg.CLK_STS 1 1)] ++ " ISL ".toList ++ Island.all.map fun i => hexDigit (powerCode (t.island i).power))

def State.monE (s : State) : State :=
  s.monPlain 'e' 1 fun t => t.monGranted fun t =>
    t.monOk (monFields [("CEIL", 4, (t.rd Reg.NRG_CEIL).toNat), ("SRC", 1, t.fld Reg.NRG_STS 4 2), ("POWER", 5, (t.rd Reg.NRG_POWER).toNat),
      ("FCST", 5, (t.rd Reg.NRG_FORECAST).toNat), ("STEP", 1, t.fld Reg.NRG_STS 0 3), ("OVER", 1, t.fld Reg.NRG_STS 3 1)])

def State.monT (s : State) : State :=
  match s.monWaits 't' with
  | none => s
  | some [] => (s.monNeeds 1 fun t => t.monGranted fun t =>
      t.monOk (monFields [("LEN", 3, (t.rd Reg.TMP_CAD_LEN).toNat), ("CNT", 5, (t.rd Reg.TMP_CAD_CNT).toNat),
        ("QUOTA", 1, t.fld Reg.TMP_QUOTA 0 4)])).monSettle
  | some [b, a] =>
    (match hexArg 1 0 4 b, hexArg 1 0 15 a with
      | some b, some a => s.monNeeds 1 fun t => t.monGranted fun t =>
        let v := fun k => (joinWords (t.captureTmp (0x80 * k + 16 * b + a)))
        t.monOk (monFields [("MIN", 5, v 0), ("MAX", 5, v 1), ("GRANTS", 9, v 2), ("SHORT", 9, v 3)])
      | _, _ => s.monSyntax).monSettle
  | some _ => s.monSyntax.monSettle

def State.monG (s : State) : State :=
  s.monPlain 'g' 1 fun t => t.monGranted fun t =>
    t.monOk (monFields [("STATE", 1, t.fld Reg.RNG_STS 0 3), ("NODE", 1, t.nodeId), ("KEEPER", 1, t.fld Reg.RNG_NODE 5 4),
      ("MEMBERS", 4, (t.rd Reg.RNG_MEMBERS).toNat), ("MISSING", 4, (t.rd Reg.RNG_MISSING).toNat), ("DEV", 5, (t.rd Reg.RNG_DEV).toNat)])

def State.monQ (s : State) : State :=
  match s.monWaits 'q' with
  | none => s
  | some [n] =>
    (match hexArg 3 0 2047 n with
      | some n => s.monNeeds 1 fun t => t.monGranted fun t =>
        let q := t.queue n
        t.monOk (monFields [("STATE", 1, qStateCode q.state), ("TYPE", 1, q.typ), ("PROD", 5, q.prod.toNat), ("CONS", 5, q.cons.toNat),
          ("DROPS", 9, q.drops.toNat)])
      | none => s.monSyntax).monSettle
  | some _ => s.monSyntax.monSettle

def State.monC (s : State) : State :=
  match s.monWaits 'c' with
  | none => s
  | some [n] =>
    (match hexArg 2 0 127 n with
      | some n => s.monNeeds 1 fun t => t.monGranted fun t =>
        let c := t.chn n
        t.monOk (monFields [("STATE", 1, chStateCode c.state), ("GEN", 3, c.gen.toNat), ("LOST", 9, c.lost.toNat)])
      | none => s.monSyntax).monSettle
  | some _ => s.monSyntax.monSettle

def State.monX (s : State) : State :=
  match s.monWaits 'x' with
  | none => s
  | some [n] =>
    (match hexArg 1 0 3 n with
      | some n => s.monNeeds 1 fun t => t.monGranted fun t =>
        let w := (Tab.get ({ } : EyeRes) t.link.eyes n).word
        t.monOk (monFields [("WIDTH", 2, fieldOf w 0 7), ("HEIGHT", 3, fieldOf w 7 9), ("PASS", 1, fieldOf w 16 1)])
      | none => s.monSyntax).monSettle
  | some [n, k] =>
    (match hexArg 1 0 3 n, hexArg 1 1 1 k with
      | some n, some _ => s.monNeeds 2 fun t => t.monGranted fun t => (t.eyeStart n).monOk "ok".toList
      | _, _ => s.monSyntax).monSettle
  | some _ => s.monSyntax.monSettle

/-! ### `a`: the armature, and the end of a load (R440, R445) -/

/-- The reply of `a`: the staged image's figures while there is one, else the committed image's. -/
def State.monArmature (s : State) : List Char :=
  let im := s.arm.staged.orElse fun _ => s.arm.committed
  monFields [("STAGE", 1, s.stage), ("SLOT", 1, s.fld Reg.ARM_STS 7 1), ("SIGNED", 1, ((im.map fun i => flag i.signed).getD 0)),
    ("MAQ", 1, flag s.maquette), ("DIG", 9, ((im.map fun i => i.digest.toNat).getD 0)), ("EP", 5, ((im.map fun i => i.epoch.toNat).getD 0))]

def argIs (w : List (BitVec 8)) (c : BitVec 8) : Bool := decide (w = [c])

def State.monA (s : State) : State :=
  match s.monWaits 'a' with
  | none => s
  | some [] => (s.monNeeds 1 fun t => t.monGranted fun t => t.monOk t.monArmature).monSettle
  | some [w] => if argIs w 0x65 || argIs w 0x78 then s else s.monSyntax.monSettle
  | some _ => s.monSyntax.monSettle

/-- The verification that `a e` waits for has ended: the reply (R445). -/
def State.monVerified (s : State) : State :=
  if s.mon.loadWait then
    match s.stage with
    | 3 => (s.monOk s.monArmature).monSettle
    | 4 => (s.monNo ("ARM ".toList ++ hexMin (s.fld Reg.ARM_ERR 0 5))).monSettle
    | _ => s
  else s

/-- `a e`: the load ends and is verified. -/
def State.monLoadEnd (s : State) : State :=
  match s.monWaits 'a' with
  | some [w] =>
    if argIs w 0x65 then
      (s.monNeeds 3 fun t => t.monGranted fun t =>
        if t.arm.monLoad then
          let u := { t with arm := { t.arm with received := t.mon.loadTop } }.beginVerify
          { u with mon := { u.mon with loadWait := true } }
        else t.monNo "STATE".toList).monSettle
    else s
  | _ => s

/-- `a x`: the load is aborted. -/
def State.monLoadAbort (s : State) : State :=
  match s.monWaits 'a' with
  | some [w] =>
    if argIs w 0x78 then
      (s.monNeeds 3 fun t => t.monGranted fun t =>
        if t.arm.monLoad then let u := t.abortLoad; u.monOk u.monArmature else t.monNo "STATE".toList).monSettle
    else s
  | _ => s

/-! ### Loading (R443, R444) -/

/-- `l` starts a load from source 3. -/
def State.monL (s : State) : State :=
  s.monPlain 'l' 3 fun t => t.monGranted fun t =>
    match t.loadRefusal 3 with
    | some c => (t.loadRefused c).monNo ("ARM ".toList ++ hexMin c)
    | none =>
      let u := t.beginLoad 3
      let u := { u with arm := { u.arm with monLoad := true }, mon := { u.mon with loadTop := 0, loadSeen := 0 } }
      (u.setBit Reg.MON_STS 4 true).monOk "load".toList

/-- The five-digit words of a hex line. -/
def hexWords : Nat → List (BitVec 8) → Option (List Nat)
  | 0, _ => some []
  | n + 1, l => match hexNum 0 (l.take 5), hexWords n (l.drop 5) with
    | some v, some ws => some (v :: ws)
    | _, _ => none

/-- A hex line: its address and words, where its form and checksum are right (R444). A word is at most 0x3FFFF. -/
def hexLine (line : List (BitVec 8)) : Option (Nat × List Word) :=
  let n := (line.length - 11) / 5
  if line.head? = some 0x3A ∧ line.length = 11 + 5 * n ∧ 1 ≤ n ∧ n ≤ 16 then
    match hexNum 0 ((line.drop 1).take 6), hexWords n (line.drop 7), hexNum 0 (line.drop (7 + 5 * n)) with
    | some a, some ws, some c =>
      if (a + ws.sum + c) % 65536 = 0 ∧ (ws.all fun w => decide (w < 0x40000)) = true then some (a, ws.map word) else none
    | _, _, _ => none
  else none

/-- Why a word of a monitor load is refused (R444): past word 65,535 or past LENGTH + 68 once words 0 to 3 are present,
else outside the staging area. -/
def State.hexCause (s : State) (k : Nat) : Option Nat :=
  if 65536 ≤ k ∨ (s.mon.loadSeen = 15 ∧ (wordAt s.arm.staging 3).toNat + 68 ≤ k) then some 16
  else if s.stagingRoom ≤ k then some 14 else none

/-- The cause and the first word of a line that is refused: an overrun before a lack of room. -/
def State.hexRefusal (s : State) (a n : Nat) : Option (Nat × Nat) :=
  let bad := fun (c : Nat) => (List.range n).find? fun j => decide (s.hexCause (a + j) = some c)
  match bad 16, bad 14 with
  | some j, _ => some (16, a + j)
  | none, some j => some (14, a + j)
  | none, none => none

/-- The words of a good line are staged. -/
def State.hexStage (s : State) (a : Nat) (ws : List Word) : State :=
  let t := s.forAll (List.range ws.length) fun t j => t.stageWord (a + j) (wordAt ws j)
  let seen := BitVec.ofNat 4 (((List.range 4).filter fun k => decide (a ≤ k ∧ k < a + ws.length)).map fun k => 2 ^ k).sum
  { t with mon := { t.mon with loadTop := max t.mon.loadTop (a + ws.length), loadSeen := t.mon.loadSeen ||| seen } }

/-- A hex line is executed. -/
def State.monHex (s : State) : State :=
  if !s.monAlive || decide (s.mon.running ≠ 0) || s.mon.loadWait then s
  else match s.mon.cmd with
    | none => s
    | some line =>
      if line.head? ≠ some 0x3A then s
      else (match hexLine line with
        | none => s.monNo "LINE".toList
        | some (a, ws) =>
          if !s.arm.monLoad then s.monNo "STATE".toList
          else match s.hexRefusal a ws.length with
            | some (c, k) => (s.armRecord { cause := c, word := k }).monNo ("ARM ".toList ++ hexMin c)
            | none => (s.hexStage a ws).monOk (hexN 6 (a + ws.length))).monSettle

/-! ### `b` and `z` (R440, R442) -/

def State.monB (s : State) : State :=
  match s.monWaits 'b' with
  | none => s
  | some [k] =>
    (match hexArg 1 0 7 k with
      | some k => s.monNeeds 1 fun t => (t.monOk "ok".toList).setFld Reg.MON_STS 1 3 k
      | none => s.monSyntax).monSettle
  | some _ => s.monSyntax.monSettle

def State.monZ (s : State) : State :=
  s.monPlain 'z' 3 fun t => let u := t.monOk "z".toList; { u with mon := { u.mon with zDue := true } }

def State.monZReset (s : State) : State :=
  if s.mon.zDue then s.resetDevice false 2 (BitVec.ofNat 4 (s.fld Reg.PLN_STRAP 0 4)) else s

/-! ### Register commands: `r`, `w`, `p` (R439 to R441) -/

/-- An access of the running command waits, for a wake or for the next cadence. -/
def State.monHeld (s : State) : Bool :=
  (s.waiters.any fun w => decide (w.acc.req = .monitor)) || s.busWait.any fun w => decide (w.acc.req = .monitor)

/-- The reply of a register command whose accesses are all made. -/
def State.monDone (s : State) : State :=
  let line := fun (e : BitVec 24 × Word) => "= ".toList ++ hexN 6 e.1.toNat ++ [' '] ++ hexN 5 e.2.toNat
  match s.mon.running with
  | 1 => s.monReply (s.mon.got.map line) true
  | 2 => s.monOk "ok".toList
  | _ => if s.mon.pairFailed then s.monNo ("PAIR ".toList ++ hexMin (s.fld Reg.PLN_PAIR_LAST 4 3))
    else s.monReply (s.mon.got.map line) true

/-- The accesses still to make are made in order, each after the completion of the last (R439). -/
def State.monSteps (s : State) : Nat → State
  | 0 => s
  | fuel + 1 =>
    if !s.monAlive || decide (s.mon.running = 0) || s.monHeld then s
    else match s.mon.todo with
      | [] => s.monDone
      | (w, addr, v) :: _ => (s.access w { req := .monitor, addr := addr, value := dwordOf v }).monSteps fuel

/-- The monitor goes on where it can. -/
def State.monPump (s : State) : State :=
  if s.mon.running = 0 then s else (s.monSteps 18).monSettle

/-- A register command begins. -/
def State.monBegin (s : State) (kind : Nat) (todo : List (Bool × BitVec 24 × Word)) : State :=
  { s with mon := { s.mon with running := kind, todo := todo, got := [], slots := todo.length, pairFailed := false } }.monPump

def State.monR (s : State) : State :=
  match s.monWaits 'r' with
  | none => s
  | some [o] =>
    (match hexArg 6 0 0xFFFFFF o with
      | some o => s.monNeeds 1 fun t => t.monBegin 1 [(false, BitVec.ofNat 24 o, 0)]
      | none => s.monSyntax).monSettle
  | some [o, n] =>
    (match hexArg 6 0 0xFFFFFF o, hexArg 2 1 16 n with
      | some o, some n => s.monNeeds 1 fun t => t.monBegin 1 ((List.range n).map fun k => (false, BitVec.ofNat 24 (o + 4 * k), 0))
      | _, _ => s.monSyntax).monSettle
  | some _ => s.monSyntax.monSettle

def State.monW (s : State) : State :=
  match s.monWaits 'w' with
  | none => s
  | some [o, v] =>
    (match hexArg 6 0 0xFFFFFF o, hexArg 5 0 0x3FFFF v with
      | some o, some v => s.monNeeds 2 fun t => t.monBegin 2 [(true, BitVec.ofNat 24 o, word v)]
      | _, _ => s.monSyntax).monSettle
  | some _ => s.monSyntax.monSettle

/-- The level that `p` at an offset needs: 3 for pairs 4, 6 and 8. -/
def pairLevel (o : Nat) : Nat :=
  match pairAt? o with
  | some (4, _) | some (6, _) | some (8, _) => 3
  | _ => 2

def State.monP (s : State) : State :=
  match s.monWaits 'p' with
  | none => s
  | some [o, v] =>
    (match hexArg 6 0 0xFFFFFF o, hexArg 5 0 0x3FFFF v with
      | some o, some v => s.monNeeds (pairLevel o) fun t =>
        t.monBegin 3 [(true, BitVec.ofNat 24 o, word v), (true, BitVec.ofNat 24 (o + 4), ~~~(word v)), (false, BitVec.ofNat 24 o, 0)]
      | _, _ => s.monSyntax).monSettle
  | some _ => s.monSyntax.monSettle

/-! ### Event lines (R438) -/

/-- A held event line is sent, and a new prompt, in a session with no command running and the input line empty. -/
def State.monEventLine (s : State) : State :=
  if s.monAlive && s.monSession && !s.monBusy && decide (s.mon.line = []) && !s.mon.tooLong then
    match s.mon.events with
    | [] => s
    | e :: rest => ({ s with mon := { s.mon with events := rest } }.monLine ("# EV".toList ++ dec3 e)).monPrompt
  else s

end Sys2Proof.Machine
end

