-- ==== Sys2Proof/Machine/Armature.lean ====
section
/-!
DEFINITION. The commands on the armature (04_armature.md, R110 to R126): loads, verification, flash, commits and re-casts,
fuses, maquette mode.
-/

namespace Sys2Proof.Machine

/-- FLASH_SLOT_READ_DONE (R112). -/
def execFlashSlotReadDone (s : State) : Out := .next s.slotRead

/-- ARM_VERIFY_DONE (R117): a monitor's `a e` that waits for it gets its reply (R445). -/
def execArmVerifyDone (s : State) : Out := .next s.verifyDone.monVerified.monPump

/-! ### ARM_LOAD_CTL and ARM_DATA -/

/-- LOAD_START (R116): bit 0. -/
def execLoadStart (req : Requester) (s : State) : Out := .next (s.writeReg req Reg.ARM_LOAD_CTL 1)

/-- ARM_DATA_WRITE (R116). -/
def execArmDataWrite (req : Requester) (word : Word) (s : State) : Out := .next (s.writeReg req Reg.ARM_DATA word)

/-- LOAD_END (R116): bit 1. -/
def execLoadEnd (req : Requester) (s : State) : Out := .next (s.writeReg req Reg.ARM_LOAD_CTL 2)

/-- LOAD_ABORT (R126): bit 2 (State.abortCtl). -/
def execLoadAbort (req : Requester) (s : State) : Out := .next (s.writeReg req Reg.ARM_LOAD_CTL 4)

/-- LOAD_FLASH (R112): bit 3. -/
def execLoadFlash (req : Requester) (s : State) : Out := .next (s.writeReg req Reg.ARM_LOAD_CTL 8)

/-- PROG_A (R113): bit 4. -/
def execProgA (req : Requester) (s : State) : Out := .next (s.writeReg req Reg.ARM_LOAD_CTL 16)

/-- PROG_B (R113): bit 5. -/
def execProgB (req : Requester) (s : State) : Out := .next (s.writeReg req Reg.ARM_LOAD_CTL 32)

/-- ARM_PROGDONE (R113). -/
def execArmProgdone (mismatch : Option Nat) (s : State) : Out := .next (s.programDone mismatch)

/-! ### The _C writes of pairs 4 and 6 -/

/-- COMMIT_WHOLE (R119, R120): the _C write of pair 4. -/
def execCommitWhole (req : Requester) (c : Word) (s : State) : Out := .next (s.writeReg req (pairV 4 + 4) c)

/-- RECAST (R119, R121): the _C write of pair 4. -/
def execRecast (req : Requester) (c : Word) (s : State) : Out := .next (s.writeReg req (pairV 4 + 4) c)

/-- FUSE_PROGRAM (R110): the _C write of pair 6. -/
def execFuseProgram (req : Requester) (c : Word) (s : State) : Out := .next (s.writeReg req (pairV 6 + 4) c)

/-- FUSE_PROGRAM_DONE (R110). -/
def execFuseProgramDone (ok : Bool) (s : State) : Out := .next (s.fuseDone ok)

/-- MAQUETTE_WRITE (R124). -/
def execMaquetteWrite (req : Requester) (en : Bool) (s : State) : Out := .next (s.writeReg req Reg.ARM_MAQ (word (flag en)))

end Sys2Proof.Machine
end

