-- ==== Sys2Proof/Machine/Channels.lean ====
section
/-!
DEFINITION. The commands on channels (08_channels_queues_events.md, R209 to R216).
-/

namespace Sys2Proof.Machine

/-- CREATE (R209 to R211): CHN_OP 1. -/
def execCreate (req : Requester) (s : State) : Out := .next (s.writeReg req Reg.CHN_OP 1)

/-- CHN_QUIESCE (R212): CHN_OP 2. -/
def execChnQuiesce (req : Requester) (s : State) : Out := .next (s.writeReg req Reg.CHN_OP 2)

/-- RESUME (R214): CHN_OP 3. -/
def execResume (req : Requester) (s : State) : Out := .next (s.writeReg req Reg.CHN_OP 3)

/-- DESTROY (R215, R216): CHN_OP 4. -/
def execDestroy (req : Requester) (s : State) : Out := .next (s.writeReg req Reg.CHN_OP 4)

/-- CHN_OP_INVALID (R209): the code as written; one that names no operation is answered with its result. -/
def execChnOpInvalid (req : Requester) (code : BitVec 3) (s : State) : Out := .next (s.writeReg req Reg.CHN_OP (word code.toNat))

/-- CHANNEL_QUIESCED (R213). -/
def execChannelQuiesced (slot : Fin 128) (s : State) : Out := .next (s.quiesced slot.val)

end Sys2Proof.Machine
end

