-- ==== Sys2Proof/Machine/Clocks.lean ====
section
/-!
DEFINITION. The commands on the clocks and the operating points (03_islands_and_clocks.md, R70 to R83).
-/

namespace Sys2Proof.Machine

/-! ### Judging the crystal -/

/-- XTAL_IRC_GATE_END (R70). -/
def execXtalIrcGateEnd (count : Nat) (s : State) : Out := .next (s.ircGate count)

/-- REFCLK_GATE_END (R71). -/
def execRefclkGateEnd (count : Nat) (s : State) : Out := .next (s.refGate count)

/-- REFCLK_GATE_STALL (R71). -/
def execRefclkGateStall (s : State) : Out := .next s.refStall

/-- JUDGE_TIMEOUT (R73). -/
def execJudgeTimeout (s : State) : Out := .next s.judgeOver

/-- REJUDGE (R74): CLK_CTL is written as it stands, with REJUDGE set. -/
def execRejudge (req : Requester) (s : State) : Out :=
  .next (s.writeReg req Reg.CLK_CTL (withField (s.rd Reg.CLK_CTL) 1 1 1))

/-- PLN_SRC_SWITCH (R75). -/
def execPlnSrcSwitch (req : Requester) (irc : Bool) (s : State) : Out :=
  .next (s.writeReg req Reg.CLK_CTL (word (flag irc)))

/-- XTAL_STOP (R76). -/
def execXtalStop (s : State) : Out := .next s.xtalStops

/-! ### The frequency-measuring counter -/

/-- FMC_START (R78, R79): CLK_FMC_CTL is written with START set. -/
def execFmcStart (req : Requester) (ctl : Word) (s : State) : Out :=
  .next (s.writeReg req Reg.CLK_FMC_CTL (withField ctl 13 1 1))

/-- FMC_GATE_END (R78). -/
def execFmcGateEnd (count : BitVec 36) (s : State) : Out := .next (s.fmcEnd count)

/-- FMC_TIMEOUT (R79). -/
def execFmcTimeout (s : State) : Out := .next s.fmcOver

/-! ### Operating points -/

/-- OP_REQUEST (R81, R82). -/
def execOpRequest (req : Requester) (i : Island) (point : BitVec 2) (s : State) : Out :=
  .next (s.writeReg req (Reg.PLN_ISL_OPREQ i.idx) (word point.toNat))

/-- SEQUENCER_SETTLE_END (R82). -/
def execSequencerSettleEnd (i : Island) (s : State) : Out := .next (s.seqSettled i)

/-- SEQUENCER_STEP_DONE (R82). -/
def execSequencerStepDone (i : Island) (s : State) : Out := .next (s.seqDone i)

end Sys2Proof.Machine
end

