-- ==== Sys2Proof/Machine/Handshake.lean ====
section
/-!
DEFINITION. The handshake channels as their entries are read and their waiting senders resume (R52, R53). The entries
that the model sends are records of the quads and estimates of the virtual encoders; the other channels carry traffic
whose effects the commands have at once (log entry 50).
-/

namespace Sys2Proof.Machine

/-- The target that a record covers last: of a TRIGGER or GAP entry that is no standstill frame (R225, R226, R323). -/
def recordEnd (typ : Nat) (ws : List Word) : Option Int :=
  let at_ := fun k => some (signed54 (join54 (wordAt ws k) (wordAt ws (k + 1)) (wordAt ws (k + 2))))
  match typ with
  | 1 => if (wordAt ws 1).getLsbD 6 then none else at_ 3
  | 2 => at_ 6
  | _ => none

/-- The receiver takes an entry: the queue island a record, a quad an estimate. -/
def State.takeEntry (s : State) (c : ChannelId) (e : HsEntry) : State :=
  match e with
  | .record q typ ws slot p =>
    let t := match recordEnd typ ws with
      | some x => s.modPort p fun y => { y with lastRec := some x }
      | none => s
    t.stageEntry q { typ := typ, words := ws, slot := some slot, port := some p }
  | .estimate v est => match c with
    | .motTq q => s.setEst q.val v est
    | _ => s
  | .words _ => s

/-- The receiver of a channel reads: it runs and does not hold its channels. -/
def State.reads (s : State) (i : Island) : Bool := s.isOn i && !s.stopped i && !s.stepping i

/-- The queue island leaves records where they are while its staging area is full (R223). -/
def State.stageHolds (s : State) (e : HsEntry) : Bool :=
  match e with
  | .record .. => decide (s.stageCap ≤ s.stagedCount)
  | _ => false

/-- What is readable is taken in order, as long as it has room. -/
def State.takeSome (s : State) (c : ChannelId) : Nat → State
  | 0 => s
  | n + 1 =>
    match (s.hs c).readable with
    | [] => s
    | e :: rest => if s.stageHolds e then s else State.takeSome ((s.setHs c { s.hs c with readable := rest }).takeEntry c e) c n

/-- A reading receiver takes what is readable, in order. -/
def State.takeReadable (s : State) (c : ChannelId) : State :=
  if s.reads c.receiver then s.takeSome c (s.hs c).readable.length else s

/-- The records that waited in the quads' channels for room in the staging area (R223). -/
def State.takeWaiting (s : State) : State := s.forAll (List.range 4) fun t q => t.takeReadable (.tqQue (Fin.ofNat 4 q))

/-- The oldest entry in flight becomes readable. -/
def State.entryDelivered (s : State) (c : ChannelId) : State :=
  let x := s.hs c
  match x.inFlight with
  | e :: rest => (s.setHs c { x with inFlight := rest, readable := x.readable ++ [e] }).takeReadable c
  | [] => s.takeReadable c

/-- Room in a channel, and a receiver that does not hold it. -/
def State.hsRoom (s : State) (c : ChannelId) : Bool :=
  decide ((s.hs c).inFlight.length + (s.hs c).readable.length < c.depth) && !s.stepping c.receiver && !s.gateClosed c.receiver

/-- A waiting sender writes its oldest entry. -/
def State.sendResumed (s : State) (c : ChannelId) : State :=
  let x := s.hs c
  match x.waiting with
  | e :: rest => if s.hsRoom c then s.setHs c { x with waiting := rest, inFlight := x.inFlight ++ [e] } else s
  | [] => s

end Sys2Proof.Machine
end

