-- ==== Sys2Proof/Machine/Queues.lean ====
section
/-!
DEFINITION. The commands on queues (08_channels_queues_events.md, R217 to R223; R187): queue commands, doorbells, the write
and fetch engines.
-/

namespace Sys2Proof.Machine

/-- A write to QUE_CMD (R219, R241): queue and operation. -/
def State.queueWrite (s : State) (req : Requester) (op q : Nat) : State := s.writeReg req Reg.QUE_CMD (word (q + op * 2048))

/-- QUEUE_ENABLE (R219). -/
def execQueueEnable (req : Requester) (q : Fin 2048) (s : State) : Out := .next (s.queueWrite req 1 q.val)

/-- QUEUE_DISABLE (R219). -/
def execQueueDisable (req : Requester) (q : Fin 2048) (s : State) : Out := .next (s.queueWrite req 2 q.val)

/-- QUEUE_RESET (R219). -/
def execQueueReset (req : Requester) (q : Fin 2048) (s : State) : Out := .next (s.queueWrite req 3 q.val)

/-- QUEUE_FAULTCLR (R219). -/
def execQueueFaultclr (req : Requester) (q : Fin 2048) (s : State) : Out := .next (s.queueWrite req 4 q.val)

/-- The queue island works: it is ON and holds nothing back (R82). -/
def State.queWorks (s : State) : Bool := s.isOn .que && !s.stopped .que && !s.stepping .que

/-- QUEUE_DRAIN_DONE (R219). -/
def execQueueDrainDone (q : Fin 2048) (s : State) : Out := .next (if s.queWorks then s.queueDrained q.val else s)

/-- DOORBELL (R25, R220): the doorbell of queue q lies at 0x200000 + 4q. -/
def execDoorbell (req : Requester) (q : Fin 2048) (count : Word) (s : State) : Out :=
  .next (s.writeReg req (0x200000 + 4 * q.val) count)

/-- QUEUE_ENTRY_WRITE (R187, R189, R221); the room it leaves is taken (R223). -/
def execQueueEntryWrite (q : Fin 2048) (ecc : EntryEcc) (s : State) : Out :=
  .next (if s.queWorks then (s.writeEntry q.val ecc).takeWaiting else s)

/-- COMMAND_FETCH (R223). -/
def execCommandFetch (q : Fin 2048) (descUE : Bool) (s : State) : Out :=
  .next (if s.queWorks && decide ((s.queue q.val).typ = 3) then s.fetchOp q.val descUE 16 fun n => .cmdQueue q.val n else s)

end Sys2Proof.Machine
end

