-- ==== Sys2Proof/Machine/Commands.lean ====
section
/-!
DEFINITION. The commands that a channel's command queue carries (R227) and the trigger commands among them (R319). The entry
executed is the first one fetched for the queue; a row whose opcode is not that entry's does nothing.
-/

namespace Sys2Proof.Machine

/-! ### The entry to be executed -/

/-- The channel whose command queue this is. -/
def State.cmdSlot (s : State) (q : Nat) : Option Nat :=
  (s.que.chans.find? fun e => e.2.inUse && decide (e.2.cmdq = q)).map (·.1)

/-- The queue is stalled by a LOCK (R227). -/
def State.lockStalled (s : State) (q : Nat) : Bool := s.que.lockWait.any fun w => decide (w.2.2 = q)

/-- What the first fetched entry of a queue is. -/
inductive CmdHead where
  | nothing
  | stale
  | unknown
  | cmd (slot opcode : Nat) (operands : List Word)
deriving DecidableEq, Repr

/-- The first fetched entry: of another type than COMMAND, or with an opcode that R227 does not name, it is unknown; its handle
is judged first (R208, R227). -/
def State.cmdHead (s : State) (q : Nat) : CmdHead :=
  let x := s.queue q
  if !s.queWorks || decide (x.state ≠ .enabled) || decide (x.typ ≠ 3) || s.lockStalled q then .nothing
  else match x.fetched with
    | [] => .nothing
    | e :: _ =>
      if e.typ ≠ 0x20 then .unknown
      else match s.cmdSlot q with
        | none => .stale
        | some slot =>
          if wordAt e.words 0 ≠ s.handleOf slot then .stale
          else
            let op := (wordAt e.words 1).toNat
            if (1 ≤ op ∧ op ≤ 4) ∨ (0x10 ≤ op ∧ op ≤ 0x1F) then .cmd slot op (e.words.drop 2) else .unknown

/-- The entry has been executed or skipped. -/
def State.cmdOver (s : State) (q : Nat) : State := s.modQueue q fun x => { x with fetched := x.fetched.drop 1 }

/-- The entry is skipped as refused: QUE_BADCMD. -/
def State.cmdRefused (s : State) (q : Nat) : State := (s.cmdOver q).raiseQue 5

/-- Runs the first entry where it is a command with this opcode. -/
def State.onCmd (s : State) (q opcode : Nat) (f : Nat → List Word → State) : State :=
  match s.cmdHead q with
  | .cmd slot op ws => if op = opcode then f slot ws else s
  | _ => s

/-! ### MARK, QUIESCE, LOCK, UNLOCK -/

/-- CMD_MARK (R224, R227). -/
def execCmdMark (q : Fin 2048) (s : State) : Out :=
  .next (s.onCmd q.val 1 fun slot ws =>
    (s.cmdOver q.val).stageRecord slot 3 [s.handleOf slot, wordAt ws 0, wordAt ws 1, 0] none none)

/-- CMD_QUIESCE (R212, R227). -/
def execCmdQuiesce (q : Fin 2048) (s : State) : Out :=
  .next (s.onCmd q.val 2 fun slot _ => (s.cmdOver q.val).quiesceChan slot false)

/-- The lock is taken for a channel, and a LOCKED entry written with the result (R224, R227). -/
def State.lockedFor (s : State) (q slot n : Nat) : State :=
  let r := s.lockAcquire n (.chan slot)
  (r.2.cmdOver q).stageRecord slot 5 [s.handleOf slot, word n, r.1] none none

/-- LOCK: granted at once where the lock is free and no channel waits for it, else the queue stalls (R227, R244). -/
def State.cmdLockOp (s : State) (q slot : Nat) (ws : List Word) : State :=
  let n := (wordAt ws 0).toNat
  if 64 ≤ n then s.cmdRefused q
  else if (s.lock n).owner.isNone && !(s.que.lockWait.any fun w => decide (w.1 = n)) then s.lockedFor q slot n
  else { s with que := { s.que with lockWait := s.que.lockWait ++ [(n, slot, q)] } }

/-- CMD_LOCK (R227). -/
def execCmdLock (q : Fin 2048) (s : State) : Out := .next (s.onCmd q.val 3 fun slot ws => s.cmdLockOp q.val slot ws)

/-- The lock that a queue waits for is free, and no queue has waited for it longer: it is granted. -/
def State.lockGranted (s : State) (q : Nat) : State :=
  match s.que.lockWait.find? fun w => decide (w.2.2 = q) with
  | none => s
  | some (n, slot, _) =>
    let first := (s.que.lockWait.find? fun w => decide (w.1 = n)).any fun w => decide (w.2.2 = q)
    if s.queWorks && decide ((s.queue q).state = .enabled) && (s.lock n).owner.isNone && first then
      { s with que := { s.que with lockWait := s.que.lockWait.filter fun w => !decide (w.2.2 = q) } }.lockedFor q slot n
    else s

/-- CMD_LOCK_GRANTED (R227). -/
def execCmdLockGranted (q : Fin 2048) (s : State) : Out := .next (s.lockGranted q.val)

/-- UNLOCK: the lock is released where the channel owns it. -/
def State.cmdUnlockOp (s : State) (q slot : Nat) (ws : List Word) : State :=
  let n := (wordAt ws 0).toNat
  let t := s.cmdOver q
  if (s.lock n).owner = some (.chan slot) then t.lockFree n else t

/-- CMD_UNLOCK (R227). -/
def execCmdUnlock (q : Fin 2048) (s : State) : Out := .next (s.onCmd q.val 4 fun slot ws => s.cmdUnlockOp q.val slot ws)

/-- An entry that is stale or unknown is skipped. -/
def State.cmdSkip (s : State) (q : Nat) : State :=
  match s.cmdHead q with
  | .stale => (s.cmdOver q).raiseQue 6
  | .unknown => s.cmdRefused q
  | _ => s

/-- CMD_STALE_OR_UNKNOWN (R227). -/
def execCmdStaleOrUnknown (q : Fin 2048) (s : State) : Out := .next (s.cmdSkip q.val)

/-! ### The trigger commands (R319) -/

/-- The grid of a channel changes: its old grid fires on up to the anchor for the ports that are still behind, the new one
beyond it; with no target decided yet, the new one's targets behind the present position count as passed (log entry 58). -/
def State.newGrid (s : State) (slot : Nat) (x0 : Int) (x0In : Bool) (pitch : Nat) : State :=
  let c := s.chn slot
  let pos := (s.ve c.ve).est.posAt s.nowSt
  match s.anchor slot with
  | none => s.setChn slot { c with x0 := x0, x0In := x0In, pitch := pitch
                                   bornAt := max c.bornAt (if c.dirDown then -pos else pos).floor }
  | some a =>
    s.setChn slot { c with x0 := x0, x0In := x0In, pitch := pitch,
                           oldGrids := c.oldGrids ++ [(c.x0, c.x0In, c.pitch, fwd c.dirDown a)] }

/-- PITCH: the grid becomes A + j × P′; before any target is decided it keeps its origin (log entry 51). -/
def State.cmdPitchOp (s : State) (q slot : Nat) (ws : List Word) : State :=
  let c := s.chn slot
  let p := (wordAt ws 0).toNat
  if p < ((template? s.image c.tmpl).map (·.pitchMin)).getD 1 ∨ p = 0 then s.cmdRefused q
  else match s.anchor slot with
    | none => (s.newGrid slot c.x0 c.x0In p).cmdOver q
    | some a => (s.newGrid slot (fwd c.dirDown a) false p).cmdOver q

/-- CMD_PITCH (R319). -/
def execCmdPitch (q : Fin 2048) (s : State) : Out := .next (s.onCmd q.val 0x10 fun slot ws => s.cmdPitchOp q.val slot ws)

def State.cmdExposureOp (s : State) (q slot : Nat) (ws : List Word) : State :=
  let c := s.chn slot
  let e := (wordAt ws 0).toNat
  if ((template? s.image c.tmpl).map (·.expMax)).getD 0 < e then s.cmdRefused q
  else (s.setChn slot { c with expo := e }).cmdOver q

/-- CMD_EXPOSURE (R319). -/
def execCmdExposure (q : Fin 2048) (s : State) : Out :=
  .next (s.onCmd q.val 0x11 fun slot ws => s.cmdExposureOp q.val slot ws)

/-- REPHASE: the grid becomes X0 + j × P, X0 beyond the anchor. -/
def State.cmdRephaseOp (s : State) (q slot : Nat) (ws : List Word) : State :=
  let c := s.chn slot
  let x0 := signed54 (join54 (wordAt ws 0) (wordAt ws 1) (wordAt ws 2))
  let behind := match s.anchor slot with
    | some a => decide (fwd c.dirDown x0 ≤ a)
    | none => false
  if behind then s.cmdRefused q else (s.newGrid slot x0 true c.pitch).cmdOver q

/-- CMD_REPHASE (R319). -/
def execCmdRephase (q : Fin 2048) (s : State) : Out := .next (s.onCmd q.val 0x12 fun slot ws => s.cmdRephaseOp q.val slot ws)

/-- WINDOW_SET: the window is free or the channel's own, its end lies beyond its start, every port of its mask is bound. -/
def State.cmdWindowSetOp (s : State) (q slot : Nat) (ws : List Word) : State :=
  let n := (wordAt ws 0).toNat
  let w : Window := { owner := slot
                      start := signed54 (join54 (wordAt ws 1) (wordAt ws 2) (wordAt ws 3))
                      stop := signed54 (join54 (wordAt ws 4) (wordAt ws 5) (wordAt ws 6))
                      mask := BitVec.ofNat 32 (fieldOf (wordAt ws 7) 0 16 + fieldOf (wordAt ws 8) 0 16 * 65536) }
  let foreign := match s.window n with
    | some x => decide (x.owner ≠ slot)
    | none => false
  if 2048 ≤ n ∨ foreign = true ∨ w.stop ≤ w.start ∨ w.mask &&& ~~~(s.chn slot).ports ≠ 0 then s.cmdRefused q
  else (s.setWindow n (some w)).cmdOver q

/-- CMD_WINDOW_SET (R319). -/
def execCmdWindowSet (q : Fin 2048) (s : State) : Out :=
  .next (s.onCmd q.val 0x13 fun slot ws => s.cmdWindowSetOp q.val slot ws)

/-- WINDOW_CLEAR: of a window that the channel owns. -/
def State.cmdWindowClearOp (s : State) (q slot : Nat) (ws : List Word) : State :=
  let n := (wordAt ws 0).toNat
  match s.window n with
  | some x => if x.owner = slot then (s.setWindow n none).cmdOver q else s.cmdRefused q
  | none => s.cmdRefused q

/-- CMD_WINDOW_CLEAR (R319). -/
def execCmdWindowClear (q : Fin 2048) (s : State) : Out :=
  .next (s.onCmd q.val 0x14 fun slot ws => s.cmdWindowClearOp q.val slot ws)

/-- CMD_BLUR (R319). -/
def execCmdBlur (q : Fin 2048) (s : State) : Out :=
  .next (s.onCmd q.val 0x15 fun slot ws => (s.setChn slot { s.chn slot with blur := (wordAt ws 0).toNat }).cmdOver q.val)

/-- The trigger opcodes that R319 always refuses. -/
def State.cmdReservedOp (s : State) (q : Nat) : State :=
  match s.cmdHead q with
  | .cmd _ op _ => if 0x16 ≤ op then s.cmdRefused q else s
  | _ => s

/-- CMD_TRIGGER_RESERVED (R319). -/
def execCmdTriggerReserved (q : Fin 2048) (s : State) : Out := .next (s.cmdReservedOp q.val)

end Sys2Proof.Machine
end

