-- ==== Sys2Proof/Machine/Encoders.lean ====
section
/-!
DEFINITION. The commands on encoders, line events and virtual encoders (10_motion.md, R274 to R300). What an input does at
its pins comes as a command: a level outside the band for Q, a time in the band, the end of a probe.
-/

namespace Sys2Proof.Machine

/-- MOT is ON and its clock runs. -/
def State.motWorks (s : State) : Bool := s.isOn .mot && !s.stopped .mot

/-! ### Receivers -/

/-- The receiver of an input works: its encoder is used and enabled, and Z where PINS marks it used (R93, R274, R279). -/
def State.receives (s : State) (e : Nat) (i : EncInput) : Bool :=
  s.motWorks && decide (s.encFn e % 4 = 1 ∨ s.encFn e % 4 = 2) && s.bit (Reg.ENC_CTL e) 0 &&
    (decide (i ≠ .z) || (s.encFn e).testBit 2)

/-- The qualification time Q in sub-ticks (R275). -/
def State.encQ (s : State) (e : Nat) : Nat := 64 * (pinOf s.image 1 e).2

def Enc.input (x : Enc) : EncInput → EncIn
  | .a => x.a
  | .b => x.b
  | .z => x.z

def Enc.setInput (x : Enc) (i : EncInput) (v : EncIn) : Enc :=
  match i with
  | .a => { x with a := v }
  | .b => { x with b := v }
  | .z => { x with z := v }

/-! ### Counting (R277, R278, R282) -/

/-- The contrary count follows a count where PINS declares a direction (R282). -/
def State.contraryCount (s : State) (e : Nat) (up : Bool) : State :=
  let f := s.encFn e
  let x := s.enc e
  if !f.testBit 4 then s
  else if up = f.testBit 5 then
    let n := x.contrary + 1
    if decide (s.fld (Reg.ENC_CONTRARY e) 0 18 ≤ n) && !x.contraryOn then
      (s.setEnc e { x with contrary := n, contraryOn := true }).raiseEnc e 6
    else s.setEnc e { x with contrary := n }
  else
    let n := x.contrary - 1
    s.setEnc e { x with contrary := n, contraryOn := x.contraryOn && decide (n ≠ 0) }

/-- A count of ENCe: the counter steps, and every virtual encoder that it feeds takes the count (R277, R286). -/
def State.encCount (s : State) (e : Nat) (up : Bool) (st : Nat) : State :=
  let x := s.enc e
  let t := s.setEnc e { x with count := if up then x.count + 1 else x.count - 1, zSteps := x.zSteps.map (· + 1) }
  (t.contraryCount e up).sourceCount 1 e up st

/-- An illegal transition (R278): counted; more than the threshold within 1 ms raise ENC_ILLEGAL, once per entry. -/
def State.encIllegal (s : State) (e : Nat) : State :=
  let x := s.enc e
  let w := x.illegal.filter fun t => decide (s.now < t + msTicks 1)
  let thr := s.fld (Reg.ENC_ILL_THR e) 0 18
  let was := x.illegalOn && decide (thr < w.length)
  let on := decide (thr ≠ 0) && decide (thr < w.length + 1)
  let t := (s.setEnc e { x with illegal := w ++ [s.now], illegalOn := on }).bump (Reg.ENC_ILL_CNT e)
  if on && !was then t.raiseEnc e 5 else t

/-- A transition of A or B while both have a state: illegal within Q of the other's transition, else a count whose
direction is up when A leads B (R277, R278). -/
def State.encTransition (s : State) (e : Nat) (isA : Bool) (other : Option Nat) (st : Nat) : State :=
  let near := match other with
    | some o => decide (max o st - min o st ≤ s.encQ e)
    | none => false
  if near then s.encIllegal e
  else
    let x := s.enc e
    let differ := x.a.state != x.b.state
    s.encCount e (if isA then differ else !differ) st

/-- An edge of Z while the counter counts (R279 to R281): an index at a rising edge, unless Z is reversed, which a high of
more than 4 counts and a low of at most 4 counts show on two consecutive occasions. -/
def State.zEdge (s : State) (e : Nat) (st : Nat) : State :=
  let x := s.enc e
  let rising := (x.z.state == some true) != s.bit (Reg.ENC_CTL e) 2
  if !rising then s.setEnc e { x with zHigh := x.zSteps, zSteps := some 0 }
  else
    let seen := x.zHigh.isSome && x.zSteps.isSome
    let hit := decide (4 < x.zHigh.getD 0) && decide (x.zSteps.getD 5 ≤ 4)
    let occ := if !seen then x.zOcc else if hit then min 2 (x.zOcc + 1) else 0
    let rev := if !seen then x.zReversed else decide (2 ≤ occ)
    let t := s.setEnc e { x with zSteps := some 0, zOcc := occ, zReversed := rev }
    let t := if rev && !x.zReversed then t.raiseEnc e 4 else t
    if rev then t else (t.raiseEnc e 8).references false e st

/-- An input has stayed outside the band for Q, since `age` sub-ticks ago (R275, R276): an open or shorted pair is one no
longer; an excursion to the other side gives a new state, the first one no count. -/
def State.encQualified (s : State) (e : Nat) (i : EncInput) (high : Bool) (age : Nat) : State :=
  let x := s.enc e
  let v := x.input i
  if !s.receives e i || decide (age < s.encQ e) || v.probing.isSome then s
  else
    let v := { v with band := 0 }
    if v.state = some high then s.setEnc e (x.setInput i v)
    else
      let st := s.nowSt - age
      let first := v.state.isNone
      let w := { v with state := some high, lastSt := if first then v.lastSt else some st }
      let t := s.setEnc e { x.setInput i w with lastT := if first then x.lastT else s.devAtSt st }
      match i with
      | .z => if !first && t.encCounting e then t.zEdge e st else t
      | _ =>
        if !t.encCounting e then t
        else if first then t.raiseEnc e 0
        else t.encTransition e (decide (i = .a)) (if i = .a then x.b.lastSt else x.a.lastSt) st

/-- ENC_INPUT_QUALIFIED (R274 to R282). -/
def execEncInputQualified (e : Fin 8) (input : EncInput) (high : Bool) (age : Nat) (s : State) : Out :=
  .next (s.encQualified e.val input high age)

/-! ### Faults (R280, R281, R283) -/

/-- The band shows a condition of an input, or none any more, which is 0: its event is raised once per entry. -/
def State.encBand (s : State) (e : Nat) (i : EncInput) (c : Nat) : State :=
  let x := s.enc e
  let v := x.input i
  let t := s.setEnc e (x.setInput i { v with band := c, probing := none })
  if v.band = c ∨ c = 0 then t else t.raiseEnc e c

/-- ENC_BAND_TIMEOUT (R280, R281): an RS422 pair is probed; an HTL input is OPEN. -/
def execEncBandTimeout (e : Fin 8) (input : EncInput) (cmInside : Bool) (s : State) : Out :=
  .next (if !s.receives e.val input then s
    else if s.encFn e.val % 4 = 2 then s.encBand e.val input 1
    else
      let x := s.enc e.val
      s.setEnc e.val (x.setInput input { x.input input with probing := some cmInside }))

/-- The probe of a pair ends (R280, R281): OPEN above 50 mV, else SHORT_LL where the common mode stood in its window. -/
def State.probeDone (s : State) (e : Nat) (i : EncInput) (above : Bool) : State :=
  match ((s.enc e).input i).probing with
  | none => s
  | some inside => s.encBand e i (if above then 1 else if inside then 2 else 0)

/-- ENC_PROBE_DONE (R281). -/
def execEncProbeDone (e : Fin 8) (input : EncInput) (aboveFifty : Bool) (s : State) : Out :=
  .next (s.probeDone e.val input aboveFifty)

/-- The common mode of a pair has stayed outside its window for 1 µs, or is back within it; a pair outside it is no SHORT_LL
(R280). -/
def State.encCm (s : State) (e : Nat) (i : EncInput) (outside : Bool) : State :=
  let x := s.enc e
  let v := x.input i
  let t := s.setEnc e (x.setInput i { v with cm := outside, band := if outside = true ∧ v.band = 2 then 0 else v.band })
  if outside && !v.cm then t.raiseEnc e 3 else t

/-- ENC_SHORTCM (R280), of an RS422 pair. -/
def execEncShortcm (e : Fin 8) (input : EncInput) (outside : Bool) (s : State) : Out :=
  .next (if !s.receives e.val input || decide (s.encFn e.val % 4 ≠ 1) then s else s.encCm e.val input outside)

/-- ENC_SUPPLYFLT (R283). -/
def execEncSupplyflt (e : Fin 8) (s : State) : Out :=
  .next (if s.motWorks then
      ((s.setEnc e.val { s.enc e.val with flt := true }).setBit (Reg.ENC_CTL e.val) 1 false).raiseEnc e.val 7
    else s)

/-- ENC_SUPPLY_FAULT_END (R283). -/
def execEncSupplyFaultEnd (e : Fin 8) (s : State) : Out :=
  .next (if s.motWorks then s.setEnc e.val { s.enc e.val with flt := false } else s)

/-- ENC_CLRCNT (R300): ENC_CTL is written as it stands, with CLRCNT. -/
def execEncClrcnt (req : Requester) (e : Fin 8) (s : State) : Out :=
  .next (s.writeReg req (Reg.ENC_CTL e.val) (withField (s.rd (Reg.ENC_CTL e.val)) 3 1 1))

/-! ### Line events (R135, R284, R296) -/

/-- A line-event input takes a new state: the first one is its initial state; a rising edge is a count of KIND 3 (R96); a
change that EDGE selects captures time and position and raises the event. -/
def State.levChange (s : State) (n : Nat) (high : Bool) : State :=
  let x := s.lev n
  if !s.motWorks || decide ((pinOf s.image 2 n).1 ≠ 1) || decide (x.state = some high) then s
  else
    let first := x.state.isNone
    let t := s.setLev n { x with state := some high, count := if high && !first then x.count + 1 else x.count }
    if first then t
    else
      let t := if high then t.sourceCount 3 n true t.nowSt else t
      if (s.fld (Reg.LEV_CTL n) 0 2).testBit (if high then 0 else 1) then
        let p := t.vePos (t.fld (Reg.LEV_CTL n) 2 5) t.nowSt
        let t := (t.setLev n { t.lev n with capT := t.devTime, capP := toWord54 p }).raiseEnc (n / 2) (10 + n % 2)
        t.references true n t.nowSt
      else t

/-- LEV_STATE_CHANGE (R284). -/
def execLevStateChange (n : Fin 16) (high : Bool) (s : State) : Out := .next (s.levChange n.val high)

/-- DIRECT_LEV_CHANGE (R330): the level before the filter; every DIRECT port that follows the input drives its pins. -/
def execDirectLevChange (n : Fin 16) (high : Bool) (s : State) : Out :=
  .next (let t := s.setLev n.val { s.lev n.val with raw := high }
         t.forAll (List.range 32) fun t p => if pinOf t.image 0 p = (2, n.val) then t.directDrive p else t)

/-! ### Synthetic encoders (R285) -/

/-- A step of a synthetic encoder that is due, at its exact time. -/
def State.seStepOp (s : State) (n : Nat) : State :=
  let x := s.se n
  match x.due with
  | none => s
  | some d =>
    if s.motWorks && s.bit (Reg.SE_CTL n) 0 && decide (d < s.nowSt + 64) then
      let up := !s.bit (Reg.SE_CTL n) 1
      (s.setSe n { x with count := if up then x.count + 1 else x.count - 1, due := x.gap.map (d + ·) }).sourceCount 4 n up d
    else s

/-- SE_STEP (R285). -/
def execSeStep (n : Fin 4) (s : State) : Out := .next (s.seStepOp n.val)

/-! ### Virtual encoders (R288, R292, R295) -/

/-- The oldest count that the filter has held for FILT ticks since it came reaches the predictor, with its own time stamp
(R288). -/
def State.filterRelease (s : State) (v : Nat) : State :=
  match (s.ve v).held with
  | [] => s
  | h :: rest =>
    if s.motWorks && decide (h.atSt + 64 * (sprueOf s.image v).filt ≤ s.nowSt) then
      ((s.setVe v { s.ve v with held := rest }).veCount v h.up h.st).sendEstimate v
    else s

/-- SPRUE_FILTER_RELEASE (R288). -/
def execSprueFilterRelease (v : Fin 32) (s : State) : Out := .next (s.filterRelease v.val)

/-- No count has come for VE_STILL ms, which 0 makes 1, to a virtual encoder with a counted source, since the last one or since
it started (R292). -/
def State.veStillOp (s : State) (v : Nat) : State :=
  let x := s.ve v
  let from_ := x.lastSt.getD (64 * s.veStart v)
  let isOver := decide (from_ + 64 * msTicks (max 1 (s.fld (Reg.VE_STILL v) 0 18)) ≤ s.nowSt)
  if s.motWorks && !x.still && isOver && (sprueOf s.image v).counted then
    (s.setVe v (x.rest s.nowSt true)).sendEstimate v
  else s

/-- VE_STILL_TIMEOUT (R292). -/
def execVeStillTimeout (v : Fin 32) (s : State) : Out := .next (s.veStillOp v.val)

/-- VE_RESYNC (R300): VE_CTL is written as it stands, with RESYNC. -/
def execVeResync (req : Requester) (v : Fin 32) (s : State) : Out :=
  .next (s.writeReg req (Reg.VE_CTL v.val) (withField (s.rd (Reg.VE_CTL v.val)) 3 1 1))

/-- ESTIMATE_SEND (R295). -/
def execEstimateSend (v : Fin 32) (s : State) : Out := .next (if s.motWorks then s.sendEstimate v.val else s)

/-! ### Slip comparators (R298) -/

/-- SLIP_DETECTED (R298): the condition has held for HOLD ms. -/
def execSlipDetected (k : Fin 8) (s : State) : Out :=
  .next (if s.motWorks && s.slipHeld k.val true && !s.mot.slipping.getLsbD k.val then
      { s with mot := { s.mot with slipping := s.mot.slipping ||| BitVec.ofNat 8 (2 ^ k.val) } }.raiseEnc k.val 9
    else s)

/-- SLIP_CLEARED (R298): the condition has been absent for HOLD ms. -/
def execSlipCleared (k : Fin 8) (s : State) : Out :=
  .next (if s.motWorks && s.slipHeld k.val false then
      { s with mot := { s.mot with slipping := s.mot.slipping &&& ~~~(BitVec.ofNat 8 (2 ^ k.val)) } }
    else s)

end Sys2Proof.Machine
end

