-- ==== Sys2Proof/Machine/SatSpace.lean ====
section
/-!
DEFINITION. Device space, as the satellite masters reach it (14_satellite_bridge.md, R403 to R406, R418 to R422): the
register window, the apertures of host memory, split requests, AtomicOps.
-/

namespace Sys2Proof.Machine

/-! ### The decode of device space (R419) -/

/-- Bits 21:20. -/
def spaceOf (addr : BitVec 22) : Nat := addr.toNat / 2 ^ 20
/-- The block and slot of a register-window address. -/
def spaceBlk (addr : BitVec 22) : Nat := addr.toNat / 16384 % 64
def spaceSlot (addr : BitVec 22) : Nat := addr.toNat % 16384

/-- The register access that a register-window burst makes. -/
def spaceAccess (m : Nat) (addr : BitVec 22) (v : Word) : RegAccess :=
  { req := satReq m, addr := BitVec.ofNat 24 (spaceBlk addr * 65536 + spaceSlot addr * 4), value := dwordOf v }

/-- A register-window request that R419 permits. -/
def State.regSpaceOk (s : State) (m : Nat) (b : SatBurst) : Bool :=
  decide (spaceBlk b.addr ≤ 0x13 ∨ spaceBlk b.addr = 0x20) && decide (b.len = 1) && s.bit Reg.SAT_CTL m

/-- A host-memory request that R419 permits, before its aperture is judged. -/
def State.hostSpaceOk (s : State) (m : Nat) : Bool := s.bit Reg.SAT_CTL (2 + m)

/-- The aperture is enabled and the device may master the link (R421). -/
def State.apertureOpen (s : State) (b : SatBurst) : Bool := (s.hostAddr b.addr).isSome && s.bme

/-- The operation that the length of a HATM selects, with its number of operand words (R422). -/
def hatmOp (len : Nat) : Option (AtomOp × Nat) :=
  match len with
  | 1 => some (.fetchAdd, 1)
  | 2 => some (.swap, 1)
  | 3 => some (.cas, 2)
  | _ => none

/-- A HATM that may be sent to host memory (R197, R422). -/
def State.hatmOk (s : State) (b : SatBurst) : Bool := b.lock && (hatmOp b.len).isSome && s.atomicReqEn

/-! ### Split requests (R418) -/

/-- A split request is refused: SAT_ERR_N is held for it, and the bridge log names it (R419). -/
def State.splitRefused (s : State) (m : Nat) (b : SatBurst) : State :=
  (s.splitAnswer m none).satLogNo 6 (m + 1) (some b.addr)

/-- The host request of a pending split leaves, as soon as it may: behind the writes taken from the bus before it (R417). An
AtomicOp that finds AtomicOp Requester Enable clear as it would leave is refused (R197). -/
def State.issueSplit (s : State) (m : Nat) : State :=
  match s.splitOf m with
  | none => s
  | some x =>
    let t := s.flushToHost
    if x.issued || x.answer.isSome || decide (spaceOf x.b.addr ≠ 1) || !t.sat.toHost.isEmpty then s
    else
      match t.hostAddr x.b.addr with
      | none => s
      | some host =>
        if x.b.cmd = 5 ∧ t.atomicReqEn = false then (t.splitAnswer m none).satLogNo 6 (m + 1) (some x.b.addr)
        else
        let sent :=
          if x.b.cmd = 5 then
            match hatmOp x.b.len with
            | some (op, _) =>
              let w := fun k => dwordOf ((x.b.words.getD k { data := 0 }).data)
              let operand := if op = .cas then w 1 else w 0
              let compare := if op = .cas then w 0 else 0
              t.issue (.satAtomic m) fun tag => .atomic tag host op operand compare
            | none => none
          else t.issueRead (.satRead m) host x.b.len
        match sent with
        | some u => u.setSplit m (some { x with issued := true })
        | none => t.issueWaits (if x.b.cmd = 5 then .satAtomic m else .satRead m)

/-- Both masters' pending host requests are issued where they may be. -/
def State.issueSplits (s : State) : State := s.forAll [0, 1] fun t m => t.issueSplit m

/-- What waited for the link to take requests goes: messages, the satellite masters' writes, their split requests (R166, R184). -/
def State.released (s : State) : State := s.sendPending.flushToHost.issueSplits

/-- A split request is queued: it was answered with RETRY; a register read is made at once, a host request is issued. -/
def State.splitBegin (s : State) (m : Nat) (b : SatBurst) : State :=
  let t := (s.send (.satRetry m)).setSplit m (some { b := b })
  let atomic := decide (b.cmd = 5)
  if spaceOf b.addr = 0 then
    if atomic || !t.regSpaceOk m b then t.splitRefused m b
    else ((t.setSplit m (some { b := b, issued := true })).regAccess false (spaceAccess m b.addr 0))
  else if spaceOf b.addr = 1 then
    if !t.hostSpaceOk m || (atomic && !t.hatmOk b) then t.splitRefused m b
    else if !t.apertureOpen b then (t.bump Reg.SAT_HDROP_CNT).splitRefused m b
    else t.issueSplit m
  else t.splitRefused m b

/-- An HRD or HATM burst (R418): taken words of a HATM are checked for parity (R406). -/
def State.splitBurst (s : State) (m : Nat) (b : SatBurst) : State :=
  match s.addressEdge m b with
  | (none, t) => t
  | (some t, _) =>
    let u := t.parityErrors (badWords b.words) (m + 1) (some b.addr)
    match u.splitOf m with
    | none => u.splitBegin m { b with words := takeWords b.words }
    | some x =>
      if sameSplit x.b { b with words := takeWords b.words } then
        let v := u.issueSplit m
        match v.splitOf m with
        | some y => v.collect m y
        | none => v
      else u.send (.satRetry m)

/-! ### HWR (R419 to R421) -/

/-- A write that R419 refuses. -/
def State.hwrRefused (s : State) (m : Nat) (b : SatBurst) : State :=
  (s.satLogNo 6 (m + 1) (some b.addr)).raiseSat 14

/-- A write of one register. A word taken with SAT_POI is discarded and logged as poisoned (DEDUCED from the bridge's rule for
poison, log entry 56). -/
def State.hwrRegister (s : State) (m : Nat) (b : SatBurst) (words : List SatWord) : State :=
  match words with
  | [w] =>
    if w.poi then (s.satLogNo 5 (m + 1) (some b.addr)).raiseSat 14
    else s.regAccess true (spaceAccess m b.addr w.data)
  | _ => s

/-- The address of the bridge buffer word that went bad: somewhere in the first 2 Ki-words of the satellite-buffer partition,
whose layout the manual does not give (a free value, R416). -/
def State.badBridgeWord (s : State) : Nat := (partBase s.image 4 + Config.freeNat s.freeIdx % 2048) % sramWords

/-- A word of the burst is uncorrectable in the buffer: logged, and the write goes poisoned (R189, R206). -/
def State.bridgeUE (s : State) : State := (s.eccNote s.badBridgeWord true).drew
def poisonFirst : List SatWord → List SatWord
  | [] => []
  | w :: ws => { w with poi := true } :: ws

/-- A write into an aperture: the words taken so far are held while the burst runs, and become one memory write at its end
(R421). -/
def State.hwrHost (s : State) (m : Nat) (b : SatBurst) (host : BitVec 64) (words : List SatWord) : State :=
  if words.length < b.len then { s with sat := { s.sat with hwr := some (m, b.addr, words) } }
  else
    let t := if b.ue then s.bridgeUE else s
    let words := if b.ue then poisonFirst words else words
    (({ t with sat := { t.sat with hwr := none, toHost := t.sat.toHost ++ [(host, words)] } }).satLockSettle m).flushToHost

/-- An HWR burst: the words that came, which are fewer than its length while it still runs (R425). The bus holds the master off
while the buffer towards the host has no room. -/
def State.hwrBurst (s : State) (m : Nat) (b : SatBurst) : State :=
  if 32 ≤ s.sat.toHost.length then s
  else
    match s.addressEdge m b with
    | (none, t) => t
    | (some t, _) =>
      let u := t.parityErrors (badWords b.words) (m + 1) (some b.addr)
      let words := takeWords b.words
      if spaceOf b.addr = 0 then
        if u.regSpaceOk m b then u.hwrRegister m b words else u.hwrRefused m b
      else if spaceOf b.addr = 1 ∧ u.hostSpaceOk m = true then
        match u.hostAddr b.addr, u.bme with
        | some host, true => u.hwrHost m b host words
        | _, _ => (u.bump Reg.SAT_HDROP_CNT).hwrRefused m b
      else u.hwrRefused m b

/-- A reserved command code (R403): SAT_ERR_N at the first data edge. -/
def State.reservedBurst (s : State) (m : Nat) (b : SatBurst) : State :=
  match s.addressEdge m b with
  | (none, t) => t
  | (some t, _) => t.send (.satErr m)

end Sys2Proof.Machine
end

