-- ==== Sys2Proof/Machine/Energy.lean ====
section
/-!
DEFINITION. The commands on the cadence, the arbiters and the energy ledger (09_tamp_and_energy.md, R245 to R264).
-/

namespace Sys2Proof.Machine

/-- A cadence ends where it is due (R245, R247): the boundary, then what waited for new grants. -/
def State.cadenceBoundary (s : State) : State :=
  if s.stopped .pln || s.boot.inPor then s
  else match s.cadenceEnds with
    | some clamp => ((s.boundary clamp).serveBus.released.flushRing).monPump
    | none => s

/-- CADENCE_BOUNDARY (R245 to R247). -/
def execCadenceBoundary (s : State) : Out := .next s.cadenceBoundary

/-- ARBITER_GRANT (R252 to R257): the requests that wait, each with its activity and age; what holds the
arbiter. -/
def execArbiterGrant (arb : ArbiterId) (requests : List ArbRequest) (busy : ArbHold) (s : State) : Out :=
  .next (s.arbitrate arb.idx (requests.map fun r => (r.activity.val, r.age)) (decide (busy ≠ .free)) (decide (busy = .handed))).2

/-- A meter's report takes its grant of LEDGER on the Plinth register bus (R250, R259); at its maximum it waits in the meter. The
Plinth has no meter, an island without supply draws none, and one in DOZE reports after it wakes. 1 nJ is 2,000 units of
0.5 pJ. -/
def State.meterReport (s : State) (i : Island) (nanojoule : Nat) : State :=
  if s.stopped .pln || s.boot.inPor || decide (i = .pln) || !s.isOn i then s
  else match s.busGrant 12 with
    | some t => t.book i.idx (2000 * nanojoule)
    | none => s.noteAsked 11 [12]

/-- METER_REPORT (R259). -/
def execMeterReport (i : Island) (nanojoule : Nat) (s : State) : Out := .next (s.meterReport i nanojoule)

/-- NRG_CEIL_DRV_WRITE (R264). -/
def execNrgCeilDrvWrite (req : Requester) (value : Word) (s : State) : Out := .next (s.writeReg req Reg.NRG_CEIL_DRV value)

end Sys2Proof.Machine
end

