-- ==== Sys2Proof/Machine/Events.lean ====
section
/-!
DEFINITION. The commands on events, vectors and hardware locks (08_channels_queues_events.md, R231 to R239).
-/

namespace Sys2Proof.Machine

/-- The collecting time of a vector has passed (R233). -/
def State.vectorTimer (s : State) (v : Nat) : State :=
  match (s.vec v).firstAt with
  | none => s
  | some a =>
    if s.isOn .que && decide (s.vecTimer v ≠ 0) && s.passed a (s.vecTimer v) then (s.setVec v {}).sendMessage v else s

/-- VECTOR_TIMER_EXPIRY (R233). -/
def execVectorTimerExpiry (v : Fin 128) (s : State) : Out := .next (s.vectorTimer v.val)

/-- EVT_MASK_WRITE (R231). -/
def execEvtMaskWrite (req : Requester) (k : Fin 32) (value : Word) (s : State) : Out :=
  .next (s.writeReg req (Reg.EVT_MASK k.val) value)

/-- EVT_ROUTE_WRITE (R232). -/
def execEvtRouteWrite (req : Requester) (src : Fin 576) (value : Word) (s : State) : Out :=
  .next (s.writeReg req (Reg.EVT_ROUTE src.val) value)

/-- LOCK_ACQUIRE (R236): a read of LCK[n]. -/
def execLockAcquire (req : Requester) (n : Fin 64) (s : State) : Out := .next (s.readReg req (0x080000 + 4 * n.val))

/-- LOCK_RELEASE (R237): RELEASE is bit 0. -/
def execLockRelease (req : Requester) (n : Fin 64) (s : State) : Out := .next (s.writeReg req (0x080000 + 4 * n.val) 1)

/-- LOCK_FORCE (R237): FORCE is bit 1. -/
def execLockForce (req : Requester) (n : Fin 64) (s : State) : Out := .next (s.writeReg req (0x080000 + 4 * n.val) 2)

end Sys2Proof.Machine
end

