-- ==== Sys2Proof/Machine/FieldBus.lean ====
section
/-!
DEFINITION. The commands on the field bus controllers (13_fieldbus.md, R372 to R399). What happens on a bus comes as a
command: a frame received, a frame sent, an error, a level on a line.
-/

namespace Sys2Proof.Machine

/-! ### Initialisation and start-up -/

/-- FB_CTL[c] is written as it stands, with one bit changed. -/
def State.fbCtlWrite (s : State) (req : Requester) (c b n : Nat) : State :=
  s.writeReg req (Reg.FB_CTL c) (withField (s.rd (Reg.FB_CTL c)) b 1 n)

/-- FB_INIT_SET (R378). -/
def execFbInitSet (req : Requester) (c : Fin 4) (s : State) : Out := .next (s.fbCtlWrite req c.val 0 1)

/-- FB_INIT_CLEAR (R378, R379). -/
def execFbInitClear (req : Requester) (c : Fin 4) (s : State) : Out := .next (s.fbCtlWrite req c.val 0 0)

/-- FB_INTEGRATION_DONE (R379). -/
def execFbIntegrationDone (c : Fin 4) (s : State) : Out := .next (s.integrated c.val)

/-- FB_QUIET_END (R379). -/
def execFbQuietEnd (c : Fin 4) (s : State) : Out := .next (s.quietEnd c.val)

/-! ### Receiving -/

/-- CAN_FRAME_RX (R381, R382, R384): `sof` is the time since the start-of-frame edge, in ticks. -/
def execCanFrameRx (c : Fin 4) (f : CanFrame) (sof : Nat) (s : State) : Out := .next (s.frameRx c.val f.onBus sof)

/-- CAN_RX_ENTRY_WRITE (R383, R384). -/
def execCanRxEntryWrite (s : State) : Out := .next s.rxEntryWrite

/-! ### Transmitting -/

/-- TXREQ_SET (R387): through the set alias. -/
def execTxreqSet (req : Requester) (c k : Fin 4) (bits : BitVec 16) (s : State) : Out :=
  .next (s.writeReg req (Reg.FB_TXREQ c.val k.val + 0x4000) (word bits.toNat))

/-- TXREQ_CANCEL (R387): through the clear alias. -/
def execTxreqCancel (req : Requester) (c k : Fin 4) (bits : BitVec 16) (s : State) : Out :=
  .next (s.writeReg req (Reg.FB_TXREQ c.val k.val + 0x8000) (word bits.toNat))

/-- CANTX_FETCH (R388). -/
def execCantxFetch (c : Fin 4) (k : Fin 2) (s : State) : Out := .next (s.cantxFetchOp c.val k.val)

/-- CAN_FRAME_TX_DONE (R376, R389, R390, R395): the start-of-frame edge `sof` ticks ago, the amplitude measured in mV, the loop
delay in clocks. -/
def execCanFrameTxDone (c : Fin 4) (sof : Nat) (amplitude : BitVec 12) (delay : BitVec 7) (s : State) : Out :=
  .next (s.frameSent c.val sof amplitude delay)

/-- CAN_TX_FAIL (R390). -/
def execCanTxFail (c : Fin 4) (s : State) : Out := .next (s.frameFailed c.val)

/-! ### Errors and recovery -/

/-- CAN_BUS_ERROR (R391). -/
def execCanBusError (c : Fin 4) (err : CanError) (asTransmitter : Bool) (s : State) : Out := .next (s.busError c.val err asTransmitter)

/-- CAN_BUSOFF_RECOVERED (R392). -/
def execCanBusoffRecovered (c : Fin 4) (s : State) : Out := .next (s.recovered c.val)

/-- FB_RECOVER (R392). -/
def execFbRecover (req : Requester) (c : Fin 4) (s : State) : Out := .next (s.fbCtlWrite req c.val 5 1)

/-- LIMITED_WINDOW_END (R392). -/
def execLimitedWindowEnd (c : Fin 4) (s : State) : Out := .next (s.windowEnd c.val)

/-- CAN_PROTOCOL_EXCEPTION (R373). -/
def execCanProtocolException (c : Fin 4) (s : State) : Out := .next (s.protocolException c.val)

/-! ### Line faults -/

/-- CAN_SWAP_DETECT (R393). -/
def execCanSwapDetect (c : Fin 4) (s : State) : Out := .next (s.swapSeen c.val)

/-- POLARITY_INVERT (R393). -/
def execPolarityInvert (c : Fin 4) (s : State) : Out := .next (s.invertPolarity c.val)

/-- CAN_LINE_SHORT (R394). -/
def execCanLineShort (c : Fin 4) (line : CanLine) (s : State) : Out := .next (s.lineFault c.val (lineBit line))

/-- CAN_LINE_SHORT_END (R394). -/
def execCanLineShortEnd (c : Fin 4) (line : CanLine) (s : State) : Out := .next (s.lineClear c.val (lineBit line))

/-- TXD_DOMINANT_TIMEOUT (R396). -/
def execTxdDominantTimeout (c : Fin 4) (s : State) : Out := .next (s.lineFault c.val 5)

/-- TXDTO_REARM (R396). -/
def execTxdtoRearm (c : Fin 4) (s : State) : Out := .next (s.lineClear c.val 5)

end Sys2Proof.Machine
end

