-- ==== Sys2Proof/Machine/Heads.lean ====
section
/-!
DEFINITION. The commands on the head ports as hot-plug slots (11_triggers_and_heads.md, R324 to R328).
-/

namespace Sys2Proof.Machine

/-- The port has a function and its quad is ON with its clock. -/
def State.headWorks (s : State) (p : Nat) : Bool :=
  let i := Island.ofQuad (qOf p)
  s.isOn i && !s.stopped i && decide (s.hpFn p ≠ 0)

/-- HP_CFG[i].PRSUSE (R332). -/
def State.prsUse (s : State) (p : Nat) : Bool := s.bit (Reg.HP_CFG (qOf p) (iOf p)) 6

/-! ### Presence (R324, R325) -/

/-- HPn_PRS_N has been low for 20 ms. -/
def State.presenceTaken (s : State) (p : Nat) : State :=
  let x := s.port p
  if !s.headWorks p || x.prs then s
  else
    let t := s.setPort p { x with prs := true, slot := if x.slot = .empty then .present else x.slot }
    if s.prsUse p then t.raiseHp p 0 else t

/-- HEAD_PRESENCE_TAKEN (R324). -/
def execHeadPresenceTaken (p : Fin 32) (s : State) : Out := .next (s.presenceTaken p.val)

/-- HPn_PRS_N has been high for 1 ms: with PRSUSE set the port is EMPTY. -/
def State.absenceTaken (s : State) (p : Nat) : State :=
  let x := s.port p
  let t := s.setPort p { x with prs := false }
  if !s.headWorks p then s
  else if !s.prsUse p || (!x.prs && decide (x.slot = .empty)) then t
  else
    let u := (t.unpower p .empty).setBit (Reg.HP_CTL (qOf p) (iOf p)) 0 false
    let u := u.modPort p fun y => { y with removed := y.removed || (s.binder p).isSome }
    let u := u.raiseHp p 0
    match x.slot with
    | .powering | .powered | .fault => u.raiseHp p 1
    | _ => u

/-- HEAD_ABSENCE_TAKEN (R325). -/
def execHeadAbsenceTaken (p : Fin 32) (s : State) : Out := .next (s.absenceTaken p.val)

/-! ### Power (R324, R326) -/

/-- HEAD_PWR_SET (R324, R326): HP_CTL is written as it stands, with PWR set. -/
def execHeadPwrSet (req : Requester) (p : Fin 32) (s : State) : Out :=
  .next (let k := Reg.HP_CTL (qOf p.val) (iOf p.val)
         s.writeReg req k (withField (s.rd k) 0 1 1))

/-- HEAD_PWR_CLEAR (R324): HP_CTL is written as it stands, with PWR clear. -/
def execHeadPwrClear (req : Requester) (p : Fin 32) (s : State) : Out :=
  .next (let k := Reg.HP_CTL (qOf p.val) (iOf p.val)
         s.writeReg req k (withField (s.rd k) 0 1 0))

/-- HPn_PEN rises in its turn: the first port of the quad that waits, 5 ms after the last rise (R326). -/
def State.penRise (s : State) (p : Nat) : State :=
  let q := qOf p
  let first := (List.range 8).find? fun i => (s.port (8 * q + i)).penDue
  let late := match (s.quad q).lastPenAt with
    | some a => s.passed a (msTicks 5)
    | none => true
  if s.headWorks p && s.drives p && (s.quad q).men && decide (first = some (iOf p)) && late then
    (s.modPort p fun x => { x with pen := true, penDue := false, poweringAt := s.now }).setQuad q
      { s.quad q with lastPenAt := some s.now }
  else s

/-- HEAD_PEN_RISE (R326). -/
def execHeadPenRise (p : Fin 32) (s : State) : Out := .next (s.penRise p.val)

/-- HPn_PGD has been high for 1 ms: a port whose supply is on is POWERED. -/
def State.powerGood (s : State) (p : Nat) : State :=
  let x := s.port p
  if !s.headWorks p then s
  else if decide (x.slot = .powering) && x.pen then (s.setPort p { x with pgd := true, slot := .powered }).raiseHp p 2
  else s.setPort p { x with pgd := true }

/-- HEAD_POWER_GOOD (R324). -/
def execHeadPowerGood (p : Fin 32) (s : State) : Out := .next (s.powerGood p.val)

/-- TQ_PGDT ms, which 0 makes 1, have passed without power-good since HPn_PEN rose. -/
def State.pgdOver (s : State) (p : Nat) : State :=
  let x := s.port p
  if s.headWorks p && decide (x.slot = .powering) && x.pen &&
      s.passed x.poweringAt (msTicks (max 1 (s.fld (Reg.TQ_PGDT (qOf p)) 0 18))) then s.powerFault p
  else s

/-- HEAD_PGD_TIMEOUT (R324). -/
def execHeadPgdTimeout (p : Fin 32) (s : State) : Out := .next (s.pgdOver p.val)

/-- HPn_PGD has been low for 10 µs: a POWERED port is in FAULT. -/
def State.pgdLow (s : State) (p : Nat) : State :=
  let x := s.port p
  if !s.headWorks p then s
  else
    let t := s.setPort p { x with pgd := false }
    if x.slot = .powered then t.powerFault p else t

/-- HEAD_POWER_FAULT (R324). -/
def execHeadPowerFault (p : Fin 32) (s : State) : Out := .next (s.pgdLow p.val)

/-- MASTER_ENABLE_SET (R326): the _C write of pair q. -/
def execMasterEnableSet (req : Requester) (quad : Fin 4) (c : Word) (s : State) : Out :=
  .next (s.writeReg req (pairV quad.val + 4) c)

/-- MASTER_ENABLE_CLEAR (R326): the _C write of pair q. -/
def execMasterEnableClear (req : Requester) (quad : Fin 4) (c : Word) (s : State) : Out :=
  .next (s.writeReg req (pairV quad.val + 4) c)

/-! ### Attention (R327) -/

/-- HPn_ATN_N has been low for 20 ms; under AUTO the 5 s sequence starts, or a running one is cancelled. -/
def State.attention (s : State) (p : Nat) : State :=
  let x := s.port p
  if !s.headWorks p then s
  else
    let running := match x.atnEndAt with
      | some e => decide (s.now < e)
      | none => false
    let t := if s.bit (Reg.HP_CFG (qOf p) (iOf p)) 2 then
        s.setPort p { x with atnEndAt := if running then none else some (s.now + msTicks 5000) }
      else s
    t.raiseHp p 4

/-- ATTENTION_PRESS (R327). -/
def execAttentionPress (p : Fin 32) (s : State) : Out := .next (s.attention p.val)

/-- The sequence has run to its end: ATN_DONE, then PWR is toggled where no live channel binds the port. -/
def State.attentionOver (s : State) (p : Nat) : State :=
  match (s.port p).atnEndAt with
  | none => s
  | some e =>
    if !s.headWorks p || decide (s.now < e) then s
    else
      let t := (s.modPort p fun x => { x with atnEndAt := none }).raiseHp p 5
      let k := Reg.HP_CTL (qOf p) (iOf p)
      if (s.binder p).isSome then t
      else if t.bit k 0 then (t.setBit k 0 false).powerDrop p
      else (t.setBit k 0 true).powerRequest p

/-- ATTENTION_SEQUENCE_END (R327). -/
def execAttentionSequenceEnd (p : Fin 32) (s : State) : Out := .next (s.attentionOver p.val)

end Sys2Proof.Machine
end

