-- ==== Sys2Proof/Machine/HostLink.lean ====
section
/-!
DEFINITION. The commands of the host link (06_host_link.md, R149 to R172): training, equalisation, the eye, PRBS, sleep
states, lane drop, loss of the link.
-/

namespace Sys2Proof.Machine

/-! ### Training and equalisation -/

/-- LINK_UP (R149, R172). -/
def execLinkUp (rate : Fin 4) (lanes : BitVec 4) (wiring : LaneWiring) (upcfg : Bool) (s : State) : Out :=
  .next (s.linkUpOp rate.val lanes wiring upcfg).released

/-- EQ_PHASE2_DONE (R153, R155). -/
def execEqPhase2Done (rate : Fin 4) (results : List LaneEq) (s : State) : Out := .next (s.eqDone rate.val results)

/-- EQ_PHASE3_REQUEST (R154). -/
def execEqPhase3Request (lane : Fin 4) (request : EqRequest) (s : State) : Out := .next (s.eqRequest lane.val request)

/-! ### Recovery, lane drop, upconfigure -/

/-- LANE_LOCK_LOSS (R166 to R168). -/
def execLaneLockLoss (lane : Fin 4) (s : State) : Out := .next (s.lockLoss lane.val).released

/-- RECOVERY_TIMEOUT (R167, R168). -/
def execRecoveryTimeout (lane : Fin 4) (s : State) : Out := .next (s.recoveryTimeout lane.val).released

/-- RECOVERY_SURVIVED (R166). -/
def execRecoverySurvived (s : State) : Out := .next s.survived

/-- LINK_RETURN_TO_L0 (R166). -/
def execLinkReturnToL0 (s : State) : Out := .next s.returnL0.released

/-- UPCONFIGURE_ATTEMPT (R169). -/
def execUpconfigureAttempt (s : State) : Out := .next s.upcfgAttempt

/-- UPCONFIGURE_DONE (R169). -/
def execUpconfigureDone (passed : BitVec 4) (trained : Bool) (s : State) : Out := .next (s.upcfgDone passed trained).released

/-! ### The eye scan and lane margining -/

/-- EYE_SCAN_START (R156, R266): HST_EYE_CTL is written with the lane and START, AUTO as it stands. -/
def execEyeScanStart (req : Requester) (lane : Fin 4) (s : State) : Out :=
  .next (s.writeReg req Reg.HST_EYE_CTL (word (lane.val + 4 + 32 * flag (s.bit Reg.HST_EYE_CTL 5))))

/-- EYE_SCAN_AUTO (R156, R157). -/
def execEyeScanAuto (s : State) : Out := .next s.eyeAuto.startReady

/-- EYE_SCAN_DONE (R156). -/
def execEyeScanDone (width : Fin 65) (height : Fin 251) (s : State) : Out := .next (s.eyeDone width.val height.val)

/-- EYE_SCAN_PAUSE_TIMEOUT (R157). -/
def execEyeScanPauseTimeout (s : State) : Out := .next s.eyePauseOver

/-- LANE_MARGIN_COMMAND (R158). -/
def execLaneMarginCommand (lane : Fin 4) (cmd : MarginCmd) (s : State) : Out := .next (s.marginOp lane.val cmd)

/-! ### PRBS test mode -/

/-- TESTMODE_ENTER (R159): HST_PHY_CTL is written as it stands, with TESTMODE set. -/
def execTestmodeEnter (req : Requester) (s : State) : Out :=
  .next (s.writeReg req Reg.HST_PHY_CTL (withField (s.rd Reg.HST_PHY_CTL) 6 1 1))

/-- TESTMODE_EXIT (R160): HST_PHY_CTL is written as it stands, with TESTMODE clear. -/
def execTestmodeExit (req : Requester) (s : State) : Out :=
  .next (s.writeReg req Reg.HST_PHY_CTL (withField (s.rd Reg.HST_PHY_CTL) 6 1 0))

/-- PRBS_CHECKER_LOCK (R160). -/
def execPrbsCheckerLock (lane : Fin 4) (s : State) : Out := .next (s.prbsLock lane.val)

/-- PRBS_CLEAR (R160): HST_PRBS_CTL is written as it stands, with CLEAR set. -/
def execPrbsClear (req : Requester) (s : State) : Out :=
  .next (s.writeReg req Reg.HST_PRBS_CTL (withField (s.rd Reg.HST_PRBS_CTL) 10 1 1))

/-! ### Sleep states, LTR, REFCLK -/

/-- L0S_ENTRY (R161). -/
def execL0sEntry (s : State) : Out := .next s.l0sOp

/-- L1_REQUEST (R162). -/
def execL1Request (s : State) : Out := .next s.l1Op

/-- L11_EXIT (R163). -/
def execL11Exit (s : State) : Out := .next s.l11Exit

/-- ELECTRICAL_IDLE_EXIT (R164). -/
def execElectricalIdleExit (s : State) : Out := .next s.idleExit

/-- LTR_AUTO_SEND (R165). -/
def execLtrAutoSend (s : State) : Out := .next s.ltrAuto

/-- LTR_SEND (R165): HST_LTR_CTL is written as it stands, with SEND set. -/
def execLtrSend (req : Requester) (s : State) : Out :=
  .next (s.writeReg req Reg.HST_LTR_CTL (withField (s.rd Reg.HST_LTR_CTL) 1 1 1))

/-- REFCLK_START (R130, R163). -/
def execRefclkStart (s : State) : Out := .next s.refclkStart

/-- REFCLK_STOP (R151, R163). -/
def execRefclkStop (s : State) : Out := .next s.refclkStop

/-! ### Loss of the link -/

/-- REDETECT (R170): HST_PHY_CTL is written as it stands, with REDETECT set. -/
def execRedetect (req : Requester) (s : State) : Out :=
  .next (s.writeReg req Reg.HST_PHY_CTL (withField (s.rd Reg.HST_PHY_CTL) 5 1 1))

/-- SURPRISE_LINK_DOWN (R170, R171): with PERST_N deasserted. -/
def execSurpriseLinkDown (s : State) : Out := .next (if s.boot.perstN then s.surpriseDown else s)

end Sys2Proof.Machine
end

