-- ==== Sys2Proof/Machine/HostTxn.lean ====
section
/-!
DEFINITION. The commands of host transactions (07_host_transactions.md, R177 to R202): BAR4, power states, completions and
their timeouts, AtomicOps, address translation.
-/

namespace Sys2Proof.Machine

/-! ### Slot power limit (R182) -/

/-- The limit of a Set_Slot_Power_Limit message in mW, saturating at 0x3FFFF: 1, 0.1, 0.01 or 0.001 W, with the standard's
steps above 239 W at scale 0 (PRESUMED, log entry 20). -/
def slotPowerMw (value scale : Nat) : Nat :=
  min 0x3FFFF (if scale = 0 ∧ 0xF0 ≤ value then (if value = 0xF0 then 250000 else 0x3FFFF) else value * 10 ^ (3 - scale))

/-- The message is received: Device Capabilities and HST_SPL show it, the ceiling follows. -/
def State.slotPower (s : State) (value scale : Nat) : State :=
  if !s.linkUp || !s.isOn .hst then s
  else
    let t := s.setCfg 29 (cfgDefault 29 ||| BitVec.ofNat 32 (value * 2 ^ 18 + scale * 2 ^ 26))
    ((t.wr Reg.HST_SPL (word (slotPowerMw value scale))).ceilingFrom s.ceilSources).startReady

/-- SLOT_POWER_LIMIT_MSG (R182, R264). -/
def execSlotPowerLimitMsg (value : BitVec 8) (scale : BitVec 2) (s : State) : Out := .next (s.slotPower value.toNat scale.toNat)

/-! ### Bus Master Enable, D3hot: configuration writes of one bit or field, the rest of the byte as it is -/

/-- BUS_MASTER_ENABLE_CLEAR (R184). -/
def execBusMasterEnableClear (s : State) : Out :=
  .next (s.configOp { write := true, dword := 1, be := 1, data := s.cfgD 1 &&& ~~~(4 : Dword) })

/-- BUS_MASTER_ENABLE_SET (R184). -/
def execBusMasterEnableSet (s : State) : Out :=
  .next (s.configOp { write := true, dword := 1, be := 1, data := s.cfgD 1 ||| 4 }).released

/-- D3HOT_ENTRY (R185). -/
def execD3hotEntry (s : State) : Out := .next (s.configOp { write := true, dword := 17, be := 1, data := s.cfgD 17 ||| 3 })

/-- D3HOT_TO_D0 (R185). -/
def execD3hotToD0 (s : State) : Out :=
  .next (s.configOp { write := true, dword := 17, be := 1, data := s.cfgD 17 &&& ~~~(3 : Dword) }).released

/-! ### BAR4 (R176, R177) -/

/-- The access is one of 32 or 64 bits, aligned, within one MSI-X table entry or the PBA. -/
def bar4Ok (a : Bar4Access) : Bool :=
  let o := a.offset.toNat
  decide ((a.size = 4 ∨ a.size = 8) ∧ o % a.size = 0) && decide (o + a.size ≤ 0x800 ∨ (0x8000 ≤ o ∧ o + a.size ≤ 0x8010))

/-- A dword of BAR4. -/
def State.bar4Dword (s : State) (o : Nat) : Dword :=
  if o < 0x800 then s.msixD (o / 4) else BitVec.ofNat 32 (s.txn.pba.toNat / 2 ^ (8 * (o - 0x8000)))

/-- A dword of the MSI-X table is written: the message address is dword-aligned, of the vector control only the mask bit is
there (the standard's, PRESUMED, log entry 20). The PBA is read-only. -/
def State.msixWrite (s : State) (o : Nat) (v : Dword) : State :=
  if o < 0x800 then
    let d := o / 4
    let m : Dword := match d % 4 with | 0 => 0xFFFFFFFC | 3 => 1 | _ => 0xFFFFFFFF
    { s with txn := { s.txn with msix := Tab.set (msixDefault d) s.txn.msix d (v &&& m) } }
  else s

/-- The dwords that an access covers: their offsets and written values. -/
def bar4Dwords (a : Bar4Access) : List (Nat × Dword) :=
  (List.range (a.size / 4)).map fun k => (a.offset.toNat + 4 * k, BitVec.ofNat 32 (a.data.toNat / 2 ^ (32 * k)))

/-- An access to BAR4: a poisoned write is dropped (R188 case 5); a vector whose mask falls sends what it kept (R234). -/
def State.bar4Op (s : State) (a : Bar4Access) : State :=
  if !s.hostReaches || !s.isOn .hst then s
  else if !s.mse || s.txn.d3hot || !bar4Ok a then s.hostRefuse a.write false
  else if a.write then
    if a.poisoned then s.poisonNote true
    else ((bar4Dwords a).foldl (fun t e => t.msixWrite e.1 e.2) s).sendPending
  else s.send (.completion .host .sc ((bar4Dwords a).map fun e => s.bar4Dword e.1) false)

/-- BAR4_ACCESS (R177). -/
def execBar4Access (a : Bar4Access) (s : State) : Out := .next (s.bar4Op a)

/-! ### Completions (R188 cases 9 to 13, R191, R192) -/

/-- A translation has failed (R200): the queue's access that waits for the page fails at once, else its next one will. -/
def State.atsFails (s : State) (q : Nat) (page : BitVec 52) : State :=
  let x := s.queue q
  let waits := if x.hostProduces then decide (x.prod ≠ x.fetchPos) && decide (pageOf (x.addr x.fetchPos.toNat) = page)
    else !x.staged.isEmpty && decide (pageOf (x.addr x.prod.toNat) = page)
  if x.state ≠ .enabled then s
  else if waits then s.atsFault q
  else if s.txn.atsBad.contains (q, page) then s
  else { s with txn := { s.txn with atsBad := s.txn.atsBad ++ [(q, page)] } }

/-- A read has failed for its consumer (R191): a fetch faults its queue, a satellite master's request ends with SAT_ERR_N, a
translation raises HST_ATSFAULT. An AtomicOp that fails raises HST_ATOMICFAIL (R197). -/
def State.readFailed (s : State) (who : Consumer) : State :=
  match who with
  | .cmdQueue q _ | .canQueue _ _ q => s.faultQueue q 3
  | .satRead m => s.splitAnswer m none
  | .satAtomic m => ((s.bump Reg.HST_ATOMIC_FAIL).raiseTxn 5).splitAnswer m none
  | .ats q page => (s.raiseTxn 4).atsFails q page

/-- An Unexpected Completion (R192). -/
def State.unexpected (s : State) : State := ((s.aer aerUc true).bump Reg.HST_LATE_CNT).raiseTxn 1

/-- The dwords of a fetch reach their queue, if it still waits for them: poisoned ones are discarded and fault the queue
(case 9, R228). -/
def State.fetchDelivered (s : State) (q n : Nat) (poi : Bool) (ds : List Dword) : State :=
  let x := s.queue q
  if !x.fetching || decide (x.state ≠ .enabled) then s.modQueue q fun y => { y with fetching := false }
  else if poi then s.faultQueue q 3
  else s.fetchDone q n ds

/-- The dwords of a completed read reach their consumer; poisoned data for a satellite master pass with SAT_POI (case 10). -/
def State.readDelivered (s : State) (x : Tag) (poi : Bool) (ds : List Dword) : State :=
  let words : List SatWord := ds.map fun d => { data := word d.toNat, poi := poi }
  match x.who with
  | .cmdQueue q n => s.fetchDelivered q n poi ds
  | .canQueue c k q =>
    let t := s.fetchDelivered q 1 poi ds
    if (t.queue q).state = .enabled then t.assembleHead c k q else t
  | .satRead m => (if poi then s.raiseSat 13 else s).splitAnswer m (some words)
  | .satAtomic m => (if poi then s.raiseSat 13 else s).splitAnswer m (some (words.take 1))
  | .ats _ _ => s

/-- What a completion shows by itself (R174, R188): a poisoned one is recorded, counted and raised, whether its consumer is
there or not; a UR or CA sets its bit of the Status register. -/
def State.completionNote (s : State) (c : Completion) : State :=
  let t := if c.poisoned then (s.poisonNote true).masterParity else s
  match c.status with
  | .sc => t
  | .ur => t.setCfg 1 (t.cfgD 1 ||| 0x20000000)
  | .ca => t.setCfg 1 (t.cfgD 1 ||| 0x10000000)

/-- A completion of an outstanding tag: one whose consumer is gone is discarded; an error fails the read as a timeout would,
with the tag quarantined (case 11, R191); the last part delivers it. -/
def State.completionFor (s : State) (x : Tag) (c : Completion) : State :=
  if c.status ≠ .sc then
    let t := (s.quarantineTag x.tag).raiseTxn 3
    if x.sunk then t else t.readFailed x.who
  else if x.sunk then (if c.last then s.freeTagOf x.tag else s)
  else
    let y := { x with got := x.got ++ c.data, poisoned := x.poisoned || c.poisoned }
    if c.last then (s.freeTagOf x.tag).readDelivered y y.poisoned y.got
    else { s with txn := { s.txn with tags := s.txn.tags.map fun t => if t.tag = x.tag then y else t } }

/-- A completion arrives. -/
def State.completion (s : State) (c : Completion) : State :=
  if !s.linkUp || !s.isOn .hst then s
  else match s.tagOf c.tag.toNat with
    | some x => ((s.completionNote c).completionFor x c).issueSplits
    | none => s.unexpected

/-- COMPLETION_RECEIVED (R188, R192). -/
def execCompletionReceived (c : Completion) (s : State) : Out := .next (s.completion c)

/-- A read times out (R190, R191): reported, counted, its consumer recorded, its tag quarantined for twice the value. -/
def State.completionOver (s : State) (t : Nat) : State :=
  match s.tagOf t with
  | none => s
  | some x =>
    if s.ctoDisable || !s.passed x.issuedAt s.ctoTicks then s
    else
      let u := s.quarantineTag t
      let u := (((u.aer aerCto false).bump Reg.HST_CTO_CNT).wr Reg.HST_CTO_LAST (word (ctoLast x.who))).raiseTxn 0
      if x.sunk then u else u.readFailed x.who

/-- COMPLETION_TIMEOUT (R190, R191). -/
def execCompletionTimeout (tag : BitVec 10) (s : State) : Out := .next (s.completionOver tag.toNat)

/-- A quarantine ends: the tag is free again (R191), and a request that waited for one goes (R193). -/
def State.quarantineOver (s : State) (t : Nat) : State :=
  { s with txn := { s.txn with quarantine := s.txn.quarantine.filter fun e => !(decide (e.tag = t) && decide (e.endAt ≤ s.now)) } }.issueSplits

/-- TAG_QUARANTINE_END (R191). -/
def execTagQuarantineEnd (tag : BitVec 10) (s : State) : Out := .next (s.quarantineOver tag.toNat)

/-! ### AtomicOps (R194 to R196) -/

/-- ATOMICOP_REQUEST (R188 case 8, R194). -/
def execAtomicopRequest (a : AtomicReq) (s : State) : Out := .next (s.hostAtomic a)

/-- ATOMICOP_LOCK_TIMEOUT (R195). -/
def execAtomicopLockTimeout (s : State) : Out := .next (s.jobStartTimeout true)

/-! ### Address translation (R199 to R202) -/

/-- The permission that a queue's access needs is there, and the translation is not for untranslated use only (R200). -/
def Translation.good (t : Translation) (write : Bool) : Bool :=
  decide (t.status = .sc) && !t.uBit && (if write then t.write else t.read)

/-- A translation completion. -/
def State.translated (s : State) (tag : Nat) (t : Translation) : State :=
  if !s.linkUp || !s.isOn .hst then s
  else match s.tagOf tag with
    | none => s.unexpected
    | some x =>
      match x.who with
      | .ats q page =>
        let u := if t.status ≠ .sc then (s.quarantineTag tag).raiseTxn 3 else s.freeTagOf tag
        if x.sunk || !s.atsEn then u
        else if Translation.good t (!(u.queue q).hostProduces) then
          u.atcUse { vpage := page, ppage := t.page, read := t.read, write := t.write }
        else u.atsFails q page
      | _ => s

/-- TRANSLATION_COMPLETION (R200). -/
def execTranslationCompletion (tag : BitVec 10) (t : Translation) (s : State) : Out := .next (s.translated tag.toNat t)

/-- An Invalidate Request over `pages` pages; at most 32 are held (R201). -/
def State.invalidateOp (s : State) (itag page pages : Nat) : State :=
  if !s.linkUp || !s.isOn .hst || decide (32 ≤ (s.txn.invals.filter fun i => i.itag.isSome).length) then s
  else s.invalidate (some itag) fun p => decide (page ≤ p.toNat ∧ p.toNat < page + pages)

/-- INVALIDATE_REQUEST (R201). -/
def execInvalidateRequest (itag : BitVec 5) (page : BitVec 52) (pages : Nat) (s : State) : Out :=
  .next (s.invalidateOp itag.toNat page.toNat pages)

/-- The completion of a held invalidation, a message, leaves once no read waits and messages may leave (R184, R201). -/
def State.invalidated (s : State) (itag : Nat) : State :=
  if s.canSend && s.txn.invals.any fun i => decide (i.itag = some itag) && i.waits.isEmpty then
    { s with txn := { s.txn with invals := s.txn.invals.filter fun i => !(decide (i.itag = some itag) && i.waits.isEmpty) } }.send
      (.invalidateCpl itag)
  else s

/-- INVALIDATE_COMPLETION (R201). -/
def execInvalidateCompletion (itag : BitVec 5) (s : State) : Out := .next (s.invalidated itag.toNat)

/-- ATC_FLUSH (R202). -/
def execAtcFlush (req : Requester) (s : State) : Out := .next (s.writeReg req Reg.HST_ATC_CTL 1)

/-- ATS_ENABLE_CLEAR (R202): a configuration write of the bit, the rest of the byte as it is. -/
def execAtsEnableClear (s : State) : Out :=
  .next (s.configOp { write := true, dword := 87, be := 8, data := s.cfgD 87 &&& ~~~(0x80000000 : Dword) })

end Sys2Proof.Machine
end

