-- ==== Sys2Proof/Machine/Islands.lean ====
section
/-!
DEFINITION. The commands on the islands (03_islands_and_clocks.md, R55 to R68): enables, the idle timer, the drain, the
wakes, the forced power modes, the delivery of parked writes.
-/

namespace Sys2Proof.Machine

/-! ### Enables and sleep -/

/-- ISLAND_ENABLE (R60, R61): PLN_ISL_EN is written with the island's bit set. -/
def execIslandEnable (req : Requester) (i : Island) (s : State) : Out :=
  .next (s.writeReg req Reg.PLN_ISL_EN (withField (s.rd Reg.PLN_ISL_EN) i.idx 1 1))

/-- ISLAND_GATE (R60 to R62): PLN_ISL_EN is written with the island's bit clear. -/
def execIslandGate (req : Requester) (i : Island) (s : State) : Out :=
  .next (s.writeReg req Reg.PLN_ISL_EN (withField (s.rd Reg.PLN_ISL_EN) i.idx 1 0))

/-- The idle timer of an island expires (R57): the island is ON, its idle condition has held for the microseconds set, its
timer is not disabled, and it is not kept on. -/
def State.idleTimeout (s : State) (i : Island) : State :=
  let x := s.island i
  let us := (s.rd (Reg.PLN_ISL_IDLE i.idx)).toNat
  if decide (x.power = .on) && x.drain.isNone && s.idle i && (x.idleAt.any fun t => s.passed t (usTicks us)) &&
      decide (x.force ≠ 1) && decide (us ≠ 0) && (i.variable || s.mayOff i) then s.sleepIdle i
  else s

/-- ISLAND_IDLE_TIMEOUT (R57). -/
def execIslandIdleTimeout (i : Island) (s : State) : Out := .next (s.idleTimeout i)

/-- The drain of an island has ended; a commit or re-cast that waited for it goes on (R63, R120, R121). -/
def State.drained (s : State) (i : Island) : State :=
  if (s.island i).drain.isNone || s.stepping i || !s.drainedOut i then s
  else
    let t := (s.drainDone i).ceilingFrom s.ceilSources
    match t.arm.run with
    | none => t
    | some r => if r.whole then t.commitGated else t.recastDrained i

/-- ISLAND_DRAIN_DONE (R63). -/
def execIslandDrainDone (i : Island) (s : State) : Out := .next (s.drained i)

/-! ### Wakes -/

/-- The island waits to be powered up: its wake is due, it has no supply, and nothing holds it back. An island of a re-cast
waits until every selected one has drained (R121). -/
def State.powerUpDue (s : State) (i : Island) : Bool :=
  let x := s.island i
  x.waking && !x.powered && decide (x.power = .off ∨ x.power = .gated) && !s.wakeForbidden i && !s.inReset i &&
    !s.recastHolds i

/-- The island that is powered up next (R59): in the order of a whole commit's ISLANDS section, else in index order. -/
def State.nextPowerUp (s : State) : Option Island :=
  let first : List Island := match s.arm.run with
    | some r => if r.whole && r.toGate.isEmpty then r.toRaise else []
    | none => []
  (first ++ Island.all).find? s.powerUpDue

/-- The Plinth powers up the next waiting island, at most one in any 200 µs (R59). -/
def State.powerUpNext (s : State) : State :=
  let late := match s.boot.lastPowerUpAt with
    | some t => s.passed t (usTicks 200)
    | none => true
  match s.nextPowerUp with
  | some i =>
    if late && !s.boot.inPor && !s.stopped .pln then
      ({ s.modIsland i fun x => { x with powered := true } with boot := { s.boot with lastPowerUpAt := some s.now } }).setFld
        Reg.PLN_BOOT 4 4 i.idx
    else s
  | none => s

/-- ISLAND_POWERUP_START (R59). -/
def execIslandPowerupStart (s : State) : Out := .next s.powerUpNext

/-- The sections of the armature that an island takes (R90, R92 to R101). -/
def shadowSections (i : Island) : List Nat :=
  match i with
  | .pln | .hst => []
  | .que => [4] | .mem => [5] | .mot => [1, 3]
  | .tqa | .tqb | .tqc | .tqd => [1]
  | .fld => [1, 6] | .sat => [1, 7] | .rng => [1, 8]

/-- The words of the shadow that hold an island's sections. -/
def State.shadowWords (s : State) (i : Island) : List Nat :=
  match s.image with
  | none => []
  | some im =>
    let base := partBase (some im) 3
    (im.table.filter fun e => (shadowSections i).contains e.1).flatMap fun e => (List.range e.2.2).map fun k => base + e.2.1 + k

/-- The island's sections are read from the shadow: whether a word was uncorrectable, and the state after. -/
def State.readShadow (s : State) (i : Island) : Bool × State :=
  (s.shadowWords i).foldl (fun p w => let r := p.2.sramRead w; (p.1 || r.2.1, r.2.2)) (false, s)

/-- An island that had lost its supply takes its sections of the armature (R58) and starts what it does when it comes ON. -/
def State.reinitialise (s : State) (i : Island) : State :=
  let t := s.initIsland i
  match i.quad? with
  | some q => (t.setFld (Reg.PLN_QF_STS q) 0 2 0).forAll (List.range 8) fun t k => t.directDrive (8 * q + k)
  | none => if i = .rng then t.startTrain else t

/-- A drained island takes its new sections (R121): what they change is initialised anew, and all else of the island stays.
MOT: the virtual encoders whose SPRUE entry changes restart at position zero with no estimate (10_motion.md), changed
synthetic encoders take their interval, added encoder pins are enabled (R283). A quad: its added ports take idle drive
(R137). FLD: the controllers whose entry or pin changes start anew (R378, R379). SAT: nothing that was prefetched stays.
RNG: the ring-join permission (R101). -/
def State.recastInit (s : State) (i : Island) : State :=
  let old := s.arm.committed
  let new := s.image
  let added := fun (g k : Nat) => pinUsed g (pinOf new g k).1 && !pinUsed g (pinOf old g k).1
  match i with
  | .mot =>
    let t := s.forAll (List.range 32) fun t v => if sprueOf old v = sprueOf new v then t else t.setVe v { fromAt := t.now }
    let t := t.forAll (List.range 4) fun t n => if seInterval old n = seInterval new n then t else t.setInterval n (seInterval new n)
    t.forAll (List.range 8) fun t e => if added 1 e then t.setFld (Reg.ENC_CTL e) 0 2 3 else t
  | .tqa | .tqb | .tqc | .tqd =>
    let q := (i.quad?).getD 0
    s.forAll (List.range 8) fun t k => if added 0 (8 * q + k) then (t.idleDrive (8 * q + k)).directDrive (8 * q + k) else t
  | .fld =>
    (List.range 4).foldl (fun t c =>
      if ((List.range 10).all fun k => decide (fbWord old c k = fbWord new c k)) && decide (pinOf old 3 c = pinOf new 3 c) then t
      else if t.fbPin c = 2 then t.setPhase c 6 else t.fbLeaveInit c) (s.wr Reg.FB_PART (word (partBase new 2 / 1024)))
  | .sat => { s with sat := { s.sat with prefetch := [] } }
  | .rng => s.initIsland .rng
  | _ => s

/-- An island reaches ON: from OFF or GATED with LOST set, but not the first time in a power-up (R58), at the point that the
armature gives it (R84), though SAT with the divider of 8 could start at OPL there, which R81 never lets it run at (DESIGN CHOICE,
log entry 123: R83's starting point is taken); then its parked writes and the requests that wait for it are served (R65, R67). -/
def State.reachOn (s : State) (i : Island) : State :=
  let x := s.island i
  let lost := decide (x.power ≠ .doze)
  let op := if lost && i.variable then (if s.image.isNone then 1 else (islandEntry s.image i).opMin) else x.op
  let y : IslSt := { x with power := .on, waking := false, powered := false, cause := false, seq := none
                            lost := x.lost || (lost && x.broughtUp), broughtUp := true
                            inCommit := if lost then false else x.inCommit, recast := false, op := op }
  let t := s.setIsland i y
  let t := if lost then t.reinitialise i else if x.recast then t.recastInit i else t
  let t := (((t.kickSeq i).deliverParked i).serveWaiters i).commitRaised i
  let t := if i = .sat then t.flushToHost.issueSplits else t
  t.startReady.monPump

/-- A wake ends, where nothing forbids it and the island's clock runs (R76). An island that finds an uncorrectable word in its sections of the shadow stays OFF (04_armature.md). -/
def State.wakeDone (s : State) (i : Island) : State :=
  let x := s.island i
  if !x.waking || decide (x.power = .on) || (decide (x.power ≠ .doze) && !x.powered) || s.wakeForbidden i || s.inReset i ||
      s.recastHolds i || s.stopped .pln || s.stopped i then s
  else if x.power = .doze then s.reachOn i
  else
    let r := s.readShadow i
    if r.1 then r.2.modIsland i fun y => { y with waking := false, powered := false } else r.2.reachOn i

/-- ISLAND_WAKE_DONE (R58). -/
def execIslandWakeDone (i : Island) (s : State) : Out := .next (s.wakeDone i)

/-! ### Forced power: the _C write that completes pair 5 (R46, R61) -/

/-- The _C write of pair 5 for an island and a mode. -/
def State.forceWrite (s : State) (req : Requester) (i : Island) (mode : Nat) : State :=
  s.writeReg req (pairV 5 + 4) (~~~(word (i.idx + 16 * mode)))

/-- FPWR_FREE (R61). -/
def execFpwrFree (req : Requester) (i : Island) (s : State) : Out := .next (s.forceWrite req i 0)

/-- FPWR_KEEP_ON (R61). -/
def execFpwrKeepOn (req : Requester) (i : Island) (s : State) : Out := .next (s.forceWrite req i 1)

/-- FPWR_OFF_NOW (R57). -/
def execFpwrOffNow (req : Requester) (i : Island) (s : State) : Out := .next (s.forceWrite req i 2)

/-! ### Parked writes and waits -/

/-- PARKED_WRITE_DELIVER (R65): to an island that is ON. -/
def execParkedWriteDeliver (i : Island) (s : State) : Out :=
  .next (if s.isOn i && !s.gateClosed i && !s.stopped i then (s.deliverParked i).monPump else s)

/-- The host's reads and AtomicOps in the bridge that have waited 1 ms for SAT to be ON end with CA (R67). -/
def State.jobWaitOver (s : State) : State :=
  if s.isOn .sat && !s.gateClosed .sat then s
  else
    let old := fun (j : BridgeJob) => !j.started && s.passed j.sinceAt (msTicks 1)
    (s.sat.nonPosted.filter old).foldl (fun t j => (((t.aer aerCa true).jobReply j .ca [] false).bump Reg.PLN_WAKE_FAIL).raise 556)
      { s with sat := { s.sat with nonPosted := s.sat.nonPosted.filter fun j => !old j } }

/-- WAKE_FAIL (R67). -/
def execWakeFail (i : Island) (s : State) : Out :=
  .next (let t := s.waitOver i
         (if i = .sat then t.jobWaitOver else t).monPump)

end Sys2Proof.Machine
end

