-- ==== Sys2Proof/Machine/Memory.lean ====
section
/-!
DEFINITION. The commands on the SRAM (R26, R189, R206): the direct window and the patrol scrub.
-/

namespace Sys2Proof.Machine

/-- The byte offset of an SRAM word in the direct window (R26). -/
def sramOffset (w : Nat) : Nat := 0x800000 + 4 * w

/-- SRAM_WINDOW_WRITE (R26, R125, R206). -/
def execSramWindowWrite (req : Requester) (word : BitVec 18) (value : Word) (s : State) : Out :=
  .next (s.writeReg req (sramOffset word.toNat) value)

/-- SRAM_WINDOW_READ (R26, R189, R206). -/
def execSramWindowRead (req : Requester) (word : BitVec 18) (s : State) : Out := .next (s.readReg req (sramOffset word.toNat))

/-- The patrol scrub reads the next word on a grant of SCRUB from the arbiter of its bank; after the last word a pass is
complete (R206). -/
def State.patrol (s : State) : State :=
  if !s.isOn .mem || s.stopped .mem || s.stepping .mem || !s.bit Reg.MEM_SCRUB_CTL 0 then s
  else
    let w := s.mem.next % sramWords
    match s.grantAt (w / 32768) 14 with
    | none => s.noteAsked (w / 32768) [14]
    | some t =>
      let u := (t.sramRead w).2.2
      let u := { u with mem := { u.mem with next := (w + 1) % sramWords } }
      if w + 1 = sramWords then u.bump Reg.MEM_SCRUB_PASS else u

/-- MEM_PATROL_SCRUB (R206). -/
def execMemPatrolScrub (s : State) : Out := .next s.patrol

end Sys2Proof.Machine
end

