-- ==== Sys2Proof/Machine/Monitor.lean ====
section
/-!
DEFINITION. The commands on the serial monitor (15_serial_monitor.md, R429 to R446). A command line that has been entered waits;
the commands MON_CMD_… run it where its letter is theirs.
-/

namespace Sys2Proof.Machine

/-! ### Line and session -/

/-- MON_BANNER (R429). -/
def execMonBanner (s : State) : Out := .next s.monBannerOp

/-- MON_SESSION_START (R430): a carriage return whose start bit lasts `startBitNs`. -/
def execMonSessionStart (startBitNs : Nat) (s : State) : Out := .next (s.monStart startBitNs)

/-- MON_BREAK (R431, R433). -/
def execMonBreak (s : State) : Out := .next s.monBreakOp

/-- MON_BREAK_END (R431). -/
def execMonBreakEnd (s : State) : Out := .next s.monBreakEndOp

/-- MON_CHAR_RX (R429, R433, R435). -/
def execMonCharRx (ch : BitVec 8) (s : State) : Out := .next (s.monRx ch)

/-! ### Commands (R434 to R442) -/

/-- MON_CMD_HELP (R440). -/
def execMonCmdHelp (s : State) : Out := .next s.monHelp

/-- MON_CMD_V (R440). -/
def execMonCmdV (s : State) : Out := .next s.monV

/-- MON_CMD_R (R439, R440). -/
def execMonCmdR (s : State) : Out := .next s.monR

/-- MON_CMD_W (R439, R440). -/
def execMonCmdW (s : State) : Out := .next s.monW

/-- MON_CMD_P (R439 to R441). -/
def execMonCmdP (s : State) : Out := .next s.monP

/-- MON_CMD_S (R440). -/
def execMonCmdS (s : State) : Out := .next s.monS

/-- MON_CMD_E (R440). -/
def execMonCmdE (s : State) : Out := .next s.monE

/-- MON_CMD_T (R440). -/
def execMonCmdT (s : State) : Out := .next s.monT

/-- MON_CMD_G (R440). -/
def execMonCmdG (s : State) : Out := .next s.monG

/-- MON_CMD_Q (R440). -/
def execMonCmdQ (s : State) : Out := .next s.monQ

/-- MON_CMD_C (R440). -/
def execMonCmdC (s : State) : Out := .next s.monC

/-- MON_CMD_X (R440): a scan that it starts asks the planner. -/
def execMonCmdX (s : State) : Out := .next s.monX.startReady

/-- MON_CMD_A (R440). -/
def execMonCmdA (s : State) : Out := .next s.monA

/-- MON_CMD_B (R440). -/
def execMonCmdB (s : State) : Out := .next s.monB

/-- MON_CMD_Z (R440, R442). -/
def execMonCmdZ (s : State) : Out := .next s.monZ

/-- MON_Z_RESET (R139, R442). -/
def execMonZReset (s : State) : Out := .next s.monZReset

/-! ### Loading an armature (R443 to R445) -/

/-- MON_CMD_L (R443). -/
def execMonCmdL (s : State) : Out := .next s.monL

/-- MON_HEX_LINE (R444, R445). -/
def execMonHexLine (s : State) : Out := .next s.monHex

/-- MON_LOAD_END (R445). -/
def execMonLoadEnd (s : State) : Out := .next s.monLoadEnd

/-- MON_LOAD_ABORT (R440). -/
def execMonLoadAbort (s : State) : Out := .next s.monLoadAbort

/-! ### Events and the level (R432, R438) -/

/-- MON_EVENT_LINE (R438). -/
def execMonEventLine (s : State) : Out := .next s.monEventLine

/-- MON_LEVEL_WRITE (R432): a write to MON_CTL. -/
def execMonLevelWrite (req : Requester) (value : Word) (s : State) : Out := .next (s.writeReg req Reg.MON_CTL value)

end Sys2Proof.Machine
end

