-- ==== Sys2Proof/Machine/Time.lean ====
section
/-!
DEFINITION. The passing of time: one tick of 2.5 ns (R11).
-/

namespace Sys2Proof.Machine

/-- One tick: the model's clock goes on, and device time with it while TIMEBASE runs (R11, R69, R76), wrapping from
2^54 − 1 to 0; the ledger books what it does not meter (R260, R261), the idle timers look at their islands' conditions
(R57), the link at what it has to send (R161, R162), the slip comparators at their speeds (R298), and under shed step 6 what is idle sleeps (R268). -/
def State.tick (s : State) : State :=
  let t := s.bookTick.noteIdle.noteQuiet.noteSlips.sleepUnderShed.fmcTick
  { t with now := t.now + 1, devTime := if t.clk.timebase then t.devTime + 1 else t.devTime }

end Sys2Proof.Machine
end

