-- ==== Sys2Proof/Machine/Registers.lean ====
section
/-!
DEFINITION. The commands on the registers themselves (02_registers.md): reads and writes of every kind, the scrub of the
parity bits, mailboxes, lock bits, pairs; and the handshake channels (R52, R53).
-/

namespace Sys2Proof.Machine

/-- REGISTER_WRITE (R20 to R34): the write goes over the register bus and is judged and stored by the register's rules. -/
def execRegisterWrite (a : RegAccess) (s : State) : Out := .next (s.regAccess true a)

/-- A write through the alias range `n` of a register (R24, R31). -/
def State.aliasOp (s : State) (req : Requester) (reg : BitVec 24) (n : Nat) (v : Word) : State :=
  s.writeReg req (reg.toNat + 0x4000 * n) v

/-- SET_ALIAS_WRITE (R31). -/
def execSetAliasWrite (req : Requester) (reg : BitVec 24) (value : Word) (s : State) : Out := .next (s.aliasOp req reg 1 value)

/-- CLEAR_ALIAS_WRITE (R31). -/
def execClearAliasWrite (req : Requester) (reg : BitVec 24) (value : Word) (s : State) : Out := .next (s.aliasOp req reg 2 value)

/-- TOGGLE_ALIAS_WRITE (R31). -/
def execToggleAliasWrite (req : Requester) (reg : BitVec 24) (value : Word) (s : State) : Out := .next (s.aliasOp req reg 3 value)

/-- RC_FIELD_READ (R29): the read of a register with RC fields. -/
def execRcFieldRead (req : Requester) (reg : BitVec 24) (s : State) : Out := .next (s.readReg req reg.toNat)

/-- REGISTER_READ (R33, R67). -/
def execRegisterRead (a : RegAccess) (s : State) : Out := .next (s.regAccess false a)

/-- DEVICE_TIME_WRAP (R11): the tick on which device time goes from 2^54 − 1 to 0. -/
def execDeviceTimeWrap (s : State) : Out :=
  .next (if s.devTime = BitVec.allOnes 54 ∧ s.clk.timebase = true then s.tick else s)

/-- The activity SCRUB (R249). -/
abbrev actScrub : Nat := 14

/-- The scrub pass takes its grant on the register bus and checks a register. -/
def State.scrubGrant (s : State) : State :=
  if s.scrub.isNone || s.stopped .pln then s
  else match s.busGrant actScrub with
    | some t => t.scrubCheck
    | none => s.noteAsked 11 [actScrub]

/-- SCRUB_REGISTER_CHECK (R36 to R38). -/
def execScrubRegisterCheck (s : State) : Out := .next s.scrubGrant

/-- PLN_PAR_HOLD_CLEAR (R39): ones are written to the bits to be cleared. -/
def execPlnParHoldClear (req : Requester) (bits : Word) (s : State) : Out := .next (s.writeReg req Reg.PLN_PAR_HOLD bits)

/-! ### Mailboxes (R40 to R43) -/

/-- MAILBOX_CAPTURE (R40). -/
def execMailboxCapture (req : Requester) (mb : MailboxId) (item : BitVec 17) (s : State) : Out :=
  .next (s.writeReg req mb.sel (word item.toNat))

/-- MAILBOX_CAPTURE_DONE (R40). -/
def execMailboxCaptureDone (mb : MailboxId) (s : State) : Out := .next (s.captureDone mb)

/-- MAILBOX_WORD_READ (R41). -/
def execMailboxWordRead (req : Requester) (mb : MailboxId) (k : Fin 3) (s : State) : Out :=
  .next (s.readReg req (mb.sel + 8 + 4 * k.val))

/-- MAILBOX_APPLY (R42): bit 17 is APPLY. -/
def execMailboxApply (req : Requester) (mb : MailboxId) (item : BitVec 17) (s : State) : Out :=
  .next (s.writeReg req mb.sel (word (item.toNat + 2 ^ 17)))

/-- MAILBOX_APPLY_DONE (R42). -/
def execMailboxApplyDone (mb : MailboxId) (s : State) : Out := .next (s.applyDone mb)

/-! ### Lock bits and pairs (R44 to R47) -/

/-- LOCK_BIT_SET (R44): the register is written as it stands, with the lock bit set. -/
def execLockBitSet (req : Requester) (bit : LockBit) (s : State) : Out :=
  .next (s.writeReg req bit.reg (s.rd bit.reg ||| word (2 ^ bit.bit)))

/-- PAIR_V_WRITE (R46, R47). -/
def execPairVWrite (req : Requester) (pair : Fin 9) (value : Word) (s : State) : Out := .next (s.writeReg req (pairV pair.val) value)

/-- PAIR_TIMEOUT (R47). -/
def execPairTimeout (pair : Fin 9) (s : State) : Out := .next (s.pairOver pair.val)

/-! ### Handshake channels (R52, R53) -/

/-- HANDSHAKE_ENTRY_DELIVERED (R53). -/
def execHandshakeEntryDelivered (ch : ChannelId) (s : State) : Out := .next (s.entryDelivered ch)

/-- HANDSHAKE_SEND_RESUME (R52). -/
def execHandshakeSendResume (ch : ChannelId) (s : State) : Out := .next (s.sendResumed ch)

end Sys2Proof.Machine
end

