-- ==== Sys2Proof/Machine/Resets.lean ====
section
/-!
DEFINITION. The commands of power-up and the resets (05_power_up_and_reset.md, R127 to R147), and configuration requests
(R131).
-/

namespace Sys2Proof.Machine

/-! ### POR, RESET_N and the power-up sequence -/

/-- POR_ASSERT (R127). -/
def execPorAssert (s : State) : Out := .next s.porAssertOp

/-- POR_END (R127 to R129): the straps are sampled. -/
def execPorEnd (straps : BitVec 4) (s : State) : Out := .next (if s.boot.inPor then s.resetDevice true 0 straps else s)

/-- A pulse on RESET_N (R128): under 100 ns it is ignored, from 1 µs it resets, between the pad filter decides. -/
def State.resetPulse (s : State) (ns : Nat) (taken : Bool) (straps : BitVec 4) : State :=
  if s.boot.inPor || decide (ns < 100) || (decide (ns < 1000) && !taken) then s else s.resetDevice false 1 straps

/-- RESET_N_PULSE (R128). -/
def execResetNPulse (ns : Nat) (taken : Bool) (straps : BitVec 4) (s : State) : Out := .next (s.resetPulse ns taken straps)

/-- Every SRAM word is zero with valid check bits, and the read of slot A begins (R129 steps 2 and 3). -/
def State.sramCleared (s : State) : State :=
  if s.boot.inPor || decide (s.fld Reg.PLN_BOOT 0 3 ≠ 0) then s
  else ({ s with sram := [] }.setFld Reg.PLN_BOOT 0 3 1).readSlot false true

/-- SRAM_CLEAR_DONE (R129). -/
def execSramClearDone (s : State) : Out := .next s.sramCleared

/-- The power-up commit starts once XTAL is judged or IRC mode is entered (R129 steps 4 and 5, R131). -/
def State.powerUpCommit (s : State) : State :=
  if s.boot.waitXtal && decide (s.stage = 3) && (s.bit Reg.CLK_STS 0 || s.bit Reg.CLK_STS 1) then s.startWhole true else s

/-- POWERUP_COMMIT_START (R129, R131). -/
def execPowerupCommitStart (s : State) : Out := .next s.powerUpCommit

/-! ### PERST_N, hot reset, FLR -/

/-- PERST_DEASSERT (R130). -/
def execPerstDeassert (s : State) : Out := .next ({ s with boot := { s.boot with perstN := true } }.enableHst)

/-- PERST_ASSERT (R145). -/
def execPerstAssert (s : State) : Out := .next (if s.boot.perstN then s.perstOp else s)

/-- HOT_RESET (R145). -/
def execHotReset (s : State) : Out := .next s.hotResetOp

/-- FLR (R143): a configuration write of the bit Initiate Function Level Reset of Device Control, its other bits as they are. -/
def execFlr (s : State) : Out :=
  .next (s.configOp { write := true, dword := 30, be := 2, data := s.cfgD 30 ||| 0x8000 })

/-- The FLR completes (R143). -/
def State.flrDone (s : State) : State :=
  if s.boot.flr then ({ s with boot := { s.boot with flr := false } }.createAfterFlr).released else s

/-- FLR_COMPLETE (R143). -/
def execFlrComplete (s : State) : Out := .next s.flrDone

/-- CONFIG_REQUEST (R131, R174 to R185). -/
def execConfigRequest (q : ConfigReq) (s : State) : Out := .next (s.configOp q).released

/-! ### Island reset and purge -/

/-- ISLAND_RESET (R146). -/
def execIslandReset (req : Requester) (value : Word) (s : State) : Out := .next (s.writeReg req Reg.PLN_ISL_RST value)

/-- DEVICE_PURGE (R147): the _C write of pair 8. -/
def execDevicePurge (req : Requester) (c : Word) (s : State) : Out := .next (s.writeReg req (pairV 8 + 4) c)

/-- PURGE_ERASE_DONE (R147). -/
def execPurgeEraseDone (s : State) : Out := .next s.purgeDone

/-! ### The supply of the field pins (R136) -/

/-- VIO_5_LOSS (R136): the switches fed from VIO_5 disconnect the field pins' input loads, and the trigger drivers lose drive;
both follow `boot.vio5`. -/
def execVio5Loss (s : State) : Out := .next { s with boot := { s.boot with vio5 := false } }

/-- VIO_5_RETURN (R136). -/
def execVio5Return (s : State) : Out := .next { s with boot := { s.boot with vio5 := true } }

end Sys2Proof.Machine
end

