-- ==== Sys2Proof/Machine/Ring.lean ====
section
/-!
DEFINITION. The commands on the ring (12_alsyn_group.md, R334 to R370). A frame is received by RING_FRAME_RX, which checks and
forwards it and keeps it for the node where it is addressed to it; the commands named after a frame consume the oldest one
kept.
-/

namespace Sys2Proof.Machine

/-- RNG is ON and has its clock. -/
def State.ringWorks (s : State) : Bool := s.isOn .rng && !s.stopped .rng

/-- What a command does while RNG works. -/
def State.onRing (s : State) (f : State → State) : State := if s.ringWorks then f s else s

/-- The oldest kept frame, where it is of the kind, is consumed. -/
def State.onFrame (s : State) (want : RFrame → Bool) (f : State → RxFrame → State) : State :=
  if s.ringWorks then
    match s.takeFrame want with
    | some (x, t) => f t x
    | none => s
  else s

/-! ### Training and frames (R338 to R343) -/

/-- RING_TRAIN_START (R338). -/
def execRingTrainStart (s : State) : Out := .next (s.onRing State.trainStartOp)

/-- TRAINING_BLOCK_RX (R338, R339): `adapted` tells whether the own receiver is. -/
def execTrainingBlockRx (side : Side) (block : BitVec 64) (adapted : Bool) (s : State) : Out :=
  .next (s.onRing fun s => s.trainRx side block adapted)

/-- A lane that is not up 10 ms after it began to train shows FAILED and tries again (R339). -/
def State.trainOver (s : State) (side : Side) : State :=
  match (s.lane side).trainAt with
  | none => s
  | some a =>
    if (s.lane side).up || !s.passed a (msTicks 10) then s
    else (s.trainLane side).setFld (Reg.RNG_LANE_STS (sideNum side)) 6 2 3

/-- RING_TRAIN_TIMEOUT (R339). -/
def execRingTrainTimeout (side : Side) (s : State) : Out := .next (s.onRing fun s => s.trainOver side)

/-- RING_FRAME_RX (R340, R341, R343, R346): `age` is the time since the header's first bit arrived, in sub-ticks. -/
def execRingFrameRx (side : Side) (header : BitVec 64) (data : List (BitVec 64)) (age : Nat) (s : State) : Out :=
  .next (s.onRing fun s => s.frameIn side header data age)

/-- BEACON_RX (R346, R347, R352, R357). -/
def execBeaconRx (s : State) : Out := .next (s.onFrame (fun f => decide (f.typ = 0)) fun s x => s.beaconIn x.f x.side x.arrSt)

/-- SAMPLE_RX (R293, R349): a node that is ALONE has no group encoders (R367). -/
def execSampleRx (s : State) : Out :=
  .next (s.onFrame (fun f => decide (f.typ = 1)) fun s x => if s.ringState = 0 then s else s.sampleIn x.f)

/-- STATUS_RX (R351, R353, R355, R357). -/
def execStatusRx (s : State) : Out := .next (s.onFrame (isControl 1) fun s x => s.statusIn x.f)

/-- DELAY_REQ_RX (R345). -/
def execDelayReqRx (s : State) : Out := .next (s.onFrame (isControl 2) fun s x => s.delayReqIn x)

/-- DELAY_RESP_RX (R345). -/
def execDelayRespRx (s : State) : Out := .next (s.onFrame (isControl 3) fun s x => s.delayRespIn x)

/-- WRAP_RX (R362, R363). -/
def execWrapRx (s : State) : Out := .next (s.onFrame (isControl 4) fun s x => s.wrapIn x.f)

/-- UNWRAP_RX (R364). -/
def execUnwrapRx (s : State) : Out := .next (s.onFrame (isControl 5) fun s x => s.unwrapIn x.f)

/-- A node has left: it is no member, is not missing, and is no candidate (R355). -/
def State.leaveIn (s : State) (n : Nat) : State :=
  (((s.setNode n {}).setBit Reg.RNG_MEMBERS n false).setBit Reg.RNG_MISSING n false).judgeCandidate.showNode

/-- LEAVE_RX (R355). -/
def execLeaveRx (s : State) : Out := .next (s.onFrame (isControl 6) fun s x => s.leaveIn x.f.src)

/-- GROUPRESET_RX (R368): of a node that is in a group. -/
def execGroupresetRx (s : State) : Out :=
  .next (s.onFrame (isControl 7) fun s x => if s.ringState = 0 ∨ s.ringState = 7 then s else s.groupresetIn x.f)

/-- FETCHREQ_RX (R359). -/
def execFetchreqRx (s : State) : Out := .next (s.onFrame (isControl 8) fun s x => (s.fetchreqIn x.f).startReady)

/-- ARMATURE_FRAME_RX (R359, R360). -/
def execArmatureFrameRx (s : State) : Out :=
  .next (s.onFrame (fun f => decide (f.typ = 3)) fun s x => (s.armatureIn x.f).startReady)

/-- GAP_FRAME_RX (R356): of a member. -/
def execGapFrameRx (s : State) : Out :=
  .next (s.onFrame (fun f => decide (f.typ = 4)) fun s x => if s.ringState = 5 ∨ s.ringState = 6 then s.gapIn x.f else s)

/-- ECHO_RX (R369). -/
def execEchoRx (s : State) : Out := .next (s.onFrame isDiag fun s x => s.echoIn x)

/-! ### What the node sends by itself -/

/-- STATUS_SEND (R342, R355). -/
def execStatusSend (s : State) : Out := .next (s.onRing State.statusOp)

/-- BEACON_SEND (R342, R346). -/
def execBeaconSend (s : State) : Out := .next (s.onRing State.beaconOp)

/-- SAMPLE_SEND (R349). -/
def execSampleSend (k : Fin 16) (s : State) : Out := .next (s.onRing fun s => s.sampleOp k.val)

/-- HEARTBEAT_SEND (R336): on the westward direction of a link that is up. -/
def execHeartbeatSend (s : State) : Out := .next (s.onRing fun s => if s.ring.west.up && !s.held .rng then s.send (.ringWake .west) else s)

/-- DELAY_MEASURE (R345). -/
def execDelayMeasure (s : State) : Out := .next (s.onRing State.delayReqOp)

/-- No sample of a group encoder for 4,096 ticks: the virtual encoders that it feeds are NOSRC (R350). -/
def State.geStaleOp (s : State) (k : Nat) : State :=
  match Tab.get none s.ring.geAt k with
  | none => s
  | some a =>
    if s.bit Reg.RNG_GE_STS k && s.passed a 4096 then
      let t := (s.setBit Reg.RNG_GE_STS k false).raiseRing 20
      t.forAll (List.range 32) fun t v =>
        let e := sprueOf t.image v
        if e.kind = 2 ∧ e.index = k then t.sendEstimate v else t
    else s

/-- GE_STALE (R350). -/
def execGeStale (k : Fin 16) (s : State) : Out := .next (s.onRing fun s => s.geStaleOp k.val)

/-! ### Keeper and members (R351 to R356, R365) -/

/-- ELECTION_STABLE (R351, R352). -/
def execElectionStable (s : State) : Out := .next (s.onRing State.electOp)

/-- The keeper has had no STATUS of a member for 500 µs (R355). -/
def State.memberMissing (s : State) (n : Nat) : State :=
  if s.bit Reg.RNG_STS 3 && s.bit Reg.RNG_MEMBERS n && !s.bit Reg.RNG_MISSING n && decide (n ≠ s.nodeId) &&
      s.passed (s.node n).lastAt (usTicks 500) then s.declareMissing n
  else s

/-- MEMBER_MISSING (R355). -/
def execMemberMissing (node : Fin 16) (s : State) : Out := .next (s.onRing fun s => s.memberMissing node.val)

/-- GAP_FRAME_SEND (R356): the keeper reports a node that stays missing. -/
def execGapFrameSend (node : Fin 16) (s : State) : Out :=
  .next (s.onRing fun s => if s.bit Reg.RNG_STS 3 && s.bit Reg.RNG_MISSING node.val then s.gapFrame node.val false else s)

/-- KEEPER_LOST (R365). -/
def execKeeperLost (s : State) : Out := .next (s.onRing State.keeperLostOp)

/-! ### Lanes (R362 to R364, R370) -/

/-- RECEIVE_DIRECTION_LOST (R362). -/
def execReceiveDirectionLost (side : Side) (s : State) : Out := .next (s.onRing fun s => s.directionLost side)

/-- DIRECTION_RESTORED (R364). -/
def execDirectionRestored (side : Side) (s : State) : Out := .next (s.onRing fun s => s.directionBack side)

/-- MOD_ABS of a lane in MODULE mode changes; an absent module is a lost receive direction (R335, R362, R370). -/
def State.moduleOp (s : State) (side : Side) (absent : Bool) : State :=
  let k := Reg.RNG_LANE_STS (sideNum side)
  if (pinOf s.image 5 (sideNum side)).1 ≠ 1 ∨ s.bit k 1 = absent then s
  else
    let t := (s.setBit k 1 absent).raiseRing 4
    if absent then t.directionLost side else t

/-- MODULE_CHANGE (R370). -/
def execModuleChange (side : Side) (absent : Bool) (s : State) : Out := .next (s.onRing fun s => s.moduleOp side absent)

/-! ### The fetch (R359 to R361) -/

/-- FETCH_START (R359). -/
def execFetchStart (s : State) : Out := .next (s.onRing fun s => s.fetchOpRing.startReady)

/-- FETCH_STALL (R361). -/
def execFetchStall (s : State) : Out := .next (s.onRing State.fetchStallOp)

/-- FETCH_RETRY (R361). -/
def execFetchRetry (s : State) : Out := .next (s.onRing fun s => s.fetchRetryOp.startReady)

/-! ### Leaving, joining, group reset, diagnostics (R366 to R369) -/

/-- GROUP_LEAVE (R367): the _C write of pair 7. -/
def execGroupLeave (req : Requester) (c : Word) (s : State) : Out := .next (s.writeReg req (pairV 7 + 4) c)

/-- REJOIN (R367): RNG_CTL is written as it stands, with REJOIN. -/
def execRejoin (req : Requester) (s : State) : Out := .next (s.writeReg req Reg.RNG_CTL (withField (s.rd Reg.RNG_CTL) 1 1 1))

/-- JOIN_WRITE (R366). -/
def execJoinWrite (req : Requester) (value : Word) (s : State) : Out := .next (s.writeReg req Reg.RNG_JOIN value)

/-- GRPRESET (R368): RNG_CTL is written as it stands, with GRPRESET. -/
def execGrpreset (req : Requester) (s : State) : Out := .next (s.writeReg req Reg.RNG_CTL (withField (s.rd Reg.RNG_CTL) 2 1 1))

/-- GROUP_RESET_TIME (R368). -/
def execGroupResetTime (s : State) : Out := .next (s.onRing State.groupResetOp)

/-- DIAG (R369): RNG_CTL is written as it stands, with DIAG. -/
def execDiag (req : Requester) (s : State) : Out := .next (s.writeReg req Reg.RNG_CTL (withField (s.rd Reg.RNG_CTL) 3 1 1))

end Sys2Proof.Machine
end

