-- ==== Sys2Proof/Machine/Satellite.lean ====
section
/-!
DEFINITION. The commands on the satellite port and its bridge (14_satellite_bridge.md, R402 to R426).
-/

namespace Sys2Proof.Machine

/-- What a command does while SAT runs. -/
def State.onSat (s : State) (f : State → State) : State := if s.satRuns then f s else s

/-! ### The bus: grants and bursts -/

/-- SAT_GRANT (R407, R408). -/
def execSatGrant (requests : List SatRequest) (s : State) : Out := .next (s.satGrantOp requests)

/-- SAT_GRANT_TIMEOUT (R407). -/
def execSatGrantTimeout (m : Fin 2) (s : State) : Out := .next (s.onSat fun s => s.satGrantTimeoutOp m.val)

/-- BRIDGE_BURST (R195, R405, R413 to R417): the next burst of the bridge, and how its target answered. -/
def execBridgeBurst (answer : TargetAnswer) (s : State) : Out := .next (s.bridgeBurstOp answer)

/-- SAT_WR_OBSERVED (R414). -/
def execSatWrObserved (addr : BitVec 22) (len : Nat) (s : State) : Out := .next (s.onSat fun s => s.wrObserved addr.toNat len)

/-- SAT_TARGET_TIMEOUT (R405): a burst of master m to a board target, which the device ends with SAT_ERR_N. -/
def execSatTargetTimeout (m : Fin 2) (addr : BitVec 22) (s : State) : Out :=
  .next (if s.satBusOpen && s.masterThere m.val then (s.targetTimeout (m.val + 1) addr).send (.satErr m.val) else s)

/-! ### Device space -/

/-- SAT_HRD (R418 to R421). -/
def execSatHrd (m : Fin 2) (b : SatBurst) (s : State) : Out :=
  .next (s.splitBurst m.val (b.onBus 3))

/-- SAT_HWR (R406, R419 to R421). -/
def execSatHwr (m : Fin 2) (b : SatBurst) (s : State) : Out :=
  .next (s.hwrBurst m.val (b.onBus 4))

/-- SAT_HATM (R418, R419, R422). -/
def execSatHatm (m : Fin 2) (b : SatBurst) (s : State) : Out :=
  .next (s.splitBurst m.val (b.onBus 5))

/-- SAT_CMD_RESERVED (R403). -/
def execSatCmdReserved (m : Fin 2) (b : SatBurst) (s : State) : Out :=
  .next (s.reservedBurst m.val (b.onBus (b.cmd ||| 6)))

/-- SPLIT_ANSWER_TIMEOUT (R418). -/
def execSplitAnswerTimeout (m : Fin 2) (s : State) : Out := .next (s.onSat fun s => s.splitTimeoutOp m.val)

/-! ### The bus lock -/

/-- SAT_LOCK_TAKE (R408). -/
def execSatLockTake (m : Fin 2) (s : State) : Out := .next (s.satLockTakeOp m.val)

/-- SAT_LOCK_RELEASE (R408, R409). -/
def execSatLockRelease (m : Fin 2) (s : State) : Out := .next (s.satLockReleaseOp m.val)

/-- SAT_LOCKMAX_EXPIRY (R409). -/
def execSatLockmaxExpiry (s : State) : Out := .next s.lockmaxOp

/-- SAT_LKSTS_READ (R410). -/
def execSatLkstsRead (req : Requester) (s : State) : Out := .next (s.readReg req Reg.SAT_LKSTS)

/-! ### Host requests to the windows -/

/-- BRIDGE_HOST_WRITE (R411 to R416). -/
def execBridgeHostWrite (a : Bar2Access) (s : State) : Out :=
  .next (s.hostWindowWrite a)

/-- BRIDGE_HOST_READ (R411 to R416, R424). -/
def execBridgeHostRead (a : Bar2Access) (s : State) : Out :=
  .next (s.hostWindowRead a)

/-- BRIDGE_READ_START_TIMEOUT (R413). -/
def execBridgeReadStartTimeout (s : State) : Out := .next (s.onSat fun s => s.jobStartTimeout false)

/-- PREFETCH_EXPIRY (R414). -/
def execPrefetchExpiry (w : Fin 16) (s : State) : Out := .next (s.onSat fun s => s.prefetchExpiryOp w.val)

/-! ### Wires and resets of the masters -/

/-- SAT_INT_ASSERT (R423). -/
def execSatIntAssert (i : Fin 4) (s : State) : Out := .next (s.satInt i.val)

/-- SAT_MRST_ASSERT (R425). -/
def execSatMrstAssert (m : Fin 2) (s : State) : Out := .next (s.mrstAssert m.val)

/-- SAT_MRST_DEASSERT (R425). -/
def execSatMrstDeassert (m : Fin 2) (s : State) : Out := .next (s.mrstDeassert m.val)

/-- SAT_REQ_WAKE (R426). -/
def execSatReqWake (m : Fin 2) (s : State) : Out := .next (s.satReq m.val)

end Sys2Proof.Machine
end

