-- ==== Sys2Proof/Machine/Triggers.lean ====
section
/-!
DEFINITION. The commands on triggers, strobes and quad faults (11_triggers_and_heads.md, R303 to R323, R329).
-/

namespace Sys2Proof.Machine

/-- The port's quad has its clock (R77). -/
def State.quadRuns (s : State) (p : Nat) : Bool := !s.stopped (Island.ofQuad (qOf p))

/-! ### Fires -/

/-- FIRE_FREEZE (R304 to R309, R354): the ready pin stands at `rdy`. -/
def execFireFreeze (p : Fin 32) (rdy : Bool) (s : State) : Out := .next (if s.quadRuns p.val then s.freeze p.val rdy else s)

/-- FIRE_EDGE (R309, R311, R316). -/
def execFireEdge (p : Fin 32) (s : State) : Out := .next (if s.quadRuns p.val then s.fireEdgeOp p.val else s)

/-- TRIGGER_END (R311). -/
def execTriggerEnd (p : Fin 32) (s : State) : Out := .next (if s.quadRuns p.val then s.triggerEndOp p.val else s)

/-- STROBE_ON (R313). -/
def execStrobeOn (p : Fin 32) (s : State) : Out := .next (if s.quadRuns p.val then s.strobeOnOp p.val else s)

/-- STROBE_OFF (R313). -/
def execStrobeOff (p : Fin 32) (s : State) : Out := .next (if s.quadRuns p.val then s.strobeOffOp p.val else s)

/-- STB_LIM_CUT (R314): the pads act whether or not the quad's clock runs. -/
def execStbLimCut (p : Fin 32) (s : State) : Out := .next (s.cutStb p.val)

/-- TRG_LIM_CUT (R314). -/
def execTrgLimCut (p : Fin 32) (s : State) : Out := .next (s.cutTrg p.val)

/-- The strobe sink protects itself, or does so no longer (R315). -/
def State.sinkFault (s : State) (p : Nat) (present : Bool) : State :=
  let x := s.port p
  let t := s.setPort p { x with stbFlt := present }
  if present && !x.stbFlt && s.isOn (Island.ofQuad (qOf p)) then t.raiseHp p 8 else t

/-- STROBE_SINK_FAULT (R315). -/
def execStrobeSinkFault (p : Fin 32) (present : Bool) (s : State) : Out := .next (s.sinkFault p.val present)

/-- A gap run has been open for 100 ms of device time (R317). -/
def State.gapRunOver (s : State) (p : Nat) : State :=
  match (s.port p).gap, s.binder p with
  | some g, some slot => if msTicks 100 ≤ (s.devTime - g.began).toNat then s.closeGap p slot else s
  | _, _ => s

/-- The island that writes a port's open run has its clock: the queue island for a QUADFAULT run, else the quad (R77, R323). -/
def State.runWriter (s : State) (p : Nat) : Bool :=
  match (s.port p).gap with
  | some g => if g.reason = 3 then !s.stopped .que else s.quadRuns p
  | none => false

/-- GAP_RUN_TIMEOUT (R317). -/
def execGapRunTimeout (p : Fin 32) (s : State) : Out := .next (if s.runWriter p.val then s.gapRunOver p.val else s)

/-- When the next standstill frame of a port falls due, in ticks (R318): every P14 ms from the moment STILL set, while the channel
is LIVE. -/
def State.stillDue (s : State) (p slot : Nat) : Nat :=
  let c := s.chn slot
  let base := (s.est (qOf p) c.ve).stillSt / 64
  let step := msTicks (max 1 c.standstill)
  base + ((max c.liveAt ((s.port p).stillAt.getD 0) - base) / step + 1) * step

/-- The standstill frame of a port (R318): it targets the present position, is judged under steps 1 to 3 and 5, and leaves the high-water mark as it is. -/
def State.stillFrame (s : State) (p : Nat) (rdy : Bool) : State :=
  match s.binder p with
  | none => s
  | some slot =>
    let c := s.chn slot
    let e := s.est (qOf p) c.ve
    let due := s.stillDue p slot
    if decide (c.standstill = 0) || decide (c.state ≠ .live) || !e.still || decide (s.now + 64 < due) then s
    else
      let t := s.modPort p fun y => { y with stillAt := some due, rdy := rdy }
      let tf := 64 * due
      if t.groupHeld || (t.stepReason p rdy 0 tf 0).isSome then t
      else t.makeFire p slot tf (tf + (t.rd (Reg.HP_LAT (qOf p) (iOf p))).toNat) (e.posIntAt s.nowSt - (t.port p).offset.toInt) e true

/-- STANDSTILL_FRAME (R318). -/
def execStandstillFrame (p : Fin 32) (rdy : Bool) (s : State) : Out :=
  .next (if s.quadRuns p.val && s.isOn (Island.ofQuad (qOf p.val)) then s.stillFrame p.val rdy else s)

/-- No exposure signal within L + 2 µs of a fire (R329): NOACK once per run of such fires. -/
def State.noAck (s : State) (p : Nat) : State :=
  let x := s.port p
  let late := match x.lastFireSt with
    | some l => decide (l + x.ackLat + 64 * usTicks 2 ≤ s.nowSt)
    | none => false
  if x.awaitAck && late then
    let t := s.setPort p { x with awaitAck := false, noack := true }
    if x.noack then t else t.raiseHp p 6
  else s

/-- NOACK (R329). -/
def execNoack (p : Fin 32) (s : State) : Out := .next (if s.quadRuns p.val then s.noAck p.val else s)

/-! ### Quad faults (R320 to R323) -/

def quadCauseCode : QuadCause → Nat
  | .mismatch => 0 | .sramUE => 1 | .parityHold => 2

/-- QUAD_FAULT (R320 to R322): of a quad that is ON. -/
def execQuadFault (quad : Fin 4) (cause : QuadCause) (s : State) : Out :=
  .next (if s.isOn (Island.ofQuad quad.val) && !s.stopped (Island.ofQuad quad.val) then s.quadFaultOp quad.val (quadCauseCode cause) else s)

/-- QUAD_RESTART (R322): a write to PLN_QF_CTL. -/
def execQuadRestart (req : Requester) (bits : BitVec 4) (s : State) : Out :=
  .next (s.writeReg req Reg.PLN_QF_CTL (word bits.toNat))

end Sys2Proof.Machine
end

