-- ==== Sys2Proof/Machine/Dispatch.lean ====
section
/-! DEFINITION. One arm per command: the call of its meaning. -/

namespace Sys2Proof.Machine

/-- The effect of a command on everything but the queue. -/
def exec (i : Instr) (s : State) : Host.Outcome State Fault Refusal :=
  match i with
  | .registerWrite a => Sys2Proof.Machine.execRegisterWrite a s
  | .setAliasWrite req reg value => Sys2Proof.Machine.execSetAliasWrite req reg value s
  | .clearAliasWrite req reg value => Sys2Proof.Machine.execClearAliasWrite req reg value s
  | .toggleAliasWrite req reg value => Sys2Proof.Machine.execToggleAliasWrite req reg value s
  | .rcFieldRead req reg => Sys2Proof.Machine.execRcFieldRead req reg s
  | .deviceTimeWrap => Sys2Proof.Machine.execDeviceTimeWrap s
  | .scrubRegisterCheck => Sys2Proof.Machine.execScrubRegisterCheck s
  | .plnParHoldClear req bits => Sys2Proof.Machine.execPlnParHoldClear req bits s
  | .mailboxCapture req mb item => Sys2Proof.Machine.execMailboxCapture req mb item s
  | .mailboxCaptureDone mb => Sys2Proof.Machine.execMailboxCaptureDone mb s
  | .mailboxWordRead req mb k => Sys2Proof.Machine.execMailboxWordRead req mb k s
  | .mailboxApply req mb item => Sys2Proof.Machine.execMailboxApply req mb item s
  | .mailboxApplyDone mb => Sys2Proof.Machine.execMailboxApplyDone mb s
  | .lockBitSet req bit => Sys2Proof.Machine.execLockBitSet req bit s
  | .pairVWrite req pair value => Sys2Proof.Machine.execPairVWrite req pair value s
  | .pairTimeout pair => Sys2Proof.Machine.execPairTimeout pair s
  | .handshakeEntryDelivered ch => Sys2Proof.Machine.execHandshakeEntryDelivered ch s
  | .handshakeSendResume ch => Sys2Proof.Machine.execHandshakeSendResume ch s
  | .islandEnable req isl => Sys2Proof.Machine.execIslandEnable req isl s
  | .islandGate req isl => Sys2Proof.Machine.execIslandGate req isl s
  | .islandIdleTimeout isl => Sys2Proof.Machine.execIslandIdleTimeout isl s
  | .islandDrainDone isl => Sys2Proof.Machine.execIslandDrainDone isl s
  | .islandPowerupStart => Sys2Proof.Machine.execIslandPowerupStart s
  | .islandWakeDone isl => Sys2Proof.Machine.execIslandWakeDone isl s
  | .fpwrFree req isl => Sys2Proof.Machine.execFpwrFree req isl s
  | .fpwrKeepOn req isl => Sys2Proof.Machine.execFpwrKeepOn req isl s
  | .fpwrOffNow req isl => Sys2Proof.Machine.execFpwrOffNow req isl s
  | .parkedWriteDeliver isl => Sys2Proof.Machine.execParkedWriteDeliver isl s
  | .wakeFail isl => Sys2Proof.Machine.execWakeFail isl s
  | .xtalIrcGateEnd count => Sys2Proof.Machine.execXtalIrcGateEnd count s
  | .refclkGateEnd count => Sys2Proof.Machine.execRefclkGateEnd count s
  | .refclkGateStall => Sys2Proof.Machine.execRefclkGateStall s
  | .judgeTimeout => Sys2Proof.Machine.execJudgeTimeout s
  | .rejudge req => Sys2Proof.Machine.execRejudge req s
  | .plnSrcSwitch req irc => Sys2Proof.Machine.execPlnSrcSwitch req irc s
  | .xtalStop => Sys2Proof.Machine.execXtalStop s
  | .fmcStart req ctl => Sys2Proof.Machine.execFmcStart req ctl s
  | .fmcGateEnd count => Sys2Proof.Machine.execFmcGateEnd count s
  | .fmcTimeout => Sys2Proof.Machine.execFmcTimeout s
  | .opRequest req isl point => Sys2Proof.Machine.execOpRequest req isl point s
  | .sequencerSettleEnd isl => Sys2Proof.Machine.execSequencerSettleEnd isl s
  | .sequencerStepDone isl => Sys2Proof.Machine.execSequencerStepDone isl s
  | .flashSlotReadDone => Sys2Proof.Machine.execFlashSlotReadDone s
  | .armVerifyDone => Sys2Proof.Machine.execArmVerifyDone s
  | .loadStart req => Sys2Proof.Machine.execLoadStart req s
  | .armDataWrite req word => Sys2Proof.Machine.execArmDataWrite req word s
  | .loadEnd req => Sys2Proof.Machine.execLoadEnd req s
  | .loadAbort req => Sys2Proof.Machine.execLoadAbort req s
  | .loadFlash req => Sys2Proof.Machine.execLoadFlash req s
  | .progA req => Sys2Proof.Machine.execProgA req s
  | .progB req => Sys2Proof.Machine.execProgB req s
  | .armProgdone mismatch => Sys2Proof.Machine.execArmProgdone mismatch s
  | .commitWhole req c => Sys2Proof.Machine.execCommitWhole req c s
  | .recast req c => Sys2Proof.Machine.execRecast req c s
  | .maquetteWrite req en => Sys2Proof.Machine.execMaquetteWrite req en s
  | .fuseProgram req c => Sys2Proof.Machine.execFuseProgram req c s
  | .fuseProgramDone ok => Sys2Proof.Machine.execFuseProgramDone ok s
  | .porAssert => Sys2Proof.Machine.execPorAssert s
  | .porEnd straps => Sys2Proof.Machine.execPorEnd straps s
  | .resetNPulse ns taken straps => Sys2Proof.Machine.execResetNPulse ns taken straps s
  | .sramClearDone => Sys2Proof.Machine.execSramClearDone s
  | .powerupCommitStart => Sys2Proof.Machine.execPowerupCommitStart s
  | .perstDeassert => Sys2Proof.Machine.execPerstDeassert s
  | .perstAssert => Sys2Proof.Machine.execPerstAssert s
  | .hotReset => Sys2Proof.Machine.execHotReset s
  | .flr => Sys2Proof.Machine.execFlr s
  | .flrComplete => Sys2Proof.Machine.execFlrComplete s
  | .islandReset req value => Sys2Proof.Machine.execIslandReset req value s
  | .devicePurge req c => Sys2Proof.Machine.execDevicePurge req c s
  | .purgeEraseDone => Sys2Proof.Machine.execPurgeEraseDone s
  | .configRequest q => Sys2Proof.Machine.execConfigRequest q s
  | .linkUp rate lanes wiring upcfg => Sys2Proof.Machine.execLinkUp rate lanes wiring upcfg s
  | .eqPhase2Done rate results => Sys2Proof.Machine.execEqPhase2Done rate results s
  | .eqPhase3Request lane request => Sys2Proof.Machine.execEqPhase3Request lane request s
  | .laneLockLoss lane => Sys2Proof.Machine.execLaneLockLoss lane s
  | .recoveryTimeout lane => Sys2Proof.Machine.execRecoveryTimeout lane s
  | .recoverySurvived => Sys2Proof.Machine.execRecoverySurvived s
  | .upconfigureAttempt => Sys2Proof.Machine.execUpconfigureAttempt s
  | .upconfigureDone passed trained => Sys2Proof.Machine.execUpconfigureDone passed trained s
  | .eyeScanStart req lane => Sys2Proof.Machine.execEyeScanStart req lane s
  | .eyeScanAuto => Sys2Proof.Machine.execEyeScanAuto s
  | .eyeScanDone width height => Sys2Proof.Machine.execEyeScanDone width height s
  | .eyeScanPauseTimeout => Sys2Proof.Machine.execEyeScanPauseTimeout s
  | .laneMarginCommand lane cmd => Sys2Proof.Machine.execLaneMarginCommand lane cmd s
  | .testmodeEnter req => Sys2Proof.Machine.execTestmodeEnter req s
  | .testmodeExit req => Sys2Proof.Machine.execTestmodeExit req s
  | .prbsCheckerLock lane => Sys2Proof.Machine.execPrbsCheckerLock lane s
  | .prbsClear req => Sys2Proof.Machine.execPrbsClear req s
  | .l0sEntry => Sys2Proof.Machine.execL0sEntry s
  | .l1Request => Sys2Proof.Machine.execL1Request s
  | .l11Exit => Sys2Proof.Machine.execL11Exit s
  | .ltrAutoSend => Sys2Proof.Machine.execLtrAutoSend s
  | .ltrSend req => Sys2Proof.Machine.execLtrSend req s
  | .redetect req => Sys2Proof.Machine.execRedetect req s
  | .refclkStop => Sys2Proof.Machine.execRefclkStop s
  | .surpriseLinkDown => Sys2Proof.Machine.execSurpriseLinkDown s
  | .slotPowerLimitMsg value scale => Sys2Proof.Machine.execSlotPowerLimitMsg value scale s
  | .busMasterEnableClear => Sys2Proof.Machine.execBusMasterEnableClear s
  | .busMasterEnableSet => Sys2Proof.Machine.execBusMasterEnableSet s
  | .d3hotEntry => Sys2Proof.Machine.execD3hotEntry s
  | .bar4Access a => Sys2Proof.Machine.execBar4Access a s
  | .completionReceived c => Sys2Proof.Machine.execCompletionReceived c s
  | .completionTimeout tag => Sys2Proof.Machine.execCompletionTimeout tag s
  | .tagQuarantineEnd tag => Sys2Proof.Machine.execTagQuarantineEnd tag s
  | .atomicopRequest a => Sys2Proof.Machine.execAtomicopRequest a s
  | .atomicopLockTimeout => Sys2Proof.Machine.execAtomicopLockTimeout s
  | .translationCompletion tag t => Sys2Proof.Machine.execTranslationCompletion tag t s
  | .invalidateRequest itag page pages => Sys2Proof.Machine.execInvalidateRequest itag page pages s
  | .invalidateCompletion itag => Sys2Proof.Machine.execInvalidateCompletion itag s
  | .atcFlush req => Sys2Proof.Machine.execAtcFlush req s
  | .atsEnableClear => Sys2Proof.Machine.execAtsEnableClear s
  | .memPatrolScrub => Sys2Proof.Machine.execMemPatrolScrub s
  | .sramWindowWrite req word value => Sys2Proof.Machine.execSramWindowWrite req word value s
  | .create req => Sys2Proof.Machine.execCreate req s
  | .chnQuiesce req => Sys2Proof.Machine.execChnQuiesce req s
  | .resume req => Sys2Proof.Machine.execResume req s
  | .destroy req => Sys2Proof.Machine.execDestroy req s
  | .chnOpInvalid req code => Sys2Proof.Machine.execChnOpInvalid req code s
  | .channelQuiesced slot => Sys2Proof.Machine.execChannelQuiesced slot s
  | .queueEnable req q => Sys2Proof.Machine.execQueueEnable req q s
  | .queueDisable req q => Sys2Proof.Machine.execQueueDisable req q s
  | .queueDrainDone q => Sys2Proof.Machine.execQueueDrainDone q s
  | .queueReset req q => Sys2Proof.Machine.execQueueReset req q s
  | .queueFaultclr req q => Sys2Proof.Machine.execQueueFaultclr req q s
  | .doorbell req q count => Sys2Proof.Machine.execDoorbell req q count s
  | .queueEntryWrite q ecc => Sys2Proof.Machine.execQueueEntryWrite q ecc s
  | .commandFetch q descUE => Sys2Proof.Machine.execCommandFetch q descUE s
  | .cmdMark q => Sys2Proof.Machine.execCmdMark q s
  | .cmdQuiesce q => Sys2Proof.Machine.execCmdQuiesce q s
  | .cmdLock q => Sys2Proof.Machine.execCmdLock q s
  | .cmdLockGranted q => Sys2Proof.Machine.execCmdLockGranted q s
  | .cmdUnlock q => Sys2Proof.Machine.execCmdUnlock q s
  | .cmdStaleOrUnknown q => Sys2Proof.Machine.execCmdStaleOrUnknown q s
  | .vectorTimerExpiry v => Sys2Proof.Machine.execVectorTimerExpiry v s
  | .evtMaskWrite req k value => Sys2Proof.Machine.execEvtMaskWrite req k value s
  | .evtRouteWrite req src value => Sys2Proof.Machine.execEvtRouteWrite req src value s
  | .lockAcquire req n => Sys2Proof.Machine.execLockAcquire req n s
  | .lockRelease req n => Sys2Proof.Machine.execLockRelease req n s
  | .lockForce req n => Sys2Proof.Machine.execLockForce req n s
  | .cadenceBoundary => Sys2Proof.Machine.execCadenceBoundary s
  | .arbiterGrant arb requests busy => Sys2Proof.Machine.execArbiterGrant arb requests busy s
  | .meterReport isl nanojoule => Sys2Proof.Machine.execMeterReport isl nanojoule s
  | .nrgCeilDrvWrite req value => Sys2Proof.Machine.execNrgCeilDrvWrite req value s
  | .encInputQualified e input high age => Sys2Proof.Machine.execEncInputQualified e input high age s
  | .encBandTimeout e input cmInside => Sys2Proof.Machine.execEncBandTimeout e input cmInside s
  | .encProbeDone e input aboveFifty => Sys2Proof.Machine.execEncProbeDone e input aboveFifty s
  | .encShortcm e input outside => Sys2Proof.Machine.execEncShortcm e input outside s
  | .encSupplyflt e => Sys2Proof.Machine.execEncSupplyflt e s
  | .encClrcnt req e => Sys2Proof.Machine.execEncClrcnt req e s
  | .levStateChange n high => Sys2Proof.Machine.execLevStateChange n high s
  | .directLevChange n high => Sys2Proof.Machine.execDirectLevChange n high s
  | .seStep n => Sys2Proof.Machine.execSeStep n s
  | .sprueFilterRelease v => Sys2Proof.Machine.execSprueFilterRelease v s
  | .veStillTimeout v => Sys2Proof.Machine.execVeStillTimeout v s
  | .veResync req v => Sys2Proof.Machine.execVeResync req v s
  | .estimateSend v => Sys2Proof.Machine.execEstimateSend v s
  | .slipDetected k => Sys2Proof.Machine.execSlipDetected k s
  | .slipCleared k => Sys2Proof.Machine.execSlipCleared k s
  | .fireFreeze p rdy => Sys2Proof.Machine.execFireFreeze p rdy s
  | .fireEdge p => Sys2Proof.Machine.execFireEdge p s
  | .triggerEnd p => Sys2Proof.Machine.execTriggerEnd p s
  | .strobeOn p => Sys2Proof.Machine.execStrobeOn p s
  | .strobeOff p => Sys2Proof.Machine.execStrobeOff p s
  | .stbLimCut p => Sys2Proof.Machine.execStbLimCut p s
  | .trgLimCut p => Sys2Proof.Machine.execTrgLimCut p s
  | .strobeSinkFault p present => Sys2Proof.Machine.execStrobeSinkFault p present s
  | .gapRunTimeout p => Sys2Proof.Machine.execGapRunTimeout p s
  | .standstillFrame p rdy => Sys2Proof.Machine.execStandstillFrame p rdy s
  | .noack p => Sys2Proof.Machine.execNoack p s
  | .cmdPitch q => Sys2Proof.Machine.execCmdPitch q s
  | .cmdExposure q => Sys2Proof.Machine.execCmdExposure q s
  | .cmdRephase q => Sys2Proof.Machine.execCmdRephase q s
  | .cmdWindowSet q => Sys2Proof.Machine.execCmdWindowSet q s
  | .cmdWindowClear q => Sys2Proof.Machine.execCmdWindowClear q s
  | .cmdBlur q => Sys2Proof.Machine.execCmdBlur q s
  | .cmdTriggerReserved q => Sys2Proof.Machine.execCmdTriggerReserved q s
  | .quadFault quad cause => Sys2Proof.Machine.execQuadFault quad cause s
  | .quadRestart req bits => Sys2Proof.Machine.execQuadRestart req bits s
  | .headPresenceTaken p => Sys2Proof.Machine.execHeadPresenceTaken p s
  | .headAbsenceTaken p => Sys2Proof.Machine.execHeadAbsenceTaken p s
  | .headPwrSet req p => Sys2Proof.Machine.execHeadPwrSet req p s
  | .headPwrClear req p => Sys2Proof.Machine.execHeadPwrClear req p s
  | .headPenRise p => Sys2Proof.Machine.execHeadPenRise p s
  | .headPowerGood p => Sys2Proof.Machine.execHeadPowerGood p s
  | .headPgdTimeout p => Sys2Proof.Machine.execHeadPgdTimeout p s
  | .headPowerFault p => Sys2Proof.Machine.execHeadPowerFault p s
  | .masterEnableSet req quad c => Sys2Proof.Machine.execMasterEnableSet req quad c s
  | .masterEnableClear req quad c => Sys2Proof.Machine.execMasterEnableClear req quad c s
  | .attentionPress p => Sys2Proof.Machine.execAttentionPress p s
  | .attentionSequenceEnd p => Sys2Proof.Machine.execAttentionSequenceEnd p s
  | .ringTrainStart => Sys2Proof.Machine.execRingTrainStart s
  | .trainingBlockRx side block adapted => Sys2Proof.Machine.execTrainingBlockRx side block adapted s
  | .ringTrainTimeout side => Sys2Proof.Machine.execRingTrainTimeout side s
  | .ringFrameRx side header data age => Sys2Proof.Machine.execRingFrameRx side header data age s
  | .beaconRx => Sys2Proof.Machine.execBeaconRx s
  | .sampleRx => Sys2Proof.Machine.execSampleRx s
  | .statusRx => Sys2Proof.Machine.execStatusRx s
  | .delayReqRx => Sys2Proof.Machine.execDelayReqRx s
  | .delayRespRx => Sys2Proof.Machine.execDelayRespRx s
  | .wrapRx => Sys2Proof.Machine.execWrapRx s
  | .unwrapRx => Sys2Proof.Machine.execUnwrapRx s
  | .leaveRx => Sys2Proof.Machine.execLeaveRx s
  | .groupresetRx => Sys2Proof.Machine.execGroupresetRx s
  | .fetchreqRx => Sys2Proof.Machine.execFetchreqRx s
  | .armatureFrameRx => Sys2Proof.Machine.execArmatureFrameRx s
  | .gapFrameRx => Sys2Proof.Machine.execGapFrameRx s
  | .echoRx => Sys2Proof.Machine.execEchoRx s
  | .statusSend => Sys2Proof.Machine.execStatusSend s
  | .beaconSend => Sys2Proof.Machine.execBeaconSend s
  | .sampleSend k => Sys2Proof.Machine.execSampleSend k s
  | .heartbeatSend => Sys2Proof.Machine.execHeartbeatSend s
  | .delayMeasure => Sys2Proof.Machine.execDelayMeasure s
  | .geStale k => Sys2Proof.Machine.execGeStale k s
  | .electionStable => Sys2Proof.Machine.execElectionStable s
  | .memberMissing node => Sys2Proof.Machine.execMemberMissing node s
  | .gapFrameSend node => Sys2Proof.Machine.execGapFrameSend node s
  | .keeperLost => Sys2Proof.Machine.execKeeperLost s
  | .receiveDirectionLost side => Sys2Proof.Machine.execReceiveDirectionLost side s
  | .directionRestored side => Sys2Proof.Machine.execDirectionRestored side s
  | .moduleChange side absent => Sys2Proof.Machine.execModuleChange side absent s
  | .fetchStart => Sys2Proof.Machine.execFetchStart s
  | .fetchStall => Sys2Proof.Machine.execFetchStall s
  | .fetchRetry => Sys2Proof.Machine.execFetchRetry s
  | .groupLeave req c => Sys2Proof.Machine.execGroupLeave req c s
  | .rejoin req => Sys2Proof.Machine.execRejoin req s
  | .joinWrite req value => Sys2Proof.Machine.execJoinWrite req value s
  | .grpreset req => Sys2Proof.Machine.execGrpreset req s
  | .groupResetTime => Sys2Proof.Machine.execGroupResetTime s
  | .diag req => Sys2Proof.Machine.execDiag req s
  | .fbInitSet req c => Sys2Proof.Machine.execFbInitSet req c s
  | .fbInitClear req c => Sys2Proof.Machine.execFbInitClear req c s
  | .fbIntegrationDone c => Sys2Proof.Machine.execFbIntegrationDone c s
  | .fbQuietEnd c => Sys2Proof.Machine.execFbQuietEnd c s
  | .canFrameRx c f sof => Sys2Proof.Machine.execCanFrameRx c f sof s
  | .canRxEntryWrite => Sys2Proof.Machine.execCanRxEntryWrite s
  | .txreqSet req c k bits => Sys2Proof.Machine.execTxreqSet req c k bits s
  | .txreqCancel req c k bits => Sys2Proof.Machine.execTxreqCancel req c k bits s
  | .cantxFetch c k => Sys2Proof.Machine.execCantxFetch c k s
  | .canFrameTxDone c sof amplitude delay => Sys2Proof.Machine.execCanFrameTxDone c sof amplitude delay s
  | .canTxFail c => Sys2Proof.Machine.execCanTxFail c s
  | .canBusError c err asTransmitter => Sys2Proof.Machine.execCanBusError c err asTransmitter s
  | .canBusoffRecovered c => Sys2Proof.Machine.execCanBusoffRecovered c s
  | .fbRecover req c => Sys2Proof.Machine.execFbRecover req c s
  | .limitedWindowEnd c => Sys2Proof.Machine.execLimitedWindowEnd c s
  | .canProtocolException c => Sys2Proof.Machine.execCanProtocolException c s
  | .canSwapDetect c => Sys2Proof.Machine.execCanSwapDetect c s
  | .polarityInvert c => Sys2Proof.Machine.execPolarityInvert c s
  | .canLineShort c line => Sys2Proof.Machine.execCanLineShort c line s
  | .txdDominantTimeout c => Sys2Proof.Machine.execTxdDominantTimeout c s
  | .satGrant requests => Sys2Proof.Machine.execSatGrant requests s
  | .satGrantTimeout m => Sys2Proof.Machine.execSatGrantTimeout m s
  | .bridgeBurst answer => Sys2Proof.Machine.execBridgeBurst answer s
  | .satWrObserved addr len => Sys2Proof.Machine.execSatWrObserved addr len s
  | .satHrd m b => Sys2Proof.Machine.execSatHrd m b s
  | .satHwr m b => Sys2Proof.Machine.execSatHwr m b s
  | .satHatm m b => Sys2Proof.Machine.execSatHatm m b s
  | .satCmdReserved m b => Sys2Proof.Machine.execSatCmdReserved m b s
  | .satTargetTimeout m addr => Sys2Proof.Machine.execSatTargetTimeout m addr s
  | .satLockTake m => Sys2Proof.Machine.execSatLockTake m s
  | .satLockRelease m => Sys2Proof.Machine.execSatLockRelease m s
  | .satLockmaxExpiry => Sys2Proof.Machine.execSatLockmaxExpiry s
  | .satLkstsRead req => Sys2Proof.Machine.execSatLkstsRead req s
  | .bridgeHostWrite a => Sys2Proof.Machine.execBridgeHostWrite a s
  | .bridgeHostRead a => Sys2Proof.Machine.execBridgeHostRead a s
  | .bridgeReadStartTimeout => Sys2Proof.Machine.execBridgeReadStartTimeout s
  | .prefetchExpiry w => Sys2Proof.Machine.execPrefetchExpiry w s
  | .splitAnswerTimeout m => Sys2Proof.Machine.execSplitAnswerTimeout m s
  | .satIntAssert isl => Sys2Proof.Machine.execSatIntAssert isl s
  | .satMrstAssert m => Sys2Proof.Machine.execSatMrstAssert m s
  | .satMrstDeassert m => Sys2Proof.Machine.execSatMrstDeassert m s
  | .satReqWake m => Sys2Proof.Machine.execSatReqWake m s
  | .monBanner => Sys2Proof.Machine.execMonBanner s
  | .monSessionStart startBitNs => Sys2Proof.Machine.execMonSessionStart startBitNs s
  | .monBreak => Sys2Proof.Machine.execMonBreak s
  | .monBreakEnd => Sys2Proof.Machine.execMonBreakEnd s
  | .monCharRx ch => Sys2Proof.Machine.execMonCharRx ch s
  | .monCmdHelp => Sys2Proof.Machine.execMonCmdHelp s
  | .monCmdV => Sys2Proof.Machine.execMonCmdV s
  | .monCmdR => Sys2Proof.Machine.execMonCmdR s
  | .monCmdW => Sys2Proof.Machine.execMonCmdW s
  | .monCmdP => Sys2Proof.Machine.execMonCmdP s
  | .monCmdS => Sys2Proof.Machine.execMonCmdS s
  | .monCmdE => Sys2Proof.Machine.execMonCmdE s
  | .monCmdT => Sys2Proof.Machine.execMonCmdT s
  | .monCmdG => Sys2Proof.Machine.execMonCmdG s
  | .monCmdQ => Sys2Proof.Machine.execMonCmdQ s
  | .monCmdC => Sys2Proof.Machine.execMonCmdC s
  | .monCmdX => Sys2Proof.Machine.execMonCmdX s
  | .monCmdA => Sys2Proof.Machine.execMonCmdA s
  | .monLoadEnd => Sys2Proof.Machine.execMonLoadEnd s
  | .monLoadAbort => Sys2Proof.Machine.execMonLoadAbort s
  | .monCmdL => Sys2Proof.Machine.execMonCmdL s
  | .monHexLine => Sys2Proof.Machine.execMonHexLine s
  | .monCmdB => Sys2Proof.Machine.execMonCmdB s
  | .monCmdZ => Sys2Proof.Machine.execMonCmdZ s
  | .monZReset => Sys2Proof.Machine.execMonZReset s
  | .monEventLine => Sys2Proof.Machine.execMonEventLine s
  | .monLevelWrite req value => Sys2Proof.Machine.execMonLevelWrite req value s
  | .refclkStart => Sys2Proof.Machine.execRefclkStart s
  | .electricalIdleExit => Sys2Proof.Machine.execElectricalIdleExit s
  | .linkReturnToL0 => Sys2Proof.Machine.execLinkReturnToL0 s
  | .d3hotToD0 => Sys2Proof.Machine.execD3hotToD0 s
  | .sramWindowRead req word => Sys2Proof.Machine.execSramWindowRead req word s
  | .registerRead a => Sys2Proof.Machine.execRegisterRead a s
  | .vio5Loss => Sys2Proof.Machine.execVio5Loss s
  | .vio5Return => Sys2Proof.Machine.execVio5Return s
  | .encSupplyFaultEnd e => Sys2Proof.Machine.execEncSupplyFaultEnd e s
  | .canLineShortEnd c line => Sys2Proof.Machine.execCanLineShortEnd c line s
  | .txdtoRearm c => Sys2Proof.Machine.execTxdtoRearm c s

end Sys2Proof.Machine
end

