-- ==== Sys2Proof/Machine/Pins.lean ====
section
/-!
DEFINITION. What stands on the device's output pins, as the state has it (R123, R135 to R138, R283, R328, R335, R397): high-impedance
until a commit has given a pin its function and its island is ON.
-/

namespace Sys2Proof.Machine

/-- What drives an output pin: nothing, a level, or the signals of its interface, which `State.sent` lists. -/
inductive PinOut where
  | hiZ
  | low
  | high
  | driven
deriving DecidableEq, Repr

/-- A pin that is driven with a level where `on`, and high-impedance else. -/
def pinLevel (on level : Bool) : PinOut := if !on then .hiZ else if level then .high else .low

/-! ### Head ports (R123, R137, R321, R328) -/

/-- HPn_TRG_P; HPn_TRG_N is its opposite. -/
def State.trgPin (s : State) (p : Nat) : PinOut := pinLevel (s.drives p) (s.port p).trg

/-- HPn_STB, an open drain: it conducts or is released. -/
def State.stbPin (s : State) (p : Nat) : PinOut := if s.drives p && (s.port p).stb then .low else .hiZ

/-- HPn_PEN. -/
def State.penPin (s : State) (p : Nat) : PinOut := pinLevel (s.drives p) (s.port p).pen

/-- A blink: half of its period high, half low, from an instant that the manual does not fix (DESIGN CHOICE and free value, log entry
136). -/
def State.blinks (s : State) (p halfMs : Nat) : Bool := decide ((s.now + Config.blinkPhase p) / msTicks halfMs % 2 = 0)

/-- The attention sequence of a port runs (R327). -/
def State.attends (s : State) (p : Nat) : Bool :=
  match (s.port p).atnEndAt with
  | some e => decide (s.now < e)
  | none => false

/-- HPn_IND follows HP_CTL.IND, off, on, 1 Hz or 4 Hz; during an attention sequence it blinks at 1 Hz (R327, R328). -/
def State.indicator (s : State) (p : Nat) : Bool :=
  if s.attends p then s.blinks p 500
  else match s.fld (Reg.HP_CTL (qOf p) (iOf p)) 1 2 with
    | 0 => false
    | 1 => true
    | 2 => s.blinks p 500
    | _ => s.blinks p 125

def State.indPin (s : State) (p : Nat) : PinOut := pinLevel (s.drives p) (s.indicator p)

/-! ### The other pins -/

/-- ENCn_PEN (R283): high-impedance in maquette mode too (R123). -/
def State.encPenPin (s : State) (e : Nat) : PinOut :=
  pinLevel (s.supplied .mot && (s.encFn e).testBit 3 && !s.maquette) (s.encPenOn e)

/-- FBn_RXD is an output in transceiver mode only (R397); FBn_TXD is then an input, and no pin of a controller. -/
def State.fbRxdPin (s : State) (c : Nat) : PinOut := if s.supplied .fld && decide (s.fbPin c = 2) then .driven else .hiZ

/-- FBn_H and FBn_L: a transceiver is at work where PINS gives it a use (R372, R399). -/
def State.fbBusPin (s : State) (c : Nat) : PinOut := if s.supplied .fld && decide (s.fbPin c ≠ 0) && !s.maquette then .driven else .hiZ

/-- SAT_CLK stops low while SAT sleeps (R426). -/
def State.satClkPin (s : State) : PinOut :=
  if !(s.supplied .sat && s.satPins.testBit 0 && !s.maquette) then .hiZ else if s.satRuns then .driven else .low

/-- SAT_GNT_N[m] (R407). -/
def State.satGntPin (s : State) (m : Nat) : PinOut :=
  pinLevel (s.supplied .sat && s.satPins.testBit 0 && !s.maquette) (decide (s.sat.grant ≠ m + 1))

/-- TX_DIS of a side (R335): driven in MODULE mode only, low while RNG is ON; the transmitter of a held RNG is off (R38, R138). -/
def State.txDisPin (s : State) (side : Side) : PinOut :=
  pinLevel (s.supplied .rng && decide ((pinOf s.image 5 (match side with | .east => 0 | .west => 1)).1 = 1))
    (!s.isOn .rng || s.held .rng)

/-- The FL_ pins, which the Plinth drives from the flash load onward (R129, R136). -/
def State.flPins (s : State) : PinOut := if s.boot.inPor || decide (s.fld Reg.PLN_BOOT 0 3 = 0) then .hiZ else .driven

/-- MON_TXD, driven from 1 ms after the end of POR (R136). -/
def State.monTxdPin (s : State) : PinOut := if s.boot.inPor || decide (s.now < s.boot.originAt + msTicks 1) then .hiZ else .driven

/-- The loads of the field inputs, HPn_RDY, LEVn and the encoder inputs, are connected (R136); the trigger pair has its bias
(R138). -/
def State.fieldLoads (s : State) : Bool := s.boot.vio5

end Sys2Proof.Machine
end

