-- ==== Sys2Proof/Safety.lean ====
section
/-!
DEFINITION. The terms in which the claims are stated: when a command completes, the canonical form of the state's tables,
when a register access is admitted, and the registers that the reporting of an event may change.
-/

namespace Sys2Proof.Machine

/-- A command completes in a state: `exec` answers a next state, of which `p` holds. -/
abbrev Completes (c : Instr) (s : State) (p : State → Prop) : Prop := ∃ t, exec c s = .next t ∧ p t

/-- The SRAM in canonical form: addresses strictly rising, no entry equal to what an unlisted address reads as. -/
abbrev Memory.wf (s : State) : Bool := Tab.wf (fun _ => {}) s.sram

/-- The register file in canonical form: offsets strictly rising, no entry equal to its register's reset value. -/
abbrev Regs.wf (s : State) : Bool := Tab.wf resetVal s.regs

/-- The registers through which an event is reported, beside the event's own register (R64, R66, R161, R162, R231, R438): the
pending bits, the counters of dropped wakes and event lines, and the link state, which a message takes out of L0s or L1. -/
def eventReg (k : Nat) : Bool :=
  decide (Reg.EVT_PEND 0 ≤ k ∧ k < Reg.EVT_PEND 32) || decide (k = Reg.PLN_WAKE_DROP) || decide (k = Reg.MON_EVDROP) ||
    decide (k = Reg.HST_LINK_STS) || decide (k = Reg.HST_RECOV_CNT)

/-- A host access comes over a link that is up, to a function that takes it; a satellite master needs a running SAT. -/
def State.arrives (s : State) (a : RegAccess) : Bool :=
  match a.req with
  | .host => s.hostReaches && s.mse && !s.txn.d3hot && !a.poisoned
  | .monitor => true
  | .sat0 | .sat1 => s.satRuns

/-- A register access is admitted to its island (R33, R62, R252): it arrives, its size and address are good, its activity may
have the bus, and the island is open; nothing is parked for the island and no admitted work is about to start. -/
def State.openFor (s : State) (a : RegAccess) (i : Island) : Bool :=
  s.arrives a && decide (sizeCause a = none) && decide (Island.ofBlock (accBlk a) = some i) && !s.boot.inPor &&
    !s.stopped .pln && (s.busGrant (busActivity a)).isSome && decide (s.islandCause i = none) && !s.gateClosed i &&
    !(s.wakeBuf.any fun e => decide (e.1 = i)) && decide (s.nrg.ready = [])

end Sys2Proof.Machine
end

