-- ==== Sys2Proof/Certificates/Slice0/Obligations.lean ====
section
/-!
DEFINITION. The statements for the provers: claims chapter by chapter of the specification, then the statements that join the
claims of one part of the machine.
-/

open Sys2Proof Sys2Proof.Machine

/-! ### Registers (02_registers.md) -/

namespace Sys2Proof.Claims

/-- The registers whose write does more than store the word by its access codes, or whose field is guarded or judged by a
rule of its own: mailboxes, pairs, lock bits, action fields, and the registers that another rule watches. -/
def actingReg (k : Nat) : Bool :=
  (MailboxId.at? k).isSome || (pairAt? k).isSome ||
  [Reg.PLN_PAR_HOLD, Reg.PLN_ISL_EN, Reg.PLN_ISL_RST, Reg.PLN_QF_CTL, Reg.CLK_CTL, Reg.CLK_FMC_CTL, Reg.NRG_CEIL_DRV, Reg.NRG_CTL,
    Reg.ARM_SRC, Reg.ARM_LOAD_CTL, Reg.ARM_DATA, Reg.ARM_MAQ, Reg.HST_PHY_CTL, Reg.HST_LTR_CTL, Reg.HST_EYE_CTL, Reg.HST_PRBS_CTL,
    Reg.HST_ATC_CTL, Reg.QUE_CMD, Reg.CHN_OP, Reg.RNG_CTL, Reg.RNG_JOIN, Reg.MEM_SCRUB_CTL, Reg.MEM_ECC_CTL, Reg.MON_CTL,
    Reg.SAT_LKSTS].contains k ||
  (within? k (Reg.PLN_ISL_STATE 0) 12).isSome || (within? k (Reg.PLN_ISL_OPREQ 0) 12).isSome ||
  (within? k (Reg.EVT_MASK 0) 32).isSome || (within? k (Reg.EVT_ROUTE 0) 576).isSome || (within? k 0x080000 64).isSome ||
  (within? k (Reg.ENC_CTL 0) 8).isSome || (within? k (Reg.VE_CTL 0) 32).isSome || (within? k (Reg.SE_CTL 0) 4).isSome ||
  ((List.range 4).any fun q => (within? k (Reg.HP_CTL q 0) 8).isSome) ||
  ((List.range 4).any fun c => decide (k = Reg.FB_CTL c) || (within? k (Reg.FB_TXREQ c 0) 4).isSome) ||
  (within? k (Reg.FB_TXB_W 0) 36).isSome

/-- The same SRAM and the same queue of commands, and every register but those of `but` reads as before. -/
abbrev SameRegsBut (s t : State) (but : Nat → Bool) : Prop :=
  (∀ j, but j = false → t.rd j = s.rd j) ∧ (∀ w, t.sramW w = s.sramW w) ∧ t.pending = s.pending

/-- The access of an alias write: the register's own offset, moved into the alias range. -/
def aliasAcc (req : Requester) (reg : BitVec 24) (n : Nat) (v : Word) : RegAccess :=
  { req := req, addr := BitVec.ofNat 24 (reg.toNat + 0x4000 * n), value := dwordOf v }

/-- The answer to an access that took place: a host gets its completion, the monitor's command the value, a satellite master's
split request the word. -/
def Answered (s t : State) (a : RegAccess) (v : Word) : Prop :=
  match a.req with
  | .host => t.sent = Output.completion .host .sc [dwordOf v] false :: s.sent
  | .monitor => t.mon.got = s.mon.got ++ [(a.addr, v)]
  | .sat0 => ∀ x, s.splitOf 0 = some x → t.splitOf 0 = some { x with answer := some (some [{ data := v }]), answerAt := s.now }
  | .sat1 => ∀ x, s.splitOf 1 = some x → t.splitOf 1 = some { x with answer := some (some [{ data := v }]), answerAt := s.now }

/-- The access with which a requester reads or writes a register at its own offset. -/
def regAcc (req : Requester) (k : Nat) (v : Word) : RegAccess := { req := req, addr := BitVec.ofNat 24 k, value := dwordOf v }
def readAcc (req : Requester) (k : Nat) : RegAccess := { req := req, addr := BitVec.ofNat 24 k }

/-- The log of refused accesses and what a refusal reports beside it. -/
def refusalReg (k : Nat) : Bool :=
  eventReg k || [Reg.PLN_ACC_STS, Reg.PLN_ACC_BLK, Reg.PLN_ACC_OFS, Reg.PLN_WAKE_FAIL, Reg.MON_ERR_CNT, Reg.MON_STS, Reg.SAT_EVT].contains k

def pairReg (k : Nat) : Bool := eventReg k || decide (k = Reg.PLN_PAIR_STS) || decide (k = Reg.PLN_PAIR_LAST)

def aliasCmd (n : Nat) (req : Requester) (reg : BitVec 24) (v : Word) : Instr :=
  match n with
  | 1 => .setAliasWrite req reg v
  | 2 => .clearAliasWrite req reg v
  | _ => .toggleAliasWrite req reg v

end Sys2Proof.Claims

open Sys2Proof.Claims

/-- REGISTER_WRITE completes (R27, R30, R31, R35): an admitted write without a one in a reserved or refused bit leaves in its
register the value that the access codes of its fields give, with the hidden parity of that value, and in every other
register what was there. Registers whose write does more have statements of their own. -/
def Sys2Proof.Claims.RegisterWriteStores : Prop :=
  ∀ (s : State) (a : RegAccess) (i : Island) (r : RegRow),
    s.openFor a i = true → accBlk a ≤ 0x13 → regAt (accBlk a) (accOff a % 0x4000) = .reg r → actingReg (accKey a) = false →
    r.noWritable = false → accWord a &&& r.reservedBits = 0 → (accAlias a ≠ 0 → accWord a &&& ~~~r.writable = 0) →
    Completes (.registerWrite a) s fun t =>
      t.rd (accKey a) =
        (if accAlias a = 0 then mergeWrite r (s.rd (accKey a)) (accWord a)
         else aliasWrite (aliasKind (accAlias a)) r (s.rd (accKey a)) (accWord a)) ∧
      t.parityOf (accKey a) = parityBit r (t.rd (accKey a)) ∧
      SameRegsBut s t (fun j => decide (j = accKey a))

/-- SET_ALIAS_WRITE, CLEAR_ALIAS_WRITE and TOGGLE_ALIAS_WRITE complete (R31): bit for bit, each bit written as one is set,
cleared or inverted and each bit written as zero keeps its value; nothing else changes. -/
def Sys2Proof.Claims.AliasWritesChangeTheirBits : Prop :=
  ∀ (s : State) (req : Requester) (reg : BitVec 24) (v : Word) (n : Nat) (i : Island) (r : RegRow),
    1 ≤ n → n ≤ 3 → reg.toNat / 65536 ≤ 0x13 → reg.toNat % 65536 < 0x4000 → s.openFor (aliasAcc req reg n v) i = true →
    regAt (reg.toNat / 65536) (reg.toNat % 65536) = .reg r → actingReg reg.toNat = false → r.noWritable = false →
    v &&& ~~~r.writable = 0 →
    Completes (aliasCmd n req reg v) s fun t =>
      (∀ b, (t.rd reg.toNat).getLsbD b =
        if v.getLsbD b then (match n with | 1 => true | 2 => false | _ => !(s.rd reg.toNat).getLsbD b)
        else (s.rd reg.toNat).getLsbD b) ∧
      SameRegsBut s t (fun j => decide (j = reg.toNat))

/-- REGISTER_READ and RC_FIELD_READ complete (R24, R27, R29): the requester gets the register's value with its WO bits zero;
the RC fields clear unless the monitor reads; every other register keeps its value, but for the L0s bit of the link that a
completion ends (R161). -/
def Sys2Proof.Claims.RegisterReadAnswers : Prop :=
  (∀ (s : State) (a : RegAccess) (i : Island) (r : RegRow),
    s.openFor a i = true → accBlk a ≤ 0x13 → regAt (accBlk a) (accOff a % 0x4000) = .reg r →
    MailboxId.at? (accKey a) = none → pairAt? (accKey a) = none → within? (accKey a) 0x080000 64 = none →
    accKey a ≠ Reg.SAT_LKSTS → accKey a ≠ Reg.HST_LINK_STS →
    Completes (.registerRead a) s fun t =>
      Answered s t a (readShows r (s.view (accKey a))) ∧ t.rd (accKey a) = readClears r a.req (s.rd (accKey a)) ∧
      SameRegsBut s t (fun j => decide (j = accKey a) || decide (j = Reg.HST_LINK_STS))) ∧
  (∀ (s : State) (req : Requester) (reg : BitVec 24) (i : Island) (r : RegRow),
    s.openFor (readAcc req reg.toNat) i = true → reg.toNat / 65536 ≤ 0x13 → reg.toNat % 65536 < 0x4000 →
    regAt (reg.toNat / 65536) (reg.toNat % 65536) = .reg r → MailboxId.at? reg.toNat = none → r.rc ≠ 0 →
    reg.toNat ≠ Reg.SAT_LKSTS →
    Completes (.rcFieldRead req reg) s fun t =>
      Answered s t (readAcc req reg.toNat) (readShows r (s.view reg.toNat)) ∧
      t.rd reg.toNat = (if req = .monitor then s.rd reg.toNat else s.rd reg.toNat &&& ~~~ word r.rc) ∧
      SameRegsBut s t (fun j => decide (j = reg.toNat) || decide (j = Reg.HST_LINK_STS)))

/-- A refused access (R33, R34): an access to an open island that the register's rules refuse changes no register but the
access log and what reports the refusal, no mailbox and no pair guard. -/
def Sys2Proof.Claims.RefusedAccessChangesNothing : Prop :=
  ∀ (s : State) (a : RegAccess) (i : Island) (c : Nat) (u : State),
    s.openFor a i = true → s.busGrant (busActivity a) = some u →
    (u.regWrite a = .error c → Completes (.registerWrite a) s fun t =>
      SameRegsBut s t refusalReg ∧ t.mbs = s.mbs ∧ t.pairs = s.pairs) ∧
    (u.regRead a = .error c → Completes (.registerRead a) s fun t =>
      SameRegsBut s t refusalReg ∧ t.mbs = s.mbs ∧ t.pairs = s.pairs)

/-- The access-error log (R33, R51): a refused access of any requester is logged with its block, its requester, its cause and
its offset while nothing is logged, and sets OVERFLOW while something is. -/
def Sys2Proof.Claims.RefusalIsLogged : Prop :=
  ∀ (s : State) (a : RegAccess) (c : Nat),
    s.arrives a = true → s.boot.inPor = false → s.stopped .pln = false → (s.busGrant (busActivity a)).isSome = true →
    sizeCause a = some c →
    Completes (.registerWrite a) s fun t =>
      (s.fld Reg.PLN_ACC_STS 0 2 = 0 →
        t.rd Reg.PLN_ACC_BLK = word (a.addr.toNat / 65536 + a.req.code * 256 + c * 2048) ∧
        t.rd Reg.PLN_ACC_OFS = word (a.addr.toNat % 65536) ∧ t.bit Reg.PLN_ACC_STS 0 = true) ∧
      (s.fld Reg.PLN_ACC_STS 0 2 ≠ 0 → t.bit Reg.PLN_ACC_STS 2 = true ∧ t.rd Reg.PLN_ACC_BLK = s.rd Reg.PLN_ACC_BLK)

/-- MAILBOX_CAPTURE, MAILBOX_CAPTURE_DONE and MAILBOX_WORD_READ complete (R40, R41): the item is taken whole at the write of
_SEL, an apply still pending there first completing (log entry 111); when the capture is complete its words stand in _W0 to _W2 with VALID set; a read gives the word, and the read of the
last word of the width clears VALID. -/
def Sys2Proof.Claims.MailboxCaptureTakesItsItem : Prop :=
  (∀ (s : State) (req : Requester) (m : MailboxId) (item : BitVec 17) (n : Nat) (w : Bool),
    s.openFor (regAcc req m.sel (word item.toNat)) m.island = true → s.mbItem m item.toNat = some (n, w) →
    Completes (.mailboxCapture req m item) s fun t =>
      (t.mb m).capturing = some (((s.applyDone m).beforeCapture m item.toNat).mbCapture m item.toNat) ∧ (t.mb m).width = n ∧
      (t.mb m).valid = false ∧ (t.mb m).done = false) ∧
  (∀ (s : State) (m : MailboxId) (ws : List Word), (s.mb m).capturing = some ws →
    Completes (.mailboxCaptureDone m) s fun t =>
      (t.mb m).valid = true ∧ (t.mb m).w0 = wordAt ws 0 ∧ (t.mb m).w1 = wordAt ws 1 ∧ (t.mb m).w2 = wordAt ws 2 ∧
      (t.mb m).width = (s.mb m).width ∧ SameRegsBut s t (fun _ => false)) ∧
  (∀ (s : State) (req : Requester) (m : MailboxId) (k : Fin 3),
    s.openFor (readAcc req (m.sel + 8 + 4 * k.val)) m.island = true →
    Completes (.mailboxWordRead req m k) s fun t =>
      Answered s t (readAcc req (m.sel + 8 + 4 * k.val))
        (if (s.mb m).valid = true then (match k.val with | 0 => (s.mb m).w0 | 1 => (s.mb m).w1 | _ => (s.mb m).w2) else 0) ∧
      (t.mb m).valid = ((s.mb m).valid && decide (k.val + 1 ≠ (s.mb m).width)))

/-- MAILBOX_APPLY and MAILBOX_APPLY_DONE complete (R42): the staging words as they stand at the write of _SEL are applied
to a writable item, shown on a head port's offset, and DONE sets when that has happened; a further apply does not take away one
that is still pending. -/
def Sys2Proof.Claims.MailboxApplyWritesItsItem : Prop :=
  (∀ (s : State) (req : Requester) (m : MailboxId) (item : BitVec 17) (n : Nat),
    s.openFor (regAcc req m.sel (word (item.toNat + 131072))) m.island = true → s.mbItem m item.toNat = some (n, true) →
    Completes (.mailboxApply req m item) s fun t =>
      (t.mb m).applying = some (item.toNat, [(s.mb m).w0, (s.mb m).w1, (s.mb m).w2].take n) ∧ (t.mb m).done = false ∧
      (∀ q : Fin 4, ∀ i ws, m = .tqMb q → i < 8 → (s.mb m).applying = some (i, ws) →
        (t.port (8 * q.val + i)).offset = join36 (wordAt ws 0) (wordAt ws 1))) ∧
  (∀ (s : State) (m : MailboxId) (i : Nat) (ws : List Word), (s.mb m).applying = some (i, ws) →
    Completes (.mailboxApplyDone m) s fun t =>
      (t.mb m).done = true ∧ (t.mb m).applying = none ∧
      (∀ q : Fin 4, m = .tqMb q → i < 8 → (t.port (8 * q.val + i)).offset = join36 (wordAt ws 0) (wordAt ws 1)))

/-- LOCK_BIT_SET completes (R44): the lock bit is set. -/
def Sys2Proof.Claims.LockBitSets : Prop :=
  ∀ (s : State) (req : Requester) (b : LockBit) (i : Island),
    s.openFor (regAcc req b.reg (s.rd b.reg ||| word (2 ^ b.bit))) i = true →
    s.rd b.reg &&& (rowOf b.reg).reservedBits = 0 →
    Completes (.lockBitSet req b) s fun t => t.bit b.reg b.bit = true

/-- A locked field (R45, R33 cause 6): a direct write that would change it is refused whole, and the lock bit stays set. -/
def Sys2Proof.Claims.LockedFieldKeepsItsValue : Prop :=
  ∀ (s : State) (a : RegAccess) (i : Island) (r : RegRow),
    s.openFor a i = true → regAt (accBlk a) (accOff a % 0x4000) = .reg r → accBlk a ≤ 0x13 → accAlias a = 0 →
    accWord a &&& r.reservedBits = 0 → (mergeWrite r (s.rd (accKey a)) (accWord a) ^^^ s.rd (accKey a)) &&& s.lockedBits (accKey a) ≠ 0 →
    (accKey a = Reg.ARM_SRC ∨ accKey a = Reg.NRG_CEIL_DRV ∨ accKey a = Reg.RNG_JOIN ∨ accKey a = Reg.MON_CTL) →
    Completes (.registerWrite a) s fun t =>
      t.rd (accKey a) = s.rd (accKey a) ∧ (s.fld Reg.PLN_ACC_STS 0 2 = 0 → t.fld Reg.PLN_ACC_BLK 11 4 = 6)

/-- PAIR_V_WRITE and PAIR_TIMEOUT complete (R46, R47): a write of _V with no pair open opens it with its value and its
requester; a pair open for more than 1 ms, with no _C write that reached the Plinth in time, fails, is logged with cause 1 while nothing is logged, and the guard is idle. -/
def Sys2Proof.Claims.PairGuard : Prop :=
  (∀ (s : State) (req : Requester) (p : Fin 9) (v : Word) (i : Island),
    s.openFor (regAcc req (pairV p.val) v) i = true → v &&& (rowOf (pairV p.val)).reservedBits = 0 → s.pair p.val = none →
    Completes (.pairVWrite req p v) s fun t =>
      t.pair p.val = some { value := v, req := req, openAt := s.now } ∧ SameRegsBut s t (fun _ => false)) ∧
  (∀ (s : State) (p : Fin 9) (o : PairOpen), s.pair p.val = some o → o.openAt + 400000 < s.now →
    s.pairCWaits p.val (o.openAt + 400000) = false →
    Completes (.pairTimeout p) s fun t =>
      t.pair p.val = none ∧
      (s.bit Reg.PLN_PAIR_STS 0 = false →
        t.bit Reg.PLN_PAIR_STS 0 = true ∧ t.rd Reg.PLN_PAIR_LAST = word (p.val + 16 + o.req.code * 128)) ∧
      (s.bit Reg.PLN_PAIR_STS 0 = true → t.bit Reg.PLN_PAIR_STS 1 = true ∧ t.rd Reg.PLN_PAIR_LAST = s.rd Reg.PLN_PAIR_LAST) ∧
      SameRegsBut s t pairReg)

/-- R48: a read of _V returns the value now in force, a read of _C zero, and neither disturbs an open pair. -/
def Obligations.PairReadsDisturbNothing : Prop :=
  ∀ (s : State) (a : RegAccess) (i : Island) (p : Fin 9), s.openFor a i = true →
    (accKey a = pairV p.val → Completes (.registerRead a) s fun t => Answered s t a (s.pairValue p.val) ∧ t.pairs = s.pairs) ∧
    (accKey a = pairV p.val + 4 → Completes (.registerRead a) s fun t => Answered s t a 0 ∧ t.pairs = s.pairs)

/-- SCRUB_REGISTER_CHECK completes (R36, R37): the next register of the pass is checked; where its parity is good no register
changes, where it is not the mismatch is logged and counted, and the island is held as the policy says. -/
def Sys2Proof.Claims.ScrubFindsMismatches : Prop :=
  (∀ (s : State) (isl k at_ reg : Nat) (i : Island), s.scrub = some (isl, k) → s.scrubFrom isl k = some (i, at_, reg) →
    s.stopped .pln = false → (s.busGrant 14).isSome = true →
    (parityBit (rowOf reg) (s.rd reg) = s.parityOf reg →
      Completes .scrubRegisterCheck s fun t => SameRegsBut s t (fun _ => false) ∧ t.scrub ≠ s.scrub) ∧
    (parityBit (rowOf reg) (s.rd reg) ≠ s.parityOf reg → i.quad? = none →
      Completes .scrubRegisterCheck s fun t =>
        t.rd Reg.PLN_PAR_CNT = satAdd (s.rd Reg.PLN_PAR_CNT) 1 ∧
        (s.bit Reg.PLN_PAR_STS 0 = false → t.bit Reg.PLN_PAR_STS 0 = true ∧ t.rd Reg.PLN_PAR_BLK = word (reg / 65536 + i.idx * 256) ∧
          t.rd Reg.PLN_PAR_SLOT = word (reg % 65536 / 4)) ∧
        (s.bit Reg.PLN_PAR_STS 0 = true → t.bit Reg.PLN_PAR_STS 1 = true ∧ t.rd Reg.PLN_PAR_BLK = s.rd Reg.PLN_PAR_BLK) ∧
        t.held i = (s.held i || (decide (i ≠ .pln) && policyParity s.arm.plnImage i))))

/-- R39, PLN_PAR_HOLD_CLEAR completes: a held island whose bit is written as one leaves HOLD where no register of it has a
parity mismatch; otherwise its bit stays set, and an island that is not named stays as it is. -/
def Obligations.HoldIsReleasedWhereClean : Prop :=
  ∀ (s : State) (req : Requester) (bits : Word), s.openFor (regAcc req Reg.PLN_PAR_HOLD bits) .pln = true →
    bits &&& 0x3F001 = 0 →
    Completes (.plnParHoldClear req bits) s fun t =>
      ∀ i : Island, t.held i = (s.held i && (!bits.getLsbD i.idx || s.mismatchIn i))

/-- HANDSHAKE_ENTRY_DELIVERED, HANDSHAKE_SEND_RESUME and DEVICE_TIME_WRAP complete (R52, R53, R11): the oldest entry in flight
becomes readable and a reading receiver takes it, but for a record that finds the staging area full (R223); a waiting sender writes its oldest entry once there is room; device time
goes from its last value to zero. -/
def Sys2Proof.Claims.ChannelsAndTimeMove : Prop :=
  (∀ (s : State) (ch : ChannelId) (e : HsEntry) (rest : List HsEntry), (s.hs ch).inFlight = e :: rest →
    Completes (.handshakeEntryDelivered ch) s fun t =>
      (t.hs ch).inFlight = rest ∧ (∃ k, (t.hs ch).readable = ((s.hs ch).readable ++ [e]).drop k) ∧
      (s.reads ch.receiver = false → (t.hs ch).readable = (s.hs ch).readable ++ [e]) ∧
      (s.reads ch.receiver = true → (s.hs ch).readable = [] →
        (t.hs ch).readable = if s.stageHolds e = true then [e] else [])) ∧
  (∀ (s : State) (ch : ChannelId) (e : HsEntry) (rest : List HsEntry), (s.hs ch).waiting = e :: rest → s.hsRoom ch = true →
    Completes (.handshakeSendResume ch) s fun t =>
      (t.hs ch).waiting = rest ∧ (t.hs ch).inFlight = (s.hs ch).inFlight ++ [e]) ∧
  (∀ s : State, s.devTime = BitVec.allOnes 54 → s.clk.timebase = true →
    Completes .deviceTimeWrap s fun t => t.devTime = 0 ∧ t.now = s.now + 1)

/-! ### Islands and clocks (03_islands_and_clocks.md) -/

namespace Sys2Proof.Claims

/-- Every island is in the power state it was in, and drains as it did. -/
abbrev SameIslands (s t : State) : Prop :=
  ∀ i : Island, (t.island i).power = (s.island i).power ∧ (t.island i).drain = (s.island i).drain

/-- Nothing else is under way that a wake or a delivery would take along: no commit, no running monitor command, no admitted
work, nothing waiting in the satellite bridge. -/
def calm (s : State) : Bool :=
  s.arm.run.isNone && decide (s.mon.running = 0) && decide (s.nrg.ready = []) && decide (s.sat.toHost = []) && decide (s.sat.splits = []) &&
    decide (s.sat.nonPosted = [])

end Sys2Proof.Claims

/-- ISLAND_ENABLE and ISLAND_GATE complete (R60, R61): an enable that R61 does not refuse sets the island's bit and the GATED
island starts to come up; a gate that it does not refuse clears the bit, and the ON island drains towards GATED; the bits of
the other islands stay. -/
def Sys2Proof.Claims.IslandEnableAndGate : Prop :=
  ∀ (s : State) (req : Requester) (i : Island), i ≠ .pln → s.arm.run = none →
    s.rd Reg.PLN_ISL_EN &&& (rowOf Reg.PLN_ISL_EN).reservedBits = 0 →
    (s.openFor (regAcc req Reg.PLN_ISL_EN (withField (s.rd Reg.PLN_ISL_EN) i.idx 1 1)) .pln = true →
      s.bit Reg.PLN_ISL_EN i.idx = false → (s.island i).power = .gated → (s.island i).force ≠ 2 →
      s.enableCause (withField (s.rd Reg.PLN_ISL_EN) i.idx 1 1) i = none →
      Completes (.islandEnable req i) s fun t =>
        (∀ j : Island, t.bit Reg.PLN_ISL_EN j.idx = (s.bit Reg.PLN_ISL_EN j.idx || decide (j = i))) ∧ (t.island i).waking = true ∧
        (t.island i).power = .gated) ∧
    (s.openFor (regAcc req Reg.PLN_ISL_EN (withField (s.rd Reg.PLN_ISL_EN) i.idx 1 0)) .pln = true →
      s.bit Reg.PLN_ISL_EN i.idx = true → (s.island i).power = .on → (s.island i).drain = none →
      s.gateCause (withField (s.rd Reg.PLN_ISL_EN) i.idx 1 0) i = none →
      Completes (.islandGate req i) s fun t =>
        (∀ j : Island, t.bit Reg.PLN_ISL_EN j.idx = (s.bit Reg.PLN_ISL_EN j.idx && decide (j ≠ i))) ∧
        (t.island i).drain = some .gated)

/-- A refused enable (R61): the bit stays clear, the cause is logged in PLN_EN_REFUSE while nothing is logged there. -/
def Sys2Proof.Claims.RefusedEnableIsLogged : Prop :=
  ∀ (s : State) (req : Requester) (i : Island) (c : Nat), i ≠ .pln → s.arm.run = none →
    s.rd Reg.PLN_ISL_EN &&& (rowOf Reg.PLN_ISL_EN).reservedBits = 0 →
    s.openFor (regAcc req Reg.PLN_ISL_EN (withField (s.rd Reg.PLN_ISL_EN) i.idx 1 1)) .pln = true →
    s.bit Reg.PLN_ISL_EN i.idx = false → s.enableCause (withField (s.rd Reg.PLN_ISL_EN) i.idx 1 1) i = some c →
    Completes (.islandEnable req i) s fun t =>
      t.rd Reg.PLN_ISL_EN = s.rd Reg.PLN_ISL_EN ∧ SameIslands s t ∧
      (s.bit Reg.PLN_EN_STS 0 = false → t.bit Reg.PLN_EN_STS 0 = true ∧ t.rd Reg.PLN_EN_REFUSE = word (i.idx % 16 + c * 16)) ∧
      (s.bit Reg.PLN_EN_STS 0 = true → t.bit Reg.PLN_EN_STS 1 = true ∧ t.rd Reg.PLN_EN_REFUSE = s.rd Reg.PLN_EN_REFUSE)

/-- ISLAND_IDLE_TIMEOUT, ISLAND_DRAIN_DONE, ISLAND_POWERUP_START and ISLAND_WAKE_DONE complete (R57 to R59, R63, R68): an idle
island drains to DOZE, a fixed-pace one to OFF; the end of the drain takes it there; the next island due is powered up 200 µs
after the last; the end of a wake makes it ON, with LOST where it had lost its supply, but not the first time. -/
def Sys2Proof.Claims.IslandSleepAndWake : Prop :=
  (∀ (s : State) (i : Island), (s.island i).power = .on → (s.island i).drain = none → s.idle i = true → (s.island i).force ≠ 1 →
    s.rd (Reg.PLN_ISL_IDLE i.idx) ≠ 0 → (i.variable = true ∨ s.mayOff i = true) →
    (∃ a, (s.island i).idleAt = some a ∧ a + 400 * (s.rd (Reg.PLN_ISL_IDLE i.idx)).toNat ≤ s.now) →
    Completes (.islandIdleTimeout i) s fun t =>
      (t.island i).drain = some (if i.variable then .doze else .off) ∧ t.gateClosed i = !(s.stepping i) ∧
      SameRegsBut s t (fun _ => false)) ∧
  (∀ (s : State) (i : Island) (p : Power), (s.island i).drain = some p → s.stepping i = false → s.arm.run = none →
    s.drainedOut i = true → (p = .gated → s.bit Reg.PLN_ISL_EN i.idx = false ∨ (s.island i).force ≠ 2) →
    Completes (.islandDrainDone i) s fun t => (t.island i).power = p ∧ (t.island i).drain = none ∧ ∀ w, t.sramW w = s.sramW w) ∧
  (∀ (s : State) (i : Island), s.nextPowerUp = some i → s.boot.inPor = false → s.stopped .pln = false →
    (∀ a, s.boot.lastPowerUpAt = some a → a + 80000 ≤ s.now) →
    Completes .islandPowerupStart s fun t =>
      (t.island i).powered = true ∧ t.boot.lastPowerUpAt = some s.now ∧ t.fld Reg.PLN_BOOT 4 4 = i.idx ∧
      SameRegsBut s t (fun k => decide (k = Reg.PLN_BOOT))) ∧
  (∀ (s : State) (i : Island), (s.island i).waking = true → (s.island i).power ≠ .on → s.stopped .pln = false →
    s.stopped i = false → s.wakeForbidden i = false → s.inReset i = false → s.hasWork i = false → calm s = true → ((s.island i).power ≠ .doze → (s.island i).powered = true ∧ (s.readShadow i).1 = false) →
    Completes (.islandWakeDone i) s fun t =>
      (t.island i).power = .on ∧ (t.island i).waking = false ∧
      (t.island i).lost = ((s.island i).lost || (decide ((s.island i).power ≠ .doze) && (s.island i).broughtUp)))

/-- FPWR_FREE, FPWR_KEEP_ON and FPWR_OFF_NOW complete (R46, R57, R61): the _C write that matches the open pair puts the forced
mode of the island in force, PLN_FPWR_V reads the value applied, and OFF_NOW drains an ON island to OFF. -/
def Sys2Proof.Claims.ForcedPowerModes : Prop :=
  ∀ (s : State) (req : Requester) (i : Island) (mode : Nat) (c : Instr) (o : PairOpen),
    (mode = 0 ∧ c = .fpwrFree req i ∨ mode = 1 ∧ c = .fpwrKeepOn req i ∨ mode = 2 ∧ c = .fpwrOffNow req i) →
    s.pair 5 = some o → o.req = req → s.now ≤ o.openAt + 400000 → o.value = word (i.idx + 16 * mode) →
    s.openFor (regAcc req Reg.PLN_FPWR_C (~~~ word (i.idx + 16 * mode))) .pln = true → s.forceCause i.idx mode = none →
    Completes c s fun t =>
      (t.island i).force = mode ∧ t.pairValue 5 = word (i.idx + 16 * mode) ∧ t.pair 5 = none ∧
      (mode = 2 → (s.island i).power = .on → (t.island i).drain = some .off ∨ (t.island i).drain = some .gated)

/-- PARKED_WRITE_DELIVER and WAKE_FAIL complete (R65, R67): the write parked for an open island is performed as if it had just
arrived; a request that has waited 1 ms for an island that is not ON ends, and PLN_WAKE_FAIL counts it. -/
def Sys2Proof.Claims.ParkedTrafficAndWaits : Prop :=
  (∀ (s u : State) (i : Island) (a : RegAccess) (n : Nat), s.isOn i = true → s.gateClosed i = false → s.stopped i = false →
    s.wakeBuf = [(i, .write a n)] → s.mon.running = 0 → s.nrg.ready = [] →
    ({ s with wakeBuf := [] } : State).regWrite a n = .ok u → u.nrg.ready = [] → u.mon.running = 0 → u.wakeBuf = [] →
    Completes (.parkedWriteDeliver i) s fun t => t.wakeBuf = [] ∧ SameRegsBut u t (fun _ => false)) ∧
  (∀ (s : State) (i : Island) (w : Waiter), s.isOn i = false → s.waiters = [w] → w.isl = i → w.sinceAt + 400000 ≤ s.now →
    s.sat.nonPosted = [] → s.stopped .pln = false → s.mon.running = 0 →
    Completes (.wakeFail i) s fun t =>
      t.waiters = [] ∧ t.rd Reg.PLN_WAKE_FAIL = satAdd (s.rd Reg.PLN_WAKE_FAIL) 1 ∧ SameRegsBut s t refusalReg)

/-- XTAL_IRC_GATE_END, REFCLK_GATE_END, REFCLK_GATE_STALL and JUDGE_TIMEOUT complete (R70 to R73): a gate within its window
counts on, one outside restarts the series; the REFCLK test passes or fails by its window, and fails when REFCLK stalls; a
judging that lasts 50 ms ends in IRC mode with CLK_EVT.XTALBAD. -/
def Sys2Proof.Claims.CrystalJudging : Prop :=
  (∀ (s : State) (n : Nat), s.clk.judgeAt ≠ none → s.stopped .pln = false → s.clk.gateCounts = true → s.fld Reg.CLK_JUDGE 0 4 < 8 →
    Completes (.xtalIrcGateEnd n) s fun t =>
      t.fld Reg.CLK_JUDGE 0 4 = if 24625 ≤ n ∧ n ≤ 25375 then s.fld Reg.CLK_JUDGE 0 4 + 1 else 0) ∧
  (∀ (s : State) (n : Nat), s.refGateRuns = true →
    Completes (.refclkGateEnd n) s fun t =>
      t.clk.lastRefCount = BitVec.ofNat 36 n ∧
      (249925 ≤ n → n ≤ 250700 → t.fld Reg.CLK_JUDGE 4 2 = 1) ∧
      ((n < 249925 ∨ 250700 < n) → t.fld Reg.CLK_JUDGE 4 2 = 2 ∧ t.fld Reg.CLK_JUDGE 0 4 = 0 ∧ t.clk.gateCounts = false)) ∧
  (∀ s : State, s.refGateRuns = true →
    Completes .refclkGateStall s fun t => t.fld Reg.CLK_JUDGE 4 2 = 2 ∧ t.clk.gateCounts = false) ∧
  (∀ (s : State) (a : Nat), s.clk.judgeAt = some a → a + 20000000 ≤ s.now →
    Completes .judgeTimeout s fun t =>
      t.clk.judgeAt = none ∧ t.bit Reg.CLK_STS 1 = true ∧ t.bit Reg.CLK_EVT 0 = true ∧ t.bit Reg.CLK_STS 4 = t.bit Reg.CLK_CTL 0 ∧
      SameRegsBut s t (fun k => eventReg k || decide (k = Reg.CLK_STS) || decide (k = Reg.CLK_EVT)))

/-- R72, the eighth passing gate with the REFCLK test passed or not run: XTAL is judged stable, XTAL_OK sets, IRC_MODE
clears, the PLLs lock to XTAL. -/
def Sys2Proof.Claims.CrystalJudgedStable : Prop :=
  ∀ (s : State) (n : Nat), s.clk.judgeAt ≠ none → s.stopped .pln = false → s.clk.gateCounts = true → s.fld Reg.CLK_JUDGE 0 4 = 7 →
    24625 ≤ n → n ≤ 25375 →
    Completes (.xtalIrcGateEnd n) s fun t =>
      ((s.clk.refInSeries = false ∨ s.fld Reg.CLK_JUDGE 4 2 = 1) →
        t.bit Reg.CLK_STS 0 = true ∧ t.bit Reg.CLK_STS 1 = false ∧ t.clk.pllXtal = true ∧ t.clk.judgeAt = none ∧
        t.bit Reg.CLK_STS 4 = t.bit Reg.CLK_CTL 0) ∧
      ((s.clk.refInSeries = true ∧ s.fld Reg.CLK_JUDGE 4 2 ≠ 1) → t.clk = s.clk ∧ t.rd Reg.CLK_STS = s.rd Reg.CLK_STS)

/-- REJUDGE, PLN_SRC_SWITCH and XTAL_STOP complete (R74 to R76): in IRC mode with FLD, SAT, QUE and MEM GATED a new judging
starts; the Plinth's source follows PLN_SRC and no time changes; the stopped crystal stops TIMEBASE with the PLLs locked to it. -/
def Sys2Proof.Claims.ClockSources : Prop :=
  (∀ (s : State) (req : Requester), s.openFor (regAcc req Reg.CLK_CTL (withField (s.rd Reg.CLK_CTL) 1 1 1)) .pln = true →
    s.rd Reg.CLK_CTL &&& 0x3FFFE = 0 → s.bit Reg.CLK_STS 1 = true →
    (s.island .fld).power = .gated → (s.island .sat).power = .gated → (s.island .que).power = .gated → (s.island .mem).power = .gated →
    Completes (.rejudge req) s fun t =>
      t.clk.judgeAt = some s.now ∧ t.fld Reg.CLK_JUDGE 0 4 = 0 ∧
      t.fld Reg.CLK_JUDGE 4 2 = (if s.boot.refclk then 3 else 0) ∧ t.rd Reg.CLK_CTL = s.rd Reg.CLK_CTL) ∧
  (∀ (s : State) (req : Requester) (irc : Bool), s.openFor (regAcc req Reg.CLK_CTL (word (flag irc))) .pln = true →
    Completes (.plnSrcSwitch req irc) s fun t =>
      t.bit Reg.CLK_CTL 0 = irc ∧ t.bit Reg.CLK_STS 4 = (irc || !(s.bit Reg.CLK_STS 0 || s.bit Reg.CLK_STS 1)) ∧
      t.clk = s.clk ∧ t.now = s.now ∧ t.devTime = s.devTime ∧
      SameRegsBut s t (fun k => decide (k = Reg.CLK_CTL) || decide (k = Reg.CLK_STS))) ∧
  (∀ s : State, Completes .xtalStop s fun t =>
    t.clk.xtalRuns = false ∧ (s.clk.pllXtal = true → t.clk.timebase = false) ∧
    (s.clk.pllXtal = false → t.clk.timebase = s.clk.timebase) ∧ SameRegsBut s t (fun _ => false))

/-- FMC_START, FMC_GATE_END and FMC_TIMEOUT complete (R78, R79): START stores the codes, sets BUSY and clears TIMEOUT; the end
of the gate, once 2^K cycles of a running reference have passed, clears BUSY and captures the count, 0 for a clock that gives no edges; after 1 s without a reference edge the
count is 0 and TIMEOUT sets; a START while BUSY is set is ignored. -/
def Sys2Proof.Claims.FrequencyCounter : Prop :=
  (∀ (s : State) (req : Requester) (ctl : Word), s.openFor (regAcc req Reg.CLK_FMC_CTL (withField ctl 13 1 1)) .pln = true →
    ctl &&& 0x30000 = 0 →
    Completes (.fmcStart req ctl) s fun t =>
      (s.bit Reg.CLK_FMC_CTL 14 = false →
        t.bit Reg.CLK_FMC_CTL 14 = true ∧ t.bit Reg.CLK_FMC_CTL 15 = false ∧ t.fld Reg.CLK_FMC_CTL 0 13 = fieldOf ctl 0 13) ∧
      (s.bit Reg.CLK_FMC_CTL 14 = true → t.rd Reg.CLK_FMC_CTL = s.rd Reg.CLK_FMC_CTL)) ∧
  (∀ (s : State) (count : Word36), s.bit Reg.CLK_FMC_CTL 14 = true → s.stopped .pln = false →
    s.clockRuns (s.fld Reg.CLK_FMC_CTL 4 4) = true → s.fmcGateOver = true →
    Completes (.fmcGateEnd count) s fun t =>
      t.bit Reg.CLK_FMC_CTL 14 = false ∧
      t.clk.fmcCount = (if s.clockRuns (s.fld Reg.CLK_FMC_CTL 0 4) then count else 0) ∧
      SameRegsBut s t (fun k => decide (k = Reg.CLK_FMC_CTL))) ∧
  (∀ s : State, s.bit Reg.CLK_FMC_CTL 14 = true → s.stopped .pln = false →
    s.clockRuns (s.fld Reg.CLK_FMC_CTL 4 4) = false → s.clk.fmcEdgeAt + 400000000 ≤ s.now →
    Completes .fmcTimeout s fun t =>
      t.bit Reg.CLK_FMC_CTL 14 = false ∧ t.bit Reg.CLK_FMC_CTL 15 = true ∧ t.clk.fmcCount = 0 ∧
      SameRegsBut s t (fun k => decide (k = Reg.CLK_FMC_CTL)))

/-- OP_REQUEST, SEQUENCER_SETTLE_END and SEQUENCER_STEP_DONE complete (R81, R82): a request of an ON island at rest stores
itself and starts a step of one point towards the point in force; a raising step settles for 20 µs; the end of the step
puts the island at its new point. -/
def Sys2Proof.Claims.OperatingPoints : Prop :=
  (∀ (s : State) (req : Requester) (i : Island) (p : BitVec 2), i.variable = true →
    s.openFor (regAcc req (Reg.PLN_ISL_OPREQ i.idx) (word p.toNat)) .pln = true →
    (s.island i).power = .on → (s.island i).seq = none → (s.island i).drain = none →
    Completes (.opRequest req i p) s fun t =>
      t.fld (Reg.PLN_ISL_OPREQ i.idx) 0 2 = p.toNat ∧
      (t.opInForce i = (s.island i).op → (t.island i).seq = none) ∧
      ((s.island i).op < t.opInForce i → ∃ x, (t.island i).seq = some x ∧ x.target = (s.island i).op + 1 ∧ x.raising = true) ∧
      (t.opInForce i < (s.island i).op → ∃ x, (t.island i).seq = some x ∧ x.target = (s.island i).op - 1 ∧ x.raising = false)) ∧
  (∀ (s : State) (i : Island) (x : SeqStep), (s.island i).seq = some x → x.raising = true → x.settled = false → x.startAt + 8000 ≤ s.now →
    Completes (.sequencerSettleEnd i) s fun t => (t.island i).seq = some { x with settled := true }) ∧
  (∀ (s : State) (i : Island) (x : SeqStep), (s.island i).seq = some x → x.startAt ≤ s.now → (x.raising = true → x.settled = true) →
    Completes (.sequencerStepDone i) s fun t =>
      (t.island i).op = x.target ∧ (t.island i).seqEndAt = some s.now ∧ SameRegsBut s t (fun _ => false))

/-! ### The armature (04_armature.md) -/

namespace Sys2Proof.Claims

/-- A failure as ARM_ERR and ARM_ERR_WORD record it (R117, R126). -/
abbrev ArmRecorded (t : State) (cause typ w : Nat) : Prop :=
  t.rd Reg.ARM_ERR = word (cause + typ * 32) ∧ t.rd Reg.ARM_ERR_WORD = word w

end Sys2Proof.Claims

/-- LOAD_START, LOAD_FLASH, LOAD_ABORT and LOAD_END complete (R112, R114 to R116, R126): a permitted START opens a load for its
requester with nothing staged; one that R114 or R115 refuses leaves the stage and the staged image and records its cause with
TYPE 15; FLASH starts to read slot A; ABORT discards what is staged; END of the load's own requester starts verification. -/
def Sys2Proof.Claims.LoadControl : Prop :=
  ∀ (s : State) (req : Requester),
    (s.openFor (regAcc req Reg.ARM_LOAD_CTL 1) .pln = true →
      Completes (.loadStart req) s fun t =>
        (s.loadRefusal 1 = none → t.stage = 1 ∧ t.fld Reg.ARM_STS 3 2 = 1 ∧ t.rd Reg.ARM_PTR = 0 ∧ t.arm.loader = some req ∧
          t.arm.staged = none ∧ t.arm.staging = []) ∧
        (∀ c, s.loadRefusal 1 = some c → ArmRecorded t c 15 0 ∧ t.stage = s.stage ∧ t.arm = s.arm ∧ t.bit Reg.ARM_EVT 0 = true)) ∧
    (s.openFor (regAcc req Reg.ARM_LOAD_CTL 8) .pln = true → s.loadRefusal 0 = none →
      Completes (.loadFlash req) s fun t =>
        t.stage = 1 ∧ t.fld Reg.ARM_STS 3 2 = 0 ∧ t.arm.reading = some (false, false) ∧ t.arm.staged = none) ∧
    (s.openFor (regAcc req Reg.ARM_LOAD_CTL 4) .pln = true → s.stage ≠ 5 → s.stage ≠ 6 → s.powerUpRuns = false →
      Completes (.loadAbort req) s fun t => t.stage = 0 ∧ t.arm.staged = none ∧ t.arm.loader = none ∧ t.arm.committed = s.arm.committed) ∧
    (s.openFor (regAcc req Reg.ARM_LOAD_CTL 2) .pln = true → s.arm.loader = some req →
      Completes (.loadEnd req) s fun t => t.stage = 2 ∧ t.arm.loader = none ∧ t.arm.staging = s.arm.staging)

/-- ARM_DATA_WRITE completes (R116, R117): a word of the load's own requester is stored at ARM_PTR, which goes on by one; a
word beyond the bounds ends the load with its cause, and the words staged are discarded. -/
def Sys2Proof.Claims.LoadedWords : Prop :=
  ∀ (s : State) (req : Requester) (v : Word), s.openFor (regAcc req Reg.ARM_DATA v) .pln = true → s.arm.loader = some req →
    Completes (.armDataWrite req v) s fun t =>
      (s.wordCause (s.rd Reg.ARM_PTR).toNat = none →
        wordAt t.arm.staging (s.rd Reg.ARM_PTR).toNat = v ∧ (t.rd Reg.ARM_PTR).toNat = (s.rd Reg.ARM_PTR).toNat + 1 ∧
        (∀ k, k ≠ (s.rd Reg.ARM_PTR).toNat → wordAt t.arm.staging k = wordAt s.arm.staging k) ∧ t.stage = s.stage) ∧
      (∀ c, s.wordCause (s.rd Reg.ARM_PTR).toNat = some c →
        t.stage = 4 ∧ t.arm.staging = [] ∧ t.arm.loader = none ∧ ArmRecorded t c 15 (s.rd Reg.ARM_PTR).toNat)

/-- FLASH_SLOT_READ_DONE and ARM_VERIFY_DONE complete (R112, R117): the words of the slot that are part of the image are staged
and verification begins; a load that verifies is VERIFIED with its image staged, one that fails is FAILED with its cause
recorded and nothing staged; the committed image is untouched. -/
def Sys2Proof.Claims.VerificationEnds : Prop :=
  (∀ (s : State) (r : Bool × Bool), s.arm.reading = some r →
    Completes .flashSlotReadDone s fun t => t.stage = 2 ∧ t.arm.staging = flashRead (s.flashOf r.1) ∧ t.arm.committed = s.arm.committed) ∧
  (∀ s : State, s.stage = 2 → s.arm.reading = none → s.mon.running = 0 → s.mon.loadWait = false →
    Completes .armVerifyDone s fun t =>
      (∀ im, verifyImage s.fuses s.arm.committed s.arm.staging s.arm.received = .ok im → t.stage = 3 ∧ t.arm.staged = some im) ∧
      (∀ e, verifyImage s.fuses s.arm.committed s.arm.staging s.arm.received = .error e →
        t.stage = 4 ∧ t.arm.staged = none ∧ ArmRecorded t e.cause e.typ e.word ∧ t.bit Reg.ARM_EVT 0 = true) ∧
      t.arm.committed = s.arm.committed)

/-- The fused security mode (R109): under ENFORCE an image without a signature is not verified, and one with the wrong key or a
bad signature is not; an image that verifies is marked signed exactly where its signature is valid. -/
def Sys2Proof.Claims.EnforceNeedsSignature : Prop :=
  ∀ (f : Fuses) (com : Option Image) (ws : List Word) (got : Nat) (im : Image), verifyImage f com ws got = .ok im →
    (f.enforce = true → im.sig ≠ [] ∧ im.signed = true ∧ ∀ c, com = some c → c.epoch.toNat ≤ im.epoch.toNat) ∧
    im.signed = signatureValid f im.words im.sig

/-- PROG_A, PROG_B and ARM_PROGDONE complete (R111, R113): a VERIFIED image starts to be programmed into the slot, which is
erased, and stays staged; at the end the slot holds it with its SIGNATURE and its last group filled with zeros, nine bytes a group, and PROGDONE sets; in another
stage the write is ignored. -/
def Sys2Proof.Claims.FlashProgramming : Prop :=
  (∀ (s : State) (req : Requester) (slotB : Bool),
    s.openFor (regAcc req Reg.ARM_LOAD_CTL (if slotB then 32 else 16)) .pln = true →
    Completes (if slotB then .progB req else .progA req) s fun t =>
      (s.stage = 3 → t.stage = 6 ∧ t.arm.prog = some slotB ∧ t.flashOf slotB = []) ∧ (s.stage ≠ 3 → t.stage = s.stage ∧ t.arm = s.arm) ∧
      t.arm.staged = s.arm.staged) ∧
  (∀ (s : State) (slotB : Bool) (im : Image), s.arm.prog = some slotB → s.arm.staged = some im →
    Completes (.armProgdone none) s fun t =>
      t.flashOf slotB = slotBytes (im.words ++ im.sig) ∧ t.flashOf (!slotB) = s.flashOf (!slotB) ∧ t.stage = 3 ∧
      t.arm.staged = some im ∧ t.bit Reg.ARM_EVT 7 = true ∧ t.rd Reg.ARM_ERR = s.rd Reg.ARM_ERR)

/-- COMMIT_WHOLE and RECAST complete (R46, R119 to R121): the _C write that matches the open pair is judged; a refusal records
cause and unit and keeps the committed and the staged image; else ARM_CMT_V reads the value applied, a whole commit whose
last island is ON starts to gate it, and a re-cast is under way or done. -/
def Sys2Proof.Claims.CommitsAreJudged : Prop :=
  ∀ (s : State) (req : Requester) (o : PairOpen), s.pair 4 = some o → o.req = req → s.now ≤ o.openAt + 400000 →
    s.openFor (regAcc req Reg.ARM_CMT_C (~~~o.value)) .pln = true →
    (∀ c : Instr, (c = .commitWhole req (~~~o.value) ∨ c = .recast req (~~~o.value)) →
      ∀ r, s.commitRefusal o.value = some r →
        Completes c s fun t =>
          t.rd Reg.ARM_CMT_ERR = word (r.1 + r.2 * 8) ∧ t.bit Reg.ARM_EVT 3 = true ∧ t.arm = s.arm ∧ t.stage = s.stage) ∧
    (s.commitRefusal o.value = none → o.value.getLsbD 17 = true → s.boot.waitXtal = false →
      ∀ i, (presentIslands s.arm.committed).getLast? = some i → (s.island i).power = .on → (s.island i).drain = none → s.bit Reg.PLN_ISL_EN i.idx = true →
        s.arm.committed ≠ none → s.arm.staged ≠ none →
        Completes (.commitWhole req (~~~o.value)) s fun t =>
          t.pairValue 4 = o.value ∧ t.stage = 5 ∧ (t.island i).drain = some .gated ∧ t.arm.committed = s.arm.committed) ∧
    (s.commitRefusal o.value = none → o.value.getLsbD 17 = false → s.arm.staged ≠ none →
      Completes (.recast req (~~~o.value)) s fun t =>
        t.pairValue 4 = o.value ∧ (t.arm.run ≠ none ∨ t.arm.committed = s.arm.staged))

/-- MAQUETTE_WRITE completes (R123, R124): with no channel live the mode follows the bit, and in the mode every head port's
outputs are high-impedance; with a channel live the write is ignored. -/
def Sys2Proof.Claims.MaquetteMode : Prop :=
  ∀ (s : State) (req : Requester) (en : Bool), s.openFor (regAcc req Reg.ARM_MAQ (word (flag en))) .pln = true →
    s.rd Reg.ARM_MAQ &&& 0x3FFFE = 0 →
    Completes (.maquetteWrite req en) s fun t =>
      (s.anyLive = true → t.rd Reg.ARM_MAQ = s.rd Reg.ARM_MAQ ∧ t.bit Reg.ARM_STS 12 = s.bit Reg.ARM_STS 12 ∧ t.trg = s.trg) ∧
      (s.anyLive = false → t.bit Reg.ARM_MAQ 0 = en ∧
        (s.bit Reg.ARM_MAQ 0 ≠ en → t.bit Reg.ARM_STS 12 = en ∧
          (en = true → ∀ p, p < 32 → (t.port p).drive = .hiZ ∧ (t.port p).trg = false ∧ (t.port p).stb = false ∧ (t.port p).pen = false)))

/-- FUSE_PROGRAM and FUSE_PROGRAM_DONE complete (R110): a permitted item starts to be programmed with staging word W0 of its
mailbox; a refused one sets FAIL and changes no fuse; the end of the programming changes the fuses and is what ARM_FUSE_V then reads, a failed one sets FAIL and changes
none; one that comes while another is BUSY sets FAIL and leaves it running (the model's choice, log entry 120). -/
def Sys2Proof.Claims.FuseProgramming : Prop :=
  (∀ (s : State) (req : Requester) (o : PairOpen), s.pair 6 = some o → o.req = req → s.now ≤ o.openAt + 400000 →
    s.openFor (regAcc req Reg.ARM_FUSE_C (~~~o.value)) .pln = true → s.arm.fusing = none →
    Completes (.fuseProgram req (~~~o.value)) s fun t =>
      t.pairValue 6 = s.pairValue 6 ∧ t.fuses = s.fuses ∧
      (s.fuses.programmed o.value.toNat (s.mb .armFuse).w0 = none → t.bit Reg.ARM_FUSE_STS 1 = true ∧ t.arm.fusing = none) ∧
      (s.fuses.programmed o.value.toNat (s.mb .armFuse).w0 ≠ none →
        t.bit Reg.ARM_FUSE_STS 0 = true ∧ t.arm.fusing = some (o.value.toNat, (s.mb .armFuse).w0))) ∧
  (∀ (s : State) (ok : Bool) (x : Nat × Word) (f : Fuses), s.arm.fusing = some x → s.fuses.programmed x.1 x.2 = some f →
    Completes (.fuseProgramDone ok) s fun t =>
      t.arm.fusing = none ∧ t.bit Reg.ARM_FUSE_STS 0 = false ∧ t.fuses = (if ok then f else s.fuses) ∧
      t.pairValue 6 = (if ok then word x.1 else s.pairValue 6) ∧ (ok = false → t.bit Reg.ARM_FUSE_STS 1 = true)) ∧
  (∀ (s : State) (req : Requester) (o : PairOpen) (x : Nat × Word), s.pair 6 = some o → o.req = req → s.now ≤ o.openAt + 400000 →
    s.openFor (regAcc req Reg.ARM_FUSE_C (~~~o.value)) .pln = true → s.arm.fusing = some x →
    Completes (.fuseProgram req (~~~o.value)) s fun t =>
      t.arm.fusing = some x ∧ t.fuses = s.fuses ∧ t.bit Reg.ARM_FUSE_STS 1 = true)

/-- R110, the fuses: programming an item leaves every fused bit set, SECMODE never becomes code 2, and it becomes 3 only while
a KEYHASH item is not zero. -/
def Sys2Proof.Claims.FusesOnlyGainBits : Prop :=
  ∀ (f g : Fuses) (item : Nat) (w : Word), f.programmed item w = some g →
    f.secmode &&& g.secmode = f.secmode ∧ (∀ k, Tab.get 0 f.keyhash k &&& Tab.get 0 g.keyhash k = Tab.get 0 f.keyhash k) ∧
    g.secmode ≠ 2 ∧ (g.secmode = 3 → f.keyhash ≠ []) ∧ (f.secmode ≠ 0 → g.keyhash = f.keyhash) ∧ g.prov = f.prov ∧ g.silicon = f.silicon

/-! ### Power-up and resets (05_power_up_and_reset.md) -/

namespace Sys2Proof.Claims

/-- Nothing of the islands, the armature, the channels, the queues and the locks outlasts a reset of the whole device; the
fuses, the flash and the queue of commands do (R127, R128, R139 to R142). -/
def WholeReset (s t : State) : Prop :=
  t.arm.committed = none ∧ t.arm.staged = none ∧ t.que.chans = [] ∧ t.que.queues = [] ∧ t.que.locks = [] ∧ t.ring = {} ∧ t.mot = {} ∧
  t.trg = {} ∧ t.wakeBuf = [] ∧ t.waiters = [] ∧ t.fuses = s.fuses ∧ t.pending = s.pending ∧ t.now = s.now ∧
  (∀ i : Island, i ≠ .pln → i ≠ .hst → (t.island i).power = .gated)

/-- The steps of R144 that PERST_N, hot reset and FLR share: every channel destroyed with its generation advanced, no queue
enabled, the locks of the function and of the channels free and broken, every head port's power off. -/
def FunctionEnded (s t : State) : Prop :=
  (∀ k, k < 128 → (t.chn k).inUse = false) ∧
  (∀ k, k < 128 → (s.chn k).inUse = true → (t.chn k).gen = if (s.chn k).gen = 2047 then 1 else (s.chn k).gen + 1) ∧
  (∀ q, (t.queue q).state ≠ .enabled) ∧
  (∀ n, n < 64 → ((s.lock n).owner = some (.req .host) ∨ ∃ k, (s.lock n).owner = some (.chan k)) → t.lock n = { owner := none, broken := true }) ∧
  (∀ p, p < 32 → t.bit (Reg.HP_CTL (qOf p) (iOf p)) 0 = false) ∧
  t.arm.committed = s.arm.committed ∧ t.fuses = s.fuses ∧ (∀ w, t.sramW w = s.sramW w)

end Sys2Proof.Claims

/-- POR_ASSERT, POR_END and RESET_N_PULSE complete (R127, R128, R142): each leaves nothing of the device's work; POR clears
PLN_RST_CAUSE before its bit sets, RESET_N adds its bit; the straps are sampled; a pulse under 100 ns is ignored, one of 1 µs
or more resets. -/
def Sys2Proof.Claims.WholeDeviceResets : Prop :=
  (∀ s : State, Completes .porAssert s fun t => WholeReset s t ∧ t.boot.inPor = true ∧ t.fld Reg.PLN_RST_CAUSE 0 9 = 1) ∧
  (∀ (s : State) (straps : BitVec 4), s.boot.inPor = true →
    Completes (.porEnd straps) s fun t =>
      WholeReset s t ∧ t.boot.inPor = false ∧ t.fld Reg.PLN_RST_CAUSE 0 9 = 1 ∧ t.fld Reg.PLN_STRAP 0 4 = straps.toNat ∧
      t.fld Reg.PLN_BOOT 0 3 = 0) ∧
  (∀ (s : State) (ns : Nat) (taken : Bool) (straps : BitVec 4), s.boot.inPor = false →
    Completes (.resetNPulse ns taken straps) s fun t =>
      (ns < 100 → t = s) ∧
      (1000 ≤ ns → WholeReset s t ∧ t.rd Reg.PLN_RST_CAUSE = s.rd Reg.PLN_RST_CAUSE ||| 2 ∧ t.fld Reg.PLN_STRAP 0 4 = straps.toNat) ∧
      (100 ≤ ns → ns < 1000 → taken = false → t = s))

/-- SRAM_CLEAR_DONE and POWERUP_COMMIT_START complete (R129, R131): every SRAM word is zero and the read of slot A begins; once
the crystal is judged or IRC mode entered, a verified image makes the device READY and its commit starts. -/
def Sys2Proof.Claims.PowerUpSteps : Prop :=
  (∀ s : State, s.boot.inPor = false → s.fld Reg.PLN_BOOT 0 3 = 0 →
    Completes .sramClearDone s fun t =>
      (∀ w, t.sramW w = { stored := 0, checked := 0 }) ∧ t.fld Reg.PLN_BOOT 0 3 = 1 ∧ t.arm.reading = some (false, true)) ∧
  (∀ (s : State) (im : Image), s.boot.waitXtal = true → s.stage = 3 → s.arm.staged = some im →
    (s.bit Reg.CLK_STS 0 = true ∨ s.bit Reg.CLK_STS 1 = true) →
    Completes .powerupCommitStart s fun t =>
      t.bit Reg.PLN_BOOT 3 = true ∧ t.boot.waitXtal = false ∧ (t.arm.run ≠ none ∨ t.arm.committed = some im))

/-- PERST_DEASSERT and PERST_ASSERT complete (R130, R144, R145): with REFCLK the deassertion enables HST; the assertion ends the
function's use of the device and gates HST, with its bit in PLN_RST_CAUSE. -/
def Sys2Proof.Claims.FundamentalReset : Prop :=
  (∀ s : State, Completes .perstDeassert s fun t =>
    t.boot.perstN = true ∧
    (s.boot.refclk = true → s.boot.inPor = false → t.bit Reg.PLN_ISL_EN 1 = true ∧
      ((s.island .hst).power = .gated → (s.island .hst).force ≠ 2 → (t.island .hst).waking = true))) ∧
  (∀ s : State, s.boot.perstN = true →
    Completes .perstAssert s fun t =>
      FunctionEnded s t ∧ t.boot.perstN = false ∧ (t.island .hst).power = .gated ∧ t.bit Reg.PLN_RST_CAUSE 4 = true ∧
      t.linkUp = false ∧ t.txn.tags = [])

/-- HOT_RESET, FLR and FLR_COMPLETE complete (R143 to R145): a hot reset of a link that is up, and an FLR of a function that
takes configuration requests, end the function's use of the device; the FLR is under way until FLR_COMPLETE. -/
def Sys2Proof.Claims.FunctionResets : Prop :=
  (∀ s : State, s.linkUp = true →
    Completes .hotReset s fun t => FunctionEnded s t ∧ t.bit Reg.PLN_RST_CAUSE 5 = true ∧ t.linkUp = false ∧ t.boot.perstN = s.boot.perstN) ∧
  (∀ s : State, s.linkUp = true → s.isOn .hst = true → s.bit Reg.PLN_BOOT 3 = true → s.boot.flr = false → s.boot.perstN = true →
    Completes .flr s fun t => FunctionEnded s t ∧ t.boot.flr = true ∧ t.bit Reg.PLN_RST_CAUSE 6 = true ∧ t.linkUp = true) ∧
  (∀ s : State, s.boot.flr = true →
    Completes .flrComplete s fun t => t.boot.flr = false ∧ (s.que.op = none → t.que.op = none))

/-- CONFIG_REQUEST completes (R131, R143): before the device is ready and during an FLR it is answered with Request Retry
Status; else a read answers with the dword as it reads. -/
def Sys2Proof.Claims.ConfigRequestAnswers : Prop :=
  ∀ (s : State) (q : ConfigReq), s.linkUp = true → s.isOn .hst = true →
    ((s.bit Reg.PLN_BOOT 3 = false ∨ s.boot.flr = true) →
      Completes (.configRequest q) s fun t => ∃ l, t.sent = l ++ Output.config none :: s.sent) ∧
    (s.bit Reg.PLN_BOOT 3 = true → s.boot.flr = false → q.write = false →
      Completes (.configRequest q) s fun t => ∃ l, t.sent = l ++ Output.config (some (s.cfgRead q.dword.toNat)) :: s.sent) ∧
    (s.bit Reg.PLN_BOOT 3 = true → s.boot.flr = false → q.write = true →
      Completes (.configRequest q) s fun t => ∃ l m, t.sent = l ++ Output.config (some 0) :: (m ++ s.sent))

/-- ISLAND_RESET completes (R146): a reset of an ON island that nothing refuses drains it to OFF for re-initialisation, with
its bit in PLN_RST_CAUSE; a refused one is logged and changes no island. -/
def Sys2Proof.Claims.IslandResets : Prop :=
  ∀ (s : State) (req : Requester) (n : BitVec 4), s.openFor (regAcc req Reg.PLN_ISL_RST (word (n.toNat + 16))) .pln = true →
    (∀ i : Island, Island.ofIdx n.toNat = some i → s.islandResetCause n.toNat = none → (s.island i).drain = none →
      Completes (.islandReset req (word (n.toNat + 16))) s fun t =>
        (t.island i).drain = some .off ∧ (t.island i).recast = true ∧ t.bit Reg.PLN_RST_CAUSE 7 = true) ∧
    (∀ c, s.islandResetCause n.toNat = some c → s.bit Reg.PLN_EN_STS 0 = false →
      Completes (.islandReset req (word (n.toNat + 16))) s fun t =>
        SameIslands s t ∧ t.rd Reg.PLN_EN_REFUSE = word (n.toNat % 16 + c * 16) ∧ t.bit Reg.PLN_EN_STS 0 = true)

/-- DEVICE_PURGE and PURGE_ERASE_DONE complete (R147): the purge clears every SRAM word and destroys every channel, and resets
the device at once or, with ERASE_FLASH, when both slots are erased; no fuse changes. -/
def Sys2Proof.Claims.PurgeClearsTheDevice : Prop :=
  (∀ (s : State) (req : Requester) (o : PairOpen), s.pair 8 = some o → o.req = req → s.now ≤ o.openAt + 400000 →
    s.openFor (regAcc req Reg.PLN_PURGE_C (~~~o.value)) .pln = true → o.value.getLsbD 0 = true →
    Completes (.devicePurge req (~~~o.value)) s fun t =>
      (∀ w, t.sramW w = { stored := 0, checked := 0 }) ∧ (∀ k, k < 128 → (t.chn k).inUse = false) ∧ t.fuses = s.fuses ∧
      (o.value.getLsbD 1 = false → WholeReset s t ∧ t.bit Reg.PLN_RST_CAUSE 3 = true) ∧
      (o.value.getLsbD 1 = true → t.boot.erasing = true ∧ t.wakeBuf = [])) ∧
  (∀ s : State, s.boot.erasing = true →
    Completes .purgeEraseDone s fun t =>
      WholeReset s t ∧ t.arm.flashA = [] ∧ t.arm.flashB = [] ∧ t.bit Reg.PLN_RST_CAUSE 3 = true ∧ t.boot.erasing = false)

/-- VIO_5_LOSS and VIO_5_RETURN complete (R127, R136): the device does not watch the supply of the field pins: nothing but the
supply itself changes. -/
def Sys2Proof.Claims.FieldSupply : Prop :=
  ∀ s : State,
    Completes .vio5Loss s (fun t => t.boot.vio5 = false ∧ t.trg = s.trg ∧ t.mot = s.mot ∧ SameRegsBut s t (fun _ => false)) ∧
    Completes .vio5Return s (fun t => t.boot.vio5 = true ∧ t.trg = s.trg ∧ t.mot = s.mot ∧ SameRegsBut s t (fun _ => false))

/-! ### The host link (06_host_link.md) -/

namespace Sys2Proof.Claims

/-- A lane's place in the EQ results that count. -/
def eqMine (s : State) (rs : List LaneEq) : List LaneEq := rs.filter fun r => !s.linkUp || s.activeLane r.lane.val
/-- Every lane to be equalised is in the results and passes, with a preset of the mask. -/
def eqPasses (s : State) (rs : List LaneEq) : Bool := s.eqAllWell (eqMine s rs)

/-- A link that has lost a lane and trains on without it: lane `l` dropped, the lanes `m` configured, LANEDROP raised, in L0. -/
abbrev LaneDropped (s t : State) (l : Nat) (m : BitVec 4) : Prop :=
  t.dropped = s.dropped ||| BitVec.ofNat 4 (2 ^ l) ∧ t.linkWidth = ((laneConfig m).map (·.1)).getD 0 ∧
  t.fld Reg.HST_LINK_STS 9 4 = m.toNat ∧ t.bit Reg.HST_LINK_EVT 2 = true ∧ t.ltssm = 3 ∧ t.fld Reg.HST_DROP_STS 4 4 = 0

/-- No work of the ledger waits, and nothing is over the ceiling: a pass of the planner sheds nothing. -/
abbrev belowCeiling (s : State) : Prop :=
  s.nrg.deferred = [] ∧ (s.rd Reg.NRG_POWER).toNat ≤ s.ceiling.1 ∧ s.forecast ≤ s.ceiling.1

end Sys2Proof.Claims

/-- LINK_UP, EQ_PHASE2_DONE and EQ_PHASE3_REQUEST complete (R149, R153 to R155, R172): a trained link is in L0 at its rate,
width and lanes, inverted ones included, with HST_LINKUP raised and DOWN clear; an equalisation that passes, at 16.0 GT/s after 8.0 GT/s
(R152), shows each lane's chosen preset and changes the rate of a link that is up, one that fails raises HST_EQFAIL and lowers the rate offered; a partner's preset or legal
coefficients are applied and others leave the transmitter as it is. -/
def Obligations.LinkTrains : Prop :=
  (∀ (s : State) (rate : Fin 4) (lanes : BitVec 4) (wiring : LaneWiring) (up : Bool) (w : Nat) (r : Bool),
    s.training = true → s.linkUp = false → laneConfig lanes = some (w, r) → rate.val ≤ s.rateCap → w ≤ s.widthCap → calm s = true →
    Completes (.linkUp rate lanes wiring up) s fun t =>
      t.linkUp = true ∧ t.ltssm = 3 ∧ t.linkRate = rate.val ∧ t.linkWidth = w ∧ t.fld Reg.HST_LINK_STS 9 4 = lanes.toNat ∧
      t.bit Reg.HST_LINK_EVT 0 = true ∧ t.bit Reg.HST_LL_STS 1 = false ∧ t.link.partnerUpcfg = up ∧
      ∀ l, l < 4 → t.bit (Reg.HST_LANE_STS l) 0 = lanes.getLsbD l ∧ t.bit (Reg.HST_LANE_STS l) 1 = (lanes.getLsbD l && wiring.inverted.getLsbD l)) ∧
  (∀ (s : State) (rate : Fin 4) (rs : List LaneEq), s.training = true → 2 ≤ rate.val → rate.val ≤ s.rateCap → (rate.val = 3 → s.link.eq8 = true) →
    Completes (.eqPhase2Done rate rs) s fun t =>
      (eqPasses s rs = true → s.linkUp = true → t.linkRate = rate.val) ∧
      (eqPasses s rs = false → t.bit Reg.HST_LINK_EVT 5 = true ∧ t.link.eqCap = rate.val - 1 ∧ (s.linkUp = true → t.linkRate < rate.val)) ∧
      (∀ r e, eqMine s rs = [r] → bestPreset s.eqMask r.passing = some e → t.fld (Reg.HST_LANE_STS r.lane.val) 8 4 = e.1.val)) ∧
  (∀ (s : State) (lane : Fin 4) (q : EqRequest), s.training = true →
    Completes (.eqPhase3Request lane q) s fun t =>
      match q with
      | .preset p =>
        (p.toNat ≤ 10 → t.fld (Reg.HST_LANE_STS lane.val) 4 4 = p.toNat) ∧
        (10 < p.toNat → SameRegsBut s t eventReg ∧ t.sent = Output.laneMsg lane.val .rejected :: s.sent)
      | .coefficients a b c legal =>
        (legal = true → Tab.get 0 t.link.coefficients lane.val = a.toNat + 64 * b.toNat + 4096 * c.toNat) ∧
        (legal = false → t.link = s.link ∧ t.sent = Output.laneMsg lane.val .rejected :: s.sent) ∧ SameRegsBut s t eventReg)

/-- LANE_LOCK_LOSS, RECOVERY_TIMEOUT, RECOVERY_SURVIVED and LINK_RETURN_TO_L0 complete (R166 to R168): a lane that loses lock
counts and takes the link into Recovery; a Recovery that fails, 24 ms long, is counted for its lane, and the third failure of the lane
drops it; 100 ms without a loss clear the count; back in L0 the configured lanes have their lock. -/
def Sys2Proof.Claims.LanesFailAndDrop : Prop :=
  (∀ (s : State) (lane : Fin 4), s.linkUp = true → s.activeLane lane.val = true → s.bit (Reg.HST_LANE_STS lane.val) 0 = true →
    s.ltssm = 3 → s.link.l0At = none → calm s = true →
    Completes (.laneLockLoss lane) s fun t =>
      t.ltssm = 4 ∧ t.bit (Reg.HST_LANE_STS lane.val) 0 = false ∧
      t.fld (Reg.HST_LANE_STS lane.val) 12 6 = min 63 (s.fld (Reg.HST_LANE_STS lane.val) 12 6 + 1) ∧
      t.rd Reg.HST_RECOV_CNT = satAdd (s.rd Reg.HST_RECOV_CNT) 1) ∧
  (∀ (s : State) (lane : Fin 4), s.linkUp = true → s.activeLane lane.val = true → s.bit (Reg.HST_LANE_STS lane.val) 0 = false →
    s.ltssm = 4 → s.link.recoveryAt + 9600000 ≤ s.now → calm s = true →
    Completes (.recoveryTimeout lane) s fun t =>
      (s.fld Reg.HST_DROP_STS 4 2 = 0 →
        t.fld Reg.HST_DROP_STS 4 2 = 1 ∧ t.fld Reg.HST_DROP_STS 6 2 = lane.val ∧ t.ltssm = 4 ∧
        t.rd Reg.HST_RECOV_CNT = satAdd (s.rd Reg.HST_RECOV_CNT) 1) ∧
      (∀ m, 2 ≤ s.fld Reg.HST_DROP_STS 4 2 → s.fld Reg.HST_DROP_STS 6 2 = lane.val → s.bit Reg.HST_PHY_CTL 7 = true →
        bestLanes (s.link.detectLanes &&& ~~~(s.dropped ||| BitVec.ofNat 4 (2 ^ lane.val))) = some m → LaneDropped s t lane.val m)) ∧
  (∀ (s : State) (a : Nat), s.link.l0At = some a → s.inL0 = true → a + 40000000 ≤ s.now →
    Completes .recoverySurvived s fun t =>
      t.fld Reg.HST_DROP_STS 4 4 = 0 ∧ t.dropped = s.dropped ∧ t.link.l0At = none ∧
      SameRegsBut s t (fun k => decide (k = Reg.HST_DROP_STS))) ∧
  (∀ s : State, s.linkUp = true → s.ltssm = 4 → s.link.upcfgRun = false → s.isOn .hst = true → calm s = true →
    Completes .linkReturnToL0 s fun t =>
      t.ltssm = 3 ∧ (∀ l, l < 4 → t.bit (Reg.HST_LANE_STS l) 0 = s.activeLane l) ∧
      t.fld Reg.HST_LINK_STS 9 4 = s.fld Reg.HST_LINK_STS 9 4 ∧ t.dropped = s.dropped)

/-- UPCONFIGURE_ATTEMPT and UPCONFIGURE_DONE complete (R169): a partner that can is tried through Recovery and Configuration, one that cannot is
recorded; lanes that pass and train come back and raise HST_UPCFG, and a failed attempt records its cause and raises
HST_UPCFGFAIL. -/
def Sys2Proof.Claims.LanesComeBack : Prop :=
  (∀ (s : State) (a : Nat), s.link.dropAt = some a → s.inL0 = true → s.dropped ≠ 0 → s.bit Reg.HST_PHY_CTL 4 = true →
    a + 400000000 * max 10 (s.rd Reg.HST_UPCFG_T).toNat ≤ s.now →
    Completes .upconfigureAttempt s fun t =>
      (s.link.partnerUpcfg = true → t.ltssm = 2 ∧ t.link.upcfgRun = true ∧ t.rd Reg.HST_RECOV_CNT = satAdd (s.rd Reg.HST_RECOV_CNT) 1) ∧
      (s.link.partnerUpcfg = false → s.link.noPartnerNoted = false → t.fld Reg.HST_UPCFG_STS 0 2 = 1 ∧ t.ltssm = 3) ∧
      t.dropped = s.dropped) ∧
  (∀ (s : State) (passed : BitVec 4) (trained : Bool), s.link.upcfgRun = true → s.linkUp = true → calm s = true →
    Completes (.upconfigureDone passed trained) s fun t =>
      t.link.upcfgRun = false ∧ t.ltssm = 3 ∧
      (passed &&& s.dropped = 0 → t.fld Reg.HST_UPCFG_STS 0 2 = 2 ∧ t.bit Reg.HST_LINK_EVT 4 = true ∧ t.dropped = s.dropped) ∧
      (passed &&& s.dropped ≠ 0 → trained = false →
        t.fld Reg.HST_UPCFG_STS 0 2 = 3 ∧ t.bit Reg.HST_LINK_EVT 4 = true ∧ t.dropped = s.dropped) ∧
      (∀ m, passed &&& s.dropped ≠ 0 → trained = true →
        bestLanes (s.link.detectLanes &&& ~~~(s.dropped &&& ~~~(passed &&& s.dropped))) = some m →
        t.dropped = s.dropped &&& ~~~passed ∧ t.fld Reg.HST_LINK_STS 9 4 = m.toNat ∧ t.bit Reg.HST_LINK_EVT 3 = true))

/-- EYE_SCAN_START, EYE_SCAN_AUTO, EYE_SCAN_DONE, EYE_SCAN_PAUSE_TIMEOUT and LANE_MARGIN_COMMAND complete (R156 to R158): a
scan of a configured lane in L0 sets BUSY; its end, with its grant, stores WIDTH, HEIGHT and PASS and raises HST_EYEDONE; a pause of more than
100 ms aborts it; a margining step at 16.0 GT/s margins its lane, until more errors are counted than its limit allows, and aborts
the scan of that lane, and the other margining commands answer as R158 says; the error limit before the partner sets one is the
standard's (log entry 20). -/
def Sys2Proof.Claims.EyesAreScanned : Prop :=
  (∀ (s : State) (req : Requester) (lane : Fin 4),
    s.openFor (regAcc req Reg.HST_EYE_CTL (word (lane.val + 4 + 32 * flag (s.bit Reg.HST_EYE_CTL 5)))) .hst = true →
    s.bit Reg.HST_EYE_CTL 3 = false → s.inL0 = true → s.activeLane lane.val = true → belowCeiling s →
    Completes (.eyeScanStart req lane) s fun t =>
      t.bit Reg.HST_EYE_CTL 3 = true ∧ t.bit Reg.HST_EYE_CTL 4 = false ∧ t.bit Reg.HST_EYE_CTL 5 = s.bit Reg.HST_EYE_CTL 5 ∧
      t.link.eyeLane = lane.val) ∧
  (∀ s : State, s.bit Reg.HST_EYE_CTL 5 = true → s.bit Reg.HST_EYE_CTL 3 = false → s.inL0 = true → belowCeiling s → s.nrg.ready = [] →
    (s.link.eyeRestart = true → s.activeLane s.link.eyeLane = true → s.link.margining.getLsbD s.link.eyeLane = false →
      s.fld Reg.NRG_STS 0 3 = 0 →
      Completes .eyeScanAuto s fun t => t.bit Reg.HST_EYE_CTL 3 = true ∧ t.link.eyeLane = s.link.eyeLane) ∧
    (s.link.eyeRestart = false → s.link.eyeLastAt + 400000000 ≤ s.now → s.activeLane (s.nextLane s.link.eyeLane) = true →
      Completes .eyeScanAuto s fun t =>
        t.bit Reg.HST_EYE_CTL 3 = true ∧ t.link.eyeLane = s.nextLane s.link.eyeLane ∧ t.link.eyeLastAt = s.now)) ∧
  (∀ (s : State) (w : Fin 65) (h : Fin 251), s.eyeRuns = true → (s.busGrant 10).isSome = true →
    Completes (.eyeScanDone w h) s fun t =>
      t.bit Reg.HST_EYE_CTL 3 = false ∧ t.bit Reg.HST_LINK_EVT 7 = true ∧
      Tab.get {} t.link.eyes s.link.eyeLane =
        { word := word (w.val + h.val * 128 +
            flag (decide (s.fld Reg.HST_EYE_PASS 0 6 ≤ w.val ∧ s.fld Reg.HST_EYE_PASS 6 8 ≤ h.val)) * 65536 + 131072)
          endT := s.devTime } ∧
      SameRegsBut s t (fun k => eventReg k || decide (k = Reg.HST_EYE_CTL) || decide (k = Reg.HST_LINK_EVT))) ∧
  (∀ (s : State) (a : Nat), s.link.eyePausedAt = some a → s.lanesAsleep = true → a + 40000000 < s.now →
    s.bit Reg.HST_EYE_CTL 3 = true →
    Completes .eyeScanPauseTimeout s fun t =>
      t.bit Reg.HST_EYE_CTL 3 = false ∧ t.bit Reg.HST_EYE_CTL 4 = true ∧ t.link.eyes = s.link.eyes ∧
      SameRegsBut s t (fun k => decide (k = Reg.HST_EYE_CTL))) ∧
  (∀ (s : State) (lane : Fin 4) (c : MarginCmd), s.inL0 = true → s.linkRate = 3 → s.activeLane lane.val = true → marginOk c = true →
    Completes (.laneMarginCommand lane c) s fun t =>
      (match c with
        | .goToNormal => t.link.margining.getLsbD lane.val = false ∧ t.sent = Output.laneMsg lane.val .marginNormal :: s.sent
        | .timing _ _ | .voltage _ _ =>
          (s.link.eyeLane = lane.val → t.bit Reg.HST_EYE_CTL 3 = false) ∧
          ∃ n, n ≤ 63 ∧
            t.link.margining.getLsbD lane.val = decide (n ≤ Tab.get marginLimitDefault s.link.marginLimit lane.val) ∧
            t.sent = Output.laneMsg lane.val
              (.marginErrors (decide (Tab.get marginLimitDefault s.link.marginLimit lane.val < n)) n) :: s.sent
        | .report what => t.link = s.link ∧ t.sent = Output.laneMsg lane.val (.marginFigure what (marginFigure what)) :: s.sent
        | .errorLimit n =>
          Tab.get marginLimitDefault t.link.marginLimit lane.val = n.toNat ∧ t.link.margining = s.link.margining ∧
          t.sent = Output.laneMsg lane.val (.marginLimit n.toNat) :: s.sent
        | .clearErrors => t.link = s.link ∧ t.sent = Output.laneMsg lane.val .marginCleared :: s.sent) ∧
      (∀ l, l ≠ lane.val → t.link.margining.getLsbD l = s.link.margining.getLsbD l) ∧
      SameRegsBut s t (fun k => eventReg k || decide (k = Reg.HST_EYE_CTL)))

/-- TESTMODE_ENTER, TESTMODE_EXIT, PRBS_CHECKER_LOCK and PRBS_CLEAR complete (R159, R160): TESTMODE from another requester than
the host takes the link down and holds it in test mode, from the host it is refused with HST_PRBSREFUSED; its end goes to
Detect; the checker of a lane in test locks; CLEAR empties every counter. -/
def Sys2Proof.Claims.TestModeRuns : Prop :=
  (∀ (s : State) (req : Requester), s.openFor (regAcc req Reg.HST_PHY_CTL (withField (s.rd Reg.HST_PHY_CTL) 6 1 1)) .hst = true →
    s.rd Reg.HST_PHY_CTL &&& (rowOf Reg.HST_PHY_CTL).reservedBits = 0 → s.bit Reg.HST_PHY_CTL 5 = false → s.bit Reg.HST_PHY_CTL 6 = false →
    s.nrg.deferred = [] →
    Completes (.testmodeEnter req) s fun t =>
      (req ≠ .host → t.bit Reg.HST_PHY_CTL 6 = true ∧ t.linkUp = false ∧ t.ltssm = 7 ∧ t.bit Reg.HST_PRBS_STS 4 = true) ∧
      (req = .host → t.bit Reg.HST_PHY_CTL 6 = false ∧ t.bit Reg.HST_LINK_EVT 8 = true ∧ t.linkUp = s.linkUp)) ∧
  (∀ (s : State) (req : Requester), s.openFor (regAcc req Reg.HST_PHY_CTL (withField (s.rd Reg.HST_PHY_CTL) 6 1 0)) .hst = true →
    s.rd Reg.HST_PHY_CTL &&& (rowOf Reg.HST_PHY_CTL).reservedBits = 0 → s.bit Reg.HST_PHY_CTL 6 = true →
    Completes (.testmodeExit req) s fun t =>
      t.bit Reg.HST_PHY_CTL 6 = false ∧ t.ltssm = 0 ∧ t.bit Reg.HST_PRBS_STS 4 = false ∧ t.link.prbsRuns = false) ∧
  (∀ (s : State) (lane : Fin 4), s.link.prbsRuns = true → s.bit Reg.HST_PRBS_CTL lane.val = true →
    Completes (.prbsCheckerLock lane) s fun t =>
      t.bit Reg.HST_PRBS_STS lane.val = true ∧ (∀ b, b ≠ lane.val → t.bit Reg.HST_PRBS_STS b = s.bit Reg.HST_PRBS_STS b) ∧
      SameRegsBut s t (fun k => decide (k = Reg.HST_PRBS_STS))) ∧
  (∀ (s : State) (req : Requester), s.openFor (regAcc req Reg.HST_PRBS_CTL (withField (s.rd Reg.HST_PRBS_CTL) 10 1 1)) .hst = true →
    s.rd Reg.HST_PRBS_CTL &&& (rowOf Reg.HST_PRBS_CTL).reservedBits = 0 →
    Completes (.prbsClear req) s fun t => t.link.prbsMis = [] ∧ t.link.prbsCmp = [] ∧ t.link.prbsRuns = s.link.prbsRuns)

/-- L0S_ENTRY, L1_REQUEST, L11_EXIT, ELECTRICAL_IDLE_EXIT, LTR_AUTO_SEND and LTR_SEND complete (R161 to R165): with nothing to
send for the time set the transmitter enters L0s and the link L1, and an L0S_ENTRY that cannot be the transmitter's is the receiver's
(the model's choice, log entry 142); L1.1 asserts CLKREQ_N and goes to Recovery once REFCLK runs; a wake from the partner goes to Recovery from L1 and ends receive L0s; an LTR message carries the
value of its mode, and one that the link cannot carry yet takes it out of L1 and waits. -/
def Sys2Proof.Claims.LinkSleepsAndWakes : Prop :=
  (∀ s : State, s.inL0 = true → s.isOn .hst = true →
    (s.aspmL0s = true → (s.bit Reg.HST_LINK_STS 13 = true ∨ s.txWork = true) →
      Completes .l0sEntry s fun t =>
        t.bit Reg.HST_LINK_STS 14 = true ∧ t.ltssm = 3 ∧ SameRegsBut s t (fun k => decide (k = Reg.HST_LINK_STS))) ∧
    (∀ a, s.aspmL0s = true → s.bit Reg.HST_LINK_STS 13 = false → s.txWork = false → s.link.quietAt = some a →
      a + 400 * max 1 (s.fld Reg.HST_L0S_IDLE 0 3) ≤ s.now → s.link.sentAt + 400 * max 1 (s.fld Reg.HST_L0S_IDLE 0 3) ≤ s.now →
      Completes .l0sEntry s fun t =>
        t.bit Reg.HST_LINK_STS 13 = true ∧ t.ltssm = 3 ∧ SameRegsBut s t (fun k => decide (k = Reg.HST_LINK_STS))) ∧
    (s.txWork = false →
      (s.txn.d3hot = true ∨
        s.aspmL1 = true ∧ ∃ a, s.link.quietAt = some a ∧ a + 400 * (s.rd Reg.HST_L1_IDLE).toNat ≤ s.now) →
      Completes .l1Request s fun t =>
        t.ltssm = 5 ∧ t.bit Reg.HST_LINK_STS 13 = false ∧ t.link.clkreq = !t.bit Reg.HST_LINK_STS 15 ∧
        SameRegsBut s t (fun k => decide (k = Reg.HST_LINK_STS)))) ∧
  (∀ s : State, s.ltssm = 5 →
    (s.bit Reg.HST_LINK_STS 15 = true →
      Completes .l11Exit s fun t =>
        t.link.clkreq = true ∧ (s.boot.refclk = false → t.ltssm = 5) ∧
        (s.boot.refclk = true → t.ltssm = 4 ∧ t.bit Reg.HST_LINK_STS 15 = false ∧ t.rd Reg.HST_RECOV_CNT = satAdd (s.rd Reg.HST_RECOV_CNT) 1)) ∧
    (s.bit Reg.HST_LINK_STS 15 = false →
      Completes .electricalIdleExit s fun t =>
        t.ltssm = 4 ∧ t.rd Reg.HST_RECOV_CNT = satAdd (s.rd Reg.HST_RECOV_CNT) 1 ∧
        ((s.island .hst).power = .doze → (s.island .hst).drain = none → s.wakeForbidden .hst = false → (t.island .hst).waking = true))) ∧
  (∀ s : State, s.inL0 = true →
    Completes .electricalIdleExit s fun t =>
      t.bit Reg.HST_LINK_STS 14 = false ∧ SameRegsBut s t (fun k => decide (k = Reg.HST_LINK_STS))) ∧
  (∀ s : State, s.ltrEn = true → s.canSend = true →
    (s.bit Reg.HST_LTR_CTL 0 = true → s.link.ltrAt = none →
      Completes .ltrAutoSend s fun t => t.sent = Output.ltr s.ltrValue :: s.sent ∧ t.link.ltrLast = s.ltrValue) ∧
    (∀ a, s.bit Reg.HST_LTR_CTL 0 = true → s.link.ltrAt = some a → a + 400000 ≤ s.now → s.link.ltrLast < 4 * (s.ltrValue - s.link.ltrLast) →
      Completes .ltrAutoSend s fun t => t.sent = Output.ltr s.ltrValue :: s.sent ∧ t.link.ltrAt = some s.now) ∧
    (∀ req, s.bit Reg.HST_LTR_CTL 0 = false → s.rd Reg.HST_LTR_CTL &&& (rowOf Reg.HST_LTR_CTL).reservedBits = 0 →
      s.openFor (regAcc req Reg.HST_LTR_CTL (withField (s.rd Reg.HST_LTR_CTL) 1 1 1)) .hst = true →
      Completes (.ltrSend req) s fun t => t.sent = Output.ltr (s.rd Reg.HST_LTR_US).toNat :: s.sent)) ∧
  (∀ (s : State) (req : Requester), s.ltrEn = true → s.linkUp = true → s.canSend = false → s.bit Reg.HST_LTR_CTL 0 = false →
    s.rd Reg.HST_LTR_CTL &&& (rowOf Reg.HST_LTR_CTL).reservedBits = 0 →
    s.openFor (regAcc req Reg.HST_LTR_CTL (withField (s.rd Reg.HST_LTR_CTL) 1 1 1)) .hst = true →
    Completes (.ltrSend req) s fun t =>
      t.link.ltrDue = true ∧ t.sent = s.sent ∧ (s.ltssm = 5 → s.bit Reg.HST_LINK_STS 15 = false → t.ltssm = 4))

/-- REFCLK_START, REFCLK_STOP, REDETECT and SURPRISE_LINK_DOWN complete (R130, R151, R163, R170): REFCLK is seen, and a link in
L1.1 leaves it; without REFCLK a link outside L1.1 is lost; REDETECT and the loss of the link disable every queue, end every
read, break the locks of the host, set DOWN and raise HST_LINKDOWN, and no channel ends. -/
def Sys2Proof.Claims.LinkIsLost : Prop :=
  (∀ s : State, Completes .refclkStart s fun t =>
    t.boot.refclk = true ∧ t.bit Reg.CLK_STS 2 = true ∧
    (s.ltssm = 5 → s.bit Reg.HST_LINK_STS 15 = true → t.link.clkreq = true ∧ t.ltssm = 4)) ∧
  (∀ s : State, Completes .refclkStop s fun t =>
    t.boot.refclk = false ∧ t.bit Reg.CLK_STS 2 = false ∧
    (s.linkUp = true → ¬(s.ltssm = 5 ∧ s.bit Reg.HST_LINK_STS 15 = true) → t.linkUp = false ∧ t.bit Reg.HST_LINK_EVT 1 = true) ∧
    (s.ltssm = 5 → s.bit Reg.HST_LINK_STS 15 = true → t.linkUp = s.linkUp)) ∧
  (∀ (s : State) (c : Instr), s.linkUp = true →
    ((c = .surpriseLinkDown ∧ s.boot.perstN = true) ∨
      ∃ req, c = .redetect req ∧ s.openFor (regAcc req Reg.HST_PHY_CTL (withField (s.rd Reg.HST_PHY_CTL) 5 1 1)) .hst = true ∧
        s.rd Reg.HST_PHY_CTL &&& (rowOf Reg.HST_PHY_CTL).reservedBits = 0 ∧ s.bit Reg.HST_PHY_CTL 6 = false) →
    Completes c s fun t =>
      t.linkUp = false ∧ t.ltssm = 0 ∧ t.bit Reg.HST_LL_STS 1 = true ∧ t.bit Reg.HST_LINK_EVT 1 = true ∧
      (∀ q, (t.queue q).state ≠ .enabled) ∧ t.txn.tags = [] ∧
      (∀ n, n < 64 → (s.lock n).owner = some (.req .host) → t.lock n = { owner := none, broken := true }) ∧
      (∀ k, (t.chn k).state = (s.chn k).state))

/-! ### Host transactions (07_host_transactions.md) -/

namespace Sys2Proof.Claims

/-- A function that takes configuration requests: the link up, HST ON, the device ready, no FLR under way (R131, R143). -/
def takesConfig (s : State) : Bool := s.linkUp && s.isOn .hst && s.bit Reg.PLN_BOOT 3 && !s.boot.flr

/-- What may change where entries are dropped for want of the master enable: the link's state, the count of records dropped, and
the events that the entries would have reported (R184, R185). -/
def dropReg (k : Nat) : Bool := eventReg k || decide (k = Reg.HST_NOBM_DROP) || decide (k = Reg.QUE_EVT)

/-- A memory request of the host reaches the function (R188 case 3). -/
def takesMemory (s : State) : Bool := s.hostReaches && s.mse && !s.txn.d3hot

/-- The dword of the MSI-X table that an access of 32 bits leaves: address dword-aligned, of the vector control the mask. -/
def msixStored (a : Bar4Access) : Dword :=
  BitVec.ofNat 32 a.data.toNat &&& (match a.offset.toNat / 4 % 4 with | 0 => 0xFFFFFFFC | 3 => 1 | _ => 0xFFFFFFFF)

/-- What an AtomicOp of the host may be (R194): 32 bits, of 18-bit operands, to a LOCKABLE window of BAR2. -/
def atomicMay (s : State) (a : AtomicReq) (w : SatWindow) : Bool :=
  decide (a.bar = 2) && w.lockable && decide (a.width = 32) && decide (a.operand.toNat < 2 ^ 18) &&
    (decide (a.op ≠ .cas) || decide (a.compare.toNat < 2 ^ 18)) && !s.bit Reg.ARM_STS 12

end Sys2Proof.Claims

/-- SLOT_POWER_LIMIT_MSG, BUS_MASTER_ENABLE_CLEAR, BUS_MASTER_ENABLE_SET, D3HOT_ENTRY, D3HOT_TO_D0 and BAR4_ACCESS complete
(R177, R182, R184, R185, R264): the limit is shown and the ceiling follows it; with Bus Master Enable clear or in D3hot no
request may leave and what is staged is dropped, and with it set again the unmasked messages that waited have left; D3hot keeps every
channel; BAR4 outside
its table and PBA answers UR, and inside it a dword is read and written. -/
def Obligations.FunctionIsConfigured : Prop :=
  (∀ (s : State) (v : BitVec 8) (sc : BitVec 2), s.linkUp = true → s.isOn .hst = true → s.nrg.deferred = [] → s.nrg.ready = [] →
    Completes (.slotPowerLimitMsg v sc) s fun t =>
      t.rd Reg.HST_SPL = word (slotPowerMw v.toNat sc.toNat) ∧
      (s.rd Reg.HST_SPL ≠ word (slotPowerMw v.toNat sc.toNat) ∨ s.rd Reg.NRG_CEIL = word s.ceiling.1 →
        t.rd Reg.NRG_CEIL = word t.ceiling.1) ∧
      t.ceiling.1 ≤ 13500 ∧ (t.rd Reg.HST_SPL ≠ 0 → t.ceiling.1 ≤ (t.rd Reg.HST_SPL).toNat)) ∧
  (∀ s : State, takesConfig s = true →
    Completes .busMasterEnableClear s (fun t =>
      t.bme = false ∧ t.canSend = false ∧ t.mse = s.mse ∧ t.que.chans = s.que.chans ∧
      (s.bme = true → ∀ q, t.queue q = { s.queue q with staged := [] }) ∧ SameRegsBut s t dropReg) ∧
    Completes .d3hotEntry s (fun t =>
      t.txn.d3hot = true ∧ t.canSend = false ∧ t.que.chans = s.que.chans ∧ (∀ q, t.queue q = { s.queue q with staged := [] }) ∧
      SameRegsBut s t dropReg)) ∧
  (∀ s : State, takesConfig s = true → calm s = true →
    Completes .busMasterEnableSet s (fun t =>
      t.bme = true ∧
      (s.msixEn = true → s.inL0 = true → s.txn.d3hot = false → ∀ v, v < 128 → s.vecMasked v = false → t.txn.pba.getLsbD v = false)) ∧
    (s.txn.d3hot = true → s.sat.nonPosted = [] →
      Completes .d3hotToD0 s fun t => t.txn.d3hot = false ∧ t.que = s.que ∧ SameRegsBut s t eventReg)) ∧
  (∀ (s : State) (a : Bar4Access), takesMemory s = true → s.isOn .hst = true →
    (bar4Ok a = false → a.write = false →
      Completes (.bar4Access a) s fun t => t.sent = Output.completion .host .ur [] false :: s.sent ∧ t.txn.msix = s.txn.msix) ∧
    (bar4Ok a = false → a.write = true →
      Completes (.bar4Access a) s fun t => t.sent = s.sent ∧ t.txn.msix = s.txn.msix ∧ t.txn.pba = s.txn.pba) ∧
    (bar4Ok a = true → a.write = false →
      Completes (.bar4Access a) s fun t =>
        t.sent = Output.completion .host .sc ((bar4Dwords a).map fun e => s.bar4Dword e.1) false :: s.sent ∧ t.txn = s.txn) ∧
    (bar4Ok a = true → a.write = true → a.poisoned = true →
      Completes (.bar4Access a) s fun t => t.txn.msix = s.txn.msix ∧ t.bit Reg.HST_TXN_EVT 2 = true) ∧
    (bar4Ok a = true → a.write = true → a.poisoned = false → a.size = 4 → a.offset.toNat < 0x800 →
      Completes (.bar4Access a) s fun t =>
        t.msixD (a.offset.toNat / 4) = msixStored a ∧ ∀ d, d ≠ a.offset.toNat / 4 → t.msixD d = s.msixD d))

/-- COMPLETION_RECEIVED, COMPLETION_TIMEOUT and TAG_QUARANTINE_END complete (R188, R191, R192): a completion of no outstanding
tag is counted and raises HST_LATECPL and changes no tag; the last part frees its tag and its data reach the queue that
fetched; an error raises HST_CPLERR, quarantines the tag and faults the queue, where it is ENABLED; a timeout is counted, names its consumer, raises HST_CTO, faults
the queue and quarantines the tag, which is free again at the quarantine's end. -/
def Sys2Proof.Claims.ReadsComeBack : Prop :=
  (∀ (s : State) (c : Completion), s.linkUp = true → s.isOn .hst = true → calm s = true →
    (s.tagOf c.tag.toNat = none →
      Completes (.completionReceived c) s fun t =>
        t.rd Reg.HST_LATE_CNT = satAdd (s.rd Reg.HST_LATE_CNT) 1 ∧ t.bit Reg.HST_TXN_EVT 1 = true ∧ t.txn.tags = s.txn.tags ∧
        t.txn.quarantine = s.txn.quarantine) ∧
    (∀ x, s.tagOf c.tag.toNat = some x → x.sunk = false →
      (c.status = .sc → c.last = false →
        Completes (.completionReceived c) s fun t =>
          t.tagOf c.tag.toNat = some { x with got := x.got ++ c.data, poisoned := x.poisoned || c.poisoned } ∧
          (c.poisoned = false → SameRegsBut s t (fun _ => false)) ∧
          (c.poisoned = true → t.bit Reg.HST_TXN_EVT 2 = true ∧ t.rd Reg.HST_POISON_CNT = satAdd (s.rd Reg.HST_POISON_CNT) 1)) ∧
      (∀ q n, c.status = .sc → c.last = true → x.who = .cmdQueue q n → x.poisoned = false → c.poisoned = false →
        (s.queue q).fetching = true → (s.queue q).state = .enabled →
        Completes (.completionReceived c) s fun t =>
          (t.queue q).fetched = (s.queue q).fetched ++ entriesOf (x.got ++ c.data) ∧
          (t.queue q).fetching = false ∧ (t.queue q).cons = (s.queue q).cons + BitVec.ofNat 17 n ∧
          SameRegsBut s t (fun k => decide (k = Reg.HST_LINK_STS)) ∧
          ((s.queue q).translated = false → t.tagOf c.tag.toNat = none ∧ SameRegsBut s t (fun _ => false))) ∧
      (c.status ≠ .sc →
        Completes (.completionReceived c) s fun t =>
          t.tagOf c.tag.toNat = none ∧ t.bit Reg.HST_TXN_EVT 3 = true ∧ (∃ e, e ∈ t.txn.quarantine ∧ e.tag = c.tag.toNat) ∧
          ∀ q n, x.who = .cmdQueue q n → (s.queue q).state = .enabled → (t.queue q).state = .fault ∧ (t.queue q).faultCause = 3))) ∧
  (∀ (s : State) (tag : BitVec 10) (x : Tag), s.tagOf tag.toNat = some x → s.ctoDisable = false → x.issuedAt + s.ctoTicks ≤ s.now →
    Completes (.completionTimeout tag) s fun t =>
      t.tagOf tag.toNat = none ∧ { tag := tag.toNat, endAt := s.now + 2 * s.ctoTicks } ∈ t.txn.quarantine ∧
      t.rd Reg.HST_CTO_CNT = satAdd (s.rd Reg.HST_CTO_CNT) 1 ∧ t.rd Reg.HST_CTO_LAST = word (ctoLast x.who) ∧
      t.bit Reg.HST_TXN_EVT 0 = true ∧
      (∀ q n, x.who = .cmdQueue q n → x.sunk = false → (s.queue q).state = .enabled →
        (t.queue q).state = .fault ∧ (t.queue q).faultCause = 3)) ∧
  (∀ (s : State) (tag : BitVec 10), calm s = true →
    Completes (.tagQuarantineEnd tag) s fun t =>
      (∀ e, e ∈ t.txn.quarantine ↔ e ∈ s.txn.quarantine ∧ (e.tag = tag.toNat → s.now < e.endAt)) ∧ t.txn.tags = s.txn.tags)

/-- TRANSLATION_COMPLETION, INVALIDATE_REQUEST, INVALIDATE_COMPLETION, ATC_FLUSH and ATS_ENABLE_CLEAR complete (R200 to R202): a
good translation is cached; another is not, and faults its queue with HST_ATSFAULT at the access that needs it, at once where one
waits; an invalidation removes exactly the pages it covers, and its
completion leaves once no read waits; a flush empties the cache, and clearing ATS Enable faults every translated queue. -/
def Sys2Proof.Claims.TranslationsComeAndGo : Prop :=
  (∀ (s : State) (tag : BitVec 10) (x : Tag) (q : Nat) (page : BitVec 52) (tr : Translation),
    s.linkUp = true → s.isOn .hst = true → s.tagOf tag.toNat = some x → x.who = .ats q page → x.sunk = false → s.atsEn = true →
    Completes (.translationCompletion tag tr) s fun t =>
      t.tagOf tag.toNat = none ∧
      (Translation.good tr (!(s.queue q).hostProduces) = true →
        t.atcFind page = some { vpage := page, ppage := tr.page, read := tr.read, write := tr.write }) ∧
      (Translation.good tr (!(s.queue q).hostProduces) = false → t.txn.atc = s.txn.atc ∧
        ((s.queue q).state = .enabled →
          (t.bit Reg.HST_TXN_EVT 4 = true ∧ (t.queue q).state = .fault ∧ (t.queue q).faultCause = 4) ∨ (q, page) ∈ t.txn.atsBad))) ∧
  (∀ (s : State) (q : Fin 2048) (e : QEntry) (rest : List QEntry), s.queWorks = true → (s.queue q.val).state = .enabled →
    (s.queue q.val).staged = e :: rest → s.canSend = true → (s.queue q.val).translated = true →
    (s.atsEn = false ∨ (q.val, pageOf ((s.queue q.val).addr (s.queue q.val).prod.toNat)) ∈ s.txn.atsBad) →
    Completes (.queueEntryWrite q .clean) s fun t =>
      t.bit Reg.HST_TXN_EVT 4 = true ∧ (t.queue q.val).state = .fault ∧ (t.queue q.val).faultCause = 4) ∧
  (∀ (s : State) (itag : BitVec 5) (page : BitVec 52) (pages : Nat), s.linkUp = true → s.isOn .hst = true → s.txn.invals.length < 32 →
    Completes (.invalidateRequest itag page pages) s fun t =>
      t.txn.invals.length = s.txn.invals.length + 1 ∧
      (∀ p, t.atcFind p = if page.toNat ≤ p.toNat ∧ p.toNat < page.toNat + pages then none else s.atcFind p) ∧
      SameRegsBut s t (fun _ => false)) ∧
  (∀ (s : State) (itag : BitVec 5), s.canSend = true → { itag := some itag.toNat, waits := [] } ∈ s.txn.invals →
    Completes (.invalidateCompletion itag) s fun t =>
      t.sent = Output.invalidateCpl itag.toNat :: s.sent ∧ { itag := some itag.toNat, waits := [] } ∉ t.txn.invals ∧
      SameRegsBut s t (fun k => decide (k = Reg.HST_LINK_STS))) ∧
  (∀ (s : State) (req : Requester), s.openFor (regAcc req Reg.HST_ATC_CTL 1) .hst = true →
    Completes (.atcFlush req) s fun t => t.txn.atc = [] ∧ t.txn.tags = s.txn.tags ∧ SameRegsBut s t (fun _ => false)) ∧
  (∀ s : State, takesConfig s = true → s.atsEn = true →
    Completes .atsEnableClear s fun t =>
      t.atsEn = false ∧ t.txn.atc = [] ∧
      ∀ q, (s.queue q).state = .enabled → (s.queue q).translated = true →
        (t.queue q).state = .fault ∧ (t.queue q).faultCause = 4 ∧ t.bit Reg.HST_TXN_EVT 4 = true)

/-- ATOMICOP_REQUEST and ATOMICOP_LOCK_TIMEOUT complete (R188 case 8, R194, R195): an AtomicOp that the device completes joins
the bridge's requests, any other is answered with UR; one that has not started within 10 ms is answered with CA, counted and
raises HST_ATOMICFAIL. -/
def Sys2Proof.Claims.HostAtomics : Prop :=
  (∀ (s : State) (a : AtomicReq), takesMemory s = true →
    ((windowAt s.image a.offset.toNat 1 = none ∨ ∃ w j, windowAt s.image a.offset.toNat 1 = some (w, j) ∧ atomicMay s a w = false) →
      Completes (.atomicopRequest a) s fun t => t.sent = Output.completion .host .ur [] false :: s.sent ∧ t.sat = s.sat) ∧
    (∀ w j, windowAt s.image a.offset.toNat 1 = some (w, j) → atomicMay s a w = true → a.poisoned = false → s.satGone = false →
      s.sat.nonPosted.length < 16 →
      Completes (.atomicopRequest a) s fun t =>
        t.sent = s.sent ∧ SameRegsBut s t (fun _ => false) ∧
        ∃ b, t.sat.nonPosted = s.sat.nonPosted ++ [b] ∧ b.win = w.num ∧ b.started = false ∧
          b.want = .atomic a.op (w.word j) (word a.operand.toNat) (word a.compare.toNat))) ∧
  (∀ (s : State) (b : BridgeJob) (op : AtomOp) (addr : BitVec 22) (x y : Word), s.sat.nonPosted = [b] → b.started = false →
    b.want = .atomic op addr x y → b.sinceAt + 4000000 ≤ s.now → b.sunk = false → s.boot.flr = false →
    Completes .atomicopLockTimeout s fun t =>
      t.sat.nonPosted = [] ∧ t.rd Reg.HST_ATOMIC_FAIL = satAdd (s.rd Reg.HST_ATOMIC_FAIL) 1 ∧ t.bit Reg.HST_TXN_EVT 5 = true ∧
      t.sent.head? = some (Output.completion .host .ca [] false))

/-- SRAM_WINDOW_WRITE, SRAM_WINDOW_READ and MEM_PATROL_SCRUB complete (R26, R125, R189, R206): a write of the window stores its
word, with the bits that INJECT flips, or is refused inside the armature shadow; a read answers the word, corrected where one
bit is wrong and with EP where it cannot be; the patrol reads the next word, corrects it and counts what it finds; every other
word stays. -/
def Sys2Proof.Claims.SramKeepsItsWords : Prop :=
  (∀ (s : State) (req : Requester) (w : BitVec 18) (v : Word), s.openFor (regAcc req (sramOffset w.toNat) v) .mem = true →
    Completes (.sramWindowWrite req w v) s fun t =>
      (∀ k, k ≠ w.toNat → t.sramW k = s.sramW k) ∧
      (s.inShadow w.toNat = true → t.sramW w.toNat = s.sramW w.toNat) ∧
      (s.inShadow w.toNat = false →
        t.fld Reg.MEM_ECC_CTL 0 2 = 0 ∧
        t.sramW w.toNat =
          { stored := v ^^^ (match s.fld Reg.MEM_ECC_CTL 0 2 with | 1 => 1 | 2 => 3 | _ => 0), checked := v })) ∧
  (∀ (s : State) (req : Requester) (w : BitVec 18), s.openFor (readAcc req (sramOffset w.toNat)) .mem = true →
    Completes (.sramWindowRead req w) s fun t =>
      (∀ k, k ≠ w.toNat → t.sramW k = s.sramW k) ∧
      ((s.sramW w.toNat).err = 0 → t.sramW w.toNat = s.sramW w.toNat ∧ Answered s t (readAcc req (sramOffset w.toNat)) (s.sramW w.toNat).stored) ∧
      ((s.sramW w.toNat).err = 1 →
        t.sramW w.toNat = { stored := (s.sramW w.toNat).checked, checked := (s.sramW w.toNat).checked } ∧
        (req = .host → t.sent.head? = some (Output.completion .host .sc [dwordOf (s.sramW w.toNat).checked] false))) ∧
      ((s.sramW w.toNat).err = 2 →
        t.sramW w.toNat = s.sramW w.toNat ∧ t.rd Reg.MEM_UE_CNT = satAdd (s.rd Reg.MEM_UE_CNT) 1 ∧
        (s.fld Reg.MEM_ECC_STS 1 1 = 0 → t.rd Reg.MEM_UE_ADDR = word w.toNat ∧ t.bit Reg.MEM_ECC_STS 1 = true) ∧
        (req = .host → t.sent.head? = some (Output.completion .host .sc [dwordOf (s.sramW w.toNat).stored] true)))) ∧
  (∀ s : State, s.isOn .mem = true → s.stopped .mem = false → s.stepping .mem = false → s.bit Reg.MEM_SCRUB_CTL 0 = true →
    s.mem.next < 262144 → (s.grantAt (s.mem.next / 32768) 14).isSome = true →
    Completes .memPatrolScrub s fun t =>
      t.mem.next = (s.mem.next + 1) % 262144 ∧ (∀ k, k ≠ s.mem.next → t.sramW k = s.sramW k) ∧
      ((s.sramW s.mem.next).err = 0 → t.sramW s.mem.next = s.sramW s.mem.next ∧
        t.rd Reg.MEM_SCRUB_PASS = (if s.mem.next = 262143 then satAdd (s.rd Reg.MEM_SCRUB_PASS) 1 else s.rd Reg.MEM_SCRUB_PASS)) ∧
      ((s.sramW s.mem.next).err = 1 →
        t.sramW s.mem.next = { stored := (s.sramW s.mem.next).checked, checked := (s.sramW s.mem.next).checked } ∧
        t.rd (Reg.MEM_CE_CNT (s.mem.next / 32768)) = satAdd (s.rd (Reg.MEM_CE_CNT (s.mem.next / 32768))) 1) ∧
      ((s.sramW s.mem.next).err = 2 →
        t.sramW s.mem.next = s.sramW s.mem.next ∧ t.rd Reg.MEM_UE_CNT = satAdd (s.rd Reg.MEM_UE_CNT) 1))

/-! ### Channels, queues, events and locks (08_channels_queues_events.md) -/

namespace Sys2Proof.Claims

/-- The word of CHN_OP for a channel command. -/
def chnCmd (code : Nat) (req : Requester) : Instr :=
  match code with
  | 1 => .create req
  | 2 => .chnQuiesce req
  | 3 => .resume req
  | _ => .destroy req

/-- A device-to-host queue takes an entry: nothing of the link forbids it, the queue is ENABLED and not full (R184, R222). -/
def takesEntry (s : State) (q : Nat) : Bool :=
  !s.bit Reg.HST_LL_STS 1 && s.bme && !s.txn.d3hot && decide ((s.queue q).state = .enabled) && !(s.queue q).isFull

/-- A queue command that R219 admits: 1 ENABLE, 2 DISABLE, 3 RESET, 4 FAULTCLR. -/
def queueMay (x : Queue) (op : Nat) : Bool :=
  match op with
  | 1 => decide (x.state = .disabled) && x.cfgOk
  | 2 => decide (x.state = .enabled) || decide (x.state = .fault)
  | 3 => decide (x.state = .disabled)
  | _ => decide (x.state = .fault)

def queueCmdOf (op : Nat) (req : Requester) (q : Fin 2048) : Instr :=
  match op with
  | 1 => .queueEnable req q
  | 2 => .queueDisable req q
  | 3 => .queueReset req q
  | _ => .queueFaultclr req q

/-- The offset of LCK[n]. -/
def lckOfs (n : Fin 64) : Nat := 0x080000 + 4 * n.val

end Sys2Proof.Claims

/-- CREATE, CHN_QUIESCE, RESUME, DESTROY and CHN_OP_INVALID complete (R208 to R215): the result shows status, operation and
handle, and QUE_OPDONE is raised; a CREATE that passes makes the lowest FREE slot LIVE with its parameters, a QUIESCE takes a
LIVE channel to QUIESCING, a RESUME a QUIESCED one to LIVE, a DESTROY frees the slot, advances its generation, disables its
command queue and breaks its locks; only OK changes a channel; a write while BUSY is an overrun; during an FLR a CREATE waits for its end (the model's choice, log entry
49). -/
def Sys2Proof.Claims.ChannelOperations : Prop :=
  ∀ (s : State) (req : Requester) (code : Nat), 1 ≤ code → code ≤ 4 → s.openFor (regAcc req Reg.CHN_OP (word code)) .que = true →
    (s.que.op ≠ none →
      Completes (chnCmd code req) s fun t => t.bit Reg.CHN_OPSTS 1 = true ∧ t.que = s.que) ∧
    (s.que.op = none → code = 1 → s.boot.flr = true →
      Completes (.create req) s fun t =>
        (∃ o, t.que.op = some o ∧ o.code = 1) ∧ t.que.chans = s.que.chans ∧ SameRegsBut s t (fun _ => false)) ∧
    (s.que.op = none → (code = 1 → s.boot.flr = false) →
      (∀ k, code = 1 → s.createStatus = (0, some k) →
        Completes (.create req) s fun t =>
          t.chn k = s.applyAll.newChan k ∧ (∀ j, j ≠ k → t.chn j = s.chn j) ∧
          t.que.opRes = [word 8, word (k * 2048 + (s.chn k).gen.toNat)] ∧ t.bit Reg.QUE_EVT 14 = true) ∧
      (∀ c, code = 1 → s.createStatus = (c, none) →
        Completes (.create req) s fun t => t.que.chans = s.que.chans ∧ t.que.opRes = [word (c + 8), 0] ∧ t.bit Reg.QUE_EVT 14 = true) ∧
      (code ≠ 1 → s.slotOf (s.rd Reg.CHN_HANDLE) = none →
        Completes (chnCmd code req) s fun t =>
          t.que.chans = s.que.chans ∧ t.que.opRes = [word (4 + 8 * code), 0] ∧ t.bit Reg.QUE_EVT 14 = true) ∧
      (∀ k, s.slotOf (s.rd Reg.CHN_HANDLE) = some k →
        (code = 2 → Completes (.chnQuiesce req) s fun t =>
          (t.chn k).state = (if (s.chn k).state = .live then ChState.quiescing else (s.chn k).state) ∧
          t.que.opRes = [word 16, s.rd Reg.CHN_HANDLE] ∧ ∀ j, j ≠ k → (t.chn j).state = (s.chn j).state) ∧
        (code = 3 → (s.chn k).state = .quiesced → Completes (.resume req) s fun t =>
          (t.chn k).state = .live ∧ t.que.opRes = [word 24, s.rd Reg.CHN_HANDLE]) ∧
        (code = 3 → (s.chn k).state ≠ .quiesced → Completes (.resume req) s fun t =>
          t.que.chans = s.que.chans ∧ t.que.opRes = [word 29, 0]) ∧
        (code = 4 → Completes (.destroy req) s fun t =>
          (t.chn k).state = .free ∧ (t.chn k).gen = (if (s.chn k).gen = 2047 then 1 else (s.chn k).gen + 1) ∧
          (t.queue (s.chn k).cmdq).state = .disabled ∧ t.que.opRes = [word 32, s.rd Reg.CHN_HANDLE] ∧ t.bit Reg.QUE_EVT 13 = true ∧
          ∀ n, n < 64 → (s.lock n).owner = some (.chan k) → t.lock n = { owner := none, broken := true })))

/-- CHN_OP_INVALID and CHANNEL_QUIESCED complete (R209, R213): a code without an operation returns PARAM, any other is its operation; a QUIESCING channel
whose records are written or lost is QUIESCED, with a CHANSTATE entry as its last. -/
def Sys2Proof.Claims.ChannelEnds : Prop :=
  (∀ (s : State) (req : Requester),
    exec (.chnOpInvalid req 1) s = exec (.create req) s ∧ exec (.chnOpInvalid req 2) s = exec (.chnQuiesce req) s ∧
    exec (.chnOpInvalid req 3) s = exec (.resume req) s ∧ exec (.chnOpInvalid req 4) s = exec (.destroy req) s) ∧
  (∀ (s : State) (req : Requester) (code : BitVec 3), (code = 0 ∨ 4 < code.toNat) → s.que.op = none →
    s.openFor (regAcc req Reg.CHN_OP (word code.toNat)) .que = true →
    Completes (.chnOpInvalid req code) s fun t =>
      t.que.chans = s.que.chans ∧ t.que.opRes = [word (5 + 8 * code.toNat), 0] ∧ t.bit Reg.QUE_EVT 14 = true) ∧
  (∀ (s : State) (k : Fin 128), (s.chn k.val).state = .quiescing → s.unwritten k.val = 0 → s.firesPending k.val = false →
    Completes (.channelQuiesced k) s fun t =>
      (t.chn k.val).state = .quiesced ∧
      (takesEntry s (s.chn k.val).recq = true →
        (t.queue (s.chn k.val).recq).staged = (s.queue (s.chn k.val).recq).staged ++
          [{ typ := 4, words := [s.handleOf k.val, 3] ++ words54 s.devTime, slot := some k.val, cause := some 12 }]))

/-- QUEUE_ENABLE, QUEUE_DISABLE, QUEUE_RESET, QUEUE_FAULTCLR, QUEUE_DRAIN_DONE and DOORBELL complete (R219, R220): an admitted
command takes the queue to its state with the counts the command gives it, a refused one raises QUE_BADCMD and leaves every
queue (a pending apply of QUE_MB takes effect first, log entry 111); a doorbell moves the count that the host owns, faults a queue whose counts it would break, and is discarded by a queue
that is not ENABLED. -/
def Sys2Proof.Claims.QueuesAreCommanded : Prop :=
  (∀ (u s : State) (req : Requester) (op : Nat) (q : Fin 2048), 1 ≤ op → op ≤ 4 → s = u.applyDone .queMb →
    u.openFor (regAcc req Reg.QUE_CMD (word (q.val + op * 2048))) .que = true →
    (queueMay (s.queue q.val) op = false →
      Completes (queueCmdOf op req q) u fun t => t.que.queues = s.que.queues ∧ t.bit Reg.QUE_EVT 5 = true) ∧
    (queueMay (s.queue q.val) op = true →
      Completes (queueCmdOf op req q) u fun t =>
        (∀ j, j ≠ q.val → t.queue j = s.queue j) ∧ (t.queue q.val).cfg = (s.queue q.val).cfg ∧ (t.queue q.val).base = (s.queue q.val).base ∧
        (t.queue q.val).state = (match op with | 1 => .enabled | 2 => .draining | 3 => .disabled | _ => QState.enabled) ∧
        (op = 1 ∨ op = 3 → (t.queue q.val).prod = 0 ∧ (t.queue q.val).cons = 0) ∧
        (op = 2 ∨ op = 4 → (t.queue q.val).prod = (s.queue q.val).prod ∧ (t.queue q.val).cons = (s.queue q.val).cons) ∧
        (op = 2 → (t.queue q.val).staged = [] ∧
          (t.queue q.val).drops = (s.queue q.val).drops + BitVec.ofNat 36 (s.queue q.val).staged.length ∧
          ((s.queue q.val).staged ≠ [] → t.bit Reg.QUE_EVT 8 = true)))) ∧
  (∀ (s : State) (q : Fin 2048), s.queWorks = true → (s.queue q.val).state = .draining →
    Completes (.queueDrainDone q) s fun t => (t.queue q.val).state = .disabled ∧ ∀ j, j ≠ q.val → t.queue j = s.queue j) ∧
  (∀ (s : State) (req : Requester) (q : Fin 2048) (v : Word), s.openFor (regAcc req (0x200000 + 4 * q.val) v) .que = true →
    Completes (.doorbell req q v) s fun t =>
      (∀ j, j ≠ q.val → t.queue j = s.queue j) ∧
      ((s.queue q.val).state ≠ .enabled → t.queue q.val = s.queue q.val ∧ t.bit Reg.QUE_EVT 1 = true) ∧
      ((s.queue q.val).state = .enabled → (s.queue q.val).hostProduces = true →
        ((BitVec.ofNat 17 v.toNat - (s.queue q.val).cons).toNat ≤ (s.queue q.val).depth →
          (t.queue q.val).prod = BitVec.ofNat 17 v.toNat ∧ (t.queue q.val).cons = (s.queue q.val).cons ∧ (t.queue q.val).state = .enabled) ∧
        ((s.queue q.val).depth < (BitVec.ofNat 17 v.toNat - (s.queue q.val).cons).toNat →
          (t.queue q.val).state = .fault ∧ (t.queue q.val).faultCause = 2 ∧ t.bit Reg.QUE_EVT 2 = true)) ∧
      ((s.queue q.val).state = .enabled → (s.queue q.val).hostProduces = false →
        ((BitVec.ofNat 17 v.toNat - (s.queue q.val).cons).toNat ≤ (s.queue q.val).occ →
          (t.queue q.val).cons = BitVec.ofNat 17 v.toNat ∧ (t.queue q.val).prod = (s.queue q.val).prod) ∧
        ((s.queue q.val).occ < (BitVec.ofNat 17 v.toNat - (s.queue q.val).cons).toNat →
          (t.queue q.val).state = .fault ∧ (t.queue q.val).faultCause = 2)))

/-- QUEUE_ENTRY_WRITE and COMMAND_FETCH complete (R187, R220, R221, R223): the first staged entry leaves as its body and then
its dword 0 with the phase bit, at BASE + 64 × (k mod depth), with two grants, and the producer count goes on by one; a fetch takes the lowest
free tag and reads whole entries. -/
def Sys2Proof.Claims.EntriesMove : Prop :=
  (∀ (s : State) (q : Fin 2048) (ecc : EntryEcc) (e : QEntry) (rest : List QEntry), s.queWorks = true → (s.queue q.val).state = .enabled →
    (s.queue q.val).staged = e :: rest → ecc ≠ .descUE → s.canSend = true → (s.queue q.val).translated = false →
    (s.grantsAt arbHostTx e.activity 2).isSome = true →
    Completes (.queueEntryWrite q ecc) s fun t =>
      (t.queue q.val).prod = (s.queue q.val).prod + 1 ∧
      (∃ more, (t.queue q.val).staged = rest ++ more ∧ ((∀ c : Fin 4, (s.hs (.tqQue c)).readable = []) → more = [])) ∧
      ∃ l m, (ecc = .clean → m = []) ∧ t.sent = l ++
        Output.memWrite ((s.queue q.val).addr (s.queue q.val).prod.toNat)
          [dword0 ((s.queue q.val).phase (s.queue q.val).prod.toNat) e.typ e.words.length] false false ::
        Output.memWrite ((s.queue q.val).addr (s.queue q.val).prod.toNat + 4) (bodyOf e.words) s.relaxedOn
          (decide (ecc = .entryUE) || e.poisoned) :: (m ++ s.sent)) ∧
  (∀ (s : State) (q : Fin 2048) (k : Nat), s.queWorks = true → (s.queue q.val).state = .enabled → (s.queue q.val).typ = 3 →
    (s.queue q.val).fetching = false → (s.queue q.val).needDoorbell = false → (s.queue q.val).fetched = [] →
    (s.queue q.val).prod ≠ (s.queue q.val).fetchPos → (s.queue q.val).translated = false → s.canSend = true → s.freeTag = some k →
    s.enginesBusy = false → (s.grantAt arbHostTx 2).isSome = true →
    Completes (.commandFetch q false) s fun t =>
      (t.queue q.val).fetching = true ∧ s.fetchCount (s.queue q.val) 16 ≤ 16 ∧
      t.txn.tags = s.txn.tags ++ [{ tag := k, who := .cmdQueue q.val (s.fetchCount (s.queue q.val) 16), issuedAt := s.now }] ∧
      t.sent = Output.memRead k ((s.queue q.val).addr (s.queue q.val).fetchPos.toNat) (16 * s.fetchCount (s.queue q.val) 16) :: s.sent) ∧
  (∀ (s : State) (q : Fin 2048), s.queWorks = true → (s.queue q.val).state = .enabled → (s.queue q.val).typ = 3 →
    (s.queue q.val).fetching = false → (s.queue q.val).needDoorbell = false → (s.queue q.val).fetched = [] →
    (s.queue q.val).prod ≠ (s.queue q.val).fetchPos → s.enginesBusy = false →
    Completes (.commandFetch q true) s fun t => (t.queue q.val).state = .fault ∧ (t.queue q.val).faultCause = 11)

/-- CMD_MARK, CMD_QUIESCE, CMD_LOCK, CMD_LOCK_GRANTED, CMD_UNLOCK and CMD_STALE_OR_UNKNOWN complete (R227): the first entry of
the queue is executed and taken off it; MARK and a granted LOCK write their entry, a LOCK of a held lock stalls the queue, an
UNLOCK frees a lock that the channel owns; a stale or unknown entry is skipped and raises its event. -/
def Obligations.QueueCommandsRun : Prop :=
  (∀ (s : State) (q : Fin 2048) (slot op : Nat) (ws : List Word), s.cmdHead q.val = .cmd slot op ws → (s.chn slot).recq ≠ q.val →
    (op = 1 → Completes (.cmdMark q) s fun t =>
      (t.queue q.val).fetched = (s.queue q.val).fetched.drop 1 ∧
      (takesEntry s (s.chn slot).recq = true →
        (t.queue (s.chn slot).recq).staged = (s.queue (s.chn slot).recq).staged ++
          [{ typ := 3, words := [s.handleOf slot, wordAt ws 0, wordAt ws 1, 0], slot := some slot }])) ∧
    (op = 2 → Completes (.cmdQuiesce q) s fun t =>
      (t.queue q.val).fetched = (s.queue q.val).fetched.drop 1 ∧
      (t.chn slot).state = (if (s.chn slot).state = .live then ChState.quiescing else (s.chn slot).state)) ∧
    (op = 3 → (wordAt ws 0).toNat < 64 →
      ((s.lock (wordAt ws 0).toNat).owner = none → (∀ w, w ∈ s.que.lockWait → w.1 ≠ (wordAt ws 0).toNat) →
        Completes (.cmdLock q) s fun t =>
          t.lock (wordAt ws 0).toNat = { owner := some (.chan slot), broken := false } ∧
          (t.queue q.val).fetched = (s.queue q.val).fetched.drop 1) ∧
      ((s.lock (wordAt ws 0).toNat).owner ≠ none →
        Completes (.cmdLock q) s fun t =>
          t.lock (wordAt ws 0).toNat = s.lock (wordAt ws 0).toNat ∧ t.lockStalled q.val = true ∧
          (t.queue q.val).fetched = (s.queue q.val).fetched ∧ SameRegsBut s t (fun _ => false))) ∧
    (op = 4 → Completes (.cmdUnlock q) s fun t =>
      (t.queue q.val).fetched = (s.queue q.val).fetched.drop 1 ∧
      t.lock (wordAt ws 0).toNat =
        (if (s.lock (wordAt ws 0).toNat).owner = some (.chan slot) then { owner := none, broken := false } else s.lock (wordAt ws 0).toNat) ∧
      SameRegsBut s t (fun _ => false))) ∧
  (∀ (s : State) (q : Fin 2048) (n slot : Nat), s.que.lockWait = [(n, slot, q.val)] → s.queWorks = true →
    (s.queue q.val).state = .enabled → (s.lock n).owner = none → (s.chn slot).recq ≠ q.val →
    Completes (.cmdLockGranted q) s fun t =>
      t.lock n = { owner := some (.chan slot), broken := false } ∧ t.que.lockWait = [] ∧
      (takesEntry s (s.chn slot).recq = true →
        (t.queue (s.chn slot).recq).staged = (s.queue (s.chn slot).recq).staged ++
          [{ typ := 5, words := [s.handleOf slot, word n, lockWord (if (s.lock n).broken then 2 else 1) (some (.chan slot))], slot := some slot }])) ∧
  (∀ (s : State) (q : Fin 2048), (s.cmdHead q.val = .stale ∨ s.cmdHead q.val = .unknown) →
    Completes (.cmdStaleOrUnknown q) s fun t =>
      (t.queue q.val).fetched = (s.queue q.val).fetched.drop 1 ∧
      t.bit Reg.QUE_EVT (if s.cmdHead q.val = .stale then 6 else 5) = true ∧ (∀ k, t.chn k = s.chn k))

/-- VECTOR_TIMER_EXPIRY, EVT_MASK_WRITE and EVT_ROUTE_WRITE complete (R231 to R234): the vector's collected signals leave as one
message and it collects anew; a source unmasked while pending signals its vector; a route of 0 is stored for attention sources
only. -/
def Sys2Proof.Claims.EventsReachTheirVectors : Prop :=
  (∀ (s : State) (v : Fin 128) (a : Nat), (s.vec v.val).firstAt = some a → s.isOn .que = true → s.vecTimer v.val ≠ 0 →
    a + s.vecTimer v.val ≤ s.now →
    Completes (.vectorTimerExpiry v) s fun t =>
      t.vec v.val = {} ∧
      (s.msixEn = true → s.vecMasked v.val = false → s.canSend = true →
        ∃ addr d, t.sent = Output.message v.val v.val true addr d :: s.sent) ∧
      (s.msixEn = true → s.vecMasked v.val = true → t.txn.pba.getLsbD v.val = true ∧ t.sent = s.sent)) ∧
  (∀ (s : State) (req : Requester) (k : Fin 32) (v : Word), s.openFor (regAcc req (Reg.EVT_MASK k.val) v) .que = true →
    Completes (.evtMaskWrite req k v) s fun t =>
      t.rd (Reg.EVT_MASK k.val) = v ∧ (∀ n, n < 32 → t.rd (Reg.EVT_PEND n) = s.rd (Reg.EVT_PEND n)) ∧
      (∀ b, b < 18 → s.bit (Reg.EVT_MASK k.val) b = true → v.getLsbD b = false → s.bit (Reg.EVT_PEND k.val) b = true →
        s.fld (Reg.EVT_ROUTE (18 * k.val + b)) 0 7 = 0 → s.msixEn = true → s.vecMasked 0 = false → s.canSend = true →
        ∃ addr d, Output.message 0 0 true addr d ∈ t.sent)) ∧
  (∀ (s : State) (req : Requester) (src : Fin 576) (v : Word), s.openFor (regAcc req (Reg.EVT_ROUTE src.val) v) .que = true →
    v.toNat < 256 →
    Completes (.evtRouteWrite req src v) s fun t =>
      t.fld (Reg.EVT_ROUTE src.val) 0 7 = (if fieldOf v 0 7 = 0 ∧ isAttention src.val = false then 1 else fieldOf v 0 7) ∧
      t.bit (Reg.EVT_ROUTE src.val) 7 = s.bit (Reg.EVT_ROUTE src.val) 7 ∧
      SameRegsBut s t (fun j => decide (j = Reg.EVT_ROUTE src.val)))

/-- LOCK_ACQUIRE, LOCK_RELEASE and LOCK_FORCE complete (R236, R237, R244): a free lock is the reader's from then on, with its
broken mark answered and cleared, a held one answers BUSY and stays; the owner's release frees it, another's is logged and
changes nothing; the host, and the monitor at level 2, free it by force and mark it broken. -/
def Sys2Proof.Claims.HardwareLocks : Prop :=
  ∀ (s : State) (req : Requester) (n : Fin 64),
    (s.openFor (readAcc req (lckOfs n)) .pln = true →
      Completes (.lockAcquire req n) s fun t =>
        ((s.lock n.val).owner = none →
          t.lock n.val = { owner := some (.req req), broken := false } ∧
          Answered s t (readAcc req (lckOfs n)) (lockWord (if (s.lock n.val).broken then 2 else 1) (some (.req req)))) ∧
        ((s.lock n.val).owner ≠ none →
          t.lock n.val = s.lock n.val ∧ Answered s t (readAcc req (lckOfs n)) (lockWord 0 (s.lock n.val).owner)) ∧
        ∀ j, j ≠ n.val → t.lock j = s.lock j) ∧
    (s.openFor (regAcc req (lckOfs n) 1) .pln = true →
      Completes (.lockRelease req n) s fun t =>
        ((s.lock n.val).owner = some (.req req) →
          t.lock n.val = { owner := none, broken := false } ∧ SameRegsBut s t (fun _ => false)) ∧
        ((s.lock n.val).owner ≠ some (.req req) →
          t.lock n.val = s.lock n.val ∧ t.bit Reg.LCK_STS 0 = true ∧
          (s.bit Reg.LCK_STS 0 = false → t.rd Reg.LCK_FOREIGN = word (n.val + req.code * 64)) ∧
          (s.bit Reg.LCK_STS 0 = true → t.bit Reg.LCK_STS 1 = true ∧ t.rd Reg.LCK_FOREIGN = s.rd Reg.LCK_FOREIGN))) ∧
    (s.openFor (regAcc req (lckOfs n) 2) .pln = true →
      Completes (.lockForce req n) s fun t =>
        t.lock n.val =
          (if req = .host ∨ (req = .monitor ∧ 2 ≤ s.fld Reg.MON_CTL 0 2) then { owner := none, broken := true } else s.lock n.val) ∧
        SameRegsBut s t (fun _ => false))

/-! ### The cadence, the arbiters and the energy ledger (09_budgets_and_energy.md) -/

namespace Sys2Proof.Claims

/-- A lone request that an arbiter may grant now: marked for it, below its maximum (R249, R252). -/
def mayWin (s : State) (n a : Nat) : Bool := actMarked (arbRow n) a && decide ((s.arb n).granted a < s.maxOf (arbRow n) a)

/-- Energy of `hp` units of 0.5 pJ has been booked to accumulator `k` (R262): whole microjoules carried, modulo 2^36. -/
abbrev Booked (s t : State) (k hp : Nat) : Prop :=
  Tab.get 0 t.nrg.acc k = Tab.get 0 s.nrg.acc k + BitVec.ofNat 36 ((Tab.get 0 s.nrg.rem k + hp) / 2000000) ∧
  Tab.get 0 t.nrg.rem k = (Tab.get 0 s.nrg.rem k + hp) % 2000000

end Sys2Proof.Claims

/-- R253: a request is owed where its activity has had fewer grants than its minimum in this cadence; of the eligible requests
the winner is owed where any is; within its tier none is older, and among equally old ones none has a lower activity. -/
def Obligations.OwedThenOldestWins : Prop :=
  ∀ (s : State) (n : Nat) (reqs : List (Nat × Nat)) (k : Nat), (s.arbitrate n reqs false).1 = some k →
    ∃ c, c ∈ s.arbCands n reqs ∧ c.pos = k ∧ ∀ d, d ∈ s.arbCands n reqs →
      (d.owed = true ↔ (s.arb n).granted d.act < s.minOf (arbRow n) d.act) ∧
      (d.owed = true → c.owed = true) ∧ (d.owed = c.owed → d.age ≤ c.age ∧ (d.age = c.age → c.act ≤ d.act))

/-- CADENCE_BOUNDARY, ARBITER_GRANT, METER_REPORT and NRG_CEIL_DRV_WRITE complete (R245, R247, R252, R256, R259, R262 to R264): a
cadence that is due ends, is counted and measured, its power is shown and every arbiter, where nothing waits for it, counts anew;
a grant counts for its activity, none goes beyond the maximum, and a line-critical request revokes a bulk or background transfer,
on host transmit until the link layer has its TLP; a report of an ON island's meter is booked to the island and the total; the
driver's ceiling is stored and the ceiling in force follows a change of it. -/
def Obligations.BudgetsAndEnergyAreBooked : Prop :=
  (∀ (s : State) (clamp : Nat), s.stopped .pln = false → s.boot.inPor = false → s.busWait = [] → s.nrg.deferred = [] → calm s = true →
    s.ring.txWait = [] → s.ring.serving = none → s.ring.fetch = none → s.cadenceEnds = some clamp →
    Completes .cadenceBoundary s fun t =>
      t.rd Reg.TMP_CAD_CNT = s.rd Reg.TMP_CAD_CNT + 1 ∧ t.rd Reg.TMP_CAD_LEN = word (min 2047 ((s.now - s.nrg.cadStartAt) / 400)) ∧
      t.rd Reg.NRG_POWER = word (s.cadPower ((s.now - s.nrg.cadStartAt) / 400)) ∧ t.nrg.cadStartAt = s.now ∧
      t.bit Reg.TMP_CAD_STS 1 = decide (clamp = 1) ∧ t.bit Reg.TMP_CAD_STS 2 = decide (clamp = 2) ∧
      ∀ n, n < 12 → (t.arb n).grants = [] ∧ (t.arb n).lastGrants = (s.arb n).grants) ∧
  (∀ s : State, s.cadenceEnds = none → Completes .cadenceBoundary s fun t => t = s) ∧
  (∀ (s : State) (arb : ArbiterId) (r : ArbRequest),
    Completes (.arbiterGrant arb [r] .free) s fun t =>
      (∀ a, (t.arb arb.idx).granted a =
        (s.arb arb.idx).granted a + (if a = r.activity.val ∧ mayWin s arb.idx a = true then 1 else 0)) ∧
      SameRegsBut s t (fun _ => false)) ∧
  (∀ (s : State) (arb : ArbiterId) (r : ArbRequest) (b : Nat) (hold : ArbHold),
    (hold = .transfer ∧ (arbRow arb.idx = 0 ∨ arbRow arb.idx = 1) ∨ hold = .handed ∧ arbRow arb.idx = 0) →
    actClass r.activity.val = .lineCritical → mayWin s arb.idx r.activity.val = true → (s.arb arb.idx).parked = some b → b < 16 →
    (actClass b = .bulk ∨ actClass b = .background) → Tab.get 0 (s.arb arb.idx).revoked b < 3 →
    Completes (.arbiterGrant arb [r] hold) s fun t =>
      (t.arb arb.idx).granted r.activity.val = (s.arb arb.idx).granted r.activity.val + 1 ∧
      (t.arb arb.idx).granted b = (s.arb arb.idx).granted b - 1 ∧
      Tab.get 0 (t.arb arb.idx).revoked b = Tab.get 0 (s.arb arb.idx).revoked b + 1 ∧
      t.rd (Reg.TMP_PREEMPT b) = satAdd (s.rd (Reg.TMP_PREEMPT b)) 1 ∧ (t.arb arb.idx).parked = some r.activity.val) ∧
  (∀ (s : State) (i : Island) (nj : Nat), s.stopped .pln = false → s.boot.inPor = false → i ≠ .pln → s.isOn i = true →
    (s.busGrant 12).isSome = true → 0 < nj →
    Completes (.meterReport i nj) s fun t =>
      Booked s t i.idx (2000 * nj) ∧ Booked s t 64 (2000 * nj) ∧ t.nrg.cadHp = s.nrg.cadHp + 2000 * nj ∧
      (∀ k, k ≠ i.idx → k ≠ 64 → Tab.get 0 t.nrg.acc k = Tab.get 0 s.nrg.acc k) ∧ SameRegsBut s t (fun _ => false)) ∧
  (∀ (s : State) (req : Requester) (v : Word), s.openFor (regAcc req Reg.NRG_CEIL_DRV v) .pln = true → v.toNat < 2 ^ 14 →
    s.bit Reg.NRG_CTL 0 = false → s.nrg.deferred = [] →
    Completes (.nrgCeilDrvWrite req v) s fun t =>
      t.rd Reg.NRG_CEIL_DRV = v ∧ (s.rd Reg.NRG_CEIL_DRV ≠ v → t.rd Reg.NRG_CEIL = word t.ceiling.1) ∧
      (v ≠ 0 → t.ceiling.1 ≤ v.toNat))

/-! ### Encoders and position (10_motion.md) -/

namespace Sys2Proof.Claims

/-- A count reached virtual encoder `v` in the source's direction `up` at `st` (R287, R289, R291, R292): the accumulator moves
the position; the first count, a count after STILL and a reversal restart the estimate at the count; any other corrects it
by the gains that the time since the last correction, or GAINSET, selects. A position beyond 48+6 bits wraps, and the estimate
with it (the model's choice, log entry 132). -/
def Counted (s t : State) (v : Nat) (up : Bool) (st : Nat) : Prop :=
  let e := sprueOf s.image v
  let x := s.ve v
  let y := t.ve v
  let forward := up != e.invert
  let n : Int := if forward then 64 * e.num else -(64 * e.num)
  let fresh : Prop := x.started = false ∨ x.still = true
  let guess := x.est.rawAt st
  let speed := if guess.2 = 0 then x.est.s else guess.2
  let against : Prop := if forward then speed < 0 else 0 < speed
  let moved : Int := x.pos + (x.rem + n) / e.den
  let wrap : Int := (toWord54 moved).toInt - moved
  let r : Rat := moved - guess.1
  let since : Nat := max 1 (st - x.est.corrSt)
  let set := s.fld (Reg.VE_CTL v) 0 3
  let g := gains (if 1 ≤ set ∧ set ≤ 4 then set else gainRow since)
  y.pos = moved + wrap ∧ y.rem = (x.rem + n) % e.den ∧ y.still = false ∧ y.started = true ∧
  y.est.atSt = st ∧ y.est.corrSt = st ∧
  (fresh → y.est.p = y.pos ∧ y.est.s = 0 ∧ y.est.a = 0 ∧ y.reversals = x.reversals) ∧
  (¬fresh → against → y.est.p = y.pos ∧ y.est.s = 0 ∧ y.est.a = 0 ∧ y.reversals = x.reversals + 1) ∧
  (¬fresh → ¬against → y.est.p = guess.1 + g.1 * r + wrap ∧ y.est.s = guess.2 + g.2.1 * r / since ∧ y.reversals = x.reversals ∧
    y.est.a = x.est.a + 2 * g.2.2 * r / (since * since))

/-- Every unfiltered virtual encoder fed from source `kind`, `index` took the count, and no other moved. -/
def AllCounted (s t : State) (kind index : Nat) (up : Bool) (st : Nat) : Prop :=
  ∀ v, v < 32 →
    ((sprueOf s.image v).kind = kind → (sprueOf s.image v).index = index → (sprueOf s.image v).filt = 0 → Counted s t v up st) ∧
    (((sprueOf s.image v).kind ≠ kind ∨ (sprueOf s.image v).index ≠ index) → t.ve v = s.ve v)

/-- The other input of the pair A and B. -/
def across : EncInput → EncInput
  | .a => .b
  | _ => .a

/-- A transition at `st` falls within Q of the last transition of the other input (R278). -/
abbrev tooNear (s : State) (e : Nat) (i : EncInput) (st : Nat) : Prop :=
  (((s.enc e).input (across i)).lastSt.any fun o => decide (max o st - min o st ≤ s.encQ e)) = true

end Sys2Proof.Claims

/-- ENC_INPUT_QUALIFIED completes for A and B (R275 to R278, R280, R286): a level that the input has already only ends an open
or shorted condition; the first state produces no count and raises ENC_QUALIFIED where the counter starts; a transition within
Q of the other input's is illegal, counted and no count; any other steps the counter, up where A leads B, carries the time at
which the band was left, and reaches the virtual encoders. -/
def Sys2Proof.Claims.EncodersCount : Prop :=
  ∀ (s : State) (e : Fin 8) (i : EncInput) (high : Bool) (age : Nat), i ≠ .z → s.receives e.val i = true → s.encQ e.val ≤ age →
    age ≤ s.nowSt → ((s.enc e.val).input i).probing = none →
    (((s.enc e.val).input i).state = some high →
      Completes (.encInputQualified e i high age) s fun t =>
        t.enc e.val = (s.enc e.val).setInput i { (s.enc e.val).input i with band := 0 } ∧ t.mot.ves = s.mot.ves ∧
        ((t.enc e.val).input i).cond = (if ((s.enc e.val).input i).cm then 3 else 0) ∧ SameRegsBut s t (fun _ => false)) ∧
    (((s.enc e.val).input i).state = none →
      Completes (.encInputQualified e i high age) s fun t =>
        (t.enc e.val).count = (s.enc e.val).count ∧ (t.enc e.val).lastT = (s.enc e.val).lastT ∧ t.mot.ves = s.mot.ves ∧
        ((t.enc e.val).input i).state = some high ∧
        (((s.enc e.val).input (across i)).state ≠ none → t.bit (Reg.ENC_EVT e.val) 0 = true) ∧
        SameRegsBut s t (fun k => eventReg k || decide (k = Reg.ENC_EVT e.val))) ∧
    (∀ o, ((s.enc e.val).input i).state = some (!high) → ((s.enc e.val).input (across i)).state = some o →
      (tooNear s e.val i (s.nowSt - age) →
        Completes (.encInputQualified e i high age) s fun t =>
          (t.enc e.val).count = (s.enc e.val).count ∧ t.mot.ves = s.mot.ves ∧
          t.rd (Reg.ENC_ILL_CNT e.val) = satAdd (s.rd (Reg.ENC_ILL_CNT e.val)) 1 ∧
          SameRegsBut s t (fun k => eventReg k || decide (k = Reg.ENC_EVT e.val) || decide (k = Reg.ENC_ILL_CNT e.val))) ∧
      (¬tooNear s e.val i (s.nowSt - age) →
        Completes (.encInputQualified e i high age) s fun t =>
          (t.enc e.val).count = (if (i = .a ↔ high ≠ o) then (s.enc e.val).count + 1 else (s.enc e.val).count - 1) ∧
          (t.enc e.val).lastT = s.devAtSt (s.nowSt - age) ∧ ((t.enc e.val).input i).state = some high ∧
          AllCounted s t 1 e.val (decide (i = .a ↔ high ≠ o)) (s.nowSt - age) ∧
          ((s.encFn e.val).testBit 4 = false → (t.enc e.val).contrary = (s.enc e.val).contrary) ∧
          ((s.encFn e.val).testBit 4 = true → (t.enc e.val).contrary =
            (if decide (i = .a ↔ high ≠ o) = (s.encFn e.val).testBit 5 then (s.enc e.val).contrary + 1 else (s.enc e.val).contrary - 1)) ∧
          SameRegsBut s t (fun k => eventReg k || decide (k = Reg.ENC_EVT e.val))))

/-- ENC_BAND_TIMEOUT, ENC_PROBE_DONE, ENC_SHORTCM, ENC_SUPPLYFLT, ENC_SUPPLY_FAULT_END and ENC_CLRCNT complete (R280, R281, R283,
R300): an RS422 pair in the band is probed without a change of state or count, an HTL input is OPEN; the probe tells OPEN from
SHORT_LL; a common mode outside its window is SHORT_CM, whatever the band shows; a condition raises its event on entry; the supply
fault clears PEN; CLRCNT sets the counter to zero; an index, a rising edge of Z that is not reversed, raises ENC_INDEX and captures
or presets as VE_REF says. -/
def Sys2Proof.Claims.EncoderFaultsAndIndex : Prop :=
  (∀ (s : State) (e : Fin 8) (i : EncInput) (cm : Bool), s.receives e.val i = true →
    (s.encFn e.val % 4 = 1 →
      Completes (.encBandTimeout e i cm) s fun t =>
        t.enc e.val = (s.enc e.val).setInput i { (s.enc e.val).input i with probing := some cm } ∧ SameRegsBut s t (fun _ => false)) ∧
    (s.encFn e.val % 4 = 2 →
      Completes (.encBandTimeout e i cm) s fun t =>
        t.enc e.val = (s.enc e.val).setInput i { (s.enc e.val).input i with band := 1, probing := none } ∧
        (((s.enc e.val).input i).band ≠ 1 → t.bit (Reg.ENC_EVT e.val) 1 = true) ∧
        SameRegsBut s t (fun k => eventReg k || decide (k = Reg.ENC_EVT e.val)))) ∧
  (∀ (s : State) (e : Fin 8) (i : EncInput) (above inside : Bool), ((s.enc e.val).input i).probing = some inside →
    Completes (.encProbeDone e i above) s fun t =>
      t.enc e.val = (s.enc e.val).setInput i
        { (s.enc e.val).input i with band := if above then 1 else if inside then 2 else 0, probing := none } ∧
      (above = true → ((s.enc e.val).input i).band ≠ 1 → t.bit (Reg.ENC_EVT e.val) 1 = true) ∧
      (above = false → inside = true → ((s.enc e.val).input i).band ≠ 2 → t.bit (Reg.ENC_EVT e.val) 2 = true) ∧
      (above = false → inside = false → SameRegsBut s t (fun _ => false)) ∧
      SameRegsBut s t (fun k => eventReg k || decide (k = Reg.ENC_EVT e.val))) ∧
  (∀ (s : State) (e : Fin 8) (i : EncInput), s.receives e.val i = true → s.encFn e.val % 4 = 1 →
    Completes (.encShortcm e i true) s (fun t =>
      ((t.enc e.val).input i).cond = 3 ∧ (((s.enc e.val).input i).cm = false → t.bit (Reg.ENC_EVT e.val) 3 = true) ∧
      ((t.enc e.val).input i).state = ((s.enc e.val).input i).state ∧
      ((t.enc e.val).input i).probing = ((s.enc e.val).input i).probing ∧
      SameRegsBut s t (fun k => eventReg k || decide (k = Reg.ENC_EVT e.val))) ∧
    Completes (.encShortcm e i false) s fun t =>
      t.enc e.val = (s.enc e.val).setInput i { (s.enc e.val).input i with cm := false } ∧ SameRegsBut s t (fun _ => false)) ∧
  (∀ (s : State) (e : Fin 8), s.motWorks = true →
    Completes (.encSupplyflt e) s (fun t =>
      (t.enc e.val).flt = true ∧ t.bit (Reg.ENC_CTL e.val) 1 = false ∧ t.encPenOn e.val = false ∧ t.bit (Reg.ENC_EVT e.val) 7 = true ∧
      t.bit (Reg.ENC_CTL e.val) 0 = s.bit (Reg.ENC_CTL e.val) 0 ∧
      SameRegsBut s t (fun k => eventReg k || decide (k = Reg.ENC_EVT e.val) || decide (k = Reg.ENC_CTL e.val)))) ∧
  (∀ (s : State) (e : Fin 8), s.motWorks = true →
    Completes (.encSupplyFaultEnd e) s fun t => t.enc e.val = { s.enc e.val with flt := false } ∧ SameRegsBut s t (fun _ => false)) ∧
  (∀ (s : State) (req : Requester) (e : Fin 8), (s.rd (Reg.ENC_CTL e.val)).toNat < 8 →
    s.openFor (regAcc req (Reg.ENC_CTL e.val) (withField (s.rd (Reg.ENC_CTL e.val)) 3 1 1)) .mot = true →
    Completes (.encClrcnt req e) s fun t =>
      (t.enc e.val).count = 0 ∧ (∀ j, j ≠ e.val → t.enc j = s.enc j) ∧ t.mot.ves = s.mot.ves ∧
      (t.bit (Reg.ENC_CTL e.val) 0 = s.bit (Reg.ENC_CTL e.val) 0 ∧ t.bit (Reg.ENC_CTL e.val) 2 = s.bit (Reg.ENC_CTL e.val) 2) ∧
      SameRegsBut s t (fun k => decide (k = Reg.ENC_CTL e.val))) ∧
  (∀ (s : State) (e : Fin 8) (high : Bool) (age : Nat), s.receives e.val .z = true → s.encQ e.val ≤ age → age ≤ s.nowSt →
    (s.enc e.val).z.probing = none → (s.enc e.val).z.state = some (!high) → s.encCounting e.val = true →
    (s.enc e.val).zSteps = none → (s.enc e.val).zReversed = false →
    Completes (.encInputQualified e .z high age) s fun t =>
      (high ≠ s.bit (Reg.ENC_CTL e.val) 2 →
        t.bit (Reg.ENC_EVT e.val) 8 = true ∧
        ∀ v, v < 32 → (sprueOf s.image v).kind = 1 → (sprueOf s.image v).index = e.val → s.bit (Reg.VE_REF v) 2 = false →
          (s.fld (Reg.VE_REF v) 0 2 = 1 →
            (t.ve v).refP = toWord54 (s.vePos v (s.nowSt - age)) ∧ (t.ve v).pos = (s.ve v).pos ∧
            (t.ve v).refT = s.devAtSt (s.nowSt - age)) ∧
          ((s.fld (Reg.VE_REF v) 0 2 = 3 ∨ (s.fld (Reg.VE_REF v) 0 2 = 2 ∧ s.bit (Reg.VE_REF v) 7 = true)) → s.veBound v = false →
            toWord54 (t.vePos v (s.nowSt - age)) = (s.ve v).preset ∧ (t.ve v).refDone = true ∧ (t.ve v).est.s = (s.ve v).est.s ∧
            (s.fld (Reg.VE_REF v) 0 2 = 2 → t.bit (Reg.VE_REF v) 7 = false))) ∧
      (high = s.bit (Reg.ENC_CTL e.val) 2 → SameRegsBut s t (fun _ => false)) ∧
      (t.enc e.val).count = (s.enc e.val).count)

/-- LEV_STATE_CHANGE and DIRECT_LEV_CHANGE complete (R284, R296, R330): a line-event input takes its new state; a change that
EDGE selects raises its event and captures device time and position, another raises nothing; the level before the filter
drives the DIRECT ports that follow it, and no other. -/
def Sys2Proof.Claims.LineEvents : Prop :=
  (∀ (s : State) (n : Fin 16) (high : Bool), s.motWorks = true → (pinOf s.image 2 n.val).1 = 1 →
    ((s.lev n.val).state = none →
      Completes (.levStateChange n high) s fun t => (t.lev n.val).state = some high ∧ t.mot.ves = s.mot.ves ∧ SameRegsBut s t (fun _ => false)) ∧
    ((s.lev n.val).state = some (!high) →
      Completes (.levStateChange n high) s fun t =>
        (t.lev n.val).state = some high ∧ (∀ j, j ≠ n.val → t.lev j = s.lev j) ∧
        ((s.fld (Reg.LEV_CTL n.val) 0 2).testBit (if high then 0 else 1) = true →
          t.bit (Reg.ENC_EVT (n.val / 2)) (10 + n.val % 2) = true ∧ (t.lev n.val).capT = s.devTime ∧
          ((sprueOf s.image (s.fld (Reg.LEV_CTL n.val) 2 5)).kind ≠ 3 →
            (t.lev n.val).capP = toWord54 (s.vePos (s.fld (Reg.LEV_CTL n.val) 2 5) s.nowSt))) ∧
        ((s.fld (Reg.LEV_CTL n.val) 0 2).testBit (if high then 0 else 1) = false →
          (t.lev n.val).capT = (s.lev n.val).capT ∧ (t.lev n.val).capP = (s.lev n.val).capP ∧ SameRegsBut s t (fun _ => false) ∧
          (high = true → AllCounted s t 3 n.val true s.nowSt)))) ∧
  (∀ (s : State) (n : Fin 16) (high : Bool),
    Completes (.directLevChange n high) s fun t =>
      (t.lev n.val).raw = high ∧ (t.lev n.val).state = (s.lev n.val).state ∧ SameRegsBut s t (fun _ => false) ∧
      ∀ p, p < 32 →
        (pinOf s.image 0 p = (2, n.val) → s.drives p = true →
          (t.port p).trg = high ∧ (t.port p).stb = high ∧ (t.port p).drive = if high then .active else .idle) ∧
        (pinOf s.image 0 p ≠ (2, n.val) → t.port p = s.port p))

/-- SE_STEP, SPRUE_FILTER_RELEASE, VE_STILL_TIMEOUT, VE_RESYNC and ESTIMATE_SEND complete (R285, R287 to R292, R295, R300): a
synthetic encoder that is due counts by one at its exact time; a count that the filter has held for FILT ticks reaches its
virtual encoder with its own time stamp; standstill and RESYNC make speed and acceleration zero where the prediction stands;
an estimate is written to every quad that the virtual encoder feeds. -/
def Obligations.PositionsFollowTheirSources : Prop :=
  (∀ (s : State) (n : Fin 4) (d : Nat), s.motWorks = true → s.bit (Reg.SE_CTL n.val) 0 = true → (s.se n.val).due = some d → d < s.nowSt + 64 →
    Completes (.seStep n) s fun t =>
      (t.se n.val).count = (if s.bit (Reg.SE_CTL n.val) 1 then (s.se n.val).count - 1 else (s.se n.val).count + 1) ∧
      (t.se n.val).due = (if (s.se n.val).interval = 0 then none else some (d + max 640 (s.se n.val).interval.toNat)) ∧
      AllCounted s t 4 n.val (!s.bit (Reg.SE_CTL n.val) 1) d ∧ SameRegsBut s t (fun _ => false)) ∧
  (∀ (s : State) (v : Fin 32) (h : HeldCount) (rest : List HeldCount), s.motWorks = true → (s.ve v.val).held = h :: rest →
    h.atSt + 64 * (sprueOf s.image v.val).filt ≤ s.nowSt →
    Completes (.sprueFilterRelease v) s fun t =>
      (t.ve v.val).held = rest ∧ Counted s t v.val h.up h.st ∧ (∀ j, j ≠ v.val → t.ve j = s.ve j) ∧ SameRegsBut s t (fun _ => false)) ∧
  (∀ (s : State) (v : Fin 32), s.motWorks = true → (s.ve v.val).still = false →
    (s.ve v.val).lastSt.getD (64 * s.veStart v.val) + 25600000 * max 1 (s.fld (Reg.VE_STILL v.val) 0 18) ≤ s.nowSt → (sprueOf s.image v.val).kind ∈ [1, 3, 4] →
    Completes (.veStillTimeout v) s fun t =>
      (t.ve v.val).still = true ∧ (t.ve v.val).est.s = 0 ∧ (t.ve v.val).est.a = 0 ∧ (t.ve v.val).pos = (s.ve v.val).pos ∧
      t.vePos v.val s.nowSt = s.vePos v.val s.nowSt ∧ SameRegsBut s t (fun _ => false)) ∧
  (∀ (s : State) (req : Requester) (v : Fin 32), (s.rd (Reg.VE_CTL v.val)).toNat < 8 →
    s.openFor (regAcc req (Reg.VE_CTL v.val) (withField (s.rd (Reg.VE_CTL v.val)) 3 1 1)) .mot = true →
    Completes (.veResync req v) s fun t =>
      (t.ve v.val).est.s = 0 ∧ (t.ve v.val).est.a = 0 ∧ (t.ve v.val).pos = (s.ve v.val).pos ∧ (t.ve v.val).still = (s.ve v.val).still ∧
      SameRegsBut s t (fun _ => false)) ∧
  (∀ (s : State) (v : Fin 32), s.motWorks = true →
    Completes (.estimateSend v) s fun t =>
      (∀ q : Fin 4, q.val ∈ s.quadsOf v.val → s.isOn (Island.ofQuad q.val) = true → (s.hs (.motTq q)).waiting = [] →
        s.hsRoom (.motTq q) = true →
        (t.hs (.motTq q)).inFlight =
          (s.hs (.motTq q)).inFlight ++ [.estimate v.val (s.veEst v.val)]) ∧
      (∀ q : Fin 4, q.val ∉ s.quadsOf v.val → t.hs (.motTq q) = s.hs (.motTq q)) ∧ t.mot = s.mot ∧ SameRegsBut s t (fun _ => false))

/-- SLIP_DETECTED and SLIP_CLEARED complete (R298, R299): SLIPPING sets and ENC_SLIP is raised in the slot of encoder k once the two
speeds have differed by more than the threshold for HOLD ms, and clears once they have not for as long. -/
def Sys2Proof.Claims.SlipComparators : Prop :=
  ∀ (s : State) (k : Fin 8), s.motWorks = true →
    (s.slips k.val = true → (s.slipNow k.val).1 = true →
      (s.slipNow k.val).2 + 400000 * max 1 (s.fld (Reg.SLIP_THR k.val) 10 8) ≤ s.now → s.mot.slipping.getLsbD k.val = false →
      Completes (.slipDetected k) s fun t =>
        t.mot.slipping = s.mot.slipping ||| BitVec.ofNat 8 (2 ^ k.val) ∧ t.bit (Reg.ENC_EVT k.val) 9 = true ∧ t.mot.ves = s.mot.ves ∧
        SameRegsBut s t (fun j => eventReg j || decide (j = Reg.ENC_EVT k.val))) ∧
    (s.slips k.val = false → (s.slipNow k.val).1 = false →
      (s.slipNow k.val).2 + 400000 * max 1 (s.fld (Reg.SLIP_THR k.val) 10 8) ≤ s.now →
      Completes (.slipCleared k) s fun t => t.mot.slipping.getLsbD k.val = false ∧ t.mot.ves = s.mot.ves ∧ SameRegsBut s t (fun _ => false))

/-! ### Triggers, strobes and head ports (11_triggers_and_heads.md) -/

namespace Sys2Proof.Claims

abbrev hpCfg (p : Nat) : Nat := Reg.HP_CFG (qOf p) (iOf p)
abbrev hpCtl (p : Nat) : Nat := Reg.HP_CTL (qOf p) (iOf p)
abbrev hpEvt (p : Nat) : Nat := Reg.HP_EVT (qOf p) (iOf p)

/-- The registers that an event of port `p` may change: its own, and those through which it and its EVENT entry are reported. -/
def hpReg (p k : Nat) : Bool :=
  eventReg k || decide (k = hpEvt p) || [Reg.QUE_EVT, Reg.HST_LL_DROP, Reg.HST_NOBM_DROP].contains k

/-- The next target `x` of port `p`, by estimate `e`, has fire time `tf` and crossing time `tc` (R303, R307). -/
abbrev FireDue (s : State) (p slot : Nat) (x : Int) (e : Est) (tf tc : Nat) : Prop :=
  s.binder p = some slot ∧ s.portTarget p slot = (x, e) ∧
  e.crossing (s.chn slot).dirDown ((x + (s.port p).offset.toInt : Int) : Rat) s.nowSt = some tc ∧
  tf = tc - (s.rd (Reg.HP_LAT (qOf p) (iOf p))).toNat

/-- The uncertainty bound of an estimate for a slot, now. -/
def uNow (s : State) (slot : Nat) (e : Est) : Nat := e.uAt (s.rd (Reg.VE_AMAX (s.chn slot).ve)).toNat s.nowSt

/-- The exposure used by a channel at its crossing time (R312). -/
def usedAt (s : State) (slot : Nat) (e : Est) (tc : Nat) : Nat :=
  exposureUsed (s.chn slot).expo (s.chn slot).blur (ratAbs (e.rawAt tc).2 * 25600)

/-- The words of the TRIGGER entry of a fire (R225, R313, R316). -/
def fireWords (s : State) (p : Nat) (f : Fire) : List Word :=
  [s.handleOf f.slot, recordFlags p s.maquette f.standstill f.clamped (decide ((sprueOf s.image (s.chn f.slot).ve).kind = 2)), (s.port p).seq] ++
    words54 (toWord54 f.target) ++ words54 (s.devAtSt f.tfSt) ++ [word f.expo, f.lightWord, 0]

/-- A write of a quad's master enable pair completes as the application of `v` (R46, R326). -/
abbrev pairReady (s : State) (req : Requester) (q : Fin 4) (v : Word) : Prop :=
  ((s.pair q.val).any fun o => decide (o.req = req) && decide (s.now ≤ o.openAt + 400000) && decide (o.value = v)) = true

end Sys2Proof.Claims

/-- FIRE_FREEZE completes (R304, R305, R307 to R309, R312, R317): nothing happens before 64 ticks ahead of the fire time, nor while
the prediction is clamped; then the target is decided, the high-water mark stands at it, and the fire is made, with its exposure
by the speed at the crossing and late by at least 16 ticks, or it joins the gap run of the first reason of R308 that is met. -/
def Sys2Proof.Claims.FiresAreJudged : Prop :=
  (∀ (s : State) (p : Fin 32) (rdy : Bool) (slot : Nat) (x : Int) (e : Est) (tf tc : Nat), s.quadRuns p.val = true →
    FireDue s p.val slot x e tf tc →
    (s.nowSt + 4096 < tf → Completes (.fireFreeze p rdy) s fun t => t = s) ∧
    (e.clampedAt s.nowSt = true → e.noSrc = false → Completes (.fireFreeze p rdy) s fun t => t = s) ∧
    (tf ≤ s.nowSt + 4096 → e.clampedAt s.nowSt = false →
      (s.ownsWindow slot = true → s.inWindow slot p.val x = false →
        Completes (.fireFreeze p rdy) s fun t =>
          (t.port p.val).hwm = some x ∧ (t.port p.val).fires = (s.port p.val).fires ∧ (t.port p.val).gap = (s.port p.val).gap ∧
          SameRegsBut s t (fun _ => false)) ∧
      ((s.ownsWindow slot = true → s.inWindow slot p.val x = true) → (s.chn slot).state = .live →
        (s.missReason p.val rdy (uNow s slot e) tf (s.chn slot).tol = none →
          Completes (.fireFreeze p rdy) s fun t =>
            (t.port p.val).hwm = some x ∧ (t.port p.val).gap = none ∧ (t.port p.val).lost = false ∧
            (∃ f, (t.port p.val).fires = (s.port p.val).fires ++ [f] ∧ f.target = x ∧ f.tcSt = tc ∧ f.made = false ∧
              f.tfSt = (if tf < s.nowSt + 1024 then s.nowSt + 1024 else tf) ∧ f.expo = usedAt s slot e tc ∧
              f.clamped = decide (usedAt s slot e tc < (s.chn slot).expo) ∧
              f.trgW = (s.rd (Reg.HP_TRGW (qOf p.val) (iOf p.val))).toNat ∧
              f.lead = (s.rd (Reg.HP_STBLEAD (qOf p.val) (iOf p.val))).toNat) ∧
            (∀ q, q ≠ p.val → t.port q = s.port q)) ∧
        (∀ r, s.missReason p.val rdy (uNow s slot e) tf (s.chn slot).tol = some r →
          ((s.port p.val).gap = none →
            Completes (.fireFreeze p rdy) s fun t =>
              (t.port p.val).hwm = some x ∧ (t.port p.val).fires = (s.port p.val).fires ∧
              (t.port p.val).gap = some { reason := r, count := 1, first := x, last := x, began := s.devTime } ∧
              (r = 1 → t.bit (hpEvt p.val) 7 = true) ∧ SameRegsBut s t (hpReg p.val)) ∧
          (∀ g, (s.port p.val).gap = some g → g.reason = r → g.count + 1 < 4096 →
            Completes (.fireFreeze p rdy) s fun t =>
              (t.port p.val).hwm = some x ∧ (t.port p.val).fires = (s.port p.val).fires ∧
              (t.port p.val).gap = some { g with count := g.count + 1, last := x } ∧ SameRegsBut s t (fun _ => false)))))) ∧
  (∀ (s : State) (p : Nat) (rdy : Bool) (u tf tol : Nat), s.groupHeld = false → (s.port p).lost = false → s.maquette = false →
    ((s.port p).removed = true → s.slotReason p rdy ≠ none → s.missReason p rdy u tf tol = some 2) ∧
    (s.slot p = .empty → s.missReason p rdy u tf tol = some 2) ∧
    ((s.port p).removed = false →
    (s.slot p = .fault → s.missReason p rdy u tf tol = some 7) ∧
    ((s.slot p = .present ∨ s.slot p = .powering ∨ (s.slot p = .powered ∧ s.fld (hpCfg p) 0 2 = 1 ∧ rdy = false)) →
      s.missReason p rdy u tf tol = some 9) ∧
    (s.slot p = .powered → (s.fld (hpCfg p) 0 2 ≠ 1 ∨ rdy = true) →
      (tol ≠ 0 → tol < u → s.missReason p rdy u tf tol = some 4) ∧
      ((tol = 0 ∨ u ≤ tol) → s.tooSoon p tf = true → s.missReason p rdy u tf tol = some 1) ∧
      ((tol = 0 ∨ u ≤ tol) → s.tooSoon p tf = false → s.missReason p rdy u tf tol = none))))

/-- R304: the target that a port decides next lies beyond its high-water mark, in the channel's forward direction. -/
def Obligations.TargetsLieBeyondTheMark : Prop :=
  ∀ (s : State) (p slot : Nat) (h : Int), (s.port p).hwm = some h →
    fwd (s.chn slot).dirDown h < fwd (s.chn slot).dirDown (s.portTarget p slot).1

/-- FIRE_EDGE, TRIGGER_END, STROBE_ON, STROBE_OFF, STB_LIM_CUT, TRG_LIM_CUT, STROBE_SINK_FAULT and NOACK complete (R309, R311, R313 to
R316, R329): the edge of the oldest frozen fire leaves, asserts the trigger of a driven port, writes the record and advances the
frame sequence; trigger and strobe end at their widths or are cut once the limiter's time has passed; the faults raise their events. -/
def Sys2Proof.Claims.FiresLeave : Prop :=
  (∀ (s : State) (p : Fin 32) (f : Fire), s.quadRuns p.val = true → (s.port p.val).frozen = some f → f.tfSt / 64 ≤ s.now →
    Completes (.fireEdge p) s fun t =>
      (t.port p.val).seq = (s.port p.val).seq + 1 ∧ (t.port p.val).lastFireSt = some f.tfSt ∧
      (t.port p.val).lastFireT = s.devAtSt f.tfSt ∧ (t.port p.val).hwm = (s.port p.val).hwm ∧
      (s.drives p.val = true → (t.port p.val).trg = true) ∧
      ((s.hs (.tqQue (Fin.ofNat 4 (qOf p.val)))).waiting = [] → s.hsRoom (.tqQue (Fin.ofNat 4 (qOf p.val))) = true →
        (t.hs (.tqQue (Fin.ofNat 4 (qOf p.val)))).inFlight =
          (s.hs (.tqQue (Fin.ofNat 4 (qOf p.val)))).inFlight ++
            [.record (s.chn f.slot).recq 1 (fireWords s p.val f) f.slot p.val]) ∧
      (∀ q, q ≠ p.val → t.port q = s.port q) ∧ SameRegsBut s t (fun _ => false)) ∧
  (∀ (s : State) (p : Fin 32) (f : Fire) (rest : List Fire), s.quadRuns p.val = true → (s.port p.val).fires = f :: rest →
    (f.trgOn = true → f.tfSt + f.width ≤ s.nowSt + 63 → (∀ g, g ∈ rest → g.trgOn = false) →
      Completes (.triggerEnd p) s fun t =>
        (t.port p.val).trg = false ∧ (t.port p.val).seq = (s.port p.val).seq ∧ SameRegsBut s t (fun _ => false)) ∧
    (f.strobe = true → f.stbBegun = false → f.tcSt ≤ s.nowSt + 63 + 64 * f.lead →
      s.drives p.val = true →
      Completes (.strobeOn p) s fun t =>
        (t.port p.val).stb = true ∧ (t.port p.val).stbCut = false ∧ SameRegsBut s t (fun _ => false)) ∧
    (f.stbOn = true → f.tcSt + 400 * f.expo ≤ s.nowSt + 63 → (∀ g, g ∈ rest → g.stbOn = false) →
      Completes (.strobeOff p) s fun t => (t.port p.val).stb = false ∧ SameRegsBut s t (fun _ => false))) ∧
  (∀ (s : State) (p : Fin 32),
    ((s.port p.val).stb = true → (s.port p.val).stbAt + s.stbLimTicks ≤ s.now →
      Completes (.stbLimCut p) s fun t =>
        (t.port p.val).stb = false ∧ (t.port p.val).stbCut = true ∧ (s.quadRuns p.val = true → t.bit (hpEvt p.val) 8 = true) ∧
        SameRegsBut s t (hpReg p.val)) ∧
    ((s.port p.val).trg = true → (s.port p.val).trgAt + s.trgLimTicks ≤ s.now →
      Completes (.trgLimCut p) s fun t =>
        (t.port p.val).trg = false ∧ (t.port p.val).trgCut = true ∧ (s.quadRuns p.val = true → t.bit (hpEvt p.val) 9 = true) ∧
        SameRegsBut s t (hpReg p.val)) ∧
    (s.now < (s.port p.val).stbAt + s.stbLimTicks → Completes (.stbLimCut p) s fun t => t = s) ∧
    (s.now < (s.port p.val).trgAt + s.trgLimTicks → Completes (.trgLimCut p) s fun t => t = s) ∧
    (∀ present, Completes (.strobeSinkFault p present) s fun t =>
      (t.port p.val).stbFlt = present ∧ (t.port p.val).fires = (s.port p.val).fires ∧
      (present = true → (s.port p.val).stbFlt = false → s.isOn (Island.ofQuad (qOf p.val)) = true → t.bit (hpEvt p.val) 8 = true) ∧
      SameRegsBut s t (hpReg p.val)) ∧
    (∀ l, s.quadRuns p.val = true → (s.port p.val).awaitAck = true → (s.port p.val).lastFireSt = some l →
      l + (s.port p.val).ackLat + 51200 ≤ s.nowSt →
      Completes (.noack p) s fun t =>
        (t.port p.val).noack = true ∧ (t.port p.val).awaitAck = false ∧ ((s.port p.val).noack = false → t.bit (hpEvt p.val) 6 = true) ∧
        ((s.port p.val).noack = true → SameRegsBut s t (fun _ => false))))

/-- GAP_RUN_TIMEOUT and STANDSTILL_FRAME complete (R317, R318): a run open for 100 ms of device time is written as its GAP entry; while
the channel is LIVE and its virtual encoder still, a port whose slot and interval allow it freezes a standstill frame, which leaves
the high-water mark as it is; a frame that they do not allow is not made; the frames fall due every P14 ms from the moment STILL
set, none twice and none before the channel was LIVE. -/
def Obligations.GapsAndStandstillFrames : Prop :=
  (∀ (s : State) (p : Fin 32) (g : GapRun) (slot : Nat), (s.port p.val).gap = some g → s.binder p.val = some slot → s.runWriter p.val = true →
    40000000 ≤ (s.devTime - g.began).toNat →
    Completes (.gapRunTimeout p) s fun t =>
      (t.port p.val).gap = none ∧ (t.port p.val).hwm = (s.port p.val).hwm ∧
      (g.reason ≠ 3 → (s.hs (.tqQue (Fin.ofNat 4 (qOf p.val)))).waiting = [] → s.hsRoom (.tqQue (Fin.ofNat 4 (qOf p.val))) = true →
        (t.hs (.tqQue (Fin.ofNat 4 (qOf p.val)))).inFlight = (s.hs (.tqQue (Fin.ofNat 4 (qOf p.val)))).inFlight ++
          [.record (s.chn slot).recq 2
            ([s.handleOf slot, word (p.val + g.reason * 256), word g.count] ++ words54 (toWord54 g.first) ++ words54 (toWord54 g.last) ++
              words54 g.began) slot p.val]) ∧
      (g.reason ≠ 3 → SameRegsBut s t (fun _ => false))) ∧
  (∀ (s : State) (p slot : Nat),
    (∃ k, s.stillDue p slot = (s.est (qOf p) (s.chn slot).ve).stillSt / 64 + (k + 1) * (400000 * max 1 (s.chn slot).standstill)) ∧
    (s.chn slot).liveAt < s.stillDue p slot ∧ (s.port p).stillAt.getD 0 < s.stillDue p slot) ∧
  (∀ (s : State) (p : Fin 32) (rdy : Bool) (slot due : Nat), s.quadRuns p.val = true → s.isOn (Island.ofQuad (qOf p.val)) = true →
    s.binder p.val = some slot → (s.chn slot).state = .live → (s.chn slot).standstill ≠ 0 → (s.est (qOf p.val) (s.chn slot).ve).still = true →
    due = s.stillDue p.val slot → due ≤ s.now + 64 → s.groupHeld = false →
    (s.stepReason p.val rdy 0 (64 * due) 0 = none →
      Completes (.standstillFrame p rdy) s fun t =>
        (t.port p.val).hwm = (s.port p.val).hwm ∧ (t.port p.val).stillAt = some due ∧
        ∃ f, (t.port p.val).fires = (s.port p.val).fires ++ [f] ∧ f.standstill = true ∧
          f.target = (s.est (qOf p.val) (s.chn slot).ve).posIntAt s.nowSt - (s.port p.val).offset.toInt) ∧
    (s.stepReason p.val rdy 0 (64 * due) 0 ≠ none →
      Completes (.standstillFrame p rdy) s fun t =>
        (t.port p.val).hwm = (s.port p.val).hwm ∧ (t.port p.val).fires = (s.port p.val).fires ∧ (t.port p.val).gap = (s.port p.val).gap ∧
        SameRegsBut s t (fun _ => false)))

namespace Sys2Proof.Claims

/-- A command of a command queue that is refused (R319): it is skipped, QUE_BADCMD is raised, the channel and the windows stay. -/
def CommandRefused (s t : State) (q : Nat) : Prop :=
  (t.queue q).fetched = (s.queue q).fetched.drop 1 ∧ t.bit Reg.QUE_EVT 5 = true ∧ t.que.chans = s.que.chans ∧
  t.trg.windows = s.trg.windows ∧ SameRegsBut s t (fun k => eventReg k || decide (k = Reg.QUE_EVT))

/-- A command of a command queue that is executed: it is taken off the queue and no register changes. -/
def CommandTaken (s t : State) (q : Nat) : Prop :=
  (t.queue q).fetched = (s.queue q).fetched.drop 1 ∧ SameRegsBut s t (fun _ => false)

/-- The least pitch and the greatest exposure of a channel's template (R97). -/
def pitchMinOf (s : State) (slot : Nat) : Nat := ((template? s.image (s.chn slot).tmpl).map (·.pitchMin)).getD 1
def expMaxOf (s : State) (slot : Nat) : Nat := ((template? s.image (s.chn slot).tmpl).map (·.expMax)).getD 0

/-- The position in three words (R12). -/
def posOf (ws : List Word) (k : Nat) : Int := signed54 (join54 (wordAt ws k) (wordAt ws (k + 1)) (wordAt ws (k + 2)))

/-- The port mask of WINDOW_SET (R319). -/
def maskOf (ws : List Word) : BitVec 32 := BitVec.ofNat 32 (fieldOf (wordAt ws 7) 0 16 + fieldOf (wordAt ws 8) 0 16 * 65536)

/-- Another channel owns the window. -/
abbrev foreignWindow (s : State) (slot n : Nat) : Prop := ((s.window n).any fun w => decide (w.owner ≠ slot)) = true

end Sys2Proof.Claims

/-- CMD_PITCH, CMD_EXPOSURE, CMD_REPHASE, CMD_WINDOW_SET, CMD_WINDOW_CLEAR, CMD_BLUR and CMD_TRIGGER_RESERVED complete (R319): a command
whose operands are good changes its channel or its window; the grid beyond the anchor is the new one and the old one still
fires up to it; one whose operands are refused is skipped. -/
def Obligations.TriggerCommandsRun : Prop :=
  ∀ (s : State) (q : Fin 2048) (slot op : Nat) (ws : List Word), s.cmdHead q.val = .cmd slot op ws →
    (op = 0x10 →
      (((wordAt ws 0).toNat < pitchMinOf s slot ∨ (wordAt ws 0).toNat = 0) →
        Completes (.cmdPitch q) s fun t => CommandRefused s t q.val) ∧
      (pitchMinOf s slot ≤ (wordAt ws 0).toNat → (wordAt ws 0).toNat ≠ 0 →
        Completes (.cmdPitch q) s fun t =>
          CommandTaken s t q.val ∧ (t.chn slot).pitch = (wordAt ws 0).toNat ∧
          ∀ a, s.anchor slot = some a →
            (t.chn slot).x0 = fwd (s.chn slot).dirDown a ∧ (t.chn slot).x0In = false ∧
            (t.chn slot).oldGrids = (s.chn slot).oldGrids ++
              [((s.chn slot).x0, (s.chn slot).x0In, (s.chn slot).pitch, fwd (s.chn slot).dirDown a)])) ∧
    (op = 0x11 →
      (expMaxOf s slot < (wordAt ws 0).toNat → Completes (.cmdExposure q) s fun t => CommandRefused s t q.val) ∧
      ((wordAt ws 0).toNat ≤ expMaxOf s slot →
        Completes (.cmdExposure q) s fun t => CommandTaken s t q.val ∧ t.chn slot = { s.chn slot with expo := (wordAt ws 0).toNat })) ∧
    (op = 0x12 →
      ((∃ a, s.anchor slot = some a ∧ fwd (s.chn slot).dirDown (posOf ws 0) ≤ a) →
        Completes (.cmdRephase q) s fun t => CommandRefused s t q.val) ∧
      ((∀ a, s.anchor slot = some a → a < fwd (s.chn slot).dirDown (posOf ws 0)) →
        Completes (.cmdRephase q) s fun t =>
          CommandTaken s t q.val ∧ (t.chn slot).x0 = posOf ws 0 ∧ (t.chn slot).x0In = true ∧ (t.chn slot).pitch = (s.chn slot).pitch)) ∧
    (op = 0x13 →
      ((2048 ≤ (wordAt ws 0).toNat ∨ foreignWindow s slot (wordAt ws 0).toNat ∨ posOf ws 4 ≤ posOf ws 1 ∨
          maskOf ws &&& ~~~(s.chn slot).ports ≠ 0) →
        Completes (.cmdWindowSet q) s fun t => CommandRefused s t q.val) ∧
      ((wordAt ws 0).toNat < 2048 → ¬foreignWindow s slot (wordAt ws 0).toNat → posOf ws 1 < posOf ws 4 →
        maskOf ws &&& ~~~(s.chn slot).ports = 0 →
        Completes (.cmdWindowSet q) s fun t =>
          CommandTaken s t q.val ∧
          t.window (wordAt ws 0).toNat = some { owner := slot, start := posOf ws 1, stop := posOf ws 4, mask := maskOf ws } ∧
          ∀ n, n ≠ (wordAt ws 0).toNat → t.window n = s.window n)) ∧
    (op = 0x14 →
      ((s.window (wordAt ws 0).toNat = none ∨ foreignWindow s slot (wordAt ws 0).toNat) →
        Completes (.cmdWindowClear q) s fun t => CommandRefused s t q.val) ∧
      (∀ w, s.window (wordAt ws 0).toNat = some w → w.owner = slot →
        Completes (.cmdWindowClear q) s fun t =>
          CommandTaken s t q.val ∧ t.window (wordAt ws 0).toNat = none ∧ ∀ n, n ≠ (wordAt ws 0).toNat → t.window n = s.window n)) ∧
    (op = 0x15 →
      Completes (.cmdBlur q) s fun t => CommandTaken s t q.val ∧ t.chn slot = { s.chn slot with blur := (wordAt ws 0).toNat }) ∧
    (0x16 ≤ op → Completes (.cmdTriggerReserved q) s fun t => CommandRefused s t q.val)

/-- QUAD_FAULT and QUAD_RESTART complete (R320 to R323): the quad's ports go high-impedance and drop their power, its records are
lost and counted, the cause and the number of faults are recorded, the quad is OFF, to wake again under RETRY unless it
faulted less than 1 s before, else DOWN; the other quads' ports go on; a write of one restarts a DOWN quad and no other. -/
def Obligations.QuadsFaultAndRestart : Prop :=
  (∀ (s : State) (quad : Fin 4) (cause : QuadCause), s.isOn (Island.ofQuad quad.val) = true → s.stopped (Island.ofQuad quad.val) = false →
    Completes (.quadFault quad cause) s fun t =>
      (∀ i, i < 8 → (t.port (8 * quad.val + i)).drive = .hiZ ∧ (t.port (8 * quad.val + i)).trg = false ∧
        (t.port (8 * quad.val + i)).stb = false ∧ (t.port (8 * quad.val + i)).pen = false ∧ (t.port (8 * quad.val + i)).fires = [] ∧
        (t.port (8 * quad.val + i)).lost = (s.binder (8 * quad.val + i)).isSome) ∧
      (∀ p, p < 32 → p / 8 ≠ quad.val → t.port p = s.port p) ∧ (t.quad quad.val).men = false ∧
      (t.island (Island.ofQuad quad.val)).power = .off ∧
      t.fld (Reg.PLN_QF_STS quad.val) 2 2 = quadCauseCode cause ∧
      t.fld (Reg.PLN_QF_STS quad.val) 4 4 = min 15 (s.fld (Reg.PLN_QF_STS quad.val) 4 4 + 1) ∧
      (let again : Prop := ∃ a, (s.quad quad.val).faultAt = some a ∧ s.now < a + 400000000
       (policyRetry s.arm.plnImage = true → ¬again →
         t.fld (Reg.PLN_QF_STS quad.val) 0 2 = 1 ∧ (t.island (Island.ofQuad quad.val)).waking = true) ∧
       ((policyRetry s.arm.plnImage = false ∨ again) → t.fld (Reg.PLN_QF_STS quad.val) 0 2 = 2)) ∧
      t.hs (.tqQue quad) = {} ∧
      t.rd (Reg.PLN_QF_LOST quad.val) = satAdd (s.rd (Reg.PLN_QF_LOST quad.val))
        ((s.hs (.tqQue quad)).inFlight.length + (s.hs (.tqQue quad)).readable.length + (s.hs (.tqQue quad)).waiting.length)) ∧
  (∀ (s : State) (req : Requester) (bits : BitVec 4), s.openFor (regAcc req Reg.PLN_QF_CTL (word bits.toNat)) .pln = true →
    Completes (.quadRestart req bits) s fun t =>
      ∀ q : Fin 4,
        (bits.getLsbD q.val = true → s.fld (Reg.PLN_QF_STS q.val) 0 2 = 2 →
          t.fld (Reg.PLN_QF_STS q.val) 0 2 = 1 ∧ (t.island (Island.ofQuad q.val)).waking = true) ∧
        ((bits.getLsbD q.val = false ∨ s.fld (Reg.PLN_QF_STS q.val) 0 2 ≠ 2) →
          t.rd (Reg.PLN_QF_STS q.val) = s.rd (Reg.PLN_QF_STS q.val)))

/-- HEAD_PRESENCE_TAKEN, HEAD_ABSENCE_TAKEN, HEAD_PWR_SET, HEAD_PWR_CLEAR, HEAD_PEN_RISE, HEAD_POWER_GOOD, HEAD_PGD_TIMEOUT,
HEAD_POWER_FAULT, MASTER_ENABLE_SET and MASTER_ENABLE_CLEAR complete (R324 to R326): the slot states of the table of R324, each
with its event; insertion never powers a head; PEN rises in port order, 5 ms apart, under the master enable only. -/
def Sys2Proof.Claims.HeadsAreHotPlugSlots : Prop :=
  (∀ (s : State) (p : Fin 32), s.headWorks p.val = true →
    ((s.port p.val).prs = false →
      Completes (.headPresenceTaken p) s fun t =>
        (t.port p.val).prs = true ∧ (t.port p.val).pen = (s.port p.val).pen ∧
        (t.port p.val).slot = (if (s.port p.val).slot = .empty then .present else (s.port p.val).slot) ∧
        (s.prsUse p.val = true → t.bit (hpEvt p.val) 0 = true) ∧ SameRegsBut s t (hpReg p.val)) ∧
    (s.prsUse p.val = true → (s.port p.val).slot ≠ .empty →
      Completes (.headAbsenceTaken p) s fun t =>
        (t.port p.val).prs = false ∧ (t.port p.val).slot = .empty ∧ (t.port p.val).pen = false ∧ t.bit (hpCtl p.val) 0 = false ∧
        t.bit (hpEvt p.val) 0 = true ∧ ((s.port p.val).slot ≠ .present → t.bit (hpEvt p.val) 1 = true) ∧
        (t.port p.val).removed = ((s.port p.val).removed || (s.binder p.val).isSome) ∧
        SameRegsBut s t (fun k => hpReg p.val k || decide (k = hpCtl p.val)))) ∧
  (∀ (s : State) (req : Requester) (p : Fin 32), (s.rd (hpCtl p.val)).toNat < 8 →
    (s.openFor (regAcc req (hpCtl p.val) (withField (s.rd (hpCtl p.val)) 0 1 1)) (Island.ofQuad (qOf p.val)) = true →
      Completes (.headPwrSet req p) s fun t =>
        t.bit (hpCtl p.val) 0 = decide (s.slot p.val ≠ .empty) ∧ (t.port p.val).pen = (s.port p.val).pen ∧
        ((s.slot p.val = .present ∨ s.slot p.val = .fault) → (s.quad (qOf p.val)).men = true → s.hpFn p.val ≠ 0 →
          (t.port p.val).slot = .powering ∧ (t.port p.val).penDue = true) ∧
        ((s.quad (qOf p.val)).men = false → (t.port p.val).slot = (s.port p.val).slot) ∧
        SameRegsBut s t (fun k => decide (k = hpCtl p.val))) ∧
    (s.openFor (regAcc req (hpCtl p.val) (withField (s.rd (hpCtl p.val)) 0 1 0)) (Island.ofQuad (qOf p.val)) = true →
      s.bit (hpCtl p.val) 0 = true →
      Completes (.headPwrClear req p) s fun t =>
        t.bit (hpCtl p.val) 0 = false ∧
        ((s.slot p.val = .powering ∨ s.slot p.val = .powered) → (t.port p.val).slot = .present ∧ (t.port p.val).pen = false) ∧
        (s.slot p.val ≠ .powering → s.slot p.val ≠ .powered → t.port p.val = s.port p.val) ∧
        SameRegsBut s t (fun k => decide (k = hpCtl p.val)))) ∧
  (∀ (s : State) (p : Fin 32), s.headWorks p.val = true →
    (s.drives p.val = true → (s.quad (qOf p.val)).men = true → (s.port p.val).penDue = true →
      (∀ i, i < iOf p.val → (s.port (8 * qOf p.val + i)).penDue = false) →
      (∀ a, (s.quad (qOf p.val)).lastPenAt = some a → a + 2000000 ≤ s.now) →
      Completes (.headPenRise p) s fun t =>
        (t.port p.val).pen = true ∧ (t.quad (qOf p.val)).lastPenAt = some s.now ∧ (∀ j, j ≠ p.val → t.port j = s.port j) ∧
        SameRegsBut s t (fun _ => false)) ∧
    (∀ a, (s.quad (qOf p.val)).lastPenAt = some a → s.now < a + 2000000 → Completes (.headPenRise p) s fun t => t = s) ∧
    ((s.port p.val).slot = .powering → (s.port p.val).pen = true →
      Completes (.headPowerGood p) s (fun t =>
        (t.port p.val).slot = .powered ∧ (t.port p.val).pgd = true ∧ t.bit (hpEvt p.val) 2 = true ∧ SameRegsBut s t (hpReg p.val)) ∧
      ((s.port p.val).poweringAt + 400000 * max 1 (s.fld (Reg.TQ_PGDT (qOf p.val)) 0 18) ≤ s.now →
        Completes (.headPgdTimeout p) s fun t =>
          (t.port p.val).slot = .fault ∧ (t.port p.val).pen = false ∧ t.bit (hpCtl p.val) 0 = false ∧ t.bit (hpEvt p.val) 3 = true ∧
          SameRegsBut s t (fun k => hpReg p.val k || decide (k = hpCtl p.val)))) ∧
    ((s.port p.val).slot = .powered →
      Completes (.headPowerFault p) s fun t =>
        (t.port p.val).slot = .fault ∧ (t.port p.val).pen = false ∧ (t.port p.val).pgd = false ∧ t.bit (hpCtl p.val) 0 = false ∧
        t.bit (hpEvt p.val) 3 = true ∧ SameRegsBut s t (fun k => hpReg p.val k || decide (k = hpCtl p.val)))) ∧
  (∀ (s : State) (req : Requester) (q : Fin 4) (v c : Word),
    s.openFor (regAcc req (pairV q.val + 4) c) (Island.ofQuad q.val) = true → pairReady s req q v → c = ~~~v →
    (v = 1 →
      Completes (.masterEnableSet req q c) s fun t =>
        (t.quad q.val).men = true ∧ t.pair q.val = none ∧
        ∀ i, i < 8 → s.bit (hpCtl (8 * q.val + i)) 0 = true → s.slot (8 * q.val + i) = .present → s.hpFn (8 * q.val + i) ≠ 0 →
          (t.port (8 * q.val + i)).slot = .powering ∧ (t.port (8 * q.val + i)).penDue = true) ∧
    (v = 0 →
      Completes (.masterEnableClear req q c) s fun t =>
        (t.quad q.val).men = false ∧ t.pair q.val = none ∧
        ∀ i, i < 8 → (s.slot (8 * q.val + i) = .powering ∨ s.slot (8 * q.val + i) = .powered) →
          (t.port (8 * q.val + i)).slot = .present ∧ (t.port (8 * q.val + i)).pen = false))

/-- ATTENTION_PRESS and ATTENTION_SEQUENCE_END complete (R327, R328): a press raises ATTENTION and, under AUTO, starts the 5 s sequence or
cancels a running one; a sequence that runs to its end raises ATN_DONE and toggles PWR where no live channel binds the port. The
indicator follows HP_CTL.IND, and blinks at 1 Hz while the sequence runs; the phase and the duty of a blink are the model's
choice (log entry 136). -/
def Sys2Proof.Claims.AttentionButton : Prop :=
  (∀ (s : State) (p : Fin 32), s.headWorks p.val = true →
    Completes (.attentionPress p) s fun t =>
      t.bit (hpEvt p.val) 4 = true ∧ (t.port p.val).slot = (s.port p.val).slot ∧ SameRegsBut s t (hpReg p.val) ∧
      (s.bit (hpCfg p.val) 2 = false → (t.port p.val).atnEndAt = (s.port p.val).atnEndAt) ∧
      (s.bit (hpCfg p.val) 2 = true →
        (∀ e, (s.port p.val).atnEndAt = some e → s.now < e → (t.port p.val).atnEndAt = none) ∧
        ((s.port p.val).atnEndAt = none → (t.port p.val).atnEndAt = some (s.now + 2000000000)))) ∧
  (∀ (s : State) (p : Fin 32) (e : Nat), s.headWorks p.val = true → (s.port p.val).atnEndAt = some e → e ≤ s.now →
    Completes (.attentionSequenceEnd p) s fun t =>
      t.bit (hpEvt p.val) 5 = true ∧ (t.port p.val).atnEndAt = none ∧
      (s.binder p.val ≠ none → t.bit (hpCtl p.val) 0 = s.bit (hpCtl p.val) 0 ∧ (t.port p.val).slot = (s.port p.val).slot) ∧
      (s.binder p.val = none → s.bit (hpCtl p.val) 0 = true →
        t.bit (hpCtl p.val) 0 = false ∧ ((s.slot p.val = .powering ∨ s.slot p.val = .powered) → (t.port p.val).slot = .present)) ∧
      (s.binder p.val = none → s.bit (hpCtl p.val) 0 = false → t.bit (hpCtl p.val) 0 = decide (s.slot p.val ≠ .empty))) ∧
  (∀ (s : State) (p : Nat),
    (s.drives p = false → s.indPin p = .hiZ) ∧
    (s.drives p = true → s.attends p = true → s.indPin p = pinLevel true (s.blinks p 500)) ∧
    (s.drives p = true → s.attends p = false →
      (s.fld (hpCtl p) 1 2 = 0 → s.indPin p = .low) ∧ (s.fld (hpCtl p) 1 2 = 1 → s.indPin p = .high) ∧
      (s.fld (hpCtl p) 1 2 = 2 → s.indPin p = pinLevel true (s.blinks p 500)) ∧
      (s.fld (hpCtl p) 1 2 = 3 → s.indPin p = pinLevel true (s.blinks p 125))) ∧
    ∀ half n, s.blinks p half = ({ s with now := s.now + 2 * n * (400000 * half) }).blinks p half)

/-! ### The ring (12_alsyn_group.md) -/

namespace Sys2Proof.Claims

/-- The registers in which the node's state and its events are shown. -/
def ringReg (k : Nat) : Bool := eventReg k || [Reg.RNG_STS, Reg.RNG_EVT0, Reg.RNG_EVT1, Reg.RNG_NODE].contains k

/-- A frame as it leaves on a side: ahead of a westward one goes a wake burst where the transmitter sleeps (R336; the model's reading,
log entry 137). -/
def outputs (s : State) (side : Side) (f : RFrame) : List Output :=
  Output.ringFrame side { f with west := decide (side = .west) } ::
    (if side = .west ∧ s.ringSends .west = false then [Output.ringWake .west] else [])

/-- A frame that a node on a lane that is up sends now, ahead of the arbiter (R344). -/
def Leaves (s t : State) (side : Side) (f : RFrame) : Prop :=
  s.held .rng = false → (s.lane side).up = true → t.sent = outputs s side f ++ s.sent

/-- The ring-transmit arbiter grants the frame now: none of its activity waits, and the maximum is not reached (R252, R344). -/
abbrev mayLeave (s : State) (f : RFrame) : Prop :=
  (s.ring.txWait.any fun e => decide (ringActivity e.2 = ringActivity f)) = false ∧ (s.grantAt arbRing (ringActivity f)).isSome = true

/-- A frame that needs a grant leaves with it, or waits for one. -/
def LeavesGranted (s t : State) (side : Side) (f : RFrame) : Prop :=
  s.held .rng = false → (s.lane side).up = true →
    (mayLeave s f → t.sent = outputs s side f ++ s.sent) ∧
    (¬mayLeave s f → t.sent = s.sent ∧ t.ring.txWait = s.ring.txWait ++ [(side, f)])

/-- A control frame of this node leaves on its own side. -/
def SendsControl (s t : State) (dst : Option Nat) (ws : List Word) : Prop := LeavesGranted s t s.ownSide (s.frame 2 dst ws)

/-- The one break of which a node and `n` are the ends (R362, R364). -/
abbrev BreakIs (s : State) (n : Nat) (y : Nat × List Nat) : Prop :=
  s.ring.breaks.filter (fun z => decide (z.1 = s.nodeId ∨ z.1 = n)) = [y]

/-- The receive direction that this wrap end has lost is back. -/
def directionIsBack (s : State) : Prop :=
  (s.ring.wrapRole = 1 ∧ s.ring.east.lostSince = none) ∨ (s.ring.wrapRole = 2 ∧ s.ring.west.lostSince = none)

/-- The `k`th ARMATURE frame of the image from an offset on, to a node: twelve words at most (R359). -/
def imageFrame (s : State) (dst : Nat) (off : Nat) (ws : List Word) (k : Nat) : RFrame :=
  s.frame 3 (some dst) ([word (off + 12 * k), word ((ws.drop (12 * k)).take 12).length] ++ (ws.drop (12 * k)).take 12)

/-- The oldest frame kept for the node. -/
abbrev Oldest (s : State) (x : RxFrame) (rest : List RxFrame) : Prop := s.ringWorks = true ∧ s.ring.inbox = x :: rest

/-- A training block with its type and a good CRC (R338). -/
abbrev goodBlock (b : BitVec 64) : Prop :=
  b.toNat % 256 = 0xC3 ∧ crc32 (blockBytes 4 (b.toNat % 2 ^ 32)) = BitVec.ofNat 32 (b.toNat / 2 ^ 32)

abbrev laneReg (side : Side) : Nat := Reg.RNG_LANE_STS (sideNum side)
abbrev lanePin (s : State) (side : Side) : Nat := (pinOf s.image 5 (sideNum side)).1

/-- A forwarded frame (R345, R346): a BEACON's CORR takes the residence time, the delay of the link that it leaves on eastward,
and the westward delay of the link that it came in on from the east. -/
def onwards (s : State) (f : RFrame) (came goes : Side) (age : Nat) : RFrame :=
  let east : Int := if goes = .east then s.ring.east.delayEast else 0
  let west : Int := if came = .east then s.ring.east.delayEast - (s.rd Reg.RNG_ASYM).toInt else 0
  if f.typ = 0 then
    { f with w := f.w.take 9 ++ words36 (toWord36 ((join36 (wordAt f.w 9) (wordAt f.w 10)).toInt + age + east + west)) ++ f.w.drop 11 }
  else f

/-- The frame is kept for the node. -/
def Kept (s t : State) (f : RFrame) (side : Side) (age : Nat) : Prop :=
  t.ring.inbox = s.ring.inbox ++ [{ f := f, side := side, arrSt := s.nowSt - age }]

/-- A BEACON that the node follows: of its group, at its level, the node not keeper itself (R352, R357). -/
abbrev Follows (s : State) (x : RxFrame) : Prop :=
  x.f.typ = 0 ∧ s.ringWanted = true ∧ s.ringState ≠ 0 ∧ wordAt x.f.w 0 = ringGroup s.image ∧ fieldOf (wordAt x.f.w 4) 4 4 = 1 ∧
  s.bit Reg.RNG_STS 3 = false

/-- The deviation of a beacon (R347): its group time less the node's own at the arrival, modulo 2^60 sub-ticks. -/
def deviation (s : State) (x : RxFrame) : Int := signedDiff 60 (s.beaconTime x.f.w x.side) (s.groupAt x.arrSt)

/-- The digest that a beacon carries. -/
def digestOf (x : RxFrame) : BitVec 36 := BitVec.ofNat 36 (joinWords [wordAt x.f.w 2, wordAt x.f.w 3])

/-- The image that this node sends from an offset on. -/
def imageFrom (s : State) (off : Nat) : List Word :=
  match s.arm.committed with
  | none => []
  | some im => (im.words ++ im.sig).drop off

end Sys2Proof.Claims

/-- RING_TRAIN_START, TRAINING_BLOCK_RX and RING_TRAIN_TIMEOUT complete (R338, R339): after its wait the node sends training blocks on
both lanes; a good block is answered at once, sixteen with RX_READY on both sides bring the lane up, a bad one is ignored; a
lane that is not up within 10 ms shows FAILED and trains again. -/
def Sys2Proof.Claims.RingLanesTrain : Prop :=
  (∀ (s : State) (a : Nat), s.ringWorks = true → s.ring.trainDueAt = some a → a ≤ s.now → s.held .rng = false →
    (∀ side, (s.lane side).up = false ∧ lanePin s side ≠ 0) →
    Completes .ringTrainStart s fun t =>
      t.ring.trainDueAt = none ∧ (∃ x y, t.sent = Output.ringTrain .west y :: Output.ringTrain .east x :: s.sent) ∧
      (∀ side, t.fld (laneReg side) 6 2 = 1) ∧ SameRegsBut s t (fun k => decide (k = laneReg .east ∨ k = laneReg .west))) ∧
  (∀ (s : State) (side : Side) (b : BitVec 64) (adapted : Bool), s.ringWorks = true →
    (¬goodBlock b → Completes (.trainingBlockRx side b adapted) s fun t => t = s) ∧
    (goodBlock b → (s.lane side).up = false → lanePin s side ≠ 0 → (s.lane side).trainAt ≠ none → s.held .rng = false →
      ((b.getLsbD 21 = false ∨ adapted = false ∨ (s.lane side).readyRun < 15 ∨ (s.lane side).ownReady < 15) →
        Completes (.trainingBlockRx side b adapted) s fun t =>
          (∃ x, t.sent = Output.ringTrain side x :: s.sent) ∧ (t.lane side).up = false ∧
          (t.lane side).readyRun = (if b.getLsbD 21 then (s.lane side).readyRun + 1 else 0) ∧ SameRegsBut s t (fun _ => false)) ∧
      (b.getLsbD 21 = true → adapted = true → 15 ≤ (s.lane side).readyRun → 15 ≤ (s.lane side).ownReady →
        Completes (.trainingBlockRx side b adapted) s fun t =>
          (t.lane side).up = true ∧ t.fld (laneReg side) 6 2 = 2 ∧ t.bit (laneReg side) 0 = true ∧
          t.bit Reg.RNG_EVT0 (2 * sideNum side) = true ∧ (t.lane side).partner = b.toNat / 2 ^ 22 % 16 ∧
          (s.ringState = 1 → t.ringState = 2) ∧ SameRegsBut s t (fun k => ringReg k || decide (k = laneReg side))))) ∧
  (∀ (s : State) (side : Side) (a : Nat), s.ringWorks = true → (s.lane side).up = false → lanePin s side ≠ 0 →
    (s.lane side).trainAt = some a → a + 4000000 ≤ s.now →
    Completes (.ringTrainTimeout side) s fun t =>
      t.fld (laneReg side) 6 2 = 3 ∧ (t.lane side).trainAt = some s.now ∧ SameRegsBut s t (fun k => decide (k = laneReg side)))

/-- RING_FRAME_RX completes (R340, R341, R343, R346): idle and training blocks are nothing to it, a block of another type and a bad
frame are counted and not forwarded; the node's own frame is removed; in a healthy ring a frame is kept where it is addressed
to the node and leaves eastward, with a beacon's CORR brought up to date; the wrap ends turn what reaches them. -/
def Sys2Proof.Claims.RingFramesAreForwarded : Prop :=
  ∀ (s : State) (side : Side) (h : BitVec 64) (data : List (BitVec 64)) (age : Nat), s.ringWorks = true →
    ((h.toNat % 256 = 0x1E ∨ h.toNat % 256 = 0xC3) → Completes (.ringFrameRx side h data age) s fun t => t = s) ∧
    (h.toNat % 256 ≠ 0x1E → h.toNat % 256 ≠ 0xC3 → (h.toNat % 256 ≠ 0xB4 ∨ parseFrame h data = none) →
      Completes (.ringFrameRx side h data age) s fun t =>
        t.rd Reg.RNG_CRC_CNT = satAdd (s.rd Reg.RNG_CRC_CNT) 1 ∧ t.ring = s.ring ∧ t.sent = s.sent ∧
        SameRegsBut s t (fun k => decide (k = Reg.RNG_CRC_CNT))) ∧
    (∀ f, h.toNat % 256 = 0xB4 → parseFrame h data = some f → s.duplicates f = false →
      (s.bit Reg.RNG_STS 4 = false →
        (f.src = s.nodeId → Completes (.ringFrameRx side h data age) s fun t => t = s) ∧
        (f.src ≠ s.nodeId → side = .west →
          Completes (.ringFrameRx side h data age) s fun t =>
            ((f.bcast = true ∨ f.dst = s.nodeId) → Kept s t f side age) ∧
            (f.bcast = false → f.dst ≠ s.nodeId → t.ring.inbox = s.ring.inbox) ∧
            Leaves s t .east (onwards s f .west .east age) ∧ SameRegsBut s t (fun _ => false)) ∧
        (f.src ≠ s.nodeId → side = .east →
          Completes (.ringFrameRx side h data age) s fun t =>
            ((f.bcast = true ∨ f.dst = s.nodeId) → Kept s t f side age) ∧ t.sent = s.sent ∧ SameRegsBut s t (fun _ => false))) ∧
      (s.bit Reg.RNG_STS 4 = true → f.src ≠ s.nodeId →
        (s.ring.wrapRole = 2 → side = .east →
          Completes (.ringFrameRx side h data age) s fun t =>
            ((f.bcast = true ∨ f.dst = s.nodeId) → Kept s t f side age) ∧ Leaves s t .east (onwards s f .east .east age) ∧ SameRegsBut s t (fun _ => false)) ∧
        (s.ring.wrapRole = 1 → side = .west →
          Completes (.ringFrameRx side h data age) s fun t =>
            ((f.bcast = true ∨ f.dst = s.nodeId) → Kept s t f side age) ∧ Leaves s t .west (onwards s f .west .west age) ∧ SameRegsBut s t (fun _ => false)) ∧
        (s.ring.wrapRole = 0 → f.west = false → isControl 2 f = false →
          Completes (.ringFrameRx side h data age) s fun t =>
            t.ring = s.ring ∧ Leaves s t .east (onwards s f side .east age) ∧ SameRegsBut s t (fun _ => false)) ∧
        (s.ring.wrapRole = 0 → f.west = true →
          Completes (.ringFrameRx side h data age) s fun t =>
            ((f.bcast = true ∨ f.dst = s.nodeId) → Kept s t f side age) ∧ Leaves s t .west (onwards s f side .west age) ∧
            SameRegsBut s t (fun _ => false))))

/-- BEACON_RX completes (R346, R347, R352, R354, R357): the keeper, its members, its digest and its run state are taken; a deviation
within 2 ns is slewed at 10 ppm, one up to 50 ns is slewed at 100 ppm by a running node and stepped by another, a greater one
holds a running node with cause TIME; sixteen within 2 ns lock; an unmeasured node does not steer; a different digest holds with
cause DIGEST, an equal one lets the node through to MEMBER; another level is REFUSED; a node without a keeper that hears another
group stays ALONE; a keeper yields to a better one and takes no other's beacon. -/
def Sys2Proof.Claims.BeaconsAreFollowed : Prop :=
  ∀ (s : State) (x : RxFrame) (rest : List RxFrame), Oldest s x rest →
    (Follows s x → s.ringState ≠ 7 →
      Completes .beaconRx s (fun t =>
        t.ring.inbox = rest ∧ t.ring.keeper = some (fieldOf (wordAt x.f.w 4) 0 4) ∧ t.bit Reg.RNG_STS 3 = false ∧
        t.rd Reg.RNG_MEMBERS = wordAt x.f.w 11 &&& 0xFFFF ∧ t.rd Reg.RNG_MISSING = wordAt x.f.w 12 &&& 0xFFFF ∧
        t.ring.keeperDigest = digestOf x ∧ t.ring.keeperRun = (wordAt x.f.w 4).getLsbD 8 ∧ t.ring.beaconAt = some s.now ∧
        (s.bit Reg.RNG_STS 5 = true → t.rd Reg.RNG_DEV = s.rd Reg.RNG_DEV ∧ t.ring.offset = s.ring.offset) ∧
        (s.bit Reg.RNG_STS 5 = false →
          t.rd Reg.RNG_DEV = devWord (deviation s x) ∧
          ((deviation s x).natAbs ≤ 51 →
            t.ring.slew = deviation s x ∧ t.ring.slewPpm = 10 ∧ t.ring.offset = s.offsetAt x.arrSt ∧
            (s.bit Reg.RNG_STS 7 = true → t.bit Reg.RNG_STS 7 = true) ∧
            (s.ring.lockRun = 15 → t.bit Reg.RNG_STS 7 = true ∧ (s.bit Reg.RNG_STS 7 = false → t.bit Reg.RNG_EVT0 9 = true))) ∧
          (51 < (deviation s x).natAbs → t.bit Reg.RNG_STS 7 = false ∧ t.ring.lockRun = 0) ∧
          (51 < (deviation s x).natAbs → (s.running = false ∨ s.ringState = 6) →
            t.ring.offset = s.offsetAt x.arrSt + deviation s x ∧ t.ring.slew = 0) ∧
          (51 < (deviation s x).natAbs → (deviation s x).natAbs ≤ 1280 → s.running = true → s.ringState ≠ 6 →
            t.ring.slew = deviation s x ∧ t.ring.slewPpm = 100 ∧ t.ring.offset = s.offsetAt x.arrSt) ∧
          (1280 < (deviation s x).natAbs → s.running = true → s.ringState ≠ 6 →
            t.ringState = 6 ∧ t.fld Reg.RNG_STS 15 2 = 2 ∧ t.bit Reg.RNG_EVT0 10 = true)))) ∧
    (Follows s x → s.bit Reg.RNG_STS 5 = true →
      Completes .beaconRx s fun t =>
        ((s.ringState = 2 ∨ s.ringState = 3) → digestOf x = s.ownDigest → t.ringState = 4) ∧
        (2 ≤ s.ringState → s.ringState ≤ 5 → digestOf x ≠ s.ownDigest →
          t.ringState = 6 ∧ t.fld Reg.RNG_STS 15 2 = 1 ∧ t.bit Reg.RNG_EVT0 11 = true) ∧
        (s.ringState = 4 → digestOf x = s.ownDigest → t.ringState = if s.bit Reg.RNG_STS 7 then 5 else 4) ∧
        (∀ a, s.ringState = 6 → digestOf x = s.ownDigest → s.bit Reg.RNG_STS 7 = true → s.ring.heldOkAt = some a →
          t.ringState = if a + 400000 ≤ s.now then 5 else 6)) ∧
    (x.f.typ = 0 → s.ringWanted = true → s.ringState ≠ 0 → s.ringState ≠ 7 → wordAt x.f.w 0 = ringGroup s.image →
      fieldOf (wordAt x.f.w 4) 4 4 ≠ 1 →
      Completes .beaconRx s fun t =>
        t.ringState = 7 ∧ t.bit Reg.RNG_EVT0 12 = true ∧ t.ring.keeper = s.ring.keeper ∧ t.ring.offset = s.ring.offset) ∧
    (x.f.typ = 0 → s.ringWanted = true → s.ringState ≠ 0 → wordAt x.f.w 0 ≠ ringGroup s.image →
      Completes .beaconRx s fun t =>
        t.ringState = (if s.ringState ≤ 2 then 0 else s.ringState) ∧ t.ring.keeper = s.ring.keeper ∧ t.ring.offset = s.ring.offset) ∧
    (x.f.typ = 0 → s.ringWanted = true → s.ringState ≠ 0 → wordAt x.f.w 0 = ringGroup s.image → fieldOf (wordAt x.f.w 4) 4 4 = 1 →
      s.bit Reg.RNG_STS 3 = true →
      Completes .beaconRx s fun t =>
        (s.yieldsTo (fieldOf (wordAt x.f.w 4) 0 4) (wordAt x.f.w 1).toNat = true →
          t.bit Reg.RNG_STS 3 = false ∧ t.ring.keeper = some (fieldOf (wordAt x.f.w 4) 0 4)) ∧
        (s.yieldsTo (fieldOf (wordAt x.f.w 4) 0 4) (wordAt x.f.w 1).toNat = false →
          t.ring = { s.ring with inbox := rest } ∧ SameRegsBut s t (fun _ => false)))

/-- SAMPLE_RX, STATUS_RX and GAP_FRAME_RX complete (R293, R349, R350, R353, R355, R356): a sample becomes the estimate of its group
encoder and of the virtual encoders that it feeds; a STATUS tells the node of its sender, of a second node with its own ID, and
brings a missing member back; a member writes a group gap entry for each GAP frame after the first. -/
def Sys2Proof.Claims.SamplesAndStatusAreTaken : Prop :=
  ∀ (s : State) (x : RxFrame) (rest : List RxFrame), Oldest s x rest →
    (x.f.typ = 1 → s.ringState ≠ 0 →
      Completes .sampleRx s fun t =>
        t.ring.inbox = rest ∧ Tab.get none t.ring.geAt (fieldOf (wordAt x.f.w 0) 0 4) = some s.now ∧
        t.bit Reg.RNG_GE_STS (fieldOf (wordAt x.f.w 0) 0 4) = true ∧
        (∀ v, v < 32 → (sprueOf s.image v).kind = 2 → (sprueOf s.image v).index = fieldOf (wordAt x.f.w 0) 0 4 →
          (t.ve v).est.p = wrapRat ((((join54 (wordAt x.f.w 1) (wordAt x.f.w 2) (wordAt x.f.w 3)).toInt : Int) : Rat) *
            ((if (sprueOf s.image v).invert then -1 else 1) * ((sprueOf s.image v).num : Rat) / ((sprueOf s.image v).den : Rat)) +
            ((s.ve v).pos : Rat)) ∧
          (t.ve v).est.u0 = (wordAt x.f.w 10).toNat) ∧
        SameRegsBut s t (fun k => decide (k = Reg.RNG_GE_STS))) ∧
    (isControl 1 x.f = true → x.f.src ≠ s.nodeId →
      Completes .statusRx s fun t =>
        t.ring.inbox = rest ∧ (t.node x.f.src).seen = true ∧ (t.node x.f.src).w4 = wordAt x.f.w 4 ∧
        (t.node x.f.src).silicon = join54 (wordAt x.f.w 5) (wordAt x.f.w 6) (wordAt x.f.w 7) ∧
        (t.node x.f.src).epoch = wordAt x.f.w 1 ∧ (t.node x.f.src).lastAt = s.now ∧
        (s.bit Reg.RNG_STS 3 = true → fieldOf (wordAt x.f.w 4) 12 3 = 5 → (wordAt x.f.w 4).getLsbD 15 = true →
          fieldOf (wordAt x.f.w 4) 0 4 = 1 → wordAt x.f.w 8 = ringGroup s.image → x.f.src < 16 →
          t.bit Reg.RNG_MISSING x.f.src = false ∧
          (s.bit Reg.RNG_MISSING x.f.src = true → t.bit Reg.RNG_EVT0 15 = true) ∧
          (s.bit Reg.RNG_MISSING x.f.src = false → t.bit Reg.RNG_MEMBERS x.f.src = true))) ∧
    (isControl 1 x.f = true → x.f.src = s.nodeId →
      Completes .statusRx s fun t =>
        (join54 (wordAt x.f.w 5) (wordAt x.f.w 6) (wordAt x.f.w 7) ≠ s.fuses.silicon → t.bit Reg.RNG_EVT1 0 = true) ∧
        ((join54 (wordAt x.f.w 5) (wordAt x.f.w 6) (wordAt x.f.w 7)).toNat < s.fuses.silicon.toNat → t.ringState = 7) ∧
        (s.fuses.silicon.toNat ≤ (join54 (wordAt x.f.w 5) (wordAt x.f.w 6) (wordAt x.f.w 7)).toNat → t.ringState = s.ringState)) ∧
    (x.f.typ = 4 → (s.ringState = 5 ∨ s.ringState = 6) →
      (let n := fieldOf (wordAt x.f.w 0) 0 4
       let pos := s.vePos (fieldOf (s.rd Reg.RNG_GAPQ) 12 5) s.nowSt
       let q := fieldOf (s.rd Reg.RNG_GAPQ) 0 11
       Completes .gapFrameRx s fun t =>
        t.ring.inbox = rest ∧
        Tab.get none t.ring.gapPos n = (if (wordAt x.f.w 1).getLsbD 0 then none else some pos) ∧
        (Tab.get none s.ring.gapPos n = none → t.que.queues = s.que.queues) ∧
        (∀ p, Tab.get none s.ring.gapPos n = some p → s.bit Reg.RNG_GAPQ 11 = true → takesEntry s q = true →
          ∃ t3, (t.queue q).staged = (s.queue q).staged ++
            [{ typ := 2, words := [0, word (n + 32 + 1536), 0] ++ words54 (toWord54 p) ++ words54 (toWord54 pos) ++ words54 t3 }])))

/-- DELAY_REQ_RX, DELAY_RESP_RX, WRAP_RX, UNWRAP_RX, LEAVE_RX, GROUPRESET_RX and ECHO_RX complete (R345, R355, R362 to R364, R368,
R369): each consumes the oldest frame kept and does what the frame asks. -/
def Sys2Proof.Claims.ControlFramesAreObeyed : Prop :=
  ∀ (s : State) (x : RxFrame) (rest : List RxFrame), Oldest s x rest →
    (isControl 2 x.f = true →
      Completes .delayReqRx s fun t =>
        t.ring.inbox = rest ∧ SameRegsBut s t (fun _ => false) ∧
        LeavesGranted s t .west (s.frame 2 (some x.f.src) ([3, wordAt x.f.w 1] ++ time54 (s.devSub x.arrSt) ++ time54 (s.devSub s.nowSt)))) ∧
    (isControl 3 x.f = true → ∀ q t1, s.ring.delayReq = some (q, t1) →
      Completes .delayRespRx s fun t =>
        (wordAt x.f.w 1 ≠ q → t.ring.east = s.ring.east ∧ t.ring.delayReq = some (q, t1)) ∧
        (wordAt x.f.w 1 = q → t.ring.delayReq = none ∧ t.bit Reg.RNG_STS 5 = false ∧
          t.ring.east.delayEast = ((x.arrSt : Int) - t1 -
            signedDiff 54 (join54 (wordAt x.f.w 5) (wordAt x.f.w 6) (wordAt x.f.w 7)).toNat (join54 (wordAt x.f.w 2) (wordAt x.f.w 3) (wordAt x.f.w 4)).toNat +
            (s.rd Reg.RNG_ASYM).toInt) / 2)) ∧
    (isControl 4 x.f = true →
      Completes .wrapRx s fun t =>
        (t.ring.breaks.any fun z => decide (z.1 = x.f.src)) = true ∧ SameRegsBut s t ringReg ∧
        (wordAt x.f.w 1 = word s.nodeId → s.ring.wrapRole ≠ 1 →
          t.ring.wrapRole = 1 ∧ t.bit Reg.RNG_EVT0 5 = true ∧ t.bit Reg.RNG_STS 4 = true ∧ t.bit Reg.RNG_STS 5 = true) ∧
        (wordAt x.f.w 1 = word s.nodeId → s.ring.wrapRole = 1 → t.ring.wrapRole = 1) ∧
        (wordAt x.f.w 1 ≠ word s.nodeId →
          t.ring.wrapRole = s.ring.wrapRole ∧ t.bit Reg.RNG_STS 4 = true ∧ t.bit Reg.RNG_STS 5 = true) ∧
        ((s.ring.breaks.any fun z => decide (z.1 = x.f.src)) = false → s.ring.breaks ≠ [] →
          t.bit Reg.RNG_STS 8 = true ∧ t.bit Reg.RNG_EVT1 1 = true)) ∧
    (isControl 5 x.f = true →
      Completes .unwrapRx s fun t =>
        t.ring.inbox = rest ∧ t.ring.wrapRole = s.ring.wrapRole ∧ SameRegsBut s t (fun k => decide (k = Reg.RNG_STS)) ∧
        (wordAt x.f.w 1 = word s.nodeId → x.f.src ≠ s.nodeId → ∀ y, BreakIs s x.f.src y →
          ((y.2.any fun k => decide (k ≠ x.f.src)) = true → t.ring.unwrapDue = true) ∧
          (directionIsBack s → y.2.contains s.nodeId = false →
            t.ring.unwrapDue = true ∧ SendsControl s t none [5, word x.f.src]) ∧
          (¬directionIsBack s → t.sent = s.sent) ∧
          (¬directionIsBack s → (y.2.any fun k => decide (k ≠ x.f.src)) = false →
            t.ring.unwrapDue = s.ring.unwrapDue ∧ (y.1, [x.f.src]) ∈ t.ring.breaks))) ∧
    (isControl 6 x.f = true → x.f.src < 16 →
      Completes .leaveRx s fun t =>
        t.bit Reg.RNG_MEMBERS x.f.src = false ∧ t.bit Reg.RNG_MISSING x.f.src = false ∧ (t.node x.f.src).seen = false) ∧
    (isControl 7 x.f = true → s.ringState ≠ 0 → s.ringState ≠ 7 →
      Completes .groupresetRx s fun t =>
        (x.f.bcast = true → t.ring.resetAtGroup = some (join54 (wordAt x.f.w 1) (wordAt x.f.w 2) (wordAt x.f.w 3)) ∧ t.sent = s.sent) ∧
        (x.f.bcast = false → s.bit Reg.RNG_STS 3 = true →
          t.ring.resetAtGroup = some (toWord54 (s.groupNow / 64 + 400000)) ∧
          SendsControl s t none (7 :: words54 (toWord54 (s.groupNow / 64 + 400000)))) ∧
        SameRegsBut s t (fun _ => false)) ∧
    (isDiag x.f = true →
      Completes .echoRx s fun t =>
        (wordAt x.f.w 0 = 1 → LeavesGranted s t s.ownSide (s.frame 5 (some x.f.src) (2 :: x.f.w.drop 1))) ∧
        (∀ q st, wordAt x.f.w 0 = 2 → s.ring.echoSentSt = some (q, st) → wordAt x.f.w 1 = q →
          t.ring.rtt = BitVec.ofNat 36 (x.arrSt - st) ∧ t.ring.echoSentSt = none) ∧
        SameRegsBut s t (fun _ => false))

/-- STATUS_SEND, BEACON_SEND, SAMPLE_SEND, HEARTBEAT_SEND, DELAY_MEASURE and GAP_FRAME_SEND complete (R336, R342, R344, R345, R349,
R356): the node's own frames leave with the words of R342, a BEACON and a SAMPLE ahead of the arbiter and the others with its
grant; a node with JOIN clear, or one that is not keeper, sends none. -/
def Sys2Proof.Claims.RingNodeSends : Prop :=
  ∀ s : State, s.ringWorks = true →
    (s.bit Reg.RNG_JOIN 0 = false → Completes .statusSend s fun t => t = s) ∧
    (s.bit Reg.RNG_JOIN 0 = true →
      Completes .statusSend s fun t =>
        SameRegsBut s t (fun _ => false) ∧
        (s.held .rng = false → (s.lane s.ownSide).up = true → mayLeave s (s.frame 2 none []) →
          ∃ f, t.sent = outputs s s.ownSide f ++ s.sent ∧ f.typ = 2 ∧ f.src = s.nodeId ∧ f.bcast = true ∧ wordAt f.w 0 = 1 ∧
            wordAt f.w 1 = word (s.epochOf s.nodeId) ∧ fieldOf (wordAt f.w 4) 12 3 = s.ringState ∧
            join54 (wordAt f.w 5) (wordAt f.w 6) (wordAt f.w 7) = s.fuses.silicon ∧ wordAt f.w 8 = ringGroup s.image)) ∧
    (s.bit Reg.RNG_STS 3 = false → Completes .beaconSend s fun t => t = s) ∧
    (s.bit Reg.RNG_STS 3 = true → s.ring.unwrapDue = false →
      Completes .beaconSend s fun t =>
        t.ring.beaconSeq = s.ring.beaconSeq + 1 ∧ t.ring.keeperRun = s.bit Reg.RNG_CTL 0 ∧ SameRegsBut s t (fun _ => false) ∧
        (s.held .rng = false → (s.lane s.ownSide).up = true →
          ∃ f, t.sent = outputs s s.ownSide f ++ s.sent ∧ f.typ = 0 ∧ f.bcast = true ∧ wordAt f.w 0 = ringGroup s.image ∧
            fieldOf (wordAt f.w 4) 0 4 = s.nodeId % 16 ∧ (wordAt f.w 4).getLsbD 8 = s.bit Reg.RNG_CTL 0 ∧
            join54 (wordAt f.w 5) (wordAt f.w 6) (wordAt f.w 7) = toWord54 (s.groupNow / 64) ∧
            wordAt f.w 11 = s.rd Reg.RNG_MEMBERS ∧ wordAt f.w 12 = s.rd Reg.RNG_MISSING)) ∧
    (∀ (k : Fin 16) (v : Nat), geEntry s.image k.val = some (s.nodeId, v) → s.ringState = 5 → (sprueOf s.image v).kind ≠ 0 →
      Completes (.sampleSend k) s fun t =>
        Tab.get none t.ring.geAt k.val = some s.now ∧ t.bit Reg.RNG_GE_STS k.val = true ∧
        SameRegsBut s t (fun j => decide (j = Reg.RNG_GE_STS)) ∧
        (s.held .rng = false → (s.lane s.ownSide).up = true →
          ∃ f, t.sent = outputs s s.ownSide f ++ s.sent ∧ f.typ = 1 ∧ fieldOf (wordAt f.w 0) 0 4 = k.val ∧
            join54 (wordAt f.w 1) (wordAt f.w 2) (wordAt f.w 3) = toWord54 (s.vePos v s.nowSt) ∧
            join54 (wordAt f.w 11) (wordAt f.w 12) (wordAt f.w 13) = toWord54 s.groupNow)) ∧
    (s.ring.west.up = true → s.held .rng = false → Completes .heartbeatSend s fun t => t.sent = Output.ringWake .west :: s.sent ∧ SameRegsBut s t (fun _ => false)) ∧
    (s.ring.east.up = true →
      Completes .delayMeasure s fun t =>
        t.ring.delaySeq = s.ring.delaySeq + 1 ∧ SameRegsBut s t (fun _ => false) ∧
        LeavesGranted s t .east (s.frame 2 (some s.ring.east.partner) [2, s.ring.delaySeq]) ∧
        (s.held .rng = false → mayLeave s (s.frame 2 none []) → t.ring.delayReq = some (s.ring.delaySeq, s.nowSt))) ∧
    (∀ n : Fin 16, s.bit Reg.RNG_STS 3 = true → s.bit Reg.RNG_MISSING n.val = true →
      Completes (.gapFrameSend n) s fun t =>
        Tab.get none t.ring.gapPos n.val = some (s.vePos (fieldOf (s.rd Reg.RNG_GAPQ) 12 5) s.nowSt) ∧
        (Tab.get none s.ring.gapPos n.val = none →
          SameRegsBut s t (fun _ => false) ∧
          LeavesGranted s t s.ownSide (s.frame 4 none ([word n.val, 0] ++ words54 (s.node n.val).lastGroupT ++ time54 s.groupNow))))

/-- GE_STALE, ELECTION_STABLE, MEMBER_MISSING and KEEPER_LOST complete (R350 to R352, R355, R365): a group encoder without samples is
stale; the candidate that has stayed for 32 ms becomes keeper, its group time running on where it holds one; a silent member is
declared missing; without beacons for 100 µs the keeper is lost and the node stays in its state. -/
def Sys2Proof.Claims.KeeperAndMembers : Prop :=
  (∀ (s : State) (k : Fin 16) (a : Nat), s.ringWorks = true → Tab.get none s.ring.geAt k.val = some a → s.bit Reg.RNG_GE_STS k.val = true →
    (a + 4096 ≤ s.now →
      Completes (.geStale k) s fun t =>
        t.bit Reg.RNG_GE_STS k.val = false ∧ t.bit Reg.RNG_EVT1 2 = true ∧
        (∀ v, v < 32 → (sprueOf s.image v).kind = 2 → (sprueOf s.image v).index = k.val → t.veNoSrc v = true) ∧
        SameRegsBut s t (fun j => ringReg j || decide (j = Reg.RNG_GE_STS))) ∧
    (s.now < a + 4096 → Completes (.geStale k) s fun t => t = s)) ∧
  (∀ (s : State) (n : Nat), s.ringWorks = true → s.ringWanted = true → 2 ≤ s.ringState → s.bestCandidate = some n →
    s.ring.candidate = some n → s.ring.candidateAt + 12800000 ≤ s.now → s.ring.keeper = none →
    Completes .electionStable s fun t => t.ring.keeper = some n ∧ t.bit Reg.RNG_EVT0 7 = true) ∧
  (∀ (s : State), s.ringWorks = true → s.ringWanted = true → 2 ≤ s.ringState → s.bestCandidate = some s.nodeId →
    s.ring.candidate = some s.nodeId →
    (s.ring.candidateAt + 12800000 ≤ s.now → s.ring.keeper = none →
      Completes .electionStable s fun t =>
        t.ring.keeper = some s.nodeId ∧ t.bit Reg.RNG_STS 3 = true ∧ t.ringState = 5 ∧ t.bit Reg.RNG_EVT0 7 = true ∧
        t.ring.offset = (if s.ring.hasTime then s.offsetAt s.nowSt else 0) ∧ t.ring.slew = 0) ∧
    (s.now < s.ring.candidateAt + 12800000 → Completes .electionStable s fun t => t = s)) ∧
  (∀ (s : State) (n : Fin 16), s.ringWorks = true → s.bit Reg.RNG_STS 3 = true → s.bit Reg.RNG_MEMBERS n.val = true →
    s.bit Reg.RNG_MISSING n.val = false → n.val ≠ s.nodeId → (s.node n.val).lastAt + 200000 ≤ s.now →
    Completes (.memberMissing n) s fun t =>
      t.bit Reg.RNG_MISSING n.val = true ∧ t.bit Reg.RNG_EVT0 14 = true ∧
      (Tab.get none s.ring.gapPos n.val = none → SameRegsBut s t (fun j => ringReg j || decide (j = Reg.RNG_MISSING)))) ∧
  (∀ (s : State) (k a : Nat), s.ringWorks = true → s.ring.keeper = some k → s.ring.beaconAt = some a → s.bit Reg.RNG_STS 3 = false →
    a + 40000 ≤ s.now →
    Completes .keeperLost s fun t =>
      t.ring.keeper = none ∧ t.bit Reg.RNG_STS 6 = true ∧ t.bit Reg.RNG_EVT0 8 = true ∧ t.ringState = s.ringState ∧
      t.ring.offset = s.ring.offset ∧ SameRegsBut s t ringReg)

/-- RECEIVE_DIRECTION_LOST, DIRECTION_RESTORED and MODULE_CHANGE complete (R362 to R364, R370): the node that loses its WEST receive
becomes the east wrap end and sends WRAP, the one that loses EAST the west wrap end; both have to measure anew; at a direction up
again for 10 ms the end measures its link where that lies east and sends UNWRAP; once both ends have, the keeper's ring unwraps
at its beacon. -/
def Sys2Proof.Claims.RingWrapsAndUnwraps : Prop :=
  (∀ (s : State) (side : Side), s.ringWorks = true → (s.lane side).up = true →
    Completes (.receiveDirectionLost side) s fun t =>
      (t.lane side).up = false ∧ t.bit (laneReg side) 8 = true ∧ t.bit (laneReg side) 0 = false ∧
      t.ring.wrapRole = (match side with | .west => 2 | .east => 1) ∧ t.bit Reg.RNG_STS 4 = true ∧ t.bit Reg.RNG_STS 5 = true ∧
      t.bit Reg.RNG_EVT0 (2 * sideNum side + 1) = true ∧ t.bit Reg.RNG_EVT0 5 = true ∧ t.ringState = s.ringState ∧
      t.ring.offset = s.ring.offset ∧
      (t.ring.breaks.any fun z => decide (z.1 = match side with | .west => s.nodeId | .east => s.ring.east.partner)) = true ∧
      (side = .west → s.held .rng = false → s.ring.east.up = true → mayLeave s (s.frame 2 none []) →
        t.sent.head? = some (Output.ringFrame .east (s.frame 2 none [4, word s.ring.west.partner]))) ∧
      SameRegsBut s t (fun k => ringReg k || decide (k = laneReg side))) ∧
  (∀ (s : State) (side : Side) (a u : Nat), s.ringWorks = true → (s.lane side).lostSince = some a → (s.lane side).up = true →
    (s.lane side).upAt = some u →
    (s.now < u + 4000000 → Completes (.directionRestored side) s fun t => t = s) ∧
    (u + 4000000 ≤ s.now →
      Completes (.directionRestored side) s fun t =>
        (t.lane side).up = true ∧ (t.lane side).lostSince = none ∧ t.bit (laneReg side) 8 = false ∧
        (∀ y, BreakIs s (s.lane side).partner y → (y.2.any fun k => decide (k ≠ s.nodeId)) = true → t.ring.unwrapDue = true) ∧
        (side = .west → SendsControl s t none [5, word s.ring.west.partner]) ∧
        (side = .east → s.held .rng = false → (s.lane s.ownSide).up = true → mayLeave s (s.frame 2 none []) →
          t.ring.delayReq = some (s.ring.delaySeq, s.nowSt) ∧
          ((s.grantsAt arbRing 7 2).isSome = true →
            t.sent = outputs s s.ownSide (s.frame 2 none [5, word s.ring.east.partner]) ++
              (outputs s .east (s.frame 2 (some s.ring.east.partner) [2, s.ring.delaySeq]) ++ s.sent))) ∧
        SameRegsBut s t (fun k => decide (k = Reg.RNG_STS) || decide (k = laneReg side)))) ∧
  (∀ s : State, s.ringWorks = true → s.bit Reg.RNG_STS 3 = true → s.ring.unwrapDue = true → s.ring.breaks = [] →
    Completes .beaconSend s fun t =>
      t.ring.unwrapDue = false ∧ t.ring.wrapRole = 0 ∧ t.bit Reg.RNG_STS 4 = false ∧
      (s.ring.wrapRole ≠ 0 → t.bit Reg.RNG_EVT0 6 = true) ∧ SameRegsBut s t ringReg) ∧
  (∀ (s : State) (side : Side) (absent : Bool), s.ringWorks = true → lanePin s side = 1 → s.bit (laneReg side) 1 = !absent →
    Completes (.moduleChange side absent) s fun t =>
      t.bit (laneReg side) 1 = absent ∧ t.bit Reg.RNG_EVT0 4 = true ∧ (absent = true → (t.lane side).up = false) ∧
      (absent = false → t.lane side = s.lane side) ∧ SameRegsBut s t (fun k => ringReg k || decide (k = laneReg side)))

/-- FETCHREQ_RX, ARMATURE_FRAME_RX, FETCH_START, FETCH_STALL and FETCH_RETRY complete (R359 to R361): the keeper answers a request with
its image in frames of 12 words, as far as it has grants; a node that may fetch asks from offset 0, takes the words in order and asks again for a missing
one; a node that may not, an image that fails verification and a fetch without progress for 1 s end with RNG_FETCHFAIL. -/
def Sys2Proof.Claims.ArmaturesAreFetched : Prop :=
  (∀ (s : State) (x : RxFrame) (rest : List RxFrame), Oldest s x rest → isControl 8 x.f = true → s.nrg.ready = [] →
    ((s.bit Reg.RNG_STS 3 = false ∨ ringFlag s.arm.committed 0 = false) →
      Completes .fetchreqRx s fun t => t.ring = { s.ring with inbox := rest } ∧ t.sent = s.sent ∧ SameRegsBut s t (fun _ => false)) ∧
    (s.bit Reg.RNG_STS 3 = true → ringFlag s.arm.committed 0 = true → belowCeiling s → s.admits .ringArm = true → s.held .rng = false →
      (s.lane s.ownSide).up = true →
      (let off := (wordAt x.f.w 1).toNat
       let n := ceilDiv (imageFrom s off).length 12
       mayLeave s (s.frame 3 none []) → (s.grantsAt arbRing 8 n).isSome = true →
       Completes .fetchreqRx s fun t =>
        t.ring.serving = none ∧
        (t.sent.filter fun o => match o with | .ringFrame .. => true | _ => false).length =
          (s.sent.filter fun o => match o with | .ringFrame .. => true | _ => false).length + n ∧
        ∀ k, k < n → ∀ o, o ∈ outputs s s.ownSide (imageFrame s x.f.src off (imageFrom s off) k) → o ∈ t.sent))) ∧
  (∀ (s : State) (x : RxFrame) (rest : List RxFrame) (f : Fetch), Oldest s x rest → x.f.typ = 3 → s.nrg.ready = [] → s.ring.fetch = some f →
    (fieldOf (wordAt x.f.w 0) 0 17 < f.words.length →
      Completes .armatureFrameRx s fun t => t.ring = { s.ring with inbox := rest } ∧ t.sent = s.sent ∧ SameRegsBut s t (fun _ => false)) ∧
    (f.words.length < fieldOf (wordAt x.f.w 0) 0 17 →
      Completes .armatureFrameRx s fun t =>
        t.ring.fetch = some f ∧ SendsControl s t s.ring.keeper [8, word f.words.length] ∧ SameRegsBut s t (fun _ => false)) ∧
    (f.words.length = fieldOf (wordAt x.f.w 0) 0 17 → fieldOf (wordAt x.f.w 1) 0 4 = 12 →
      f.words.length + 12 < (wordAt (f.words ++ x.f.w.drop 2) 3).toNat → x.f.w.length = 14 →
      Completes .armatureFrameRx s fun t =>
        t.ring.fetch = some { words := f.words ++ x.f.w.drop 2, progressAt := s.now } ∧ t.sent = s.sent ∧
        SameRegsBut s t (fun _ => false))) ∧
  (∀ s : State, s.ringWorks = true → s.nrg.ready = [] → s.fetchWanted = true →
    (s.mayFetch = true → belowCeiling s → s.admits .ringArm = true → s.ring.serving = none →
      Completes .fetchStart s fun t =>
        (∃ f, t.ring.fetch = some f ∧ f.words = [] ∧ f.progressAt = s.now) ∧ t.bit Reg.RNG_STS 11 = true) ∧
    (s.mayFetch = false → s.ring.fetchNoted = false →
      Completes .fetchStart s fun t => t.bit Reg.RNG_EVT0 17 = true ∧ t.ring.fetch = none ∧ t.ringState = 6)) ∧
  (∀ (s : State) (f : Fetch), s.ringWorks = true → s.ring.fetch = some f → f.progressAt + 400000000 ≤ s.now →
    Completes .fetchStall s fun t =>
      t.ring.fetch = none ∧ t.bit Reg.RNG_STS 11 = false ∧ t.bit Reg.RNG_EVT0 17 = true ∧ t.stage = 0 ∧ t.arm.staged = none ∧
      t.ring.fetchFailAt = some s.now ∧ t.ringState = s.ringState) ∧
  (∀ (s : State) (a : Nat), s.ringWorks = true → s.nrg.ready = [] → s.ring.fetchFailAt = some a → a + 4000000000 ≤ s.now →
    s.fetchWanted = true → s.mayFetch = true → belowCeiling s → s.admits .ringArm = true → s.ring.serving = none →
    Completes .fetchRetry s fun t =>
      t.ring.fetchFailAt = none ∧ (∃ f, t.ring.fetch = some f ∧ f.words = []) ∧ t.bit Reg.RNG_STS 11 = true)

/-- GROUP_LEAVE, REJOIN, JOIN_WRITE, GRPRESET, GROUP_RESET_TIME and DIAG complete (R366 to R369): pair 7 sends LEAVE, sets LEFT and takes
the node to ALONE; REJOIN clears LEFT; JOIN is stored unless it is locked, and clearing it is a leave; a member's GRPRESET goes to
the keeper, the keeper's own is broadcast; at the time given the group-fed channels are quiesced and RNG restarts; DIAG sends an
echo once the planner admits it. -/
def Sys2Proof.Claims.NodesLeaveAndJoin : Prop :=
  (∀ (s : State) (req : Requester) (o : PairOpen), s.pair 7 = some o → o.req = req → s.now ≤ o.openAt + 400000 → o.value = 1 →
    s.openFor (regAcc req (pairV 7 + 4) 0x3FFFE) .rng = true →
    Completes (.groupLeave req 0x3FFFE) s fun t =>
      t.bit Reg.RNG_STS 10 = true ∧ t.ringState = 0 ∧ t.ring.keeper = none ∧ t.pair 7 = none ∧
      (s.ringState ≠ 0 → SendsControl s t none [6]) ∧
      (∀ v, v < 32 → (sprueOf s.image v).kind = 2 → t.veNoSrc v = true)) ∧
  (∀ (s : State) (req : Requester), (s.rd Reg.RNG_CTL).toNat < 2 →
    s.openFor (regAcc req Reg.RNG_CTL (withField (s.rd Reg.RNG_CTL) 1 1 1)) .rng = true → s.bit Reg.RNG_STS 10 = true →
    Completes (.rejoin req) s fun t =>
      t.bit Reg.RNG_STS 10 = false ∧ t.rd Reg.RNG_CTL = s.rd Reg.RNG_CTL ∧
      (s.bit Reg.RNG_JOIN 0 = false → t.ringState = s.ringState)) ∧
  (∀ (s : State) (req : Requester) (v : Word), s.openFor (regAcc req Reg.RNG_JOIN v) .rng = true → v.toNat < 4 →
    (s.bit Reg.RNG_JOIN 1 = false →
      Completes (.joinWrite req v) s fun t =>
        t.rd Reg.RNG_JOIN = v ∧ (v.getLsbD 0 = false → s.bit Reg.RNG_JOIN 0 = true → t.ringState = 0) ∧
        (v.getLsbD 0 = s.bit Reg.RNG_JOIN 0 → t.ring = s.ring)) ∧
    (s.bit Reg.RNG_JOIN 1 = true → v.getLsbD 0 ≠ s.bit Reg.RNG_JOIN 0 →
      Completes (.joinWrite req v) s fun t => t.rd Reg.RNG_JOIN = s.rd Reg.RNG_JOIN ∧ t.ring = s.ring)) ∧
  (∀ (s : State) (req : Requester), (s.rd Reg.RNG_CTL).toNat < 2 → s.ringState = 5 →
    s.openFor (regAcc req Reg.RNG_CTL (withField (s.rd Reg.RNG_CTL) 2 1 1)) .rng = true →
    Completes (.grpreset req) s fun t =>
      (s.bit Reg.RNG_STS 3 = true → t.ring.resetAtGroup = some (toWord54 (s.groupNow / 64 + 400000)) ∧
        SendsControl s t none (7 :: words54 (toWord54 (s.groupNow / 64 + 400000)))) ∧
      (s.bit Reg.RNG_STS 3 = false → t.ring.resetAtGroup = s.ring.resetAtGroup ∧ SendsControl s t s.ring.keeper [7])) ∧
  (∀ (s : State) (g : Word54), s.ringWorks = true → s.ring.resetAtGroup = some g →
    (0 ≤ signedDiff 54 (s.groupNow / 64) g.toNat → (s.island .rng).drain = none →
      Completes .groupResetTime s fun t =>
        t.bit Reg.PLN_RST_CAUSE 8 = true ∧ t.bit Reg.RNG_EVT1 4 = true ∧ (t.island .rng).drain = some .off ∧
        (t.island .rng).recast = true ∧ t.ring.resetAtGroup = none ∧
        ∀ k, k < 128 → (s.chn k).state = .live → (sprueOf s.image (s.chn k).ve).kind = 2 → (t.chn k).state = .quiescing) ∧
    (signedDiff 54 (s.groupNow / 64) g.toNat < 0 → Completes .groupResetTime s fun t => t = s)) ∧
  (∀ (s : State) (req : Requester), (s.rd Reg.RNG_CTL).toNat < 2 → belowCeiling s → s.nrg.ready = [] →
    s.openFor (regAcc req Reg.RNG_CTL (withField (s.rd Reg.RNG_CTL) 3 1 1)) .rng = true →
    (s.admits .ringDiag = true →
      Completes (.diag req) s fun t =>
        t.ring.echoSeq = s.ring.echoSeq + 1 ∧
        (s.held .rng = false → (s.lane s.ownSide).up = true → mayLeave s (s.frame 5 none []) →
          t.ring.echoSentSt = some (s.ring.echoSeq, s.nowSt))) ∧
    (s.admits .ringDiag = false → Completes (.diag req) s fun t => t.ring = s.ring ∧ Work.ringDiag ∈ t.nrg.deferred))

/-! ### Field bus controllers (13_fieldbus.md) -/

namespace Sys2Proof.Claims

/-- The registers of a controller that its state and its events change. -/
def fbReg (c k : Nat) : Bool := eventReg k || decide (k = Reg.FB_STS c) || decide (k = Reg.FB_EVT c)

/-- How many head frames of a controller's TX queues are not on the bus. -/
def headsLost (s : State) (c : Nat) : Nat :=
  ([0, 1].filter fun k => match Tab.get none (s.can c).heads k with
    | some f => decide (s.offered c ≠ some (.queue k, f))
    | none => false).length

/-- The four words of a filter (R381). -/
def filterAt (s : State) (c k : Nat) : Nat := partBase s.image 2 + 512 * c + 4 * k

/-- A filter is enabled, has no word with an uncorrectable error, and decides the frame: IDE, FRAME and the identifier under the mask
(R382). -/
abbrev Takes (s : State) (c k : Nat) (f : CanFrame) : Prop :=
  (∀ j, j < 4 → (s.sramW (filterAt s c k + j)).err ≠ 2) ∧
  filterDecides (s.sramW (filterAt s c k)).checked (s.sramW (filterAt s c k + 1)).checked (s.sramW (filterAt s c k + 2)).checked
    (s.sramW (filterAt s c k + 3)).checked f = true

/-- No word of a controller's filters has an error. -/
abbrev cleanFilters (s : State) (c : Nat) : Prop := ∀ k, k < 128 → ∀ j, j < 4 → (s.sramW (filterAt s c k + j)).err = 0

/-- A frame that the filters accept is staged, or dropped and counted where 1,024 are staged (R384). -/
def StagedOrDropped (s t : State) (x : RxStage) : Prop :=
  (s.fb.stage.length < 1024 → t.fb.stage = s.fb.stage ++ [x]) ∧
  (1024 ≤ s.fb.stage.length →
    t.fb.stage = s.fb.stage ∧ t.rd (Reg.FB_RXDROP x.ctrl) = satAdd (s.rd (Reg.FB_RXDROP x.ctrl)) 1 ∧ t.bit (Reg.FB_EVT x.ctrl) 7 = true)

/-- The data byte `j` as R383 lays it out in a frame's entries: two per word from word 7 of the RXFRAME and word 2 of the RXCONT. -/
def entryByte (es : List QEntry) (j : Nat) : Nat :=
  let w := j / 2
  let x := if w < 9 then wordAt (es.getD 0 { typ := 0, words := [] }).words (6 + w)
    else wordAt (es.getD (1 + (w - 9) / 14) { typ := 0, words := [] }).words (1 + (w - 9) % 14)
  if j % 2 = 0 then fieldOf x 8 8 else fieldOf x 0 8

/-- The completion entry of a frame reaches FB_RXQ[c][0], or is dropped and counted (R390). -/
def ReportsTx (s t : State) (c : Nat) (ws : List Word) : Prop :=
  let q := s.fld (Reg.FB_RXQ c 0) 0 11
  (s.canRoom q 1 = true → takesEntry s q = true → (t.queue q).staged = (s.queue q).staged ++ [{ typ := 0x32, words := ws }]) ∧
  (s.canRoom q 1 = false → t.rd (Reg.FB_RXDROP c) = satAdd (s.rd (Reg.FB_RXDROP c)) 1)

/-- The frames that have gone out on the field buses. -/
def canFrames (l : List Output) : List Output := l.filter fun o => match o with | .canFrame .. => true | _ => false

/-- The frame that leaves is gone from its buffer's request or its queue's head. -/
def Gone (t : State) (c : Nat) (src : TxSource) : Prop :=
  match src with
  | .buffer j => t.bit (Reg.FB_TXREQ c (j / 16)) (j % 16) = false
  | .queue k => Tab.get none (t.can c).heads k = none

def sourceCode (src : TxSource) : Nat := match src with | .buffer j => j * 8 | .queue k => 4 + k * 8

abbrev sourceOk (src : TxSource) : Prop := match src with | .buffer j => j < 64 | .queue k => k < 2

/-- The counters of a controller take new values (R391): the warning levels, WARN96, the error state and their events. -/
def CountersAre (s t : State) (c tec rec : Nat) : Prop :=
  t.fld (Reg.FB_TEC c) 0 9 = tec ∧ t.fld (Reg.FB_REC c) 0 8 = rec ∧
  t.bit (Reg.FB_STS c) 5 = decide (96 ≤ tec ∨ 96 ≤ rec) ∧
  (∀ l, l < 3 →
    t.bit (Reg.FB_STS c) (11 + l) =
      decide ((warnLevels (fbWord s.image c 6) (fbWord s.image c 7)).getD l 0 ≠ 0 ∧ (warnLevels (fbWord s.image c 6) (fbWord s.image c 7)).getD l 0 ≤ tec) ∧
    (t.bit (Reg.FB_STS c) (11 + l) = true → s.bit (Reg.FB_STS c) (11 + l) = false → t.bit (Reg.FB_EVT c) 4 = true) ∧
    t.bit (Reg.FB_STS c) (14 + l) =
      decide ((warnLevels (fbWord s.image c 8) (fbWord s.image c 9)).getD l 0 ≠ 0 ∧ (warnLevels (fbWord s.image c 8) (fbWord s.image c 9)).getD l 0 ≤ rec) ∧
    (t.bit (Reg.FB_STS c) (14 + l) = true → s.bit (Reg.FB_STS c) (14 + l) = false → t.bit (Reg.FB_EVT c) 5 = true)) ∧
  (t.bit (Reg.FB_STS c) 5 = true → s.bit (Reg.FB_STS c) 5 = false → t.bit (Reg.FB_EVT c) 3 = true) ∧
  (tec < 256 → t.fld (Reg.FB_STS c) 3 2 = (if 128 ≤ tec ∨ 128 ≤ rec then 1 else 0)) ∧
  (tec = 256 → t.fld (Reg.FB_STS c) 3 2 = 2) ∧
  (tec < 256 → (128 ≤ tec ∨ 128 ≤ rec) → s.fld (Reg.FB_STS c) 3 2 = 0 → t.bit (Reg.FB_EVT c) 2 = true)

end Sys2Proof.Claims

/-- FB_INIT_SET, FB_INIT_CLEAR, FB_INTEGRATION_DONE, FB_QUIET_END and CAN_PROTOCOL_EXCEPTION complete (R373, R378 to R380): setting INIT
clears every request and discards the head frames, while the frame that the controller offers completes; a CONTROLLER with a MODE
leaves initialisation with TEC and REC zero, integrates, runs its quiet period and raises READY at its end. -/
def Sys2Proof.Claims.ControllersStart : Prop :=
  (∀ (s : State) (req : Requester) (c : Fin 4), (s.rd (Reg.FB_CTL c.val)).toNat < 32 →
    s.openFor (regAcc req (Reg.FB_CTL c.val) (withField (s.rd (Reg.FB_CTL c.val)) 0 1 1)) .fld = true →
    (s.bit (Reg.FB_CTL c.val) 0 = true → Completes (.fbInitSet req c) s fun t => SameRegsBut s t (fun _ => false)) ∧
    (s.bit (Reg.FB_CTL c.val) 0 = false →
      Completes (.fbInitSet req c) s fun t =>
        t.bit (Reg.FB_CTL c.val) 0 = true ∧ t.offered c.val = s.offered c.val ∧
        (∀ k, k < 4 → ∀ b, b < 16 → t.bit (Reg.FB_TXREQ c.val k) b = false) ∧ (∀ k, k < 2 → Tab.get none (t.can c.val).heads k = none) ∧
        (s.fbPhase c.val ≠ 6 → t.fbPhase c.val = 0 ∧ t.bit (Reg.FB_STS c.val) 6 = false) ∧
        t.rd (Reg.FB_TXDISC c.val) = (List.range (headsLost s c.val)).foldl (fun n _ => satAdd n 1) (s.rd (Reg.FB_TXDISC c.val)))) ∧
  (∀ (s : State) (req : Requester) (c : Fin 4), (s.rd (Reg.FB_CTL c.val)).toNat < 32 → s.bit (Reg.FB_CTL c.val) 0 = true →
    s.openFor (regAcc req (Reg.FB_CTL c.val) (withField (s.rd (Reg.FB_CTL c.val)) 0 1 0)) .fld = true →
    (s.fbPin c.val = 1 → fbMode s.image c.val ≠ 0 →
      Completes (.fbInitClear req c) s fun t =>
        t.bit (Reg.FB_CTL c.val) 0 = false ∧ t.fbPhase c.val = 1 ∧ t.rd (Reg.FB_TEC c.val) = 0 ∧ t.rd (Reg.FB_REC c.val) = 0 ∧
        t.fld (Reg.FB_STS c.val) 3 2 = 0 ∧ t.fld (Reg.FB_TERM c.val) 12 2 = 3 ∧ (t.can c.val).quietDue = true ∧
        SameRegsBut s t (fun k => decide (k = Reg.FB_CTL c.val) || decide (k = Reg.FB_STS c.val) || decide (k = Reg.FB_TEC c.val) ||
          decide (k = Reg.FB_REC c.val) || decide (k = Reg.FB_TERM c.val))) ∧
    ((s.fbPin c.val ≠ 1 ∨ fbMode s.image c.val = 0) →
      Completes (.fbInitClear req c) s fun t => SameRegsBut s t (fun _ => false))) ∧
  (∀ (s : State) (c : Fin 4), s.fldRuns = true →
    (s.fbPhase c.val ≠ 1 → Completes (.fbIntegrationDone c) s fun t => t = s) ∧
    (s.fbPhase c.val = 1 →
      Completes (.fbIntegrationDone c) s fun t =>
        t.fbPhase c.val = (if (s.can c.val).quietDue = true ∨ (s.can c.val).quietAt ≠ none then 2 else 3) ∧
        ((s.can c.val).quietDue = true → (t.can c.val).quietAt = some s.now ∧ (t.can c.val).quietDue = false) ∧
        SameRegsBut s t (fun k => decide (k = Reg.FB_STS c.val)))) ∧
  (∀ (s : State) (c : Fin 4) (a : Nat), s.fldRuns = true → (s.can c.val).quietAt = some a →
    (a + 400000 * (fbWord s.image c.val 4).toNat ≤ s.now →
      Completes (.fbQuietEnd c) s fun t =>
        (t.can c.val).quietAt = none ∧ t.bit (Reg.FB_EVT c.val) 14 = true ∧
        t.fbPhase c.val = (if s.fbPhase c.val = 2 then 3 else s.fbPhase c.val) ∧ SameRegsBut s t (fbReg c.val)) ∧
    (s.now < a + 400000 * (fbWord s.image c.val 4).toNat → Completes (.fbQuietEnd c) s fun t => t = s)) ∧
  (∀ (s : State) (c : Fin 4), s.fldRuns = true → (s.fbPhase c.val = 2 ∨ s.fbPhase c.val = 3) →
    (fbMode s.image c.val = 1 →
      Completes (.canProtocolException c) s fun t =>
        t.fbPhase c.val = 1 ∧ t.fb = s.fb ∧ SameRegsBut s t (fun k => decide (k = Reg.FB_STS c.val))) ∧
    (fbMode s.image c.val ≠ 1 → Completes (.canProtocolException c) s fun t => t = s))

/-- CAN_FRAME_RX and CAN_RX_ENTRY_WRITE complete (R382 to R384), whatever the frame's fields (`f` is what stands on the bus): the first filter that decides the frame accepts or rejects it, NOMATCH
where none does; an accepted frame is staged; at its turn it is written whole to the queue that QSEL names, in one to three
entries, or dropped whole. -/
def Sys2Proof.Claims.FramesAreReceived : Prop :=
  (∀ (s : State) (c : Fin 4) (g f : CanFrame) (sof : Nat), f = g.onBus → s.fldRuns = true → (s.fbPhase c.val = 2 ∨ s.fbPhase c.val = 3) →
    (f.fdf = true → fbMode s.image c.val = 1) → s.tec c.val < 256 →
    (∀ k, k < 128 → Takes s c.val k f → (∀ j, j < k → ¬Takes s c.val j f) →
      Completes (.canFrameRx c g sof) s fun t =>
        ((s.sramW (filterAt s c.val k)).checked.getLsbD 16 = true → t.bit (Reg.FB_EVT c.val) 15 = true) ∧
        ((s.sramW (filterAt s c.val k)).checked.getLsbD 13 = true →
          StagedOrDropped s t { ctrl := c.val, f := f, qsel := fieldOf (s.sramW (filterAt s c.val k)).checked 14 2, filter := k,
                                noMatch := false, sofT := s.devTime - BitVec.ofNat 54 sof }) ∧
        ((s.sramW (filterAt s c.val k)).checked.getLsbD 13 = false → t.fb.stage = s.fb.stage)) ∧
    ((∀ k, k < 128 → ¬Takes s c.val k f) →
      Completes (.canFrameRx c g sof) s fun t =>
        (s.bit (Reg.FB_CTL c.val) 4 = true →
          ∃ k, k < 128 ∧ StagedOrDropped s t { ctrl := c.val, f := f, qsel := 0, filter := k, noMatch := true, sofT := s.devTime - BitVec.ofNat 54 sof }) ∧
        (s.bit (Reg.FB_CTL c.val) 4 = false → t.fb.stage = s.fb.stage)) ∧
    Completes (.canFrameRx c g sof) s fun t =>
      (s.recCnt c.val ≤ 127 → t.recCnt c.val = s.recCnt c.val - 1) ∧
      (127 < s.recCnt c.val → 119 ≤ t.recCnt c.val ∧ t.recCnt c.val ≤ 127) ∧ t.tec c.val = s.tec c.val ∧
      (cleanFilters s c.val →
        SameRegsBut s t (fun k => fbReg c.val k || decide (k = Reg.FB_TEC c.val) || decide (k = Reg.FB_REC c.val) || decide (k = Reg.FB_RXDROP c.val)))) ∧
  (∀ (s : State) (x : RxStage) (rest : List RxStage), s.fldRuns = true → s.fb.stage = x :: rest →
    let q := s.fld (Reg.FB_RXQ x.ctrl x.qsel) 0 11
    (s.canRoom q (rxEntries x).length = true → takesEntry s q = true →
      Completes .canRxEntryWrite s fun t =>
        t.fb.stage = rest ∧ (t.queue q).staged = (s.queue q).staged ++ rxEntries x ∧ (∀ r, r ≠ q → t.queue r = s.queue r) ∧
        t.rd (Reg.FB_RXDROP x.ctrl) = s.rd (Reg.FB_RXDROP x.ctrl)) ∧
    (s.canRoom q (rxEntries x).length = false →
      Completes .canRxEntryWrite s fun t =>
        t.fb.stage = rest ∧ t.rd (Reg.FB_RXDROP x.ctrl) = satAdd (s.rd (Reg.FB_RXDROP x.ctrl)) 1 ∧ t.bit (Reg.FB_EVT x.ctrl) 7 = true ∧
        (t.queue q).prod = (s.queue q).prod)) ∧
  (∀ s : State, s.fb.stage = [] → Completes .canRxEntryWrite s fun t => t = s)

/-- The entries of an accepted frame (R383): one RXFRAME, and one or two RXCONT for more than 18 and more than 46 data bytes, with every
field and every data byte in its place. -/
def Obligations.RxEntriesHoldTheFrame : Prop :=
  ∀ (x : RxStage), x.f.ok = true → x.ctrl < 4 → x.filter < 128 →
    ∃ e more, rxEntries x = e :: more ∧ e.typ = 0x30 ∧ (∀ m, m ∈ more → m.typ = 0x31) ∧
      more.length = (if x.f.data.length ≤ 18 then 0 else if x.f.data.length ≤ 46 then 1 else 2) ∧
      fieldOf (wordAt e.words 0) 0 2 = x.ctrl ∧ (wordAt e.words 0).getLsbD 2 = x.f.ide ∧ (wordAt e.words 0).getLsbD 3 = x.f.fdf ∧
      (wordAt e.words 0).getLsbD 4 = x.f.brs ∧ (wordAt e.words 0).getLsbD 5 = x.f.esi ∧ (wordAt e.words 0).getLsbD 6 = x.f.rtr ∧
      fieldOf (wordAt e.words 0) 7 4 = x.f.dlc.toNat ∧ fieldOf (wordAt e.words 0) 11 7 = x.filter ∧
      (wordAt e.words 1).getLsbD 17 = x.noMatch ∧
      (x.f.ide = true → fieldOf (wordAt e.words 1) 0 11 = x.f.ident.toNat / 2 ^ 18 ∧ (wordAt e.words 2).toNat = x.f.ident.toNat % 2 ^ 18) ∧
      (x.f.ide = false → (wordAt e.words 2).toNat = x.f.ident.toNat) ∧
      join54 (wordAt e.words 3) (wordAt e.words 4) (wordAt e.words 5) = x.sofT ∧
      (∀ k, ∀ m ∈ more[k]?, fieldOf (wordAt m.words 0) 0 2 = x.ctrl ∧ fieldOf (wordAt m.words 0) 2 2 = k + 1) ∧
      ∀ j, j < x.f.data.length → entryByte (rxEntries x) j = (x.f.data.getD j 0).toNat

/-- TXREQ_SET, TXREQ_CANCEL and CANTX_FETCH complete (R387, R388): a bit written as one requests its buffer, or is counted as discarded
where the buffer's flags are illegal; a cancelled request is clear, and the frame that the controller has in arbitration stays
there; the next entry of a TX queue is fetched while it has no head frame. -/
def Sys2Proof.Claims.FramesAreRequested : Prop :=
  (∀ (s : State) (req : Requester) (c k : Fin 4) (bits : BitVec 16), (s.rd (Reg.FB_TXREQ c.val k.val)).toNat < 65536 →
    s.openFor (regAcc req (Reg.FB_TXREQ c.val k.val + 0x4000) (word bits.toNat)) .fld = true →
    Completes (.txreqSet req c k bits) s fun t =>
      (∀ b, b < 16 →
        t.bit (Reg.FB_TXREQ c.val k.val) b = (s.bit (Reg.FB_TXREQ c.val k.val) b ||
          (bits.getLsbD b && !canIllegal (s.bufFrame c.val (16 * k.val + b)).f (fbMode s.image c.val)))) ∧
      ((∀ b, b < 16 → bits.getLsbD b = true → canIllegal (s.bufFrame c.val (16 * k.val + b)).f (fbMode s.image c.val) = false) →
        t.rd (Reg.FB_TXDISC c.val) = s.rd (Reg.FB_TXDISC c.val)) ∧
      SameRegsBut s t (fun j => decide (j = Reg.FB_TXREQ c.val k.val) || decide (j = Reg.FB_TXDISC c.val))) ∧
  (∀ (s : State) (req : Requester) (c k : Fin 4) (bits : BitVec 16), (s.rd (Reg.FB_TXREQ c.val k.val)).toNat < 65536 →
    s.openFor (regAcc req (Reg.FB_TXREQ c.val k.val + 0x8000) (word bits.toNat)) .fld = true →
    Completes (.txreqCancel req c k bits) s fun t =>
      (∀ b, b < 16 → t.bit (Reg.FB_TXREQ c.val k.val) b = (s.bit (Reg.FB_TXREQ c.val k.val) b && !bits.getLsbD b)) ∧
      t.offered c.val = s.offered c.val ∧ SameRegsBut s t (fun j => decide (j = Reg.FB_TXREQ c.val k.val))) ∧
  (∀ (s : State) (c : Fin 4) (k : Fin 2) (q tag : Nat), s.fldRuns = true → fieldOf (s.rd (Reg.FB_TXQ c.val k.val)) 0 11 = q →
    (((s.rd (Reg.FB_TXQ c.val k.val)).getLsbD 11 = false ∨ Tab.get none (s.can c.val).heads k.val ≠ none) →
      Completes (.cantxFetch c k) s fun t => t = s) ∧
    ((s.rd (Reg.FB_TXQ c.val k.val)).getLsbD 11 = true → Tab.get none (s.can c.val).heads k.val = none → (s.queue q).typ = 5 →
      (s.queue q).state = .enabled → (s.queue q).fetching = false → (s.queue q).needDoorbell = false →
      (s.queue q).prod ≠ (s.queue q).fetchPos → (s.queue q).translated = false → s.canSend = true → s.freeTag = some tag →
      (s.grantAt arbHostTx 3).isSome = true →
      Completes (.cantxFetch c k) s fun t =>
        (t.queue q).fetching = true ∧ t.txn.tags = s.txn.tags ++ [{ tag := tag, who := .canQueue c.val k.val q, issuedAt := s.now }] ∧
        t.sent = Output.memRead tag ((s.queue q).addr (s.queue q).fetchPos.toNat) 16 :: s.sent))

/-- CAN_FRAME_TX_DONE and CAN_TX_FAIL complete (R376, R377, R389, R390, R395): of the frames that wait, the one that wins arbitration
leaves; its source is cleared, its bit and TXDONE or TXFAIL are set, the completion entry is written where EVREQ asks for it, TEC
falls by one, and the amplitude is classified. -/
def Sys2Proof.Claims.FramesAreSent : Prop :=
  (∀ (s : State) (c : Fin 4), s.fbPhase c.val = 3 → (s.can c.val).onBus = none → s.listens c.val = false →
    (s.txWaiting c.val = [] → s.offered c.val = none) ∧
    (∀ x ∈ s.txWaiting c.val, ∃ y, s.offered c.val = some y ∧ y ∈ s.txWaiting c.val ∧ canKey y.2.f ≤ canKey x.2.f)) ∧
  (∀ (s : State) (c : Fin 4) (sof : Nat) (amp : BitVec 12) (delay : BitVec 7) (src : TxSource) (x : TxFrame),
    s.fldRuns = true → s.held .fld = false → s.fbPhase c.val ≠ 6 → s.offered c.val = some (src, x) → sourceOk src →
    s.bit (Reg.FB_CTL c.val) 3 = false → s.tec c.val ≤ 256 →
    Completes (.canFrameTxDone c sof amp delay) s fun t =>
      canFrames t.sent = Output.canFrame c.val (s.asSent c.val x.f) :: canFrames s.sent ∧
      ((s.asSent c.val x.f).brs = (x.f.brs && (fbWord s.image c.val 0).getLsbD 2 && decide (fbMode s.image c.val = 1) && !s.bit Reg.CLK_STS 1)) ∧
      (t.can c.val).onBus = none ∧ ((s.can c.val).onBus = none → Gone t c.val src) ∧ t.tec c.val = s.tec c.val - 1 ∧
      (∀ j, src = .buffer j → t.bit (Reg.FB_TXDONE c.val (j / 16)) (j % 16) = true) ∧ t.bit (Reg.FB_EVT c.val) 8 = true ∧
      (x.marker.getLsbD 16 = true →
        ReportsTx s t c.val ([word (c.val + sourceCode src), word (fieldOf x.marker 0 16)] ++ words54 (s.devTime - BitVec.ofNat 54 sof))) ∧
      ((s.asSent c.val x.f).brs = true →
        t.rd (Reg.FB_TDC c.val) = word (delay.toNat + 128 * min 127 (delay.toNat + fieldOf (fbWord s.image c.val 3) 11 7))) ∧
      t.fld (Reg.FB_TERM c.val) 0 12 = amp.toNat ∧
      t.fld (Reg.FB_TERM c.val) 12 2 = (if 2500 < amp.toNat then 1 else if amp.toNat < 1700 then 2 else 0) ∧ t.fb.stage = s.fb.stage) ∧
  (∀ (s : State) (c : Fin 4) (sof : Nat) (amp : BitVec 12) (delay : BitVec 7),
    s.fldRuns = true → s.held .fld = false → s.fbPhase c.val = 6 → s.bit Reg.ARM_STS 12 = false →
    Completes (.canFrameTxDone c sof amp delay) s fun t =>
      t.fld (Reg.FB_TERM c.val) 0 12 = amp.toNat ∧
      t.fld (Reg.FB_TERM c.val) 12 2 = (if 2500 < amp.toNat then 1 else if amp.toNat < 1700 then 2 else 0) ∧
      SameRegsBut s t (fun k => eventReg k || decide (k = Reg.FB_TERM c.val) || decide (k = Reg.FB_EVT c.val))) ∧
  (∀ (s : State) (c : Fin 4), s.fldRuns = true → s.bit (Reg.FB_CTL c.val) 2 = false → Completes (.canTxFail c) s fun t => t = s) ∧
  (∀ (s : State) (c : Fin 4) (src : TxSource) (x : TxFrame), s.fldRuns = true → s.bit (Reg.FB_CTL c.val) 2 = true →
    s.offered c.val = some (src, x) → sourceOk src →
    Completes (.canTxFail c) s fun t =>
      ((s.can c.val).onBus = none → Gone t c.val src) ∧ t.bit (Reg.FB_EVT c.val) 9 = true ∧ t.tec c.val = s.tec c.val ∧
      (∀ j, src = .buffer j → t.bit (Reg.FB_TXFAIL c.val (j / 16)) (j % 16) = true) ∧
      (x.marker.getLsbD 16 = true →
        ReportsTx s t c.val ([word (c.val + sourceCode src + 512), word (fieldOf x.marker 0 16)] ++ words54 0)))

/-- The LIMITED window of a controller as it stands now, where it began, and the bus-offs it has counted: a window that is over has
neither (R392). -/
def Sys2Proof.Claims.windowNow (s : State) (c : Nat) : Option Nat × Nat :=
  match (s.can c).windowAt with
  | some a => if a + 400000 * (fbWord s.image c 5).toNat ≤ s.now then (none, 0) else (some a, s.fld (Reg.FB_BOCNT c) 0 8)
  | none => (none, s.fld (Reg.FB_BOCNT c) 0 8)

/-- CAN_BUS_ERROR, CAN_BUSOFF_RECOVERED, FB_RECOVER and LIMITED_WINDOW_END complete (R391, R392): an error is counted and shown, TEC and
REC move with their warning levels; a TEC past 255 is bus-off, which MANUAL and a spent LIMITED window leave to RECOVER; recovery
raises BUSON with both counters zero. By how much an error moves a counter is taken from ISO 11898-1 (log 57). -/
def Sys2Proof.Claims.ErrorsAreConfined : Prop :=
  (∀ (s : State) (c : Fin 4) (err : CanError) (tx : Bool), s.fldRuns = true → s.tec c.val < 256 → s.fld (Reg.FB_STS c.val) 3 2 < 2 →
    (s.fbPhase c.val = 3 ∨ (s.fbPhase c.val = 2 ∧ tx = false)) → (tx = true → s.offered c.val ≠ none) →
    ¬(tx = true ∧ err = .ack ∧ s.fld (Reg.FB_STS c.val) 3 2 = 1) →
    let tec := if tx then min 256 (s.tec c.val + 8) else s.tec c.val
    let rec' := if tx then s.recCnt c.val else min 255 (s.recCnt c.val + if err = .bit0 ∨ err = .bit1 then 8 else 1)
    Completes (.canBusError c err tx) s fun t =>
      t.rd (Reg.FB_ERRCNT c.val) = satAdd (s.rd (Reg.FB_ERRCNT c.val)) 1 ∧ t.fld (Reg.FB_STS c.val) 8 3 = lecOf err ∧
      t.bit (Reg.FB_EVT c.val) 13 = true ∧ CountersAre s t c.val tec rec' ∧
      (tec < 256 → t.fbPhase c.val = s.fbPhase c.val) ∧
      (tec = 256 →
        t.rd (Reg.FB_BUSOFFS c.val) = satAdd (s.rd (Reg.FB_BUSOFFS c.val)) 1 ∧ t.bit (Reg.FB_EVT c.val) 0 = true ∧
        (fieldOf (fbWord s.image c.val 0) 3 2 = 0 → t.fbPhase c.val = 5) ∧
        (fieldOf (fbWord s.image c.val 0) 3 2 = 1 → t.fbPhase c.val = 4) ∧
        (fieldOf (fbWord s.image c.val 0) 3 2 = 2 →
          (t.can c.val).windowAt = some ((Claims.windowNow s c.val).1.getD s.now) ∧
          ((Claims.windowNow s c.val).2 < fieldOf (fbWord s.image c.val 0) 6 8 → t.fbPhase c.val = 5) ∧
          (fieldOf (fbWord s.image c.val 0) 6 8 ≤ (Claims.windowNow s c.val).2 → t.fbPhase c.val = 4 ∧ t.bit (Reg.FB_EVT c.val) 6 = true))) ∧
      SameRegsBut s t (fun k => fbReg c.val k || decide (k = Reg.FB_TEC c.val) || decide (k = Reg.FB_REC c.val) ||
        decide (k = Reg.FB_ERRCNT c.val) || decide (k = Reg.FB_BUSOFFS c.val) || decide (k = Reg.FB_BOCNT c.val))) ∧
  (∀ (s : State) (c : Fin 4), s.fldRuns = true → s.fbPhase c.val = 3 → s.offered c.val ≠ none → s.fld (Reg.FB_STS c.val) 3 2 = 1 →
    Completes (.canBusError c .ack true) s fun t =>
      t.tec c.val = s.tec c.val ∧ t.recCnt c.val = s.recCnt c.val ∧ t.rd (Reg.FB_ERRCNT c.val) = satAdd (s.rd (Reg.FB_ERRCNT c.val)) 1) ∧
  (∀ (s : State) (c : Fin 4), s.fldRuns = true →
    (s.fbPhase c.val ≠ 5 → Completes (.canBusoffRecovered c) s fun t => t = s) ∧
    (s.fbPhase c.val = 5 →
      Completes (.canBusoffRecovered c) s fun t =>
        t.fbPhase c.val = 3 ∧ CountersAre s t c.val 0 0 ∧ t.bit (Reg.FB_EVT c.val) 1 = true ∧
        ((Claims.windowNow s c.val).1 ≠ none → t.rd (Reg.FB_BOCNT c.val) = word (min 255 ((Claims.windowNow s c.val).2 + 1))) ∧
        ((Claims.windowNow s c.val).1 = none → t.fld (Reg.FB_BOCNT c.val) 0 8 = (Claims.windowNow s c.val).2) ∧
        SameRegsBut s t (fun k => fbReg c.val k || decide (k = Reg.FB_TEC c.val) || decide (k = Reg.FB_REC c.val) || decide (k = Reg.FB_BOCNT c.val)))) ∧
  (∀ (s : State) (req : Requester) (c : Fin 4), (s.rd (Reg.FB_CTL c.val)).toNat < 32 →
    s.openFor (regAcc req (Reg.FB_CTL c.val) (withField (s.rd (Reg.FB_CTL c.val)) 5 1 1)) .fld = true →
    Completes (.fbRecover req c) s fun t =>
      t.fbPhase c.val = (if s.fbPhase c.val = 4 then 5 else s.fbPhase c.val) ∧ SameRegsBut s t (fun k => decide (k = Reg.FB_STS c.val))) ∧
  (∀ (s : State) (c : Fin 4) (a : Nat), s.fldRuns = true → (s.can c.val).windowAt = some a →
    (a + 400000 * (fbWord s.image c.val 5).toNat ≤ s.now →
      Completes (.limitedWindowEnd c) s fun t =>
        (t.can c.val).windowAt = none ∧ t.rd (Reg.FB_BOCNT c.val) = 0 ∧ SameRegsBut s t (fun k => decide (k = Reg.FB_BOCNT c.val))) ∧
    (s.now < a + 400000 * (fbWord s.image c.val 5).toNat → Completes (.limitedWindowEnd c) s fun t => t = s))

/-- CAN_SWAP_DETECT, POLARITY_INVERT, CAN_LINE_SHORT, CAN_LINE_SHORT_END, TXD_DOMINANT_TIMEOUT and TXDTO_REARM complete (R393, R394,
R396): each sets or clears its bit of FB_LINE, a new fault raises SWAP or LINE, and the polarity inverts, and inverts back, only
where bit 5 of the entry's MODE is set. -/
def Sys2Proof.Claims.BusLinesAreWatched : Prop :=
  (∀ (s : State) (c : Fin 4), s.fldRuns = true → s.fbPhase c.val ≠ 0 →
    Completes (.canSwapDetect c) s fun t =>
      t.bit (Reg.FB_LINE c.val) 0 = true ∧ t.bit (Reg.FB_EVT c.val) 10 = true ∧
      (t.can c.val).swapDue = ((fbWord s.image c.val 0).getLsbD 5 || (s.can c.val).swapDue) ∧
      SameRegsBut s t (fun k => fbReg c.val k || decide (k = Reg.FB_LINE c.val))) ∧
  (∀ (s : State) (c : Fin 4), s.fldRuns = true →
    ((s.can c.val).swapDue = false → Completes (.polarityInvert c) s fun t => t = s) ∧
    ((s.can c.val).swapDue = true →
      Completes (.polarityInvert c) s fun t =>
        t.bit (Reg.FB_STS c.val) 6 = !s.bit (Reg.FB_STS c.val) 6 ∧ (t.can c.val).swapDue = false ∧
        SameRegsBut s t (fun k => decide (k = Reg.FB_STS c.val)))) ∧
  (∀ (s : State) (c : Fin 4) (line : CanLine), s.isOn .fld = true → s.fbPin c.val ≠ 0 →
    (Completes (.canLineShort c line) s fun t =>
      t.bit (Reg.FB_LINE c.val) (lineBit line) = true ∧ t.bit (Reg.FB_EVT c.val) 11 = true ∧ t.fb = s.fb ∧
      SameRegsBut s t (fun k => fbReg c.val k || decide (k = Reg.FB_LINE c.val))) ∧
    (Completes (.canLineShortEnd c line) s fun t =>
      t.bit (Reg.FB_LINE c.val) (lineBit line) = false ∧ SameRegsBut s t (fun k => decide (k = Reg.FB_LINE c.val))) ∧
    (Completes (.txdDominantTimeout c) s fun t =>
      t.bit (Reg.FB_LINE c.val) 5 = true ∧ t.bit (Reg.FB_EVT c.val) 11 = true ∧ t.fb = s.fb ∧
      SameRegsBut s t (fun k => fbReg c.val k || decide (k = Reg.FB_LINE c.val))) ∧
    (Completes (.txdtoRearm c) s fun t =>
      t.bit (Reg.FB_LINE c.val) 5 = false ∧ SameRegsBut s t (fun k => decide (k = Reg.FB_LINE c.val)))) ∧
  (∀ (s : State) (c : Fin 4) (line : CanLine), s.isOn .fld = true → s.fbPin c.val = 0 →
    Completes (.canLineShort c line) s fun t => t = s)

/-! ### The satellite port and its bridge (14_satellite_bridge.md) -/

namespace Sys2Proof.Claims

/-- A request for the satellite bus that R407 and R408 admit: a master present and out of reset, or the device; the lock free, or the
requester's own. -/
def mayHaveBus (s : State) (r : SatRequest) : Bool :=
  (decide (r.who.val = 2) || s.masterThere r.who.val) && (decide (s.sat.lockBy = 0) || decide (s.sat.lockBy = r.who.val + 1))

/-- The activity of a satellite request (R407). -/
def satActivity (r : SatRequest) : Nat := if r.test then 15 else if r.who.val = 2 then 5 else 4

/-- LASTERR shows a cause and a requester, and an address where one is stated (R428). -/
def LastErr (t : State) (cause requester : Nat) (addr : Option (BitVec 22)) : Prop :=
  fieldOf (wordAt t.sat.lastErr 0) 10 4 = cause ∧ fieldOf (wordAt t.sat.lastErr 0) 4 2 = requester ∧
  ∀ a ∈ addr, fieldOf (wordAt t.sat.lastErr 0) 0 4 = a.toNat / 2 ^ 18 ∧ (wordAt t.sat.lastErr 1).toNat = a.toNat % 2 ^ 18

/-- LASTERR of an error of the bridge, with its window. -/
def BridgeErr (t : State) (cause win : Nat) (a : BitVec 22) : Prop :=
  LastErr t cause 0 (some a) ∧ fieldOf (wordAt t.sat.lastErr 0) 6 4 = win

/-- The burst of a master is heard: the bus works, the master is there, its lock was not broken, the address has good parity. -/
abbrev heard (s : State) (m : Nat) (b : SatBurst) : Prop :=
  s.satBusOpen = true ∧ s.masterThere m = true ∧ s.sat.deaf.getLsbD m = false ∧ b.addrPar = true ∧ b.lock = false ∧
  ∀ w ∈ b.words, w.parBad = false

/-- A split request that R419, R421 and R422 permit to host memory. -/
def splitToHost (s : State) (m : Nat) (b : SatBurst) : Bool :=
  decide (spaceOf b.addr = 1) && s.hostSpaceOk m && (decide (b.cmd.toNat ≠ 5) || ((hatmOp b.len).isSome && s.atomicReqEn))

/-- The command of a split burst, with any operands, and the burst that stands on the bus. -/
abbrev IsSplit (c : Instr) (m : Fin 2) (b : SatBurst) : Prop :=
  ∃ raw : SatBurst, (c = .satHrd m raw ∧ b = raw.onBus 3) ∨ (c = .satHatm m raw ∧ b = raw.onBus 5)

/-- Nothing waits in the bridge. -/
abbrev bridgeIdle (s : State) : Prop := s.sat.toHost = [] ∧ s.sat.nonPosted = [] ∧ s.sat.posted = []

/-- The device may run a burst now (R407, R408). -/
abbrev deviceTurn (s : State) : Prop := s.satBusOpen = true ∧ s.sat.grant = 3 ∧ s.sat.lockBy ≠ 1 ∧ s.sat.lockBy ≠ 2

/-- A host request of BAR2 that one window takes: its words and partial dwords (R411, R412). -/
def windowWords (w : SatWindow) (j : Nat) (a : Bar2Access) : List (BitVec 22 × SatWord) :=
  ((List.range a.dwords.length).zip a.dwords).filterMap fun e =>
    if beKind e.2.1 = 1 then some (w.word (j + e.1), ({ data := word e.2.2.toNat, poi := a.poisoned } : SatWord)) else none
def windowWant (w : SatWindow) (j : Nat) (a : Bar2Access) : List (Option (BitVec 22)) :=
  ((List.range a.dwords.length).zip a.dwords).map fun e => if beKind e.2.1 = 0 then none else some (w.word (j + e.1))
def partials (a : Bar2Access) : Nat := (a.dwords.filter fun d => decide (beKind d.1 = 2)).length

def confirmedWin (s : State) (n : Nat) : Bool := ((satWindows s.image).find? fun w => decide (w.num = n)).map (·.confirmed) |>.getD false

end Sys2Proof.Claims

/-- SAT_GRANT, SAT_GRANT_TIMEOUT, SAT_LOCK_TAKE, SAT_LOCK_RELEASE, SAT_LOCKMAX_EXPIRY and SAT_LKSTS_READ complete (R407 to R410): the bus
goes to an admitted requester, while the lock is held to its holder only; a grant unused for 16 cycles is withdrawn; a free lock is
taken, its holder releases it outside a burst, SAT_LOCKMAX breaks it; only its holder's read clears BROKEN. -/
def Sys2Proof.Claims.BusAndLock : Prop :=
  (∀ (s : State) (reqs : List SatRequest), s.satBusOpen = true →
    Completes (.satGrant reqs) s fun t =>
      (t.sat = s.sat ∨ ∃ r ∈ reqs, mayHaveBus s r = true ∧ t.sat = { s.sat with grant := r.who.val + 1, grantAt := s.now, burstSince := false }) ∧
      t.sent = s.sent ∧ SameRegsBut s t (fun _ => false)) ∧
  (∀ (s : State) (r : SatRequest), s.satBusOpen = true → mayHaveBus s r = true → mayWin s 9 (satActivity r) = true →
    Completes (.satGrant [r]) s fun t =>
      t.sat.grant = r.who.val + 1 ∧ (t.arb 9).granted (satActivity r) = (s.arb 9).granted (satActivity r) + 1) ∧
  (∀ (s : State) (m : Fin 2), s.satRuns = true →
    ((s.sat.grant ≠ m.val + 1 ∨ s.sat.burstSince = true ∨ s.now < s.sat.grantAt + s.satCycles 16) →
      Completes (.satGrantTimeout m) s fun t => t = s) ∧
    (s.sat.grant = m.val + 1 → s.sat.burstSince = false → s.sat.grantAt + s.satCycles 16 ≤ s.now →
      Completes (.satGrantTimeout m) s fun t => t = { s with sat := { s.sat with grant := 0 } })) ∧
  (∀ (s : State) (m : Fin 2), s.satRuns = true → s.masterThere m.val = true →
    (s.sat.lockBy = 0 → s.sat.deaf.getLsbD m.val = false →
      Completes (.satLockTake m) s fun t => t.sat.lockBy = m.val + 1 ∧ t.sat.lockAt = s.now ∧ t.sat.broken = s.sat.broken ∧ SameRegsBut s t (fun _ => false)) ∧
    (s.sat.lockBy ≠ 0 → Completes (.satLockTake m) s fun t => t = s)) ∧
  (∀ (s : State) (m : Fin 2),
    Completes (.satLockRelease m) s fun t =>
      t.sat.lockBy = (if s.sat.lockBy = m.val + 1 ∧ s.inBurst m.val = false then 0 else s.sat.lockBy) ∧
      t.sat.deaf.getLsbD m.val = false ∧ t.sat.lockPin.getLsbD m.val = false ∧
      t.sat.deaf.getLsbD (1 - m.val) = s.sat.deaf.getLsbD (1 - m.val) ∧ t.sat.broken = s.sat.broken ∧ SameRegsBut s t (fun _ => false)) ∧
  (∀ (s : State) (m : Fin 2), s.satRuns = true → s.sat.lockBy = m.val + 1 →
    ((s.rd Reg.SAT_LOCKMAX = 0 ∨ s.now < s.sat.lockAt + 400 * (s.rd Reg.SAT_LOCKMAX).toNat) → Completes .satLockmaxExpiry s fun t => t = s) ∧
    (s.rd Reg.SAT_LOCKMAX ≠ 0 → s.sat.lockAt + 400 * (s.rd Reg.SAT_LOCKMAX).toNat ≤ s.now →
      Completes .satLockmaxExpiry s fun t =>
        t.sat.lockBy = 0 ∧ t.sat.broken = true ∧ t.sat.deaf.getLsbD m.val = true ∧ LastErr t 7 (m.val + 1) none ∧
        t.bit Reg.SAT_EVT 10 = true ∧ t.bit Reg.SAT_EVT 15 = true ∧ SameRegsBut s t (fun k => eventReg k || decide (k = Reg.SAT_EVT)))) ∧
  (∀ (s : State) (req : Requester), s.openFor (readAcc req Reg.SAT_LKSTS) .sat = true →
    Completes (.satLkstsRead req) s fun t =>
      Answered s t (readAcc req Reg.SAT_LKSTS) (word ((if s.sat.lockBy = 0 then 0 else 1) + (if s.sat.broken = true then 2 else 0))) ∧
      t.sat.broken = (s.sat.broken && !decide (s.sat.lockBy = 1 ∧ req = .sat0 ∨ s.sat.lockBy = 2 ∧ req = .sat1)) ∧
      t.sat.lockBy = s.sat.lockBy ∧ SameRegsBut s t (fun k => decide (k = Reg.HST_LINK_STS) || decide (k = Reg.SAT_LKSTS)))

/-- SAT_HRD, SAT_HATM and SPLIT_ANSWER_TIMEOUT complete (R418 to R422): a split request is answered with RETRY and queued, one to each
master; a refused one holds SAT_ERR_N, one to host memory leaves as a read or an AtomicOp, one to a register makes its access;
repeating the burst collects the answer, and one not collected in 1 ms is dropped. -/
def Sys2Proof.Claims.SplitRequests : Prop :=
  (∀ (s : State) (m : Fin 2) (b : SatBurst) (x : Split) (c : Instr), IsSplit c m b → heard s m.val b → s.splitOf m.val = some x →
    (sameSplit x.b b = false →
      Completes c s fun t => t.sent = Output.satRetry m.val :: s.sent ∧ t.splitOf m.val = some x) ∧
    (sameSplit x.b b = true → x.answer = none → x.issued = true →
      Completes c s fun t => t.sent = Output.satRetry m.val :: s.sent ∧ t.splitOf m.val = some x) ∧
    (∀ ws, sameSplit x.b b = true → x.answer = some (some ws) →
      Completes c s fun t => t.sent = Output.satData m.val ws :: s.sent ∧ t.splitOf m.val = none) ∧
    (sameSplit x.b b = true → x.answer = some none →
      Completes c s fun t => t.sent = Output.satErr m.val :: s.sent ∧ t.splitOf m.val = none)) ∧
  (∀ (s : State) (m : Fin 2) (raw b : SatBurst), b = raw.onBus 3 → heard s m.val b → s.splitOf m.val = none →
    ((2 ≤ spaceOf b.addr ∨ (spaceOf b.addr = 0 ∧ s.regSpaceOk m.val b = false) ∨ (spaceOf b.addr = 1 ∧ s.hostSpaceOk m.val = false)) →
      Completes (.satHrd m raw) s fun t =>
        t.sent = Output.satRetry m.val :: s.sent ∧ t.splitOf m.val = some { b := b, answer := some none, answerAt := s.now } ∧
        LastErr t 6 (m.val + 1) (some b.addr) ∧ SameRegsBut s t (fun _ => false)) ∧
    (spaceOf b.addr = 1 → s.hostSpaceOk m.val = true → s.apertureOpen b = false →
      Completes (.satHrd m raw) s fun t =>
        t.splitOf m.val = some { b := b, answer := some none, answerAt := s.now } ∧ LastErr t 6 (m.val + 1) (some b.addr) ∧
        t.rd Reg.SAT_HDROP_CNT = satAdd (s.rd Reg.SAT_HDROP_CNT) 1 ∧ SameRegsBut s t (fun k => decide (k = Reg.SAT_HDROP_CNT))) ∧
    (∀ host tag, spaceOf b.addr = 1 → s.hostSpaceOk m.val = true → s.hostAddr b.addr = some host → s.canSend = true → s.freeTag = some tag →
      (s.grantAt arbHostTx 4).isSome = true → s.bme = true → bridgeIdle s →
      Completes (.satHrd m raw) s fun t =>
        t.sent = Output.memRead tag host b.len :: Output.satRetry m.val :: s.sent ∧ t.splitOf m.val = some { b := b, issued := true } ∧
        t.txn.tags = s.txn.tags ++ [{ tag := tag, who := .satRead m.val, issuedAt := s.now }] ∧
        SameRegsBut s t (fun k => decide (k = Reg.HST_LINK_STS))) ∧
    (∀ i r, let a := spaceAccess m.val b.addr 0
      spaceOf b.addr = 0 → s.regSpaceOk m.val b = true → s.openFor a i = true → regAt (accBlk a) (accOff a % 0x4000) = .reg r →
      MailboxId.at? (accKey a) = none → pairAt? (accKey a) = none → within? (accKey a) 0x080000 64 = none →
      accKey a ≠ Reg.SAT_STS → accKey a ≠ Reg.SAT_LKSTS → accBlk a ≤ 0x13 →
      Completes (.satHrd m raw) s fun t =>
        t.sent = Output.satRetry m.val :: s.sent ∧
        t.splitOf m.val = some { b := b, issued := true, answer := some (some [{ data := readShows r (s.view (accKey a)) }]), answerAt := s.now } ∧
        t.rd (accKey a) = readClears r (satReq m.val) (s.rd (accKey a)))) ∧
  (∀ (s : State) (m : Fin 2) (raw b : SatBurst), b = raw.onBus 5 → s.satBusOpen = true → s.masterThere m.val = true → s.sat.deaf.getLsbD m.val = false →
    b.addrPar = true → (∀ w ∈ b.words, w.parBad = false) → s.splitOf m.val = none → s.sat.lockBy = (if b.lock then m.val + 1 else s.sat.lockBy) →
    ((b.lock = false ∨ 3 < b.len ∨ s.atomicReqEn = false ∨ spaceOf b.addr ≠ 1 ∨ s.hostSpaceOk m.val = false) →
      Completes (.satHatm m raw) s fun t =>
        t.sent = Output.satRetry m.val :: s.sent ∧ t.splitOf m.val = some { b := b, answer := some none, answerAt := s.now } ∧
        LastErr t 6 (m.val + 1) (some b.addr)) ∧
    (∀ op n host tag, b.lock = true → hatmOp b.len = some (op, n) → splitToHost s m.val b = true → s.hostAddr b.addr = some host →
      s.canSend = true → s.freeTag = some tag → (s.grantAt arbHostTx 4).isSome = true → s.bme = true → bridgeIdle s →
      Completes (.satHatm m raw) s fun t =>
        t.splitOf m.val = some { b := b, issued := true } ∧
        ∃ x y, t.sent = Output.atomic tag host op x y :: Output.satRetry m.val :: s.sent ∧
          (op = .cas → y = dwordOf (b.words.getD 0 { data := 0 }).data ∧ x = dwordOf (b.words.getD 1 { data := 0 }).data) ∧
          (op ≠ .cas → x = dwordOf (b.words.getD 0 { data := 0 }).data))) ∧
  (∀ (s : State) (m : Fin 2) (x : Split), s.satRuns = true → s.splitOf m.val = some x → x.answer ≠ none →
    (s.now < x.answerAt + 400000 → Completes (.splitAnswerTimeout m) s fun t => t = s) ∧
    (x.answerAt + 400000 ≤ s.now →
      Completes (.splitAnswerTimeout m) s fun t =>
        t.splitOf m.val = none ∧ t.rd Reg.SAT_SPLIT_DROP = satAdd (s.rd Reg.SAT_SPLIT_DROP) 1 ∧ LastErr t 8 (m.val + 1) (some x.b.addr) ∧
        SameRegsBut s t (fun k => decide (k = Reg.SAT_SPLIT_DROP))))

/-- SAT_HWR, SAT_CMD_RESERVED and SAT_TARGET_TIMEOUT complete (R189, R403, R405, R406, R409, R419 to R421): a burst to an aperture becomes
one memory write, poisoned where a word is, or where one went bad in the buffer, which is logged; one of a register writes it; a refused one is logged and raises HDROP; a reserved code,
a bad address parity and a master whose lock was broken get SAT_ERR_N; a board target that does not answer raises TTO. -/
def Sys2Proof.Claims.MastersWrite : Prop :=
  (∀ (s : State) (m : Fin 2) (raw : SatBurst), 32 ≤ s.sat.toHost.length → Completes (.satHwr m raw) s fun t => t = s) ∧
  (∀ (s : State) (m : Fin 2) (raw b : SatBurst), b = raw.onBus 4 → heard s m.val b → s.sat.toHost.length < 32 →
    ((2 ≤ spaceOf b.addr ∨ (spaceOf b.addr = 0 ∧ s.regSpaceOk m.val b = false) ∨ (spaceOf b.addr = 1 ∧ s.hostSpaceOk m.val = false)) →
      Completes (.satHwr m raw) s fun t =>
        LastErr t 6 (m.val + 1) (some b.addr) ∧ t.bit Reg.SAT_EVT 14 = true ∧ t.sat.toHost = s.sat.toHost ∧
        SameRegsBut s t (fun k => eventReg k || decide (k = Reg.SAT_EVT))) ∧
    (spaceOf b.addr = 1 → s.hostSpaceOk m.val = true → s.apertureOpen b = false →
      Completes (.satHwr m raw) s fun t =>
        LastErr t 6 (m.val + 1) (some b.addr) ∧ t.bit Reg.SAT_EVT 14 = true ∧ t.rd Reg.SAT_HDROP_CNT = satAdd (s.rd Reg.SAT_HDROP_CNT) 1 ∧
        t.sat.toHost = s.sat.toHost) ∧
    (∀ host, spaceOf b.addr = 1 → s.hostSpaceOk m.val = true → s.hostAddr b.addr = some host → s.bme = true →
      (b.words.length < b.len →
        Completes (.satHwr m raw) s fun t =>
          t.sat.hwr = some (m.val, b.addr, takeWords b.words) ∧ t.sat.toHost = s.sat.toHost ∧ t.sent = s.sent ∧ SameRegsBut s t (fun _ => false)) ∧
      (b.words.length = b.len → (s.canSend = false ∨ (bridgeIdle s ∧ s.grantAt arbHostTx 4 = none)) →
        Completes (.satHwr m raw) s fun t =>
          t.sat.hwr = none ∧
          t.sat.toHost = s.sat.toHost ++ [(host, if b.ue then poisonFirst (takeWords b.words) else takeWords b.words)] ∧ t.sent = s.sent ∧
          (b.ue = true → t.bit Reg.MEM_ECC_STS 1 = true) ∧ (b.ue = false → SameRegsBut s t (fun _ => false))) ∧
      (b.words.length = b.len → s.canSend = true → (s.grantAt arbHostTx 4).isSome = true → bridgeIdle s →
        Completes (.satHwr m raw) s fun t =>
          t.sat.hwr = none ∧ t.sat.toHost = [] ∧
          (∃ l, t.sent = l ++ Output.memWrite host (b.words.map fun w => dwordOf w.data) false (poisonedIn b.words || b.ue) :: s.sent) ∧
          ((poisonedIn b.words = true ∨ b.ue = true) → t.bit Reg.SAT_EVT 13 = true) ∧ (b.ue = true → t.bit Reg.MEM_ECC_STS 1 = true) ∧
          (poisonedIn b.words = false → b.ue = false → SameRegsBut s t (fun k => decide (k = Reg.HST_LINK_STS))))) ∧
    (∀ i r w, let a := spaceAccess m.val b.addr w.data
      spaceOf b.addr = 0 → s.regSpaceOk m.val b = true → b.words = [w] → w.poi = false → s.openFor a i = true → accBlk a ≤ 0x13 →
      regAt (accBlk a) (accOff a % 0x4000) = .reg r → actingReg (accKey a) = false → r.noWritable = false → w.data &&& r.reservedBits = 0 →
      accAlias a = 0 →
      Completes (.satHwr m raw) s fun t =>
        t.rd (accKey a) = mergeWrite r (s.rd (accKey a)) w.data ∧ SameRegsBut s t (fun j => decide (j = accKey a)))) ∧
  (∀ (s : State) (m : Fin 2) (raw b : SatBurst), b = raw.onBus (raw.cmd ||| 6) → heard s m.val b →
    Completes (.satCmdReserved m raw) s fun t => t.sent = Output.satErr m.val :: s.sent ∧ SameRegsBut s t (fun _ => false)) ∧
  (∀ (s : State) (m : Fin 2) (b : SatBurst) (c : Instr), s.satBusOpen = true → s.masterThere m.val = true → s.sat.toHost.length < 32 →
    (IsSplit c m b ∨ ∃ raw : SatBurst, (c = .satHwr m raw ∧ b = raw.onBus 4) ∨ (c = .satCmdReserved m raw ∧ b = raw.onBus (raw.cmd ||| 6))) →
    (s.sat.deaf.getLsbD m.val = true →
      Completes c s fun t => t.sent = Output.satErr m.val :: s.sent ∧ t.sat.splits = s.sat.splits ∧ SameRegsBut s t (fun _ => false)) ∧
    (s.sat.deaf.getLsbD m.val = false → b.addrPar = false →
      Completes c s fun t =>
        t.sent.head? = some (Output.satErr m.val) ∧ t.rd Reg.SAT_PAR_CNT = satAdd (s.rd Reg.SAT_PAR_CNT) 1 ∧ t.bit Reg.SAT_EVT 11 = true ∧
        LastErr t 4 (m.val + 1) (some b.addr) ∧ t.sat.splits = s.sat.splits)) ∧
  (∀ (s : State) (m : Fin 2) (addr : BitVec 22), s.satBusOpen = true → s.masterThere m.val = true →
    Completes (.satTargetTimeout m addr) s fun t =>
      t.bit Reg.SAT_EVT 12 = true ∧ LastErr t 3 (m.val + 1) (some addr) ∧ t.sent.head? = some (Output.satErr m.val) ∧
      SameRegsBut s t (fun k => eventReg k || decide (k = Reg.SAT_EVT)))

/-- The bursts that the bridge makes of a TLP (R404, R415): each of 1 to 16 words within one 64-word block, contiguous, and together they
carry the TLP's words in address order, each once. -/
def Obligations.BurstsCarryTheirWords : Prop :=
  ∀ (win : Nat) (ws : List (BitVec 22 × SatWord)), (ws.map fun e => e.1.toNat).Pairwise (· < ·) →
    (∀ b ∈ cutBursts win ws, b.win = win ∧ 1 ≤ b.words.length ∧ b.words.length ≤ 16 ∧ b.addr.toNat % 64 + b.words.length ≤ 64) ∧
    ((cutBursts win ws).flatMap fun b => (List.range b.words.length).map fun k =>
      (BitVec.ofNat 22 (b.addr.toNat + k), b.words.getD k { data := 0 })) = ws

/-- BRIDGE_HOST_WRITE and BRIDGE_HOST_READ complete (R188, R411 to R416): a request outside the windows is refused; a write enters the posted
buffer as bursts, its partial dwords skipped and counted under PASS and refused whole under STRICT, a poisoned one counted and, under
STRICT, discarded; a read enters behind the
writes before it, and is answered from the store where that holds every word; a full buffer withholds the request. -/
def Sys2Proof.Claims.HostReachesWindows : Prop :=
  (∀ (s : State) (a : Bar2Access), takesMemory s = true → windowAt s.image a.offset.toNat a.dwords.length = none →
    (Completes (.bridgeHostWrite a) s fun t => t.sat = s.sat ∧ t.sent = s.sent ∧ SameRegsBut s t (fun _ => false)) ∧
    (Completes (.bridgeHostRead a) s fun t => t.sat = s.sat ∧ t.sent = Output.completion .host .ur [] false :: s.sent)) ∧
  (∀ (s : State) (a : Bar2Access) (w : SatWindow) (j : Nat), takesMemory s = true →
    windowAt s.image a.offset.toNat a.dwords.length = some (w, j) → s.bit Reg.ARM_STS 12 = false →
    (s.satGone = true →
      (Completes (.bridgeHostWrite a) s fun t => t.sat = s.sat ∧ t.sent = s.sent) ∧
      (a.dwords.length ≤ 128 → Completes (.bridgeHostRead a) s fun t => t.sat = s.sat ∧ t.sent = Output.completion .host .ca [] false :: s.sent)) ∧
    (s.satGone = false → a.poisoned = false → w.pass = false → 0 < partials a →
      (Completes (.bridgeHostWrite a) s fun t => t.sat = s.sat ∧ t.sent = s.sent ∧ SameRegsBut s t (fun _ => false)) ∧
      (Completes (.bridgeHostRead a) s fun t => t.sat = s.sat ∧ t.sent = Output.completion .host .ur [] false :: s.sent)) ∧
    (s.satGone = false → a.poisoned = true → w.pass = false →
      Completes (.bridgeHostWrite a) s fun t =>
        t.sat = s.sat ∧ t.rd Reg.HST_POISON_CNT = satAdd (s.rd Reg.HST_POISON_CNT) 1 ∧ t.bit Reg.HST_TXN_EVT 2 = true) ∧
    (s.satGone = false → a.poisoned = false → (w.pass = true ∨ partials a = 0) → s.gateClosed .sat = false →
      (32 < s.sat.posted.length + (cutBursts w.num (windowWords w j a)).length → Completes (.bridgeHostWrite a) s fun t => t = s) ∧
      (s.sat.posted.length + (cutBursts w.num (windowWords w j a)).length ≤ 32 →
        Completes (.bridgeHostWrite a) s fun t =>
          t.sat = { s.sat with posted := s.sat.posted ++ cutBursts w.num (windowWords w j a) } ∧ t.sent = s.sent ∧
          t.rd Reg.SAT_PARTIAL_CNT = satAdd (s.rd Reg.SAT_PARTIAL_CNT) (partials a) ∧
          SameRegsBut s t (fun k => decide (k = Reg.SAT_PARTIAL_CNT)))) ∧
    (s.satGone = false → a.poisoned = true → w.pass = true → s.gateClosed .sat = false →
      s.sat.posted.length + (cutBursts w.num (windowWords w j a)).length ≤ 32 →
      Completes (.bridgeHostWrite a) s fun t =>
        t.sat = { s.sat with posted := s.sat.posted ++ cutBursts w.num (windowWords w j a) } ∧
        t.rd Reg.HST_POISON_CNT = satAdd (s.rd Reg.HST_POISON_CNT) 1 ∧ t.bit Reg.HST_TXN_EVT 2 = true) ∧
    (128 < a.dwords.length → Completes (.bridgeHostRead a) s fun t => t.sat = s.sat ∧ t.sent = Output.completion .host .ur [] false :: s.sent) ∧
    (s.satGone = false → a.dwords.length ≤ 128 → (w.pass = true ∨ partials a = 0) → s.gateClosed .sat = false →
      (16 ≤ s.sat.nonPosted.length → Completes (.bridgeHostRead a) s fun t => t = s) ∧
      (s.sat.nonPosted.length < 16 → (s.sat.nonPosted ≠ [] ∨ s.readBursts w ((windowWant w j a).filterMap id) ≠ [] ∨ s.sat.posted ≠ []) →
        (satWindows s.image).find? (fun x => decide (x.num = w.num)) = some w → s.wakeBuf = [] →
        Completes (.bridgeHostRead a) s fun t =>
          t.sent = s.sent ∧ SameRegsBut s t (fun _ => false) ∧
          t.sat.nonPosted = s.sat.nonPosted ++
            [{ win := w.num, want := .read (windowWant w j a), sinceAt := s.now, ahead := s.sat.posted.length, behind := s.sat.toHost.length }])) ∧
    (∀ ws : List (BitVec 22 × SatWord), s.satGone = false → a.dwords.length ≤ 128 → (w.pass = true ∨ partials a = 0) → bridgeIdle s → s.wakeBuf = [] →
      s.satRuns = true → s.gateClosed .sat = false → (satWindows s.image).find? (fun x => decide (x.num = w.num)) = some w →
      windowWant w j a = ws.map (fun e => some e.1) → (∀ e ∈ ws, s.stored? w.num e.1 = some e.2 ∧ e.2.poi = false) →
      Completes (.bridgeHostRead a) s fun t =>
        t.sat.nonPosted = [] ∧ t.sent = Output.completion .host .sc (ws.map fun e => dwordOf e.2.data) false :: s.sent))

/-- BRIDGE_BURST and BRIDGE_READ_START_TIMEOUT complete for the next work of the bridge (R195, R405, R413, R414, R424): a write burst that
fails is counted or fences its window, a fence discards, RETRY keeps the burst; a read's last burst completes the host's request
with the words, CA where it failed or waited 10 ms; an AtomicOp reads and writes under the device's lock. -/
def Sys2Proof.Claims.BridgeCarries : Prop :=
  (∀ (s : State) (ans : TargetAnswer), (s.satBusOpen = false ∨ s.sat.grant ≠ 3 ∨ s.sat.lockBy = 1 ∨ s.sat.lockBy = 2) →
    Completes (.bridgeBurst ans) s fun t => t = s) ∧
  (∀ (s : State) (b : WriteBurst) (more : List WriteBurst), deviceTurn s → s.sat.nonPosted = [] → s.sat.posted = b :: more → b.win < 16 →
    (s.bit Reg.SAT_FENCE b.win = true → ∀ ans,
      Completes (.bridgeBurst ans) s fun t =>
        t.sat.posted = more ∧ t.sent = s.sent ∧ t.rd Reg.SAT_FENCE_DROP = satAdd (s.rd Reg.SAT_FENCE_DROP) 1 ∧
        SameRegsBut s t (fun k => decide (k = Reg.SAT_FENCE_DROP))) ∧
    (s.bit Reg.SAT_FENCE b.win = false →
      (Completes (.bridgeBurst .retry) s fun t =>
        t.sat.posted = s.sat.posted ∧ t.sent = Output.satBurst true b.addr b.words b.words.length :: s.sent) ∧
      (∀ ws, poisonedIn b.words = false →
        Completes (.bridgeBurst (.done ws)) s fun t =>
          t.sat.posted = more ∧ (t.prefetched b.win).words = [] ∧ t.sent = Output.satBurst true b.addr b.words b.words.length :: s.sent ∧
          SameRegsBut s t (fun _ => false)) ∧
      (∀ ans ws, (ans = .err ws ∨ ans = .timeout ws) →
        Completes (.bridgeBurst ans) s fun t =>
          t.sat.posted = more ∧ (ans = .timeout ws → t.bit Reg.SAT_EVT 12 = true) ∧
          (confirmedWin s b.win = false →
            t.rd Reg.SAT_WERR_CNT = satAdd (s.rd Reg.SAT_WERR_CNT) 1 ∧ BridgeErr t 1 b.win b.addr ∧ t.bit Reg.SAT_EVT 4 = true ∧
            t.bit Reg.SAT_FENCE b.win = false) ∧
          (confirmedWin s b.win = true →
            t.bit Reg.SAT_FENCE b.win = true ∧ BridgeErr t 2 b.win b.addr ∧ t.bit Reg.SAT_EVT 5 = true ∧
            t.rd Reg.SAT_WERR_CNT = s.rd Reg.SAT_WERR_CNT)))) ∧
  (∀ (s : State) (j : BridgeJob) (want : List (Option (BitVec 22))) (a : BitVec 22) (n : Nat) (more : List (BitVec 22 × Nat)),
    deviceTurn s → s.sat.nonPosted = [j] → j.want = .read want → j.started = true → j.todo = (a, n) :: more → j.ahead = 0 →
    (j.stalled = false ∨ s.sat.posted = []) → j.win < 16 → j.sunk = false →
    (Completes (.bridgeBurst .retry) s fun t =>
      t.sat.nonPosted = [{ j with stalled := true }] ∧ t.sent = Output.satBurst false a [] n :: s.sent ∧ SameRegsBut s t (fun _ => false)) ∧
    (∀ ans ws, (ans = .err ws ∨ ans = .timeout ws) →
      Completes (.bridgeBurst ans) s fun t =>
        t.sat.nonPosted = [] ∧ BridgeErr t 0 j.win a ∧ t.bit Reg.SAT_EVT 6 = true ∧ t.sent.head? = some (Output.completion .host .ca [] false)) ∧
    (∀ ws : List SatWord, ws.length = n → (∀ w ∈ ws, w.parBad = false) → more ≠ [] →
      Completes (.bridgeBurst (.done ws)) s fun t =>
        ∃ k, t.sat.nonPosted = [k] ∧ k.todo = more ∧ k.want = j.want ∧ k.got.length = j.got.length + n ∧
          t.sent = Output.satBurst false a [] n :: s.sent ∧ SameRegsBut s t (fun _ => false)) ∧
    (∀ ws : List SatWord, ws.length = n → (∀ w ∈ ws, w.parBad = false ∧ w.poi = false) → more = [] → j.behind = 0 → j.got = [] →
      a.toNat + n ≤ 2 ^ 22 → want = (List.range n).map (fun k => some (BitVec.ofNat 22 (a.toNat + k))) →
      Completes (.bridgeBurst (.done ws)) s fun t =>
        t.sat.nonPosted = [] ∧ (t.prefetched j.win) = s.prefetched j.win ∧
        t.sent = Output.completion .host .sc (ws.map fun w => dwordOf w.data) false :: Output.satBurst false a [] n :: s.sent)) ∧
  (∀ (s : State) (j : BridgeJob) (op : AtomOp) (a : BitVec 22) (x y : Word),
    deviceTurn s → s.sat.nonPosted = [j] → j.want = .atomic op a x y → j.ahead = 0 → s.sat.posted = [] → j.win < 16 → j.sunk = false →
    (∀ w : SatWord, j.got = [] → j.started = false → w.parBad = false →
      Completes (.bridgeBurst (.done [w])) s fun t =>
        t.sat.lockBy = 3 ∧ t.sent = Output.satBurst false a [] 1 :: s.sent ∧ ∃ k, t.sat.nonPosted = [k] ∧ k.got = [(a, w)] ∧ k.want = j.want) ∧
    (∀ (w : SatWord) ws, j.got = [(a, w)] → j.started = true → j.todo ≠ [] → j.behind = 0 →
      Completes (.bridgeBurst (.done ws)) s fun t =>
        t.sat.lockBy = 0 ∧ t.sat.nonPosted = [] ∧ t.rd Reg.HST_ATOMIC_CNT = satAdd (s.rd Reg.HST_ATOMIC_CNT) 1 ∧
        t.sent = Output.completion .host .sc [dwordOf w.data] false ::
          Output.satBurst true a [{ data := atomicNew op w.data x y }] 1 :: s.sent)) ∧
  (∀ (s : State) (j : BridgeJob) (want : List (Option (BitVec 22))), s.satRuns = true → s.sat.nonPosted = [j] → j.want = .read want → j.started = false →
    j.win < 16 → j.sunk = false →
    (s.now < j.sinceAt + 4000000 → Completes .bridgeReadStartTimeout s fun t => t = s) ∧
    (j.sinceAt + 4000000 ≤ s.now →
      Completes .bridgeReadStartTimeout s fun t =>
        t.sat.nonPosted = [] ∧ BridgeErr t 0 j.win ((want.findSome? id).getD 0) ∧ t.bit Reg.SAT_EVT 6 = true ∧
        t.sent.head? = some (Output.completion .host .ca [] false)))

/-- SAT_WR_OBSERVED, PREFETCH_EXPIRY, SAT_INT_ASSERT, SAT_MRST_ASSERT, SAT_MRST_DEASSERT and SAT_REQ_WAKE complete (R414, R423, R425, R426):
what a write on the bus has overtaken, or 20 µs, leaves the store; an interrupt wire raises its event; a master's reset takes its
grant, breaks its lock and its hardware locks, sends the words of its write burst and drops its answers; a request wakes SAT. -/
def Sys2Proof.Claims.StoreWiresAndResets : Prop :=
  (∀ (s : State) (addr : BitVec 22) (len : Nat), s.satRuns = true →
    Completes (.satWrObserved addr len) s fun t =>
      (∀ w ∈ satWindows s.image, addr.toNat < w.sbase * 64 + w.size * 64 → w.sbase * 64 < addr.toNat + len → t.prefetched w.num = {}) ∧
      (∀ n, (∀ w ∈ satWindows s.image, w.num = n → w.sbase * 64 + w.size * 64 ≤ addr.toNat ∨ addr.toNat + len ≤ w.sbase * 64) →
        t.prefetched n = s.prefetched n) ∧ SameRegsBut s t (fun _ => false)) ∧
  (∀ (s : State) (w : Fin 16), s.satRuns = true →
    Completes (.prefetchExpiry w) s fun t =>
      (t.prefetched w.val).words = (s.prefetched w.val).words.filter (fun e => decide (s.now < e.2.2 + 8000)) ∧
      (∀ n, n ≠ w.val → t.prefetched n = s.prefetched n) ∧ SameRegsBut s t (fun _ => false)) ∧
  (∀ (s : State) (i : Fin 4),
    (s.satPins.testBit (3 + i.val) = false → Completes (.satIntAssert i) s fun t => t = s) ∧
    (s.satPins.testBit (3 + i.val) = true → s.satPowered = true →
      Completes (.satIntAssert i) s fun t =>
        t.bit Reg.SAT_EVT i.val = true ∧ t.sat.intPin.getLsbD i.val = true ∧ t.satSts.getLsbD i.val = true ∧
        SameRegsBut s t (fun k => eventReg k || decide (k = Reg.SAT_EVT)))) ∧
  (∀ (s : State) (m : Fin 2), s.satPowered = true →
    Completes (.satMrstAssert m) s fun t =>
      t.sat.mrst.getLsbD m.val = true ∧ t.masterThere m.val = false ∧ t.bit Reg.SAT_EVT (8 + m.val) = true ∧ t.splitOf m.val = none ∧
      t.sat.grant = (if s.sat.grant = m.val + 1 then 0 else s.sat.grant) ∧
      (s.sat.lockBy = m.val + 1 → t.sat.lockBy = 0 ∧ t.sat.broken = true ∧ t.bit Reg.SAT_EVT 10 = true) ∧
      (s.sat.lockBy ≠ m.val + 1 → t.sat.lockBy = s.sat.lockBy ∧ t.sat.broken = s.sat.broken) ∧
      (∀ n, n < 64 → t.lock n =
        if (s.lock n).owner = some (.req (satReq m.val)) then { owner := none, broken := true } else s.lock n) ∧
      (∀ addr w ws host, s.sat.hwr = some (m.val, addr, w :: ws) → s.hostAddr addr = some host → addr.toNat + ws.length < 2 ^ 22 →
        t.sat.hwr = none ∧ t.bit Reg.SAT_EVT 7 = true ∧
        wordAt t.sat.trunc 1 = word addr.toNat ∧ wordAt t.sat.trunc 2 = word (addr.toNat + ws.length) ∧ (wordAt t.sat.trunc 0).getLsbD 17 = decide (m.val = 1) ∧
        (s.canSend = false → t.sat.toHost = s.sat.toHost ++ [(host, w :: ws)])) ∧
      (∀ addr, s.sat.hwr = some (m.val, addr, []) → t.sat.hwr = none ∧ t.sat.toHost = s.sat.toHost)) ∧
  (∀ (s : State) (m : Fin 2),
    Completes (.satMrstDeassert m) s fun t =>
      t.sat.mrst.getLsbD m.val = false ∧ t.sat.mrst.getLsbD (1 - m.val) = s.sat.mrst.getLsbD (1 - m.val) ∧ SameRegsBut s t (fun _ => false)) ∧
  (∀ (s : State) (m : Fin 2),
    (s.masterThere m.val = false → Completes (.satReqWake m) s fun t => t = s) ∧
    (s.masterThere m.val = true → (s.island .sat).power = .doze → (s.island .sat).drain = none → s.wakeForbidden .sat = false →
      Completes (.satReqWake m) s fun t => t.sat.reqPin.getLsbD m.val = true ∧ (t.island .sat).waking = true ∧ t.sent = s.sent))

/-! ### The serial monitor (15_serial_monitor.md) -/

namespace Sys2Proof.Claims

/-- A line as it leaves: with carriage return and line feed (R436). -/
def lineOut (body : List Char) : Output := .monText (body ++ [Char.ofNat 13, Char.ofNat 10])
def promptOut : Output := .monText "> ".toList

/-- A command has been answered with one line and a new prompt: it is counted, and the monitor takes the next line (R436, R447); `l`
left the device before the reply. -/
abbrev Replied (s t : State) (l : List Output) (body : List Char) (ok : Bool) : Prop :=
  t.sent = promptOut :: lineOut ((if ok then "= " else "! ").toList ++ body) :: (l ++ s.sent) ∧ t.mon.cmd = none ∧ t.mon.running = 0 ∧
  t.bit Reg.MON_STS 5 = false ∧
  t.rd (if ok then Reg.MON_CMD_CNT else Reg.MON_ERR_CNT) = satAdd (s.rd (if ok then Reg.MON_CMD_CNT else Reg.MON_ERR_CNT)) 1

/-- A command of letter `c` with arguments waits to run; nothing has been typed behind it. -/
abbrev Typed (s : State) (c : Char) (args : List (List (BitVec 8))) : Prop :=
  s.monWaits c = some args ∧ s.mon.kept = [] ∧ s.monLevel ≠ 0

/-- A summary command that is granted answers with a line and changes nothing else (R439, R446). -/
def Summary (c : Instr) (s : State) (body : List Char) : Prop :=
  (s.busGrant 11).isSome = true →
  Completes c s fun t => Replied s t [] body true ∧ (t.arb 11).granted 11 = (s.arb 11).granted 11 + 1 ∧
    SameRegsBut s t (fun k => decide (k = Reg.MON_STS) || decide (k = Reg.MON_CMD_CNT))

/-- A command that its level does not allow (R434). -/
def LevelRefused (c : Instr) (s : State) (n : Nat) : Prop :=
  Completes c s fun t => (∃ l, Replied s t l ("LEVEL ".toList ++ [hexDigit n]) false) ∧ t.bit Reg.MON_EVT 1 = true ∧ t.arm = s.arm ∧
    SameRegsBut s t (fun k => eventReg k || decide (k = Reg.MON_EVT) || decide (k = Reg.MON_STS) || decide (k = Reg.MON_ERR_CNT))

/-- A command whose arguments are wrong (R437). -/
def SyntaxRefused (c : Instr) (s : State) : Prop :=
  Completes c s fun t => Replied s t [] "SYNTAX".toList false ∧ t.arm = s.arm ∧
    SameRegsBut s t (fun k => decide (k = Reg.MON_STS) || decide (k = Reg.MON_ERR_CNT))

/-- The commands by letter, with the numbers of arguments that R440 gives them. -/
def letterCmds : List (Char × Instr × List Nat) :=
  [('?', .monCmdHelp, [0]), ('v', .monCmdV, [0]), ('r', .monCmdR, [1, 2]), ('w', .monCmdW, [2]), ('p', .monCmdP, [2]), ('s', .monCmdS, [0]),
   ('e', .monCmdE, [0]), ('t', .monCmdT, [0, 2]), ('g', .monCmdG, [0]), ('q', .monCmdQ, [1]), ('c', .monCmdC, [1])] ++
  [('x', .monCmdX, [1, 2]), ('a', .monCmdA, [0, 1]), ('l', .monCmdL, [0]), ('b', .monCmdB, [1]), ('z', .monCmdZ, [0])]

/-- The image whose figures `a` shows. -/
def shownImage (s : State) : Option Image := s.arm.staged.orElse fun _ => s.arm.committed

/-- A line of characters from text. -/
def bytesOf (cs : List Char) : List (BitVec 8) := cs.map fun c => BitVec.ofNat 8 c.toNat

/-- The hex line of R444. -/
def hexText (a : Nat) (ws : List Word) (c : Nat) : List (BitVec 8) :=
  bytesOf (':' :: (hexN 6 a ++ ws.flatMap (fun w => hexN 5 w.toNat) ++ hexN 4 c))

/-- The register commands' accesses all find their island open and a grant. -/
abbrev plainReg (a : RegAccess) (r : RegRow) : Prop :=
  accBlk a ≤ 0x13 ∧ regAt (accBlk a) (accOff a % 0x4000) = .reg r ∧ MailboxId.at? (accKey a) = none ∧ pairAt? (accKey a) = none ∧
  within? (accKey a) 0x080000 64 = none ∧ accKey a ≠ Reg.SAT_LKSTS ∧ accKey a ≠ Reg.HST_LINK_STS ∧ accKey a ≠ Reg.MON_STS

end Sys2Proof.Claims

/-- MON_BANNER, MON_SESSION_START, MON_BREAK, MON_BREAK_END, MON_CHAR_RX, MON_EVENT_LINE and MON_LEVEL_WRITE complete (R429 to R435, R438):
the banner with the level; a session at the nearest rate within 5 %; a break ends it and what it holds; characters build a line,
which its carriage return enters; an event line only at an empty line; the level is only lowered. -/
def Sys2Proof.Claims.MonitorLine : Prop :=
  (∀ (s : State) (a : Nat), s.monAlive = true → s.mon.bannerDueAt = some a →
    (s.now < a → Completes .monBanner s fun t => t = s) ∧
    (a ≤ s.now → s.monLevel ≠ 0 →
      Completes .monBanner s fun t =>
        t.sent = lineOut ("CV-3218 B0 L".toList ++ [hexDigit s.monLevel]) :: s.sent ∧ t.mon.ready = true ∧ t.mon.bannerDueAt = none ∧
        t.fld Reg.MON_STS 1 3 = 4 ∧ SameRegsBut s t (fun k => decide (k = Reg.MON_STS))) ∧
    (a ≤ s.now → s.monLevel = 0 → Completes .monBanner s fun t => t.sent = s.sent)) ∧
  (∀ (s : State) (ns : Nat), s.monAlive = true → s.mon.ready = true → s.mon.inBreak = false → s.monLevel ≠ 0 →
    (s.monSession = true → Completes (.monSessionStart ns) s fun t => t = s) ∧
    (s.monSession = false → (∀ b ∈ bauds, 1050000000 < ns * b ∨ ns * b < 950000000) → Completes (.monSessionStart ns) s fun t => t = s) ∧
    (∀ k, s.monSession = false → k < 8 → 950000000 ≤ ns * bauds.getD k 0 → ns * bauds.getD k 0 ≤ 1050000000 →
      Completes (.monSessionStart ns) s fun t =>
        t.monSession = true ∧ t.fld Reg.MON_STS 1 3 = k ∧ t.bit Reg.MON_EVT 0 = true ∧ t.sent.head? = some promptOut ∧
        SameRegsBut s t (fun j => eventReg j || decide (j = Reg.MON_STS) || decide (j = Reg.MON_EVT)))) ∧
  (∀ s : State, s.monAlive = true → s.mon.ready = true → s.monLevel ≠ 0 →
    Completes .monBreak s fun t =>
      t.monSession = false ∧ t.mon.inBreak = true ∧ t.mon.line = [] ∧ t.mon.cmd = none ∧ t.mon.running = 0 ∧ t.mon.kept = [] ∧
      t.bit Reg.MON_STS 4 = false ∧ t.bit Reg.MON_EVT 2 = true ∧ t.monLevel = s.monLevel ∧
      (s.arm.monLoad = true → s.stage ≠ 5 → s.stage ≠ 6 → t.arm.monLoad = false ∧ t.stage = 0 ∧ t.arm.staging = []) ∧
      (s.arm.monLoad = false → t.arm = s.arm) ∧
      ∀ n, n < 64 → t.lock n = if (s.lock n).owner = some (.req .monitor) then { owner := none, broken := true } else s.lock n) ∧
  (∀ s : State, s.monAlive = true → s.monLevel ≠ 0 →
    (s.mon.inBreak = false → Completes .monBreakEnd s fun t => t = s) ∧
    (s.mon.inBreak = true →
      Completes .monBreakEnd s fun t =>
        t.sent = lineOut ("CV-3218 B0 L".toList ++ [hexDigit s.monLevel]) :: s.sent ∧ t.mon.inBreak = false ∧ t.fld Reg.MON_STS 1 3 = 4 ∧
        SameRegsBut s t (fun k => decide (k = Reg.MON_STS)))) ∧
  (∀ (s : State) (c : BitVec 8),
    ((s.mon.ready = false ∨ s.monSession = false ∨ s.monLevel = 0 ∨ s.mon.inBreak = true) → Completes (.monCharRx c) s fun t => t = s) ∧
    (s.monAlive = true → s.mon.ready = true → s.mon.inBreak = false → s.monSession = true → s.monLevel ≠ 0 →
      (s.monBusy = true → Completes (.monCharRx c) s fun t => t = { s with mon := { s.mon with kept := s.mon.kept ++ [c] } }) ∧
      (s.monBusy = false →
        (c = 0x0A → Completes (.monCharRx c) s fun t => t = s) ∧
        (c ≠ 0x0A → c ≠ 0x0D → c ≠ 0x08 → c ≠ 0x7F → s.mon.line.length < 80 →
          Completes (.monCharRx c) s fun t =>
            t.mon.line = s.mon.line ++ [c] ∧ SameRegsBut s t (fun _ => false) ∧
            t.sent = (if s.bit Reg.MON_CTL 4 then [Output.monText [Char.ofNat c.toNat]] else []) ++ s.sent) ∧
        (c ≠ 0x0A → c ≠ 0x0D → c ≠ 0x08 → c ≠ 0x7F → 80 ≤ s.mon.line.length →
          Completes (.monCharRx c) s fun t => t = { s with mon := { s.mon with tooLong := true } }) ∧
        ((c = 0x08 ∨ c = 0x7F) →
          Completes (.monCharRx c) s fun t => t.mon.line = s.mon.line.dropLast ∧ SameRegsBut s t (fun _ => false)) ∧
        (c = 0x0D → s.mon.tooLong = true →
          Completes (.monCharRx c) s fun t => t.mon.line = [] ∧ t.mon.tooLong = false ∧
            ∃ l, Replied s t l "LONG".toList false) ∧
        (c = 0x0D → s.mon.tooLong = false → s.mon.line = [] →
          Completes (.monCharRx c) s fun t => t.sent.head? = some promptOut ∧ t.bit Reg.MON_STS 4 = false ∧ t.mon.cmd = s.mon.cmd ∧
            SameRegsBut s t (fun k => decide (k = Reg.MON_STS))) ∧
        (∀ p, c = 0x0D → s.mon.tooLong = false → s.mon.line.head? ≠ some 0x3A → monParse s.mon.line = some p →
          Completes (.monCharRx c) s fun t =>
            t.mon.cmd = some s.mon.line ∧ t.mon.line = [] ∧ t.bit Reg.MON_STS 5 = true ∧ t.bit Reg.MON_STS 4 = false ∧
            SameRegsBut s t (fun k => decide (k = Reg.MON_STS))) ∧
        (c = 0x0D → s.mon.tooLong = false → s.mon.line.head? = some 0x3A → s.bit Reg.MON_STS 4 = true →
          Completes (.monCharRx c) s fun t =>
            t.mon.cmd = some s.mon.line ∧ t.mon.line = [] ∧ t.bit Reg.MON_STS 5 = true ∧ t.bit Reg.MON_STS 4 = true) ∧
        (c = 0x0D → s.mon.tooLong = false → s.mon.line ≠ [] → monParse s.mon.line = none → (s.mon.line.head? ≠ some 0x3A ∨ s.bit Reg.MON_STS 4 = false) →
          Completes (.monCharRx c) s fun t => ∃ l, Replied s t l "SYNTAX".toList false)))) ∧
  (∀ (s : State) (e : Nat) (rest : List Nat), s.monAlive = true → s.monSession = true → s.mon.events = e :: rest → s.monLevel ≠ 0 →
    ((s.monBusy = true ∨ s.mon.line ≠ []) → Completes .monEventLine s fun t => t = s) ∧
    (s.monBusy = false → s.mon.line = [] → s.mon.tooLong = false →
      Completes .monEventLine s fun t =>
        t.sent = promptOut :: lineOut ("# EV".toList ++ dec3 e) :: s.sent ∧ t.mon.events = rest ∧ SameRegsBut s t (fun _ => false))) ∧
  (∀ (s : State) (req : Requester) (v : Word), s.openFor (regAcc req Reg.MON_CTL v) .pln = true → v.toNat < 32 → (s.rd Reg.MON_CTL).toNat < 32 →
    (s.bit Reg.MON_CTL 2 = false → fieldOf v 0 2 ≤ s.monLevel →
      Completes (.monLevelWrite req v) s fun t =>
        t.rd Reg.MON_CTL = v ∧ (fieldOf v 0 2 = 0 → s.monSession = true → t.monSession = false ∧ t.mon.cmd = none ∧ t.mon.line = [])) ∧
    (s.bit Reg.MON_CTL 2 = false → s.monLevel < fieldOf v 0 2 →
      Completes (.monLevelWrite req v) s fun t => t.rd Reg.MON_CTL = s.rd Reg.MON_CTL ∧ (s.fld Reg.PLN_ACC_STS 0 2 = 0 → t.fld Reg.PLN_ACC_BLK 11 4 = 13)) ∧
    (s.bit Reg.MON_CTL 2 = true → fieldOf v 0 2 ≠ s.monLevel →
      Completes (.monLevelWrite req v) s fun t => t.rd Reg.MON_CTL = s.rd Reg.MON_CTL ∧ (s.fld Reg.PLN_ACC_STS 0 2 = 0 → t.fld Reg.PLN_ACC_BLK 11 4 = 6)))

/-- MON_CMD_HELP, V, S, E, T, G, Q, C, X and A complete (R434, R436, R437, R439, R440, R446): with the right arguments, the level and a grant
each answers its one line of fields; without a grant it waits; wrong arguments are answered SYNTAX and change nothing. -/
def Sys2Proof.Claims.MonitorSummaries : Prop :=
  (∀ s : State, Typed s '?' [] →
    Completes .monCmdHelp s fun t => Replied s t [] "?vrwpsetgqcxalbz".toList true ∧
      SameRegsBut s t (fun k => decide (k = Reg.MON_STS) || decide (k = Reg.MON_CMD_CNT))) ∧
  (∀ s : State, Typed s 'v' [] →
    Summary .monCmdV s ("CV-3218 ".toList ++ monFields [("REV", 2, s.fld Reg.PLN_REV 0 8), ("GRADE", 1, flag s.fuses.grade),
      ("SID", 14, s.fuses.silicon.toNat), ("DIG", 9, ((s.arm.committed.map fun i => i.digest.toNat).getD 0)),
      ("EP", 5, ((s.arm.committed.map fun i => i.epoch.toNat).getD 0)), ("NODE", 1, s.nodeId)])) ∧
  (∀ s : State, Typed s 's' [] →
    Summary .monCmdS s (monFields [("BOOT", 1, s.fld Reg.PLN_BOOT 0 3), ("RDY", 1, s.fld Reg.PLN_BOOT 3 1), ("XTAL", 1, s.fld Reg.CLK_STS 0 1),
      ("IRC", 1, s.fld Reg.CLK_STS 1 1)] ++ " ISL ".toList ++ Island.all.map fun i => hexDigit (powerCode (s.island i).power))) ∧
  (∀ s : State, Typed s 'e' [] →
    Summary .monCmdE s (monFields [("CEIL", 4, (s.rd Reg.NRG_CEIL).toNat), ("SRC", 1, s.fld Reg.NRG_STS 4 2), ("POWER", 5, (s.rd Reg.NRG_POWER).toNat),
      ("FCST", 5, (s.rd Reg.NRG_FORECAST).toNat), ("STEP", 1, s.fld Reg.NRG_STS 0 3), ("OVER", 1, s.fld Reg.NRG_STS 3 1)])) ∧
  (∀ s : State, Typed s 't' [] →
    Summary .monCmdT s (monFields [("LEN", 3, (s.rd Reg.TMP_CAD_LEN).toNat), ("CNT", 5, (s.rd Reg.TMP_CAD_CNT).toNat), ("QUOTA", 1, s.fld Reg.TMP_QUOTA 0 4)])) ∧
  (∀ (s : State) (b a : List (BitVec 8)) (nb na : Nat), Typed s 't' [b, a] → hexArg 1 0 4 b = some nb → hexArg 1 0 15 a = some na →
    Summary .monCmdT s (monFields [("MIN", 5, s.minOf nb na % 2 ^ 18), ("MAX", 5, s.maxOf nb na % 2 ^ 18),
      ("GRANTS", 9, s.arbSum nb (fun x => Tab.get 0 x.lastGrants na) % 2 ^ 36), ("SHORT", 9, s.arbSum nb (fun x => (Tab.get 0 x.shorts na).toNat) % 2 ^ 36)])) ∧
  (∀ s : State, Typed s 'g' [] →
    Summary .monCmdG s (monFields [("STATE", 1, s.fld Reg.RNG_STS 0 3), ("NODE", 1, s.nodeId), ("KEEPER", 1, s.fld Reg.RNG_NODE 5 4),
      ("MEMBERS", 4, (s.rd Reg.RNG_MEMBERS).toNat), ("MISSING", 4, (s.rd Reg.RNG_MISSING).toNat), ("DEV", 5, (s.rd Reg.RNG_DEV).toNat)])) ∧
  (∀ (s : State) (w : List (BitVec 8)) (n : Nat), Typed s 'q' [w] → hexArg 3 0 2047 w = some n →
    Summary .monCmdQ s (monFields [("STATE", 1, qStateCode (s.queue n).state), ("TYPE", 1, (s.queue n).typ), ("PROD", 5, (s.queue n).prod.toNat),
      ("CONS", 5, (s.queue n).cons.toNat), ("DROPS", 9, (s.queue n).drops.toNat)])) ∧
  (∀ (s : State) (w : List (BitVec 8)) (n : Nat), Typed s 'c' [w] → hexArg 2 0 127 w = some n →
    Summary .monCmdC s (monFields [("STATE", 1, chStateCode (s.chn n).state), ("GEN", 3, (s.chn n).gen.toNat), ("LOST", 9, (s.chn n).lost.toNat)])) ∧
  (∀ (s : State) (w : List (BitVec 8)) (n : Nat), Typed s 'x' [w] → hexArg 1 0 3 w = some n → s.nrg.ready = [] →
    Summary .monCmdX s (monFields [("WIDTH", 2, fieldOf (Tab.get {} s.link.eyes n).word 0 7), ("HEIGHT", 3, fieldOf (Tab.get {} s.link.eyes n).word 7 9),
      ("PASS", 1, fieldOf (Tab.get {} s.link.eyes n).word 16 1)])) ∧
  (∀ (s : State) (w k : List (BitVec 8)) (n : Nat), Typed s 'x' [w, k] → hexArg 1 0 3 w = some n → hexArg 1 1 1 k = some 1 → s.nrg.ready = [] →
    (s.monLevel = 1 → LevelRefused .monCmdX s 2) ∧
    (2 ≤ s.monLevel → (s.busGrant 11).isSome = true → s.bit Reg.HST_EYE_CTL 3 = false → s.inL0 = true → s.activeLane n = true → belowCeiling s →
      Completes .monCmdX s fun t => (∃ l, Replied s t l "ok".toList true) ∧ t.bit Reg.HST_EYE_CTL 3 = true ∧ t.link.eyeLane = n)) ∧
  (∀ s : State, Typed s 'a' [] →
    Summary .monCmdA s (monFields [("STAGE", 1, s.stage), ("SLOT", 1, s.fld Reg.ARM_STS 7 1), ("SIGNED", 1, (((shownImage s).map fun i => flag i.signed).getD 0)),
      ("MAQ", 1, flag s.maquette), ("DIG", 9, (((shownImage s).map fun i => i.digest.toNat).getD 0)), ("EP", 5, (((shownImage s).map fun i => i.epoch.toNat).getD 0))])) ∧
  (∀ (s : State) (e : Char × Instr × List Nat) (args : List (List (BitVec 8))), e ∈ letterCmds → Typed s e.1 args → args.length ∉ e.2.2 → s.nrg.ready = [] →
    SyntaxRefused e.2.1 s) ∧
  (∀ (s : State) (e : Char × Instr × List Nat), e ∈ letterCmds → e.1 ∈ ['v', 's', 'e', 't', 'g', 'a', 'l'] → Typed s e.1 [] → 3 ≤ s.monLevel → s.busGrant 11 = none →
    Completes e.2.1 s fun t => t.mon = s.mon ∧ t.sent = s.sent ∧ SameRegsBut s t (fun _ => false))

/-- The monitor prints and reads hexadecimal (R435, R436): a value in `d` digits reads back as itself modulo 16^d; a hex line is taken where its
checksum is right, whatever its address and words, and refused where it is not (R444). -/
def Obligations.HexLinesAreReadBack : Prop :=
  (∀ d v : Nat, (hexN d v).length = d ∧ hexNum 0 (bytesOf (hexN d v)) = some (v % 16 ^ d)) ∧
  (∀ (a : Nat) (ws : List Word) (c : Nat), a < 2 ^ 24 → 1 ≤ ws.length → ws.length ≤ 16 → c < 65536 →
    hexLine (hexText a ws c) = if (a + (ws.map fun w => w.toNat).sum + c) % 65536 = 0 then some (a, ws) else none)

/-- MON_CMD_R, MON_CMD_W and MON_CMD_P complete (R29, R434, R439 to R441): r answers with the register's value and clears nothing; a refused
access is answered with its cause; w writes; p writes a pair and its complement and reads the pair back. -/
def Sys2Proof.Claims.MonitorRegisters : Prop :=
  (∀ (s : State) (w : List (BitVec 8)) (o : Nat) (i : Island) (r : RegRow), Typed s 'r' [w] → hexArg 6 0 0xFFFFFF w = some o →
    s.openFor (readAcc .monitor o) i = true → plainReg (readAcc .monitor o) r → s.monHeld = false →
    Completes .monCmdR s fun t =>
      Replied s t [] (hexN 6 o ++ [' '] ++ hexN 5 (readShows r (s.view (accKey (readAcc .monitor o)))).toNat) true ∧
      SameRegsBut s t (fun k => decide (k = Reg.MON_STS) || decide (k = Reg.MON_CMD_CNT))) ∧
  (∀ (s : State) (w : List (BitVec 8)) (o c : Nat), Typed s 'r' [w] → hexArg 6 0 0xFFFFFF w = some o → sizeCause (readAcc .monitor o) = some c →
    (s.busGrant 11).isSome = true → s.monHeld = false →
    Completes .monCmdR s fun t =>
      (∃ l, Replied s t l ("UR ".toList ++ hexMin c) false) ∧
      (s.fld Reg.PLN_ACC_STS 0 2 = 0 → t.rd Reg.PLN_ACC_BLK = word (o / 65536 + Requester.monitor.code * 256 + c * 2048))) ∧
  (∀ (s : State) (w v : List (BitVec 8)) (o n : Nat) (i : Island) (r : RegRow), Typed s 'w' [w, v] → hexArg 6 0 0xFFFFFF w = some o →
    hexArg 5 0 0x3FFFF v = some n →
    (s.monLevel = 1 → LevelRefused .monCmdW s 2) ∧
    (2 ≤ s.monLevel → let a := regAcc .monitor o (word n)
      s.openFor a i = true → plainReg a r → s.monHeld = false → actingReg (accKey a) = false → r.noWritable = false → accAlias a = 0 →
      word n &&& r.reservedBits = 0 → accKey a ≠ Reg.MON_CMD_CNT →
      Completes .monCmdW s fun t =>
        Replied s t [] "ok".toList true ∧ t.rd (accKey a) = mergeWrite r (s.rd (accKey a)) (word n) ∧
        SameRegsBut s t (fun k => decide (k = accKey a) || decide (k = Reg.MON_STS) || decide (k = Reg.MON_CMD_CNT)))) ∧
  (∀ (s : State) (w v : List (BitVec 8)) (o n : Nat), Typed s 'p' [w, v] → hexArg 6 0 0xFFFFFF w = some o → hexArg 5 0 0x3FFFF v = some n →
    (s.monLevel < pairLevel o → LevelRefused .monCmdP s (pairLevel o)) ∧
    (∀ q : Fin 4, o = pairV q.val → pairLevel o ≤ s.monLevel → n < 2 → s.openFor (regAcc .monitor o (word n)) (Island.ofQuad q.val) = true →
      (s.arb 11).granted 11 + 3 ≤ s.maxOf (arbRow 11) 11 → s.monHeld = false → s.pair q.val = none →
      Completes .monCmdP s fun t =>
        (∃ l, Replied s t l (hexN 6 o ++ [' '] ++ hexN 5 n) true) ∧ (t.quad q.val).men = decide (n = 1) ∧ t.pair q.val = none))

/-- MON_CMD_L, MON_HEX_LINE, MON_LOAD_END, MON_LOAD_ABORT, MON_CMD_B, MON_CMD_Z and MON_Z_RESET complete (R434, R437, R440, R442 to R445): l opens
a load from source 3; a good line stages its words and answers the next address, a bad one is refused and writes nothing; a e
begins verification, a x drops the load; b changes the rate after its reply; z resets the device after its reply. -/
def Sys2Proof.Claims.MonitorLoads : Prop :=
  (∀ s : State, Typed s 'l' [] →
    (s.monLevel < 3 → LevelRefused .monCmdL s 3) ∧
    (3 ≤ s.monLevel → (s.busGrant 11).isSome = true →
      (s.loadRefusal 3 = none →
        Completes .monCmdL s fun t =>
          Replied s t [] "load".toList true ∧ t.stage = 1 ∧ t.fld Reg.ARM_STS 3 2 = 3 ∧ t.rd Reg.ARM_PTR = 0 ∧ t.arm.monLoad = true ∧
          t.arm.staging = [] ∧ t.bit Reg.MON_STS 4 = true) ∧
      (∀ c, s.loadRefusal 3 = some c →
        Completes .monCmdL s fun t => (∃ l, Replied s t l ("ARM ".toList ++ hexMin c) false) ∧ ArmRecorded t c 15 0 ∧ t.arm = s.arm))) ∧
  (∀ (s : State) (line : List (BitVec 8)), s.monAlive = true → s.mon.running = 0 → s.mon.loadWait = false → s.mon.kept = [] → s.monLevel ≠ 0 →
    s.mon.cmd = some line → line.head? = some 0x3A →
    (hexLine line = none →
      Completes .monHexLine s fun t => Replied s t [] "LINE".toList false ∧ t.arm = s.arm ∧
        SameRegsBut s t (fun k => decide (k = Reg.MON_STS) || decide (k = Reg.MON_ERR_CNT))) ∧
    (∀ a ws, hexLine line = some (a, ws) → s.arm.monLoad = true →
      (s.hexRefusal a ws.length = none →
        Completes .monHexLine s fun t =>
          Replied s t [] (hexN 6 (a + ws.length)) true ∧ t.mon.loadTop = max s.mon.loadTop (a + ws.length) ∧
          (∀ k, wordAt t.arm.staging k = if a ≤ k ∧ k < a + ws.length then wordAt ws (k - a) else wordAt s.arm.staging k) ∧ t.stage = s.stage) ∧
      (∀ c k, s.hexRefusal a ws.length = some (c, k) →
        Completes .monHexLine s fun t => Replied s t [] ("ARM ".toList ++ hexMin c) false ∧ ArmRecorded t c 15 k ∧ t.arm = s.arm))) ∧
  (∀ (s : State) (w : List (BitVec 8)) (x : Instr), Typed s 'a' [w] → (w = [0x65] ∧ x = .monLoadEnd ∨ w = [0x78] ∧ x = .monLoadAbort) →
    (s.monLevel < 3 → LevelRefused x s 3) ∧
    (3 ≤ s.monLevel → s.arm.monLoad = false → (s.busGrant 11).isSome = true →
      Completes x s fun t => Replied s t [] "STATE".toList false ∧ t.arm = s.arm)) ∧
  (∀ s : State, Typed s 'a' [[0x65]] → 3 ≤ s.monLevel → s.arm.monLoad = true → (s.busGrant 11).isSome = true →
    Completes .monLoadEnd s fun t =>
      t.stage = 2 ∧ t.arm.received = s.mon.loadTop ∧ t.arm.staging = s.arm.staging ∧ t.mon.loadWait = true ∧ t.sent = s.sent) ∧
  (∀ s : State, Typed s 'a' [[0x78]] → 3 ≤ s.monLevel → s.arm.monLoad = true → (s.busGrant 11).isSome = true →
    s.stage ≠ 5 → s.stage ≠ 6 →
    Completes .monLoadAbort s fun t =>
      t.stage = 0 ∧ t.arm.staging = [] ∧ t.arm.monLoad = false ∧ t.arm.committed = s.arm.committed ∧ Replied s t [] t.monArmature true) ∧
  (∀ (s : State) (w : List (BitVec 8)) (k : Nat), Typed s 'b' [w] → hexArg 1 0 7 w = some k →
    Completes .monCmdB s fun t => Replied s t [] "ok".toList true ∧ t.fld Reg.MON_STS 1 3 = k ∧
      SameRegsBut s t (fun k => decide (k = Reg.MON_STS) || decide (k = Reg.MON_CMD_CNT))) ∧
  (∀ s : State, Typed s 'z' [] →
    (s.monLevel < 3 → LevelRefused .monCmdZ s 3) ∧
    (3 ≤ s.monLevel → Completes .monCmdZ s fun t => Replied s t [] "z".toList true ∧ t.mon.zDue = true)) ∧
  (∀ s : State,
    (s.mon.zDue = false → Completes .monZReset s fun t => t = s) ∧
    (s.mon.zDue = true →
      Completes .monZReset s fun t =>
        WholeReset s t ∧ t.rd Reg.PLN_RST_CAUSE = s.rd Reg.PLN_RST_CAUSE ||| 4 ∧ t.fld Reg.PLN_STRAP 0 4 = s.fld Reg.PLN_STRAP 0 4))

/-! ### The machine as a whole -/

/-- A step takes the command at the front of the queue and is `exec` of it on the state with the queue's rest; on an empty
queue one tick of 2.5 ns passes (the model's choice, log 1): device time goes on by one, modulo 2^54, while TIMEBASE runs
(R11, R69), and no register changes but where the plan's step 6 puts idle islands to sleep (R268). -/
def Obligations.StepRunsTheFrontCommand : Prop :=
  (∀ (s : State) (c : Instr) (rest : List Instr), s.pending = c :: rest → step s = exec c { s with pending := rest }) ∧
  (∀ s : State, s.pending = [] →
    ∃ t, step s = .next t ∧ t.now = s.now + 1 ∧ t.devTime = (if s.clk.timebase then s.devTime + 1 else s.devTime) ∧ t.pending = [] ∧
      (s.fld Reg.NRG_STS 0 3 < 6 → SameRegsBut s t (fun _ => false) ∧ t.sent = s.sent))

/-- Every command completes in every state, whatever its operands: none faults and none is refused (log 3). -/
def Obligations.EveryCommandCompletes : Prop := ∀ (c : Instr) (s : State), ∃ t, exec c s = .next t

/-- What reset leaves (R60, R84, R127, R128): every register at its reset value with good parity, every island but the Plinth
GATED, device time zero, no channel, no queue enabled, no image, nothing waiting; the tables are in canonical form. -/
def Obligations.ResetLeavesTheMachineEmpty : Prop :=
  Regs.wf State.reset = true ∧ Memory.wf State.reset = true ∧ State.reset.pending = [] ∧ State.reset.devTime = 0 ∧
  (∀ k, State.reset.rd k = resetVal k ∧ State.reset.parityOf k = parityBit (rowOf k) (resetVal k)) ∧
  (∀ i : Island, (State.reset.island i).power = if i = .pln then .on else .gated) ∧
  (∀ k, (State.reset.chn k).state = .free ∧ (State.reset.chn k).gen = 1) ∧ (∀ q, (State.reset.queue q).state = .disabled) ∧
  (∀ n, (State.reset.lock n).owner = none) ∧ State.reset.arm.committed = none ∧ State.reset.arm.staged = none ∧
  State.reset.linkUp = false ∧ (∀ p, (State.reset.port p).drive = .hiZ ∧ (State.reset.port p).pen = false)

/-- Every step keeps the canonical form of the register file and of the SRAM: keys strictly rising, and no entry equal to what
an unlisted register or word reads as. -/
def Obligations.StepsKeepTheTablesCanonical : Prop :=
  ∀ s t : State, Regs.wf s = true → Memory.wf s = true → step s = .next t → Regs.wf t = true ∧ Memory.wf t = true

/-- What no command changes (R5, R110): the queue of commands and the model's clock, but for the tick in which device time wraps;
the fused values change only at the end of a fuse programming that succeeded, and to what R110 makes of the item programmed. -/
def Obligations.CommandsLeaveQueueClockAndFuses : Prop :=
  ∀ (c : Instr) (s t : State), exec c s = .next t →
    t.pending = s.pending ∧ (c ≠ .deviceTimeWrap → t.now = s.now) ∧
    (t.fuses = s.fuses ∨
      c = .fuseProgramDone true ∧ ∃ x f, s.arm.fusing = some x ∧ s.fuses.programmed x.1 x.2 = some f ∧ t.fuses = f)

/-! ### The statements that join claims of one part of the machine -/

/-- A register write stores what its access codes give, an alias write changes its bits, a read answers the requester. -/
def Obligations.RegistersStoreAndAnswer : Prop :=
  Claims.RegisterWriteStores ∧ Claims.AliasWritesChangeTheirBits ∧ Claims.RegisterReadAnswers

/-- A refused register access changes nothing but the log, which keeps the first refusal. -/
def Obligations.RefusedAccessesAreLogged : Prop :=
  Claims.RefusedAccessChangesNothing ∧ Claims.RefusalIsLogged

/-- A mailbox captures an item whole, answers its words and applies its staging words. -/
def Obligations.MailboxesMoveTheirItems : Prop :=
  Claims.MailboxCaptureTakesItsItem ∧ Claims.MailboxApplyWritesItsItem

/-- A lock bit sets and its field keeps its value; an open pair holds its value and fails after 1 ms. -/
def Obligations.LocksAndPairsGuard : Prop :=
  Claims.LockBitSets ∧ Claims.LockedFieldKeepsItsValue ∧ Claims.PairGuard

/-- The parity scrub finds mismatches; handshake entries arrive in order; device time wraps to zero. -/
def Obligations.ParityChannelsAndTime : Prop :=
  Claims.ScrubFindsMismatches ∧ Claims.ChannelsAndTimeMove

/-- An admitted enable or gate starts its island; a refused enable is logged and changes no island. -/
def Obligations.IslandsAreEnabledAndGated : Prop :=
  Claims.IslandEnableAndGate ∧ Claims.RefusedEnableIsLogged

/-- Idle islands sleep and wake, forced modes hold, parked writes and waiting requests end. -/
def Obligations.IslandsSleepAndWake : Prop :=
  Claims.IslandSleepAndWake ∧ Claims.ForcedPowerModes ∧ Claims.ParkedTrafficAndWaits

/-- Gates are counted, the REFCLK test passes or fails, the eighth gate makes XTAL stable, 50 ms end in IRC mode. -/
def Obligations.TheCrystalIsJudged : Prop :=
  Claims.CrystalJudging ∧ Claims.CrystalJudgedStable

/-- Clock sources switch, the frequency counter captures its count, the sequencer moves one point a step. -/
def Obligations.ClocksCountersAndPoints : Prop :=
  Claims.ClockSources ∧ Claims.FrequencyCounter ∧ Claims.OperatingPoints

/-- A load opens for its requester, its words are staged in order, and verification stages or refuses the image. -/
def Obligations.ArmatureLoadsAndVerifies : Prop :=
  Claims.LoadControl ∧ Claims.LoadedWords ∧ Claims.VerificationEnds

/-- Under ENFORCE only a signed image verifies; a refused commit keeps the image; maquette mode follows its bit. -/
def Obligations.CommitsAreJudgedAndEnforced : Prop :=
  Claims.EnforceNeedsSignature ∧ Claims.CommitsAreJudged ∧ Claims.MaquetteMode

/-- A slot takes the verified image; a fuse programming changes the fuses at its end and never clears a bit. -/
def Obligations.FlashAndFusesAreProgrammed : Prop :=
  Claims.FlashProgramming ∧ Claims.FuseProgramming ∧ Claims.FusesOnlyGainBits

/-- POR and RESET_N leave nothing of the work done; power-up clears the SRAM, reads slot A and starts the commit. -/
def Obligations.TheDevicePowersUp : Prop :=
  Claims.WholeDeviceResets ∧ Claims.PowerUpSteps ∧ Claims.FieldSupply

/-- PERST_N, hot reset and FLR end the function's use of the device; configuration requests are answered or retried. -/
def Obligations.TheFunctionIsReset : Prop :=
  Claims.FundamentalReset ∧ Claims.FunctionResets ∧ Claims.ConfigRequestAnswers

/-- An island reset drains its island to OFF or is logged; a purge clears SRAM, channels and, on request, the flash. -/
def Obligations.IslandsResetAndThePurgeClears : Prop :=
  Claims.IslandResets ∧ Claims.PurgeClearsTheDevice

/-- A lane that fails three times is dropped, and an upconfigure brings lanes back or records why not. -/
def Obligations.LanesDropAndComeBack : Prop :=
  Claims.LanesFailAndDrop ∧ Claims.LanesComeBack

/-- Eye scans store their result, margining aborts them; the test mode takes the link down and counts from zero. -/
def Obligations.EyesAndTestModeRun : Prop :=
  Claims.EyesAreScanned ∧ Claims.TestModeRuns

/-- L0s, L1 and L1.1 are entered and left, LTR is sent, and a lost link disables queues and sinks reads. -/
def Obligations.LinkSleepsAndIsLost : Prop :=
  Claims.LinkSleepsAndWakes ∧ Claims.LinkIsLost

/-- Completions reach their consumers, time out or are late; translations are cached, invalidated and flushed. -/
def Obligations.ReadsAndTranslationsComeBack : Prop :=
  Claims.ReadsComeBack ∧ Claims.TranslationsComeAndGo

/-- An AtomicOp joins the bridge or is answered; an SRAM access touches its own word only and corrects single bits. -/
def Obligations.AtomicsAndSramWords : Prop :=
  Claims.HostAtomics ∧ Claims.SramKeepsItsWords

/-- CREATE, QUIESCE, RESUME and DESTROY move their channel or are refused; a quiescing channel ends quiesced. -/
def Obligations.ChannelsLiveAndEnd : Prop :=
  Claims.ChannelOperations ∧ Claims.ChannelEnds

/-- Queue commands and doorbells move a queue or fault it; entries leave header-last, fetches take the lowest tag. -/
def Obligations.QueuesCarryTheirEntries : Prop :=
  Claims.QueuesAreCommanded ∧ Claims.EntriesMove

/-- Vectors send what they collected, masks and routes take effect, hardware locks are acquired, released and forced. -/
def Obligations.EventsAndLocks : Prop :=
  Claims.EventsReachTheirVectors ∧ Claims.HardwareLocks

/-- Qualified transitions count, illegal ones are counted apart; faults, probes and indexes set their conditions. -/
def Obligations.EncodersCountAndReport : Prop :=
  Claims.EncodersCount ∧ Claims.EncoderFaultsAndIndex

/-- Line-event inputs capture and drive DIRECT ports; slip comparators set and clear with the speeds. -/
def Obligations.LineEventsAndSlip : Prop :=
  Claims.LineEvents ∧ Claims.SlipComparators

/-- A due target fires or joins a gap, and a fire that leaves drives its outputs and its record. -/
def Obligations.FiresAreJudgedAndLeave : Prop :=
  Claims.FiresAreJudged ∧ Claims.FiresLeave

/-- Presence, power, power good and the attention button move a head port through its slot states. -/
def Obligations.HeadsAreHotPlugSlots : Prop :=
  Claims.HeadsAreHotPlugSlots ∧ Claims.AttentionButton

/-- Ring lanes train, and frames are kept, forwarded, removed or counted as bad. -/
def Obligations.RingLanesCarryFrames : Prop :=
  Claims.RingLanesTrain ∧ Claims.RingFramesAreForwarded

/-- Beacons steer group time and membership; samples, STATUS and GAP frames update what the node knows. -/
def Obligations.BeaconsAndSamplesAreTaken : Prop :=
  Claims.BeaconsAreFollowed ∧ Claims.SamplesAndStatusAreTaken

/-- Control frames are obeyed, and the node's own frames leave with the words of R342. -/
def Obligations.ControlFramesAndOwnFrames : Prop :=
  Claims.ControlFramesAreObeyed ∧ Claims.RingNodeSends

/-- Keepers are elected and lost, members go missing, and the ring wraps and unwraps. -/
def Obligations.KeepersMembersAndWraps : Prop :=
  Claims.KeeperAndMembers ∧ Claims.RingWrapsAndUnwraps

/-- A node fetches the keeper's image or says why not; it leaves, joins again and resets with the group. -/
def Obligations.NodesFetchLeaveAndJoin : Prop :=
  Claims.ArmaturesAreFetched ∧ Claims.NodesLeaveAndJoin

/-- A CAN controller starts as its mode says, and a received frame meets its filters and its queue. -/
def Obligations.ControllersStartAndReceive : Prop :=
  Claims.ControllersStart ∧ Claims.FramesAreReceived

/-- Frames are requested, cancelled and fetched; the one that wins arbitration leaves and is reported. -/
def Obligations.FramesAreRequestedAndSent : Prop :=
  Claims.FramesAreRequested ∧ Claims.FramesAreSent

/-- Errors move TEC and REC to warning, passive and bus-off; line faults set and clear their bits. -/
def Obligations.BusErrorsAndLines : Prop :=
  Claims.ErrorsAreConfined ∧ Claims.BusLinesAreWatched

/-- The satellite bus is granted and locked; its store, wires and resets do what their registers say. -/
def Obligations.SatelliteBusAndWires : Prop :=
  Claims.BusAndLock ∧ Claims.StoreWiresAndResets

/-- Split requests are retried, repeated and answered; write bursts reach windows, registers or are refused. -/
def Obligations.MastersReadAndWrite : Prop :=
  Claims.SplitRequests ∧ Claims.MastersWrite

/-- Host requests to the windows enter the bridge in order, and the bridge carries and answers them. -/
def Obligations.TheBridgeCarriesHostRequests : Prop :=
  Claims.HostReachesWindows ∧ Claims.BridgeCarries

/-- The monitor's line is edited and judged, and its summary commands show what their registers hold. -/
def Obligations.TheMonitorReplies : Prop :=
  Claims.MonitorLine ∧ Claims.MonitorSummaries

/-- The monitor reads and writes registers and pairs, resets, and loads images by hex lines. -/
def Obligations.MonitorAccessesAndLoads : Prop :=
  Claims.MonitorRegisters ∧ Claims.MonitorLoads
end

