-- ==== Sys2Proof/Laws/Tab.lean ====
section
/-!
SUPPORT. The laws of the sparse tables: what is read after a write, and that every operation keeps the canonical form.
-/

namespace Sys2Proof

/-- A read of the key just entered. -/
@[simp] theorem Tab.get_insert_self {α : Type} {d v : α} {t : Tab α} {k : Nat} : Tab.get d (Tab.insert t k v) k = v := by
  induction t with
  | nil => simp [Tab.insert, Tab.get]
  | cons e t ih => simp only [Tab.insert]; split <;> (try split) <;> simp_all [Tab.get]

/-- A read of another key after an entry. -/
theorem Tab.get_insert_ne {α : Type} {d v : α} {t : Tab α} {k j : Nat} (h : j ≠ k) : Tab.get d (Tab.insert t k v) j = Tab.get d t j := by
  induction t with
  | nil => simp [Tab.insert, Tab.get, h]
  | cons e t ih =>
    simp only [Tab.insert]
    split
    · simp [Tab.get, h]
    · split
      · subst_vars; simp [Tab.get, h]
      · simp only [Tab.get, ih]

/-- A read of the key just removed gives what an unlisted key reads as. -/
@[simp] theorem Tab.get_erase_self {α : Type} {d : α} {t : Tab α} {k : Nat} : Tab.get d (Tab.erase t k) k = d := by
  induction t with
  | nil => rfl
  | cons e t ih =>
    simp only [Tab.erase]
    split
    · exact ih
    · rename_i h; simp only [Tab.get, if_neg h, ih]

/-- A read of another key after a removal. -/
theorem Tab.get_erase_ne {α : Type} {d : α} {t : Tab α} {k j : Nat} (h : j ≠ k) : Tab.get d (Tab.erase t k) j = Tab.get d t j := by
  induction t with
  | nil => rfl
  | cons e t ih =>
    simp only [Tab.erase]
    split
    · subst_vars; simp only [Tab.get, if_neg h, ih]
    · simp only [Tab.get, ih]

/-- A read after a write to the same key gives the value written. -/
@[simp] theorem Tab.get_set_self {α : Type} [DecidableEq α] {d v : α} {t : Tab α} {k : Nat} : Tab.get d (Tab.set d t k v) k = v := by
  unfold Tab.set
  split
  · subst_vars; exact Tab.get_erase_self
  · exact Tab.get_insert_self

/-- A write leaves every other key as it was. -/
theorem Tab.get_set_ne {α : Type} [DecidableEq α] {d d' v : α} {t : Tab α} {k j : Nat} (h : j ≠ k) :
    Tab.get d' (Tab.set d t k v) j = Tab.get d' t j := by
  unfold Tab.set
  split
  · exact Tab.get_erase_ne h
  · exact Tab.get_insert_ne h

theorem Tab.sorted_mono {α : Type} {t : Tab α} {a b : Nat} (h : a ≤ b) (w : Tab.sortedFrom b t = true) : Tab.sortedFrom a t = true := by
  cases t with
  | nil => rfl
  | cons e t => simp only [Tab.sortedFrom, Bool.and_eq_true, decide_eq_true_eq] at *; exact ⟨by omega, w.2⟩

theorem Tab.sorted_erase {α : Type} {t : Tab α} {a k : Nat} (w : Tab.sortedFrom a t = true) : Tab.sortedFrom a (Tab.erase t k) = true := by
  induction t generalizing a with
  | nil => rfl
  | cons e t ih =>
    simp only [Tab.sortedFrom, Tab.erase, Bool.and_eq_true, decide_eq_true_eq] at *
    split
    · exact Tab.sorted_mono (by omega) (ih w.2)
    · simp only [Tab.sortedFrom, Bool.and_eq_true, decide_eq_true_eq]; exact ⟨w.1, ih w.2⟩

theorem Tab.sorted_insert {α : Type} {t : Tab α} {a k : Nat} {v : α} (h : a ≤ k) (w : Tab.sortedFrom a t = true) :
    Tab.sortedFrom a (Tab.insert t k v) = true := by
  induction t generalizing a with
  | nil => simp [Tab.insert, Tab.sortedFrom, h]
  | cons e t ih =>
    simp only [Tab.sortedFrom, Tab.insert, Bool.and_eq_true, decide_eq_true_eq] at *
    split
    · simp only [Tab.sortedFrom, Bool.and_eq_true, decide_eq_true_eq]; exact ⟨h, by omega, w.2⟩
    · split
      · simp only [Tab.sortedFrom, Bool.and_eq_true, decide_eq_true_eq]; subst_vars; exact ⟨h, w.2⟩
      · simp only [Tab.sortedFrom, Bool.and_eq_true, decide_eq_true_eq]; exact ⟨w.1, ih (by omega) w.2⟩

theorem Tab.mem_erase {α : Type} {t : Tab α} {k : Nat} {e} (h : e ∈ Tab.erase t k) : e ∈ t := by
  induction t with
  | nil => exact h
  | cons x t ih =>
    simp only [Tab.erase] at h
    split at h
    · exact List.mem_cons_of_mem _ (ih h)
    · rcases List.mem_cons.1 h with r | r
      · exact r ▸ List.mem_cons_self
      · exact List.mem_cons_of_mem _ (ih r)

theorem Tab.mem_insert {α : Type} {t : Tab α} {k : Nat} {v : α} {e} (h : e ∈ Tab.insert t k v) : e = (k, v) ∨ e ∈ t := by
  induction t with
  | nil => exact .inl (by simpa [Tab.insert] using h)
  | cons x t ih =>
    simp only [Tab.insert] at h
    split at h
    · rcases List.mem_cons.1 h with r | r
      · exact .inl r
      · exact .inr r
    · split at h
      · rcases List.mem_cons.1 h with r | r
        · exact .inl r
        · exact .inr (List.mem_cons_of_mem _ r)
      · rcases List.mem_cons.1 h with r | r
        · exact .inr (r ▸ List.mem_cons_self)
        · rcases ih r with q | q
          · exact .inl q
          · exact .inr (List.mem_cons_of_mem _ q)

theorem Tab.wf_set {α : Type} [DecidableEq α] {d : Nat → α} {t : Tab α} {k : Nat} {v : α} (w : Tab.wf d t = true) :
    Tab.wf d (Tab.set (d k) t k v) = true := by
  simp only [Tab.wf, Bool.and_eq_true, List.all_eq_true, decide_eq_true_eq] at *
  unfold Tab.set
  split
  · exact ⟨Tab.sorted_erase w.1, fun e h => w.2 e (Tab.mem_erase h)⟩
  · refine ⟨Tab.sorted_insert (Nat.zero_le _) w.1, fun e h => ?_⟩
    rcases Tab.mem_insert h with r | r
    · subst r; assumption
    · exact w.2 e r

theorem Tab.sorted_filter {α : Type} {t : Tab α} {p : Nat × α → Bool} {a : Nat} (w : Tab.sortedFrom a t = true) :
    Tab.sortedFrom a (t.filter p) = true := by
  induction t generalizing a with
  | nil => rfl
  | cons e t ih =>
    simp only [Tab.sortedFrom, Bool.and_eq_true, decide_eq_true_eq, List.filter_cons] at *
    split
    · simp only [Tab.sortedFrom, Bool.and_eq_true, decide_eq_true_eq]; exact ⟨w.1, ih w.2⟩
    · exact Tab.sorted_mono (by omega) (ih w.2)

theorem Tab.wf_filter {α : Type} [DecidableEq α] {d : Nat → α} {t : Tab α} {p : Nat × α → Bool} (w : Tab.wf d t = true) :
    Tab.wf d (t.filter p) = true := by
  simp only [Tab.wf, Bool.and_eq_true, List.all_eq_true, decide_eq_true_eq] at *
  exact ⟨Tab.sorted_filter w.1, fun e h => w.2 e (List.mem_of_mem_filter h)⟩

end Sys2Proof
end

