-- ==== Sys2Proof/Laws/State.lean ====
section
/-!
SUPPORT. Each update of the state, field by field: what a read after it gives, and that it leaves every other field as
it was, so that no proof unfolds a record update. One lemma for each field and update, true by `rfl`.
-/

namespace Sys2Proof.Machine

variable (s : State)


/-! `reparity` -/

@[simp] theorem State.reparity_pending (k : Nat) : (s.reparity k).pending = s.pending := rfl
@[simp] theorem State.reparity_now (k : Nat) : (s.reparity k).now = s.now := rfl
@[simp] theorem State.reparity_devTime (k : Nat) : (s.reparity k).devTime = s.devTime := rfl
@[simp] theorem State.reparity_freeIdx (k : Nat) : (s.reparity k).freeIdx = s.freeIdx := rfl
@[simp] theorem State.reparity_regs (k : Nat) : (s.reparity k).regs = s.regs := rfl
@[simp] theorem State.reparity_scrub (k : Nat) : (s.reparity k).scrub = s.scrub := rfl
@[simp] theorem State.reparity_scrubPasses (k : Nat) : (s.reparity k).scrubPasses = s.scrubPasses := rfl
@[simp] theorem State.reparity_isl (k : Nat) : (s.reparity k).isl = s.isl := rfl
@[simp] theorem State.reparity_wakeBuf (k : Nat) : (s.reparity k).wakeBuf = s.wakeBuf := rfl
@[simp] theorem State.reparity_waiters (k : Nat) : (s.reparity k).waiters = s.waiters := rfl
@[simp] theorem State.reparity_busWait (k : Nat) : (s.reparity k).busWait = s.busWait := rfl
@[simp] theorem State.reparity_mbs (k : Nat) : (s.reparity k).mbs = s.mbs := rfl
@[simp] theorem State.reparity_pairs (k : Nat) : (s.reparity k).pairs = s.pairs := rfl
@[simp] theorem State.reparity_fpwr (k : Nat) : (s.reparity k).fpwr = s.fpwr := rfl
@[simp] theorem State.reparity_chans (k : Nat) : (s.reparity k).chans = s.chans := rfl
@[simp] theorem State.reparity_clk (k : Nat) : (s.reparity k).clk = s.clk := rfl
@[simp] theorem State.reparity_fuses (k : Nat) : (s.reparity k).fuses = s.fuses := rfl
@[simp] theorem State.reparity_arm (k : Nat) : (s.reparity k).arm = s.arm := rfl
@[simp] theorem State.reparity_boot (k : Nat) : (s.reparity k).boot = s.boot := rfl
@[simp] theorem State.reparity_link (k : Nat) : (s.reparity k).link = s.link := rfl
@[simp] theorem State.reparity_txn (k : Nat) : (s.reparity k).txn = s.txn := rfl
@[simp] theorem State.reparity_sram (k : Nat) : (s.reparity k).sram = s.sram := rfl
@[simp] theorem State.reparity_mem (k : Nat) : (s.reparity k).mem = s.mem := rfl
@[simp] theorem State.reparity_que (k : Nat) : (s.reparity k).que = s.que := rfl
@[simp] theorem State.reparity_nrg (k : Nat) : (s.reparity k).nrg = s.nrg := rfl
@[simp] theorem State.reparity_mot (k : Nat) : (s.reparity k).mot = s.mot := rfl
@[simp] theorem State.reparity_trg (k : Nat) : (s.reparity k).trg = s.trg := rfl
@[simp] theorem State.reparity_ring (k : Nat) : (s.reparity k).ring = s.ring := rfl
@[simp] theorem State.reparity_fb (k : Nat) : (s.reparity k).fb = s.fb := rfl
@[simp] theorem State.reparity_sat (k : Nat) : (s.reparity k).sat = s.sat := rfl
@[simp] theorem State.reparity_mon (k : Nat) : (s.reparity k).mon = s.mon := rfl
@[simp] theorem State.reparity_sent (k : Nat) : (s.reparity k).sent = s.sent := rfl
@[simp] theorem State.reparity_rd (k : Nat) (r : Nat) : (s.reparity k).rd r = s.rd r := rfl
@[simp] theorem State.reparity_fld (k : Nat) (r lo w' : Nat) : (s.reparity k).fld r lo w' = s.fld r lo w' := rfl
@[simp] theorem State.reparity_bit (k : Nat) (r b : Nat) : (s.reparity k).bit r b = s.bit r b := rfl
@[simp] theorem State.reparity_island (k : Nat) (i' : Island) : (s.reparity k).island i' = s.island i' := rfl

/-! `wr` -/

@[simp] theorem State.wr_pending (k : Nat) (v : Word) : (s.wr k v).pending = s.pending := rfl
@[simp] theorem State.wr_now (k : Nat) (v : Word) : (s.wr k v).now = s.now := rfl
@[simp] theorem State.wr_devTime (k : Nat) (v : Word) : (s.wr k v).devTime = s.devTime := rfl
@[simp] theorem State.wr_freeIdx (k : Nat) (v : Word) : (s.wr k v).freeIdx = s.freeIdx := rfl
@[simp] theorem State.wr_scrub (k : Nat) (v : Word) : (s.wr k v).scrub = s.scrub := rfl
@[simp] theorem State.wr_scrubPasses (k : Nat) (v : Word) : (s.wr k v).scrubPasses = s.scrubPasses := rfl
@[simp] theorem State.wr_isl (k : Nat) (v : Word) : (s.wr k v).isl = s.isl := rfl
@[simp] theorem State.wr_wakeBuf (k : Nat) (v : Word) : (s.wr k v).wakeBuf = s.wakeBuf := rfl
@[simp] theorem State.wr_waiters (k : Nat) (v : Word) : (s.wr k v).waiters = s.waiters := rfl
@[simp] theorem State.wr_busWait (k : Nat) (v : Word) : (s.wr k v).busWait = s.busWait := rfl
@[simp] theorem State.wr_mbs (k : Nat) (v : Word) : (s.wr k v).mbs = s.mbs := rfl
@[simp] theorem State.wr_pairs (k : Nat) (v : Word) : (s.wr k v).pairs = s.pairs := rfl
@[simp] theorem State.wr_fpwr (k : Nat) (v : Word) : (s.wr k v).fpwr = s.fpwr := rfl
@[simp] theorem State.wr_chans (k : Nat) (v : Word) : (s.wr k v).chans = s.chans := rfl
@[simp] theorem State.wr_clk (k : Nat) (v : Word) : (s.wr k v).clk = s.clk := rfl
@[simp] theorem State.wr_fuses (k : Nat) (v : Word) : (s.wr k v).fuses = s.fuses := rfl
@[simp] theorem State.wr_arm (k : Nat) (v : Word) : (s.wr k v).arm = s.arm := rfl
@[simp] theorem State.wr_boot (k : Nat) (v : Word) : (s.wr k v).boot = s.boot := rfl
@[simp] theorem State.wr_link (k : Nat) (v : Word) : (s.wr k v).link = s.link := rfl
@[simp] theorem State.wr_txn (k : Nat) (v : Word) : (s.wr k v).txn = s.txn := rfl
@[simp] theorem State.wr_sram (k : Nat) (v : Word) : (s.wr k v).sram = s.sram := rfl
@[simp] theorem State.wr_mem (k : Nat) (v : Word) : (s.wr k v).mem = s.mem := rfl
@[simp] theorem State.wr_que (k : Nat) (v : Word) : (s.wr k v).que = s.que := rfl
@[simp] theorem State.wr_nrg (k : Nat) (v : Word) : (s.wr k v).nrg = s.nrg := rfl
@[simp] theorem State.wr_mot (k : Nat) (v : Word) : (s.wr k v).mot = s.mot := rfl
@[simp] theorem State.wr_trg (k : Nat) (v : Word) : (s.wr k v).trg = s.trg := rfl
@[simp] theorem State.wr_ring (k : Nat) (v : Word) : (s.wr k v).ring = s.ring := rfl
@[simp] theorem State.wr_fb (k : Nat) (v : Word) : (s.wr k v).fb = s.fb := rfl
@[simp] theorem State.wr_sat (k : Nat) (v : Word) : (s.wr k v).sat = s.sat := rfl
@[simp] theorem State.wr_mon (k : Nat) (v : Word) : (s.wr k v).mon = s.mon := rfl
@[simp] theorem State.wr_sent (k : Nat) (v : Word) : (s.wr k v).sent = s.sent := rfl
@[simp] theorem State.wr_island (k : Nat) (v : Word) (i' : Island) : (s.wr k v).island i' = s.island i' := rfl

/-! `setFld` -/

@[simp] theorem State.setFld_pending (k lo w n : Nat) : (s.setFld k lo w n).pending = s.pending := rfl
@[simp] theorem State.setFld_now (k lo w n : Nat) : (s.setFld k lo w n).now = s.now := rfl
@[simp] theorem State.setFld_devTime (k lo w n : Nat) : (s.setFld k lo w n).devTime = s.devTime := rfl
@[simp] theorem State.setFld_freeIdx (k lo w n : Nat) : (s.setFld k lo w n).freeIdx = s.freeIdx := rfl
@[simp] theorem State.setFld_scrub (k lo w n : Nat) : (s.setFld k lo w n).scrub = s.scrub := rfl
@[simp] theorem State.setFld_scrubPasses (k lo w n : Nat) : (s.setFld k lo w n).scrubPasses = s.scrubPasses := rfl
@[simp] theorem State.setFld_isl (k lo w n : Nat) : (s.setFld k lo w n).isl = s.isl := rfl
@[simp] theorem State.setFld_wakeBuf (k lo w n : Nat) : (s.setFld k lo w n).wakeBuf = s.wakeBuf := rfl
@[simp] theorem State.setFld_waiters (k lo w n : Nat) : (s.setFld k lo w n).waiters = s.waiters := rfl
@[simp] theorem State.setFld_busWait (k lo w n : Nat) : (s.setFld k lo w n).busWait = s.busWait := rfl
@[simp] theorem State.setFld_mbs (k lo w n : Nat) : (s.setFld k lo w n).mbs = s.mbs := rfl
@[simp] theorem State.setFld_pairs (k lo w n : Nat) : (s.setFld k lo w n).pairs = s.pairs := rfl
@[simp] theorem State.setFld_fpwr (k lo w n : Nat) : (s.setFld k lo w n).fpwr = s.fpwr := rfl
@[simp] theorem State.setFld_chans (k lo w n : Nat) : (s.setFld k lo w n).chans = s.chans := rfl
@[simp] theorem State.setFld_clk (k lo w n : Nat) : (s.setFld k lo w n).clk = s.clk := rfl
@[simp] theorem State.setFld_fuses (k lo w n : Nat) : (s.setFld k lo w n).fuses = s.fuses := rfl
@[simp] theorem State.setFld_arm (k lo w n : Nat) : (s.setFld k lo w n).arm = s.arm := rfl
@[simp] theorem State.setFld_boot (k lo w n : Nat) : (s.setFld k lo w n).boot = s.boot := rfl
@[simp] theorem State.setFld_link (k lo w n : Nat) : (s.setFld k lo w n).link = s.link := rfl
@[simp] theorem State.setFld_txn (k lo w n : Nat) : (s.setFld k lo w n).txn = s.txn := rfl
@[simp] theorem State.setFld_sram (k lo w n : Nat) : (s.setFld k lo w n).sram = s.sram := rfl
@[simp] theorem State.setFld_mem (k lo w n : Nat) : (s.setFld k lo w n).mem = s.mem := rfl
@[simp] theorem State.setFld_que (k lo w n : Nat) : (s.setFld k lo w n).que = s.que := rfl
@[simp] theorem State.setFld_nrg (k lo w n : Nat) : (s.setFld k lo w n).nrg = s.nrg := rfl
@[simp] theorem State.setFld_mot (k lo w n : Nat) : (s.setFld k lo w n).mot = s.mot := rfl
@[simp] theorem State.setFld_trg (k lo w n : Nat) : (s.setFld k lo w n).trg = s.trg := rfl
@[simp] theorem State.setFld_ring (k lo w n : Nat) : (s.setFld k lo w n).ring = s.ring := rfl
@[simp] theorem State.setFld_fb (k lo w n : Nat) : (s.setFld k lo w n).fb = s.fb := rfl
@[simp] theorem State.setFld_sat (k lo w n : Nat) : (s.setFld k lo w n).sat = s.sat := rfl
@[simp] theorem State.setFld_mon (k lo w n : Nat) : (s.setFld k lo w n).mon = s.mon := rfl
@[simp] theorem State.setFld_sent (k lo w n : Nat) : (s.setFld k lo w n).sent = s.sent := rfl
@[simp] theorem State.setFld_island (k lo w n : Nat) (i' : Island) : (s.setFld k lo w n).island i' = s.island i' := rfl

/-! `setBit` -/

@[simp] theorem State.setBit_pending (k b : Nat) (v : Bool) : (s.setBit k b v).pending = s.pending := rfl
@[simp] theorem State.setBit_now (k b : Nat) (v : Bool) : (s.setBit k b v).now = s.now := rfl
@[simp] theorem State.setBit_devTime (k b : Nat) (v : Bool) : (s.setBit k b v).devTime = s.devTime := rfl
@[simp] theorem State.setBit_freeIdx (k b : Nat) (v : Bool) : (s.setBit k b v).freeIdx = s.freeIdx := rfl
@[simp] theorem State.setBit_scrub (k b : Nat) (v : Bool) : (s.setBit k b v).scrub = s.scrub := rfl
@[simp] theorem State.setBit_scrubPasses (k b : Nat) (v : Bool) : (s.setBit k b v).scrubPasses = s.scrubPasses := rfl
@[simp] theorem State.setBit_isl (k b : Nat) (v : Bool) : (s.setBit k b v).isl = s.isl := rfl
@[simp] theorem State.setBit_wakeBuf (k b : Nat) (v : Bool) : (s.setBit k b v).wakeBuf = s.wakeBuf := rfl
@[simp] theorem State.setBit_waiters (k b : Nat) (v : Bool) : (s.setBit k b v).waiters = s.waiters := rfl
@[simp] theorem State.setBit_busWait (k b : Nat) (v : Bool) : (s.setBit k b v).busWait = s.busWait := rfl
@[simp] theorem State.setBit_mbs (k b : Nat) (v : Bool) : (s.setBit k b v).mbs = s.mbs := rfl
@[simp] theorem State.setBit_pairs (k b : Nat) (v : Bool) : (s.setBit k b v).pairs = s.pairs := rfl
@[simp] theorem State.setBit_fpwr (k b : Nat) (v : Bool) : (s.setBit k b v).fpwr = s.fpwr := rfl
@[simp] theorem State.setBit_chans (k b : Nat) (v : Bool) : (s.setBit k b v).chans = s.chans := rfl
@[simp] theorem State.setBit_clk (k b : Nat) (v : Bool) : (s.setBit k b v).clk = s.clk := rfl
@[simp] theorem State.setBit_fuses (k b : Nat) (v : Bool) : (s.setBit k b v).fuses = s.fuses := rfl
@[simp] theorem State.setBit_arm (k b : Nat) (v : Bool) : (s.setBit k b v).arm = s.arm := rfl
@[simp] theorem State.setBit_boot (k b : Nat) (v : Bool) : (s.setBit k b v).boot = s.boot := rfl
@[simp] theorem State.setBit_link (k b : Nat) (v : Bool) : (s.setBit k b v).link = s.link := rfl
@[simp] theorem State.setBit_txn (k b : Nat) (v : Bool) : (s.setBit k b v).txn = s.txn := rfl
@[simp] theorem State.setBit_sram (k b : Nat) (v : Bool) : (s.setBit k b v).sram = s.sram := rfl
@[simp] theorem State.setBit_mem (k b : Nat) (v : Bool) : (s.setBit k b v).mem = s.mem := rfl
@[simp] theorem State.setBit_que (k b : Nat) (v : Bool) : (s.setBit k b v).que = s.que := rfl
@[simp] theorem State.setBit_nrg (k b : Nat) (v : Bool) : (s.setBit k b v).nrg = s.nrg := rfl
@[simp] theorem State.setBit_mot (k b : Nat) (v : Bool) : (s.setBit k b v).mot = s.mot := rfl
@[simp] theorem State.setBit_trg (k b : Nat) (v : Bool) : (s.setBit k b v).trg = s.trg := rfl
@[simp] theorem State.setBit_ring (k b : Nat) (v : Bool) : (s.setBit k b v).ring = s.ring := rfl
@[simp] theorem State.setBit_fb (k b : Nat) (v : Bool) : (s.setBit k b v).fb = s.fb := rfl
@[simp] theorem State.setBit_sat (k b : Nat) (v : Bool) : (s.setBit k b v).sat = s.sat := rfl
@[simp] theorem State.setBit_mon (k b : Nat) (v : Bool) : (s.setBit k b v).mon = s.mon := rfl
@[simp] theorem State.setBit_sent (k b : Nat) (v : Bool) : (s.setBit k b v).sent = s.sent := rfl
@[simp] theorem State.setBit_island (k b : Nat) (v : Bool) (i' : Island) : (s.setBit k b v).island i' = s.island i' := rfl

/-! `bumpBy` -/

@[simp] theorem State.bumpBy_pending (k n : Nat) : (s.bumpBy k n).pending = s.pending := rfl
@[simp] theorem State.bumpBy_now (k n : Nat) : (s.bumpBy k n).now = s.now := rfl
@[simp] theorem State.bumpBy_devTime (k n : Nat) : (s.bumpBy k n).devTime = s.devTime := rfl
@[simp] theorem State.bumpBy_freeIdx (k n : Nat) : (s.bumpBy k n).freeIdx = s.freeIdx := rfl
@[simp] theorem State.bumpBy_scrub (k n : Nat) : (s.bumpBy k n).scrub = s.scrub := rfl
@[simp] theorem State.bumpBy_scrubPasses (k n : Nat) : (s.bumpBy k n).scrubPasses = s.scrubPasses := rfl
@[simp] theorem State.bumpBy_isl (k n : Nat) : (s.bumpBy k n).isl = s.isl := rfl
@[simp] theorem State.bumpBy_wakeBuf (k n : Nat) : (s.bumpBy k n).wakeBuf = s.wakeBuf := rfl
@[simp] theorem State.bumpBy_waiters (k n : Nat) : (s.bumpBy k n).waiters = s.waiters := rfl
@[simp] theorem State.bumpBy_busWait (k n : Nat) : (s.bumpBy k n).busWait = s.busWait := rfl
@[simp] theorem State.bumpBy_mbs (k n : Nat) : (s.bumpBy k n).mbs = s.mbs := rfl
@[simp] theorem State.bumpBy_pairs (k n : Nat) : (s.bumpBy k n).pairs = s.pairs := rfl
@[simp] theorem State.bumpBy_fpwr (k n : Nat) : (s.bumpBy k n).fpwr = s.fpwr := rfl
@[simp] theorem State.bumpBy_chans (k n : Nat) : (s.bumpBy k n).chans = s.chans := rfl
@[simp] theorem State.bumpBy_clk (k n : Nat) : (s.bumpBy k n).clk = s.clk := rfl
@[simp] theorem State.bumpBy_fuses (k n : Nat) : (s.bumpBy k n).fuses = s.fuses := rfl
@[simp] theorem State.bumpBy_arm (k n : Nat) : (s.bumpBy k n).arm = s.arm := rfl
@[simp] theorem State.bumpBy_boot (k n : Nat) : (s.bumpBy k n).boot = s.boot := rfl
@[simp] theorem State.bumpBy_link (k n : Nat) : (s.bumpBy k n).link = s.link := rfl
@[simp] theorem State.bumpBy_txn (k n : Nat) : (s.bumpBy k n).txn = s.txn := rfl
@[simp] theorem State.bumpBy_sram (k n : Nat) : (s.bumpBy k n).sram = s.sram := rfl
@[simp] theorem State.bumpBy_mem (k n : Nat) : (s.bumpBy k n).mem = s.mem := rfl
@[simp] theorem State.bumpBy_que (k n : Nat) : (s.bumpBy k n).que = s.que := rfl
@[simp] theorem State.bumpBy_nrg (k n : Nat) : (s.bumpBy k n).nrg = s.nrg := rfl
@[simp] theorem State.bumpBy_mot (k n : Nat) : (s.bumpBy k n).mot = s.mot := rfl
@[simp] theorem State.bumpBy_trg (k n : Nat) : (s.bumpBy k n).trg = s.trg := rfl
@[simp] theorem State.bumpBy_ring (k n : Nat) : (s.bumpBy k n).ring = s.ring := rfl
@[simp] theorem State.bumpBy_fb (k n : Nat) : (s.bumpBy k n).fb = s.fb := rfl
@[simp] theorem State.bumpBy_sat (k n : Nat) : (s.bumpBy k n).sat = s.sat := rfl
@[simp] theorem State.bumpBy_mon (k n : Nat) : (s.bumpBy k n).mon = s.mon := rfl
@[simp] theorem State.bumpBy_sent (k n : Nat) : (s.bumpBy k n).sent = s.sent := rfl
@[simp] theorem State.bumpBy_island (k n : Nat) (i' : Island) : (s.bumpBy k n).island i' = s.island i' := rfl

/-! `bump` -/

@[simp] theorem State.bump_pending (k : Nat) : (s.bump k).pending = s.pending := rfl
@[simp] theorem State.bump_now (k : Nat) : (s.bump k).now = s.now := rfl
@[simp] theorem State.bump_devTime (k : Nat) : (s.bump k).devTime = s.devTime := rfl
@[simp] theorem State.bump_freeIdx (k : Nat) : (s.bump k).freeIdx = s.freeIdx := rfl
@[simp] theorem State.bump_scrub (k : Nat) : (s.bump k).scrub = s.scrub := rfl
@[simp] theorem State.bump_scrubPasses (k : Nat) : (s.bump k).scrubPasses = s.scrubPasses := rfl
@[simp] theorem State.bump_isl (k : Nat) : (s.bump k).isl = s.isl := rfl
@[simp] theorem State.bump_wakeBuf (k : Nat) : (s.bump k).wakeBuf = s.wakeBuf := rfl
@[simp] theorem State.bump_waiters (k : Nat) : (s.bump k).waiters = s.waiters := rfl
@[simp] theorem State.bump_busWait (k : Nat) : (s.bump k).busWait = s.busWait := rfl
@[simp] theorem State.bump_mbs (k : Nat) : (s.bump k).mbs = s.mbs := rfl
@[simp] theorem State.bump_pairs (k : Nat) : (s.bump k).pairs = s.pairs := rfl
@[simp] theorem State.bump_fpwr (k : Nat) : (s.bump k).fpwr = s.fpwr := rfl
@[simp] theorem State.bump_chans (k : Nat) : (s.bump k).chans = s.chans := rfl
@[simp] theorem State.bump_clk (k : Nat) : (s.bump k).clk = s.clk := rfl
@[simp] theorem State.bump_fuses (k : Nat) : (s.bump k).fuses = s.fuses := rfl
@[simp] theorem State.bump_arm (k : Nat) : (s.bump k).arm = s.arm := rfl
@[simp] theorem State.bump_boot (k : Nat) : (s.bump k).boot = s.boot := rfl
@[simp] theorem State.bump_link (k : Nat) : (s.bump k).link = s.link := rfl
@[simp] theorem State.bump_txn (k : Nat) : (s.bump k).txn = s.txn := rfl
@[simp] theorem State.bump_sram (k : Nat) : (s.bump k).sram = s.sram := rfl
@[simp] theorem State.bump_mem (k : Nat) : (s.bump k).mem = s.mem := rfl
@[simp] theorem State.bump_que (k : Nat) : (s.bump k).que = s.que := rfl
@[simp] theorem State.bump_nrg (k : Nat) : (s.bump k).nrg = s.nrg := rfl
@[simp] theorem State.bump_mot (k : Nat) : (s.bump k).mot = s.mot := rfl
@[simp] theorem State.bump_trg (k : Nat) : (s.bump k).trg = s.trg := rfl
@[simp] theorem State.bump_ring (k : Nat) : (s.bump k).ring = s.ring := rfl
@[simp] theorem State.bump_fb (k : Nat) : (s.bump k).fb = s.fb := rfl
@[simp] theorem State.bump_sat (k : Nat) : (s.bump k).sat = s.sat := rfl
@[simp] theorem State.bump_mon (k : Nat) : (s.bump k).mon = s.mon := rfl
@[simp] theorem State.bump_sent (k : Nat) : (s.bump k).sent = s.sent := rfl
@[simp] theorem State.bump_island (k : Nat) (i' : Island) : (s.bump k).island i' = s.island i' := rfl

/-! `setIsland` -/

@[simp] theorem State.setIsland_pending (i : Island) (v : IslSt) : (s.setIsland i v).pending = s.pending := rfl
@[simp] theorem State.setIsland_now (i : Island) (v : IslSt) : (s.setIsland i v).now = s.now := rfl
@[simp] theorem State.setIsland_devTime (i : Island) (v : IslSt) : (s.setIsland i v).devTime = s.devTime := rfl
@[simp] theorem State.setIsland_freeIdx (i : Island) (v : IslSt) : (s.setIsland i v).freeIdx = s.freeIdx := rfl
@[simp] theorem State.setIsland_regs (i : Island) (v : IslSt) : (s.setIsland i v).regs = s.regs := rfl
@[simp] theorem State.setIsland_parity (i : Island) (v : IslSt) : (s.setIsland i v).parity = s.parity := rfl
@[simp] theorem State.setIsland_scrub (i : Island) (v : IslSt) : (s.setIsland i v).scrub = s.scrub := rfl
@[simp] theorem State.setIsland_scrubPasses (i : Island) (v : IslSt) : (s.setIsland i v).scrubPasses = s.scrubPasses := rfl
@[simp] theorem State.setIsland_wakeBuf (i : Island) (v : IslSt) : (s.setIsland i v).wakeBuf = s.wakeBuf := rfl
@[simp] theorem State.setIsland_waiters (i : Island) (v : IslSt) : (s.setIsland i v).waiters = s.waiters := rfl
@[simp] theorem State.setIsland_busWait (i : Island) (v : IslSt) : (s.setIsland i v).busWait = s.busWait := rfl
@[simp] theorem State.setIsland_mbs (i : Island) (v : IslSt) : (s.setIsland i v).mbs = s.mbs := rfl
@[simp] theorem State.setIsland_pairs (i : Island) (v : IslSt) : (s.setIsland i v).pairs = s.pairs := rfl
@[simp] theorem State.setIsland_fpwr (i : Island) (v : IslSt) : (s.setIsland i v).fpwr = s.fpwr := rfl
@[simp] theorem State.setIsland_chans (i : Island) (v : IslSt) : (s.setIsland i v).chans = s.chans := rfl
@[simp] theorem State.setIsland_clk (i : Island) (v : IslSt) : (s.setIsland i v).clk = s.clk := rfl
@[simp] theorem State.setIsland_fuses (i : Island) (v : IslSt) : (s.setIsland i v).fuses = s.fuses := rfl
@[simp] theorem State.setIsland_arm (i : Island) (v : IslSt) : (s.setIsland i v).arm = s.arm := rfl
@[simp] theorem State.setIsland_boot (i : Island) (v : IslSt) : (s.setIsland i v).boot = s.boot := rfl
@[simp] theorem State.setIsland_link (i : Island) (v : IslSt) : (s.setIsland i v).link = s.link := rfl
@[simp] theorem State.setIsland_txn (i : Island) (v : IslSt) : (s.setIsland i v).txn = s.txn := rfl
@[simp] theorem State.setIsland_sram (i : Island) (v : IslSt) : (s.setIsland i v).sram = s.sram := rfl
@[simp] theorem State.setIsland_mem (i : Island) (v : IslSt) : (s.setIsland i v).mem = s.mem := rfl
@[simp] theorem State.setIsland_que (i : Island) (v : IslSt) : (s.setIsland i v).que = s.que := rfl
@[simp] theorem State.setIsland_nrg (i : Island) (v : IslSt) : (s.setIsland i v).nrg = s.nrg := rfl
@[simp] theorem State.setIsland_mot (i : Island) (v : IslSt) : (s.setIsland i v).mot = s.mot := rfl
@[simp] theorem State.setIsland_trg (i : Island) (v : IslSt) : (s.setIsland i v).trg = s.trg := rfl
@[simp] theorem State.setIsland_ring (i : Island) (v : IslSt) : (s.setIsland i v).ring = s.ring := rfl
@[simp] theorem State.setIsland_fb (i : Island) (v : IslSt) : (s.setIsland i v).fb = s.fb := rfl
@[simp] theorem State.setIsland_sat (i : Island) (v : IslSt) : (s.setIsland i v).sat = s.sat := rfl
@[simp] theorem State.setIsland_mon (i : Island) (v : IslSt) : (s.setIsland i v).mon = s.mon := rfl
@[simp] theorem State.setIsland_sent (i : Island) (v : IslSt) : (s.setIsland i v).sent = s.sent := rfl
@[simp] theorem State.setIsland_rd (i : Island) (v : IslSt) (r : Nat) : (s.setIsland i v).rd r = s.rd r := rfl
@[simp] theorem State.setIsland_fld (i : Island) (v : IslSt) (r lo w' : Nat) : (s.setIsland i v).fld r lo w' = s.fld r lo w' := rfl
@[simp] theorem State.setIsland_bit (i : Island) (v : IslSt) (r b : Nat) : (s.setIsland i v).bit r b = s.bit r b := rfl

/-! `modIsland` -/

@[simp] theorem State.modIsland_pending (i : Island) (f : IslSt → IslSt) : (s.modIsland i f).pending = s.pending := rfl
@[simp] theorem State.modIsland_now (i : Island) (f : IslSt → IslSt) : (s.modIsland i f).now = s.now := rfl
@[simp] theorem State.modIsland_devTime (i : Island) (f : IslSt → IslSt) : (s.modIsland i f).devTime = s.devTime := rfl
@[simp] theorem State.modIsland_freeIdx (i : Island) (f : IslSt → IslSt) : (s.modIsland i f).freeIdx = s.freeIdx := rfl
@[simp] theorem State.modIsland_regs (i : Island) (f : IslSt → IslSt) : (s.modIsland i f).regs = s.regs := rfl
@[simp] theorem State.modIsland_parity (i : Island) (f : IslSt → IslSt) : (s.modIsland i f).parity = s.parity := rfl
@[simp] theorem State.modIsland_scrub (i : Island) (f : IslSt → IslSt) : (s.modIsland i f).scrub = s.scrub := rfl
@[simp] theorem State.modIsland_scrubPasses (i : Island) (f : IslSt → IslSt) : (s.modIsland i f).scrubPasses = s.scrubPasses := rfl
@[simp] theorem State.modIsland_wakeBuf (i : Island) (f : IslSt → IslSt) : (s.modIsland i f).wakeBuf = s.wakeBuf := rfl
@[simp] theorem State.modIsland_waiters (i : Island) (f : IslSt → IslSt) : (s.modIsland i f).waiters = s.waiters := rfl
@[simp] theorem State.modIsland_busWait (i : Island) (f : IslSt → IslSt) : (s.modIsland i f).busWait = s.busWait := rfl
@[simp] theorem State.modIsland_mbs (i : Island) (f : IslSt → IslSt) : (s.modIsland i f).mbs = s.mbs := rfl
@[simp] theorem State.modIsland_pairs (i : Island) (f : IslSt → IslSt) : (s.modIsland i f).pairs = s.pairs := rfl
@[simp] theorem State.modIsland_fpwr (i : Island) (f : IslSt → IslSt) : (s.modIsland i f).fpwr = s.fpwr := rfl
@[simp] theorem State.modIsland_chans (i : Island) (f : IslSt → IslSt) : (s.modIsland i f).chans = s.chans := rfl
@[simp] theorem State.modIsland_clk (i : Island) (f : IslSt → IslSt) : (s.modIsland i f).clk = s.clk := rfl
@[simp] theorem State.modIsland_fuses (i : Island) (f : IslSt → IslSt) : (s.modIsland i f).fuses = s.fuses := rfl
@[simp] theorem State.modIsland_arm (i : Island) (f : IslSt → IslSt) : (s.modIsland i f).arm = s.arm := rfl
@[simp] theorem State.modIsland_boot (i : Island) (f : IslSt → IslSt) : (s.modIsland i f).boot = s.boot := rfl
@[simp] theorem State.modIsland_link (i : Island) (f : IslSt → IslSt) : (s.modIsland i f).link = s.link := rfl
@[simp] theorem State.modIsland_txn (i : Island) (f : IslSt → IslSt) : (s.modIsland i f).txn = s.txn := rfl
@[simp] theorem State.modIsland_sram (i : Island) (f : IslSt → IslSt) : (s.modIsland i f).sram = s.sram := rfl
@[simp] theorem State.modIsland_mem (i : Island) (f : IslSt → IslSt) : (s.modIsland i f).mem = s.mem := rfl
@[simp] theorem State.modIsland_que (i : Island) (f : IslSt → IslSt) : (s.modIsland i f).que = s.que := rfl
@[simp] theorem State.modIsland_nrg (i : Island) (f : IslSt → IslSt) : (s.modIsland i f).nrg = s.nrg := rfl
@[simp] theorem State.modIsland_mot (i : Island) (f : IslSt → IslSt) : (s.modIsland i f).mot = s.mot := rfl
@[simp] theorem State.modIsland_trg (i : Island) (f : IslSt → IslSt) : (s.modIsland i f).trg = s.trg := rfl
@[simp] theorem State.modIsland_ring (i : Island) (f : IslSt → IslSt) : (s.modIsland i f).ring = s.ring := rfl
@[simp] theorem State.modIsland_fb (i : Island) (f : IslSt → IslSt) : (s.modIsland i f).fb = s.fb := rfl
@[simp] theorem State.modIsland_sat (i : Island) (f : IslSt → IslSt) : (s.modIsland i f).sat = s.sat := rfl
@[simp] theorem State.modIsland_mon (i : Island) (f : IslSt → IslSt) : (s.modIsland i f).mon = s.mon := rfl
@[simp] theorem State.modIsland_sent (i : Island) (f : IslSt → IslSt) : (s.modIsland i f).sent = s.sent := rfl
@[simp] theorem State.modIsland_rd (i : Island) (f : IslSt → IslSt) (r : Nat) : (s.modIsland i f).rd r = s.rd r := rfl
@[simp] theorem State.modIsland_fld (i : Island) (f : IslSt → IslSt) (r lo w' : Nat) : (s.modIsland i f).fld r lo w' = s.fld r lo w' := rfl
@[simp] theorem State.modIsland_bit (i : Island) (f : IslSt → IslSt) (r b : Nat) : (s.modIsland i f).bit r b = s.bit r b := rfl

/-- A register read back after its own write. -/
@[simp] theorem State.wr_rd_self (k : Nat) (v : Word) : (s.wr k v).rd k = v := Tab.get_set_self
/-- A write leaves every other register as it was. -/
theorem State.wr_rd_ne {k r : Nat} (h : r ≠ k) (v : Word) : (s.wr k v).rd r = s.rd r := Tab.get_set_ne h
@[simp] theorem State.setFld_rd_self (k lo w n : Nat) : (s.setFld k lo w n).rd k = withField (s.rd k) lo w n := State.wr_rd_self s _ _
theorem State.setFld_rd_ne {k r : Nat} (h : r ≠ k) (lo w n : Nat) : (s.setFld k lo w n).rd r = s.rd r := State.wr_rd_ne s h _
@[simp] theorem State.setBit_rd_self (k b : Nat) (v : Bool) : (s.setBit k b v).rd k = withField (s.rd k) b 1 (flag v) := State.wr_rd_self s _ _
theorem State.setBit_rd_ne {k r : Nat} (h : r ≠ k) (b : Nat) (v : Bool) : (s.setBit k b v).rd r = s.rd r := State.wr_rd_ne s h _
@[simp] theorem State.bumpBy_rd_self (k n : Nat) : (s.bumpBy k n).rd k = satAdd (s.rd k) n := State.wr_rd_self s _ _
theorem State.bumpBy_rd_ne {k r : Nat} (h : r ≠ k) (n : Nat) : (s.bumpBy k n).rd r = s.rd r := State.wr_rd_ne s h _
@[simp] theorem State.bump_rd_self (k : Nat) : (s.bump k).rd k = satAdd (s.rd k) 1 := State.wr_rd_self s _ _
theorem State.bump_rd_ne {k r : Nat} (h : r ≠ k) : (s.bump k).rd r = s.rd r := State.wr_rd_ne s h _

/-- The islands have different numbers. -/
theorem Island.idx_ne {i j : Island} (h : j ≠ i) : j.idx ≠ i.idx := by revert h; cases i <;> cases j <;> decide
@[simp] theorem State.setIsland_island_self (i : Island) (v : IslSt) : (s.setIsland i v).island i = v := Tab.get_set_self
theorem State.setIsland_island_ne {i j : Island} (h : j ≠ i) (v : IslSt) : (s.setIsland i v).island j = s.island j :=
  Tab.get_set_ne (Island.idx_ne h)
@[simp] theorem State.modIsland_island_self (i : Island) (f : IslSt → IslSt) : (s.modIsland i f).island i = f (s.island i) := Tab.get_set_self


/-! `setChn` -/

@[simp] theorem State.setChn_pending (k : Nat) (x : Chan) : (s.setChn k x).pending = s.pending := rfl
@[simp] theorem State.setChn_now (k : Nat) (x : Chan) : (s.setChn k x).now = s.now := rfl
@[simp] theorem State.setChn_devTime (k : Nat) (x : Chan) : (s.setChn k x).devTime = s.devTime := rfl
@[simp] theorem State.setChn_freeIdx (k : Nat) (x : Chan) : (s.setChn k x).freeIdx = s.freeIdx := rfl
@[simp] theorem State.setChn_regs (k : Nat) (x : Chan) : (s.setChn k x).regs = s.regs := rfl
@[simp] theorem State.setChn_parity (k : Nat) (x : Chan) : (s.setChn k x).parity = s.parity := rfl
@[simp] theorem State.setChn_scrub (k : Nat) (x : Chan) : (s.setChn k x).scrub = s.scrub := rfl
@[simp] theorem State.setChn_scrubPasses (k : Nat) (x : Chan) : (s.setChn k x).scrubPasses = s.scrubPasses := rfl
@[simp] theorem State.setChn_isl (k : Nat) (x : Chan) : (s.setChn k x).isl = s.isl := rfl
@[simp] theorem State.setChn_wakeBuf (k : Nat) (x : Chan) : (s.setChn k x).wakeBuf = s.wakeBuf := rfl
@[simp] theorem State.setChn_waiters (k : Nat) (x : Chan) : (s.setChn k x).waiters = s.waiters := rfl
@[simp] theorem State.setChn_busWait (k : Nat) (x : Chan) : (s.setChn k x).busWait = s.busWait := rfl
@[simp] theorem State.setChn_mbs (k : Nat) (x : Chan) : (s.setChn k x).mbs = s.mbs := rfl
@[simp] theorem State.setChn_pairs (k : Nat) (x : Chan) : (s.setChn k x).pairs = s.pairs := rfl
@[simp] theorem State.setChn_fpwr (k : Nat) (x : Chan) : (s.setChn k x).fpwr = s.fpwr := rfl
@[simp] theorem State.setChn_chans (k : Nat) (x : Chan) : (s.setChn k x).chans = s.chans := rfl
@[simp] theorem State.setChn_clk (k : Nat) (x : Chan) : (s.setChn k x).clk = s.clk := rfl
@[simp] theorem State.setChn_fuses (k : Nat) (x : Chan) : (s.setChn k x).fuses = s.fuses := rfl
@[simp] theorem State.setChn_arm (k : Nat) (x : Chan) : (s.setChn k x).arm = s.arm := rfl
@[simp] theorem State.setChn_boot (k : Nat) (x : Chan) : (s.setChn k x).boot = s.boot := rfl
@[simp] theorem State.setChn_link (k : Nat) (x : Chan) : (s.setChn k x).link = s.link := rfl
@[simp] theorem State.setChn_txn (k : Nat) (x : Chan) : (s.setChn k x).txn = s.txn := rfl
@[simp] theorem State.setChn_sram (k : Nat) (x : Chan) : (s.setChn k x).sram = s.sram := rfl
@[simp] theorem State.setChn_mem (k : Nat) (x : Chan) : (s.setChn k x).mem = s.mem := rfl
@[simp] theorem State.setChn_nrg (k : Nat) (x : Chan) : (s.setChn k x).nrg = s.nrg := rfl
@[simp] theorem State.setChn_mot (k : Nat) (x : Chan) : (s.setChn k x).mot = s.mot := rfl
@[simp] theorem State.setChn_trg (k : Nat) (x : Chan) : (s.setChn k x).trg = s.trg := rfl
@[simp] theorem State.setChn_ring (k : Nat) (x : Chan) : (s.setChn k x).ring = s.ring := rfl
@[simp] theorem State.setChn_fb (k : Nat) (x : Chan) : (s.setChn k x).fb = s.fb := rfl
@[simp] theorem State.setChn_sat (k : Nat) (x : Chan) : (s.setChn k x).sat = s.sat := rfl
@[simp] theorem State.setChn_mon (k : Nat) (x : Chan) : (s.setChn k x).mon = s.mon := rfl
@[simp] theorem State.setChn_sent (k : Nat) (x : Chan) : (s.setChn k x).sent = s.sent := rfl
@[simp] theorem State.setChn_rd (k : Nat) (x : Chan) (r : Nat) : (s.setChn k x).rd r = s.rd r := rfl
@[simp] theorem State.setChn_fld (k : Nat) (x : Chan) (r lo w' : Nat) : (s.setChn k x).fld r lo w' = s.fld r lo w' := rfl
@[simp] theorem State.setChn_bit (k : Nat) (x : Chan) (r b : Nat) : (s.setChn k x).bit r b = s.bit r b := rfl
@[simp] theorem State.setChn_island (k : Nat) (x : Chan) (i' : Island) : (s.setChn k x).island i' = s.island i' := rfl
@[simp] theorem State.setChn_queue (k : Nat) (x : Chan) (j : Nat) : (s.setChn k x).queue j = s.queue j := rfl
@[simp] theorem State.setChn_lock (k : Nat) (x : Chan) (j : Nat) : (s.setChn k x).lock j = s.lock j := rfl
@[simp] theorem State.setChn_vec (k : Nat) (x : Chan) (j : Nat) : (s.setChn k x).vec j = s.vec j := rfl
@[simp] theorem State.setChn_chn_self (k : Nat) (x : Chan) : (s.setChn k x).chn k = x := Tab.get_set_self
theorem State.setChn_chn_ne {k j : Nat} (h : j ≠ k) (x : Chan) : (s.setChn k x).chn j = s.chn j := Tab.get_set_ne h

/-! `setQueue` -/

@[simp] theorem State.setQueue_pending (q : Nat) (x : Queue) : (s.setQueue q x).pending = s.pending := rfl
@[simp] theorem State.setQueue_now (q : Nat) (x : Queue) : (s.setQueue q x).now = s.now := rfl
@[simp] theorem State.setQueue_devTime (q : Nat) (x : Queue) : (s.setQueue q x).devTime = s.devTime := rfl
@[simp] theorem State.setQueue_freeIdx (q : Nat) (x : Queue) : (s.setQueue q x).freeIdx = s.freeIdx := rfl
@[simp] theorem State.setQueue_regs (q : Nat) (x : Queue) : (s.setQueue q x).regs = s.regs := rfl
@[simp] theorem State.setQueue_parity (q : Nat) (x : Queue) : (s.setQueue q x).parity = s.parity := rfl
@[simp] theorem State.setQueue_scrub (q : Nat) (x : Queue) : (s.setQueue q x).scrub = s.scrub := rfl
@[simp] theorem State.setQueue_scrubPasses (q : Nat) (x : Queue) : (s.setQueue q x).scrubPasses = s.scrubPasses := rfl
@[simp] theorem State.setQueue_isl (q : Nat) (x : Queue) : (s.setQueue q x).isl = s.isl := rfl
@[simp] theorem State.setQueue_wakeBuf (q : Nat) (x : Queue) : (s.setQueue q x).wakeBuf = s.wakeBuf := rfl
@[simp] theorem State.setQueue_waiters (q : Nat) (x : Queue) : (s.setQueue q x).waiters = s.waiters := rfl
@[simp] theorem State.setQueue_busWait (q : Nat) (x : Queue) : (s.setQueue q x).busWait = s.busWait := rfl
@[simp] theorem State.setQueue_mbs (q : Nat) (x : Queue) : (s.setQueue q x).mbs = s.mbs := rfl
@[simp] theorem State.setQueue_pairs (q : Nat) (x : Queue) : (s.setQueue q x).pairs = s.pairs := rfl
@[simp] theorem State.setQueue_fpwr (q : Nat) (x : Queue) : (s.setQueue q x).fpwr = s.fpwr := rfl
@[simp] theorem State.setQueue_chans (q : Nat) (x : Queue) : (s.setQueue q x).chans = s.chans := rfl
@[simp] theorem State.setQueue_clk (q : Nat) (x : Queue) : (s.setQueue q x).clk = s.clk := rfl
@[simp] theorem State.setQueue_fuses (q : Nat) (x : Queue) : (s.setQueue q x).fuses = s.fuses := rfl
@[simp] theorem State.setQueue_arm (q : Nat) (x : Queue) : (s.setQueue q x).arm = s.arm := rfl
@[simp] theorem State.setQueue_boot (q : Nat) (x : Queue) : (s.setQueue q x).boot = s.boot := rfl
@[simp] theorem State.setQueue_link (q : Nat) (x : Queue) : (s.setQueue q x).link = s.link := rfl
@[simp] theorem State.setQueue_txn (q : Nat) (x : Queue) : (s.setQueue q x).txn = s.txn := rfl
@[simp] theorem State.setQueue_sram (q : Nat) (x : Queue) : (s.setQueue q x).sram = s.sram := rfl
@[simp] theorem State.setQueue_mem (q : Nat) (x : Queue) : (s.setQueue q x).mem = s.mem := rfl
@[simp] theorem State.setQueue_nrg (q : Nat) (x : Queue) : (s.setQueue q x).nrg = s.nrg := rfl
@[simp] theorem State.setQueue_mot (q : Nat) (x : Queue) : (s.setQueue q x).mot = s.mot := rfl
@[simp] theorem State.setQueue_trg (q : Nat) (x : Queue) : (s.setQueue q x).trg = s.trg := rfl
@[simp] theorem State.setQueue_ring (q : Nat) (x : Queue) : (s.setQueue q x).ring = s.ring := rfl
@[simp] theorem State.setQueue_fb (q : Nat) (x : Queue) : (s.setQueue q x).fb = s.fb := rfl
@[simp] theorem State.setQueue_sat (q : Nat) (x : Queue) : (s.setQueue q x).sat = s.sat := rfl
@[simp] theorem State.setQueue_mon (q : Nat) (x : Queue) : (s.setQueue q x).mon = s.mon := rfl
@[simp] theorem State.setQueue_sent (q : Nat) (x : Queue) : (s.setQueue q x).sent = s.sent := rfl
@[simp] theorem State.setQueue_rd (q : Nat) (x : Queue) (r : Nat) : (s.setQueue q x).rd r = s.rd r := rfl
@[simp] theorem State.setQueue_fld (q : Nat) (x : Queue) (r lo w' : Nat) : (s.setQueue q x).fld r lo w' = s.fld r lo w' := rfl
@[simp] theorem State.setQueue_bit (q : Nat) (x : Queue) (r b : Nat) : (s.setQueue q x).bit r b = s.bit r b := rfl
@[simp] theorem State.setQueue_island (q : Nat) (x : Queue) (i' : Island) : (s.setQueue q x).island i' = s.island i' := rfl
@[simp] theorem State.setQueue_chn (q : Nat) (x : Queue) (j : Nat) : (s.setQueue q x).chn j = s.chn j := rfl
@[simp] theorem State.setQueue_lock (q : Nat) (x : Queue) (j : Nat) : (s.setQueue q x).lock j = s.lock j := rfl
@[simp] theorem State.setQueue_vec (q : Nat) (x : Queue) (j : Nat) : (s.setQueue q x).vec j = s.vec j := rfl
@[simp] theorem State.setQueue_queue_self (q : Nat) (x : Queue) : (s.setQueue q x).queue q = x := Tab.get_set_self
theorem State.setQueue_queue_ne {q j : Nat} (h : j ≠ q) (x : Queue) : (s.setQueue q x).queue j = s.queue j := Tab.get_set_ne h

/-! `setLock` -/

@[simp] theorem State.setLock_pending (n : Nat) (x : HwLock) : (s.setLock n x).pending = s.pending := rfl
@[simp] theorem State.setLock_now (n : Nat) (x : HwLock) : (s.setLock n x).now = s.now := rfl
@[simp] theorem State.setLock_devTime (n : Nat) (x : HwLock) : (s.setLock n x).devTime = s.devTime := rfl
@[simp] theorem State.setLock_freeIdx (n : Nat) (x : HwLock) : (s.setLock n x).freeIdx = s.freeIdx := rfl
@[simp] theorem State.setLock_regs (n : Nat) (x : HwLock) : (s.setLock n x).regs = s.regs := rfl
@[simp] theorem State.setLock_parity (n : Nat) (x : HwLock) : (s.setLock n x).parity = s.parity := rfl
@[simp] theorem State.setLock_scrub (n : Nat) (x : HwLock) : (s.setLock n x).scrub = s.scrub := rfl
@[simp] theorem State.setLock_scrubPasses (n : Nat) (x : HwLock) : (s.setLock n x).scrubPasses = s.scrubPasses := rfl
@[simp] theorem State.setLock_isl (n : Nat) (x : HwLock) : (s.setLock n x).isl = s.isl := rfl
@[simp] theorem State.setLock_wakeBuf (n : Nat) (x : HwLock) : (s.setLock n x).wakeBuf = s.wakeBuf := rfl
@[simp] theorem State.setLock_waiters (n : Nat) (x : HwLock) : (s.setLock n x).waiters = s.waiters := rfl
@[simp] theorem State.setLock_busWait (n : Nat) (x : HwLock) : (s.setLock n x).busWait = s.busWait := rfl
@[simp] theorem State.setLock_mbs (n : Nat) (x : HwLock) : (s.setLock n x).mbs = s.mbs := rfl
@[simp] theorem State.setLock_pairs (n : Nat) (x : HwLock) : (s.setLock n x).pairs = s.pairs := rfl
@[simp] theorem State.setLock_fpwr (n : Nat) (x : HwLock) : (s.setLock n x).fpwr = s.fpwr := rfl
@[simp] theorem State.setLock_chans (n : Nat) (x : HwLock) : (s.setLock n x).chans = s.chans := rfl
@[simp] theorem State.setLock_clk (n : Nat) (x : HwLock) : (s.setLock n x).clk = s.clk := rfl
@[simp] theorem State.setLock_fuses (n : Nat) (x : HwLock) : (s.setLock n x).fuses = s.fuses := rfl
@[simp] theorem State.setLock_arm (n : Nat) (x : HwLock) : (s.setLock n x).arm = s.arm := rfl
@[simp] theorem State.setLock_boot (n : Nat) (x : HwLock) : (s.setLock n x).boot = s.boot := rfl
@[simp] theorem State.setLock_link (n : Nat) (x : HwLock) : (s.setLock n x).link = s.link := rfl
@[simp] theorem State.setLock_txn (n : Nat) (x : HwLock) : (s.setLock n x).txn = s.txn := rfl
@[simp] theorem State.setLock_sram (n : Nat) (x : HwLock) : (s.setLock n x).sram = s.sram := rfl
@[simp] theorem State.setLock_mem (n : Nat) (x : HwLock) : (s.setLock n x).mem = s.mem := rfl
@[simp] theorem State.setLock_nrg (n : Nat) (x : HwLock) : (s.setLock n x).nrg = s.nrg := rfl
@[simp] theorem State.setLock_mot (n : Nat) (x : HwLock) : (s.setLock n x).mot = s.mot := rfl
@[simp] theorem State.setLock_trg (n : Nat) (x : HwLock) : (s.setLock n x).trg = s.trg := rfl
@[simp] theorem State.setLock_ring (n : Nat) (x : HwLock) : (s.setLock n x).ring = s.ring := rfl
@[simp] theorem State.setLock_fb (n : Nat) (x : HwLock) : (s.setLock n x).fb = s.fb := rfl
@[simp] theorem State.setLock_sat (n : Nat) (x : HwLock) : (s.setLock n x).sat = s.sat := rfl
@[simp] theorem State.setLock_mon (n : Nat) (x : HwLock) : (s.setLock n x).mon = s.mon := rfl
@[simp] theorem State.setLock_sent (n : Nat) (x : HwLock) : (s.setLock n x).sent = s.sent := rfl
@[simp] theorem State.setLock_rd (n : Nat) (x : HwLock) (r : Nat) : (s.setLock n x).rd r = s.rd r := rfl
@[simp] theorem State.setLock_fld (n : Nat) (x : HwLock) (r lo w' : Nat) : (s.setLock n x).fld r lo w' = s.fld r lo w' := rfl
@[simp] theorem State.setLock_bit (n : Nat) (x : HwLock) (r b : Nat) : (s.setLock n x).bit r b = s.bit r b := rfl
@[simp] theorem State.setLock_island (n : Nat) (x : HwLock) (i' : Island) : (s.setLock n x).island i' = s.island i' := rfl
@[simp] theorem State.setLock_chn (n : Nat) (x : HwLock) (j : Nat) : (s.setLock n x).chn j = s.chn j := rfl
@[simp] theorem State.setLock_queue (n : Nat) (x : HwLock) (j : Nat) : (s.setLock n x).queue j = s.queue j := rfl
@[simp] theorem State.setLock_vec (n : Nat) (x : HwLock) (j : Nat) : (s.setLock n x).vec j = s.vec j := rfl
@[simp] theorem State.setLock_lock_self (n : Nat) (x : HwLock) : (s.setLock n x).lock n = x := Tab.get_set_self
theorem State.setLock_lock_ne {n j : Nat} (h : j ≠ n) (x : HwLock) : (s.setLock n x).lock j = s.lock j := Tab.get_set_ne h

/-! `setVec` -/

@[simp] theorem State.setVec_pending (v : Nat) (x : VecSt) : (s.setVec v x).pending = s.pending := rfl
@[simp] theorem State.setVec_now (v : Nat) (x : VecSt) : (s.setVec v x).now = s.now := rfl
@[simp] theorem State.setVec_devTime (v : Nat) (x : VecSt) : (s.setVec v x).devTime = s.devTime := rfl
@[simp] theorem State.setVec_freeIdx (v : Nat) (x : VecSt) : (s.setVec v x).freeIdx = s.freeIdx := rfl
@[simp] theorem State.setVec_regs (v : Nat) (x : VecSt) : (s.setVec v x).regs = s.regs := rfl
@[simp] theorem State.setVec_parity (v : Nat) (x : VecSt) : (s.setVec v x).parity = s.parity := rfl
@[simp] theorem State.setVec_scrub (v : Nat) (x : VecSt) : (s.setVec v x).scrub = s.scrub := rfl
@[simp] theorem State.setVec_scrubPasses (v : Nat) (x : VecSt) : (s.setVec v x).scrubPasses = s.scrubPasses := rfl
@[simp] theorem State.setVec_isl (v : Nat) (x : VecSt) : (s.setVec v x).isl = s.isl := rfl
@[simp] theorem State.setVec_wakeBuf (v : Nat) (x : VecSt) : (s.setVec v x).wakeBuf = s.wakeBuf := rfl
@[simp] theorem State.setVec_waiters (v : Nat) (x : VecSt) : (s.setVec v x).waiters = s.waiters := rfl
@[simp] theorem State.setVec_busWait (v : Nat) (x : VecSt) : (s.setVec v x).busWait = s.busWait := rfl
@[simp] theorem State.setVec_mbs (v : Nat) (x : VecSt) : (s.setVec v x).mbs = s.mbs := rfl
@[simp] theorem State.setVec_pairs (v : Nat) (x : VecSt) : (s.setVec v x).pairs = s.pairs := rfl
@[simp] theorem State.setVec_fpwr (v : Nat) (x : VecSt) : (s.setVec v x).fpwr = s.fpwr := rfl
@[simp] theorem State.setVec_chans (v : Nat) (x : VecSt) : (s.setVec v x).chans = s.chans := rfl
@[simp] theorem State.setVec_clk (v : Nat) (x : VecSt) : (s.setVec v x).clk = s.clk := rfl
@[simp] theorem State.setVec_fuses (v : Nat) (x : VecSt) : (s.setVec v x).fuses = s.fuses := rfl
@[simp] theorem State.setVec_arm (v : Nat) (x : VecSt) : (s.setVec v x).arm = s.arm := rfl
@[simp] theorem State.setVec_boot (v : Nat) (x : VecSt) : (s.setVec v x).boot = s.boot := rfl
@[simp] theorem State.setVec_link (v : Nat) (x : VecSt) : (s.setVec v x).link = s.link := rfl
@[simp] theorem State.setVec_txn (v : Nat) (x : VecSt) : (s.setVec v x).txn = s.txn := rfl
@[simp] theorem State.setVec_sram (v : Nat) (x : VecSt) : (s.setVec v x).sram = s.sram := rfl
@[simp] theorem State.setVec_mem (v : Nat) (x : VecSt) : (s.setVec v x).mem = s.mem := rfl
@[simp] theorem State.setVec_nrg (v : Nat) (x : VecSt) : (s.setVec v x).nrg = s.nrg := rfl
@[simp] theorem State.setVec_mot (v : Nat) (x : VecSt) : (s.setVec v x).mot = s.mot := rfl
@[simp] theorem State.setVec_trg (v : Nat) (x : VecSt) : (s.setVec v x).trg = s.trg := rfl
@[simp] theorem State.setVec_ring (v : Nat) (x : VecSt) : (s.setVec v x).ring = s.ring := rfl
@[simp] theorem State.setVec_fb (v : Nat) (x : VecSt) : (s.setVec v x).fb = s.fb := rfl
@[simp] theorem State.setVec_sat (v : Nat) (x : VecSt) : (s.setVec v x).sat = s.sat := rfl
@[simp] theorem State.setVec_mon (v : Nat) (x : VecSt) : (s.setVec v x).mon = s.mon := rfl
@[simp] theorem State.setVec_sent (v : Nat) (x : VecSt) : (s.setVec v x).sent = s.sent := rfl
@[simp] theorem State.setVec_rd (v : Nat) (x : VecSt) (r : Nat) : (s.setVec v x).rd r = s.rd r := rfl
@[simp] theorem State.setVec_fld (v : Nat) (x : VecSt) (r lo w' : Nat) : (s.setVec v x).fld r lo w' = s.fld r lo w' := rfl
@[simp] theorem State.setVec_bit (v : Nat) (x : VecSt) (r b : Nat) : (s.setVec v x).bit r b = s.bit r b := rfl
@[simp] theorem State.setVec_island (v : Nat) (x : VecSt) (i' : Island) : (s.setVec v x).island i' = s.island i' := rfl
@[simp] theorem State.setVec_chn (v : Nat) (x : VecSt) (j : Nat) : (s.setVec v x).chn j = s.chn j := rfl
@[simp] theorem State.setVec_queue (v : Nat) (x : VecSt) (j : Nat) : (s.setVec v x).queue j = s.queue j := rfl
@[simp] theorem State.setVec_lock (v : Nat) (x : VecSt) (j : Nat) : (s.setVec v x).lock j = s.lock j := rfl
@[simp] theorem State.setVec_vec_self (v : Nat) (x : VecSt) : (s.setVec v x).vec v = x := Tab.get_set_self
theorem State.setVec_vec_ne {v j : Nat} (h : j ≠ v) (x : VecSt) : (s.setVec v x).vec j = s.vec j := Tab.get_set_ne h

/-! `setPort` -/

@[simp] theorem State.setPort_pending (p : Nat) (x : Port) : (s.setPort p x).pending = s.pending := rfl
@[simp] theorem State.setPort_now (p : Nat) (x : Port) : (s.setPort p x).now = s.now := rfl
@[simp] theorem State.setPort_devTime (p : Nat) (x : Port) : (s.setPort p x).devTime = s.devTime := rfl
@[simp] theorem State.setPort_freeIdx (p : Nat) (x : Port) : (s.setPort p x).freeIdx = s.freeIdx := rfl
@[simp] theorem State.setPort_regs (p : Nat) (x : Port) : (s.setPort p x).regs = s.regs := rfl
@[simp] theorem State.setPort_parity (p : Nat) (x : Port) : (s.setPort p x).parity = s.parity := rfl
@[simp] theorem State.setPort_scrub (p : Nat) (x : Port) : (s.setPort p x).scrub = s.scrub := rfl
@[simp] theorem State.setPort_scrubPasses (p : Nat) (x : Port) : (s.setPort p x).scrubPasses = s.scrubPasses := rfl
@[simp] theorem State.setPort_isl (p : Nat) (x : Port) : (s.setPort p x).isl = s.isl := rfl
@[simp] theorem State.setPort_wakeBuf (p : Nat) (x : Port) : (s.setPort p x).wakeBuf = s.wakeBuf := rfl
@[simp] theorem State.setPort_waiters (p : Nat) (x : Port) : (s.setPort p x).waiters = s.waiters := rfl
@[simp] theorem State.setPort_busWait (p : Nat) (x : Port) : (s.setPort p x).busWait = s.busWait := rfl
@[simp] theorem State.setPort_mbs (p : Nat) (x : Port) : (s.setPort p x).mbs = s.mbs := rfl
@[simp] theorem State.setPort_pairs (p : Nat) (x : Port) : (s.setPort p x).pairs = s.pairs := rfl
@[simp] theorem State.setPort_fpwr (p : Nat) (x : Port) : (s.setPort p x).fpwr = s.fpwr := rfl
@[simp] theorem State.setPort_chans (p : Nat) (x : Port) : (s.setPort p x).chans = s.chans := rfl
@[simp] theorem State.setPort_clk (p : Nat) (x : Port) : (s.setPort p x).clk = s.clk := rfl
@[simp] theorem State.setPort_fuses (p : Nat) (x : Port) : (s.setPort p x).fuses = s.fuses := rfl
@[simp] theorem State.setPort_arm (p : Nat) (x : Port) : (s.setPort p x).arm = s.arm := rfl
@[simp] theorem State.setPort_boot (p : Nat) (x : Port) : (s.setPort p x).boot = s.boot := rfl
@[simp] theorem State.setPort_link (p : Nat) (x : Port) : (s.setPort p x).link = s.link := rfl
@[simp] theorem State.setPort_txn (p : Nat) (x : Port) : (s.setPort p x).txn = s.txn := rfl
@[simp] theorem State.setPort_sram (p : Nat) (x : Port) : (s.setPort p x).sram = s.sram := rfl
@[simp] theorem State.setPort_mem (p : Nat) (x : Port) : (s.setPort p x).mem = s.mem := rfl
@[simp] theorem State.setPort_que (p : Nat) (x : Port) : (s.setPort p x).que = s.que := rfl
@[simp] theorem State.setPort_nrg (p : Nat) (x : Port) : (s.setPort p x).nrg = s.nrg := rfl
@[simp] theorem State.setPort_mot (p : Nat) (x : Port) : (s.setPort p x).mot = s.mot := rfl
@[simp] theorem State.setPort_ring (p : Nat) (x : Port) : (s.setPort p x).ring = s.ring := rfl
@[simp] theorem State.setPort_fb (p : Nat) (x : Port) : (s.setPort p x).fb = s.fb := rfl
@[simp] theorem State.setPort_sat (p : Nat) (x : Port) : (s.setPort p x).sat = s.sat := rfl
@[simp] theorem State.setPort_mon (p : Nat) (x : Port) : (s.setPort p x).mon = s.mon := rfl
@[simp] theorem State.setPort_sent (p : Nat) (x : Port) : (s.setPort p x).sent = s.sent := rfl
@[simp] theorem State.setPort_rd (p : Nat) (x : Port) (r : Nat) : (s.setPort p x).rd r = s.rd r := rfl
@[simp] theorem State.setPort_fld (p : Nat) (x : Port) (r lo w' : Nat) : (s.setPort p x).fld r lo w' = s.fld r lo w' := rfl
@[simp] theorem State.setPort_bit (p : Nat) (x : Port) (r b : Nat) : (s.setPort p x).bit r b = s.bit r b := rfl
@[simp] theorem State.setPort_island (p : Nat) (x : Port) (i' : Island) : (s.setPort p x).island i' = s.island i' := rfl
@[simp] theorem State.setPort_quad (p : Nat) (x : Port) (j : Nat) : (s.setPort p x).quad j = s.quad j := rfl
@[simp] theorem State.setPort_window (p : Nat) (x : Port) (j : Nat) : (s.setPort p x).window j = s.window j := rfl
@[simp] theorem State.setPort_est (p : Nat) (x : Port) (q' v' : Nat) : (s.setPort p x).est q' v' = s.est q' v' := rfl
@[simp] theorem State.setPort_port_self (p : Nat) (x : Port) : (s.setPort p x).port p = x := Tab.get_set_self
theorem State.setPort_port_ne {p j : Nat} (h : j ≠ p) (x : Port) : (s.setPort p x).port j = s.port j := Tab.get_set_ne h

/-! `setQuad` -/

@[simp] theorem State.setQuad_pending (q : Nat) (x : Quad) : (s.setQuad q x).pending = s.pending := rfl
@[simp] theorem State.setQuad_now (q : Nat) (x : Quad) : (s.setQuad q x).now = s.now := rfl
@[simp] theorem State.setQuad_devTime (q : Nat) (x : Quad) : (s.setQuad q x).devTime = s.devTime := rfl
@[simp] theorem State.setQuad_freeIdx (q : Nat) (x : Quad) : (s.setQuad q x).freeIdx = s.freeIdx := rfl
@[simp] theorem State.setQuad_regs (q : Nat) (x : Quad) : (s.setQuad q x).regs = s.regs := rfl
@[simp] theorem State.setQuad_parity (q : Nat) (x : Quad) : (s.setQuad q x).parity = s.parity := rfl
@[simp] theorem State.setQuad_scrub (q : Nat) (x : Quad) : (s.setQuad q x).scrub = s.scrub := rfl
@[simp] theorem State.setQuad_scrubPasses (q : Nat) (x : Quad) : (s.setQuad q x).scrubPasses = s.scrubPasses := rfl
@[simp] theorem State.setQuad_isl (q : Nat) (x : Quad) : (s.setQuad q x).isl = s.isl := rfl
@[simp] theorem State.setQuad_wakeBuf (q : Nat) (x : Quad) : (s.setQuad q x).wakeBuf = s.wakeBuf := rfl
@[simp] theorem State.setQuad_waiters (q : Nat) (x : Quad) : (s.setQuad q x).waiters = s.waiters := rfl
@[simp] theorem State.setQuad_busWait (q : Nat) (x : Quad) : (s.setQuad q x).busWait = s.busWait := rfl
@[simp] theorem State.setQuad_mbs (q : Nat) (x : Quad) : (s.setQuad q x).mbs = s.mbs := rfl
@[simp] theorem State.setQuad_pairs (q : Nat) (x : Quad) : (s.setQuad q x).pairs = s.pairs := rfl
@[simp] theorem State.setQuad_fpwr (q : Nat) (x : Quad) : (s.setQuad q x).fpwr = s.fpwr := rfl
@[simp] theorem State.setQuad_chans (q : Nat) (x : Quad) : (s.setQuad q x).chans = s.chans := rfl
@[simp] theorem State.setQuad_clk (q : Nat) (x : Quad) : (s.setQuad q x).clk = s.clk := rfl
@[simp] theorem State.setQuad_fuses (q : Nat) (x : Quad) : (s.setQuad q x).fuses = s.fuses := rfl
@[simp] theorem State.setQuad_arm (q : Nat) (x : Quad) : (s.setQuad q x).arm = s.arm := rfl
@[simp] theorem State.setQuad_boot (q : Nat) (x : Quad) : (s.setQuad q x).boot = s.boot := rfl
@[simp] theorem State.setQuad_link (q : Nat) (x : Quad) : (s.setQuad q x).link = s.link := rfl
@[simp] theorem State.setQuad_txn (q : Nat) (x : Quad) : (s.setQuad q x).txn = s.txn := rfl
@[simp] theorem State.setQuad_sram (q : Nat) (x : Quad) : (s.setQuad q x).sram = s.sram := rfl
@[simp] theorem State.setQuad_mem (q : Nat) (x : Quad) : (s.setQuad q x).mem = s.mem := rfl
@[simp] theorem State.setQuad_que (q : Nat) (x : Quad) : (s.setQuad q x).que = s.que := rfl
@[simp] theorem State.setQuad_nrg (q : Nat) (x : Quad) : (s.setQuad q x).nrg = s.nrg := rfl
@[simp] theorem State.setQuad_mot (q : Nat) (x : Quad) : (s.setQuad q x).mot = s.mot := rfl
@[simp] theorem State.setQuad_ring (q : Nat) (x : Quad) : (s.setQuad q x).ring = s.ring := rfl
@[simp] theorem State.setQuad_fb (q : Nat) (x : Quad) : (s.setQuad q x).fb = s.fb := rfl
@[simp] theorem State.setQuad_sat (q : Nat) (x : Quad) : (s.setQuad q x).sat = s.sat := rfl
@[simp] theorem State.setQuad_mon (q : Nat) (x : Quad) : (s.setQuad q x).mon = s.mon := rfl
@[simp] theorem State.setQuad_sent (q : Nat) (x : Quad) : (s.setQuad q x).sent = s.sent := rfl
@[simp] theorem State.setQuad_rd (q : Nat) (x : Quad) (r : Nat) : (s.setQuad q x).rd r = s.rd r := rfl
@[simp] theorem State.setQuad_fld (q : Nat) (x : Quad) (r lo w' : Nat) : (s.setQuad q x).fld r lo w' = s.fld r lo w' := rfl
@[simp] theorem State.setQuad_bit (q : Nat) (x : Quad) (r b : Nat) : (s.setQuad q x).bit r b = s.bit r b := rfl
@[simp] theorem State.setQuad_island (q : Nat) (x : Quad) (i' : Island) : (s.setQuad q x).island i' = s.island i' := rfl
@[simp] theorem State.setQuad_port (q : Nat) (x : Quad) (j : Nat) : (s.setQuad q x).port j = s.port j := rfl
@[simp] theorem State.setQuad_window (q : Nat) (x : Quad) (j : Nat) : (s.setQuad q x).window j = s.window j := rfl
@[simp] theorem State.setQuad_est (q : Nat) (x : Quad) (q' v' : Nat) : (s.setQuad q x).est q' v' = s.est q' v' := rfl
@[simp] theorem State.setQuad_quad_self (q : Nat) (x : Quad) : (s.setQuad q x).quad q = x := Tab.get_set_self
theorem State.setQuad_quad_ne {q j : Nat} (h : j ≠ q) (x : Quad) : (s.setQuad q x).quad j = s.quad j := Tab.get_set_ne h

/-! `setWindow` -/

@[simp] theorem State.setWindow_pending (w : Nat) (x : Option Window) : (s.setWindow w x).pending = s.pending := rfl
@[simp] theorem State.setWindow_now (w : Nat) (x : Option Window) : (s.setWindow w x).now = s.now := rfl
@[simp] theorem State.setWindow_devTime (w : Nat) (x : Option Window) : (s.setWindow w x).devTime = s.devTime := rfl
@[simp] theorem State.setWindow_freeIdx (w : Nat) (x : Option Window) : (s.setWindow w x).freeIdx = s.freeIdx := rfl
@[simp] theorem State.setWindow_regs (w : Nat) (x : Option Window) : (s.setWindow w x).regs = s.regs := rfl
@[simp] theorem State.setWindow_parity (w : Nat) (x : Option Window) : (s.setWindow w x).parity = s.parity := rfl
@[simp] theorem State.setWindow_scrub (w : Nat) (x : Option Window) : (s.setWindow w x).scrub = s.scrub := rfl
@[simp] theorem State.setWindow_scrubPasses (w : Nat) (x : Option Window) : (s.setWindow w x).scrubPasses = s.scrubPasses := rfl
@[simp] theorem State.setWindow_isl (w : Nat) (x : Option Window) : (s.setWindow w x).isl = s.isl := rfl
@[simp] theorem State.setWindow_wakeBuf (w : Nat) (x : Option Window) : (s.setWindow w x).wakeBuf = s.wakeBuf := rfl
@[simp] theorem State.setWindow_waiters (w : Nat) (x : Option Window) : (s.setWindow w x).waiters = s.waiters := rfl
@[simp] theorem State.setWindow_busWait (w : Nat) (x : Option Window) : (s.setWindow w x).busWait = s.busWait := rfl
@[simp] theorem State.setWindow_mbs (w : Nat) (x : Option Window) : (s.setWindow w x).mbs = s.mbs := rfl
@[simp] theorem State.setWindow_pairs (w : Nat) (x : Option Window) : (s.setWindow w x).pairs = s.pairs := rfl
@[simp] theorem State.setWindow_fpwr (w : Nat) (x : Option Window) : (s.setWindow w x).fpwr = s.fpwr := rfl
@[simp] theorem State.setWindow_chans (w : Nat) (x : Option Window) : (s.setWindow w x).chans = s.chans := rfl
@[simp] theorem State.setWindow_clk (w : Nat) (x : Option Window) : (s.setWindow w x).clk = s.clk := rfl
@[simp] theorem State.setWindow_fuses (w : Nat) (x : Option Window) : (s.setWindow w x).fuses = s.fuses := rfl
@[simp] theorem State.setWindow_arm (w : Nat) (x : Option Window) : (s.setWindow w x).arm = s.arm := rfl
@[simp] theorem State.setWindow_boot (w : Nat) (x : Option Window) : (s.setWindow w x).boot = s.boot := rfl
@[simp] theorem State.setWindow_link (w : Nat) (x : Option Window) : (s.setWindow w x).link = s.link := rfl
@[simp] theorem State.setWindow_txn (w : Nat) (x : Option Window) : (s.setWindow w x).txn = s.txn := rfl
@[simp] theorem State.setWindow_sram (w : Nat) (x : Option Window) : (s.setWindow w x).sram = s.sram := rfl
@[simp] theorem State.setWindow_mem (w : Nat) (x : Option Window) : (s.setWindow w x).mem = s.mem := rfl
@[simp] theorem State.setWindow_que (w : Nat) (x : Option Window) : (s.setWindow w x).que = s.que := rfl
@[simp] theorem State.setWindow_nrg (w : Nat) (x : Option Window) : (s.setWindow w x).nrg = s.nrg := rfl
@[simp] theorem State.setWindow_mot (w : Nat) (x : Option Window) : (s.setWindow w x).mot = s.mot := rfl
@[simp] theorem State.setWindow_ring (w : Nat) (x : Option Window) : (s.setWindow w x).ring = s.ring := rfl
@[simp] theorem State.setWindow_fb (w : Nat) (x : Option Window) : (s.setWindow w x).fb = s.fb := rfl
@[simp] theorem State.setWindow_sat (w : Nat) (x : Option Window) : (s.setWindow w x).sat = s.sat := rfl
@[simp] theorem State.setWindow_mon (w : Nat) (x : Option Window) : (s.setWindow w x).mon = s.mon := rfl
@[simp] theorem State.setWindow_sent (w : Nat) (x : Option Window) : (s.setWindow w x).sent = s.sent := rfl
@[simp] theorem State.setWindow_rd (w : Nat) (x : Option Window) (r : Nat) : (s.setWindow w x).rd r = s.rd r := rfl
@[simp] theorem State.setWindow_fld (w : Nat) (x : Option Window) (r lo w' : Nat) : (s.setWindow w x).fld r lo w' = s.fld r lo w' := rfl
@[simp] theorem State.setWindow_bit (w : Nat) (x : Option Window) (r b : Nat) : (s.setWindow w x).bit r b = s.bit r b := rfl
@[simp] theorem State.setWindow_island (w : Nat) (x : Option Window) (i' : Island) : (s.setWindow w x).island i' = s.island i' := rfl
@[simp] theorem State.setWindow_port (w : Nat) (x : Option Window) (j : Nat) : (s.setWindow w x).port j = s.port j := rfl
@[simp] theorem State.setWindow_quad (w : Nat) (x : Option Window) (j : Nat) : (s.setWindow w x).quad j = s.quad j := rfl
@[simp] theorem State.setWindow_est (w : Nat) (x : Option Window) (q' v' : Nat) : (s.setWindow w x).est q' v' = s.est q' v' := rfl
@[simp] theorem State.setWindow_window_self (w : Nat) (x : Option Window) : (s.setWindow w x).window w = x := Tab.get_set_self
theorem State.setWindow_window_ne {w j : Nat} (h : j ≠ w) (x : Option Window) : (s.setWindow w x).window j = s.window j := Tab.get_set_ne h

/-! `setEnc` -/

@[simp] theorem State.setEnc_pending (e : Nat) (x : Enc) : (s.setEnc e x).pending = s.pending := rfl
@[simp] theorem State.setEnc_now (e : Nat) (x : Enc) : (s.setEnc e x).now = s.now := rfl
@[simp] theorem State.setEnc_devTime (e : Nat) (x : Enc) : (s.setEnc e x).devTime = s.devTime := rfl
@[simp] theorem State.setEnc_freeIdx (e : Nat) (x : Enc) : (s.setEnc e x).freeIdx = s.freeIdx := rfl
@[simp] theorem State.setEnc_regs (e : Nat) (x : Enc) : (s.setEnc e x).regs = s.regs := rfl
@[simp] theorem State.setEnc_parity (e : Nat) (x : Enc) : (s.setEnc e x).parity = s.parity := rfl
@[simp] theorem State.setEnc_scrub (e : Nat) (x : Enc) : (s.setEnc e x).scrub = s.scrub := rfl
@[simp] theorem State.setEnc_scrubPasses (e : Nat) (x : Enc) : (s.setEnc e x).scrubPasses = s.scrubPasses := rfl
@[simp] theorem State.setEnc_isl (e : Nat) (x : Enc) : (s.setEnc e x).isl = s.isl := rfl
@[simp] theorem State.setEnc_wakeBuf (e : Nat) (x : Enc) : (s.setEnc e x).wakeBuf = s.wakeBuf := rfl
@[simp] theorem State.setEnc_waiters (e : Nat) (x : Enc) : (s.setEnc e x).waiters = s.waiters := rfl
@[simp] theorem State.setEnc_busWait (e : Nat) (x : Enc) : (s.setEnc e x).busWait = s.busWait := rfl
@[simp] theorem State.setEnc_mbs (e : Nat) (x : Enc) : (s.setEnc e x).mbs = s.mbs := rfl
@[simp] theorem State.setEnc_pairs (e : Nat) (x : Enc) : (s.setEnc e x).pairs = s.pairs := rfl
@[simp] theorem State.setEnc_fpwr (e : Nat) (x : Enc) : (s.setEnc e x).fpwr = s.fpwr := rfl
@[simp] theorem State.setEnc_chans (e : Nat) (x : Enc) : (s.setEnc e x).chans = s.chans := rfl
@[simp] theorem State.setEnc_clk (e : Nat) (x : Enc) : (s.setEnc e x).clk = s.clk := rfl
@[simp] theorem State.setEnc_fuses (e : Nat) (x : Enc) : (s.setEnc e x).fuses = s.fuses := rfl
@[simp] theorem State.setEnc_arm (e : Nat) (x : Enc) : (s.setEnc e x).arm = s.arm := rfl
@[simp] theorem State.setEnc_boot (e : Nat) (x : Enc) : (s.setEnc e x).boot = s.boot := rfl
@[simp] theorem State.setEnc_link (e : Nat) (x : Enc) : (s.setEnc e x).link = s.link := rfl
@[simp] theorem State.setEnc_txn (e : Nat) (x : Enc) : (s.setEnc e x).txn = s.txn := rfl
@[simp] theorem State.setEnc_sram (e : Nat) (x : Enc) : (s.setEnc e x).sram = s.sram := rfl
@[simp] theorem State.setEnc_mem (e : Nat) (x : Enc) : (s.setEnc e x).mem = s.mem := rfl
@[simp] theorem State.setEnc_que (e : Nat) (x : Enc) : (s.setEnc e x).que = s.que := rfl
@[simp] theorem State.setEnc_nrg (e : Nat) (x : Enc) : (s.setEnc e x).nrg = s.nrg := rfl
@[simp] theorem State.setEnc_trg (e : Nat) (x : Enc) : (s.setEnc e x).trg = s.trg := rfl
@[simp] theorem State.setEnc_ring (e : Nat) (x : Enc) : (s.setEnc e x).ring = s.ring := rfl
@[simp] theorem State.setEnc_fb (e : Nat) (x : Enc) : (s.setEnc e x).fb = s.fb := rfl
@[simp] theorem State.setEnc_sat (e : Nat) (x : Enc) : (s.setEnc e x).sat = s.sat := rfl
@[simp] theorem State.setEnc_mon (e : Nat) (x : Enc) : (s.setEnc e x).mon = s.mon := rfl
@[simp] theorem State.setEnc_sent (e : Nat) (x : Enc) : (s.setEnc e x).sent = s.sent := rfl
@[simp] theorem State.setEnc_rd (e : Nat) (x : Enc) (r : Nat) : (s.setEnc e x).rd r = s.rd r := rfl
@[simp] theorem State.setEnc_fld (e : Nat) (x : Enc) (r lo w' : Nat) : (s.setEnc e x).fld r lo w' = s.fld r lo w' := rfl
@[simp] theorem State.setEnc_bit (e : Nat) (x : Enc) (r b : Nat) : (s.setEnc e x).bit r b = s.bit r b := rfl
@[simp] theorem State.setEnc_island (e : Nat) (x : Enc) (i' : Island) : (s.setEnc e x).island i' = s.island i' := rfl
@[simp] theorem State.setEnc_lev (e : Nat) (x : Enc) (j : Nat) : (s.setEnc e x).lev j = s.lev j := rfl
@[simp] theorem State.setEnc_se (e : Nat) (x : Enc) (j : Nat) : (s.setEnc e x).se j = s.se j := rfl
@[simp] theorem State.setEnc_ve (e : Nat) (x : Enc) (j : Nat) : (s.setEnc e x).ve j = s.ve j := rfl
@[simp] theorem State.setEnc_enc_self (e : Nat) (x : Enc) : (s.setEnc e x).enc e = x := Tab.get_set_self
theorem State.setEnc_enc_ne {e j : Nat} (h : j ≠ e) (x : Enc) : (s.setEnc e x).enc j = s.enc j := Tab.get_set_ne h

/-! `setLev` -/

@[simp] theorem State.setLev_pending (n : Nat) (x : Lev) : (s.setLev n x).pending = s.pending := rfl
@[simp] theorem State.setLev_now (n : Nat) (x : Lev) : (s.setLev n x).now = s.now := rfl
@[simp] theorem State.setLev_devTime (n : Nat) (x : Lev) : (s.setLev n x).devTime = s.devTime := rfl
@[simp] theorem State.setLev_freeIdx (n : Nat) (x : Lev) : (s.setLev n x).freeIdx = s.freeIdx := rfl
@[simp] theorem State.setLev_regs (n : Nat) (x : Lev) : (s.setLev n x).regs = s.regs := rfl
@[simp] theorem State.setLev_parity (n : Nat) (x : Lev) : (s.setLev n x).parity = s.parity := rfl
@[simp] theorem State.setLev_scrub (n : Nat) (x : Lev) : (s.setLev n x).scrub = s.scrub := rfl
@[simp] theorem State.setLev_scrubPasses (n : Nat) (x : Lev) : (s.setLev n x).scrubPasses = s.scrubPasses := rfl
@[simp] theorem State.setLev_isl (n : Nat) (x : Lev) : (s.setLev n x).isl = s.isl := rfl
@[simp] theorem State.setLev_wakeBuf (n : Nat) (x : Lev) : (s.setLev n x).wakeBuf = s.wakeBuf := rfl
@[simp] theorem State.setLev_waiters (n : Nat) (x : Lev) : (s.setLev n x).waiters = s.waiters := rfl
@[simp] theorem State.setLev_busWait (n : Nat) (x : Lev) : (s.setLev n x).busWait = s.busWait := rfl
@[simp] theorem State.setLev_mbs (n : Nat) (x : Lev) : (s.setLev n x).mbs = s.mbs := rfl
@[simp] theorem State.setLev_pairs (n : Nat) (x : Lev) : (s.setLev n x).pairs = s.pairs := rfl
@[simp] theorem State.setLev_fpwr (n : Nat) (x : Lev) : (s.setLev n x).fpwr = s.fpwr := rfl
@[simp] theorem State.setLev_chans (n : Nat) (x : Lev) : (s.setLev n x).chans = s.chans := rfl
@[simp] theorem State.setLev_clk (n : Nat) (x : Lev) : (s.setLev n x).clk = s.clk := rfl
@[simp] theorem State.setLev_fuses (n : Nat) (x : Lev) : (s.setLev n x).fuses = s.fuses := rfl
@[simp] theorem State.setLev_arm (n : Nat) (x : Lev) : (s.setLev n x).arm = s.arm := rfl
@[simp] theorem State.setLev_boot (n : Nat) (x : Lev) : (s.setLev n x).boot = s.boot := rfl
@[simp] theorem State.setLev_link (n : Nat) (x : Lev) : (s.setLev n x).link = s.link := rfl
@[simp] theorem State.setLev_txn (n : Nat) (x : Lev) : (s.setLev n x).txn = s.txn := rfl
@[simp] theorem State.setLev_sram (n : Nat) (x : Lev) : (s.setLev n x).sram = s.sram := rfl
@[simp] theorem State.setLev_mem (n : Nat) (x : Lev) : (s.setLev n x).mem = s.mem := rfl
@[simp] theorem State.setLev_que (n : Nat) (x : Lev) : (s.setLev n x).que = s.que := rfl
@[simp] theorem State.setLev_nrg (n : Nat) (x : Lev) : (s.setLev n x).nrg = s.nrg := rfl
@[simp] theorem State.setLev_trg (n : Nat) (x : Lev) : (s.setLev n x).trg = s.trg := rfl
@[simp] theorem State.setLev_ring (n : Nat) (x : Lev) : (s.setLev n x).ring = s.ring := rfl
@[simp] theorem State.setLev_fb (n : Nat) (x : Lev) : (s.setLev n x).fb = s.fb := rfl
@[simp] theorem State.setLev_sat (n : Nat) (x : Lev) : (s.setLev n x).sat = s.sat := rfl
@[simp] theorem State.setLev_mon (n : Nat) (x : Lev) : (s.setLev n x).mon = s.mon := rfl
@[simp] theorem State.setLev_sent (n : Nat) (x : Lev) : (s.setLev n x).sent = s.sent := rfl
@[simp] theorem State.setLev_rd (n : Nat) (x : Lev) (r : Nat) : (s.setLev n x).rd r = s.rd r := rfl
@[simp] theorem State.setLev_fld (n : Nat) (x : Lev) (r lo w' : Nat) : (s.setLev n x).fld r lo w' = s.fld r lo w' := rfl
@[simp] theorem State.setLev_bit (n : Nat) (x : Lev) (r b : Nat) : (s.setLev n x).bit r b = s.bit r b := rfl
@[simp] theorem State.setLev_island (n : Nat) (x : Lev) (i' : Island) : (s.setLev n x).island i' = s.island i' := rfl
@[simp] theorem State.setLev_enc (n : Nat) (x : Lev) (j : Nat) : (s.setLev n x).enc j = s.enc j := rfl
@[simp] theorem State.setLev_se (n : Nat) (x : Lev) (j : Nat) : (s.setLev n x).se j = s.se j := rfl
@[simp] theorem State.setLev_ve (n : Nat) (x : Lev) (j : Nat) : (s.setLev n x).ve j = s.ve j := rfl
@[simp] theorem State.setLev_lev_self (n : Nat) (x : Lev) : (s.setLev n x).lev n = x := Tab.get_set_self
theorem State.setLev_lev_ne {n j : Nat} (h : j ≠ n) (x : Lev) : (s.setLev n x).lev j = s.lev j := Tab.get_set_ne h

/-! `setSe` -/

@[simp] theorem State.setSe_pending (n : Nat) (x : Se) : (s.setSe n x).pending = s.pending := rfl
@[simp] theorem State.setSe_now (n : Nat) (x : Se) : (s.setSe n x).now = s.now := rfl
@[simp] theorem State.setSe_devTime (n : Nat) (x : Se) : (s.setSe n x).devTime = s.devTime := rfl
@[simp] theorem State.setSe_freeIdx (n : Nat) (x : Se) : (s.setSe n x).freeIdx = s.freeIdx := rfl
@[simp] theorem State.setSe_regs (n : Nat) (x : Se) : (s.setSe n x).regs = s.regs := rfl
@[simp] theorem State.setSe_parity (n : Nat) (x : Se) : (s.setSe n x).parity = s.parity := rfl
@[simp] theorem State.setSe_scrub (n : Nat) (x : Se) : (s.setSe n x).scrub = s.scrub := rfl
@[simp] theorem State.setSe_scrubPasses (n : Nat) (x : Se) : (s.setSe n x).scrubPasses = s.scrubPasses := rfl
@[simp] theorem State.setSe_isl (n : Nat) (x : Se) : (s.setSe n x).isl = s.isl := rfl
@[simp] theorem State.setSe_wakeBuf (n : Nat) (x : Se) : (s.setSe n x).wakeBuf = s.wakeBuf := rfl
@[simp] theorem State.setSe_waiters (n : Nat) (x : Se) : (s.setSe n x).waiters = s.waiters := rfl
@[simp] theorem State.setSe_busWait (n : Nat) (x : Se) : (s.setSe n x).busWait = s.busWait := rfl
@[simp] theorem State.setSe_mbs (n : Nat) (x : Se) : (s.setSe n x).mbs = s.mbs := rfl
@[simp] theorem State.setSe_pairs (n : Nat) (x : Se) : (s.setSe n x).pairs = s.pairs := rfl
@[simp] theorem State.setSe_fpwr (n : Nat) (x : Se) : (s.setSe n x).fpwr = s.fpwr := rfl
@[simp] theorem State.setSe_chans (n : Nat) (x : Se) : (s.setSe n x).chans = s.chans := rfl
@[simp] theorem State.setSe_clk (n : Nat) (x : Se) : (s.setSe n x).clk = s.clk := rfl
@[simp] theorem State.setSe_fuses (n : Nat) (x : Se) : (s.setSe n x).fuses = s.fuses := rfl
@[simp] theorem State.setSe_arm (n : Nat) (x : Se) : (s.setSe n x).arm = s.arm := rfl
@[simp] theorem State.setSe_boot (n : Nat) (x : Se) : (s.setSe n x).boot = s.boot := rfl
@[simp] theorem State.setSe_link (n : Nat) (x : Se) : (s.setSe n x).link = s.link := rfl
@[simp] theorem State.setSe_txn (n : Nat) (x : Se) : (s.setSe n x).txn = s.txn := rfl
@[simp] theorem State.setSe_sram (n : Nat) (x : Se) : (s.setSe n x).sram = s.sram := rfl
@[simp] theorem State.setSe_mem (n : Nat) (x : Se) : (s.setSe n x).mem = s.mem := rfl
@[simp] theorem State.setSe_que (n : Nat) (x : Se) : (s.setSe n x).que = s.que := rfl
@[simp] theorem State.setSe_nrg (n : Nat) (x : Se) : (s.setSe n x).nrg = s.nrg := rfl
@[simp] theorem State.setSe_trg (n : Nat) (x : Se) : (s.setSe n x).trg = s.trg := rfl
@[simp] theorem State.setSe_ring (n : Nat) (x : Se) : (s.setSe n x).ring = s.ring := rfl
@[simp] theorem State.setSe_fb (n : Nat) (x : Se) : (s.setSe n x).fb = s.fb := rfl
@[simp] theorem State.setSe_sat (n : Nat) (x : Se) : (s.setSe n x).sat = s.sat := rfl
@[simp] theorem State.setSe_mon (n : Nat) (x : Se) : (s.setSe n x).mon = s.mon := rfl
@[simp] theorem State.setSe_sent (n : Nat) (x : Se) : (s.setSe n x).sent = s.sent := rfl
@[simp] theorem State.setSe_rd (n : Nat) (x : Se) (r : Nat) : (s.setSe n x).rd r = s.rd r := rfl
@[simp] theorem State.setSe_fld (n : Nat) (x : Se) (r lo w' : Nat) : (s.setSe n x).fld r lo w' = s.fld r lo w' := rfl
@[simp] theorem State.setSe_bit (n : Nat) (x : Se) (r b : Nat) : (s.setSe n x).bit r b = s.bit r b := rfl
@[simp] theorem State.setSe_island (n : Nat) (x : Se) (i' : Island) : (s.setSe n x).island i' = s.island i' := rfl
@[simp] theorem State.setSe_enc (n : Nat) (x : Se) (j : Nat) : (s.setSe n x).enc j = s.enc j := rfl
@[simp] theorem State.setSe_lev (n : Nat) (x : Se) (j : Nat) : (s.setSe n x).lev j = s.lev j := rfl
@[simp] theorem State.setSe_ve (n : Nat) (x : Se) (j : Nat) : (s.setSe n x).ve j = s.ve j := rfl
@[simp] theorem State.setSe_se_self (n : Nat) (x : Se) : (s.setSe n x).se n = x := Tab.get_set_self
theorem State.setSe_se_ne {n j : Nat} (h : j ≠ n) (x : Se) : (s.setSe n x).se j = s.se j := Tab.get_set_ne h

/-! `setVe` -/

@[simp] theorem State.setVe_pending (v : Nat) (x : Ve) : (s.setVe v x).pending = s.pending := rfl
@[simp] theorem State.setVe_now (v : Nat) (x : Ve) : (s.setVe v x).now = s.now := rfl
@[simp] theorem State.setVe_devTime (v : Nat) (x : Ve) : (s.setVe v x).devTime = s.devTime := rfl
@[simp] theorem State.setVe_freeIdx (v : Nat) (x : Ve) : (s.setVe v x).freeIdx = s.freeIdx := rfl
@[simp] theorem State.setVe_regs (v : Nat) (x : Ve) : (s.setVe v x).regs = s.regs := rfl
@[simp] theorem State.setVe_parity (v : Nat) (x : Ve) : (s.setVe v x).parity = s.parity := rfl
@[simp] theorem State.setVe_scrub (v : Nat) (x : Ve) : (s.setVe v x).scrub = s.scrub := rfl
@[simp] theorem State.setVe_scrubPasses (v : Nat) (x : Ve) : (s.setVe v x).scrubPasses = s.scrubPasses := rfl
@[simp] theorem State.setVe_isl (v : Nat) (x : Ve) : (s.setVe v x).isl = s.isl := rfl
@[simp] theorem State.setVe_wakeBuf (v : Nat) (x : Ve) : (s.setVe v x).wakeBuf = s.wakeBuf := rfl
@[simp] theorem State.setVe_waiters (v : Nat) (x : Ve) : (s.setVe v x).waiters = s.waiters := rfl
@[simp] theorem State.setVe_busWait (v : Nat) (x : Ve) : (s.setVe v x).busWait = s.busWait := rfl
@[simp] theorem State.setVe_mbs (v : Nat) (x : Ve) : (s.setVe v x).mbs = s.mbs := rfl
@[simp] theorem State.setVe_pairs (v : Nat) (x : Ve) : (s.setVe v x).pairs = s.pairs := rfl
@[simp] theorem State.setVe_fpwr (v : Nat) (x : Ve) : (s.setVe v x).fpwr = s.fpwr := rfl
@[simp] theorem State.setVe_chans (v : Nat) (x : Ve) : (s.setVe v x).chans = s.chans := rfl
@[simp] theorem State.setVe_clk (v : Nat) (x : Ve) : (s.setVe v x).clk = s.clk := rfl
@[simp] theorem State.setVe_fuses (v : Nat) (x : Ve) : (s.setVe v x).fuses = s.fuses := rfl
@[simp] theorem State.setVe_arm (v : Nat) (x : Ve) : (s.setVe v x).arm = s.arm := rfl
@[simp] theorem State.setVe_boot (v : Nat) (x : Ve) : (s.setVe v x).boot = s.boot := rfl
@[simp] theorem State.setVe_link (v : Nat) (x : Ve) : (s.setVe v x).link = s.link := rfl
@[simp] theorem State.setVe_txn (v : Nat) (x : Ve) : (s.setVe v x).txn = s.txn := rfl
@[simp] theorem State.setVe_sram (v : Nat) (x : Ve) : (s.setVe v x).sram = s.sram := rfl
@[simp] theorem State.setVe_mem (v : Nat) (x : Ve) : (s.setVe v x).mem = s.mem := rfl
@[simp] theorem State.setVe_que (v : Nat) (x : Ve) : (s.setVe v x).que = s.que := rfl
@[simp] theorem State.setVe_nrg (v : Nat) (x : Ve) : (s.setVe v x).nrg = s.nrg := rfl
@[simp] theorem State.setVe_trg (v : Nat) (x : Ve) : (s.setVe v x).trg = s.trg := rfl
@[simp] theorem State.setVe_ring (v : Nat) (x : Ve) : (s.setVe v x).ring = s.ring := rfl
@[simp] theorem State.setVe_fb (v : Nat) (x : Ve) : (s.setVe v x).fb = s.fb := rfl
@[simp] theorem State.setVe_sat (v : Nat) (x : Ve) : (s.setVe v x).sat = s.sat := rfl
@[simp] theorem State.setVe_mon (v : Nat) (x : Ve) : (s.setVe v x).mon = s.mon := rfl
@[simp] theorem State.setVe_sent (v : Nat) (x : Ve) : (s.setVe v x).sent = s.sent := rfl
@[simp] theorem State.setVe_rd (v : Nat) (x : Ve) (r : Nat) : (s.setVe v x).rd r = s.rd r := rfl
@[simp] theorem State.setVe_fld (v : Nat) (x : Ve) (r lo w' : Nat) : (s.setVe v x).fld r lo w' = s.fld r lo w' := rfl
@[simp] theorem State.setVe_bit (v : Nat) (x : Ve) (r b : Nat) : (s.setVe v x).bit r b = s.bit r b := rfl
@[simp] theorem State.setVe_island (v : Nat) (x : Ve) (i' : Island) : (s.setVe v x).island i' = s.island i' := rfl
@[simp] theorem State.setVe_enc (v : Nat) (x : Ve) (j : Nat) : (s.setVe v x).enc j = s.enc j := rfl
@[simp] theorem State.setVe_lev (v : Nat) (x : Ve) (j : Nat) : (s.setVe v x).lev j = s.lev j := rfl
@[simp] theorem State.setVe_se (v : Nat) (x : Ve) (j : Nat) : (s.setVe v x).se j = s.se j := rfl
@[simp] theorem State.setVe_ve_self (v : Nat) (x : Ve) : (s.setVe v x).ve v = x := Tab.get_set_self
theorem State.setVe_ve_ne {v j : Nat} (h : j ≠ v) (x : Ve) : (s.setVe v x).ve j = s.ve j := Tab.get_set_ne h

/-! `setCan` -/

@[simp] theorem State.setCan_pending (c : Nat) (x : Can) : (s.setCan c x).pending = s.pending := rfl
@[simp] theorem State.setCan_now (c : Nat) (x : Can) : (s.setCan c x).now = s.now := rfl
@[simp] theorem State.setCan_devTime (c : Nat) (x : Can) : (s.setCan c x).devTime = s.devTime := rfl
@[simp] theorem State.setCan_freeIdx (c : Nat) (x : Can) : (s.setCan c x).freeIdx = s.freeIdx := rfl
@[simp] theorem State.setCan_regs (c : Nat) (x : Can) : (s.setCan c x).regs = s.regs := rfl
@[simp] theorem State.setCan_parity (c : Nat) (x : Can) : (s.setCan c x).parity = s.parity := rfl
@[simp] theorem State.setCan_scrub (c : Nat) (x : Can) : (s.setCan c x).scrub = s.scrub := rfl
@[simp] theorem State.setCan_scrubPasses (c : Nat) (x : Can) : (s.setCan c x).scrubPasses = s.scrubPasses := rfl
@[simp] theorem State.setCan_isl (c : Nat) (x : Can) : (s.setCan c x).isl = s.isl := rfl
@[simp] theorem State.setCan_wakeBuf (c : Nat) (x : Can) : (s.setCan c x).wakeBuf = s.wakeBuf := rfl
@[simp] theorem State.setCan_waiters (c : Nat) (x : Can) : (s.setCan c x).waiters = s.waiters := rfl
@[simp] theorem State.setCan_busWait (c : Nat) (x : Can) : (s.setCan c x).busWait = s.busWait := rfl
@[simp] theorem State.setCan_mbs (c : Nat) (x : Can) : (s.setCan c x).mbs = s.mbs := rfl
@[simp] theorem State.setCan_pairs (c : Nat) (x : Can) : (s.setCan c x).pairs = s.pairs := rfl
@[simp] theorem State.setCan_fpwr (c : Nat) (x : Can) : (s.setCan c x).fpwr = s.fpwr := rfl
@[simp] theorem State.setCan_chans (c : Nat) (x : Can) : (s.setCan c x).chans = s.chans := rfl
@[simp] theorem State.setCan_clk (c : Nat) (x : Can) : (s.setCan c x).clk = s.clk := rfl
@[simp] theorem State.setCan_fuses (c : Nat) (x : Can) : (s.setCan c x).fuses = s.fuses := rfl
@[simp] theorem State.setCan_arm (c : Nat) (x : Can) : (s.setCan c x).arm = s.arm := rfl
@[simp] theorem State.setCan_boot (c : Nat) (x : Can) : (s.setCan c x).boot = s.boot := rfl
@[simp] theorem State.setCan_link (c : Nat) (x : Can) : (s.setCan c x).link = s.link := rfl
@[simp] theorem State.setCan_txn (c : Nat) (x : Can) : (s.setCan c x).txn = s.txn := rfl
@[simp] theorem State.setCan_sram (c : Nat) (x : Can) : (s.setCan c x).sram = s.sram := rfl
@[simp] theorem State.setCan_mem (c : Nat) (x : Can) : (s.setCan c x).mem = s.mem := rfl
@[simp] theorem State.setCan_que (c : Nat) (x : Can) : (s.setCan c x).que = s.que := rfl
@[simp] theorem State.setCan_nrg (c : Nat) (x : Can) : (s.setCan c x).nrg = s.nrg := rfl
@[simp] theorem State.setCan_mot (c : Nat) (x : Can) : (s.setCan c x).mot = s.mot := rfl
@[simp] theorem State.setCan_trg (c : Nat) (x : Can) : (s.setCan c x).trg = s.trg := rfl
@[simp] theorem State.setCan_ring (c : Nat) (x : Can) : (s.setCan c x).ring = s.ring := rfl
@[simp] theorem State.setCan_sat (c : Nat) (x : Can) : (s.setCan c x).sat = s.sat := rfl
@[simp] theorem State.setCan_mon (c : Nat) (x : Can) : (s.setCan c x).mon = s.mon := rfl
@[simp] theorem State.setCan_sent (c : Nat) (x : Can) : (s.setCan c x).sent = s.sent := rfl
@[simp] theorem State.setCan_rd (c : Nat) (x : Can) (r : Nat) : (s.setCan c x).rd r = s.rd r := rfl
@[simp] theorem State.setCan_fld (c : Nat) (x : Can) (r lo w' : Nat) : (s.setCan c x).fld r lo w' = s.fld r lo w' := rfl
@[simp] theorem State.setCan_bit (c : Nat) (x : Can) (r b : Nat) : (s.setCan c x).bit r b = s.bit r b := rfl
@[simp] theorem State.setCan_island (c : Nat) (x : Can) (i' : Island) : (s.setCan c x).island i' = s.island i' := rfl
@[simp] theorem State.setCan_can_self (c : Nat) (x : Can) : (s.setCan c x).can c = x := Tab.get_set_self
theorem State.setCan_can_ne {c j : Nat} (h : j ≠ c) (x : Can) : (s.setCan c x).can j = s.can j := Tab.get_set_ne h

/-! `setPair` -/

@[simp] theorem State.setPair_pending (p : Nat) (x : Option PairOpen) : (s.setPair p x).pending = s.pending := rfl
@[simp] theorem State.setPair_now (p : Nat) (x : Option PairOpen) : (s.setPair p x).now = s.now := rfl
@[simp] theorem State.setPair_devTime (p : Nat) (x : Option PairOpen) : (s.setPair p x).devTime = s.devTime := rfl
@[simp] theorem State.setPair_freeIdx (p : Nat) (x : Option PairOpen) : (s.setPair p x).freeIdx = s.freeIdx := rfl
@[simp] theorem State.setPair_regs (p : Nat) (x : Option PairOpen) : (s.setPair p x).regs = s.regs := rfl
@[simp] theorem State.setPair_parity (p : Nat) (x : Option PairOpen) : (s.setPair p x).parity = s.parity := rfl
@[simp] theorem State.setPair_scrub (p : Nat) (x : Option PairOpen) : (s.setPair p x).scrub = s.scrub := rfl
@[simp] theorem State.setPair_scrubPasses (p : Nat) (x : Option PairOpen) : (s.setPair p x).scrubPasses = s.scrubPasses := rfl
@[simp] theorem State.setPair_isl (p : Nat) (x : Option PairOpen) : (s.setPair p x).isl = s.isl := rfl
@[simp] theorem State.setPair_wakeBuf (p : Nat) (x : Option PairOpen) : (s.setPair p x).wakeBuf = s.wakeBuf := rfl
@[simp] theorem State.setPair_waiters (p : Nat) (x : Option PairOpen) : (s.setPair p x).waiters = s.waiters := rfl
@[simp] theorem State.setPair_busWait (p : Nat) (x : Option PairOpen) : (s.setPair p x).busWait = s.busWait := rfl
@[simp] theorem State.setPair_mbs (p : Nat) (x : Option PairOpen) : (s.setPair p x).mbs = s.mbs := rfl
@[simp] theorem State.setPair_fpwr (p : Nat) (x : Option PairOpen) : (s.setPair p x).fpwr = s.fpwr := rfl
@[simp] theorem State.setPair_chans (p : Nat) (x : Option PairOpen) : (s.setPair p x).chans = s.chans := rfl
@[simp] theorem State.setPair_clk (p : Nat) (x : Option PairOpen) : (s.setPair p x).clk = s.clk := rfl
@[simp] theorem State.setPair_fuses (p : Nat) (x : Option PairOpen) : (s.setPair p x).fuses = s.fuses := rfl
@[simp] theorem State.setPair_arm (p : Nat) (x : Option PairOpen) : (s.setPair p x).arm = s.arm := rfl
@[simp] theorem State.setPair_boot (p : Nat) (x : Option PairOpen) : (s.setPair p x).boot = s.boot := rfl
@[simp] theorem State.setPair_link (p : Nat) (x : Option PairOpen) : (s.setPair p x).link = s.link := rfl
@[simp] theorem State.setPair_txn (p : Nat) (x : Option PairOpen) : (s.setPair p x).txn = s.txn := rfl
@[simp] theorem State.setPair_sram (p : Nat) (x : Option PairOpen) : (s.setPair p x).sram = s.sram := rfl
@[simp] theorem State.setPair_mem (p : Nat) (x : Option PairOpen) : (s.setPair p x).mem = s.mem := rfl
@[simp] theorem State.setPair_que (p : Nat) (x : Option PairOpen) : (s.setPair p x).que = s.que := rfl
@[simp] theorem State.setPair_nrg (p : Nat) (x : Option PairOpen) : (s.setPair p x).nrg = s.nrg := rfl
@[simp] theorem State.setPair_mot (p : Nat) (x : Option PairOpen) : (s.setPair p x).mot = s.mot := rfl
@[simp] theorem State.setPair_trg (p : Nat) (x : Option PairOpen) : (s.setPair p x).trg = s.trg := rfl
@[simp] theorem State.setPair_ring (p : Nat) (x : Option PairOpen) : (s.setPair p x).ring = s.ring := rfl
@[simp] theorem State.setPair_fb (p : Nat) (x : Option PairOpen) : (s.setPair p x).fb = s.fb := rfl
@[simp] theorem State.setPair_sat (p : Nat) (x : Option PairOpen) : (s.setPair p x).sat = s.sat := rfl
@[simp] theorem State.setPair_mon (p : Nat) (x : Option PairOpen) : (s.setPair p x).mon = s.mon := rfl
@[simp] theorem State.setPair_sent (p : Nat) (x : Option PairOpen) : (s.setPair p x).sent = s.sent := rfl
@[simp] theorem State.setPair_rd (p : Nat) (x : Option PairOpen) (r : Nat) : (s.setPair p x).rd r = s.rd r := rfl
@[simp] theorem State.setPair_fld (p : Nat) (x : Option PairOpen) (r lo w' : Nat) : (s.setPair p x).fld r lo w' = s.fld r lo w' := rfl
@[simp] theorem State.setPair_bit (p : Nat) (x : Option PairOpen) (r b : Nat) : (s.setPair p x).bit r b = s.bit r b := rfl
@[simp] theorem State.setPair_island (p : Nat) (x : Option PairOpen) (i' : Island) : (s.setPair p x).island i' = s.island i' := rfl
@[simp] theorem State.setPair_pair_self (p : Nat) (x : Option PairOpen) : (s.setPair p x).pair p = x := Tab.get_set_self
theorem State.setPair_pair_ne {p j : Nat} (h : j ≠ p) (x : Option PairOpen) : (s.setPair p x).pair j = s.pair j := Tab.get_set_ne h

/-! `setArb` -/

@[simp] theorem State.setArb_pending (n : Nat) (x : Arb) : (s.setArb n x).pending = s.pending := rfl
@[simp] theorem State.setArb_now (n : Nat) (x : Arb) : (s.setArb n x).now = s.now := rfl
@[simp] theorem State.setArb_devTime (n : Nat) (x : Arb) : (s.setArb n x).devTime = s.devTime := rfl
@[simp] theorem State.setArb_freeIdx (n : Nat) (x : Arb) : (s.setArb n x).freeIdx = s.freeIdx := rfl
@[simp] theorem State.setArb_regs (n : Nat) (x : Arb) : (s.setArb n x).regs = s.regs := rfl
@[simp] theorem State.setArb_parity (n : Nat) (x : Arb) : (s.setArb n x).parity = s.parity := rfl
@[simp] theorem State.setArb_scrub (n : Nat) (x : Arb) : (s.setArb n x).scrub = s.scrub := rfl
@[simp] theorem State.setArb_scrubPasses (n : Nat) (x : Arb) : (s.setArb n x).scrubPasses = s.scrubPasses := rfl
@[simp] theorem State.setArb_isl (n : Nat) (x : Arb) : (s.setArb n x).isl = s.isl := rfl
@[simp] theorem State.setArb_wakeBuf (n : Nat) (x : Arb) : (s.setArb n x).wakeBuf = s.wakeBuf := rfl
@[simp] theorem State.setArb_waiters (n : Nat) (x : Arb) : (s.setArb n x).waiters = s.waiters := rfl
@[simp] theorem State.setArb_busWait (n : Nat) (x : Arb) : (s.setArb n x).busWait = s.busWait := rfl
@[simp] theorem State.setArb_mbs (n : Nat) (x : Arb) : (s.setArb n x).mbs = s.mbs := rfl
@[simp] theorem State.setArb_pairs (n : Nat) (x : Arb) : (s.setArb n x).pairs = s.pairs := rfl
@[simp] theorem State.setArb_fpwr (n : Nat) (x : Arb) : (s.setArb n x).fpwr = s.fpwr := rfl
@[simp] theorem State.setArb_chans (n : Nat) (x : Arb) : (s.setArb n x).chans = s.chans := rfl
@[simp] theorem State.setArb_clk (n : Nat) (x : Arb) : (s.setArb n x).clk = s.clk := rfl
@[simp] theorem State.setArb_fuses (n : Nat) (x : Arb) : (s.setArb n x).fuses = s.fuses := rfl
@[simp] theorem State.setArb_arm (n : Nat) (x : Arb) : (s.setArb n x).arm = s.arm := rfl
@[simp] theorem State.setArb_boot (n : Nat) (x : Arb) : (s.setArb n x).boot = s.boot := rfl
@[simp] theorem State.setArb_link (n : Nat) (x : Arb) : (s.setArb n x).link = s.link := rfl
@[simp] theorem State.setArb_txn (n : Nat) (x : Arb) : (s.setArb n x).txn = s.txn := rfl
@[simp] theorem State.setArb_sram (n : Nat) (x : Arb) : (s.setArb n x).sram = s.sram := rfl
@[simp] theorem State.setArb_mem (n : Nat) (x : Arb) : (s.setArb n x).mem = s.mem := rfl
@[simp] theorem State.setArb_que (n : Nat) (x : Arb) : (s.setArb n x).que = s.que := rfl
@[simp] theorem State.setArb_mot (n : Nat) (x : Arb) : (s.setArb n x).mot = s.mot := rfl
@[simp] theorem State.setArb_trg (n : Nat) (x : Arb) : (s.setArb n x).trg = s.trg := rfl
@[simp] theorem State.setArb_ring (n : Nat) (x : Arb) : (s.setArb n x).ring = s.ring := rfl
@[simp] theorem State.setArb_fb (n : Nat) (x : Arb) : (s.setArb n x).fb = s.fb := rfl
@[simp] theorem State.setArb_sat (n : Nat) (x : Arb) : (s.setArb n x).sat = s.sat := rfl
@[simp] theorem State.setArb_mon (n : Nat) (x : Arb) : (s.setArb n x).mon = s.mon := rfl
@[simp] theorem State.setArb_sent (n : Nat) (x : Arb) : (s.setArb n x).sent = s.sent := rfl
@[simp] theorem State.setArb_rd (n : Nat) (x : Arb) (r : Nat) : (s.setArb n x).rd r = s.rd r := rfl
@[simp] theorem State.setArb_fld (n : Nat) (x : Arb) (r lo w' : Nat) : (s.setArb n x).fld r lo w' = s.fld r lo w' := rfl
@[simp] theorem State.setArb_bit (n : Nat) (x : Arb) (r b : Nat) : (s.setArb n x).bit r b = s.bit r b := rfl
@[simp] theorem State.setArb_island (n : Nat) (x : Arb) (i' : Island) : (s.setArb n x).island i' = s.island i' := rfl
@[simp] theorem State.setArb_arb_self (n : Nat) (x : Arb) : (s.setArb n x).arb n = x := Tab.get_set_self
theorem State.setArb_arb_ne {n j : Nat} (h : j ≠ n) (x : Arb) : (s.setArb n x).arb j = s.arb j := Tab.get_set_ne h

/-! `setNode` -/

@[simp] theorem State.setNode_pending (n : Nat) (x : NodeInfo) : (s.setNode n x).pending = s.pending := rfl
@[simp] theorem State.setNode_now (n : Nat) (x : NodeInfo) : (s.setNode n x).now = s.now := rfl
@[simp] theorem State.setNode_devTime (n : Nat) (x : NodeInfo) : (s.setNode n x).devTime = s.devTime := rfl
@[simp] theorem State.setNode_freeIdx (n : Nat) (x : NodeInfo) : (s.setNode n x).freeIdx = s.freeIdx := rfl
@[simp] theorem State.setNode_regs (n : Nat) (x : NodeInfo) : (s.setNode n x).regs = s.regs := rfl
@[simp] theorem State.setNode_parity (n : Nat) (x : NodeInfo) : (s.setNode n x).parity = s.parity := rfl
@[simp] theorem State.setNode_scrub (n : Nat) (x : NodeInfo) : (s.setNode n x).scrub = s.scrub := rfl
@[simp] theorem State.setNode_scrubPasses (n : Nat) (x : NodeInfo) : (s.setNode n x).scrubPasses = s.scrubPasses := rfl
@[simp] theorem State.setNode_isl (n : Nat) (x : NodeInfo) : (s.setNode n x).isl = s.isl := rfl
@[simp] theorem State.setNode_wakeBuf (n : Nat) (x : NodeInfo) : (s.setNode n x).wakeBuf = s.wakeBuf := rfl
@[simp] theorem State.setNode_waiters (n : Nat) (x : NodeInfo) : (s.setNode n x).waiters = s.waiters := rfl
@[simp] theorem State.setNode_busWait (n : Nat) (x : NodeInfo) : (s.setNode n x).busWait = s.busWait := rfl
@[simp] theorem State.setNode_mbs (n : Nat) (x : NodeInfo) : (s.setNode n x).mbs = s.mbs := rfl
@[simp] theorem State.setNode_pairs (n : Nat) (x : NodeInfo) : (s.setNode n x).pairs = s.pairs := rfl
@[simp] theorem State.setNode_fpwr (n : Nat) (x : NodeInfo) : (s.setNode n x).fpwr = s.fpwr := rfl
@[simp] theorem State.setNode_chans (n : Nat) (x : NodeInfo) : (s.setNode n x).chans = s.chans := rfl
@[simp] theorem State.setNode_clk (n : Nat) (x : NodeInfo) : (s.setNode n x).clk = s.clk := rfl
@[simp] theorem State.setNode_fuses (n : Nat) (x : NodeInfo) : (s.setNode n x).fuses = s.fuses := rfl
@[simp] theorem State.setNode_arm (n : Nat) (x : NodeInfo) : (s.setNode n x).arm = s.arm := rfl
@[simp] theorem State.setNode_boot (n : Nat) (x : NodeInfo) : (s.setNode n x).boot = s.boot := rfl
@[simp] theorem State.setNode_link (n : Nat) (x : NodeInfo) : (s.setNode n x).link = s.link := rfl
@[simp] theorem State.setNode_txn (n : Nat) (x : NodeInfo) : (s.setNode n x).txn = s.txn := rfl
@[simp] theorem State.setNode_sram (n : Nat) (x : NodeInfo) : (s.setNode n x).sram = s.sram := rfl
@[simp] theorem State.setNode_mem (n : Nat) (x : NodeInfo) : (s.setNode n x).mem = s.mem := rfl
@[simp] theorem State.setNode_que (n : Nat) (x : NodeInfo) : (s.setNode n x).que = s.que := rfl
@[simp] theorem State.setNode_nrg (n : Nat) (x : NodeInfo) : (s.setNode n x).nrg = s.nrg := rfl
@[simp] theorem State.setNode_mot (n : Nat) (x : NodeInfo) : (s.setNode n x).mot = s.mot := rfl
@[simp] theorem State.setNode_trg (n : Nat) (x : NodeInfo) : (s.setNode n x).trg = s.trg := rfl
@[simp] theorem State.setNode_fb (n : Nat) (x : NodeInfo) : (s.setNode n x).fb = s.fb := rfl
@[simp] theorem State.setNode_sat (n : Nat) (x : NodeInfo) : (s.setNode n x).sat = s.sat := rfl
@[simp] theorem State.setNode_mon (n : Nat) (x : NodeInfo) : (s.setNode n x).mon = s.mon := rfl
@[simp] theorem State.setNode_sent (n : Nat) (x : NodeInfo) : (s.setNode n x).sent = s.sent := rfl
@[simp] theorem State.setNode_rd (n : Nat) (x : NodeInfo) (r : Nat) : (s.setNode n x).rd r = s.rd r := rfl
@[simp] theorem State.setNode_fld (n : Nat) (x : NodeInfo) (r lo w' : Nat) : (s.setNode n x).fld r lo w' = s.fld r lo w' := rfl
@[simp] theorem State.setNode_bit (n : Nat) (x : NodeInfo) (r b : Nat) : (s.setNode n x).bit r b = s.bit r b := rfl
@[simp] theorem State.setNode_island (n : Nat) (x : NodeInfo) (i' : Island) : (s.setNode n x).island i' = s.island i' := rfl
@[simp] theorem State.setNode_node_self (n : Nat) (x : NodeInfo) : (s.setNode n x).node n = x := Tab.get_set_self
theorem State.setNode_node_ne {n j : Nat} (h : j ≠ n) (x : NodeInfo) : (s.setNode n x).node j = s.node j := Tab.get_set_ne h

/-! `setSplit` -/

@[simp] theorem State.setSplit_pending (m : Nat) (x : Option Split) : (s.setSplit m x).pending = s.pending := rfl
@[simp] theorem State.setSplit_now (m : Nat) (x : Option Split) : (s.setSplit m x).now = s.now := rfl
@[simp] theorem State.setSplit_devTime (m : Nat) (x : Option Split) : (s.setSplit m x).devTime = s.devTime := rfl
@[simp] theorem State.setSplit_freeIdx (m : Nat) (x : Option Split) : (s.setSplit m x).freeIdx = s.freeIdx := rfl
@[simp] theorem State.setSplit_regs (m : Nat) (x : Option Split) : (s.setSplit m x).regs = s.regs := rfl
@[simp] theorem State.setSplit_parity (m : Nat) (x : Option Split) : (s.setSplit m x).parity = s.parity := rfl
@[simp] theorem State.setSplit_scrub (m : Nat) (x : Option Split) : (s.setSplit m x).scrub = s.scrub := rfl
@[simp] theorem State.setSplit_scrubPasses (m : Nat) (x : Option Split) : (s.setSplit m x).scrubPasses = s.scrubPasses := rfl
@[simp] theorem State.setSplit_isl (m : Nat) (x : Option Split) : (s.setSplit m x).isl = s.isl := rfl
@[simp] theorem State.setSplit_wakeBuf (m : Nat) (x : Option Split) : (s.setSplit m x).wakeBuf = s.wakeBuf := rfl
@[simp] theorem State.setSplit_waiters (m : Nat) (x : Option Split) : (s.setSplit m x).waiters = s.waiters := rfl
@[simp] theorem State.setSplit_busWait (m : Nat) (x : Option Split) : (s.setSplit m x).busWait = s.busWait := rfl
@[simp] theorem State.setSplit_mbs (m : Nat) (x : Option Split) : (s.setSplit m x).mbs = s.mbs := rfl
@[simp] theorem State.setSplit_pairs (m : Nat) (x : Option Split) : (s.setSplit m x).pairs = s.pairs := rfl
@[simp] theorem State.setSplit_fpwr (m : Nat) (x : Option Split) : (s.setSplit m x).fpwr = s.fpwr := rfl
@[simp] theorem State.setSplit_chans (m : Nat) (x : Option Split) : (s.setSplit m x).chans = s.chans := rfl
@[simp] theorem State.setSplit_clk (m : Nat) (x : Option Split) : (s.setSplit m x).clk = s.clk := rfl
@[simp] theorem State.setSplit_fuses (m : Nat) (x : Option Split) : (s.setSplit m x).fuses = s.fuses := rfl
@[simp] theorem State.setSplit_arm (m : Nat) (x : Option Split) : (s.setSplit m x).arm = s.arm := rfl
@[simp] theorem State.setSplit_boot (m : Nat) (x : Option Split) : (s.setSplit m x).boot = s.boot := rfl
@[simp] theorem State.setSplit_link (m : Nat) (x : Option Split) : (s.setSplit m x).link = s.link := rfl
@[simp] theorem State.setSplit_txn (m : Nat) (x : Option Split) : (s.setSplit m x).txn = s.txn := rfl
@[simp] theorem State.setSplit_sram (m : Nat) (x : Option Split) : (s.setSplit m x).sram = s.sram := rfl
@[simp] theorem State.setSplit_mem (m : Nat) (x : Option Split) : (s.setSplit m x).mem = s.mem := rfl
@[simp] theorem State.setSplit_que (m : Nat) (x : Option Split) : (s.setSplit m x).que = s.que := rfl
@[simp] theorem State.setSplit_nrg (m : Nat) (x : Option Split) : (s.setSplit m x).nrg = s.nrg := rfl
@[simp] theorem State.setSplit_mot (m : Nat) (x : Option Split) : (s.setSplit m x).mot = s.mot := rfl
@[simp] theorem State.setSplit_trg (m : Nat) (x : Option Split) : (s.setSplit m x).trg = s.trg := rfl
@[simp] theorem State.setSplit_ring (m : Nat) (x : Option Split) : (s.setSplit m x).ring = s.ring := rfl
@[simp] theorem State.setSplit_fb (m : Nat) (x : Option Split) : (s.setSplit m x).fb = s.fb := rfl
@[simp] theorem State.setSplit_mon (m : Nat) (x : Option Split) : (s.setSplit m x).mon = s.mon := rfl
@[simp] theorem State.setSplit_sent (m : Nat) (x : Option Split) : (s.setSplit m x).sent = s.sent := rfl
@[simp] theorem State.setSplit_rd (m : Nat) (x : Option Split) (r : Nat) : (s.setSplit m x).rd r = s.rd r := rfl
@[simp] theorem State.setSplit_fld (m : Nat) (x : Option Split) (r lo w' : Nat) : (s.setSplit m x).fld r lo w' = s.fld r lo w' := rfl
@[simp] theorem State.setSplit_bit (m : Nat) (x : Option Split) (r b : Nat) : (s.setSplit m x).bit r b = s.bit r b := rfl
@[simp] theorem State.setSplit_island (m : Nat) (x : Option Split) (i' : Island) : (s.setSplit m x).island i' = s.island i' := rfl
@[simp] theorem State.setSplit_splitOf_self (m : Nat) (x : Option Split) : (s.setSplit m x).splitOf m = x := Tab.get_set_self
theorem State.setSplit_splitOf_ne {m j : Nat} (h : j ≠ m) (x : Option Split) : (s.setSplit m x).splitOf j = s.splitOf j := Tab.get_set_ne h

/-! `setSram` -/

@[simp] theorem State.setSram_pending (w : Nat) (x : SramWord) : (s.setSram w x).pending = s.pending := rfl
@[simp] theorem State.setSram_now (w : Nat) (x : SramWord) : (s.setSram w x).now = s.now := rfl
@[simp] theorem State.setSram_devTime (w : Nat) (x : SramWord) : (s.setSram w x).devTime = s.devTime := rfl
@[simp] theorem State.setSram_freeIdx (w : Nat) (x : SramWord) : (s.setSram w x).freeIdx = s.freeIdx := rfl
@[simp] theorem State.setSram_regs (w : Nat) (x : SramWord) : (s.setSram w x).regs = s.regs := rfl
@[simp] theorem State.setSram_parity (w : Nat) (x : SramWord) : (s.setSram w x).parity = s.parity := rfl
@[simp] theorem State.setSram_scrub (w : Nat) (x : SramWord) : (s.setSram w x).scrub = s.scrub := rfl
@[simp] theorem State.setSram_scrubPasses (w : Nat) (x : SramWord) : (s.setSram w x).scrubPasses = s.scrubPasses := rfl
@[simp] theorem State.setSram_isl (w : Nat) (x : SramWord) : (s.setSram w x).isl = s.isl := rfl
@[simp] theorem State.setSram_wakeBuf (w : Nat) (x : SramWord) : (s.setSram w x).wakeBuf = s.wakeBuf := rfl
@[simp] theorem State.setSram_waiters (w : Nat) (x : SramWord) : (s.setSram w x).waiters = s.waiters := rfl
@[simp] theorem State.setSram_busWait (w : Nat) (x : SramWord) : (s.setSram w x).busWait = s.busWait := rfl
@[simp] theorem State.setSram_mbs (w : Nat) (x : SramWord) : (s.setSram w x).mbs = s.mbs := rfl
@[simp] theorem State.setSram_pairs (w : Nat) (x : SramWord) : (s.setSram w x).pairs = s.pairs := rfl
@[simp] theorem State.setSram_fpwr (w : Nat) (x : SramWord) : (s.setSram w x).fpwr = s.fpwr := rfl
@[simp] theorem State.setSram_chans (w : Nat) (x : SramWord) : (s.setSram w x).chans = s.chans := rfl
@[simp] theorem State.setSram_clk (w : Nat) (x : SramWord) : (s.setSram w x).clk = s.clk := rfl
@[simp] theorem State.setSram_fuses (w : Nat) (x : SramWord) : (s.setSram w x).fuses = s.fuses := rfl
@[simp] theorem State.setSram_arm (w : Nat) (x : SramWord) : (s.setSram w x).arm = s.arm := rfl
@[simp] theorem State.setSram_boot (w : Nat) (x : SramWord) : (s.setSram w x).boot = s.boot := rfl
@[simp] theorem State.setSram_link (w : Nat) (x : SramWord) : (s.setSram w x).link = s.link := rfl
@[simp] theorem State.setSram_txn (w : Nat) (x : SramWord) : (s.setSram w x).txn = s.txn := rfl
@[simp] theorem State.setSram_mem (w : Nat) (x : SramWord) : (s.setSram w x).mem = s.mem := rfl
@[simp] theorem State.setSram_que (w : Nat) (x : SramWord) : (s.setSram w x).que = s.que := rfl
@[simp] theorem State.setSram_nrg (w : Nat) (x : SramWord) : (s.setSram w x).nrg = s.nrg := rfl
@[simp] theorem State.setSram_mot (w : Nat) (x : SramWord) : (s.setSram w x).mot = s.mot := rfl
@[simp] theorem State.setSram_trg (w : Nat) (x : SramWord) : (s.setSram w x).trg = s.trg := rfl
@[simp] theorem State.setSram_ring (w : Nat) (x : SramWord) : (s.setSram w x).ring = s.ring := rfl
@[simp] theorem State.setSram_fb (w : Nat) (x : SramWord) : (s.setSram w x).fb = s.fb := rfl
@[simp] theorem State.setSram_sat (w : Nat) (x : SramWord) : (s.setSram w x).sat = s.sat := rfl
@[simp] theorem State.setSram_mon (w : Nat) (x : SramWord) : (s.setSram w x).mon = s.mon := rfl
@[simp] theorem State.setSram_sent (w : Nat) (x : SramWord) : (s.setSram w x).sent = s.sent := rfl
@[simp] theorem State.setSram_rd (w : Nat) (x : SramWord) (r : Nat) : (s.setSram w x).rd r = s.rd r := rfl
@[simp] theorem State.setSram_fld (w : Nat) (x : SramWord) (r lo w' : Nat) : (s.setSram w x).fld r lo w' = s.fld r lo w' := rfl
@[simp] theorem State.setSram_bit (w : Nat) (x : SramWord) (r b : Nat) : (s.setSram w x).bit r b = s.bit r b := rfl
@[simp] theorem State.setSram_island (w : Nat) (x : SramWord) (i' : Island) : (s.setSram w x).island i' = s.island i' := rfl
@[simp] theorem State.setSram_sramW_self (w : Nat) (x : SramWord) : (s.setSram w x).sramW w = x := Tab.get_set_self
theorem State.setSram_sramW_ne {w j : Nat} (h : j ≠ w) (x : SramWord) : (s.setSram w x).sramW j = s.sramW j := Tab.get_set_ne h

/-! `setEst` -/

@[simp] theorem State.setEst_pending (q v : Nat) (e : Est) : (s.setEst q v e).pending = s.pending := rfl
@[simp] theorem State.setEst_now (q v : Nat) (e : Est) : (s.setEst q v e).now = s.now := rfl
@[simp] theorem State.setEst_devTime (q v : Nat) (e : Est) : (s.setEst q v e).devTime = s.devTime := rfl
@[simp] theorem State.setEst_freeIdx (q v : Nat) (e : Est) : (s.setEst q v e).freeIdx = s.freeIdx := rfl
@[simp] theorem State.setEst_regs (q v : Nat) (e : Est) : (s.setEst q v e).regs = s.regs := rfl
@[simp] theorem State.setEst_parity (q v : Nat) (e : Est) : (s.setEst q v e).parity = s.parity := rfl
@[simp] theorem State.setEst_scrub (q v : Nat) (e : Est) : (s.setEst q v e).scrub = s.scrub := rfl
@[simp] theorem State.setEst_scrubPasses (q v : Nat) (e : Est) : (s.setEst q v e).scrubPasses = s.scrubPasses := rfl
@[simp] theorem State.setEst_isl (q v : Nat) (e : Est) : (s.setEst q v e).isl = s.isl := rfl
@[simp] theorem State.setEst_wakeBuf (q v : Nat) (e : Est) : (s.setEst q v e).wakeBuf = s.wakeBuf := rfl
@[simp] theorem State.setEst_waiters (q v : Nat) (e : Est) : (s.setEst q v e).waiters = s.waiters := rfl
@[simp] theorem State.setEst_busWait (q v : Nat) (e : Est) : (s.setEst q v e).busWait = s.busWait := rfl
@[simp] theorem State.setEst_mbs (q v : Nat) (e : Est) : (s.setEst q v e).mbs = s.mbs := rfl
@[simp] theorem State.setEst_pairs (q v : Nat) (e : Est) : (s.setEst q v e).pairs = s.pairs := rfl
@[simp] theorem State.setEst_fpwr (q v : Nat) (e : Est) : (s.setEst q v e).fpwr = s.fpwr := rfl
@[simp] theorem State.setEst_chans (q v : Nat) (e : Est) : (s.setEst q v e).chans = s.chans := rfl
@[simp] theorem State.setEst_clk (q v : Nat) (e : Est) : (s.setEst q v e).clk = s.clk := rfl
@[simp] theorem State.setEst_fuses (q v : Nat) (e : Est) : (s.setEst q v e).fuses = s.fuses := rfl
@[simp] theorem State.setEst_arm (q v : Nat) (e : Est) : (s.setEst q v e).arm = s.arm := rfl
@[simp] theorem State.setEst_boot (q v : Nat) (e : Est) : (s.setEst q v e).boot = s.boot := rfl
@[simp] theorem State.setEst_link (q v : Nat) (e : Est) : (s.setEst q v e).link = s.link := rfl
@[simp] theorem State.setEst_txn (q v : Nat) (e : Est) : (s.setEst q v e).txn = s.txn := rfl
@[simp] theorem State.setEst_sram (q v : Nat) (e : Est) : (s.setEst q v e).sram = s.sram := rfl
@[simp] theorem State.setEst_mem (q v : Nat) (e : Est) : (s.setEst q v e).mem = s.mem := rfl
@[simp] theorem State.setEst_que (q v : Nat) (e : Est) : (s.setEst q v e).que = s.que := rfl
@[simp] theorem State.setEst_nrg (q v : Nat) (e : Est) : (s.setEst q v e).nrg = s.nrg := rfl
@[simp] theorem State.setEst_mot (q v : Nat) (e : Est) : (s.setEst q v e).mot = s.mot := rfl
@[simp] theorem State.setEst_ring (q v : Nat) (e : Est) : (s.setEst q v e).ring = s.ring := rfl
@[simp] theorem State.setEst_fb (q v : Nat) (e : Est) : (s.setEst q v e).fb = s.fb := rfl
@[simp] theorem State.setEst_sat (q v : Nat) (e : Est) : (s.setEst q v e).sat = s.sat := rfl
@[simp] theorem State.setEst_mon (q v : Nat) (e : Est) : (s.setEst q v e).mon = s.mon := rfl
@[simp] theorem State.setEst_sent (q v : Nat) (e : Est) : (s.setEst q v e).sent = s.sent := rfl
@[simp] theorem State.setEst_rd (q v : Nat) (e : Est) (r : Nat) : (s.setEst q v e).rd r = s.rd r := rfl
@[simp] theorem State.setEst_fld (q v : Nat) (e : Est) (r lo w' : Nat) : (s.setEst q v e).fld r lo w' = s.fld r lo w' := rfl
@[simp] theorem State.setEst_bit (q v : Nat) (e : Est) (r b : Nat) : (s.setEst q v e).bit r b = s.bit r b := rfl
@[simp] theorem State.setEst_island (q v : Nat) (e : Est) (i' : Island) : (s.setEst q v e).island i' = s.island i' := rfl
@[simp] theorem State.setEst_port (q v : Nat) (e : Est) (j : Nat) : (s.setEst q v e).port j = s.port j := rfl
@[simp] theorem State.setEst_quad (q v : Nat) (e : Est) (j : Nat) : (s.setEst q v e).quad j = s.quad j := rfl
@[simp] theorem State.setEst_window (q v : Nat) (e : Est) (j : Nat) : (s.setEst q v e).window j = s.window j := rfl
@[simp] theorem State.setEst_est_self (q v : Nat) (e : Est) : (s.setEst q v e).est q v = e := Tab.get_set_self

/-! `setMb` -/

@[simp] theorem State.setMb_pending (m : MailboxId) (x : Mb) : (s.setMb m x).pending = s.pending := rfl
@[simp] theorem State.setMb_now (m : MailboxId) (x : Mb) : (s.setMb m x).now = s.now := rfl
@[simp] theorem State.setMb_devTime (m : MailboxId) (x : Mb) : (s.setMb m x).devTime = s.devTime := rfl
@[simp] theorem State.setMb_freeIdx (m : MailboxId) (x : Mb) : (s.setMb m x).freeIdx = s.freeIdx := rfl
@[simp] theorem State.setMb_regs (m : MailboxId) (x : Mb) : (s.setMb m x).regs = s.regs := rfl
@[simp] theorem State.setMb_parity (m : MailboxId) (x : Mb) : (s.setMb m x).parity = s.parity := rfl
@[simp] theorem State.setMb_scrub (m : MailboxId) (x : Mb) : (s.setMb m x).scrub = s.scrub := rfl
@[simp] theorem State.setMb_scrubPasses (m : MailboxId) (x : Mb) : (s.setMb m x).scrubPasses = s.scrubPasses := rfl
@[simp] theorem State.setMb_isl (m : MailboxId) (x : Mb) : (s.setMb m x).isl = s.isl := rfl
@[simp] theorem State.setMb_wakeBuf (m : MailboxId) (x : Mb) : (s.setMb m x).wakeBuf = s.wakeBuf := rfl
@[simp] theorem State.setMb_waiters (m : MailboxId) (x : Mb) : (s.setMb m x).waiters = s.waiters := rfl
@[simp] theorem State.setMb_busWait (m : MailboxId) (x : Mb) : (s.setMb m x).busWait = s.busWait := rfl
@[simp] theorem State.setMb_pairs (m : MailboxId) (x : Mb) : (s.setMb m x).pairs = s.pairs := rfl
@[simp] theorem State.setMb_fpwr (m : MailboxId) (x : Mb) : (s.setMb m x).fpwr = s.fpwr := rfl
@[simp] theorem State.setMb_chans (m : MailboxId) (x : Mb) : (s.setMb m x).chans = s.chans := rfl
@[simp] theorem State.setMb_clk (m : MailboxId) (x : Mb) : (s.setMb m x).clk = s.clk := rfl
@[simp] theorem State.setMb_fuses (m : MailboxId) (x : Mb) : (s.setMb m x).fuses = s.fuses := rfl
@[simp] theorem State.setMb_arm (m : MailboxId) (x : Mb) : (s.setMb m x).arm = s.arm := rfl
@[simp] theorem State.setMb_boot (m : MailboxId) (x : Mb) : (s.setMb m x).boot = s.boot := rfl
@[simp] theorem State.setMb_link (m : MailboxId) (x : Mb) : (s.setMb m x).link = s.link := rfl
@[simp] theorem State.setMb_txn (m : MailboxId) (x : Mb) : (s.setMb m x).txn = s.txn := rfl
@[simp] theorem State.setMb_sram (m : MailboxId) (x : Mb) : (s.setMb m x).sram = s.sram := rfl
@[simp] theorem State.setMb_mem (m : MailboxId) (x : Mb) : (s.setMb m x).mem = s.mem := rfl
@[simp] theorem State.setMb_que (m : MailboxId) (x : Mb) : (s.setMb m x).que = s.que := rfl
@[simp] theorem State.setMb_nrg (m : MailboxId) (x : Mb) : (s.setMb m x).nrg = s.nrg := rfl
@[simp] theorem State.setMb_mot (m : MailboxId) (x : Mb) : (s.setMb m x).mot = s.mot := rfl
@[simp] theorem State.setMb_trg (m : MailboxId) (x : Mb) : (s.setMb m x).trg = s.trg := rfl
@[simp] theorem State.setMb_ring (m : MailboxId) (x : Mb) : (s.setMb m x).ring = s.ring := rfl
@[simp] theorem State.setMb_fb (m : MailboxId) (x : Mb) : (s.setMb m x).fb = s.fb := rfl
@[simp] theorem State.setMb_sat (m : MailboxId) (x : Mb) : (s.setMb m x).sat = s.sat := rfl
@[simp] theorem State.setMb_mon (m : MailboxId) (x : Mb) : (s.setMb m x).mon = s.mon := rfl
@[simp] theorem State.setMb_sent (m : MailboxId) (x : Mb) : (s.setMb m x).sent = s.sent := rfl
@[simp] theorem State.setMb_rd (m : MailboxId) (x : Mb) (r : Nat) : (s.setMb m x).rd r = s.rd r := rfl
@[simp] theorem State.setMb_fld (m : MailboxId) (x : Mb) (r lo w' : Nat) : (s.setMb m x).fld r lo w' = s.fld r lo w' := rfl
@[simp] theorem State.setMb_bit (m : MailboxId) (x : Mb) (r b : Nat) : (s.setMb m x).bit r b = s.bit r b := rfl
@[simp] theorem State.setMb_island (m : MailboxId) (x : Mb) (i' : Island) : (s.setMb m x).island i' = s.island i' := rfl
@[simp] theorem State.setMb_mb_self (m : MailboxId) (x : Mb) : (s.setMb m x).mb m = x := Tab.get_set_self

/-! `setHs` -/

@[simp] theorem State.setHs_pending (m : ChannelId) (x : HsChan) : (s.setHs m x).pending = s.pending := rfl
@[simp] theorem State.setHs_now (m : ChannelId) (x : HsChan) : (s.setHs m x).now = s.now := rfl
@[simp] theorem State.setHs_devTime (m : ChannelId) (x : HsChan) : (s.setHs m x).devTime = s.devTime := rfl
@[simp] theorem State.setHs_freeIdx (m : ChannelId) (x : HsChan) : (s.setHs m x).freeIdx = s.freeIdx := rfl
@[simp] theorem State.setHs_regs (m : ChannelId) (x : HsChan) : (s.setHs m x).regs = s.regs := rfl
@[simp] theorem State.setHs_parity (m : ChannelId) (x : HsChan) : (s.setHs m x).parity = s.parity := rfl
@[simp] theorem State.setHs_scrub (m : ChannelId) (x : HsChan) : (s.setHs m x).scrub = s.scrub := rfl
@[simp] theorem State.setHs_scrubPasses (m : ChannelId) (x : HsChan) : (s.setHs m x).scrubPasses = s.scrubPasses := rfl
@[simp] theorem State.setHs_isl (m : ChannelId) (x : HsChan) : (s.setHs m x).isl = s.isl := rfl
@[simp] theorem State.setHs_wakeBuf (m : ChannelId) (x : HsChan) : (s.setHs m x).wakeBuf = s.wakeBuf := rfl
@[simp] theorem State.setHs_waiters (m : ChannelId) (x : HsChan) : (s.setHs m x).waiters = s.waiters := rfl
@[simp] theorem State.setHs_busWait (m : ChannelId) (x : HsChan) : (s.setHs m x).busWait = s.busWait := rfl
@[simp] theorem State.setHs_mbs (m : ChannelId) (x : HsChan) : (s.setHs m x).mbs = s.mbs := rfl
@[simp] theorem State.setHs_pairs (m : ChannelId) (x : HsChan) : (s.setHs m x).pairs = s.pairs := rfl
@[simp] theorem State.setHs_fpwr (m : ChannelId) (x : HsChan) : (s.setHs m x).fpwr = s.fpwr := rfl
@[simp] theorem State.setHs_clk (m : ChannelId) (x : HsChan) : (s.setHs m x).clk = s.clk := rfl
@[simp] theorem State.setHs_fuses (m : ChannelId) (x : HsChan) : (s.setHs m x).fuses = s.fuses := rfl
@[simp] theorem State.setHs_arm (m : ChannelId) (x : HsChan) : (s.setHs m x).arm = s.arm := rfl
@[simp] theorem State.setHs_boot (m : ChannelId) (x : HsChan) : (s.setHs m x).boot = s.boot := rfl
@[simp] theorem State.setHs_link (m : ChannelId) (x : HsChan) : (s.setHs m x).link = s.link := rfl
@[simp] theorem State.setHs_txn (m : ChannelId) (x : HsChan) : (s.setHs m x).txn = s.txn := rfl
@[simp] theorem State.setHs_sram (m : ChannelId) (x : HsChan) : (s.setHs m x).sram = s.sram := rfl
@[simp] theorem State.setHs_mem (m : ChannelId) (x : HsChan) : (s.setHs m x).mem = s.mem := rfl
@[simp] theorem State.setHs_que (m : ChannelId) (x : HsChan) : (s.setHs m x).que = s.que := rfl
@[simp] theorem State.setHs_nrg (m : ChannelId) (x : HsChan) : (s.setHs m x).nrg = s.nrg := rfl
@[simp] theorem State.setHs_mot (m : ChannelId) (x : HsChan) : (s.setHs m x).mot = s.mot := rfl
@[simp] theorem State.setHs_trg (m : ChannelId) (x : HsChan) : (s.setHs m x).trg = s.trg := rfl
@[simp] theorem State.setHs_ring (m : ChannelId) (x : HsChan) : (s.setHs m x).ring = s.ring := rfl
@[simp] theorem State.setHs_fb (m : ChannelId) (x : HsChan) : (s.setHs m x).fb = s.fb := rfl
@[simp] theorem State.setHs_sat (m : ChannelId) (x : HsChan) : (s.setHs m x).sat = s.sat := rfl
@[simp] theorem State.setHs_mon (m : ChannelId) (x : HsChan) : (s.setHs m x).mon = s.mon := rfl
@[simp] theorem State.setHs_sent (m : ChannelId) (x : HsChan) : (s.setHs m x).sent = s.sent := rfl
@[simp] theorem State.setHs_rd (m : ChannelId) (x : HsChan) (r : Nat) : (s.setHs m x).rd r = s.rd r := rfl
@[simp] theorem State.setHs_fld (m : ChannelId) (x : HsChan) (r lo w' : Nat) : (s.setHs m x).fld r lo w' = s.fld r lo w' := rfl
@[simp] theorem State.setHs_bit (m : ChannelId) (x : HsChan) (r b : Nat) : (s.setHs m x).bit r b = s.bit r b := rfl
@[simp] theorem State.setHs_island (m : ChannelId) (x : HsChan) (i' : Island) : (s.setHs m x).island i' = s.island i' := rfl
@[simp] theorem State.setHs_hs_self (m : ChannelId) (x : HsChan) : (s.setHs m x).hs m = x := Tab.get_set_self

/-! `modQueue` -/

@[simp] theorem State.modQueue_pending (q : Nat) (f : Queue → Queue) : (s.modQueue q f).pending = s.pending := rfl
@[simp] theorem State.modQueue_now (q : Nat) (f : Queue → Queue) : (s.modQueue q f).now = s.now := rfl
@[simp] theorem State.modQueue_devTime (q : Nat) (f : Queue → Queue) : (s.modQueue q f).devTime = s.devTime := rfl
@[simp] theorem State.modQueue_freeIdx (q : Nat) (f : Queue → Queue) : (s.modQueue q f).freeIdx = s.freeIdx := rfl
@[simp] theorem State.modQueue_regs (q : Nat) (f : Queue → Queue) : (s.modQueue q f).regs = s.regs := rfl
@[simp] theorem State.modQueue_parity (q : Nat) (f : Queue → Queue) : (s.modQueue q f).parity = s.parity := rfl
@[simp] theorem State.modQueue_scrub (q : Nat) (f : Queue → Queue) : (s.modQueue q f).scrub = s.scrub := rfl
@[simp] theorem State.modQueue_scrubPasses (q : Nat) (f : Queue → Queue) : (s.modQueue q f).scrubPasses = s.scrubPasses := rfl
@[simp] theorem State.modQueue_isl (q : Nat) (f : Queue → Queue) : (s.modQueue q f).isl = s.isl := rfl
@[simp] theorem State.modQueue_wakeBuf (q : Nat) (f : Queue → Queue) : (s.modQueue q f).wakeBuf = s.wakeBuf := rfl
@[simp] theorem State.modQueue_waiters (q : Nat) (f : Queue → Queue) : (s.modQueue q f).waiters = s.waiters := rfl
@[simp] theorem State.modQueue_busWait (q : Nat) (f : Queue → Queue) : (s.modQueue q f).busWait = s.busWait := rfl
@[simp] theorem State.modQueue_mbs (q : Nat) (f : Queue → Queue) : (s.modQueue q f).mbs = s.mbs := rfl
@[simp] theorem State.modQueue_pairs (q : Nat) (f : Queue → Queue) : (s.modQueue q f).pairs = s.pairs := rfl
@[simp] theorem State.modQueue_fpwr (q : Nat) (f : Queue → Queue) : (s.modQueue q f).fpwr = s.fpwr := rfl
@[simp] theorem State.modQueue_chans (q : Nat) (f : Queue → Queue) : (s.modQueue q f).chans = s.chans := rfl
@[simp] theorem State.modQueue_clk (q : Nat) (f : Queue → Queue) : (s.modQueue q f).clk = s.clk := rfl
@[simp] theorem State.modQueue_fuses (q : Nat) (f : Queue → Queue) : (s.modQueue q f).fuses = s.fuses := rfl
@[simp] theorem State.modQueue_arm (q : Nat) (f : Queue → Queue) : (s.modQueue q f).arm = s.arm := rfl
@[simp] theorem State.modQueue_boot (q : Nat) (f : Queue → Queue) : (s.modQueue q f).boot = s.boot := rfl
@[simp] theorem State.modQueue_link (q : Nat) (f : Queue → Queue) : (s.modQueue q f).link = s.link := rfl
@[simp] theorem State.modQueue_txn (q : Nat) (f : Queue → Queue) : (s.modQueue q f).txn = s.txn := rfl
@[simp] theorem State.modQueue_sram (q : Nat) (f : Queue → Queue) : (s.modQueue q f).sram = s.sram := rfl
@[simp] theorem State.modQueue_mem (q : Nat) (f : Queue → Queue) : (s.modQueue q f).mem = s.mem := rfl
@[simp] theorem State.modQueue_nrg (q : Nat) (f : Queue → Queue) : (s.modQueue q f).nrg = s.nrg := rfl
@[simp] theorem State.modQueue_mot (q : Nat) (f : Queue → Queue) : (s.modQueue q f).mot = s.mot := rfl
@[simp] theorem State.modQueue_trg (q : Nat) (f : Queue → Queue) : (s.modQueue q f).trg = s.trg := rfl
@[simp] theorem State.modQueue_ring (q : Nat) (f : Queue → Queue) : (s.modQueue q f).ring = s.ring := rfl
@[simp] theorem State.modQueue_fb (q : Nat) (f : Queue → Queue) : (s.modQueue q f).fb = s.fb := rfl
@[simp] theorem State.modQueue_sat (q : Nat) (f : Queue → Queue) : (s.modQueue q f).sat = s.sat := rfl
@[simp] theorem State.modQueue_mon (q : Nat) (f : Queue → Queue) : (s.modQueue q f).mon = s.mon := rfl
@[simp] theorem State.modQueue_sent (q : Nat) (f : Queue → Queue) : (s.modQueue q f).sent = s.sent := rfl
@[simp] theorem State.modQueue_rd (q : Nat) (f : Queue → Queue) (r : Nat) : (s.modQueue q f).rd r = s.rd r := rfl
@[simp] theorem State.modQueue_fld (q : Nat) (f : Queue → Queue) (r lo w' : Nat) : (s.modQueue q f).fld r lo w' = s.fld r lo w' := rfl
@[simp] theorem State.modQueue_bit (q : Nat) (f : Queue → Queue) (r b : Nat) : (s.modQueue q f).bit r b = s.bit r b := rfl
@[simp] theorem State.modQueue_island (q : Nat) (f : Queue → Queue) (i' : Island) : (s.modQueue q f).island i' = s.island i' := rfl
@[simp] theorem State.modQueue_queue_self (q : Nat) (f : Queue → Queue) : (s.modQueue q f).queue q = f (s.queue q) := Tab.get_set_self

/-! `modPort` -/

@[simp] theorem State.modPort_pending (p : Nat) (f : Port → Port) : (s.modPort p f).pending = s.pending := rfl
@[simp] theorem State.modPort_now (p : Nat) (f : Port → Port) : (s.modPort p f).now = s.now := rfl
@[simp] theorem State.modPort_devTime (p : Nat) (f : Port → Port) : (s.modPort p f).devTime = s.devTime := rfl
@[simp] theorem State.modPort_freeIdx (p : Nat) (f : Port → Port) : (s.modPort p f).freeIdx = s.freeIdx := rfl
@[simp] theorem State.modPort_regs (p : Nat) (f : Port → Port) : (s.modPort p f).regs = s.regs := rfl
@[simp] theorem State.modPort_parity (p : Nat) (f : Port → Port) : (s.modPort p f).parity = s.parity := rfl
@[simp] theorem State.modPort_scrub (p : Nat) (f : Port → Port) : (s.modPort p f).scrub = s.scrub := rfl
@[simp] theorem State.modPort_scrubPasses (p : Nat) (f : Port → Port) : (s.modPort p f).scrubPasses = s.scrubPasses := rfl
@[simp] theorem State.modPort_isl (p : Nat) (f : Port → Port) : (s.modPort p f).isl = s.isl := rfl
@[simp] theorem State.modPort_wakeBuf (p : Nat) (f : Port → Port) : (s.modPort p f).wakeBuf = s.wakeBuf := rfl
@[simp] theorem State.modPort_waiters (p : Nat) (f : Port → Port) : (s.modPort p f).waiters = s.waiters := rfl
@[simp] theorem State.modPort_busWait (p : Nat) (f : Port → Port) : (s.modPort p f).busWait = s.busWait := rfl
@[simp] theorem State.modPort_mbs (p : Nat) (f : Port → Port) : (s.modPort p f).mbs = s.mbs := rfl
@[simp] theorem State.modPort_pairs (p : Nat) (f : Port → Port) : (s.modPort p f).pairs = s.pairs := rfl
@[simp] theorem State.modPort_fpwr (p : Nat) (f : Port → Port) : (s.modPort p f).fpwr = s.fpwr := rfl
@[simp] theorem State.modPort_chans (p : Nat) (f : Port → Port) : (s.modPort p f).chans = s.chans := rfl
@[simp] theorem State.modPort_clk (p : Nat) (f : Port → Port) : (s.modPort p f).clk = s.clk := rfl
@[simp] theorem State.modPort_fuses (p : Nat) (f : Port → Port) : (s.modPort p f).fuses = s.fuses := rfl
@[simp] theorem State.modPort_arm (p : Nat) (f : Port → Port) : (s.modPort p f).arm = s.arm := rfl
@[simp] theorem State.modPort_boot (p : Nat) (f : Port → Port) : (s.modPort p f).boot = s.boot := rfl
@[simp] theorem State.modPort_link (p : Nat) (f : Port → Port) : (s.modPort p f).link = s.link := rfl
@[simp] theorem State.modPort_txn (p : Nat) (f : Port → Port) : (s.modPort p f).txn = s.txn := rfl
@[simp] theorem State.modPort_sram (p : Nat) (f : Port → Port) : (s.modPort p f).sram = s.sram := rfl
@[simp] theorem State.modPort_mem (p : Nat) (f : Port → Port) : (s.modPort p f).mem = s.mem := rfl
@[simp] theorem State.modPort_que (p : Nat) (f : Port → Port) : (s.modPort p f).que = s.que := rfl
@[simp] theorem State.modPort_nrg (p : Nat) (f : Port → Port) : (s.modPort p f).nrg = s.nrg := rfl
@[simp] theorem State.modPort_mot (p : Nat) (f : Port → Port) : (s.modPort p f).mot = s.mot := rfl
@[simp] theorem State.modPort_ring (p : Nat) (f : Port → Port) : (s.modPort p f).ring = s.ring := rfl
@[simp] theorem State.modPort_fb (p : Nat) (f : Port → Port) : (s.modPort p f).fb = s.fb := rfl
@[simp] theorem State.modPort_sat (p : Nat) (f : Port → Port) : (s.modPort p f).sat = s.sat := rfl
@[simp] theorem State.modPort_mon (p : Nat) (f : Port → Port) : (s.modPort p f).mon = s.mon := rfl
@[simp] theorem State.modPort_sent (p : Nat) (f : Port → Port) : (s.modPort p f).sent = s.sent := rfl
@[simp] theorem State.modPort_rd (p : Nat) (f : Port → Port) (r : Nat) : (s.modPort p f).rd r = s.rd r := rfl
@[simp] theorem State.modPort_fld (p : Nat) (f : Port → Port) (r lo w' : Nat) : (s.modPort p f).fld r lo w' = s.fld r lo w' := rfl
@[simp] theorem State.modPort_bit (p : Nat) (f : Port → Port) (r b : Nat) : (s.modPort p f).bit r b = s.bit r b := rfl
@[simp] theorem State.modPort_island (p : Nat) (f : Port → Port) (i' : Island) : (s.modPort p f).island i' = s.island i' := rfl
@[simp] theorem State.modPort_port_self (p : Nat) (f : Port → Port) : (s.modPort p f).port p = f (s.port p) := Tab.get_set_self

/-! `sramWrite` -/

@[simp] theorem State.sramWrite_pending (w : Nat) (v : Word) : (s.sramWrite w v).pending = s.pending := rfl
@[simp] theorem State.sramWrite_now (w : Nat) (v : Word) : (s.sramWrite w v).now = s.now := rfl
@[simp] theorem State.sramWrite_devTime (w : Nat) (v : Word) : (s.sramWrite w v).devTime = s.devTime := rfl
@[simp] theorem State.sramWrite_freeIdx (w : Nat) (v : Word) : (s.sramWrite w v).freeIdx = s.freeIdx := rfl
@[simp] theorem State.sramWrite_regs (w : Nat) (v : Word) : (s.sramWrite w v).regs = s.regs := rfl
@[simp] theorem State.sramWrite_parity (w : Nat) (v : Word) : (s.sramWrite w v).parity = s.parity := rfl
@[simp] theorem State.sramWrite_scrub (w : Nat) (v : Word) : (s.sramWrite w v).scrub = s.scrub := rfl
@[simp] theorem State.sramWrite_scrubPasses (w : Nat) (v : Word) : (s.sramWrite w v).scrubPasses = s.scrubPasses := rfl
@[simp] theorem State.sramWrite_isl (w : Nat) (v : Word) : (s.sramWrite w v).isl = s.isl := rfl
@[simp] theorem State.sramWrite_wakeBuf (w : Nat) (v : Word) : (s.sramWrite w v).wakeBuf = s.wakeBuf := rfl
@[simp] theorem State.sramWrite_waiters (w : Nat) (v : Word) : (s.sramWrite w v).waiters = s.waiters := rfl
@[simp] theorem State.sramWrite_busWait (w : Nat) (v : Word) : (s.sramWrite w v).busWait = s.busWait := rfl
@[simp] theorem State.sramWrite_mbs (w : Nat) (v : Word) : (s.sramWrite w v).mbs = s.mbs := rfl
@[simp] theorem State.sramWrite_pairs (w : Nat) (v : Word) : (s.sramWrite w v).pairs = s.pairs := rfl
@[simp] theorem State.sramWrite_fpwr (w : Nat) (v : Word) : (s.sramWrite w v).fpwr = s.fpwr := rfl
@[simp] theorem State.sramWrite_chans (w : Nat) (v : Word) : (s.sramWrite w v).chans = s.chans := rfl
@[simp] theorem State.sramWrite_clk (w : Nat) (v : Word) : (s.sramWrite w v).clk = s.clk := rfl
@[simp] theorem State.sramWrite_fuses (w : Nat) (v : Word) : (s.sramWrite w v).fuses = s.fuses := rfl
@[simp] theorem State.sramWrite_arm (w : Nat) (v : Word) : (s.sramWrite w v).arm = s.arm := rfl
@[simp] theorem State.sramWrite_boot (w : Nat) (v : Word) : (s.sramWrite w v).boot = s.boot := rfl
@[simp] theorem State.sramWrite_link (w : Nat) (v : Word) : (s.sramWrite w v).link = s.link := rfl
@[simp] theorem State.sramWrite_txn (w : Nat) (v : Word) : (s.sramWrite w v).txn = s.txn := rfl
@[simp] theorem State.sramWrite_mem (w : Nat) (v : Word) : (s.sramWrite w v).mem = s.mem := rfl
@[simp] theorem State.sramWrite_que (w : Nat) (v : Word) : (s.sramWrite w v).que = s.que := rfl
@[simp] theorem State.sramWrite_nrg (w : Nat) (v : Word) : (s.sramWrite w v).nrg = s.nrg := rfl
@[simp] theorem State.sramWrite_mot (w : Nat) (v : Word) : (s.sramWrite w v).mot = s.mot := rfl
@[simp] theorem State.sramWrite_trg (w : Nat) (v : Word) : (s.sramWrite w v).trg = s.trg := rfl
@[simp] theorem State.sramWrite_ring (w : Nat) (v : Word) : (s.sramWrite w v).ring = s.ring := rfl
@[simp] theorem State.sramWrite_fb (w : Nat) (v : Word) : (s.sramWrite w v).fb = s.fb := rfl
@[simp] theorem State.sramWrite_sat (w : Nat) (v : Word) : (s.sramWrite w v).sat = s.sat := rfl
@[simp] theorem State.sramWrite_mon (w : Nat) (v : Word) : (s.sramWrite w v).mon = s.mon := rfl
@[simp] theorem State.sramWrite_sent (w : Nat) (v : Word) : (s.sramWrite w v).sent = s.sent := rfl
@[simp] theorem State.sramWrite_rd (w : Nat) (v : Word) (r : Nat) : (s.sramWrite w v).rd r = s.rd r := rfl
@[simp] theorem State.sramWrite_fld (w : Nat) (v : Word) (r lo w' : Nat) : (s.sramWrite w v).fld r lo w' = s.fld r lo w' := rfl
@[simp] theorem State.sramWrite_bit (w : Nat) (v : Word) (r b : Nat) : (s.sramWrite w v).bit r b = s.bit r b := rfl
@[simp] theorem State.sramWrite_island (w : Nat) (v : Word) (i' : Island) : (s.sramWrite w v).island i' = s.island i' := rfl
@[simp] theorem State.sramWrite_sramW_self (w : Nat) (v : Word) : (s.sramWrite w v).sramW w = { stored := v, checked := v } := Tab.get_set_self

/-! `drew` -/

@[simp] theorem State.drew_pending : s.drew.pending = s.pending := rfl
@[simp] theorem State.drew_now : s.drew.now = s.now := rfl
@[simp] theorem State.drew_devTime : s.drew.devTime = s.devTime := rfl
@[simp] theorem State.drew_regs : s.drew.regs = s.regs := rfl
@[simp] theorem State.drew_parity : s.drew.parity = s.parity := rfl
@[simp] theorem State.drew_scrub : s.drew.scrub = s.scrub := rfl
@[simp] theorem State.drew_scrubPasses : s.drew.scrubPasses = s.scrubPasses := rfl
@[simp] theorem State.drew_isl : s.drew.isl = s.isl := rfl
@[simp] theorem State.drew_wakeBuf : s.drew.wakeBuf = s.wakeBuf := rfl
@[simp] theorem State.drew_waiters : s.drew.waiters = s.waiters := rfl
@[simp] theorem State.drew_busWait : s.drew.busWait = s.busWait := rfl
@[simp] theorem State.drew_mbs : s.drew.mbs = s.mbs := rfl
@[simp] theorem State.drew_pairs : s.drew.pairs = s.pairs := rfl
@[simp] theorem State.drew_fpwr : s.drew.fpwr = s.fpwr := rfl
@[simp] theorem State.drew_chans : s.drew.chans = s.chans := rfl
@[simp] theorem State.drew_clk : s.drew.clk = s.clk := rfl
@[simp] theorem State.drew_fuses : s.drew.fuses = s.fuses := rfl
@[simp] theorem State.drew_arm : s.drew.arm = s.arm := rfl
@[simp] theorem State.drew_boot : s.drew.boot = s.boot := rfl
@[simp] theorem State.drew_link : s.drew.link = s.link := rfl
@[simp] theorem State.drew_txn : s.drew.txn = s.txn := rfl
@[simp] theorem State.drew_sram : s.drew.sram = s.sram := rfl
@[simp] theorem State.drew_mem : s.drew.mem = s.mem := rfl
@[simp] theorem State.drew_que : s.drew.que = s.que := rfl
@[simp] theorem State.drew_nrg : s.drew.nrg = s.nrg := rfl
@[simp] theorem State.drew_mot : s.drew.mot = s.mot := rfl
@[simp] theorem State.drew_trg : s.drew.trg = s.trg := rfl
@[simp] theorem State.drew_ring : s.drew.ring = s.ring := rfl
@[simp] theorem State.drew_fb : s.drew.fb = s.fb := rfl
@[simp] theorem State.drew_sat : s.drew.sat = s.sat := rfl
@[simp] theorem State.drew_mon : s.drew.mon = s.mon := rfl
@[simp] theorem State.drew_sent : s.drew.sent = s.sent := rfl
@[simp] theorem State.drew_rd  (r : Nat) : s.drew.rd r = s.rd r := rfl
@[simp] theorem State.drew_fld  (r lo w' : Nat) : s.drew.fld r lo w' = s.fld r lo w' := rfl
@[simp] theorem State.drew_bit  (r b : Nat) : s.drew.bit r b = s.bit r b := rfl
@[simp] theorem State.drew_island  (i' : Island) : s.drew.island i' = s.island i' := rfl
@[simp] theorem State.drew_freeIdx : s.drew.freeIdx = s.freeIdx + 1 := rfl

end Sys2Proof.Machine
end

