-- ==== Sys2Proof/Laws/Stays.lean ====
section
/-!
SUPPORT. What no operation of the machine changes: the queue of commands, the clock, the fuses, and the canonical form of the
register file and of the SRAM. The lemmas per operation are in Laws/StaysOps1.lean to Laws/StaysOps4.lean.
-/

namespace Sys2Proof.Machine

/-- `t` has the queue, the clock and the fuses of `s`, and tables in canonical form where those of `s` are. -/
structure Stays (s t : State) : Prop where
  pending : t.pending = s.pending
  now : t.now = s.now
  fuses : t.fuses = s.fuses
  regs : Regs.wf s = true → Regs.wf t = true
  sram : Memory.wf s = true → Memory.wf t = true

/-- A state that agrees with `t` in the five. -/
theorem Stays.upd {z s t : State} (h : Stays z s) (h1 : t.pending = s.pending := by rfl) (h2 : t.now = s.now := by rfl)
   (h3 : t.fuses = s.fuses := by rfl) (h4 : t.regs = s.regs := by rfl) (h5 : t.sram = s.sram := by rfl) : Stays z t := by
  constructor
  · rw [h1, h.pending]
  · rw [h2, h.now]
  · rw [h3, h.fuses]
  · intro x; have := h.regs x; rw [Regs.wf] at *; rw [h4]; exact this
  · intro x; have := h.sram x; rw [Memory.wf] at *; rw [h5]; exact this

/-- A record update of `t` that leaves the five as they are. -/
theorem Stays.lit {z t : State} {devTime_ freeIdx_ parity_ scrub_ scrubPasses_ isl_ wakeBuf_ waiters_ busWait_ mbs_ pairs_
    fpwr_ chans_ clk_ arm_ boot_ link_ txn_ mem_ que_ nrg_ mot_ trg_ ring_ fb_ sat_ mon_ sent_} (h : Stays z t) :
    Stays z (State.mk t.pending t.now devTime_ freeIdx_ t.regs parity_ scrub_ scrubPasses_ isl_ wakeBuf_ waiters_ busWait_ mbs_
    pairs_ fpwr_ chans_ clk_ t.fuses arm_ boot_ link_ txn_ t.sram mem_ que_ nrg_ mot_ trg_ ring_ fb_ sat_ mon_ sent_) :=
    ⟨h.pending, h.now, h.fuses, h.regs, h.sram⟩

/-- The same with an empty register file. -/
theorem Stays.lit1 {z t : State} {devTime_ freeIdx_ parity_ scrub_ scrubPasses_ isl_ wakeBuf_ waiters_ busWait_ mbs_ pairs_
    fpwr_ chans_ clk_ arm_ boot_ link_ txn_ mem_ que_ nrg_ mot_ trg_ ring_ fb_ sat_ mon_ sent_} (h : Stays z t) :
    Stays z (State.mk t.pending t.now devTime_ freeIdx_ [] parity_ scrub_ scrubPasses_ isl_ wakeBuf_ waiters_ busWait_ mbs_
    pairs_ fpwr_ chans_ clk_ t.fuses arm_ boot_ link_ txn_ t.sram mem_ que_ nrg_ mot_ trg_ ring_ fb_ sat_ mon_ sent_) :=
    ⟨h.pending, h.now, h.fuses, fun _ => rfl, h.sram⟩

/-- The same with an empty SRAM. -/
theorem Stays.lit2 {z t : State} {devTime_ freeIdx_ parity_ scrub_ scrubPasses_ isl_ wakeBuf_ waiters_ busWait_ mbs_ pairs_
    fpwr_ chans_ clk_ arm_ boot_ link_ txn_ mem_ que_ nrg_ mot_ trg_ ring_ fb_ sat_ mon_ sent_} (h : Stays z t) :
    Stays z (State.mk t.pending t.now devTime_ freeIdx_ t.regs parity_ scrub_ scrubPasses_ isl_ wakeBuf_ waiters_ busWait_ mbs_
    pairs_ fpwr_ chans_ clk_ t.fuses arm_ boot_ link_ txn_ [] mem_ que_ nrg_ mot_ trg_ ring_ fb_ sat_ mon_ sent_) := ⟨h.pending,
    h.now, h.fuses, h.regs, fun _ => rfl⟩

theorem Stays.ite {z a b : State} {c : Prop} [Decidable c] (h1 : Stays z a) (h2 : Stays z b) : Stays z (if c then a else b)
    := by
  split
  · exact h1
  · exact h2

theorem Stays.cut {z t u : State} (h : Stays z t) (k : Stays z t → Stays z u) : Stays z u := k h

theorem Stays.foldl {α} {z s : State} {f : State → α → State} {l : List α} (h : Stays z s) (hf : ∀ t k, Stays z t → Stays z
    (f t k)) :
    Stays z (l.foldl f s) := by
  induction l generalizing s with
  | nil => exact h
  | cons a l ih => exact ih (hf _ _ h)

theorem Stays.forAll {z s : State} {f : State → Nat → State} {l : List Nat} (h : Stays z s) (hf : ∀ t k, Stays z t → Stays z
    (f t k)) :
    Stays z (s.forAll l f) := Stays.foldl h hf

/-- Nothing done. -/
theorem Stays.refl (s : State) : Stays s s := ⟨rfl, rfl, rfl, id, id⟩

end Sys2Proof.Machine
end

