-- ==== Sys2Proof/Laws/StaysOps1.lean ====
section
/-!
SUPPORT. What no operation changes (see Laws/Stays.lean), part 1 of 4: one lemma per operation, an operation after those it
calls, from State.setCfg to State.hsSend.
-/

namespace Sys2Proof.Machine

set_option maxRecDepth 20000
set_option linter.unusedTactic false
set_option linter.unreachableTactic false
set_option linter.unusedVariables false
set_option linter.tactic.unusedName false

theorem Stays.setCfg {z s a1 a2} (h : Stays z s) : Stays z (State.setCfg s a1 a2) := by
  unfold State.setCfg
  repeat' first
    | with_reducible assumption
    | with_reducible exact Stays.lit (by with_reducible assumption)
    | (extract_lets +onlyGivenNames t; refine Stays.cut (t := t) ?_ (fun _ => ?_); (on_goal 1 => dsimp -zeta only [t]); (on_goal 2 => clear_value t))
    | (extract_lets +onlyGivenNames t; clear_value t)
    | fail_if_no_progress (with_reducible apply Stays.lit)

theorem Stays.reparity {z s a1} (h : Stays z s) : Stays z (State.reparity s a1) := by
  unfold State.reparity
  repeat' first
    | with_reducible assumption
    | with_reducible exact Stays.lit (by with_reducible assumption)
    | (extract_lets +onlyGivenNames t; refine Stays.cut (t := t) ?_ (fun _ => ?_); (on_goal 1 => dsimp -zeta only [t]); (on_goal 2 => clear_value t))
    | (extract_lets +onlyGivenNames t; clear_value t)
    | fail_if_no_progress (with_reducible apply Stays.lit)

theorem Stays.wr {z s k v} (h : Stays z s) : Stays z (State.wr s k v) :=
  ⟨h.pending, h.now, h.fuses, fun x => Tab.wf_set (h.regs x), h.sram⟩

theorem Stays.setFld {z s a1 a2 a3 a4} (h : Stays z s) : Stays z (State.setFld s a1 a2 a3 a4) := by
  unfold State.setFld
  repeat' first
    | with_reducible assumption
    | with_reducible apply Stays.wr

theorem Stays.setBit {z s a1 a2 a3} (h : Stays z s) : Stays z (State.setBit s a1 a2 a3) := by
  unfold State.setBit
  repeat' first
    | with_reducible assumption
    | with_reducible apply Stays.setFld

theorem Stays.bumpBy {z s a1 a2} (h : Stays z s) : Stays z (State.bumpBy s a1 a2) := by
  unfold State.bumpBy
  repeat' first
    | with_reducible assumption
    | with_reducible apply Stays.wr

theorem Stays.bump {z s a1} (h : Stays z s) : Stays z (State.bump s a1) := by
  unfold State.bump
  repeat' first
    | with_reducible assumption
    | with_reducible apply Stays.bumpBy

theorem Stays.send {z s a1} (h : Stays z s) : Stays z (State.send s a1) := by
  unfold State.send
  repeat' first
    | with_reducible assumption
    | with_reducible exact Stays.lit (by with_reducible assumption)
    | with_reducible apply Stays.setBit
    | (extract_lets +onlyGivenNames t; refine Stays.cut (t := t) ?_ (fun _ => ?_); (on_goal 1 => dsimp -zeta only [t]); (on_goal 2 => clear_value t))
    | (extract_lets +onlyGivenNames t; clear_value t)
    | split
    | fail_if_no_progress (with_reducible apply Stays.lit)

theorem Stays.setIsland {z s a1 a2} (h : Stays z s) : Stays z (State.setIsland s a1 a2) := by
  unfold State.setIsland
  repeat' first
    | with_reducible assumption
    | with_reducible exact Stays.lit (by with_reducible assumption)
    | (extract_lets +onlyGivenNames t; refine Stays.cut (t := t) ?_ (fun _ => ?_); (on_goal 1 => dsimp -zeta only [t]); (on_goal 2 => clear_value t))
    | (extract_lets +onlyGivenNames t; clear_value t)
    | fail_if_no_progress (with_reducible apply Stays.lit)

theorem Stays.modIsland {z s a1 a2} (h : Stays z s) : Stays z (State.modIsland s a1 a2) := by
  unfold State.modIsland
  repeat' first
    | with_reducible assumption
    | with_reducible apply Stays.setIsland

theorem Stays.setChn {z s a1 a2} (h : Stays z s) : Stays z (State.setChn s a1 a2) := by
  unfold State.setChn
  repeat' first
    | with_reducible assumption
    | with_reducible exact Stays.lit (by with_reducible assumption)
    | (extract_lets +onlyGivenNames t; refine Stays.cut (t := t) ?_ (fun _ => ?_); (on_goal 1 => dsimp -zeta only [t]); (on_goal 2 => clear_value t))
    | (extract_lets +onlyGivenNames t; clear_value t)
    | fail_if_no_progress (with_reducible apply Stays.lit)

theorem Stays.setQueue {z s a1 a2} (h : Stays z s) : Stays z (State.setQueue s a1 a2) := by
  unfold State.setQueue
  repeat' first
    | with_reducible assumption
    | with_reducible exact Stays.lit (by with_reducible assumption)
    | (extract_lets +onlyGivenNames t; refine Stays.cut (t := t) ?_ (fun _ => ?_); (on_goal 1 => dsimp -zeta only [t]); (on_goal 2 => clear_value t))
    | (extract_lets +onlyGivenNames t; clear_value t)
    | fail_if_no_progress (with_reducible apply Stays.lit)

theorem Stays.modQueue {z s a1 a2} (h : Stays z s) : Stays z (State.modQueue s a1 a2) := by
  unfold State.modQueue
  repeat' first
    | with_reducible assumption
    | with_reducible apply Stays.setQueue

theorem Stays.setLock {z s a1 a2} (h : Stays z s) : Stays z (State.setLock s a1 a2) := by
  unfold State.setLock
  repeat' first
    | with_reducible assumption
    | with_reducible exact Stays.lit (by with_reducible assumption)
    | (extract_lets +onlyGivenNames t; refine Stays.cut (t := t) ?_ (fun _ => ?_); (on_goal 1 => dsimp -zeta only [t]); (on_goal 2 => clear_value t))
    | (extract_lets +onlyGivenNames t; clear_value t)
    | fail_if_no_progress (with_reducible apply Stays.lit)

theorem Stays.setVec {z s a1 a2} (h : Stays z s) : Stays z (State.setVec s a1 a2) := by
  unfold State.setVec
  repeat' first
    | with_reducible assumption
    | with_reducible exact Stays.lit (by with_reducible assumption)
    | (extract_lets +onlyGivenNames t; refine Stays.cut (t := t) ?_ (fun _ => ?_); (on_goal 1 => dsimp -zeta only [t]); (on_goal 2 => clear_value t))
    | (extract_lets +onlyGivenNames t; clear_value t)
    | fail_if_no_progress (with_reducible apply Stays.lit)

theorem Stays.setPort {z s a1 a2} (h : Stays z s) : Stays z (State.setPort s a1 a2) := by
  unfold State.setPort
  repeat' first
    | with_reducible assumption
    | with_reducible exact Stays.lit (by with_reducible assumption)
    | (extract_lets +onlyGivenNames t; refine Stays.cut (t := t) ?_ (fun _ => ?_); (on_goal 1 => dsimp -zeta only [t]); (on_goal 2 => clear_value t))
    | (extract_lets +onlyGivenNames t; clear_value t)
    | fail_if_no_progress (with_reducible apply Stays.lit)

theorem Stays.modPort {z s a1 a2} (h : Stays z s) : Stays z (State.modPort s a1 a2) := by
  unfold State.modPort
  repeat' first
    | with_reducible assumption
    | with_reducible apply Stays.setPort

theorem Stays.setQuad {z s a1 a2} (h : Stays z s) : Stays z (State.setQuad s a1 a2) := by
  unfold State.setQuad
  repeat' first
    | with_reducible assumption
    | with_reducible exact Stays.lit (by with_reducible assumption)
    | (extract_lets +onlyGivenNames t; refine Stays.cut (t := t) ?_ (fun _ => ?_); (on_goal 1 => dsimp -zeta only [t]); (on_goal 2 => clear_value t))
    | (extract_lets +onlyGivenNames t; clear_value t)
    | fail_if_no_progress (with_reducible apply Stays.lit)

theorem Stays.setEst {z s a1 a2 a3} (h : Stays z s) : Stays z (State.setEst s a1 a2 a3) := by
  unfold State.setEst
  repeat' first
    | with_reducible assumption
    | with_reducible exact Stays.lit (by with_reducible assumption)
    | (extract_lets +onlyGivenNames t; refine Stays.cut (t := t) ?_ (fun _ => ?_); (on_goal 1 => dsimp -zeta only [t]); (on_goal 2 => clear_value t))
    | (extract_lets +onlyGivenNames t; clear_value t)
    | fail_if_no_progress (with_reducible apply Stays.lit)

theorem Stays.setWindow {z s a1 a2} (h : Stays z s) : Stays z (State.setWindow s a1 a2) := by
  unfold State.setWindow
  repeat' first
    | with_reducible assumption
    | with_reducible exact Stays.lit (by with_reducible assumption)
    | (extract_lets +onlyGivenNames t; refine Stays.cut (t := t) ?_ (fun _ => ?_); (on_goal 1 => dsimp -zeta only [t]); (on_goal 2 => clear_value t))
    | (extract_lets +onlyGivenNames t; clear_value t)
    | fail_if_no_progress (with_reducible apply Stays.lit)

theorem Stays.setEnc {z s a1 a2} (h : Stays z s) : Stays z (State.setEnc s a1 a2) := by
  unfold State.setEnc
  repeat' first
    | with_reducible assumption
    | with_reducible exact Stays.lit (by with_reducible assumption)
    | (extract_lets +onlyGivenNames t; refine Stays.cut (t := t) ?_ (fun _ => ?_); (on_goal 1 => dsimp -zeta only [t]); (on_goal 2 => clear_value t))
    | (extract_lets +onlyGivenNames t; clear_value t)
    | fail_if_no_progress (with_reducible apply Stays.lit)

theorem Stays.setLev {z s a1 a2} (h : Stays z s) : Stays z (State.setLev s a1 a2) := by
  unfold State.setLev
  repeat' first
    | with_reducible assumption
    | with_reducible exact Stays.lit (by with_reducible assumption)
    | (extract_lets +onlyGivenNames t; refine Stays.cut (t := t) ?_ (fun _ => ?_); (on_goal 1 => dsimp -zeta only [t]); (on_goal 2 => clear_value t))
    | (extract_lets +onlyGivenNames t; clear_value t)
    | fail_if_no_progress (with_reducible apply Stays.lit)

theorem Stays.setSe {z s a1 a2} (h : Stays z s) : Stays z (State.setSe s a1 a2) := by
  unfold State.setSe
  repeat' first
    | with_reducible assumption
    | with_reducible exact Stays.lit (by with_reducible assumption)
    | (extract_lets +onlyGivenNames t; refine Stays.cut (t := t) ?_ (fun _ => ?_); (on_goal 1 => dsimp -zeta only [t]); (on_goal 2 => clear_value t))
    | (extract_lets +onlyGivenNames t; clear_value t)
    | fail_if_no_progress (with_reducible apply Stays.lit)

theorem Stays.setVe {z s a1 a2} (h : Stays z s) : Stays z (State.setVe s a1 a2) := by
  unfold State.setVe
  repeat' first
    | with_reducible assumption
    | with_reducible exact Stays.lit (by with_reducible assumption)
    | (extract_lets +onlyGivenNames t; refine Stays.cut (t := t) ?_ (fun _ => ?_); (on_goal 1 => dsimp -zeta only [t]); (on_goal 2 => clear_value t))
    | (extract_lets +onlyGivenNames t; clear_value t)
    | fail_if_no_progress (with_reducible apply Stays.lit)

theorem Stays.setCan {z s a1 a2} (h : Stays z s) : Stays z (State.setCan s a1 a2) := by
  unfold State.setCan
  repeat' first
    | with_reducible assumption
    | with_reducible exact Stays.lit (by with_reducible assumption)
    | (extract_lets +onlyGivenNames t; refine Stays.cut (t := t) ?_ (fun _ => ?_); (on_goal 1 => dsimp -zeta only [t]); (on_goal 2 => clear_value t))
    | (extract_lets +onlyGivenNames t; clear_value t)
    | fail_if_no_progress (with_reducible apply Stays.lit)

theorem Stays.setMb {z s a1 a2} (h : Stays z s) : Stays z (State.setMb s a1 a2) := by
  unfold State.setMb
  repeat' first
    | with_reducible assumption
    | with_reducible exact Stays.lit (by with_reducible assumption)
    | (extract_lets +onlyGivenNames t; refine Stays.cut (t := t) ?_ (fun _ => ?_); (on_goal 1 => dsimp -zeta only [t]); (on_goal 2 => clear_value t))
    | (extract_lets +onlyGivenNames t; clear_value t)
    | fail_if_no_progress (with_reducible apply Stays.lit)

theorem Stays.setPair {z s a1 a2} (h : Stays z s) : Stays z (State.setPair s a1 a2) := by
  unfold State.setPair
  repeat' first
    | with_reducible assumption
    | with_reducible exact Stays.lit (by with_reducible assumption)
    | (extract_lets +onlyGivenNames t; refine Stays.cut (t := t) ?_ (fun _ => ?_); (on_goal 1 => dsimp -zeta only [t]); (on_goal 2 => clear_value t))
    | (extract_lets +onlyGivenNames t; clear_value t)
    | fail_if_no_progress (with_reducible apply Stays.lit)

theorem Stays.setHs {z s a1 a2} (h : Stays z s) : Stays z (State.setHs s a1 a2) := by
  unfold State.setHs
  repeat' first
    | with_reducible assumption
    | with_reducible exact Stays.lit (by with_reducible assumption)
    | (extract_lets +onlyGivenNames t; refine Stays.cut (t := t) ?_ (fun _ => ?_); (on_goal 1 => dsimp -zeta only [t]); (on_goal 2 => clear_value t))
    | (extract_lets +onlyGivenNames t; clear_value t)
    | fail_if_no_progress (with_reducible apply Stays.lit)

theorem Stays.setArb {z s a1 a2} (h : Stays z s) : Stays z (State.setArb s a1 a2) := by
  unfold State.setArb
  repeat' first
    | with_reducible assumption
    | with_reducible exact Stays.lit (by with_reducible assumption)
    | (extract_lets +onlyGivenNames t; refine Stays.cut (t := t) ?_ (fun _ => ?_); (on_goal 1 => dsimp -zeta only [t]); (on_goal 2 => clear_value t))
    | (extract_lets +onlyGivenNames t; clear_value t)
    | fail_if_no_progress (with_reducible apply Stays.lit)

theorem Stays.setNode {z s a1 a2} (h : Stays z s) : Stays z (State.setNode s a1 a2) := by
  unfold State.setNode
  repeat' first
    | with_reducible assumption
    | with_reducible exact Stays.lit (by with_reducible assumption)
    | (extract_lets +onlyGivenNames t; refine Stays.cut (t := t) ?_ (fun _ => ?_); (on_goal 1 => dsimp -zeta only [t]); (on_goal 2 => clear_value t))
    | (extract_lets +onlyGivenNames t; clear_value t)
    | fail_if_no_progress (with_reducible apply Stays.lit)

theorem Stays.setSplit {z s a1 a2} (h : Stays z s) : Stays z (State.setSplit s a1 a2) := by
  unfold State.setSplit
  repeat' first
    | with_reducible assumption
    | with_reducible exact Stays.lit (by with_reducible assumption)
    | (extract_lets +onlyGivenNames t; refine Stays.cut (t := t) ?_ (fun _ => ?_); (on_goal 1 => dsimp -zeta only [t]); (on_goal 2 => clear_value t))
    | (extract_lets +onlyGivenNames t; clear_value t)
    | fail_if_no_progress (with_reducible apply Stays.lit)

theorem Stays.wake {z s a1} (h : Stays z s) : Stays z (State.wake s a1) := by
  unfold State.wake
  repeat' first
    | with_reducible assumption
    | with_reducible exact Stays.lit (by with_reducible assumption)
    | with_reducible apply Stays.setIsland
    | (extract_lets +onlyGivenNames t; refine Stays.cut (t := t) ?_ (fun _ => ?_); (on_goal 1 => dsimp -zeta only [t]); (on_goal 2 => clear_value t))
    | (extract_lets +onlyGivenNames t; clear_value t)
    | split
    | fail_if_no_progress (with_reducible apply Stays.lit)

theorem Stays.toRecovery {z s} (h : Stays z s) : Stays z (State.toRecovery s) := by
  unfold State.toRecovery
  repeat' first
    | with_reducible assumption
    | with_reducible exact Stays.lit (by with_reducible assumption)
    | with_reducible apply Stays.setFld
    | with_reducible apply Stays.bump
    | (extract_lets +onlyGivenNames t; refine Stays.cut (t := t) ?_ (fun _ => ?_); (on_goal 1 => dsimp -zeta only [t]); (on_goal 2 => clear_value t))
    | (extract_lets +onlyGivenNames t; clear_value t)
    | split
    | intro _
    | fail_if_no_progress (with_reducible apply Stays.lit)

theorem Stays.leaveL1 {z s} (h : Stays z s) : Stays z (State.leaveL1 s) := by
  unfold State.leaveL1
  repeat' first
    | with_reducible assumption
    | with_reducible apply Stays.bump
    | with_reducible apply Stays.setFld
    | with_reducible apply Stays.wake
    | with_reducible apply Stays.toRecovery
    | split

theorem Stays.sendMessage {z s a1} (h : Stays z s) : Stays z (State.sendMessage s a1) := by
  unfold State.sendMessage
  repeat' first
    | with_reducible assumption
    | with_reducible exact Stays.lit (by with_reducible assumption)
    | with_reducible apply Stays.leaveL1
    | with_reducible apply Stays.send
    | with_reducible apply Stays.setCfg
    | (extract_lets +onlyGivenNames t; refine Stays.cut (t := t) ?_ (fun _ => ?_); (on_goal 1 => dsimp -zeta only [t]); (on_goal 2 => clear_value t))
    | (extract_lets +onlyGivenNames t; clear_value t)
    | split
    | fail_if_no_progress (with_reducible apply Stays.lit)

theorem Stays.pmeFor {z s a1} (h : Stays z s) : Stays z (State.pmeFor s a1) := by
  unfold State.pmeFor
  repeat' first
    | with_reducible assumption
    | with_reducible apply Stays.send
    | split

theorem Stays.signalVector {z s a1} (h : Stays z s) : Stays z (State.signalVector s a1) := by
  unfold State.signalVector
  repeat' first
    | with_reducible assumption
    | with_reducible exact Stays.lit (by with_reducible assumption)
    | with_reducible apply Stays.sendMessage
    | with_reducible apply Stays.pmeFor
    | with_reducible apply Stays.setVec
    | (extract_lets +onlyGivenNames t; refine Stays.cut (t := t) ?_ (fun _ => ?_); (on_goal 1 => dsimp -zeta only [t]); (on_goal 2 => clear_value t))
    | (extract_lets +onlyGivenNames t; clear_value t)
    | split
    | fail_if_no_progress (with_reducible apply Stays.lit)

theorem Stays.takeEvent {z s a1} (h : Stays z s) : Stays z (State.takeEvent s a1) := by
  unfold State.takeEvent
  repeat' first
    | with_reducible assumption
    | with_reducible apply Stays.setBit
    | with_reducible apply Stays.signalVector
    | (extract_lets +onlyGivenNames t; refine Stays.cut (t := t) ?_ (fun _ => ?_); (on_goal 1 => dsimp -zeta only [t]); (on_goal 2 => clear_value t))
    | (extract_lets +onlyGivenNames t; clear_value t)
    | split

theorem Stays.monEvent {z s a1} (h : Stays z s) : Stays z (State.monEvent s a1) := by
  unfold State.monEvent
  repeat' first
    | with_reducible assumption
    | with_reducible exact Stays.lit (by with_reducible assumption)
    | with_reducible apply Stays.bump
    | (extract_lets +onlyGivenNames t; refine Stays.cut (t := t) ?_ (fun _ => ?_); (on_goal 1 => dsimp -zeta only [t]); (on_goal 2 => clear_value t))
    | (extract_lets +onlyGivenNames t; clear_value t)
    | split
    | fail_if_no_progress (with_reducible apply Stays.lit)

theorem Stays.raise {z s a1} (h : Stays z s) : Stays z (State.raise s a1) := by
  unfold State.raise
  repeat' first
    | with_reducible assumption
    | with_reducible exact Stays.lit (by with_reducible assumption)
    | with_reducible apply Stays.monEvent
    | with_reducible apply Stays.wake
    | with_reducible apply Stays.bump
    | with_reducible apply Stays.takeEvent
    | (extract_lets +onlyGivenNames t; refine Stays.cut (t := t) ?_ (fun _ => ?_); (on_goal 1 => dsimp -zeta only [t]); (on_goal 2 => clear_value t))
    | (extract_lets +onlyGivenNames t; clear_value t)
    | split
    | fail_if_no_progress (with_reducible apply Stays.lit)

theorem Stays.raiseBit {z s a1 a2 a3} (h : Stays z s) : Stays z (State.raiseBit s a1 a2 a3) := by
  unfold State.raiseBit
  repeat' first
    | with_reducible assumption
    | with_reducible apply Stays.raise
    | with_reducible apply Stays.setBit

theorem Stays.raiseQue {z s a1} (h : Stays z s) : Stays z (State.raiseQue s a1) := by
  unfold State.raiseQue
  repeat' first
    | with_reducible assumption
    | with_reducible apply Stays.raiseBit

theorem Stays.raiseLink {z s a1} (h : Stays z s) : Stays z (State.raiseLink s a1) := by
  unfold State.raiseLink
  repeat' first
    | with_reducible assumption
    | with_reducible apply Stays.raiseBit

theorem Stays.raiseTxn {z s a1} (h : Stays z s) : Stays z (State.raiseTxn s a1) := by
  unfold State.raiseTxn
  repeat' first
    | with_reducible assumption
    | with_reducible apply Stays.raiseBit

theorem Stays.raiseArm {z s a1} (h : Stays z s) : Stays z (State.raiseArm s a1) := by
  unfold State.raiseArm
  repeat' first
    | with_reducible assumption
    | with_reducible apply Stays.raiseBit

theorem Stays.raiseEnc {z s a1 a2} (h : Stays z s) : Stays z (State.raiseEnc s a1 a2) := by
  unfold State.raiseEnc
  repeat' first
    | with_reducible assumption
    | with_reducible apply Stays.raiseBit

theorem Stays.raiseCan {z s a1 a2} (h : Stays z s) : Stays z (State.raiseCan s a1 a2) := by
  unfold State.raiseCan
  repeat' first
    | with_reducible assumption
    | with_reducible apply Stays.raiseBit

theorem Stays.raiseRing {z s a1} (h : Stays z s) : Stays z (State.raiseRing s a1) := by
  unfold State.raiseRing
  repeat' first
    | with_reducible assumption
    | with_reducible apply Stays.raiseBit
    | split

theorem Stays.raiseSat {z s a1} (h : Stays z s) : Stays z (State.raiseSat s a1) := by
  unfold State.raiseSat
  repeat' first
    | with_reducible assumption
    | with_reducible apply Stays.raiseBit

theorem Stays.raiseNrg {z s a1} (h : Stays z s) : Stays z (State.raiseNrg s a1) := by
  unfold State.raiseNrg
  repeat' first
    | with_reducible assumption
    | with_reducible apply Stays.raiseBit

theorem Stays.raiseMon {z s a1} (h : Stays z s) : Stays z (State.raiseMon s a1) := by
  unfold State.raiseMon
  repeat' first
    | with_reducible assumption
    | with_reducible apply Stays.raiseBit

theorem Stays.logAccess {z s a1 a2 a3 a4} (h : Stays z s) : Stays z (State.logAccess s a1 a2 a3 a4) := by
  unfold State.logAccess
  repeat' first
    | with_reducible assumption
    | with_reducible apply Stays.wr
    | with_reducible apply Stays.setBit
    | split

theorem Stays.pairFail {z s a1 a2 a3} (h : Stays z s) : Stays z (State.pairFail s a1 a2 a3) := by
  unfold State.pairFail
  try dsimp only
  repeat' first
    | with_reducible assumption
    | with_reducible exact Stays.lit (by with_reducible assumption)
    | with_reducible apply Stays.setPair
    | with_reducible apply Stays.setBit
    | with_reducible apply Stays.wr
    | with_reducible apply Stays.raise
    | with_reducible refine Stays.ite ?_ ?_
    | split
    | fail_if_no_progress (with_reducible apply Stays.lit)
    | (extract_lets +onlyGivenNames t; refine Stays.cut (t := t) ?_ (fun _ => ?_); (on_goal 1 => dsimp -zeta only [t]); (on_goal 2 => clear_value t))
    | (extract_lets +onlyGivenNames t; clear_value t)

theorem Stays.enableRefused {z s a1 a2} (h : Stays z s) : Stays z (State.enableRefused s a1 a2) := by
  unfold State.enableRefused
  repeat' first
    | with_reducible assumption
    | with_reducible apply Stays.setBit
    | with_reducible apply Stays.wr
    | with_reducible apply Stays.raise
    | (extract_lets +onlyGivenNames t; refine Stays.cut (t := t) ?_ (fun _ => ?_); (on_goal 1 => dsimp -zeta only [t]); (on_goal 2 => clear_value t))
    | (extract_lets +onlyGivenNames t; clear_value t)
    | split

theorem Stays.park {z s a1 a2} (h : Stays z s) : Stays z (State.park s a1 a2) := by
  unfold State.park
  repeat' first
    | with_reducible assumption
    | with_reducible exact Stays.lit (by with_reducible assumption)
    | with_reducible apply Stays.wake
    | with_reducible apply Stays.raise
    | with_reducible apply Stays.bump
    | (extract_lets +onlyGivenNames t; refine Stays.cut (t := t) ?_ (fun _ => ?_); (on_goal 1 => dsimp -zeta only [t]); (on_goal 2 => clear_value t))
    | (extract_lets +onlyGivenNames t; clear_value t)
    | split
    | fail_if_no_progress (with_reducible apply Stays.lit)

theorem Stays.setSram {z s w x} (h : Stays z s) : Stays z (State.setSram s w x) :=
  ⟨h.pending, h.now, h.fuses, h.regs, fun y => Tab.wf_set (d := fun _ => ({} : SramWord)) (h.sram y)⟩

theorem Stays.sramWrite {z s a1 a2} (h : Stays z s) : Stays z (State.sramWrite s a1 a2) := by
  unfold State.sramWrite
  repeat' first
    | with_reducible assumption
    | with_reducible exact Stays.lit (by with_reducible assumption)
    | with_reducible apply Stays.setSram
    | (extract_lets +onlyGivenNames t; refine Stays.cut (t := t) ?_ (fun _ => ?_); (on_goal 1 => dsimp -zeta only [t]); (on_goal 2 => clear_value t))
    | (extract_lets +onlyGivenNames t; clear_value t)
    | fail_if_no_progress (with_reducible apply Stays.lit)

theorem Stays.eccNote {z s a1 a2} (h : Stays z s) : Stays z (State.eccNote s a1 a2) := by
  unfold State.eccNote
  repeat' first
    | with_reducible assumption
    | with_reducible apply Stays.setBit
    | with_reducible apply Stays.wr
    | with_reducible apply Stays.raise
    | with_reducible apply Stays.bump
    | with_reducible apply Stays.raiseArm
    | (extract_lets +onlyGivenNames t; refine Stays.cut (t := t) ?_ (fun _ => ?_); (on_goal 1 => dsimp -zeta only [t]); (on_goal 2 => clear_value t))
    | (extract_lets +onlyGivenNames t; clear_value t)
    | split
    | intro _

theorem Stays.sramRead {z s w} (h : Stays z s) : Stays z (State.sramRead s w).2.2 := by
  unfold State.sramRead
  extract_lets x
  split <;> dsimp only
  · with_reducible exact h
  · with_reducible exact h.setSram.eccNote
  · with_reducible exact h.eccNote

theorem Stays.breakLock {z s a1} (h : Stays z s) : Stays z (State.breakLock s a1) := by
  unfold State.breakLock
  repeat' first
    | with_reducible assumption
    | with_reducible exact Stays.lit (by with_reducible assumption)
    | with_reducible apply Stays.setLock
    | (extract_lets +onlyGivenNames t; refine Stays.cut (t := t) ?_ (fun _ => ?_); (on_goal 1 => dsimp -zeta only [t]); (on_goal 2 => clear_value t))
    | (extract_lets +onlyGivenNames t; clear_value t)
    | fail_if_no_progress (with_reducible apply Stays.lit)

theorem Stays.breakLocks {z s a1} (h : Stays z s) : Stays z (State.breakLocks s a1) := by
  unfold State.breakLocks
  repeat' first
    | with_reducible assumption
    | with_reducible apply Stays.forAll
    | with_reducible apply Stays.breakLock
    | (with_reducible refine Stays.forAll ?_ (fun _ _ _ => ?_))
    | split
    | intro _

theorem Stays.drew {z s} (h : Stays z s) : Stays z (State.drew s) := by
  unfold State.drew
  repeat' first
    | with_reducible assumption
    | with_reducible exact Stays.lit (by with_reducible assumption)
    | (extract_lets +onlyGivenNames t; refine Stays.cut (t := t) ?_ (fun _ => ?_); (on_goal 1 => dsimp -zeta only [t]); (on_goal 2 => clear_value t))
    | (extract_lets +onlyGivenNames t; clear_value t)
    | fail_if_no_progress (with_reducible apply Stays.lit)

theorem Stays.resetRegs {z s i} (h : Stays z s) : Stays z (State.resetRegs s i) :=
  ⟨h.pending, h.now, h.fuses, fun x => Tab.wf_filter (h.regs x), h.sram⟩

theorem Stays.aerFirst {z s a1} (h : Stays z s) : Stays z (State.aerFirst s a1) := by
  unfold State.aerFirst
  repeat' first
    | with_reducible assumption
    | with_reducible exact Stays.lit (by with_reducible assumption)
    | with_reducible apply Stays.setCfg
    | with_reducible apply Stays.drew
    | (with_reducible refine Stays.foldl ?_ (fun _ _ _ => ?_))
    | (extract_lets +onlyGivenNames t; refine Stays.cut (t := t) ?_ (fun _ => ?_); (on_goal 1 => dsimp -zeta only [t]); (on_goal 2 => clear_value t))
    | (extract_lets +onlyGivenNames t; clear_value t)
    | split
    | intro _
    | fail_if_no_progress (with_reducible apply Stays.lit)

theorem Stays.aer {z s a1 a2} (h : Stays z s) : Stays z (State.aer s a1 a2) := by
  unfold State.aer
  repeat' first
    | with_reducible assumption
    | with_reducible apply Stays.setCfg
    | with_reducible apply Stays.aerFirst
    | (extract_lets +onlyGivenNames t; refine Stays.cut (t := t) ?_ (fun _ => ?_); (on_goal 1 => dsimp -zeta only [t]); (on_goal 2 => clear_value t))
    | (extract_lets +onlyGivenNames t; clear_value t)
    | split

theorem Stays.masterParity {z s} (h : Stays z s) : Stays z (State.masterParity s) := by
  unfold State.masterParity
  repeat' first
    | with_reducible assumption
    | with_reducible exact Stays.lit (by with_reducible assumption)
    | with_reducible apply Stays.setCfg
    | split
    | intro _
    | fail_if_no_progress (with_reducible apply Stays.lit)

theorem Stays.poisonNote {z s a1} (h : Stays z s) : Stays z (State.poisonNote s a1) := by
  unfold State.poisonNote
  repeat' first
    | with_reducible assumption
    | with_reducible apply Stays.raiseTxn
    | with_reducible apply Stays.bump
    | with_reducible apply Stays.aer

theorem Stays.satLog {z s a1 a2 a3 a4} (h : Stays z s) : Stays z (State.satLog s a1 a2 a3 a4) := by
  unfold State.satLog
  repeat' first
    | with_reducible assumption
    | with_reducible exact Stays.lit (by with_reducible assumption)
    | (extract_lets +onlyGivenNames t; refine Stays.cut (t := t) ?_ (fun _ => ?_); (on_goal 1 => dsimp -zeta only [t]); (on_goal 2 => clear_value t))
    | (extract_lets +onlyGivenNames t; clear_value t)
    | fail_if_no_progress (with_reducible apply Stays.lit)

theorem Stays.splitAnswer {z s a1 a2} (h : Stays z s) : Stays z (State.splitAnswer s a1 a2) := by
  unfold State.splitAnswer
  repeat' first
    | with_reducible assumption
    | with_reducible exact Stays.lit (by with_reducible assumption)
    | with_reducible apply Stays.setSplit
    | (extract_lets +onlyGivenNames t; refine Stays.cut (t := t) ?_ (fun _ => ?_); (on_goal 1 => dsimp -zeta only [t]); (on_goal 2 => clear_value t))
    | (extract_lets +onlyGivenNames t; clear_value t)
    | split
    | fail_if_no_progress (with_reducible apply Stays.lit)

theorem Stays.monOut {z s a1} (h : Stays z s) : Stays z (State.monOut s a1) := by
  unfold State.monOut
  repeat' first
    | with_reducible assumption
    | with_reducible apply Stays.send
    | split

theorem Stays.monLine {z s a1} (h : Stays z s) : Stays z (State.monLine s a1) := by
  unfold State.monLine
  repeat' first
    | with_reducible assumption
    | with_reducible apply Stays.monOut

theorem Stays.monPrompt {z s} (h : Stays z s) : Stays z (State.monPrompt s) := by
  unfold State.monPrompt
  repeat' first
    | with_reducible assumption
    | with_reducible apply Stays.monOut

theorem Stays.monReply {z s a1 a2} (h : Stays z s) : Stays z (State.monReply s a1 a2) := by
  unfold State.monReply
  repeat' first
    | with_reducible assumption
    | with_reducible exact Stays.lit (by with_reducible assumption)
    | with_reducible apply Stays.monLine
    | with_reducible apply Stays.bump
    | with_reducible apply Stays.monPrompt
    | with_reducible apply Stays.setBit
    | (with_reducible refine Stays.foldl ?_ (fun _ _ _ => ?_))
    | (extract_lets +onlyGivenNames t; refine Stays.cut (t := t) ?_ (fun _ => ?_); (on_goal 1 => dsimp -zeta only [t]); (on_goal 2 => clear_value t))
    | (extract_lets +onlyGivenNames t; clear_value t)
    | split
    | fail_if_no_progress (with_reducible apply Stays.lit)

theorem Stays.monOk {z s a1} (h : Stays z s) : Stays z (State.monOk s a1) := by
  unfold State.monOk
  repeat' first
    | with_reducible assumption
    | with_reducible apply Stays.monReply

theorem Stays.monNo {z s a1} (h : Stays z s) : Stays z (State.monNo s a1) := by
  unfold State.monNo
  repeat' first
    | with_reducible assumption
    | with_reducible apply Stays.monReply

theorem Stays.monRefused {z s a1 a2 a3} (h : Stays z s) : Stays z (State.monRefused s a1 a2 a3) := by
  unfold State.monRefused
  repeat' first
    | with_reducible assumption
    | with_reducible apply Stays.monNo
    | split

theorem Stays.raiseCause {z s a1} (h : Stays z s) : Stays z (State.raiseCause s a1) := by
  unfold State.raiseCause
  repeat' first
    | with_reducible assumption
    | with_reducible apply Stays.raise
    | with_reducible apply Stays.bump
    | split

theorem Stays.accessRefused {z s a1 a2 a3} (h : Stays z s) : Stays z (State.accessRefused s a1 a2 a3) := by
  unfold State.accessRefused
  repeat' first
    | with_reducible assumption
    | with_reducible apply Stays.raiseCause
    | with_reducible apply Stays.logAccess
    | with_reducible apply Stays.aer
    | (extract_lets +onlyGivenNames t; refine Stays.cut (t := t) ?_ (fun _ => ?_); (on_goal 1 => dsimp -zeta only [t]); (on_goal 2 => clear_value t))
    | (extract_lets +onlyGivenNames t; clear_value t)
    | split

theorem Stays.grantsAt {z s n a k t} (h : Stays z s) (e : State.grantsAt s n a k = some t) : Stays z t := by
  unfold State.grantsAt at e
  split at e
  · cases e; exact h.setArb
  · cases e

theorem Stays.grantAt {z s n a t} (h : Stays z s) (e : State.grantAt s n a = some t) : Stays z t := h.grantsAt e

theorem Stays.issue {z s a b p t} (h : Stays z s) (e : State.issue s a b p = some t) : Stays z t := by
  unfold State.issue at e
  split at e
  · cases e
  · split at e
    · rename_i hg; cases e; with_reducible exact (Stays.lit (h.grantAt hg)).send
    · cases e

theorem Stays.noteAsked {z s a1 a2} (h : Stays z s) : Stays z (State.noteAsked s a1 a2) := by
  unfold State.noteAsked
  repeat' first
    | with_reducible assumption
    | with_reducible exact Stays.lit (by with_reducible assumption)
    | with_reducible apply Stays.setArb
    | (extract_lets +onlyGivenNames t; refine Stays.cut (t := t) ?_ (fun _ => ?_); (on_goal 1 => dsimp -zeta only [t]); (on_goal 2 => clear_value t))
    | (extract_lets +onlyGivenNames t; clear_value t)
    | intro _
    | fail_if_no_progress (with_reducible apply Stays.lit)

theorem Stays.issueWaits {z s a1} (h : Stays z s) : Stays z (State.issueWaits s a1) := by
  unfold State.issueWaits
  repeat' first
    | with_reducible assumption
    | with_reducible exact Stays.lit (by with_reducible assumption)
    | with_reducible apply Stays.noteAsked
    | split
    | intro _
    | fail_if_no_progress (with_reducible apply Stays.lit)

theorem Stays.issueRead {z s a b c p t} (h : Stays z s) (e : State.issueRead s a b c p = some t) : Stays z t := h.issue e

theorem Stays.satLogNo {z s a1 a2 a3} (h : Stays z s) : Stays z (State.satLogNo s a1 a2 a3) := by
  unfold State.satLogNo
  repeat' first
    | with_reducible assumption
    | with_reducible apply Stays.drew
    | with_reducible apply Stays.satLog
    | (extract_lets +onlyGivenNames t; refine Stays.cut (t := t) ?_ (fun _ => ?_); (on_goal 1 => dsimp -zeta only [t]); (on_goal 2 => clear_value t))
    | (extract_lets +onlyGivenNames t; clear_value t)

theorem Stays.jobReply {z s a1 a2 a3 a4} (h : Stays z s) : Stays z (State.jobReply s a1 a2 a3 a4) := by
  unfold State.jobReply
  repeat' first
    | with_reducible assumption
    | with_reducible exact Stays.lit (by with_reducible assumption)
    | with_reducible apply Stays.send
    | with_reducible apply Stays.completion
    | split
    | intro _
    | fail_if_no_progress (with_reducible apply Stays.lit)

theorem Stays.completeJob {z s a1} (h : Stays z s) : Stays z (State.completeJob s a1) := by
  unfold State.completeJob
  repeat' first
    | with_reducible assumption
    | with_reducible apply Stays.send
    | with_reducible apply Stays.aer
    | with_reducible apply Stays.satLog
    | with_reducible apply Stays.raiseSat
    | with_reducible apply Stays.drew
    | with_reducible apply Stays.bump
    | with_reducible apply Stays.jobReply
    | (extract_lets +onlyGivenNames t; refine Stays.cut (t := t) ?_ (fun _ => ?_); (on_goal 1 => dsimp -zeta only [t]); (on_goal 2 => clear_value t))
    | (extract_lets +onlyGivenNames t; clear_value t)
    | split
    | intro _

theorem Stays.finishJobs {z s n} (h : Stays z s) : Stays z (State.finishJobs s n) := by
  induction n generalizing s with
  | zero => exact h
  | succ n ih =>
    unfold State.finishJobs
    dsimp only
    repeat' split
    all_goals first
      | with_reducible exact h
      | with_reducible exact Stays.lit h
      | with_reducible exact ih (Stays.lit h).completeJob

theorem Stays.finishAll {z s} (h : Stays z s) : Stays z (State.finishAll s) := by
  unfold State.finishAll
  repeat' first
    | with_reducible assumption
    | with_reducible apply Stays.finishJobs

theorem Stays.issueToHost {z s} (h : Stays z s) : Stays z (State.issueToHost s) := by
  unfold State.issueToHost
  repeat' first
    | with_reducible assumption
    | with_reducible exact Stays.lit (by with_reducible assumption)
    | with_reducible apply Stays.send
    | with_reducible apply Stays.raiseSat
    | with_reducible refine Stays.grantAt ?_ (by with_reducible assumption)
    | with_reducible apply Stays.noteAsked
    | with_reducible apply Stays.masterParity
    | (extract_lets +onlyGivenNames t; refine Stays.cut (t := t) ?_ (fun _ => ?_); (on_goal 1 => dsimp -zeta only [t]); (on_goal 2 => clear_value t))
    | (extract_lets +onlyGivenNames t; clear_value t)
    | split
    | intro _
    | fail_if_no_progress (with_reducible apply Stays.lit)

theorem Stays.flushToHost {z s} (h : Stays z s) : Stays z (State.flushToHost s) := by
  unfold State.flushToHost
  repeat' first
    | with_reducible assumption
    | with_reducible apply Stays.finishAll
    | with_reducible apply Stays.issueToHost
    | (with_reducible refine Stays.foldl ?_ (fun _ _ _ => ?_))
    | split
    | intro _

theorem Stays.issueSplit {z s m} (h : Stays z s) : Stays z (State.issueSplit s m) := by
  unfold State.issueSplit
  split
  · with_reducible exact h
  · extract_lets t
    split
    · with_reducible exact h
    · split
      · with_reducible exact h
      · rename_i host _
        split
        · exact h.flushToHost.splitAnswer.satLogNo
        extract_lets sent
        have key : ∀ u, sent = some u → Stays z u := by
          intro u e
          dsimp only [sent] at e
          split at e
          · split at e
            · with_reducible exact h.flushToHost.issue e
            · cases e
          · with_reducible exact h.flushToHost.issueRead e
        cases hs : sent with
        | none => exact h.flushToHost.issueWaits
        | some u => exact (key u hs).setSplit

theorem Stays.issueSplits {z s} (h : Stays z s) : Stays z (State.issueSplits s) := by
  unfold State.issueSplits
  repeat' first
    | with_reducible assumption
    | with_reducible apply Stays.forAll
    | with_reducible apply Stays.issueSplit
    | (with_reducible refine Stays.forAll ?_ (fun _ _ _ => ?_))
    | intro _

theorem Stays.unexpected {z s} (h : Stays z s) : Stays z (State.unexpected s) := by
  unfold State.unexpected
  repeat' first
    | with_reducible assumption
    | with_reducible apply Stays.raiseTxn
    | with_reducible apply Stays.bump
    | with_reducible apply Stays.aer

theorem Stays.completionNote {z s a1} (h : Stays z s) : Stays z (State.completionNote s a1) := by
  unfold State.completionNote
  repeat' first
    | with_reducible assumption
    | with_reducible exact Stays.lit (by with_reducible assumption)
    | with_reducible apply Stays.poisonNote
    | with_reducible apply Stays.masterParity
    | with_reducible apply Stays.setCfg
    | (extract_lets +onlyGivenNames t; refine Stays.cut (t := t) ?_ (fun _ => ?_); (on_goal 1 => dsimp -zeta only [t]); (on_goal 2 => clear_value t))
    | (extract_lets +onlyGivenNames t; clear_value t)
    | split
    | intro _
    | fail_if_no_progress (with_reducible apply Stays.lit)

theorem Stays.freeTagOf {z s a1} (h : Stays z s) : Stays z (State.freeTagOf s a1) := by
  unfold State.freeTagOf
  repeat' first
    | with_reducible assumption
    | with_reducible exact Stays.lit (by with_reducible assumption)
    | (extract_lets +onlyGivenNames t; refine Stays.cut (t := t) ?_ (fun _ => ?_); (on_goal 1 => dsimp -zeta only [t]); (on_goal 2 => clear_value t))
    | (extract_lets +onlyGivenNames t; clear_value t)
    | intro _
    | fail_if_no_progress (with_reducible apply Stays.lit)

theorem Stays.quarantineTag {z s a1} (h : Stays z s) : Stays z (State.quarantineTag s a1) := by
  unfold State.quarantineTag
  repeat' first
    | with_reducible assumption
    | with_reducible exact Stays.lit (by with_reducible assumption)
    | with_reducible apply Stays.freeTagOf
    | (extract_lets +onlyGivenNames t; refine Stays.cut (t := t) ?_ (fun _ => ?_); (on_goal 1 => dsimp -zeta only [t]); (on_goal 2 => clear_value t))
    | (extract_lets +onlyGivenNames t; clear_value t)
    | split
    | intro _
    | fail_if_no_progress (with_reducible apply Stays.lit)

theorem Stays.sinkTags {z s a1} (h : Stays z s) : Stays z (State.sinkTags s a1) := by
  unfold State.sinkTags
  repeat' first
    | with_reducible assumption
    | with_reducible exact Stays.lit (by with_reducible assumption)
    | (extract_lets +onlyGivenNames t; refine Stays.cut (t := t) ?_ (fun _ => ?_); (on_goal 1 => dsimp -zeta only [t]); (on_goal 2 => clear_value t))
    | (extract_lets +onlyGivenNames t; clear_value t)
    | split
    | intro _
    | fail_if_no_progress (with_reducible apply Stays.lit)

theorem Stays.faultQueue {z s a1 a2} (h : Stays z s) : Stays z (State.faultQueue s a1 a2) := by
  unfold State.faultQueue
  repeat' first
    | with_reducible assumption
    | with_reducible exact Stays.lit (by with_reducible assumption)
    | with_reducible apply Stays.modQueue
    | with_reducible apply Stays.wr
    | with_reducible apply Stays.raiseQue
    | with_reducible apply Stays.sinkTags
    | (extract_lets +onlyGivenNames t; refine Stays.cut (t := t) ?_ (fun _ => ?_); (on_goal 1 => dsimp -zeta only [t]); (on_goal 2 => clear_value t))
    | (extract_lets +onlyGivenNames t; clear_value t)
    | split
    | intro _
    | fail_if_no_progress (with_reducible apply Stays.lit)

theorem Stays.atsFault {z s a1} (h : Stays z s) : Stays z (State.atsFault s a1) := by
  unfold State.atsFault
  repeat' first
    | with_reducible assumption
    | with_reducible exact Stays.lit (by with_reducible assumption)
    | with_reducible apply Stays.raiseTxn
    | with_reducible apply Stays.faultQueue
    | split
    | intro _
    | fail_if_no_progress (with_reducible apply Stays.lit)

theorem Stays.atsFails {z s a1 a2} (h : Stays z s) : Stays z (State.atsFails s a1 a2) := by
  unfold State.atsFails
  repeat' first
    | with_reducible assumption
    | with_reducible apply Stays.raiseTxn
    | with_reducible apply Stays.faultQueue
    | with_reducible exact Stays.lit (by with_reducible assumption)
    | with_reducible apply Stays.atsFault
    | (extract_lets +onlyGivenNames t; refine Stays.cut (t := t) ?_ (fun _ => ?_); (on_goal 1 => dsimp -zeta only [t]); (on_goal 2 => clear_value t))
    | (extract_lets +onlyGivenNames t; clear_value t)
    | split
    | fail_if_no_progress (with_reducible apply Stays.lit)

theorem Stays.readFailed {z s a1} (h : Stays z s) : Stays z (State.readFailed s a1) := by
  unfold State.readFailed
  repeat' first
    | with_reducible assumption
    | with_reducible apply Stays.faultQueue
    | with_reducible apply Stays.splitAnswer
    | with_reducible apply Stays.raiseTxn
    | with_reducible apply Stays.bump
    | with_reducible apply Stays.atsFails
    | split

theorem Stays.discardFetched {z s a1 a2 a3} (h : Stays z s) : Stays z (State.discardFetched s a1 a2 a3) := by
  unfold State.discardFetched
  repeat' first
    | with_reducible assumption
    | with_reducible exact Stays.lit (by with_reducible assumption)
    | with_reducible apply Stays.raiseQue
    | with_reducible apply Stays.bump
    | with_reducible apply Stays.modQueue
    | (extract_lets +onlyGivenNames t; refine Stays.cut (t := t) ?_ (fun _ => ?_); (on_goal 1 => dsimp -zeta only [t]); (on_goal 2 => clear_value t))
    | (extract_lets +onlyGivenNames t; clear_value t)
    | intro _
    | fail_if_no_progress (with_reducible apply Stays.lit)

theorem Stays.assembleOnce {z s a1 a2 a3} (h : Stays z s) : Stays z (State.assembleOnce s a1 a2 a3) := by
  unfold State.assembleOnce
  repeat' first
    | with_reducible assumption
    | with_reducible exact Stays.lit (by with_reducible assumption)
    | with_reducible apply Stays.discardFetched
    | with_reducible apply Stays.modQueue
    | with_reducible apply Stays.setCan
    | (extract_lets +onlyGivenNames t; refine Stays.cut (t := t) ?_ (fun _ => ?_); (on_goal 1 => dsimp -zeta only [t]); (on_goal 2 => clear_value t))
    | (extract_lets +onlyGivenNames t; clear_value t)
    | split
    | intro _
    | fail_if_no_progress (with_reducible apply Stays.lit)

theorem Stays.assembleHead {z s a1 a2 a3} (h : Stays z s) : Stays z (State.assembleHead s a1 a2 a3) := by
  unfold State.assembleHead
  repeat' first
    | with_reducible assumption
    | with_reducible apply Stays.assembleOnce

theorem Stays.requestTranslation {z s q p} (h : Stays z s) : Stays z (State.requestTranslation s q p) := by
  unfold State.requestTranslation
  split
  · with_reducible exact h
  · cases e : s.issue (.ats q p) fun t => .translationReq t p with
    | none => exact h.issueWaits
    | some t => exact h.issue e

theorem Stays.atcUse {z s a1} (h : Stays z s) : Stays z (State.atcUse s a1) := by
  unfold State.atcUse
  repeat' first
    | with_reducible assumption
    | with_reducible exact Stays.lit (by with_reducible assumption)
    | (extract_lets +onlyGivenNames t; refine Stays.cut (t := t) ?_ (fun _ => ?_); (on_goal 1 => dsimp -zeta only [t]); (on_goal 2 => clear_value t))
    | (extract_lets +onlyGivenNames t; clear_value t)
    | intro _
    | fail_if_no_progress (with_reducible apply Stays.lit)

theorem Stays.translated {z s a1 a2} (h : Stays z s) : Stays z (State.translated s a1 a2) := by
  unfold State.translated
  repeat' first
    | with_reducible assumption
    | with_reducible exact Stays.lit (by with_reducible assumption)
    | with_reducible apply Stays.unexpected
    | with_reducible apply Stays.freeTagOf
    | with_reducible apply Stays.atcUse
    | with_reducible apply Stays.atsFails
    | with_reducible apply Stays.raiseTxn
    | with_reducible apply Stays.quarantineTag
    | (extract_lets +onlyGivenNames t; refine Stays.cut (t := t) ?_ (fun _ => ?_); (on_goal 1 => dsimp -zeta only [t]); (on_goal 2 => clear_value t))
    | (extract_lets +onlyGivenNames t; clear_value t)
    | split
    | fail_if_no_progress (with_reducible apply Stays.lit)

theorem Stays.askAhead {z s a1 a2 a3} (h : Stays z s) : Stays z (State.askAhead s a1 a2 a3) := by
  unfold State.askAhead
  repeat' first
    | with_reducible assumption
    | with_reducible exact Stays.lit (by with_reducible assumption)
    | with_reducible apply Stays.translated
    | with_reducible apply Stays.requestTranslation
    | (extract_lets +onlyGivenNames t; refine Stays.cut (t := t) ?_ (fun _ => ?_); (on_goal 1 => dsimp -zeta only [t]); (on_goal 2 => clear_value t))
    | (extract_lets +onlyGivenNames t; clear_value t)
    | split
    | intro _
    | fail_if_no_progress (with_reducible apply Stays.lit)

theorem Stays.fetchDone {z s a1 a2 a3} (h : Stays z s) : Stays z (State.fetchDone s a1 a2 a3) := by
  unfold State.fetchDone
  repeat' first
    | with_reducible assumption
    | with_reducible exact Stays.lit (by with_reducible assumption)
    | with_reducible apply Stays.modQueue
    | with_reducible apply Stays.askAhead
    | (extract_lets +onlyGivenNames t; refine Stays.cut (t := t) ?_ (fun _ => ?_); (on_goal 1 => dsimp -zeta only [t]); (on_goal 2 => clear_value t))
    | (extract_lets +onlyGivenNames t; clear_value t)
    | intro _
    | fail_if_no_progress (with_reducible apply Stays.lit)

theorem Stays.fetchDelivered {z s a1 a2 a3 a4} (h : Stays z s) : Stays z (State.fetchDelivered s a1 a2 a3 a4) := by
  unfold State.fetchDelivered
  repeat' first
    | with_reducible assumption
    | with_reducible exact Stays.lit (by with_reducible assumption)
    | with_reducible apply Stays.modQueue
    | with_reducible apply Stays.faultQueue
    | with_reducible apply Stays.poisonNote
    | with_reducible apply Stays.fetchDone
    | (extract_lets +onlyGivenNames t; refine Stays.cut (t := t) ?_ (fun _ => ?_); (on_goal 1 => dsimp -zeta only [t]); (on_goal 2 => clear_value t))
    | (extract_lets +onlyGivenNames t; clear_value t)
    | split
    | intro _
    | fail_if_no_progress (with_reducible apply Stays.lit)

theorem Stays.readDelivered {z s a1 a2 a3} (h : Stays z s) : Stays z (State.readDelivered s a1 a2 a3) := by
  unfold State.readDelivered
  repeat' first
    | with_reducible assumption
    | with_reducible exact Stays.lit (by with_reducible assumption)
    | with_reducible apply Stays.fetchDelivered
    | with_reducible apply Stays.assembleHead
    | with_reducible apply Stays.splitAnswer
    | with_reducible apply Stays.raiseSat
    | with_reducible apply Stays.poisonNote
    | (extract_lets +onlyGivenNames t; refine Stays.cut (t := t) ?_ (fun _ => ?_); (on_goal 1 => dsimp -zeta only [t]); (on_goal 2 => clear_value t))
    | (extract_lets +onlyGivenNames t; clear_value t)
    | split
    | intro _
    | fail_if_no_progress (with_reducible apply Stays.lit)

theorem Stays.completionFor {z s a1 a2} (h : Stays z s) : Stays z (State.completionFor s a1 a2) := by
  unfold State.completionFor
  repeat' first
    | with_reducible assumption
    | with_reducible exact Stays.lit (by with_reducible assumption)
    | with_reducible apply Stays.freeTagOf
    | with_reducible apply Stays.readFailed
    | with_reducible apply Stays.raiseTxn
    | with_reducible apply Stays.readDelivered
    | with_reducible apply Stays.quarantineTag
    | (extract_lets +onlyGivenNames t; refine Stays.cut (t := t) ?_ (fun _ => ?_); (on_goal 1 => dsimp -zeta only [t]); (on_goal 2 => clear_value t))
    | (extract_lets +onlyGivenNames t; clear_value t)
    | split
    | intro _
    | fail_if_no_progress (with_reducible apply Stays.lit)

theorem Stays.completion {z s a1} (h : Stays z s) : Stays z (State.completion s a1) := by
  unfold State.completion
  repeat' first
    | with_reducible assumption
    | with_reducible apply Stays.issueSplits
    | with_reducible apply Stays.completionFor
    | with_reducible apply Stays.unexpected
    | with_reducible apply Stays.completionNote
    | split

theorem Stays.answerRefused {z s a1 a2 a3} (h : Stays z s) : Stays z (State.answerRefused s a1 a2 a3) := by
  unfold State.answerRefused
  repeat' first
    | with_reducible assumption
    | with_reducible apply Stays.send
    | with_reducible apply Stays.monRefused
    | with_reducible apply Stays.satLog
    | with_reducible apply Stays.raiseSat
    | with_reducible apply Stays.splitAnswer
    | with_reducible apply Stays.completion
    | (extract_lets +onlyGivenNames t; refine Stays.cut (t := t) ?_ (fun _ => ?_); (on_goal 1 => dsimp -zeta only [t]); (on_goal 2 => clear_value t))
    | (extract_lets +onlyGivenNames t; clear_value t)
    | split

theorem Stays.busGrant {z s a t} (h : Stays z s) (e : State.busGrant s a = some t) : Stays z t := h.grantAt e

theorem Stays.atcRemove {z s a1} (h : Stays z s) : Stays z (State.atcRemove s a1) := by
  unfold State.atcRemove
  repeat' first
    | with_reducible assumption
    | with_reducible exact Stays.lit (by with_reducible assumption)
    | (extract_lets +onlyGivenNames t; refine Stays.cut (t := t) ?_ (fun _ => ?_); (on_goal 1 => dsimp -zeta only [t]); (on_goal 2 => clear_value t))
    | (extract_lets +onlyGivenNames t; clear_value t)
    | intro _
    | fail_if_no_progress (with_reducible apply Stays.lit)

theorem Stays.invalidate {z s a1 a2} (h : Stays z s) : Stays z (State.invalidate s a1 a2) := by
  unfold State.invalidate
  repeat' first
    | with_reducible assumption
    | with_reducible exact Stays.lit (by with_reducible assumption)
    | with_reducible apply Stays.atcRemove
    | (extract_lets +onlyGivenNames t; refine Stays.cut (t := t) ?_ (fun _ => ?_); (on_goal 1 => dsimp -zeta only [t]); (on_goal 2 => clear_value t))
    | (extract_lets +onlyGivenNames t; clear_value t)
    | fail_if_no_progress (with_reducible apply Stays.lit)
    | split

theorem Stays.flushAtc {z s} (h : Stays z s) : Stays z (State.flushAtc s) := by
  unfold State.flushAtc
  repeat' first
    | with_reducible assumption
    | with_reducible exact Stays.lit (by with_reducible assumption)
    | with_reducible apply Stays.invalidate
    | split
    | intro _
    | fail_if_no_progress (with_reducible apply Stays.lit)

theorem Stays.sendLtr {z s a1} (h : Stays z s) : Stays z (State.sendLtr s a1) := by
  unfold State.sendLtr
  repeat' first
    | with_reducible assumption
    | with_reducible exact Stays.lit (by with_reducible assumption)
    | with_reducible apply Stays.send
    | split
    | intro _
    | fail_if_no_progress (with_reducible apply Stays.lit)

theorem Stays.sendLtrDue {z s} (h : Stays z s) : Stays z (State.sendLtrDue s) := by
  unfold State.sendLtrDue
  repeat' first
    | with_reducible assumption
    | with_reducible exact Stays.lit (by with_reducible assumption)
    | with_reducible apply Stays.sendLtr
    | split
    | intro _
    | fail_if_no_progress (with_reducible apply Stays.lit)

theorem Stays.sendPending {z s} (h : Stays z s) : Stays z (State.sendPending s) := by
  unfold State.sendPending
  repeat' first
    | with_reducible assumption
    | with_reducible apply Stays.forAll
    | with_reducible apply Stays.sendMessage
    | with_reducible apply Stays.sendLtrDue
    | (with_reducible refine Stays.forAll ?_ (fun _ _ _ => ?_))
    | (extract_lets +onlyGivenNames t; refine Stays.cut (t := t) ?_ (fun _ => ?_); (on_goal 1 => dsimp -zeta only [t]); (on_goal 2 => clear_value t))
    | (extract_lets +onlyGivenNames t; clear_value t)
    | split
    | intro _

theorem Stays.setTxb {z s a1 a2 a3 a4} (h : Stays z s) : Stays z (State.setTxb s a1 a2 a3 a4) := by
  unfold State.setTxb
  repeat' first
    | with_reducible assumption
    | with_reducible exact Stays.lit (by with_reducible assumption)
    | (extract_lets +onlyGivenNames t; refine Stays.cut (t := t) ?_ (fun _ => ?_); (on_goal 1 => dsimp -zeta only [t]); (on_goal 2 => clear_value t))
    | (extract_lets +onlyGivenNames t; clear_value t)
    | fail_if_no_progress (with_reducible apply Stays.lit)

theorem Stays.setPhase {z s a1 a2} (h : Stays z s) : Stays z (State.setPhase s a1 a2) := by
  unfold State.setPhase
  repeat' first
    | with_reducible assumption
    | with_reducible apply Stays.setFld

theorem Stays.keepOnBus {z s a1 a2} (h : Stays z s) : Stays z (State.keepOnBus s a1 a2) := by
  unfold State.keepOnBus
  repeat' first
    | with_reducible assumption
    | with_reducible exact Stays.lit (by with_reducible assumption)
    | with_reducible apply Stays.setCan
    | (extract_lets +onlyGivenNames t; refine Stays.cut (t := t) ?_ (fun _ => ?_); (on_goal 1 => dsimp -zeta only [t]); (on_goal 2 => clear_value t))
    | (extract_lets +onlyGivenNames t; clear_value t)
    | split
    | fail_if_no_progress (with_reducible apply Stays.lit)

theorem Stays.cancelBuffer {z s a1 a2} (h : Stays z s) : Stays z (State.cancelBuffer s a1 a2) := by
  unfold State.cancelBuffer
  repeat' first
    | with_reducible assumption
    | with_reducible apply Stays.setBit
    | with_reducible apply Stays.keepOnBus
    | split

theorem Stays.discardHead {z s a1 a2} (h : Stays z s) : Stays z (State.discardHead s a1 a2) := by
  unfold State.discardHead
  repeat' first
    | with_reducible assumption
    | with_reducible exact Stays.lit (by with_reducible assumption)
    | with_reducible apply Stays.keepOnBus
    | with_reducible apply Stays.bump
    | with_reducible apply Stays.setCan
    | (extract_lets +onlyGivenNames t; refine Stays.cut (t := t) ?_ (fun _ => ?_); (on_goal 1 => dsimp -zeta only [t]); (on_goal 2 => clear_value t))
    | (extract_lets +onlyGivenNames t; clear_value t)
    | split
    | fail_if_no_progress (with_reducible apply Stays.lit)

theorem Stays.clearRequests {z s a1} (h : Stays z s) : Stays z (State.clearRequests s a1) := by
  unfold State.clearRequests
  repeat' first
    | with_reducible assumption
    | with_reducible apply Stays.forAll
    | with_reducible apply Stays.cancelBuffer
    | with_reducible apply Stays.discardHead
    | (with_reducible refine Stays.forAll ?_ (fun _ _ _ => ?_))
    | (extract_lets +onlyGivenNames t; refine Stays.cut (t := t) ?_ (fun _ => ?_); (on_goal 1 => dsimp -zeta only [t]); (on_goal 2 => clear_value t))
    | (extract_lets +onlyGivenNames t; clear_value t)
    | intro _

theorem Stays.fldRequestsEnd {z s} (h : Stays z s) : Stays z (State.fldRequestsEnd s) := by
  unfold State.fldRequestsEnd
  repeat' first
    | with_reducible assumption
    | with_reducible apply Stays.forAll
    | with_reducible apply Stays.clearRequests
    | (with_reducible refine Stays.forAll ?_ (fun _ _ _ => ?_))
    | split

theorem Stays.canQueueGone {z s a1} (h : Stays z s) : Stays z (State.canQueueGone s a1) := by
  unfold State.canQueueGone
  repeat' first
    | with_reducible assumption
    | with_reducible apply Stays.forAll
    | with_reducible apply Stays.discardHead
    | (with_reducible refine Stays.forAll ?_ (fun _ _ _ => ?_))
    | split
    | intro _

theorem Stays.fbLeaveInit {z s a1} (h : Stays z s) : Stays z (State.fbLeaveInit s a1) := by
  unfold State.fbLeaveInit
  repeat' first
    | with_reducible assumption
    | with_reducible exact Stays.lit (by with_reducible assumption)
    | with_reducible apply Stays.wr
    | with_reducible apply Stays.setBit
    | with_reducible apply Stays.setCan
    | (extract_lets +onlyGivenNames t; refine Stays.cut (t := t) ?_ (fun _ => ?_); (on_goal 1 => dsimp -zeta only [t]); (on_goal 2 => clear_value t))
    | (extract_lets +onlyGivenNames t; clear_value t)
    | split
    | fail_if_no_progress (with_reducible apply Stays.lit)

theorem Stays.fbEnterInit {z s a1} (h : Stays z s) : Stays z (State.fbEnterInit s a1) := by
  unfold State.fbEnterInit
  repeat' first
    | with_reducible assumption
    | with_reducible exact Stays.lit (by with_reducible assumption)
    | with_reducible apply Stays.setBit
    | with_reducible apply Stays.clearRequests
    | with_reducible apply Stays.setPhase
    | with_reducible apply Stays.setCan
    | (extract_lets +onlyGivenNames t; refine Stays.cut (t := t) ?_ (fun _ => ?_); (on_goal 1 => dsimp -zeta only [t]); (on_goal 2 => clear_value t))
    | (extract_lets +onlyGivenNames t; clear_value t)
    | split
    | fail_if_no_progress (with_reducible apply Stays.lit)

theorem Stays.fldInit {z s} (h : Stays z s) : Stays z (State.fldInit s) := by
  unfold State.fldInit
  repeat' first
    | with_reducible assumption
    | with_reducible apply Stays.wr
    | with_reducible apply Stays.forAll
    | with_reducible apply Stays.setPhase
    | with_reducible apply Stays.fbLeaveInit
    | (with_reducible refine Stays.forAll ?_ (fun _ _ _ => ?_))
    | (extract_lets +onlyGivenNames t; refine Stays.cut (t := t) ?_ (fun _ => ?_); (on_goal 1 => dsimp -zeta only [t]); (on_goal 2 => clear_value t))
    | (extract_lets +onlyGivenNames t; clear_value t)
    | split
    | intro _

theorem Stays.queueUE {z s a1} (h : Stays z s) : Stays z (State.queueUE s a1) := by
  unfold State.queueUE
  repeat' first
    | with_reducible assumption
    | with_reducible exact Stays.lit (by with_reducible assumption)
    | with_reducible apply Stays.eccNote
    | with_reducible apply Stays.drew
    | split
    | intro _
    | fail_if_no_progress (with_reducible apply Stays.lit)

theorem Stays.countMiss {z s a1 a2} (h : Stays z s) : Stays z (State.countMiss s a1 a2) := by
  unfold State.countMiss
  repeat' first
    | with_reducible assumption
    | with_reducible exact Stays.lit (by with_reducible assumption)
    | with_reducible apply Stays.modQueue
    | with_reducible apply Stays.bump
    | split
    | intro _
    | fail_if_no_progress (with_reducible apply Stays.lit)

theorem Stays.translate {z s q a b} (h : Stays z s) : Stays z (State.translate s q a b).2 := by
  unfold State.translate
  dsimp only
  split
  · with_reducible exact h
  · split
    · exact (Stays.lit h).atsFault
    · split
      · with_reducible exact h.atcUse.modQueue
      · with_reducible exact h.countMiss.requestTranslation

theorem Stays.loseRecord {z s a1 a2} (h : Stays z s) : Stays z (State.loseRecord s a1 a2) := by
  unfold State.loseRecord
  repeat' first
    | with_reducible assumption
    | with_reducible exact Stays.lit (by with_reducible assumption)
    | with_reducible apply Stays.setChn
    | with_reducible apply Stays.modPort
    | (extract_lets +onlyGivenNames t; refine Stays.cut (t := t) ?_ (fun _ => ?_); (on_goal 1 => dsimp -zeta only [t]); (on_goal 2 => clear_value t))
    | (extract_lets +onlyGivenNames t; clear_value t)
    | split
    | intro _
    | fail_if_no_progress (with_reducible apply Stays.lit)

theorem Stays.dropEntry {z s a1 a2} (h : Stays z s) : Stays z (State.dropEntry s a1 a2) := by
  unfold State.dropEntry
  repeat' first
    | with_reducible assumption
    | with_reducible exact Stays.lit (by with_reducible assumption)
    | with_reducible apply Stays.modQueue
    | with_reducible apply Stays.loseRecord
    | (extract_lets +onlyGivenNames t; refine Stays.cut (t := t) ?_ (fun _ => ?_); (on_goal 1 => dsimp -zeta only [t]); (on_goal 2 => clear_value t))
    | (extract_lets +onlyGivenNames t; clear_value t)
    | intro _
    | fail_if_no_progress (with_reducible apply Stays.lit)

theorem Stays.dropStagedInto {z s a1} (h : Stays z s) : Stays z (State.dropStagedInto s a1) := by
  unfold State.dropStagedInto
  repeat' first
    | with_reducible assumption
    | with_reducible exact Stays.lit (by with_reducible assumption)
    | with_reducible apply Stays.bumpBy
    | with_reducible apply Stays.raiseQue
    | (with_reducible refine Stays.foldl ?_ (fun _ _ _ => ?_))
    | (extract_lets +onlyGivenNames t; refine Stays.cut (t := t) ?_ (fun _ => ?_); (on_goal 1 => dsimp -zeta only [t]); (on_goal 2 => clear_value t))
    | (extract_lets +onlyGivenNames t; clear_value t)
    | split
    | intro _
    | fail_if_no_progress (with_reducible apply Stays.lit)

theorem Stays.stageEntry {z s a1 a2} (h : Stays z s) : Stays z (State.stageEntry s a1 a2) := by
  unfold State.stageEntry
  try dsimp only
  repeat' first
    | with_reducible assumption
    | with_reducible exact Stays.lit (by with_reducible assumption)
    | with_reducible apply Stays.bump
    | with_reducible apply Stays.raiseQue
    | with_reducible apply Stays.modQueue
    | with_reducible apply Stays.dropEntry
    | with_reducible apply Stays.leaveL1
    | with_reducible apply Stays.modPort
    | with_reducible apply Stays.bumpBy
    | with_reducible refine Stays.ite ?_ ?_
    | split
    | intro _
    | fail_if_no_progress (with_reducible apply Stays.lit)
    | (extract_lets +onlyGivenNames t; refine Stays.cut (t := t) ?_ (fun _ => ?_); (on_goal 1 => dsimp -zeta only [t]); (on_goal 2 => clear_value t))
    | (extract_lets +onlyGivenNames t; clear_value t)

theorem Stays.stageRecord {z s a1 a2 a3 a4 a5} (h : Stays z s) : Stays z (State.stageRecord s a1 a2 a3 a4 a5) := by
  unfold State.stageRecord
  repeat' first
    | with_reducible assumption
    | with_reducible exact Stays.lit (by with_reducible assumption)
    | with_reducible apply Stays.stageEntry
    | (extract_lets +onlyGivenNames t; refine Stays.cut (t := t) ?_ (fun _ => ?_); (on_goal 1 => dsimp -zeta only [t]); (on_goal 2 => clear_value t))
    | (extract_lets +onlyGivenNames t; clear_value t)
    | fail_if_no_progress (with_reducible apply Stays.lit)

theorem Stays.stageEvent {z s a1 a2 a3} (h : Stays z s) : Stays z (State.stageEvent s a1 a2 a3) := by
  unfold State.stageEvent
  repeat' first
    | with_reducible assumption
    | with_reducible exact Stays.lit (by with_reducible assumption)
    | with_reducible apply Stays.stageEntry
    | (extract_lets +onlyGivenNames t; refine Stays.cut (t := t) ?_ (fun _ => ?_); (on_goal 1 => dsimp -zeta only [t]); (on_goal 2 => clear_value t))
    | (extract_lets +onlyGivenNames t; clear_value t)
    | split
    | fail_if_no_progress (with_reducible apply Stays.lit)

theorem Stays.queueRefused {z s} (h : Stays z s) : Stays z (State.queueRefused s) := by
  unfold State.queueRefused
  repeat' first
    | with_reducible assumption
    | with_reducible apply Stays.raiseQue

theorem Stays.queueEnableOp {z s a1} (h : Stays z s) : Stays z (State.queueEnableOp s a1) := by
  unfold State.queueEnableOp
  repeat' first
    | with_reducible assumption
    | with_reducible exact Stays.lit (by with_reducible assumption)
    | with_reducible apply Stays.setQueue
    | with_reducible apply Stays.requestTranslation
    | with_reducible apply Stays.queueRefused
    | with_reducible apply Stays.translated
    | (extract_lets +onlyGivenNames t; refine Stays.cut (t := t) ?_ (fun _ => ?_); (on_goal 1 => dsimp -zeta only [t]); (on_goal 2 => clear_value t))
    | (extract_lets +onlyGivenNames t; clear_value t)
    | split
    | fail_if_no_progress (with_reducible apply Stays.lit)

theorem Stays.queueDisableOp {z s a1} (h : Stays z s) : Stays z (State.queueDisableOp s a1) := by
  unfold State.queueDisableOp
  repeat' first
    | with_reducible assumption
    | with_reducible exact Stays.lit (by with_reducible assumption)
    | with_reducible apply Stays.dropEntry
    | with_reducible apply Stays.modQueue
    | with_reducible apply Stays.canQueueGone
    | with_reducible apply Stays.raiseQue
    | with_reducible apply Stays.queueRefused
    | (with_reducible refine Stays.foldl ?_ (fun _ _ _ => ?_))
    | (extract_lets +onlyGivenNames t; refine Stays.cut (t := t) ?_ (fun _ => ?_); (on_goal 1 => dsimp -zeta only [t]); (on_goal 2 => clear_value t))
    | (extract_lets +onlyGivenNames t; clear_value t)
    | split
    | intro _
    | fail_if_no_progress (with_reducible apply Stays.lit)

theorem Stays.queueDrained {z s a1} (h : Stays z s) : Stays z (State.queueDrained s a1) := by
  unfold State.queueDrained
  repeat' first
    | with_reducible assumption
    | with_reducible exact Stays.lit (by with_reducible assumption)
    | with_reducible apply Stays.sinkTags
    | with_reducible apply Stays.modQueue
    | (extract_lets +onlyGivenNames t; refine Stays.cut (t := t) ?_ (fun _ => ?_); (on_goal 1 => dsimp -zeta only [t]); (on_goal 2 => clear_value t))
    | (extract_lets +onlyGivenNames t; clear_value t)
    | split
    | intro _
    | fail_if_no_progress (with_reducible apply Stays.lit)

theorem Stays.queueResetOp {z s a1} (h : Stays z s) : Stays z (State.queueResetOp s a1) := by
  unfold State.queueResetOp
  repeat' first
    | with_reducible assumption
    | with_reducible exact Stays.lit (by with_reducible assumption)
    | with_reducible apply Stays.modQueue
    | with_reducible apply Stays.queueRefused
    | (extract_lets +onlyGivenNames t; refine Stays.cut (t := t) ?_ (fun _ => ?_); (on_goal 1 => dsimp -zeta only [t]); (on_goal 2 => clear_value t))
    | (extract_lets +onlyGivenNames t; clear_value t)
    | split
    | intro _
    | fail_if_no_progress (with_reducible apply Stays.lit)

theorem Stays.queueFaultclrOp {z s a1} (h : Stays z s) : Stays z (State.queueFaultclrOp s a1) := by
  unfold State.queueFaultclrOp
  repeat' first
    | with_reducible assumption
    | with_reducible exact Stays.lit (by with_reducible assumption)
    | with_reducible apply Stays.modQueue
    | with_reducible apply Stays.queueRefused
    | (extract_lets +onlyGivenNames t; refine Stays.cut (t := t) ?_ (fun _ => ?_); (on_goal 1 => dsimp -zeta only [t]); (on_goal 2 => clear_value t))
    | (extract_lets +onlyGivenNames t; clear_value t)
    | split
    | intro _
    | fail_if_no_progress (with_reducible apply Stays.lit)

theorem Stays.queueCmd {z s a1} (h : Stays z s) : Stays z (State.queueCmd s a1) := by
  unfold State.queueCmd
  repeat' first
    | with_reducible assumption
    | with_reducible apply Stays.queueEnableOp
    | with_reducible apply Stays.queueDisableOp
    | with_reducible apply Stays.queueResetOp
    | with_reducible apply Stays.queueFaultclrOp
    | (extract_lets +onlyGivenNames t; refine Stays.cut (t := t) ?_ (fun _ => ?_); (on_goal 1 => dsimp -zeta only [t]); (on_goal 2 => clear_value t))
    | (extract_lets +onlyGivenNames t; clear_value t)
    | split

theorem Stays.killQueue {z s a1} (h : Stays z s) : Stays z (State.killQueue s a1) := by
  unfold State.killQueue
  repeat' first
    | with_reducible assumption
    | with_reducible exact Stays.lit (by with_reducible assumption)
    | with_reducible apply Stays.sinkTags
    | with_reducible apply Stays.modQueue
    | (extract_lets +onlyGivenNames t; refine Stays.cut (t := t) ?_ (fun _ => ?_); (on_goal 1 => dsimp -zeta only [t]); (on_goal 2 => clear_value t))
    | (extract_lets +onlyGivenNames t; clear_value t)
    | split
    | intro _
    | fail_if_no_progress (with_reducible apply Stays.lit)

theorem Stays.killQueues {z s} (h : Stays z s) : Stays z (State.killQueues s) := by
  unfold State.killQueues
  repeat' first
    | with_reducible assumption
    | with_reducible apply Stays.killQueue
    | (with_reducible refine Stays.foldl ?_ (fun _ _ _ => ?_))

theorem Stays.doorbellOp {z s a1 a2} (h : Stays z s) : Stays z (State.doorbellOp s a1 a2) := by
  unfold State.doorbellOp
  repeat' first
    | with_reducible assumption
    | with_reducible exact Stays.lit (by with_reducible assumption)
    | with_reducible apply Stays.raiseQue
    | with_reducible apply Stays.faultQueue
    | with_reducible apply Stays.setQueue
    | (extract_lets +onlyGivenNames t; refine Stays.cut (t := t) ?_ (fun _ => ?_); (on_goal 1 => dsimp -zeta only [t]); (on_goal 2 => clear_value t))
    | (extract_lets +onlyGivenNames t; clear_value t)
    | split
    | fail_if_no_progress (with_reducible apply Stays.lit)

theorem Stays.sendEntry {z s a1 a2 a3 a4} (h : Stays z s) : Stays z (State.sendEntry s a1 a2 a3 a4) := by
  unfold State.sendEntry
  repeat' first
    | with_reducible assumption
    | with_reducible exact Stays.lit (by with_reducible assumption)
    | with_reducible apply Stays.masterParity
    | with_reducible apply Stays.send
    | (extract_lets +onlyGivenNames t; refine Stays.cut (t := t) ?_ (fun _ => ?_); (on_goal 1 => dsimp -zeta only [t]); (on_goal 2 => clear_value t))
    | (extract_lets +onlyGivenNames t; clear_value t)
    | split
    | intro _
    | fail_if_no_progress (with_reducible apply Stays.lit)

theorem Stays.entryWritten {z s a1 a2 a3} (h : Stays z s) : Stays z (State.entryWritten s a1 a2 a3) := by
  unfold State.entryWritten
  repeat' first
    | with_reducible assumption
    | with_reducible exact Stays.lit (by with_reducible assumption)
    | with_reducible apply Stays.setQueue
    | with_reducible apply Stays.askAhead
    | with_reducible apply Stays.signalVector
    | with_reducible apply Stays.raiseQue
    | (extract_lets +onlyGivenNames t; refine Stays.cut (t := t) ?_ (fun _ => ?_); (on_goal 1 => dsimp -zeta only [t]); (on_goal 2 => clear_value t))
    | (extract_lets +onlyGivenNames t; clear_value t)
    | split
    | intro _
    | fail_if_no_progress (with_reducible apply Stays.lit)

theorem Stays.translate_eq {z s q a b x t} (h : Stays z s) (e : State.translate s q a b = (x, t)) : Stays z t := by
  have := h.translate (q := q) (a := a) (b := b); rw [e] at this; exact this

theorem Stays.writeEntry {z s a1 a2} (h : Stays z s) : Stays z (State.writeEntry s a1 a2) := by
  unfold State.writeEntry
  dsimp only
  repeat' first
    | with_reducible assumption
    | with_reducible apply Stays.faultQueue
    | with_reducible apply Stays.queueUE
    | with_reducible refine Stays.translate_eq ?_ (by with_reducible assumption)
    | with_reducible refine Stays.grantsAt ?_ (by with_reducible assumption)
    | with_reducible apply Stays.noteAsked
    | with_reducible apply Stays.entryWritten
    | with_reducible apply Stays.sendEntry
    | with_reducible apply Stays.raiseQue
    | with_reducible refine Stays.ite ?_ ?_
    | split

theorem Stays.fetchOp {z s a1 a2 a3 a4} (h : Stays z s) : Stays z (State.fetchOp s a1 a2 a3 a4) := by
  unfold State.fetchOp
  dsimp only
  repeat' first
    | with_reducible assumption
    | with_reducible apply Stays.faultQueue
    | with_reducible apply Stays.queueUE
    | with_reducible refine Stays.translate_eq ?_ (by with_reducible assumption)
    | with_reducible refine Stays.issueRead ?_ (by with_reducible assumption)
    | with_reducible apply Stays.issueWaits
    | with_reducible apply Stays.modQueue
    | split

theorem Stays.lockAcquire {z s n w} (h : Stays z s) : Stays z (State.lockAcquire s n w).2 := by
  unfold State.lockAcquire
  dsimp only
  split
  · with_reducible exact h
  · with_reducible exact h.setLock

theorem Stays.lockFree {z s a1} (h : Stays z s) : Stays z (State.lockFree s a1) := by
  unfold State.lockFree
  repeat' first
    | with_reducible assumption
    | with_reducible exact Stays.lit (by with_reducible assumption)
    | with_reducible apply Stays.setLock
    | (extract_lets +onlyGivenNames t; refine Stays.cut (t := t) ?_ (fun _ => ?_); (on_goal 1 => dsimp -zeta only [t]); (on_goal 2 => clear_value t))
    | (extract_lets +onlyGivenNames t; clear_value t)
    | fail_if_no_progress (with_reducible apply Stays.lit)

theorem Stays.lockWrite {z s a1 a2 a3} (h : Stays z s) : Stays z (State.lockWrite s a1 a2 a3) := by
  unfold State.lockWrite
  repeat' first
    | with_reducible assumption
    | with_reducible apply Stays.breakLock
    | with_reducible apply Stays.lockFree
    | with_reducible apply Stays.setBit
    | with_reducible apply Stays.wr
    | split

theorem Stays.noteIdle {z s} (h : Stays z s) : Stays z (State.noteIdle s) := by
  unfold State.noteIdle
  repeat' first
    | with_reducible assumption
    | with_reducible exact Stays.lit (by with_reducible assumption)
    | with_reducible apply Stays.setIsland
    | (with_reducible refine Stays.foldl ?_ (fun _ _ _ => ?_))
    | (extract_lets +onlyGivenNames t; refine Stays.cut (t := t) ?_ (fun _ => ?_); (on_goal 1 => dsimp -zeta only [t]); (on_goal 2 => clear_value t))
    | (extract_lets +onlyGivenNames t; clear_value t)
    | split
    | intro _
    | fail_if_no_progress (with_reducible apply Stays.lit)

theorem Stays.loseUnits {z s a1} (h : Stays z s) : Stays z (State.loseUnits s a1) := by
  unfold State.loseUnits
  split
  case h_4 =>
    refine Stays.lit ?_
    refine Stays.foldl h (fun t e ht => ?_)
    split
    · exact ht.loseRecord
    · exact ht
  all_goals
    repeat' first
      | with_reducible assumption
      | with_reducible exact Stays.lit (by with_reducible assumption)
      | with_reducible apply Stays.setPort
      | with_reducible apply Stays.setQuad
      | (with_reducible refine Stays.forAll ?_ (fun _ _ _ => ?_))
      | (extract_lets +onlyGivenNames t; refine Stays.cut (t := t) ?_ (fun _ => ?_); (on_goal 1 => dsimp -zeta only [t]); (on_goal 2 => clear_value t))
      | (extract_lets +onlyGivenNames t; clear_value t)
      | intro _
      | fail_if_no_progress (with_reducible apply Stays.lit)

theorem Stays.loseState {z s a1} (h : Stays z s) : Stays z (State.loseState s a1) := by
  unfold State.loseState
  repeat' first
    | with_reducible assumption
    | with_reducible apply Stays.loseUnits
    | with_reducible apply Stays.resetRegs

theorem Stays.initIsland {z s a1} (h : Stays z s) : Stays z (State.initIsland s a1) := by
  unfold State.initIsland
  repeat' first
    | with_reducible assumption
    | with_reducible exact Stays.lit (by with_reducible assumption)
    | with_reducible apply Stays.setBit
    | with_reducible apply Stays.forAll
    | with_reducible apply Stays.modPort
    | with_reducible apply Stays.fldInit
    | with_reducible apply Stays.setSe
    | with_reducible apply Stays.setFld
    | (with_reducible refine Stays.forAll ?_ (fun _ _ _ => ?_))
    | (extract_lets +onlyGivenNames t; refine Stays.cut (t := t) ?_ (fun _ => ?_); (on_goal 1 => dsimp -zeta only [t]); (on_goal 2 => clear_value t))
    | (extract_lets +onlyGivenNames t; clear_value t)
    | split
    | intro _
    | fail_if_no_progress (with_reducible apply Stays.lit)

theorem Stays.kickSeq {z s a1} (h : Stays z s) : Stays z (State.kickSeq s a1) := by
  unfold State.kickSeq
  repeat' first
    | with_reducible assumption
    | with_reducible exact Stays.lit (by with_reducible assumption)
    | with_reducible apply Stays.setIsland
    | (extract_lets +onlyGivenNames t; refine Stays.cut (t := t) ?_ (fun _ => ?_); (on_goal 1 => dsimp -zeta only [t]); (on_goal 2 => clear_value t))
    | (extract_lets +onlyGivenNames t; clear_value t)
    | split
    | fail_if_no_progress (with_reducible apply Stays.lit)

theorem Stays.replanPoints {z s} (h : Stays z s) : Stays z (State.replanPoints s) := by
  unfold State.replanPoints
  repeat' first
    | with_reducible assumption
    | with_reducible apply Stays.kickSeq
    | (with_reducible refine Stays.foldl ?_ (fun _ _ _ => ?_))

theorem Stays.endJobs {z s} (h : Stays z s) : Stays z (State.endJobs s) := by
  unfold State.endJobs
  repeat' first
    | with_reducible assumption
    | with_reducible exact Stays.lit (by with_reducible assumption)
    | with_reducible apply Stays.send
    | with_reducible apply Stays.aer
    | with_reducible apply Stays.jobReply
    | (with_reducible refine Stays.foldl ?_ (fun _ _ _ => ?_))
    | (extract_lets +onlyGivenNames t; refine Stays.cut (t := t) ?_ (fun _ => ?_); (on_goal 1 => dsimp -zeta only [t]); (on_goal 2 => clear_value t))
    | (extract_lets +onlyGivenNames t; clear_value t)
    | intro _
    | fail_if_no_progress (with_reducible apply Stays.lit)

theorem Stays.burstRefused {z s a1} (h : Stays z s) : Stays z (State.burstRefused s a1) := by
  unfold State.burstRefused
  repeat' first
    | with_reducible assumption
    | with_reducible exact Stays.lit (by with_reducible assumption)
    | with_reducible apply Stays.drew
    | with_reducible apply Stays.logAccess
    | with_reducible apply Stays.raiseCause
    | with_reducible apply Stays.aer
    | (extract_lets +onlyGivenNames t; refine Stays.cut (t := t) ?_ (fun _ => ?_); (on_goal 1 => dsimp -zeta only [t]); (on_goal 2 => clear_value t))
    | (extract_lets +onlyGivenNames t; clear_value t)
    | split
    | intro _
    | fail_if_no_progress (with_reducible apply Stays.lit)

theorem Stays.gatedTrafficEnd {z s a1} (h : Stays z s) : Stays z (State.gatedTrafficEnd s a1) := by
  unfold State.gatedTrafficEnd
  try dsimp only
  repeat' first
    | with_reducible assumption
    | with_reducible exact Stays.lit (by with_reducible assumption)
    | with_reducible apply Stays.accessRefused
    | with_reducible apply Stays.answerRefused
    | with_reducible apply Stays.endJobs
    | with_reducible apply Stays.burstRefused
    | (with_reducible refine Stays.foldl ?_ (fun _ _ _ => ?_))
    | with_reducible refine Stays.ite ?_ ?_
    | split
    | intro _
    | fail_if_no_progress (with_reducible apply Stays.lit)
    | (extract_lets +onlyGivenNames t; refine Stays.cut (t := t) ?_ (fun _ => ?_); (on_goal 1 => dsimp -zeta only [t]); (on_goal 2 => clear_value t))
    | (extract_lets +onlyGivenNames t; clear_value t)

theorem Stays.enterPower {z s a1 a2} (h : Stays z s) : Stays z (State.enterPower s a1 a2) := by
  unfold State.enterPower
  repeat' first
    | with_reducible assumption
    | with_reducible exact Stays.lit (by with_reducible assumption)
    | with_reducible apply Stays.setIsland
    | with_reducible apply Stays.loseState
    | with_reducible apply Stays.gatedTrafficEnd
    | (extract_lets +onlyGivenNames t; refine Stays.cut (t := t) ?_ (fun _ => ?_); (on_goal 1 => dsimp -zeta only [t]); (on_goal 2 => clear_value t))
    | (extract_lets +onlyGivenNames t; clear_value t)
    | split
    | fail_if_no_progress (with_reducible apply Stays.lit)

theorem Stays.sleepTo {z s a1 a2} (h : Stays z s) : Stays z (State.sleepTo s a1 a2) := by
  unfold State.sleepTo
  repeat' first
    | with_reducible assumption
    | with_reducible exact Stays.lit (by with_reducible assumption)
    | with_reducible apply Stays.enterPower
    | with_reducible apply Stays.setIsland
    | (extract_lets +onlyGivenNames t; refine Stays.cut (t := t) ?_ (fun _ => ?_); (on_goal 1 => dsimp -zeta only [t]); (on_goal 2 => clear_value t))
    | (extract_lets +onlyGivenNames t; clear_value t)
    | split
    | fail_if_no_progress (with_reducible apply Stays.lit)

theorem Stays.sleepIdle {z s a1} (h : Stays z s) : Stays z (State.sleepIdle s a1) := by
  unfold State.sleepIdle
  repeat' first
    | with_reducible assumption
    | with_reducible apply Stays.sleepTo
    | split

theorem Stays.islandEnabled {z s a1} (h : Stays z s) : Stays z (State.islandEnabled s a1) := by
  unfold State.islandEnabled
  repeat' first
    | with_reducible assumption
    | with_reducible exact Stays.lit (by with_reducible assumption)
    | with_reducible apply Stays.setIsland
    | (extract_lets +onlyGivenNames t; refine Stays.cut (t := t) ?_ (fun _ => ?_); (on_goal 1 => dsimp -zeta only [t]); (on_goal 2 => clear_value t))
    | (extract_lets +onlyGivenNames t; clear_value t)
    | split
    | fail_if_no_progress (with_reducible apply Stays.lit)

theorem Stays.islandDisabled {z s a1} (h : Stays z s) : Stays z (State.islandDisabled s a1) := by
  unfold State.islandDisabled
  repeat' first
    | with_reducible assumption
    | with_reducible apply Stays.sleepTo
    | with_reducible apply Stays.gatedTrafficEnd

theorem Stays.plinthEnable {z s a1} (h : Stays z s) : Stays z (State.plinthEnable s a1) := by
  unfold State.plinthEnable
  repeat' first
    | with_reducible assumption
    | with_reducible apply Stays.islandEnabled
    | with_reducible apply Stays.setBit

theorem Stays.plinthDisable {z s a1} (h : Stays z s) : Stays z (State.plinthDisable s a1) := by
  unfold State.plinthDisable
  repeat' first
    | with_reducible assumption
    | with_reducible apply Stays.islandDisabled
    | with_reducible apply Stays.setBit

theorem Stays.writeEnables {z s a1} (h : Stays z s) : Stays z (State.writeEnables s a1) := by
  unfold State.writeEnables
  repeat' first
    | with_reducible assumption
    | with_reducible apply Stays.wr
    | with_reducible apply Stays.enableRefused
    | with_reducible apply Stays.islandEnabled
    | with_reducible apply Stays.islandDisabled
    | (with_reducible refine Stays.foldl ?_ (fun _ _ _ => ?_))
    | (extract_lets +onlyGivenNames t; refine Stays.cut (t := t) ?_ (fun _ => ?_); (on_goal 1 => dsimp -zeta only [t]); (on_goal 2 => clear_value t))
    | (extract_lets +onlyGivenNames t; clear_value t)
    | split
    | intro _

theorem Stays.forcePower {z s a1} (h : Stays z s) : Stays z (State.forcePower s a1) := by
  unfold State.forcePower
  dsimp only
  split
  · exact h.enableRefused
  · exact h
  · split
    · split
      · exact Stays.setIsland (Stays.sleepTo (Stays.lit h.modIsland))
      · exact Stays.sleepTo (Stays.lit h.modIsland)
    · exact Stays.wake (Stays.lit h.modIsland)
    · split
      · exact Stays.wake (Stays.lit h.modIsland)
      · split
        · exact Stays.wake (Stays.lit h.modIsland)
        · exact Stays.lit h.modIsland

theorem Stays.islandReset {z s a1} (h : Stays z s) : Stays z (State.islandReset s a1) := by
  unfold State.islandReset
  repeat' first
    | with_reducible assumption
    | with_reducible exact Stays.lit (by with_reducible assumption)
    | with_reducible apply Stays.enableRefused
    | with_reducible apply Stays.setBit
    | with_reducible apply Stays.sleepTo
    | with_reducible apply Stays.modIsland
    | (extract_lets +onlyGivenNames t; refine Stays.cut (t := t) ?_ (fun _ => ?_); (on_goal 1 => dsimp -zeta only [t]); (on_goal 2 => clear_value t))
    | (extract_lets +onlyGivenNames t; clear_value t)
    | split
    | intro _
    | fail_if_no_progress (with_reducible apply Stays.lit)

theorem Stays.veCount {z s a1 a2 a3} (h : Stays z s) : Stays z (State.veCount s a1 a2 a3) := by
  unfold State.veCount
  repeat' first
    | with_reducible assumption
    | with_reducible exact Stays.lit (by with_reducible assumption)
    | with_reducible apply Stays.setVe
    | (extract_lets +onlyGivenNames t; refine Stays.cut (t := t) ?_ (fun _ => ?_); (on_goal 1 => dsimp -zeta only [t]); (on_goal 2 => clear_value t))
    | (extract_lets +onlyGivenNames t; clear_value t)
    | split
    | fail_if_no_progress (with_reducible apply Stays.lit)

theorem Stays.hsSend {z s a1 a2} (h : Stays z s) : Stays z (State.hsSend s a1 a2) := by
  unfold State.hsSend
  repeat' first
    | with_reducible assumption
    | with_reducible exact Stays.lit (by with_reducible assumption)
    | with_reducible apply Stays.setHs
    | (extract_lets +onlyGivenNames t; refine Stays.cut (t := t) ?_ (fun _ => ?_); (on_goal 1 => dsimp -zeta only [t]); (on_goal 2 => clear_value t))
    | (extract_lets +onlyGivenNames t; clear_value t)
    | split
    | fail_if_no_progress (with_reducible apply Stays.lit)

end Sys2Proof.Machine
end

