-- ==== Sys2Proof/Laws/StaysOps2.lean ====
section
/-!
SUPPORT. What no operation changes (see Laws/Stays.lean), part 2 of 4: one lemma per operation, an operation after those it
calls, from State.sendEstimate to State.wrapEnd.
-/

namespace Sys2Proof.Machine

set_option maxRecDepth 20000
set_option linter.unusedTactic false
set_option linter.unreachableTactic false
set_option linter.unusedVariables false
set_option linter.tactic.unusedName false

theorem Stays.sendEstimate {z s a1} (h : Stays z s) : Stays z (State.sendEstimate s a1) := by
  unfold State.sendEstimate
  repeat' first
    | with_reducible assumption
    | with_reducible exact Stays.lit (by with_reducible assumption)
    | with_reducible apply Stays.hsSend
    | (with_reducible refine Stays.foldl ?_ (fun _ _ _ => ?_))
    | (extract_lets +onlyGivenNames t; refine Stays.cut (t := t) ?_ (fun _ => ?_); (on_goal 1 => dsimp -zeta only [t]); (on_goal 2 => clear_value t))
    | (extract_lets +onlyGivenNames t; clear_value t)
    | split
    | intro _
    | fail_if_no_progress (with_reducible apply Stays.lit)

theorem Stays.veSource {z s a1 a2 a3} (h : Stays z s) : Stays z (State.veSource s a1 a2 a3) := by
  unfold State.veSource
  repeat' first
    | with_reducible assumption
    | with_reducible exact Stays.lit (by with_reducible assumption)
    | with_reducible apply Stays.sendEstimate
    | with_reducible apply Stays.veCount
    | with_reducible apply Stays.setVe
    | (extract_lets +onlyGivenNames t; refine Stays.cut (t := t) ?_ (fun _ => ?_); (on_goal 1 => dsimp -zeta only [t]); (on_goal 2 => clear_value t))
    | (extract_lets +onlyGivenNames t; clear_value t)
    | split
    | fail_if_no_progress (with_reducible apply Stays.lit)

theorem Stays.sourceCount {z s a1 a2 a3 a4} (h : Stays z s) : Stays z (State.sourceCount s a1 a2 a3 a4) := by
  unfold State.sourceCount
  repeat' first
    | with_reducible assumption
    | with_reducible apply Stays.forAll
    | with_reducible apply Stays.veSource
    | (with_reducible refine Stays.forAll ?_ (fun _ _ _ => ?_))
    | (extract_lets +onlyGivenNames t; refine Stays.cut (t := t) ?_ (fun _ => ?_); (on_goal 1 => dsimp -zeta only [t]); (on_goal 2 => clear_value t))
    | (extract_lets +onlyGivenNames t; clear_value t)
    | split
    | intro _

theorem Stays.veReference {z s a1 a2} (h : Stays z s) : Stays z (State.veReference s a1 a2) := by
  unfold State.veReference
  repeat' first
    | with_reducible assumption
    | with_reducible exact Stays.lit (by with_reducible assumption)
    | with_reducible apply Stays.setVe
    | with_reducible apply Stays.setBit
    | (extract_lets +onlyGivenNames t; refine Stays.cut (t := t) ?_ (fun _ => ?_); (on_goal 1 => dsimp -zeta only [t]); (on_goal 2 => clear_value t))
    | (extract_lets +onlyGivenNames t; clear_value t)
    | split
    | fail_if_no_progress (with_reducible apply Stays.lit)

theorem Stays.references {z s a1 a2 a3} (h : Stays z s) : Stays z (State.references s a1 a2 a3) := by
  unfold State.references
  repeat' first
    | with_reducible assumption
    | with_reducible apply Stays.forAll
    | with_reducible apply Stays.veReference
    | (with_reducible refine Stays.forAll ?_ (fun _ _ _ => ?_))
    | (extract_lets +onlyGivenNames t; refine Stays.cut (t := t) ?_ (fun _ => ?_); (on_goal 1 => dsimp -zeta only [t]); (on_goal 2 => clear_value t))
    | (extract_lets +onlyGivenNames t; clear_value t)
    | split
    | intro _

theorem Stays.seRun {z s a1 a2} (h : Stays z s) : Stays z (State.seRun s a1 a2) := by
  unfold State.seRun
  repeat' first
    | with_reducible assumption
    | with_reducible exact Stays.lit (by with_reducible assumption)
    | with_reducible apply Stays.setSe
    | (extract_lets +onlyGivenNames t; refine Stays.cut (t := t) ?_ (fun _ => ?_); (on_goal 1 => dsimp -zeta only [t]); (on_goal 2 => clear_value t))
    | (extract_lets +onlyGivenNames t; clear_value t)
    | split
    | intro _
    | fail_if_no_progress (with_reducible apply Stays.lit)

theorem Stays.setInterval {z s a1 a2} (h : Stays z s) : Stays z (State.setInterval s a1 a2) := by
  unfold State.setInterval
  repeat' first
    | with_reducible assumption
    | with_reducible exact Stays.lit (by with_reducible assumption)
    | with_reducible apply Stays.setSe
    | with_reducible apply Stays.seRun
    | (extract_lets +onlyGivenNames t; refine Stays.cut (t := t) ?_ (fun _ => ?_); (on_goal 1 => dsimp -zeta only [t]); (on_goal 2 => clear_value t))
    | (extract_lets +onlyGivenNames t; clear_value t)
    | split
    | fail_if_no_progress (with_reducible apply Stays.lit)

theorem Stays.noteSlips {z s} (h : Stays z s) : Stays z (State.noteSlips s) := by
  unfold State.noteSlips
  repeat' first
    | with_reducible assumption
    | with_reducible exact Stays.lit (by with_reducible assumption)
    | (with_reducible refine Stays.forAll ?_ (fun _ _ _ => ?_))
    | split
    | intro _
    | fail_if_no_progress (with_reducible apply Stays.lit)

theorem Stays.idleDrive {z s a1} (h : Stays z s) : Stays z (State.idleDrive s a1) := by
  unfold State.idleDrive
  repeat' first
    | with_reducible assumption
    | with_reducible exact Stays.lit (by with_reducible assumption)
    | with_reducible apply Stays.modPort
    | (extract_lets +onlyGivenNames t; refine Stays.cut (t := t) ?_ (fun _ => ?_); (on_goal 1 => dsimp -zeta only [t]); (on_goal 2 => clear_value t))
    | (extract_lets +onlyGivenNames t; clear_value t)
    | split
    | intro _
    | fail_if_no_progress (with_reducible apply Stays.lit)

theorem Stays.raiseHp {z s a1 a2} (h : Stays z s) : Stays z (State.raiseHp s a1 a2) := by
  unfold State.raiseHp
  repeat' first
    | with_reducible assumption
    | with_reducible apply Stays.raiseBit
    | with_reducible apply Stays.stageEvent
    | (extract_lets +onlyGivenNames t; refine Stays.cut (t := t) ?_ (fun _ => ?_); (on_goal 1 => dsimp -zeta only [t]); (on_goal 2 => clear_value t))
    | (extract_lets +onlyGivenNames t; clear_value t)

theorem Stays.sendRecord {z s a1 a2 a3 a4} (h : Stays z s) : Stays z (State.sendRecord s a1 a2 a3 a4) := by
  unfold State.sendRecord
  try dsimp only
  repeat' first
    | with_reducible assumption
    | with_reducible exact Stays.lit (by with_reducible assumption)
    | with_reducible apply Stays.loseRecord
    | with_reducible apply Stays.hsSend
    | with_reducible refine Stays.ite ?_ ?_
    | split
    | fail_if_no_progress (with_reducible apply Stays.lit)
    | (extract_lets +onlyGivenNames t; refine Stays.cut (t := t) ?_ (fun _ => ?_); (on_goal 1 => dsimp -zeta only [t]); (on_goal 2 => clear_value t))
    | (extract_lets +onlyGivenNames t; clear_value t)

theorem Stays.closeGap {z s a1 a2} (h : Stays z s) : Stays z (State.closeGap s a1 a2) := by
  unfold State.closeGap
  repeat' first
    | with_reducible assumption
    | with_reducible exact Stays.lit (by with_reducible assumption)
    | with_reducible apply Stays.modPort
    | with_reducible apply Stays.stageRecord
    | with_reducible apply Stays.sendRecord
    | (extract_lets +onlyGivenNames t; refine Stays.cut (t := t) ?_ (fun _ => ?_); (on_goal 1 => dsimp -zeta only [t]); (on_goal 2 => clear_value t))
    | (extract_lets +onlyGivenNames t; clear_value t)
    | split
    | intro _
    | fail_if_no_progress (with_reducible apply Stays.lit)

theorem Stays.missFire {z s a1 a2 a3 a4} (h : Stays z s) : Stays z (State.missFire s a1 a2 a3 a4) := by
  unfold State.missFire
  repeat' first
    | with_reducible assumption
    | with_reducible exact Stays.lit (by with_reducible assumption)
    | with_reducible apply Stays.closeGap
    | with_reducible apply Stays.modPort
    | with_reducible apply Stays.raiseHp
    | (extract_lets +onlyGivenNames t; refine Stays.cut (t := t) ?_ (fun _ => ?_); (on_goal 1 => dsimp -zeta only [t]); (on_goal 2 => clear_value t))
    | (extract_lets +onlyGivenNames t; clear_value t)
    | split
    | intro _
    | fail_if_no_progress (with_reducible apply Stays.lit)

theorem Stays.makeFire {z s a1 a2 a3 a4 a5 a6 a7} (h : Stays z s) : Stays z (State.makeFire s a1 a2 a3 a4 a5 a6 a7) := by
  unfold State.makeFire
  repeat' first
    | with_reducible assumption
    | with_reducible exact Stays.lit (by with_reducible assumption)
    | with_reducible apply Stays.closeGap
    | with_reducible apply Stays.bump
    | with_reducible apply Stays.modPort
    | (extract_lets +onlyGivenNames t; refine Stays.cut (t := t) ?_ (fun _ => ?_); (on_goal 1 => dsimp -zeta only [t]); (on_goal 2 => clear_value t))
    | (extract_lets +onlyGivenNames t; clear_value t)
    | split
    | intro _
    | fail_if_no_progress (with_reducible apply Stays.lit)

theorem Stays.countQuiesced {z s a1 a2} (h : Stays z s) : Stays z (State.countQuiesced s a1 a2) := by
  unfold State.countQuiesced
  repeat' first
    | with_reducible assumption
    | with_reducible exact Stays.lit (by with_reducible assumption)
    | with_reducible apply Stays.modPort
    | (extract_lets +onlyGivenNames t; refine Stays.cut (t := t) ?_ (fun _ => ?_); (on_goal 1 => dsimp -zeta only [t]); (on_goal 2 => clear_value t))
    | (extract_lets +onlyGivenNames t; clear_value t)
    | split
    | intro _
    | fail_if_no_progress (with_reducible apply Stays.lit)

theorem Stays.freeze {z s a1 a2} (h : Stays z s) : Stays z (State.freeze s a1 a2) := by
  unfold State.freeze
  repeat' first
    | with_reducible assumption
    | with_reducible exact Stays.lit (by with_reducible assumption)
    | with_reducible apply Stays.modPort
    | with_reducible apply Stays.countQuiesced
    | with_reducible apply Stays.missFire
    | with_reducible apply Stays.closeGap
    | with_reducible apply Stays.makeFire
    | (extract_lets +onlyGivenNames t; refine Stays.cut (t := t) ?_ (fun _ => ?_); (on_goal 1 => dsimp -zeta only [t]); (on_goal 2 => clear_value t))
    | (extract_lets +onlyGivenNames t; clear_value t)
    | split
    | intro _
    | fail_if_no_progress (with_reducible apply Stays.lit)

theorem Stays.fireEdgeOp {z s a1} (h : Stays z s) : Stays z (State.fireEdgeOp s a1) := by
  unfold State.fireEdgeOp
  repeat' first
    | with_reducible assumption
    | with_reducible exact Stays.lit (by with_reducible assumption)
    | with_reducible apply Stays.sendRecord
    | with_reducible apply Stays.setPort
    | (extract_lets +onlyGivenNames t; refine Stays.cut (t := t) ?_ (fun _ => ?_); (on_goal 1 => dsimp -zeta only [t]); (on_goal 2 => clear_value t))
    | (extract_lets +onlyGivenNames t; clear_value t)
    | split
    | intro _
    | fail_if_no_progress (with_reducible apply Stays.lit)

theorem Stays.triggerEndOp {z s a1} (h : Stays z s) : Stays z (State.triggerEndOp s a1) := by
  unfold State.triggerEndOp
  repeat' first
    | with_reducible assumption
    | with_reducible exact Stays.lit (by with_reducible assumption)
    | with_reducible apply Stays.modPort
    | (extract_lets +onlyGivenNames t; refine Stays.cut (t := t) ?_ (fun _ => ?_); (on_goal 1 => dsimp -zeta only [t]); (on_goal 2 => clear_value t))
    | (extract_lets +onlyGivenNames t; clear_value t)
    | intro _
    | fail_if_no_progress (with_reducible apply Stays.lit)

theorem Stays.strobeOnOp {z s a1} (h : Stays z s) : Stays z (State.strobeOnOp s a1) := by
  unfold State.strobeOnOp
  repeat' first
    | with_reducible assumption
    | with_reducible exact Stays.lit (by with_reducible assumption)
    | with_reducible apply Stays.modPort
    | (extract_lets +onlyGivenNames t; refine Stays.cut (t := t) ?_ (fun _ => ?_); (on_goal 1 => dsimp -zeta only [t]); (on_goal 2 => clear_value t))
    | (extract_lets +onlyGivenNames t; clear_value t)
    | split
    | intro _
    | fail_if_no_progress (with_reducible apply Stays.lit)

theorem Stays.strobeOffOp {z s a1} (h : Stays z s) : Stays z (State.strobeOffOp s a1) := by
  unfold State.strobeOffOp
  repeat' first
    | with_reducible assumption
    | with_reducible exact Stays.lit (by with_reducible assumption)
    | with_reducible apply Stays.modPort
    | (extract_lets +onlyGivenNames t; refine Stays.cut (t := t) ?_ (fun _ => ?_); (on_goal 1 => dsimp -zeta only [t]); (on_goal 2 => clear_value t))
    | (extract_lets +onlyGivenNames t; clear_value t)
    | intro _
    | fail_if_no_progress (with_reducible apply Stays.lit)

theorem Stays.raiseCut {z s a1 a2} (h : Stays z s) : Stays z (State.raiseCut s a1 a2) := by
  unfold State.raiseCut
  repeat' first
    | with_reducible assumption
    | with_reducible exact Stays.lit (by with_reducible assumption)
    | with_reducible apply Stays.raiseHp
    | split
    | intro _
    | fail_if_no_progress (with_reducible apply Stays.lit)

theorem Stays.cutTrg {z s a1} (h : Stays z s) : Stays z (State.cutTrg s a1) := by
  unfold State.cutTrg
  repeat' first
    | with_reducible assumption
    | with_reducible exact Stays.lit (by with_reducible assumption)
    | with_reducible apply Stays.raiseHp
    | with_reducible apply Stays.modPort
    | with_reducible apply Stays.raiseCut
    | (extract_lets +onlyGivenNames t; refine Stays.cut (t := t) ?_ (fun _ => ?_); (on_goal 1 => dsimp -zeta only [t]); (on_goal 2 => clear_value t))
    | (extract_lets +onlyGivenNames t; clear_value t)
    | split
    | intro _
    | fail_if_no_progress (with_reducible apply Stays.lit)

theorem Stays.cutStb {z s a1} (h : Stays z s) : Stays z (State.cutStb s a1) := by
  unfold State.cutStb
  repeat' first
    | with_reducible assumption
    | with_reducible exact Stays.lit (by with_reducible assumption)
    | with_reducible apply Stays.raiseHp
    | with_reducible apply Stays.modPort
    | with_reducible apply Stays.raiseCut
    | (extract_lets +onlyGivenNames t; refine Stays.cut (t := t) ?_ (fun _ => ?_); (on_goal 1 => dsimp -zeta only [t]); (on_goal 2 => clear_value t))
    | (extract_lets +onlyGivenNames t; clear_value t)
    | split
    | intro _
    | fail_if_no_progress (with_reducible apply Stays.lit)

theorem Stays.directDrive {z s a1} (h : Stays z s) : Stays z (State.directDrive s a1) := by
  unfold State.directDrive
  repeat' first
    | with_reducible assumption
    | with_reducible exact Stays.lit (by with_reducible assumption)
    | with_reducible apply Stays.modPort
    | (extract_lets +onlyGivenNames t; refine Stays.cut (t := t) ?_ (fun _ => ?_); (on_goal 1 => dsimp -zeta only [t]); (on_goal 2 => clear_value t))
    | (extract_lets +onlyGivenNames t; clear_value t)
    | split
    | intro _
    | fail_if_no_progress (with_reducible apply Stays.lit)

theorem Stays.unpower {z s a1 a2} (h : Stays z s) : Stays z (State.unpower s a1 a2) := by
  unfold State.unpower
  repeat' first
    | with_reducible assumption
    | with_reducible exact Stays.lit (by with_reducible assumption)
    | with_reducible apply Stays.modPort
    | (extract_lets +onlyGivenNames t; refine Stays.cut (t := t) ?_ (fun _ => ?_); (on_goal 1 => dsimp -zeta only [t]); (on_goal 2 => clear_value t))
    | (extract_lets +onlyGivenNames t; clear_value t)
    | split
    | intro _
    | fail_if_no_progress (with_reducible apply Stays.lit)

theorem Stays.powerRequest {z s a1} (h : Stays z s) : Stays z (State.powerRequest s a1) := by
  unfold State.powerRequest
  repeat' first
    | with_reducible assumption
    | with_reducible exact Stays.lit (by with_reducible assumption)
    | with_reducible apply Stays.setBit
    | with_reducible apply Stays.modPort
    | (extract_lets +onlyGivenNames t; refine Stays.cut (t := t) ?_ (fun _ => ?_); (on_goal 1 => dsimp -zeta only [t]); (on_goal 2 => clear_value t))
    | (extract_lets +onlyGivenNames t; clear_value t)
    | split
    | intro _
    | fail_if_no_progress (with_reducible apply Stays.lit)

theorem Stays.powerDrop {z s a1} (h : Stays z s) : Stays z (State.powerDrop s a1) := by
  unfold State.powerDrop
  repeat' first
    | with_reducible assumption
    | with_reducible apply Stays.unpower
    | split

theorem Stays.powerFault {z s a1} (h : Stays z s) : Stays z (State.powerFault s a1) := by
  unfold State.powerFault
  repeat' first
    | with_reducible assumption
    | with_reducible apply Stays.raiseHp
    | with_reducible apply Stays.setBit
    | with_reducible apply Stays.unpower

theorem Stays.masterEnable {z s a1 a2} (h : Stays z s) : Stays z (State.masterEnable s a1 a2) := by
  unfold State.masterEnable
  repeat' first
    | with_reducible assumption
    | with_reducible exact Stays.lit (by with_reducible assumption)
    | with_reducible apply Stays.setQuad
    | with_reducible apply Stays.forAll
    | with_reducible apply Stays.powerRequest
    | with_reducible apply Stays.powerDrop
    | (with_reducible refine Stays.forAll ?_ (fun _ _ _ => ?_))
    | (extract_lets +onlyGivenNames t; refine Stays.cut (t := t) ?_ (fun _ => ?_); (on_goal 1 => dsimp -zeta only [t]); (on_goal 2 => clear_value t))
    | (extract_lets +onlyGivenNames t; clear_value t)
    | split
    | intro _
    | fail_if_no_progress (with_reducible apply Stays.lit)

theorem Stays.loseQuadRecords {z s a1} (h : Stays z s) : Stays z (State.loseQuadRecords s a1) := by
  unfold State.loseQuadRecords
  repeat' first
    | with_reducible assumption
    | with_reducible apply Stays.bumpBy
    | with_reducible apply Stays.setHs
    | (extract_lets +onlyGivenNames t; refine Stays.cut (t := t) ?_ (fun _ => ?_); (on_goal 1 => dsimp -zeta only [t]); (on_goal 2 => clear_value t))
    | (extract_lets +onlyGivenNames t; clear_value t)

theorem Stays.quadSelfReset {z s a1} (h : Stays z s) : Stays z (State.quadSelfReset s a1) := by
  unfold State.quadSelfReset
  repeat' first
    | with_reducible assumption
    | with_reducible exact Stays.lit (by with_reducible assumption)
    | with_reducible apply Stays.setBit
    | with_reducible apply Stays.setFld
    | with_reducible apply Stays.enterPower
    | with_reducible apply Stays.modIsland
    | (extract_lets +onlyGivenNames t; refine Stays.cut (t := t) ?_ (fun _ => ?_); (on_goal 1 => dsimp -zeta only [t]); (on_goal 2 => clear_value t))
    | (extract_lets +onlyGivenNames t; clear_value t)
    | intro _
    | fail_if_no_progress (with_reducible apply Stays.lit)

theorem Stays.losePort {z s a1} (h : Stays z s) : Stays z (State.losePort s a1) := by
  unfold State.losePort
  repeat' first
    | with_reducible assumption
    | with_reducible exact Stays.lit (by with_reducible assumption)
    | with_reducible apply Stays.modPort
    | with_reducible apply Stays.missFire
    | (with_reducible refine Stays.foldl ?_ (fun _ _ _ => ?_))
    | (extract_lets +onlyGivenNames t; refine Stays.cut (t := t) ?_ (fun _ => ?_); (on_goal 1 => dsimp -zeta only [t]); (on_goal 2 => clear_value t))
    | (extract_lets +onlyGivenNames t; clear_value t)
    | split
    | intro _
    | fail_if_no_progress (with_reducible apply Stays.lit)

theorem Stays.quadFaultOp {z s a1 a2} (h : Stays z s) : Stays z (State.quadFaultOp s a1 a2) := by
  unfold State.quadFaultOp
  repeat' first
    | with_reducible assumption
    | with_reducible exact Stays.lit (by with_reducible assumption)
    | with_reducible apply Stays.loseQuadRecords
    | with_reducible apply Stays.wr
    | with_reducible apply Stays.forAll
    | with_reducible apply Stays.modPort
    | with_reducible apply Stays.setQuad
    | with_reducible apply Stays.raise
    | with_reducible apply Stays.enterPower
    | with_reducible apply Stays.modIsland
    | with_reducible apply Stays.setFld
    | with_reducible apply Stays.quadSelfReset
    | with_reducible apply Stays.losePort
    | (with_reducible refine Stays.forAll ?_ (fun _ _ _ => ?_))
    | (extract_lets +onlyGivenNames t; refine Stays.cut (t := t) ?_ (fun _ => ?_); (on_goal 1 => dsimp -zeta only [t]); (on_goal 2 => clear_value t))
    | (extract_lets +onlyGivenNames t; clear_value t)
    | split
    | intro _
    | fail_if_no_progress (with_reducible apply Stays.lit)

theorem Stays.quiesceChan {z s a1 a2} (h : Stays z s) : Stays z (State.quiesceChan s a1 a2) := by
  unfold State.quiesceChan
  repeat' first
    | with_reducible assumption
    | with_reducible exact Stays.lit (by with_reducible assumption)
    | with_reducible apply Stays.setChn
    | with_reducible apply Stays.closeGap
    | (with_reducible refine Stays.foldl ?_ (fun _ _ _ => ?_))
    | (extract_lets +onlyGivenNames t; refine Stays.cut (t := t) ?_ (fun _ => ?_); (on_goal 1 => dsimp -zeta only [t]); (on_goal 2 => clear_value t))
    | (extract_lets +onlyGivenNames t; clear_value t)
    | split
    | intro _
    | fail_if_no_progress (with_reducible apply Stays.lit)

theorem Stays.resumeChan {z s a1} (h : Stays z s) : Stays z (State.resumeChan s a1) := by
  unfold State.resumeChan
  repeat' first
    | with_reducible assumption
    | with_reducible exact Stays.lit (by with_reducible assumption)
    | with_reducible apply Stays.setChn
    | with_reducible apply Stays.sendRecord
    | with_reducible apply Stays.modPort
    | (with_reducible refine Stays.foldl ?_ (fun _ _ _ => ?_))
    | (extract_lets +onlyGivenNames t; refine Stays.cut (t := t) ?_ (fun _ => ?_); (on_goal 1 => dsimp -zeta only [t]); (on_goal 2 => clear_value t))
    | (extract_lets +onlyGivenNames t; clear_value t)
    | split
    | intro _
    | fail_if_no_progress (with_reducible apply Stays.lit)

theorem Stays.discardRecords {z s a1} (h : Stays z s) : Stays z (State.discardRecords s a1) := by
  unfold State.discardRecords
  repeat' first
    | with_reducible assumption
    | with_reducible exact Stays.lit (by with_reducible assumption)
    | with_reducible apply Stays.forAll
    | with_reducible apply Stays.setHs
    | (with_reducible refine Stays.forAll ?_ (fun _ _ _ => ?_))
    | (extract_lets +onlyGivenNames t; refine Stays.cut (t := t) ?_ (fun _ => ?_); (on_goal 1 => dsimp -zeta only [t]); (on_goal 2 => clear_value t))
    | (extract_lets +onlyGivenNames t; clear_value t)
    | intro _
    | fail_if_no_progress (with_reducible apply Stays.lit)

theorem Stays.endChan {z s a1 a2} (h : Stays z s) : Stays z (State.endChan s a1 a2) := by
  unfold State.endChan
  repeat' first
    | with_reducible assumption
    | with_reducible exact Stays.lit (by with_reducible assumption)
    | with_reducible apply Stays.killQueue
    | with_reducible apply Stays.discardRecords
    | with_reducible apply Stays.breakLocks
    | with_reducible apply Stays.setChn
    | with_reducible apply Stays.setPort
    | (with_reducible refine Stays.foldl ?_ (fun _ _ _ => ?_))
    | (extract_lets +onlyGivenNames t; refine Stays.cut (t := t) ?_ (fun _ => ?_); (on_goal 1 => dsimp -zeta only [t]); (on_goal 2 => clear_value t))
    | (extract_lets +onlyGivenNames t; clear_value t)
    | split
    | intro _
    | fail_if_no_progress (with_reducible apply Stays.lit)

theorem Stays.idlePorts {z s a1} (h : Stays z s) : Stays z (State.idlePorts s a1) := by
  unfold State.idlePorts
  repeat' first
    | with_reducible assumption
    | with_reducible apply Stays.idleDrive
    | (with_reducible refine Stays.foldl ?_ (fun _ _ _ => ?_))
    | split
    | intro _

theorem Stays.bookOne {z s a1 a2} (h : Stays z s) : Stays z (State.bookOne s a1 a2) := by
  unfold State.bookOne
  repeat' first
    | with_reducible assumption
    | with_reducible exact Stays.lit (by with_reducible assumption)
    | (extract_lets +onlyGivenNames t; refine Stays.cut (t := t) ?_ (fun _ => ?_); (on_goal 1 => dsimp -zeta only [t]); (on_goal 2 => clear_value t))
    | (extract_lets +onlyGivenNames t; clear_value t)
    | fail_if_no_progress (with_reducible apply Stays.lit)

theorem Stays.book {z s a1 a2} (h : Stays z s) : Stays z (State.book s a1 a2) := by
  unfold State.book
  repeat' first
    | with_reducible assumption
    | with_reducible exact Stays.lit (by with_reducible assumption)
    | with_reducible apply Stays.bookOne
    | (extract_lets +onlyGivenNames t; refine Stays.cut (t := t) ?_ (fun _ => ?_); (on_goal 1 => dsimp -zeta only [t]); (on_goal 2 => clear_value t))
    | (extract_lets +onlyGivenNames t; clear_value t)
    | split
    | fail_if_no_progress (with_reducible apply Stays.lit)

theorem Stays.bookTick {z s} (h : Stays z s) : Stays z (State.bookTick s) := by
  unfold State.bookTick
  repeat' first
    | with_reducible assumption
    | with_reducible apply Stays.book
    | with_reducible apply Stays.forAll
    | (with_reducible refine Stays.forAll ?_ (fun _ _ _ => ?_))
    | (extract_lets +onlyGivenNames t; refine Stays.cut (t := t) ?_ (fun _ => ?_); (on_goal 1 => dsimp -zeta only [t]); (on_goal 2 => clear_value t))
    | (extract_lets +onlyGivenNames t; clear_value t)
    | intro _

theorem Stays.showNrg {z s} (h : Stays z s) : Stays z (State.showNrg s) := by
  unfold State.showNrg
  repeat' first
    | with_reducible assumption
    | with_reducible apply Stays.wr
    | with_reducible apply Stays.setBit
    | with_reducible apply Stays.setFld
    | (extract_lets +onlyGivenNames t; refine Stays.cut (t := t) ?_ (fun _ => ?_); (on_goal 1 => dsimp -zeta only [t]); (on_goal 2 => clear_value t))
    | (extract_lets +onlyGivenNames t; clear_value t)
    | intro _

theorem Stays.abortEye {z s a1} (h : Stays z s) : Stays z (State.abortEye s a1) := by
  unfold State.abortEye
  repeat' first
    | with_reducible assumption
    | with_reducible exact Stays.lit (by with_reducible assumption)
    | with_reducible apply Stays.setBit
    | with_reducible apply Stays.raiseLink
    | (extract_lets +onlyGivenNames t; refine Stays.cut (t := t) ?_ (fun _ => ?_); (on_goal 1 => dsimp -zeta only [t]); (on_goal 2 => clear_value t))
    | (extract_lets +onlyGivenNames t; clear_value t)
    | split
    | intro _
    | fail_if_no_progress (with_reducible apply Stays.lit)

theorem Stays.prbsSettle {z s} (h : Stays z s) : Stays z (State.prbsSettle s) := by
  unfold State.prbsSettle
  repeat' first
    | with_reducible assumption
    | with_reducible exact Stays.lit (by with_reducible assumption)
    | with_reducible apply Stays.forAll
    | (with_reducible refine Stays.forAll ?_ (fun _ _ _ => ?_))
    | (extract_lets +onlyGivenNames t; refine Stays.cut (t := t) ?_ (fun _ => ?_); (on_goal 1 => dsimp -zeta only [t]); (on_goal 2 => clear_value t))
    | (extract_lets +onlyGivenNames t; clear_value t)
    | split
    | intro _
    | fail_if_no_progress (with_reducible apply Stays.lit)

theorem Stays.shedPrbs {z s} (h : Stays z s) : Stays z (State.shedPrbs s) := by
  unfold State.shedPrbs
  repeat' first
    | with_reducible assumption
    | with_reducible exact Stays.lit (by with_reducible assumption)
    | with_reducible apply Stays.prbsSettle
    | with_reducible apply Stays.raiseLink
    | with_reducible apply Stays.setBit
    | (extract_lets +onlyGivenNames t; refine Stays.cut (t := t) ?_ (fun _ => ?_); (on_goal 1 => dsimp -zeta only [t]); (on_goal 2 => clear_value t))
    | (extract_lets +onlyGivenNames t; clear_value t)
    | split
    | fail_if_no_progress (with_reducible apply Stays.lit)

theorem Stays.sleepAllIdle {z s} (h : Stays z s) : Stays z (State.sleepAllIdle s) := by
  unfold State.sleepAllIdle
  repeat' first
    | with_reducible assumption
    | with_reducible apply Stays.sleepIdle
    | with_reducible apply Stays.sleepTo
    | (with_reducible refine Stays.foldl ?_ (fun _ _ _ => ?_))
    | (extract_lets +onlyGivenNames t; refine Stays.cut (t := t) ?_ (fun _ => ?_); (on_goal 1 => dsimp -zeta only [t]); (on_goal 2 => clear_value t))
    | (extract_lets +onlyGivenNames t; clear_value t)
    | split
    | intro _

theorem Stays.sleepUnderShed {z s} (h : Stays z s) : Stays z (State.sleepUnderShed s) := by
  unfold State.sleepUnderShed
  repeat' first
    | with_reducible assumption
    | with_reducible exact Stays.lit (by with_reducible assumption)
    | with_reducible apply Stays.sleepAllIdle
    | split
    | intro _
    | fail_if_no_progress (with_reducible apply Stays.lit)

theorem Stays.shedRingArm {z s} (h : Stays z s) : Stays z (State.shedRingArm s) := by
  unfold State.shedRingArm
  repeat' first
    | with_reducible assumption
    | with_reducible exact Stays.lit (by with_reducible assumption)
    | split
    | intro _
    | fail_if_no_progress (with_reducible apply Stays.lit)

theorem Stays.shedAction {z s a1} (h : Stays z s) : Stays z (State.shedAction s a1) := by
  unfold State.shedAction
  repeat' first
    | with_reducible assumption
    | with_reducible exact Stays.lit (by with_reducible assumption)
    | with_reducible apply Stays.shedPrbs
    | with_reducible apply Stays.abortEye
    | with_reducible apply Stays.replanPoints
    | with_reducible apply Stays.sleepAllIdle
    | with_reducible apply Stays.shedRingArm
    | (extract_lets +onlyGivenNames t; refine Stays.cut (t := t) ?_ (fun _ => ?_); (on_goal 1 => dsimp -zeta only [t]); (on_goal 2 => clear_value t))
    | (extract_lets +onlyGivenNames t; clear_value t)
    | split
    | intro _
    | fail_if_no_progress (with_reducible apply Stays.lit)

theorem Stays.admitWork {z s} (h : Stays z s) : Stays z (State.admitWork s) := by
  unfold State.admitWork
  repeat' first
    | with_reducible assumption
    | with_reducible exact Stays.lit (by with_reducible assumption)
    | (with_reducible refine Stays.foldl ?_ (fun _ _ _ => ?_))
    | (extract_lets +onlyGivenNames t; refine Stays.cut (t := t) ?_ (fun _ => ?_); (on_goal 1 => dsimp -zeta only [t]); (on_goal 2 => clear_value t))
    | (extract_lets +onlyGivenNames t; clear_value t)
    | split
    | intro _
    | fail_if_no_progress (with_reducible apply Stays.lit)

theorem Stays.planPass {z s} (h : Stays z s) : Stays z (State.planPass s) := by
  unfold State.planPass
  repeat' first
    | with_reducible assumption
    | with_reducible exact Stays.lit (by with_reducible assumption)
    | with_reducible apply Stays.setFld
    | with_reducible apply Stays.raiseNrg
    | with_reducible apply Stays.shedAction
    | with_reducible apply Stays.showNrg
    | with_reducible apply Stays.admitWork
    | (extract_lets +onlyGivenNames t; refine Stays.cut (t := t) ?_ (fun _ => ?_); (on_goal 1 => dsimp -zeta only [t]); (on_goal 2 => clear_value t))
    | (extract_lets +onlyGivenNames t; clear_value t)
    | split
    | fail_if_no_progress (with_reducible apply Stays.lit)

theorem Stays.requestWork {z s a1} (h : Stays z s) : Stays z (State.requestWork s a1) := by
  unfold State.requestWork
  repeat' first
    | with_reducible assumption
    | with_reducible exact Stays.lit (by with_reducible assumption)
    | with_reducible apply Stays.planPass
    | (extract_lets +onlyGivenNames t; refine Stays.cut (t := t) ?_ (fun _ => ?_); (on_goal 1 => dsimp -zeta only [t]); (on_goal 2 => clear_value t))
    | (extract_lets +onlyGivenNames t; clear_value t)
    | intro _
    | fail_if_no_progress (with_reducible apply Stays.lit)

theorem Stays.ceilingFrom {z s a1} (h : Stays z s) : Stays z (State.ceilingFrom s a1) := by
  unfold State.ceilingFrom
  repeat' first
    | with_reducible assumption
    | with_reducible exact Stays.lit (by with_reducible assumption)
    | with_reducible apply Stays.planPass
    | split
    | intro _
    | fail_if_no_progress (with_reducible apply Stays.lit)

theorem Stays.shedCounts {z s} (h : Stays z s) : Stays z (State.shedCounts s) := by
  unfold State.shedCounts
  repeat' first
    | with_reducible assumption
    | with_reducible exact Stays.lit (by with_reducible assumption)
    | with_reducible apply Stays.setFld
    | with_reducible apply Stays.replanPoints
    | with_reducible apply Stays.setBit
    | with_reducible apply Stays.raiseNrg
    | (extract_lets +onlyGivenNames t; refine Stays.cut (t := t) ?_ (fun _ => ?_); (on_goal 1 => dsimp -zeta only [t]); (on_goal 2 => clear_value t))
    | (extract_lets +onlyGivenNames t; clear_value t)
    | split
    | fail_if_no_progress (with_reducible apply Stays.lit)

theorem Stays.setStage {z s a1} (h : Stays z s) : Stays z (State.setStage s a1) := by
  unfold State.setStage
  repeat' first
    | with_reducible assumption
    | with_reducible apply Stays.setFld

theorem Stays.armRecord {z s a1} (h : Stays z s) : Stays z (State.armRecord s a1) := by
  unfold State.armRecord
  repeat' first
    | with_reducible assumption
    | with_reducible apply Stays.wr

theorem Stays.dropStaged {z s} (h : Stays z s) : Stays z (State.dropStaged s) := by
  unfold State.dropStaged
  repeat' first
    | with_reducible assumption
    | with_reducible exact Stays.lit (by with_reducible assumption)
    | (extract_lets +onlyGivenNames t; refine Stays.cut (t := t) ?_ (fun _ => ?_); (on_goal 1 => dsimp -zeta only [t]); (on_goal 2 => clear_value t))
    | (extract_lets +onlyGivenNames t; clear_value t)
    | fail_if_no_progress (with_reducible apply Stays.lit)

theorem Stays.verifyFails {z s a1} (h : Stays z s) : Stays z (State.verifyFails s a1) := by
  unfold State.verifyFails
  repeat' first
    | with_reducible assumption
    | with_reducible apply Stays.raiseArm
    | with_reducible apply Stays.armRecord
    | with_reducible apply Stays.setStage
    | with_reducible apply Stays.dropStaged

theorem Stays.loadRefused {z s a1} (h : Stays z s) : Stays z (State.loadRefused s a1) := by
  unfold State.loadRefused
  repeat' first
    | with_reducible assumption
    | with_reducible exact Stays.lit (by with_reducible assumption)
    | with_reducible apply Stays.raiseArm
    | with_reducible apply Stays.armRecord
    | (extract_lets +onlyGivenNames t; refine Stays.cut (t := t) ?_ (fun _ => ?_); (on_goal 1 => dsimp -zeta only [t]); (on_goal 2 => clear_value t))
    | (extract_lets +onlyGivenNames t; clear_value t)
    | fail_if_no_progress (with_reducible apply Stays.lit)

theorem Stays.beginLoad {z s a1} (h : Stays z s) : Stays z (State.beginLoad s a1) := by
  unfold State.beginLoad
  repeat' first
    | with_reducible assumption
    | with_reducible apply Stays.wr
    | with_reducible apply Stays.setFld
    | with_reducible apply Stays.setStage
    | with_reducible apply Stays.dropStaged

theorem Stays.hostLoad {z s a1} (h : Stays z s) : Stays z (State.hostLoad s a1) := by
  unfold State.hostLoad
  repeat' first
    | with_reducible assumption
    | with_reducible exact Stays.lit (by with_reducible assumption)
    | with_reducible apply Stays.loadRefused
    | with_reducible apply Stays.beginLoad
    | (extract_lets +onlyGivenNames t; refine Stays.cut (t := t) ?_ (fun _ => ?_); (on_goal 1 => dsimp -zeta only [t]); (on_goal 2 => clear_value t))
    | (extract_lets +onlyGivenNames t; clear_value t)
    | split
    | fail_if_no_progress (with_reducible apply Stays.lit)

theorem Stays.stageWord {z s a1 a2} (h : Stays z s) : Stays z (State.stageWord s a1 a2) := by
  unfold State.stageWord
  repeat' first
    | with_reducible assumption
    | with_reducible exact Stays.lit (by with_reducible assumption)
    | (extract_lets +onlyGivenNames t; refine Stays.cut (t := t) ?_ (fun _ => ?_); (on_goal 1 => dsimp -zeta only [t]); (on_goal 2 => clear_value t))
    | (extract_lets +onlyGivenNames t; clear_value t)
    | fail_if_no_progress (with_reducible apply Stays.lit)

theorem Stays.armData {z s a1} (h : Stays z s) : Stays z (State.armData s a1) := by
  unfold State.armData
  repeat' first
    | with_reducible assumption
    | with_reducible exact Stays.lit (by with_reducible assumption)
    | with_reducible apply Stays.verifyFails
    | with_reducible apply Stays.wr
    | with_reducible apply Stays.stageWord
    | (extract_lets +onlyGivenNames t; refine Stays.cut (t := t) ?_ (fun _ => ?_); (on_goal 1 => dsimp -zeta only [t]); (on_goal 2 => clear_value t))
    | (extract_lets +onlyGivenNames t; clear_value t)
    | split
    | fail_if_no_progress (with_reducible apply Stays.lit)

theorem Stays.beginVerify {z s} (h : Stays z s) : Stays z (State.beginVerify s) := by
  unfold State.beginVerify
  repeat' first
    | with_reducible assumption
    | with_reducible exact Stays.lit (by with_reducible assumption)
    | with_reducible apply Stays.setStage
    | (extract_lets +onlyGivenNames t; refine Stays.cut (t := t) ?_ (fun _ => ?_); (on_goal 1 => dsimp -zeta only [t]); (on_goal 2 => clear_value t))
    | (extract_lets +onlyGivenNames t; clear_value t)
    | fail_if_no_progress (with_reducible apply Stays.lit)

theorem Stays.abortLoad {z s} (h : Stays z s) : Stays z (State.abortLoad s) := by
  unfold State.abortLoad
  repeat' first
    | with_reducible assumption
    | with_reducible exact Stays.lit (by with_reducible assumption)
    | with_reducible apply Stays.setStage
    | with_reducible apply Stays.dropStaged
    | (extract_lets +onlyGivenNames t; refine Stays.cut (t := t) ?_ (fun _ => ?_); (on_goal 1 => dsimp -zeta only [t]); (on_goal 2 => clear_value t))
    | (extract_lets +onlyGivenNames t; clear_value t)
    | split
    | fail_if_no_progress (with_reducible apply Stays.lit)

theorem Stays.monEnds {z s} (h : Stays z s) : Stays z (State.monEnds s) := by
  unfold State.monEnds
  repeat' first
    | with_reducible assumption
    | with_reducible exact Stays.lit (by with_reducible assumption)
    | with_reducible apply Stays.abortLoad
    | with_reducible apply Stays.breakLocks
    | with_reducible apply Stays.wr
    | (extract_lets +onlyGivenNames t; refine Stays.cut (t := t) ?_ (fun _ => ?_); (on_goal 1 => dsimp -zeta only [t]); (on_goal 2 => clear_value t))
    | (extract_lets +onlyGivenNames t; clear_value t)
    | split
    | intro _
    | fail_if_no_progress (with_reducible apply Stays.lit)

theorem Stays.flashCmd {z s a1 a2 a3} (h : Stays z s) : Stays z (State.flashCmd s a1 a2 a3) := by
  unfold State.flashCmd
  repeat' first
    | with_reducible assumption
    | with_reducible exact Stays.lit (by with_reducible assumption)
    | with_reducible apply Stays.send
    | split
    | intro _
    | fail_if_no_progress (with_reducible apply Stays.lit)

theorem Stays.setFlash {z s a1 a2} (h : Stays z s) : Stays z (State.setFlash s a1 a2) := by
  unfold State.setFlash
  repeat' first
    | with_reducible assumption
    | with_reducible exact Stays.lit (by with_reducible assumption)
    | split
    | intro _
    | fail_if_no_progress (with_reducible apply Stays.lit)

theorem Stays.readSlot {z s a1 a2} (h : Stays z s) : Stays z (State.readSlot s a1 a2) := by
  unfold State.readSlot
  repeat' first
    | with_reducible assumption
    | with_reducible exact Stays.lit (by with_reducible assumption)
    | with_reducible apply Stays.beginLoad
    | with_reducible apply Stays.flashCmd
    | (extract_lets +onlyGivenNames t; refine Stays.cut (t := t) ?_ (fun _ => ?_); (on_goal 1 => dsimp -zeta only [t]); (on_goal 2 => clear_value t))
    | (extract_lets +onlyGivenNames t; clear_value t)
    | fail_if_no_progress (with_reducible apply Stays.lit)

theorem Stays.slotRead {z s} (h : Stays z s) : Stays z (State.slotRead s) := by
  unfold State.slotRead
  repeat' first
    | with_reducible assumption
    | with_reducible exact Stays.lit (by with_reducible assumption)
    | with_reducible apply Stays.setStage
    | (extract_lets +onlyGivenNames t; refine Stays.cut (t := t) ?_ (fun _ => ?_); (on_goal 1 => dsimp -zeta only [t]); (on_goal 2 => clear_value t))
    | (extract_lets +onlyGivenNames t; clear_value t)
    | split
    | fail_if_no_progress (with_reducible apply Stays.lit)

theorem Stays.flashLoad {z s} (h : Stays z s) : Stays z (State.flashLoad s) := by
  unfold State.flashLoad
  repeat' first
    | with_reducible assumption
    | with_reducible apply Stays.loadRefused
    | with_reducible apply Stays.readSlot
    | split

theorem Stays.eraseSlot {z s a1} (h : Stays z s) : Stays z (State.eraseSlot s a1) := by
  unfold State.eraseSlot
  repeat' first
    | with_reducible assumption
    | with_reducible exact Stays.lit (by with_reducible assumption)
    | with_reducible apply Stays.flashCmd
    | with_reducible apply Stays.setFlash
    | (with_reducible refine Stays.foldl ?_ (fun _ _ _ => ?_))
    | split
    | intro _
    | fail_if_no_progress (with_reducible apply Stays.lit)

theorem Stays.programSlot {z s a1 a2} (h : Stays z s) : Stays z (State.programSlot s a1 a2) := by
  unfold State.programSlot
  repeat' first
    | with_reducible assumption
    | with_reducible exact Stays.lit (by with_reducible assumption)
    | with_reducible apply Stays.flashCmd
    | with_reducible apply Stays.setFlash
    | (with_reducible refine Stays.foldl ?_ (fun _ _ _ => ?_))
    | split
    | intro _
    | fail_if_no_progress (with_reducible apply Stays.lit)

theorem Stays.program {z s a1} (h : Stays z s) : Stays z (State.program s a1) := by
  unfold State.program
  repeat' first
    | with_reducible assumption
    | with_reducible exact Stays.lit (by with_reducible assumption)
    | with_reducible apply Stays.setStage
    | with_reducible apply Stays.eraseSlot
    | (extract_lets +onlyGivenNames t; refine Stays.cut (t := t) ?_ (fun _ => ?_); (on_goal 1 => dsimp -zeta only [t]); (on_goal 2 => clear_value t))
    | (extract_lets +onlyGivenNames t; clear_value t)
    | split
    | fail_if_no_progress (with_reducible apply Stays.lit)

theorem Stays.programDone {z s a1} (h : Stays z s) : Stays z (State.programDone s a1) := by
  unfold State.programDone
  repeat' first
    | with_reducible assumption
    | with_reducible exact Stays.lit (by with_reducible assumption)
    | with_reducible apply Stays.setStage
    | with_reducible apply Stays.raiseArm
    | with_reducible apply Stays.armRecord
    | with_reducible apply Stays.drew
    | with_reducible apply Stays.programSlot
    | (extract_lets +onlyGivenNames t; refine Stays.cut (t := t) ?_ (fun _ => ?_); (on_goal 1 => dsimp -zeta only [t]); (on_goal 2 => clear_value t))
    | (extract_lets +onlyGivenNames t; clear_value t)
    | split
    | intro _
    | fail_if_no_progress (with_reducible apply Stays.lit)

theorem Stays.refreshVsec {z s} (h : Stays z s) : Stays z (State.refreshVsec s) := by
  unfold State.refreshVsec
  repeat' first
    | with_reducible assumption
    | with_reducible exact Stays.lit (by with_reducible assumption)
    | (with_reducible refine Stays.foldl ?_ (fun _ _ _ => ?_))
    | (extract_lets +onlyGivenNames t; refine Stays.cut (t := t) ?_ (fun _ => ?_); (on_goal 1 => dsimp -zeta only [t]); (on_goal 2 => clear_value t))
    | (extract_lets +onlyGivenNames t; clear_value t)
    | split
    | intro _
    | fail_if_no_progress (with_reducible apply Stays.lit)

theorem Stays.takeIdentity {z s a1} (h : Stays z s) : Stays z (State.takeIdentity s a1) := by
  unfold State.takeIdentity
  repeat' first
    | with_reducible assumption
    | with_reducible exact Stays.lit (by with_reducible assumption)
    | with_reducible apply Stays.setBit
    | (extract_lets +onlyGivenNames t; refine Stays.cut (t := t) ?_ (fun _ => ?_); (on_goal 1 => dsimp -zeta only [t]); (on_goal 2 => clear_value t))
    | (extract_lets +onlyGivenNames t; clear_value t)
    | fail_if_no_progress (with_reducible apply Stays.lit)

theorem Stays.applyIdentity {z s a1} (h : Stays z s) : Stays z (State.applyIdentity s a1) := by
  unfold State.applyIdentity
  repeat' first
    | with_reducible assumption
    | with_reducible apply Stays.setBit
    | with_reducible apply Stays.takeIdentity
    | split

theorem Stays.detectIdentity {z s} (h : Stays z s) : Stays z (State.detectIdentity s) := by
  unfold State.detectIdentity
  repeat' first
    | with_reducible assumption
    | with_reducible apply Stays.takeIdentity
    | split

theorem Stays.setMaquette {z s a1} (h : Stays z s) : Stays z (State.setMaquette s a1) := by
  unfold State.setMaquette
  repeat' first
    | with_reducible assumption
    | with_reducible exact Stays.lit (by with_reducible assumption)
    | with_reducible apply Stays.setBit
    | with_reducible apply Stays.forAll
    | with_reducible apply Stays.modPort
    | (with_reducible refine Stays.forAll ?_ (fun _ _ _ => ?_))
    | (extract_lets +onlyGivenNames t; refine Stays.cut (t := t) ?_ (fun _ => ?_); (on_goal 1 => dsimp -zeta only [t]); (on_goal 2 => clear_value t))
    | (extract_lets +onlyGivenNames t; clear_value t)
    | split
    | intro _
    | fail_if_no_progress (with_reducible apply Stays.lit)

theorem Stays.commitRefused {z s a1} (h : Stays z s) : Stays z (State.commitRefused s a1) := by
  unfold State.commitRefused
  repeat' first
    | with_reducible assumption
    | with_reducible apply Stays.raiseArm
    | with_reducible apply Stays.wr

theorem Stays.lockPins {z s a1} (h : Stays z s) : Stays z (State.lockPins s a1) := by
  unfold State.lockPins
  repeat' first
    | with_reducible assumption
    | with_reducible exact Stays.lit (by with_reducible assumption)
    | (extract_lets +onlyGivenNames t; refine Stays.cut (t := t) ?_ (fun _ => ?_); (on_goal 1 => dsimp -zeta only [t]); (on_goal 2 => clear_value t))
    | (extract_lets +onlyGivenNames t; clear_value t)
    | intro _
    | fail_if_no_progress (with_reducible apply Stays.lit)

theorem Stays.shadowWrite {z : State} : ∀ (l : List Word) (p : Nat × State), Stays z p.2 →
    Stays z (l.foldl (fun (p : Nat × State) w => (p.1 + 1, p.2.sramWrite p.1 w)) p).2
  | [], _, h => h
  | a :: l, p, h => by
    rw [List.foldl_cons]
    exact Stays.shadowWrite l _ (show Stays z (p.2.sramWrite p.1 a) from h.sramWrite)

theorem Stays.writeShadow {z s i} (h : Stays z s) : Stays z (State.writeShadow s i) := by
  unfold State.writeShadow
  exact Stays.shadowWrite _ (_, s) h

theorem Stays.copyIdle {z s a1} (h : Stays z s) : Stays z (State.copyIdle s a1) := by
  unfold State.copyIdle
  repeat' first
    | with_reducible assumption
    | with_reducible apply Stays.wr
    | (with_reducible refine Stays.foldl ?_ (fun _ _ _ => ?_))
    | intro _

theorem Stays.applyPlinth {z s a1} (h : Stays z s) : Stays z (State.applyPlinth s a1) := by
  unfold State.applyPlinth
  try dsimp only
  repeat' first
    | with_reducible assumption
    | with_reducible exact Stays.lit (by with_reducible assumption)
    | with_reducible apply Stays.setBit
    | with_reducible apply Stays.setFld
    | with_reducible apply Stays.monEnds
    | with_reducible apply Stays.wr
    | with_reducible apply Stays.ceilingFrom
    | with_reducible refine Stays.ite ?_ ?_
    | split
    | fail_if_no_progress (with_reducible apply Stays.lit)
    | (extract_lets +onlyGivenNames t; refine Stays.cut (t := t) ?_ (fun _ => ?_); (on_goal 1 => dsimp -zeta only [t]); (on_goal 2 => clear_value t))
    | (extract_lets +onlyGivenNames t; clear_value t)

theorem Stays.commitDone {z s} (h : Stays z s) : Stays z (State.commitDone s) := by
  unfold State.commitDone
  repeat' first
    | with_reducible assumption
    | with_reducible exact Stays.lit (by with_reducible assumption)
    | with_reducible apply Stays.setBit
    | with_reducible apply Stays.setFld
    | with_reducible apply Stays.setStage
    | with_reducible apply Stays.applyPlinth
    | with_reducible apply Stays.wr
    | with_reducible apply Stays.refreshVsec
    | with_reducible apply Stays.raiseArm
    | (with_reducible refine Stays.foldl ?_ (fun _ _ _ => ?_))
    | with_reducible apply Stays.applyIdentity
    | with_reducible apply Stays.modIsland
    | (extract_lets +onlyGivenNames t; refine Stays.cut (t := t) ?_ (fun _ => ?_); (on_goal 1 => dsimp -zeta only [t]); (on_goal 2 => clear_value t))
    | (extract_lets +onlyGivenNames t; clear_value t)
    | split
    | fail_if_no_progress (with_reducible apply Stays.lit)

theorem Stays.castImage {z s a1 a2} (h : Stays z s) : Stays z (State.castImage s a1 a2) := by
  unfold State.castImage
  repeat' first
    | with_reducible assumption
    | with_reducible apply Stays.lockPins
    | with_reducible apply Stays.writeShadow
    | with_reducible apply Stays.setMaquette
    | with_reducible apply Stays.copyIdle
    | (extract_lets +onlyGivenNames t; refine Stays.cut (t := t) ?_ (fun _ => ?_); (on_goal 1 => dsimp -zeta only [t]); (on_goal 2 => clear_value t))
    | (extract_lets +onlyGivenNames t; clear_value t)
    | split

theorem Stays.raiseIslands {z s} (h : Stays z s) : Stays z (State.raiseIslands s) := by
  unfold State.raiseIslands
  repeat' first
    | with_reducible assumption
    | with_reducible exact Stays.lit (by with_reducible assumption)
    | with_reducible apply Stays.setBit
    | with_reducible apply Stays.plinthEnable
    | with_reducible apply Stays.modIsland
    | with_reducible apply Stays.commitDone
    | (with_reducible refine Stays.foldl ?_ (fun _ _ _ => ?_))
    | (extract_lets +onlyGivenNames t; refine Stays.cut (t := t) ?_ (fun _ => ?_); (on_goal 1 => dsimp -zeta only [t]); (on_goal 2 => clear_value t))
    | (extract_lets +onlyGivenNames t; clear_value t)
    | split
    | intro _
    | fail_if_no_progress (with_reducible apply Stays.lit)

theorem Stays.gateNext {z s n} (h : Stays z s) : Stays z (State.gateNext s n) := by
  induction n generalizing s with
  | zero => exact h
  | succ n ih =>
    unfold State.gateNext
    dsimp only
    repeat' split
    all_goals first
      | with_reducible exact h
      | with_reducible exact h.plinthDisable
      | with_reducible exact (Stays.lit h).modIsland.castImage.raiseIslands
      | with_reducible exact ih (Stays.lit h).modIsland
      | with_reducible exact (Stays.lit h.plinthDisable).modIsland.castImage.raiseIslands
      | with_reducible exact ih (Stays.lit h.plinthDisable).modIsland

theorem Stays.commitGated {z s} (h : Stays z s) : Stays z (State.commitGated s) := by
  unfold State.commitGated
  repeat' first
    | with_reducible assumption
    | with_reducible apply Stays.gateNext

theorem Stays.startWhole {z s a1} (h : Stays z s) : Stays z (State.startWhole s a1) := by
  unfold State.startWhole
  repeat' first
    | with_reducible assumption
    | with_reducible exact Stays.lit (by with_reducible assumption)
    | with_reducible apply Stays.setStage
    | with_reducible apply Stays.applyIdentity
    | with_reducible apply Stays.wr
    | with_reducible apply Stays.setBit
    | with_reducible apply Stays.setFld
    | with_reducible apply Stays.raiseIslands
    | with_reducible apply Stays.castImage
    | with_reducible apply Stays.commitGated
    | (extract_lets +onlyGivenNames t; refine Stays.cut (t := t) ?_ (fun _ => ?_); (on_goal 1 => dsimp -zeta only [t]); (on_goal 2 => clear_value t))
    | (extract_lets +onlyGivenNames t; clear_value t)
    | split
    | intro _
    | fail_if_no_progress (with_reducible apply Stays.lit)

theorem Stays.recastDrained {z s a1} (h : Stays z s) : Stays z (State.recastDrained s a1) := by
  unfold State.recastDrained
  repeat' first
    | with_reducible assumption
    | with_reducible exact Stays.lit (by with_reducible assumption)
    | with_reducible apply Stays.castImage
    | with_reducible apply Stays.commitDone
    | (extract_lets +onlyGivenNames t; refine Stays.cut (t := t) ?_ (fun _ => ?_); (on_goal 1 => dsimp -zeta only [t]); (on_goal 2 => clear_value t))
    | (extract_lets +onlyGivenNames t; clear_value t)
    | split
    | intro _
    | fail_if_no_progress (with_reducible apply Stays.lit)

theorem Stays.startRecast {z s} (h : Stays z s) : Stays z (State.startRecast s) := by
  unfold State.startRecast
  try dsimp only
  repeat' first
    | with_reducible assumption
    | with_reducible exact Stays.lit (by with_reducible assumption)
    | with_reducible apply Stays.setBit
    | with_reducible apply Stays.commitDone
    | with_reducible apply Stays.castImage
    | with_reducible apply Stays.sleepTo
    | with_reducible apply Stays.modIsland
    | with_reducible apply Stays.recastDrained
    | (with_reducible refine Stays.foldl ?_ (fun _ _ _ => ?_))
    | with_reducible refine Stays.ite ?_ ?_
    | split
    | intro _
    | fail_if_no_progress (with_reducible apply Stays.lit)
    | (extract_lets +onlyGivenNames t; refine Stays.cut (t := t) ?_ (fun _ => ?_); (on_goal 1 => dsimp -zeta only [t]); (on_goal 2 => clear_value t))
    | (extract_lets +onlyGivenNames t; clear_value t)

theorem Stays.commitRaised {z s a1} (h : Stays z s) : Stays z (State.commitRaised s a1) := by
  unfold State.commitRaised
  repeat' first
    | with_reducible assumption
    | with_reducible exact Stays.lit (by with_reducible assumption)
    | with_reducible apply Stays.commitDone
    | (extract_lets +onlyGivenNames t; refine Stays.cut (t := t) ?_ (fun _ => ?_); (on_goal 1 => dsimp -zeta only [t]); (on_goal 2 => clear_value t))
    | (extract_lets +onlyGivenNames t; clear_value t)
    | split
    | intro _
    | fail_if_no_progress (with_reducible apply Stays.lit)

theorem Stays.commitOp {z s a1} (h : Stays z s) : Stays z (State.commitOp s a1) := by
  unfold State.commitOp
  repeat' first
    | with_reducible assumption
    | with_reducible exact Stays.lit (by with_reducible assumption)
    | with_reducible apply Stays.commitRefused
    | with_reducible apply Stays.startWhole
    | with_reducible apply Stays.setStage
    | with_reducible apply Stays.requestWork
    | (extract_lets +onlyGivenNames t; refine Stays.cut (t := t) ?_ (fun _ => ?_); (on_goal 1 => dsimp -zeta only [t]); (on_goal 2 => clear_value t))
    | (extract_lets +onlyGivenNames t; clear_value t)
    | split
    | fail_if_no_progress (with_reducible apply Stays.lit)

theorem Stays.enterNoArm {z s} (h : Stays z s) : Stays z (State.enterNoArm s) := by
  unfold State.enterNoArm
  repeat' first
    | with_reducible assumption
    | with_reducible exact Stays.lit (by with_reducible assumption)
    | with_reducible apply Stays.wr
    | with_reducible apply Stays.setBit
    | with_reducible apply Stays.setFld
    | with_reducible apply Stays.refreshVsec
    | with_reducible apply Stays.applyIdentity
    | (extract_lets +onlyGivenNames t; refine Stays.cut (t := t) ?_ (fun _ => ?_); (on_goal 1 => dsimp -zeta only [t]); (on_goal 2 => clear_value t))
    | (extract_lets +onlyGivenNames t; clear_value t)
    | fail_if_no_progress (with_reducible apply Stays.lit)

theorem Stays.abortCtl {z s} (h : Stays z s) : Stays z (State.abortCtl s) := by
  unfold State.abortCtl
  repeat' first
    | with_reducible assumption
    | with_reducible exact Stays.lit (by with_reducible assumption)
    | with_reducible apply Stays.abortLoad
    | with_reducible apply Stays.enterNoArm
    | (extract_lets +onlyGivenNames t; refine Stays.cut (t := t) ?_ (fun _ => ?_); (on_goal 1 => dsimp -zeta only [t]); (on_goal 2 => clear_value t))
    | (extract_lets +onlyGivenNames t; clear_value t)
    | split
    | intro _
    | fail_if_no_progress (with_reducible apply Stays.lit)

theorem Stays.verifyDone {z s} (h : Stays z s) : Stays z (State.verifyDone s) := by
  unfold State.verifyDone
  repeat' first
    | with_reducible assumption
    | with_reducible exact Stays.lit (by with_reducible assumption)
    | with_reducible apply Stays.setStage
    | with_reducible apply Stays.raiseArm
    | with_reducible apply Stays.setBit
    | with_reducible apply Stays.setFld
    | with_reducible apply Stays.verifyFails
    | with_reducible apply Stays.readSlot
    | with_reducible apply Stays.enterNoArm
    | (extract_lets +onlyGivenNames t; refine Stays.cut (t := t) ?_ (fun _ => ?_); (on_goal 1 => dsimp -zeta only [t]); (on_goal 2 => clear_value t))
    | (extract_lets +onlyGivenNames t; clear_value t)
    | split
    | fail_if_no_progress (with_reducible apply Stays.lit)

theorem Stays.fuseOp {z s a1} (h : Stays z s) : Stays z (State.fuseOp s a1) := by
  unfold State.fuseOp
  repeat' first
    | with_reducible assumption
    | with_reducible exact Stays.lit (by with_reducible assumption)
    | with_reducible apply Stays.setBit
    | (extract_lets +onlyGivenNames t; refine Stays.cut (t := t) ?_ (fun _ => ?_); (on_goal 1 => dsimp -zeta only [t]); (on_goal 2 => clear_value t))
    | (extract_lets +onlyGivenNames t; clear_value t)
    | split
    | fail_if_no_progress (with_reducible apply Stays.lit)

theorem Stays.noteLevels {z s a1 a2 a3 a4 a5} (h : Stays z s) : Stays z (State.noteLevels s a1 a2 a3 a4 a5) := by
  unfold State.noteLevels
  repeat' first
    | with_reducible assumption
    | with_reducible apply Stays.setFld
    | with_reducible apply Stays.raiseCan
    | (extract_lets +onlyGivenNames t; refine Stays.cut (t := t) ?_ (fun _ => ?_); (on_goal 1 => dsimp -zeta only [t]); (on_goal 2 => clear_value t))
    | (extract_lets +onlyGivenNames t; clear_value t)
    | split
    | intro _

theorem Stays.windowEnd {z s a1} (h : Stays z s) : Stays z (State.windowEnd s a1) := by
  unfold State.windowEnd
  repeat' first
    | with_reducible assumption
    | with_reducible exact Stays.lit (by with_reducible assumption)
    | with_reducible apply Stays.wr
    | with_reducible apply Stays.setCan
    | (extract_lets +onlyGivenNames t; refine Stays.cut (t := t) ?_ (fun _ => ?_); (on_goal 1 => dsimp -zeta only [t]); (on_goal 2 => clear_value t))
    | (extract_lets +onlyGivenNames t; clear_value t)
    | split
    | fail_if_no_progress (with_reducible apply Stays.lit)

theorem Stays.busOff {z s a1} (h : Stays z s) : Stays z (State.busOff s a1) := by
  unfold State.busOff
  repeat' first
    | with_reducible assumption
    | with_reducible exact Stays.lit (by with_reducible assumption)
    | with_reducible apply Stays.bump
    | with_reducible apply Stays.setFld
    | with_reducible apply Stays.raiseCan
    | with_reducible apply Stays.setPhase
    | with_reducible apply Stays.setCan
    | with_reducible apply Stays.windowEnd
    | (extract_lets +onlyGivenNames t; refine Stays.cut (t := t) ?_ (fun _ => ?_); (on_goal 1 => dsimp -zeta only [t]); (on_goal 2 => clear_value t))
    | (extract_lets +onlyGivenNames t; clear_value t)
    | split
    | fail_if_no_progress (with_reducible apply Stays.lit)

theorem Stays.setCounters {z s a1 a2 a3} (h : Stays z s) : Stays z (State.setCounters s a1 a2 a3) := by
  unfold State.setCounters
  repeat' first
    | with_reducible assumption
    | with_reducible apply Stays.wr
    | with_reducible apply Stays.noteLevels
    | with_reducible apply Stays.raiseCan
    | with_reducible apply Stays.setBit
    | with_reducible apply Stays.busOff
    | with_reducible apply Stays.setFld
    | (extract_lets +onlyGivenNames t; refine Stays.cut (t := t) ?_ (fun _ => ?_); (on_goal 1 => dsimp -zeta only [t]); (on_goal 2 => clear_value t))
    | (extract_lets +onlyGivenNames t; clear_value t)
    | split

theorem Stays.recFalls {z s a1} (h : Stays z s) : Stays z (State.recFalls s a1) := by
  unfold State.recFalls
  repeat' first
    | with_reducible assumption
    | with_reducible apply Stays.drew
    | with_reducible apply Stays.setCounters
    | (extract_lets +onlyGivenNames t; refine Stays.cut (t := t) ?_ (fun _ => ?_); (on_goal 1 => dsimp -zeta only [t]); (on_goal 2 => clear_value t))
    | (extract_lets +onlyGivenNames t; clear_value t)
    | split

theorem Stays.sramRead_eq {z s w a b t} (h : Stays z s) (e : State.sramRead s w = (a, b, t)) : Stays z t := by
  have := h.sramRead (w := w); rw [e] at this; exact this

theorem Stays.tryFilter {z s c k f} (h : Stays z s) : Stays z (State.tryFilter s c k f).2 := by
  unfold State.tryFilter
  extract_lets a
  split
  rename_i e0
  have h0 := h.sramRead_eq e0
  split
  · with_reducible exact h0
  · split
    rename_i e1
    have h1 := h0.sramRead_eq e1
    split
    rename_i e2
    have h2 := h1.sramRead_eq e2
    split
    rename_i e3
    have h3 := h2.sramRead_eq e3
    split
    · with_reducible exact h3
    · with_reducible exact h3

theorem Stays.tryFilter_eq {z s c k f a t} (h : Stays z s) (e : State.tryFilter s c k f = (a, t)) : Stays z t := by
  have := h.tryFilter (c := c) (k := k) (f := f); rw [e] at this; exact this

theorem Stays.firstFilter {z s c f l} (h : Stays z s) : Stays z (State.firstFilter s c f l).2 := by
  induction l generalizing s with
  | nil => exact h
  | cons k ks ih =>
    unfold State.firstFilter
    split
    · rename_i e; exact h.tryFilter_eq e
    · rename_i e; exact ih (h.tryFilter_eq e)

theorem Stays.stageFrame {z s a1} (h : Stays z s) : Stays z (State.stageFrame s a1) := by
  unfold State.stageFrame
  repeat' first
    | with_reducible assumption
    | with_reducible exact Stays.lit (by with_reducible assumption)
    | with_reducible apply Stays.raiseCan
    | with_reducible apply Stays.bump
    | (extract_lets +onlyGivenNames t; refine Stays.cut (t := t) ?_ (fun _ => ?_); (on_goal 1 => dsimp -zeta only [t]); (on_goal 2 => clear_value t))
    | (extract_lets +onlyGivenNames t; clear_value t)
    | split
    | fail_if_no_progress (with_reducible apply Stays.lit)

theorem Stays.firstFilter_eq {z s c f l a t} (h : Stays z s) (e : State.firstFilter s c f l = (a, t)) : Stays z t := by
  have := h.firstFilter (c := c) (f := f) (l := l); rw [e] at this; exact this

theorem Stays.acceptFrame {z s a1 a2 a3} (h : Stays z s) : Stays z (State.acceptFrame s a1 a2 a3) := by
  unfold State.acceptFrame
  try dsimp only
  repeat' first
    | with_reducible assumption
    | with_reducible exact Stays.lit (by with_reducible assumption)
    | with_reducible apply Stays.firstFilter
    | with_reducible refine Stays.firstFilter_eq ?_ (by with_reducible assumption)
    | with_reducible apply Stays.raiseCan
    | with_reducible apply Stays.stageFrame
    | with_reducible apply Stays.drew
    | with_reducible refine Stays.ite ?_ ?_
    | split
    | fail_if_no_progress (with_reducible apply Stays.lit)
    | (extract_lets +onlyGivenNames t; refine Stays.cut (t := t) ?_ (fun _ => ?_); (on_goal 1 => dsimp -zeta only [t]); (on_goal 2 => clear_value t))
    | (extract_lets +onlyGivenNames t; clear_value t)

theorem Stays.frameRx {z s a1 a2 a3} (h : Stays z s) : Stays z (State.frameRx s a1 a2 a3) := by
  unfold State.frameRx
  try dsimp only
  repeat' first
    | with_reducible assumption
    | with_reducible apply Stays.acceptFrame
    | with_reducible apply Stays.recFalls
    | with_reducible refine Stays.ite ?_ ?_
    | split

theorem Stays.rxEntryWrite {z s} (h : Stays z s) : Stays z (State.rxEntryWrite s) := by
  unfold State.rxEntryWrite
  repeat' first
    | with_reducible assumption
    | with_reducible exact Stays.lit (by with_reducible assumption)
    | with_reducible apply Stays.stageEntry
    | with_reducible apply Stays.raiseCan
    | with_reducible apply Stays.bump
    | (with_reducible refine Stays.foldl ?_ (fun _ _ _ => ?_))
    | (extract_lets +onlyGivenNames t; refine Stays.cut (t := t) ?_ (fun _ => ?_); (on_goal 1 => dsimp -zeta only [t]); (on_goal 2 => clear_value t))
    | (extract_lets +onlyGivenNames t; clear_value t)
    | split
    | intro _
    | fail_if_no_progress (with_reducible apply Stays.lit)

theorem Stays.txReport {z s a1 a2 a3 a4 a5} (h : Stays z s) : Stays z (State.txReport s a1 a2 a3 a4 a5) := by
  unfold State.txReport
  repeat' first
    | with_reducible assumption
    | with_reducible exact Stays.lit (by with_reducible assumption)
    | with_reducible apply Stays.stageEntry
    | with_reducible apply Stays.bump
    | (extract_lets +onlyGivenNames t; refine Stays.cut (t := t) ?_ (fun _ => ?_); (on_goal 1 => dsimp -zeta only [t]); (on_goal 2 => clear_value t))
    | (extract_lets +onlyGivenNames t; clear_value t)
    | split
    | fail_if_no_progress (with_reducible apply Stays.lit)

theorem Stays.cantxFetchOp {z s a1 a2} (h : Stays z s) : Stays z (State.cantxFetchOp s a1 a2) := by
  unfold State.cantxFetchOp
  repeat' first
    | with_reducible assumption
    | with_reducible apply Stays.fetchOp
    | (extract_lets +onlyGivenNames t; refine Stays.cut (t := t) ?_ (fun _ => ?_); (on_goal 1 => dsimp -zeta only [t]); (on_goal 2 => clear_value t))
    | (extract_lets +onlyGivenNames t; clear_value t)
    | split
    | intro _

theorem Stays.judgeTerm {z s a1 a2} (h : Stays z s) : Stays z (State.judgeTerm s a1 a2) := by
  unfold State.judgeTerm
  repeat' first
    | with_reducible assumption
    | with_reducible apply Stays.wr
    | with_reducible apply Stays.raiseCan
    | (extract_lets +onlyGivenNames t; refine Stays.cut (t := t) ?_ (fun _ => ?_); (on_goal 1 => dsimp -zeta only [t]); (on_goal 2 => clear_value t))
    | (extract_lets +onlyGivenNames t; clear_value t)
    | split

theorem Stays.txOver {z s a1 a2} (h : Stays z s) : Stays z (State.txOver s a1 a2) := by
  unfold State.txOver
  repeat' first
    | with_reducible assumption
    | with_reducible exact Stays.lit (by with_reducible assumption)
    | with_reducible apply Stays.setCan
    | with_reducible apply Stays.setBit
    | (extract_lets +onlyGivenNames t; refine Stays.cut (t := t) ?_ (fun _ => ?_); (on_goal 1 => dsimp -zeta only [t]); (on_goal 2 => clear_value t))
    | (extract_lets +onlyGivenNames t; clear_value t)
    | split
    | fail_if_no_progress (with_reducible apply Stays.lit)

theorem Stays.noteBuffer {z s a1 a2} (h : Stays z s) : Stays z (State.noteBuffer s a1 a2) := by
  unfold State.noteBuffer
  repeat' first
    | with_reducible assumption
    | with_reducible apply Stays.setBit
    | split

theorem Stays.frameSent {z s a1 a2 a3 a4} (h : Stays z s) : Stays z (State.frameSent s a1 a2 a3 a4) := by
  unfold State.frameSent
  repeat' first
    | with_reducible assumption
    | with_reducible apply Stays.judgeTerm
    | with_reducible apply Stays.setCounters
    | with_reducible apply Stays.txOver
    | with_reducible apply Stays.wr
    | with_reducible apply Stays.noteBuffer
    | with_reducible apply Stays.send
    | with_reducible apply Stays.txReport
    | with_reducible apply Stays.raiseCan
    | with_reducible apply Stays.acceptFrame
    | (extract_lets +onlyGivenNames t; refine Stays.cut (t := t) ?_ (fun _ => ?_); (on_goal 1 => dsimp -zeta only [t]); (on_goal 2 => clear_value t))
    | (extract_lets +onlyGivenNames t; clear_value t)
    | split

theorem Stays.frameFailed {z s a1} (h : Stays z s) : Stays z (State.frameFailed s a1) := by
  unfold State.frameFailed
  repeat' first
    | with_reducible assumption
    | with_reducible apply Stays.noteBuffer
    | with_reducible apply Stays.txOver
    | with_reducible apply Stays.txReport
    | with_reducible apply Stays.raiseCan
    | (extract_lets +onlyGivenNames t; refine Stays.cut (t := t) ?_ (fun _ => ?_); (on_goal 1 => dsimp -zeta only [t]); (on_goal 2 => clear_value t))
    | (extract_lets +onlyGivenNames t; clear_value t)
    | split

theorem Stays.busError {z s a1 a2 a3} (h : Stays z s) : Stays z (State.busError s a1 a2 a3) := by
  unfold State.busError
  repeat' first
    | with_reducible assumption
    | with_reducible apply Stays.setFld
    | with_reducible apply Stays.bump
    | with_reducible apply Stays.raiseCan
    | with_reducible apply Stays.setCounters
    | (extract_lets +onlyGivenNames t; refine Stays.cut (t := t) ?_ (fun _ => ?_); (on_goal 1 => dsimp -zeta only [t]); (on_goal 2 => clear_value t))
    | (extract_lets +onlyGivenNames t; clear_value t)
    | split

theorem Stays.recovered {z s a1} (h : Stays z s) : Stays z (State.recovered s a1) := by
  unfold State.recovered
  repeat' first
    | with_reducible assumption
    | with_reducible apply Stays.setFld
    | with_reducible apply Stays.setPhase
    | with_reducible apply Stays.setCounters
    | with_reducible apply Stays.wr
    | with_reducible apply Stays.raiseCan
    | with_reducible apply Stays.windowEnd
    | (extract_lets +onlyGivenNames t; refine Stays.cut (t := t) ?_ (fun _ => ?_); (on_goal 1 => dsimp -zeta only [t]); (on_goal 2 => clear_value t))
    | (extract_lets +onlyGivenNames t; clear_value t)
    | split

theorem Stays.recoverOp {z s a1} (h : Stays z s) : Stays z (State.recoverOp s a1) := by
  unfold State.recoverOp
  repeat' first
    | with_reducible assumption
    | with_reducible apply Stays.setPhase
    | split

theorem Stays.integrated {z s a1} (h : Stays z s) : Stays z (State.integrated s a1) := by
  unfold State.integrated
  repeat' first
    | with_reducible assumption
    | with_reducible exact Stays.lit (by with_reducible assumption)
    | with_reducible apply Stays.setPhase
    | with_reducible apply Stays.setCan
    | (extract_lets +onlyGivenNames t; refine Stays.cut (t := t) ?_ (fun _ => ?_); (on_goal 1 => dsimp -zeta only [t]); (on_goal 2 => clear_value t))
    | (extract_lets +onlyGivenNames t; clear_value t)
    | split
    | fail_if_no_progress (with_reducible apply Stays.lit)

theorem Stays.quietEnd {z s a1} (h : Stays z s) : Stays z (State.quietEnd s a1) := by
  unfold State.quietEnd
  repeat' first
    | with_reducible assumption
    | with_reducible exact Stays.lit (by with_reducible assumption)
    | with_reducible apply Stays.setCan
    | with_reducible apply Stays.raiseCan
    | with_reducible apply Stays.setPhase
    | (extract_lets +onlyGivenNames t; refine Stays.cut (t := t) ?_ (fun _ => ?_); (on_goal 1 => dsimp -zeta only [t]); (on_goal 2 => clear_value t))
    | (extract_lets +onlyGivenNames t; clear_value t)
    | split
    | fail_if_no_progress (with_reducible apply Stays.lit)

theorem Stays.protocolException {z s a1} (h : Stays z s) : Stays z (State.protocolException s a1) := by
  unfold State.protocolException
  repeat' first
    | with_reducible assumption
    | with_reducible apply Stays.setPhase
    | split

theorem Stays.swapSeen {z s a1} (h : Stays z s) : Stays z (State.swapSeen s a1) := by
  unfold State.swapSeen
  repeat' first
    | with_reducible assumption
    | with_reducible exact Stays.lit (by with_reducible assumption)
    | with_reducible apply Stays.raiseCan
    | with_reducible apply Stays.setBit
    | with_reducible apply Stays.setCan
    | (extract_lets +onlyGivenNames t; refine Stays.cut (t := t) ?_ (fun _ => ?_); (on_goal 1 => dsimp -zeta only [t]); (on_goal 2 => clear_value t))
    | (extract_lets +onlyGivenNames t; clear_value t)
    | split
    | fail_if_no_progress (with_reducible apply Stays.lit)

theorem Stays.invertPolarity {z s a1} (h : Stays z s) : Stays z (State.invertPolarity s a1) := by
  unfold State.invertPolarity
  repeat' first
    | with_reducible assumption
    | with_reducible exact Stays.lit (by with_reducible assumption)
    | with_reducible apply Stays.setBit
    | with_reducible apply Stays.setCan
    | (extract_lets +onlyGivenNames t; refine Stays.cut (t := t) ?_ (fun _ => ?_); (on_goal 1 => dsimp -zeta only [t]); (on_goal 2 => clear_value t))
    | (extract_lets +onlyGivenNames t; clear_value t)
    | split
    | fail_if_no_progress (with_reducible apply Stays.lit)

theorem Stays.lineFault {z s a1 a2} (h : Stays z s) : Stays z (State.lineFault s a1 a2) := by
  unfold State.lineFault
  repeat' first
    | with_reducible assumption
    | with_reducible apply Stays.raiseCan
    | with_reducible apply Stays.setBit
    | split

theorem Stays.lineClear {z s a1 a2} (h : Stays z s) : Stays z (State.lineClear s a1 a2) := by
  unfold State.lineClear
  repeat' first
    | with_reducible assumption
    | with_reducible apply Stays.setBit
    | split

theorem Stays.fbCtlHook {z s a1 a2 a3} (h : Stays z s) : Stays z (State.fbCtlHook s a1 a2 a3) := by
  unfold State.fbCtlHook
  try dsimp only
  repeat' first
    | with_reducible assumption
    | with_reducible apply Stays.recoverOp
    | with_reducible apply Stays.fbEnterInit
    | with_reducible apply Stays.fbLeaveInit
    | with_reducible apply Stays.setBit
    | with_reducible refine Stays.ite ?_ ?_
    | split
    | (extract_lets +onlyGivenNames t; refine Stays.cut (t := t) ?_ (fun _ => ?_); (on_goal 1 => dsimp -zeta only [t]); (on_goal 2 => clear_value t))
    | (extract_lets +onlyGivenNames t; clear_value t)

theorem Stays.txreqHook {z s a1 a2 a3} (h : Stays z s) : Stays z (State.txreqHook s a1 a2 a3) := by
  unfold State.txreqHook
  repeat' first
    | with_reducible assumption
    | with_reducible apply Stays.forAll
    | with_reducible apply Stays.cancelBuffer
    | with_reducible apply Stays.setBit
    | with_reducible apply Stays.bump
    | (with_reducible refine Stays.forAll ?_ (fun _ _ _ => ?_))
    | (extract_lets +onlyGivenNames t; refine Stays.cut (t := t) ?_ (fun _ => ?_); (on_goal 1 => dsimp -zeta only [t]); (on_goal 2 => clear_value t))
    | (extract_lets +onlyGivenNames t; clear_value t)
    | split
    | intro _

theorem Stays.setRing {z s a1} (h : Stays z s) : Stays z (State.setRing s a1) := by
  unfold State.setRing
  repeat' first
    | with_reducible assumption
    | with_reducible apply Stays.setFld
    | with_reducible apply Stays.forAll
    | with_reducible apply Stays.idleDrive
    | (with_reducible refine Stays.forAll ?_ (fun _ _ _ => ?_))
    | (extract_lets +onlyGivenNames t; refine Stays.cut (t := t) ?_ (fun _ => ?_); (on_goal 1 => dsimp -zeta only [t]); (on_goal 2 => clear_value t))
    | (extract_lets +onlyGivenNames t; clear_value t)
    | split
    | intro _

theorem Stays.setLane {z s a1 a2} (h : Stays z s) : Stays z (State.setLane s a1 a2) := by
  unfold State.setLane
  repeat' first
    | with_reducible assumption
    | with_reducible exact Stays.lit (by with_reducible assumption)
    | (extract_lets +onlyGivenNames t; refine Stays.cut (t := t) ?_ (fun _ => ?_); (on_goal 1 => dsimp -zeta only [t]); (on_goal 2 => clear_value t))
    | (extract_lets +onlyGivenNames t; clear_value t)
    | split
    | fail_if_no_progress (with_reducible apply Stays.lit)

theorem Stays.showNode {z s} (h : Stays z s) : Stays z (State.showNode s) := by
  unfold State.showNode
  repeat' first
    | with_reducible assumption
    | with_reducible apply Stays.wr
    | with_reducible apply Stays.raiseRing
    | with_reducible apply Stays.setBit
    | (extract_lets +onlyGivenNames t; refine Stays.cut (t := t) ?_ (fun _ => ?_); (on_goal 1 => dsimp -zeta only [t]); (on_goal 2 => clear_value t))
    | (extract_lets +onlyGivenNames t; clear_value t)
    | split

theorem Stays.wakeSide {z s a1} (h : Stays z s) : Stays z (State.wakeSide s a1) := by
  unfold State.wakeSide
  repeat' first
    | with_reducible assumption
    | with_reducible exact Stays.lit (by with_reducible assumption)
    | with_reducible apply Stays.send
    | split
    | intro _
    | fail_if_no_progress (with_reducible apply Stays.lit)

theorem Stays.frameOut {z s a1 a2} (h : Stays z s) : Stays z (State.frameOut s a1 a2) := by
  unfold State.frameOut
  repeat' first
    | with_reducible assumption
    | with_reducible exact Stays.lit (by with_reducible assumption)
    | with_reducible apply Stays.send
    | with_reducible apply Stays.wakeSide
    | (extract_lets +onlyGivenNames t; refine Stays.cut (t := t) ?_ (fun _ => ?_); (on_goal 1 => dsimp -zeta only [t]); (on_goal 2 => clear_value t))
    | (extract_lets +onlyGivenNames t; clear_value t)
    | split
    | fail_if_no_progress (with_reducible apply Stays.lit)

theorem Stays.stampSent {z s a1} (h : Stays z s) : Stays z (State.stampSent s a1) := by
  unfold State.stampSent
  repeat' first
    | with_reducible assumption
    | with_reducible exact Stays.lit (by with_reducible assumption)
    | split
    | intro _
    | fail_if_no_progress (with_reducible apply Stays.lit)

theorem Stays.sendOwn {z s a1 a2} (h : Stays z s) : Stays z (State.sendOwn s a1 a2) := by
  unfold State.sendOwn
  dsimp only
  split
  · exact h
  · split
    · rename_i t e
      split at e
      · cases e
      · exact (h.grantAt e).stampSent.frameOut
    · exact (Stays.lit h).noteAsked

theorem Stays.flushRing {z s} (h : Stays z s) : Stays z (State.flushRing s) := by
  unfold State.flushRing
  repeat' first
    | with_reducible assumption
    | with_reducible exact Stays.lit (by with_reducible assumption)
    | with_reducible apply Stays.sendOwn
    | (with_reducible refine Stays.foldl ?_ (fun _ _ _ => ?_))
    | (extract_lets +onlyGivenNames t; refine Stays.cut (t := t) ?_ (fun _ => ?_); (on_goal 1 => dsimp -zeta only [t]); (on_goal 2 => clear_value t))
    | (extract_lets +onlyGivenNames t; clear_value t)
    | split
    | intro _
    | fail_if_no_progress (with_reducible apply Stays.lit)

theorem Stays.control {z s a1 a2} (h : Stays z s) : Stays z (State.control s a1 a2) := by
  unfold State.control
  repeat' first
    | with_reducible assumption
    | with_reducible apply Stays.frameOut
    | with_reducible apply Stays.sendOwn

theorem Stays.sendBlock {z s a1 a2} (h : Stays z s) : Stays z (State.sendBlock s a1 a2) := by
  unfold State.sendBlock
  repeat' first
    | with_reducible assumption
    | with_reducible apply Stays.send
    | split

theorem Stays.trainLane {z s a1} (h : Stays z s) : Stays z (State.trainLane s a1) := by
  unfold State.trainLane
  repeat' first
    | with_reducible assumption
    | with_reducible exact Stays.lit (by with_reducible assumption)
    | with_reducible apply Stays.setLane
    | with_reducible apply Stays.setFld
    | with_reducible apply Stays.drew
    | with_reducible apply Stays.sendBlock
    | (extract_lets +onlyGivenNames t; refine Stays.cut (t := t) ?_ (fun _ => ?_); (on_goal 1 => dsimp -zeta only [t]); (on_goal 2 => clear_value t))
    | (extract_lets +onlyGivenNames t; clear_value t)
    | split
    | fail_if_no_progress (with_reducible apply Stays.lit)

theorem Stays.laneUp {z s a1} (h : Stays z s) : Stays z (State.laneUp s a1) := by
  unfold State.laneUp
  repeat' first
    | with_reducible assumption
    | with_reducible exact Stays.lit (by with_reducible assumption)
    | with_reducible apply Stays.setLane
    | with_reducible apply Stays.raiseRing
    | with_reducible apply Stays.setBit
    | with_reducible apply Stays.setFld
    | with_reducible apply Stays.setRing
    | (extract_lets +onlyGivenNames t; refine Stays.cut (t := t) ?_ (fun _ => ?_); (on_goal 1 => dsimp -zeta only [t]); (on_goal 2 => clear_value t))
    | (extract_lets +onlyGivenNames t; clear_value t)
    | split
    | fail_if_no_progress (with_reducible apply Stays.lit)

theorem Stays.trainRx {z s a1 a2 a3} (h : Stays z s) : Stays z (State.trainRx s a1 a2 a3) := by
  unfold State.trainRx
  repeat' first
    | with_reducible assumption
    | with_reducible exact Stays.lit (by with_reducible assumption)
    | with_reducible apply Stays.trainLane
    | with_reducible apply Stays.sendBlock
    | with_reducible apply Stays.setLane
    | with_reducible apply Stays.laneUp
    | (with_reducible refine Stays.foldl ?_ (fun _ _ _ => ?_))
    | (extract_lets +onlyGivenNames t; refine Stays.cut (t := t) ?_ (fun _ => ?_); (on_goal 1 => dsimp -zeta only [t]); (on_goal 2 => clear_value t))
    | (extract_lets +onlyGivenNames t; clear_value t)
    | split
    | intro _
    | fail_if_no_progress (with_reducible apply Stays.lit)

theorem Stays.feedGroup {z s a1} (h : Stays z s) : Stays z (State.feedGroup s a1) := by
  unfold State.feedGroup
  repeat' first
    | with_reducible assumption
    | with_reducible exact Stays.lit (by with_reducible assumption)
    | with_reducible apply Stays.forAll
    | with_reducible apply Stays.sendEstimate
    | with_reducible apply Stays.setVe
    | (with_reducible refine Stays.forAll ?_ (fun _ _ _ => ?_))
    | (extract_lets +onlyGivenNames t; refine Stays.cut (t := t) ?_ (fun _ => ?_); (on_goal 1 => dsimp -zeta only [t]); (on_goal 2 => clear_value t))
    | (extract_lets +onlyGivenNames t; clear_value t)
    | split
    | intro _
    | fail_if_no_progress (with_reducible apply Stays.lit)

theorem Stays.takeSample {z s a1 a2} (h : Stays z s) : Stays z (State.takeSample s a1 a2) := by
  unfold State.takeSample
  repeat' first
    | with_reducible assumption
    | with_reducible exact Stays.lit (by with_reducible assumption)
    | with_reducible apply Stays.feedGroup
    | with_reducible apply Stays.setBit
    | (extract_lets +onlyGivenNames t; refine Stays.cut (t := t) ?_ (fun _ => ?_); (on_goal 1 => dsimp -zeta only [t]); (on_goal 2 => clear_value t))
    | (extract_lets +onlyGivenNames t; clear_value t)
    | fail_if_no_progress (with_reducible apply Stays.lit)

theorem Stays.sampleOp {z s a1} (h : Stays z s) : Stays z (State.sampleOp s a1) := by
  unfold State.sampleOp
  repeat' first
    | with_reducible assumption
    | with_reducible exact Stays.lit (by with_reducible assumption)
    | with_reducible apply Stays.frameOut
    | with_reducible apply Stays.takeSample
    | (extract_lets +onlyGivenNames t; refine Stays.cut (t := t) ?_ (fun _ => ?_); (on_goal 1 => dsimp -zeta only [t]); (on_goal 2 => clear_value t))
    | (extract_lets +onlyGivenNames t; clear_value t)
    | split
    | fail_if_no_progress (with_reducible apply Stays.lit)

theorem Stays.sampleIn {z s a1} (h : Stays z s) : Stays z (State.sampleIn s a1) := by
  unfold State.sampleIn
  repeat' first
    | with_reducible assumption
    | with_reducible exact Stays.lit (by with_reducible assumption)
    | with_reducible apply Stays.takeSample
    | (extract_lets +onlyGivenNames t; refine Stays.cut (t := t) ?_ (fun _ => ?_); (on_goal 1 => dsimp -zeta only [t]); (on_goal 2 => clear_value t))
    | (extract_lets +onlyGivenNames t; clear_value t)
    | intro _
    | fail_if_no_progress (with_reducible apply Stays.lit)

theorem Stays.judgeCandidate {z s} (h : Stays z s) : Stays z (State.judgeCandidate s) := by
  unfold State.judgeCandidate
  repeat' first
    | with_reducible assumption
    | with_reducible exact Stays.lit (by with_reducible assumption)
    | (extract_lets +onlyGivenNames t; refine Stays.cut (t := t) ?_ (fun _ => ?_); (on_goal 1 => dsimp -zeta only [t]); (on_goal 2 => clear_value t))
    | (extract_lets +onlyGivenNames t; clear_value t)
    | split
    | fail_if_no_progress (with_reducible apply Stays.lit)

theorem Stays.holdRing {z s a1} (h : Stays z s) : Stays z (State.holdRing s a1) := by
  unfold State.holdRing
  repeat' first
    | with_reducible assumption
    | with_reducible exact Stays.lit (by with_reducible assumption)
    | with_reducible apply Stays.setRing
    | with_reducible apply Stays.raiseRing
    | with_reducible apply Stays.setFld
    | (extract_lets +onlyGivenNames t; refine Stays.cut (t := t) ?_ (fun _ => ?_); (on_goal 1 => dsimp -zeta only [t]); (on_goal 2 => clear_value t))
    | (extract_lets +onlyGivenNames t; clear_value t)
    | split
    | fail_if_no_progress (with_reducible apply Stays.lit)

theorem Stays.checkKeeper {z s} (h : Stays z s) : Stays z (State.checkKeeper s) := by
  unfold State.checkKeeper
  repeat' first
    | with_reducible assumption
    | with_reducible exact Stays.lit (by with_reducible assumption)
    | with_reducible apply Stays.holdRing
    | with_reducible apply Stays.setRing
    | (extract_lets +onlyGivenNames t; refine Stays.cut (t := t) ?_ (fun _ => ?_); (on_goal 1 => dsimp -zeta only [t]); (on_goal 2 => clear_value t))
    | (extract_lets +onlyGivenNames t; clear_value t)
    | split
    | fail_if_no_progress (with_reducible apply Stays.lit)

theorem Stays.keeperKnown {z s a1} (h : Stays z s) : Stays z (State.keeperKnown s a1) := by
  unfold State.keeperKnown
  try dsimp only
  repeat' first
    | with_reducible assumption
    | with_reducible exact Stays.lit (by with_reducible assumption)
    | with_reducible apply Stays.raiseRing
    | with_reducible apply Stays.setBit
    | with_reducible apply Stays.showNode
    | with_reducible apply Stays.setRing
    | with_reducible refine Stays.ite ?_ ?_
    | split
    | fail_if_no_progress (with_reducible apply Stays.lit)
    | (extract_lets +onlyGivenNames t; refine Stays.cut (t := t) ?_ (fun _ => ?_); (on_goal 1 => dsimp -zeta only [t]); (on_goal 2 => clear_value t))
    | (extract_lets +onlyGivenNames t; clear_value t)

theorem Stays.becomeKeeper {z s} (h : Stays z s) : Stays z (State.becomeKeeper s) := by
  unfold State.becomeKeeper
  repeat' first
    | with_reducible assumption
    | with_reducible exact Stays.lit (by with_reducible assumption)
    | with_reducible apply Stays.keeperKnown
    | with_reducible apply Stays.setBit
    | with_reducible apply Stays.setRing
    | (extract_lets +onlyGivenNames t; refine Stays.cut (t := t) ?_ (fun _ => ?_); (on_goal 1 => dsimp -zeta only [t]); (on_goal 2 => clear_value t))
    | (extract_lets +onlyGivenNames t; clear_value t)
    | split
    | fail_if_no_progress (with_reducible apply Stays.lit)

theorem Stays.electOp {z s} (h : Stays z s) : Stays z (State.electOp s) := by
  unfold State.electOp
  repeat' first
    | with_reducible assumption
    | with_reducible exact Stays.lit (by with_reducible assumption)
    | with_reducible apply Stays.becomeKeeper
    | with_reducible apply Stays.showNode
    | with_reducible apply Stays.checkKeeper
    | with_reducible apply Stays.keeperKnown
    | with_reducible apply Stays.judgeCandidate
    | (extract_lets +onlyGivenNames t; refine Stays.cut (t := t) ?_ (fun _ => ?_); (on_goal 1 => dsimp -zeta only [t]); (on_goal 2 => clear_value t))
    | (extract_lets +onlyGivenNames t; clear_value t)
    | split
    | fail_if_no_progress (with_reducible apply Stays.lit)

theorem Stays.gapIn {z s a1} (h : Stays z s) : Stays z (State.gapIn s a1) := by
  unfold State.gapIn
  repeat' first
    | with_reducible assumption
    | with_reducible exact Stays.lit (by with_reducible assumption)
    | with_reducible apply Stays.stageEntry
    | (extract_lets +onlyGivenNames t; refine Stays.cut (t := t) ?_ (fun _ => ?_); (on_goal 1 => dsimp -zeta only [t]); (on_goal 2 => clear_value t))
    | (extract_lets +onlyGivenNames t; clear_value t)
    | split
    | intro _
    | fail_if_no_progress (with_reducible apply Stays.lit)

theorem Stays.gapFrame {z s a1 a2} (h : Stays z s) : Stays z (State.gapFrame s a1 a2) := by
  unfold State.gapFrame
  repeat' first
    | with_reducible assumption
    | with_reducible apply Stays.frameOut
    | with_reducible apply Stays.sendOwn
    | with_reducible apply Stays.gapIn
    | (extract_lets +onlyGivenNames t; refine Stays.cut (t := t) ?_ (fun _ => ?_); (on_goal 1 => dsimp -zeta only [t]); (on_goal 2 => clear_value t))
    | (extract_lets +onlyGivenNames t; clear_value t)

theorem Stays.declareMissing {z s a1} (h : Stays z s) : Stays z (State.declareMissing s a1) := by
  unfold State.declareMissing
  repeat' first
    | with_reducible assumption
    | with_reducible apply Stays.showNode
    | with_reducible apply Stays.gapFrame
    | with_reducible apply Stays.raiseRing
    | with_reducible apply Stays.setBit

theorem Stays.hearMember {z s a1} (h : Stays z s) : Stays z (State.hearMember s a1) := by
  unfold State.hearMember
  repeat' first
    | with_reducible assumption
    | with_reducible apply Stays.gapFrame
    | with_reducible apply Stays.raiseRing
    | with_reducible apply Stays.setBit
    | split

theorem Stays.statusOp {z s} (h : Stays z s) : Stays z (State.statusOp s) := by
  unfold State.statusOp
  repeat' first
    | with_reducible assumption
    | with_reducible apply Stays.control
    | (extract_lets +onlyGivenNames t; refine Stays.cut (t := t) ?_ (fun _ => ?_); (on_goal 1 => dsimp -zeta only [t]); (on_goal 2 => clear_value t))
    | (extract_lets +onlyGivenNames t; clear_value t)
    | split
    | intro _

theorem Stays.statusIn {z s a1} (h : Stays z s) : Stays z (State.statusIn s a1) := by
  unfold State.statusIn
  repeat' first
    | with_reducible assumption
    | with_reducible exact Stays.lit (by with_reducible assumption)
    | with_reducible apply Stays.raiseRing
    | with_reducible apply Stays.setRing
    | with_reducible apply Stays.judgeCandidate
    | with_reducible apply Stays.setNode
    | with_reducible apply Stays.setBit
    | with_reducible apply Stays.showNode
    | with_reducible apply Stays.hearMember
    | (extract_lets +onlyGivenNames t; refine Stays.cut (t := t) ?_ (fun _ => ?_); (on_goal 1 => dsimp -zeta only [t]); (on_goal 2 => clear_value t))
    | (extract_lets +onlyGivenNames t; clear_value t)
    | split
    | intro _
    | fail_if_no_progress (with_reducible apply Stays.lit)

theorem Stays.unwrapNow {z s} (h : Stays z s) : Stays z (State.unwrapNow s) := by
  unfold State.unwrapNow
  repeat' first
    | with_reducible assumption
    | with_reducible exact Stays.lit (by with_reducible assumption)
    | with_reducible apply Stays.setBit
    | with_reducible apply Stays.raiseRing
    | (extract_lets +onlyGivenNames t; refine Stays.cut (t := t) ?_ (fun _ => ?_); (on_goal 1 => dsimp -zeta only [t]); (on_goal 2 => clear_value t))
    | (extract_lets +onlyGivenNames t; clear_value t)
    | split
    | fail_if_no_progress (with_reducible apply Stays.lit)

theorem Stays.beaconOp {z s} (h : Stays z s) : Stays z (State.beaconOp s) := by
  unfold State.beaconOp
  repeat' first
    | with_reducible assumption
    | with_reducible exact Stays.lit (by with_reducible assumption)
    | with_reducible apply Stays.frameOut
    | with_reducible apply Stays.unwrapNow
    | (extract_lets +onlyGivenNames t; refine Stays.cut (t := t) ?_ (fun _ => ?_); (on_goal 1 => dsimp -zeta only [t]); (on_goal 2 => clear_value t))
    | (extract_lets +onlyGivenNames t; clear_value t)
    | split
    | fail_if_no_progress (with_reducible apply Stays.lit)

theorem Stays.steer {z s a1 a2} (h : Stays z s) : Stays z (State.steer s a1 a2) := by
  unfold State.steer
  try dsimp only
  repeat' first
    | with_reducible assumption
    | with_reducible exact Stays.lit (by with_reducible assumption)
    | with_reducible apply Stays.wr
    | with_reducible apply Stays.holdRing
    | with_reducible apply Stays.raiseRing
    | with_reducible apply Stays.setBit
    | with_reducible refine Stays.ite ?_ ?_
    | split
    | intro _
    | fail_if_no_progress (with_reducible apply Stays.lit)
    | (extract_lets +onlyGivenNames t; refine Stays.cut (t := t) ?_ (fun _ => ?_); (on_goal 1 => dsimp -zeta only [t]); (on_goal 2 => clear_value t))
    | (extract_lets +onlyGivenNames t; clear_value t)

theorem Stays.takeMissing {z s a1} (h : Stays z s) : Stays z (State.takeMissing s a1) := by
  unfold State.takeMissing
  repeat' first
    | with_reducible assumption
    | with_reducible apply Stays.wr
    | with_reducible apply Stays.raiseRing
    | (extract_lets +onlyGivenNames t; refine Stays.cut (t := t) ?_ (fun _ => ?_); (on_goal 1 => dsimp -zeta only [t]); (on_goal 2 => clear_value t))
    | (extract_lets +onlyGivenNames t; clear_value t)
    | split

theorem Stays.beaconWrapped {z s a1} (h : Stays z s) : Stays z (State.beaconWrapped s a1) := by
  unfold State.beaconWrapped
  repeat' first
    | with_reducible assumption
    | with_reducible apply Stays.setBit
    | with_reducible exact Stays.lit (by with_reducible assumption)
    | split
    | fail_if_no_progress (with_reducible apply Stays.lit)

theorem Stays.beaconKeeper {z s a1} (h : Stays z s) : Stays z (State.beaconKeeper s a1) := by
  unfold State.beaconKeeper
  repeat' first
    | with_reducible assumption
    | with_reducible exact Stays.lit (by with_reducible assumption)
    | with_reducible apply Stays.setBit
    | with_reducible apply Stays.takeMissing
    | with_reducible apply Stays.keeperKnown
    | with_reducible apply Stays.beaconWrapped
    | with_reducible apply Stays.wr
    | (extract_lets +onlyGivenNames t; refine Stays.cut (t := t) ?_ (fun _ => ?_); (on_goal 1 => dsimp -zeta only [t]); (on_goal 2 => clear_value t))
    | (extract_lets +onlyGivenNames t; clear_value t)
    | intro _
    | fail_if_no_progress (with_reducible apply Stays.lit)

theorem Stays.otherGroup {z s} (h : Stays z s) : Stays z (State.otherGroup s) := by
  unfold State.otherGroup
  repeat' first
    | with_reducible assumption
    | with_reducible exact Stays.lit (by with_reducible assumption)
    | with_reducible apply Stays.setRing
    | (extract_lets +onlyGivenNames t; refine Stays.cut (t := t) ?_ (fun _ => ?_); (on_goal 1 => dsimp -zeta only [t]); (on_goal 2 => clear_value t))
    | (extract_lets +onlyGivenNames t; clear_value t)
    | split
    | fail_if_no_progress (with_reducible apply Stays.lit)

theorem Stays.beaconIn {z s a1 a2 a3} (h : Stays z s) : Stays z (State.beaconIn s a1 a2 a3) := by
  unfold State.beaconIn
  repeat' first
    | with_reducible assumption
    | with_reducible apply Stays.otherGroup
    | with_reducible apply Stays.raiseRing
    | with_reducible apply Stays.setRing
    | with_reducible apply Stays.beaconKeeper
    | with_reducible apply Stays.steer
    | with_reducible apply Stays.showNode
    | with_reducible apply Stays.unwrapNow
    | with_reducible apply Stays.checkKeeper
    | (extract_lets +onlyGivenNames t; refine Stays.cut (t := t) ?_ (fun _ => ?_); (on_goal 1 => dsimp -zeta only [t]); (on_goal 2 => clear_value t))
    | (extract_lets +onlyGivenNames t; clear_value t)
    | split

theorem Stays.forward {z s a1 a2 a3 a4} (h : Stays z s) : Stays z (State.forward s a1 a2 a3 a4) := by
  unfold State.forward
  repeat' first
    | with_reducible assumption
    | with_reducible exact Stays.lit (by with_reducible assumption)
    | with_reducible apply Stays.frameOut
    | (extract_lets +onlyGivenNames t; refine Stays.cut (t := t) ?_ (fun _ => ?_); (on_goal 1 => dsimp -zeta only [t]); (on_goal 2 => clear_value t))
    | (extract_lets +onlyGivenNames t; clear_value t)
    | split
    | fail_if_no_progress (with_reducible apply Stays.lit)

theorem Stays.consume {z s a1 a2 a3} (h : Stays z s) : Stays z (State.consume s a1 a2 a3) := by
  unfold State.consume
  repeat' first
    | with_reducible assumption
    | with_reducible exact Stays.lit (by with_reducible assumption)
    | (extract_lets +onlyGivenNames t; refine Stays.cut (t := t) ?_ (fun _ => ?_); (on_goal 1 => dsimp -zeta only [t]); (on_goal 2 => clear_value t))
    | (extract_lets +onlyGivenNames t; clear_value t)
    | split
    | fail_if_no_progress (with_reducible apply Stays.lit)

theorem Stays.route {z s a1 a2 a3} (h : Stays z s) : Stays z (State.route s a1 a2 a3) := by
  unfold State.route
  repeat' first
    | with_reducible assumption
    | with_reducible apply Stays.consume
    | with_reducible apply Stays.forward
    | (extract_lets +onlyGivenNames t; refine Stays.cut (t := t) ?_ (fun _ => ?_); (on_goal 1 => dsimp -zeta only [t]); (on_goal 2 => clear_value t))
    | (extract_lets +onlyGivenNames t; clear_value t)
    | split

theorem Stays.frameIn {z s a1 a2 a3 a4} (h : Stays z s) : Stays z (State.frameIn s a1 a2 a3 a4) := by
  unfold State.frameIn
  repeat' first
    | with_reducible assumption
    | with_reducible apply Stays.bump
    | with_reducible apply Stays.route
    | (extract_lets +onlyGivenNames t; refine Stays.cut (t := t) ?_ (fun _ => ?_); (on_goal 1 => dsimp -zeta only [t]); (on_goal 2 => clear_value t))
    | (extract_lets +onlyGivenNames t; clear_value t)
    | split

theorem Stays.takeFrame {z s w x t} (h : Stays z s) (e : State.takeFrame s w = some (x, t)) : Stays z t := by
  unfold State.takeFrame at e
  split at e
  · split at e
    · cases e; with_reducible exact Stays.lit h
    · cases e
  · cases e

theorem Stays.delayReqOp {z s} (h : Stays z s) : Stays z (State.delayReqOp s) := by
  unfold State.delayReqOp
  repeat' first
    | with_reducible assumption
    | with_reducible exact Stays.lit (by with_reducible assumption)
    | with_reducible apply Stays.frameOut
    | with_reducible apply Stays.setBit
    | with_reducible apply Stays.sendOwn
    | (extract_lets +onlyGivenNames t; refine Stays.cut (t := t) ?_ (fun _ => ?_); (on_goal 1 => dsimp -zeta only [t]); (on_goal 2 => clear_value t))
    | (extract_lets +onlyGivenNames t; clear_value t)
    | split
    | fail_if_no_progress (with_reducible apply Stays.lit)

theorem Stays.delayReqIn {z s a1} (h : Stays z s) : Stays z (State.delayReqIn s a1) := by
  unfold State.delayReqIn
  repeat' first
    | with_reducible assumption
    | with_reducible apply Stays.frameOut
    | with_reducible apply Stays.sendOwn

theorem Stays.delayRespIn {z s a1} (h : Stays z s) : Stays z (State.delayRespIn s a1) := by
  unfold State.delayRespIn
  repeat' first
    | with_reducible assumption
    | with_reducible exact Stays.lit (by with_reducible assumption)
    | with_reducible apply Stays.setBit
    | (extract_lets +onlyGivenNames t; refine Stays.cut (t := t) ?_ (fun _ => ?_); (on_goal 1 => dsimp -zeta only [t]); (on_goal 2 => clear_value t))
    | (extract_lets +onlyGivenNames t; clear_value t)
    | split
    | intro _
    | fail_if_no_progress (with_reducible apply Stays.lit)

theorem Stays.noteBreak {z s a1} (h : Stays z s) : Stays z (State.noteBreak s a1) := by
  unfold State.noteBreak
  repeat' first
    | with_reducible assumption
    | with_reducible exact Stays.lit (by with_reducible assumption)
    | with_reducible apply Stays.setBit
    | with_reducible apply Stays.raiseRing
    | (extract_lets +onlyGivenNames t; refine Stays.cut (t := t) ?_ (fun _ => ?_); (on_goal 1 => dsimp -zeta only [t]); (on_goal 2 => clear_value t))
    | (extract_lets +onlyGivenNames t; clear_value t)
    | split
    | intro _
    | fail_if_no_progress (with_reducible apply Stays.lit)

theorem Stays.unwrapFrom {z s a1 a2} (h : Stays z s) : Stays z (State.unwrapFrom s a1 a2) := by
  unfold State.unwrapFrom
  repeat' first
    | with_reducible assumption
    | with_reducible exact Stays.lit (by with_reducible assumption)
    | with_reducible apply Stays.setBit
    | (extract_lets +onlyGivenNames t; refine Stays.cut (t := t) ?_ (fun _ => ?_); (on_goal 1 => dsimp -zeta only [t]); (on_goal 2 => clear_value t))
    | (extract_lets +onlyGivenNames t; clear_value t)
    | split
    | intro _
    | fail_if_no_progress (with_reducible apply Stays.lit)

theorem Stays.wrapEnd {z s a1 a2} (h : Stays z s) : Stays z (State.wrapEnd s a1 a2) := by
  unfold State.wrapEnd
  repeat' first
    | with_reducible assumption
    | with_reducible exact Stays.lit (by with_reducible assumption)
    | with_reducible apply Stays.raiseRing
    | with_reducible apply Stays.setBit
    | with_reducible apply Stays.noteBreak
    | (extract_lets +onlyGivenNames t; refine Stays.cut (t := t) ?_ (fun _ => ?_); (on_goal 1 => dsimp -zeta only [t]); (on_goal 2 => clear_value t))
    | (extract_lets +onlyGivenNames t; clear_value t)
    | split
    | fail_if_no_progress (with_reducible apply Stays.lit)

end Sys2Proof.Machine
end

