-- ==== Sys2Proof/Laws/StaysOps3.lean ====
section
/-!
SUPPORT. What no operation changes (see Laws/Stays.lean), part 3 of 4: one lemma per operation, an operation after those it
calls, from State.directionLost to State.mbWordWrite.
-/

namespace Sys2Proof.Machine

set_option maxRecDepth 20000
set_option linter.unusedTactic false
set_option linter.unreachableTactic false
set_option linter.unusedVariables false
set_option linter.tactic.unusedName false

theorem Stays.directionLost {z s a1} (h : Stays z s) : Stays z (State.directionLost s a1) := by
  unfold State.directionLost
  repeat' first
    | with_reducible assumption
    | with_reducible exact Stays.lit (by with_reducible assumption)
    | with_reducible apply Stays.setLane
    | with_reducible apply Stays.raiseRing
    | with_reducible apply Stays.setFld
    | with_reducible apply Stays.setBit
    | with_reducible apply Stays.control
    | with_reducible apply Stays.wrapEnd
    | (extract_lets +onlyGivenNames t; refine Stays.cut (t := t) ?_ (fun _ => ?_); (on_goal 1 => dsimp -zeta only [t]); (on_goal 2 => clear_value t))
    | (extract_lets +onlyGivenNames t; clear_value t)
    | split
    | fail_if_no_progress (with_reducible apply Stays.lit)

theorem Stays.wrapIn {z s a1} (h : Stays z s) : Stays z (State.wrapIn s a1) := by
  unfold State.wrapIn
  repeat' first
    | with_reducible assumption
    | with_reducible apply Stays.wrapEnd
    | with_reducible apply Stays.setBit
    | with_reducible apply Stays.noteBreak
    | split

theorem Stays.sendUnwrap {z s a1} (h : Stays z s) : Stays z (State.sendUnwrap s a1) := by
  unfold State.sendUnwrap
  repeat' first
    | with_reducible assumption
    | with_reducible exact Stays.lit (by with_reducible assumption)
    | with_reducible apply Stays.control
    | with_reducible apply Stays.unwrapFrom
    | split
    | intro _
    | fail_if_no_progress (with_reducible apply Stays.lit)

theorem Stays.directionBack {z s a1} (h : Stays z s) : Stays z (State.directionBack s a1) := by
  unfold State.directionBack
  repeat' first
    | with_reducible assumption
    | with_reducible exact Stays.lit (by with_reducible assumption)
    | with_reducible apply Stays.setLane
    | with_reducible apply Stays.setFld
    | with_reducible apply Stays.setBit
    | with_reducible apply Stays.raiseRing
    | with_reducible apply Stays.delayReqOp
    | with_reducible apply Stays.control
    | with_reducible apply Stays.sendUnwrap
    | (extract_lets +onlyGivenNames t; refine Stays.cut (t := t) ?_ (fun _ => ?_); (on_goal 1 => dsimp -zeta only [t]); (on_goal 2 => clear_value t))
    | (extract_lets +onlyGivenNames t; clear_value t)
    | split
    | fail_if_no_progress (with_reducible apply Stays.lit)

theorem Stays.unwrapIn {z s a1} (h : Stays z s) : Stays z (State.unwrapIn s a1) := by
  unfold State.unwrapIn
  repeat' first
    | with_reducible assumption
    | with_reducible exact Stays.lit (by with_reducible assumption)
    | with_reducible apply Stays.unwrapFrom
    | with_reducible apply Stays.sendUnwrap
    | (extract_lets +onlyGivenNames t; refine Stays.cut (t := t) ?_ (fun _ => ?_); (on_goal 1 => dsimp -zeta only [t]); (on_goal 2 => clear_value t))
    | (extract_lets +onlyGivenNames t; clear_value t)
    | fail_if_no_progress (with_reducible apply Stays.lit)
    | split

theorem Stays.keeperLostOp {z s} (h : Stays z s) : Stays z (State.keeperLostOp s) := by
  unfold State.keeperLostOp
  repeat' first
    | with_reducible assumption
    | with_reducible exact Stays.lit (by with_reducible assumption)
    | with_reducible apply Stays.setNode
    | with_reducible apply Stays.raiseRing
    | with_reducible apply Stays.setBit
    | with_reducible apply Stays.judgeCandidate
    | (extract_lets +onlyGivenNames t; refine Stays.cut (t := t) ?_ (fun _ => ?_); (on_goal 1 => dsimp -zeta only [t]); (on_goal 2 => clear_value t))
    | (extract_lets +onlyGivenNames t; clear_value t)
    | split
    | fail_if_no_progress (with_reducible apply Stays.lit)

theorem Stays.leaveGroup {z s a1} (h : Stays z s) : Stays z (State.leaveGroup s a1) := by
  unfold State.leaveGroup
  repeat' first
    | with_reducible assumption
    | with_reducible exact Stays.lit (by with_reducible assumption)
    | with_reducible apply Stays.control
    | with_reducible apply Stays.setBit
    | with_reducible apply Stays.setRing
    | with_reducible apply Stays.wr
    | (with_reducible refine Stays.forAll ?_ (fun _ _ _ => ?_))
    | with_reducible apply Stays.sendEstimate
    | (extract_lets +onlyGivenNames t; refine Stays.cut (t := t) ?_ (fun _ => ?_); (on_goal 1 => dsimp -zeta only [t]); (on_goal 2 => clear_value t))
    | (extract_lets +onlyGivenNames t; clear_value t)
    | split
    | fail_if_no_progress (with_reducible apply Stays.lit)

theorem Stays.startTrain {z s} (h : Stays z s) : Stays z (State.startTrain s) := by
  unfold State.startTrain
  try dsimp only
  repeat' first
    | with_reducible assumption
    | with_reducible exact Stays.lit (by with_reducible assumption)
    | with_reducible apply Stays.showNode
    | with_reducible apply Stays.setRing
    | with_reducible refine Stays.ite ?_ ?_
    | split
    | fail_if_no_progress (with_reducible apply Stays.lit)
    | (extract_lets +onlyGivenNames t; refine Stays.cut (t := t) ?_ (fun _ => ?_); (on_goal 1 => dsimp -zeta only [t]); (on_goal 2 => clear_value t))
    | (extract_lets +onlyGivenNames t; clear_value t)

theorem Stays.trainStartOp {z s} (h : Stays z s) : Stays z (State.trainStartOp s) := by
  unfold State.trainStartOp
  repeat' first
    | with_reducible assumption
    | with_reducible exact Stays.lit (by with_reducible assumption)
    | with_reducible apply Stays.trainLane
    | (extract_lets +onlyGivenNames t; refine Stays.cut (t := t) ?_ (fun _ => ?_); (on_goal 1 => dsimp -zeta only [t]); (on_goal 2 => clear_value t))
    | (extract_lets +onlyGivenNames t; clear_value t)
    | split
    | fail_if_no_progress (with_reducible apply Stays.lit)

theorem Stays.rejoinOp {z s} (h : Stays z s) : Stays z (State.rejoinOp s) := by
  unfold State.rejoinOp
  repeat' first
    | with_reducible assumption
    | with_reducible exact Stays.lit (by with_reducible assumption)
    | with_reducible apply Stays.setBit
    | with_reducible apply Stays.setRing
    | with_reducible apply Stays.startTrain
    | (extract_lets +onlyGivenNames t; refine Stays.cut (t := t) ?_ (fun _ => ?_); (on_goal 1 => dsimp -zeta only [t]); (on_goal 2 => clear_value t))
    | (extract_lets +onlyGivenNames t; clear_value t)
    | split
    | fail_if_no_progress (with_reducible apply Stays.lit)

theorem Stays.joinOp {z s a1} (h : Stays z s) : Stays z (State.joinOp s a1) := by
  unfold State.joinOp
  repeat' first
    | with_reducible assumption
    | with_reducible exact Stays.lit (by with_reducible assumption)
    | with_reducible apply Stays.wr
    | with_reducible apply Stays.leaveGroup
    | with_reducible apply Stays.setRing
    | with_reducible apply Stays.startTrain
    | (extract_lets +onlyGivenNames t; refine Stays.cut (t := t) ?_ (fun _ => ?_); (on_goal 1 => dsimp -zeta only [t]); (on_goal 2 => clear_value t))
    | (extract_lets +onlyGivenNames t; clear_value t)
    | split
    | fail_if_no_progress (with_reducible apply Stays.lit)

theorem Stays.broadcastReset {z s} (h : Stays z s) : Stays z (State.broadcastReset s) := by
  unfold State.broadcastReset
  repeat' first
    | with_reducible assumption
    | with_reducible exact Stays.lit (by with_reducible assumption)
    | with_reducible apply Stays.control
    | (extract_lets +onlyGivenNames t; refine Stays.cut (t := t) ?_ (fun _ => ?_); (on_goal 1 => dsimp -zeta only [t]); (on_goal 2 => clear_value t))
    | (extract_lets +onlyGivenNames t; clear_value t)
    | fail_if_no_progress (with_reducible apply Stays.lit)

theorem Stays.grpresetOp {z s} (h : Stays z s) : Stays z (State.grpresetOp s) := by
  unfold State.grpresetOp
  repeat' first
    | with_reducible assumption
    | with_reducible apply Stays.broadcastReset
    | with_reducible apply Stays.control
    | split

theorem Stays.groupresetIn {z s a1} (h : Stays z s) : Stays z (State.groupresetIn s a1) := by
  unfold State.groupresetIn
  repeat' first
    | with_reducible assumption
    | with_reducible exact Stays.lit (by with_reducible assumption)
    | with_reducible apply Stays.broadcastReset
    | (extract_lets +onlyGivenNames t; refine Stays.cut (t := t) ?_ (fun _ => ?_); (on_goal 1 => dsimp -zeta only [t]); (on_goal 2 => clear_value t))
    | (extract_lets +onlyGivenNames t; clear_value t)
    | split
    | fail_if_no_progress (with_reducible apply Stays.lit)

theorem Stays.quiesceGroupFed {z s} (h : Stays z s) : Stays z (State.quiesceGroupFed s) := by
  unfold State.quiesceGroupFed
  repeat' first
    | with_reducible assumption
    | with_reducible apply Stays.quiesceChan
    | (with_reducible refine Stays.foldl ?_ (fun _ _ _ => ?_))
    | intro _

theorem Stays.groupResetOp {z s} (h : Stays z s) : Stays z (State.groupResetOp s) := by
  unfold State.groupResetOp
  repeat' first
    | with_reducible assumption
    | with_reducible exact Stays.lit (by with_reducible assumption)
    | with_reducible apply Stays.raiseRing
    | with_reducible apply Stays.setBit
    | with_reducible apply Stays.quiesceGroupFed
    | with_reducible apply Stays.sleepTo
    | with_reducible apply Stays.modIsland
    | (extract_lets +onlyGivenNames t; refine Stays.cut (t := t) ?_ (fun _ => ?_); (on_goal 1 => dsimp -zeta only [t]); (on_goal 2 => clear_value t))
    | (extract_lets +onlyGivenNames t; clear_value t)
    | split
    | intro _
    | fail_if_no_progress (with_reducible apply Stays.lit)

theorem Stays.quiesced {z s a1} (h : Stays z s) : Stays z (State.quiesced s a1) := by
  unfold State.quiesced
  repeat' first
    | with_reducible assumption
    | with_reducible exact Stays.lit (by with_reducible assumption)
    | with_reducible apply Stays.setChn
    | with_reducible apply Stays.stageRecord
    | with_reducible apply Stays.raiseQue
    | (extract_lets +onlyGivenNames t; refine Stays.cut (t := t) ?_ (fun _ => ?_); (on_goal 1 => dsimp -zeta only [t]); (on_goal 2 => clear_value t))
    | (extract_lets +onlyGivenNames t; clear_value t)
    | split
    | fail_if_no_progress (with_reducible apply Stays.lit)

theorem Stays.adoptRun {z s} (h : Stays z s) : Stays z (State.adoptRun s) := by
  unfold State.adoptRun
  repeat' first
    | with_reducible assumption
    | with_reducible exact Stays.lit (by with_reducible assumption)
    | with_reducible apply Stays.raiseRing
    | with_reducible apply Stays.setBit
    | with_reducible apply Stays.resumeChan
    | with_reducible apply Stays.quiesceChan
    | with_reducible apply Stays.quiesced
    | (with_reducible refine Stays.foldl ?_ (fun _ _ _ => ?_))
    | (extract_lets +onlyGivenNames t; refine Stays.cut (t := t) ?_ (fun _ => ?_); (on_goal 1 => dsimp -zeta only [t]); (on_goal 2 => clear_value t))
    | (extract_lets +onlyGivenNames t; clear_value t)
    | split
    | intro _
    | fail_if_no_progress (with_reducible apply Stays.lit)

theorem Stays.fetchRequest {z s a1} (h : Stays z s) : Stays z (State.fetchRequest s a1) := by
  unfold State.fetchRequest
  repeat' first
    | with_reducible assumption
    | with_reducible apply Stays.control

theorem Stays.beginFetch {z s} (h : Stays z s) : Stays z (State.beginFetch s) := by
  unfold State.beginFetch
  repeat' first
    | with_reducible assumption
    | with_reducible exact Stays.lit (by with_reducible assumption)
    | with_reducible apply Stays.beginLoad
    | with_reducible apply Stays.fetchRequest
    | with_reducible apply Stays.setBit
    | (extract_lets +onlyGivenNames t; refine Stays.cut (t := t) ?_ (fun _ => ?_); (on_goal 1 => dsimp -zeta only [t]); (on_goal 2 => clear_value t))
    | (extract_lets +onlyGivenNames t; clear_value t)
    | split
    | fail_if_no_progress (with_reducible apply Stays.lit)

theorem Stays.fetchOpRing {z s} (h : Stays z s) : Stays z (State.fetchOpRing s) := by
  unfold State.fetchOpRing
  repeat' first
    | with_reducible assumption
    | with_reducible exact Stays.lit (by with_reducible assumption)
    | with_reducible apply Stays.requestWork
    | with_reducible apply Stays.raiseRing
    | (extract_lets +onlyGivenNames t; refine Stays.cut (t := t) ?_ (fun _ => ?_); (on_goal 1 => dsimp -zeta only [t]); (on_goal 2 => clear_value t))
    | (extract_lets +onlyGivenNames t; clear_value t)
    | split
    | fail_if_no_progress (with_reducible apply Stays.lit)

theorem Stays.fetchFails {z s} (h : Stays z s) : Stays z (State.fetchFails s) := by
  unfold State.fetchFails
  repeat' first
    | with_reducible assumption
    | with_reducible exact Stays.lit (by with_reducible assumption)
    | with_reducible apply Stays.setStage
    | with_reducible apply Stays.dropStaged
    | with_reducible apply Stays.raiseRing
    | with_reducible apply Stays.setBit
    | (extract_lets +onlyGivenNames t; refine Stays.cut (t := t) ?_ (fun _ => ?_); (on_goal 1 => dsimp -zeta only [t]); (on_goal 2 => clear_value t))
    | (extract_lets +onlyGivenNames t; clear_value t)
    | fail_if_no_progress (with_reducible apply Stays.lit)

theorem Stays.quiesceUnits {z s a1} (h : Stays z s) : Stays z (State.quiesceUnits s a1) := by
  unfold State.quiesceUnits
  repeat' first
    | with_reducible assumption
    | with_reducible apply Stays.quiesceChan
    | (with_reducible refine Stays.foldl ?_ (fun _ _ _ => ?_))
    | (extract_lets +onlyGivenNames t; refine Stays.cut (t := t) ?_ (fun _ => ?_); (on_goal 1 => dsimp -zeta only [t]); (on_goal 2 => clear_value t))
    | (extract_lets +onlyGivenNames t; clear_value t)
    | intro _

theorem Stays.fetchComplete {z s a1} (h : Stays z s) : Stays z (State.fetchComplete s a1) := by
  unfold State.fetchComplete
  repeat' first
    | with_reducible assumption
    | with_reducible exact Stays.lit (by with_reducible assumption)
    | with_reducible apply Stays.setBit
    | with_reducible apply Stays.fetchFails
    | with_reducible apply Stays.verifyFails
    | with_reducible apply Stays.setStage
    | with_reducible apply Stays.quiesceUnits
    | with_reducible apply Stays.raiseRing
    | with_reducible apply Stays.raiseArm
    | with_reducible apply Stays.commitDone
    | with_reducible apply Stays.requestWork
    | with_reducible apply Stays.commitRefused
    | (extract_lets +onlyGivenNames t; refine Stays.cut (t := t) ?_ (fun _ => ?_); (on_goal 1 => dsimp -zeta only [t]); (on_goal 2 => clear_value t))
    | (extract_lets +onlyGivenNames t; clear_value t)
    | split
    | fail_if_no_progress (with_reducible apply Stays.lit)

theorem Stays.armatureIn {z s a1} (h : Stays z s) : Stays z (State.armatureIn s a1) := by
  unfold State.armatureIn
  repeat' first
    | with_reducible assumption
    | with_reducible exact Stays.lit (by with_reducible assumption)
    | with_reducible apply Stays.fetchRequest
    | with_reducible apply Stays.fetchComplete
    | (extract_lets +onlyGivenNames t; refine Stays.cut (t := t) ?_ (fun _ => ?_); (on_goal 1 => dsimp -zeta only [t]); (on_goal 2 => clear_value t))
    | (extract_lets +onlyGivenNames t; clear_value t)
    | split
    | fail_if_no_progress (with_reducible apply Stays.lit)

theorem Stays.sendImage {z s a1 a2} (h : Stays z s) : Stays z (State.sendImage s a1 a2) := by
  unfold State.sendImage
  repeat' first
    | with_reducible assumption
    | with_reducible apply Stays.frameOut
    | with_reducible apply Stays.sendOwn
    | (with_reducible refine Stays.foldl ?_ (fun _ _ _ => ?_))
    | (extract_lets +onlyGivenNames t; refine Stays.cut (t := t) ?_ (fun _ => ?_); (on_goal 1 => dsimp -zeta only [t]); (on_goal 2 => clear_value t))
    | (extract_lets +onlyGivenNames t; clear_value t)
    | split
    | intro _

theorem Stays.beginServe {z s} (h : Stays z s) : Stays z (State.beginServe s) := by
  unfold State.beginServe
  repeat' first
    | with_reducible assumption
    | with_reducible exact Stays.lit (by with_reducible assumption)
    | with_reducible apply Stays.sendImage
    | (extract_lets +onlyGivenNames t; refine Stays.cut (t := t) ?_ (fun _ => ?_); (on_goal 1 => dsimp -zeta only [t]); (on_goal 2 => clear_value t))
    | (extract_lets +onlyGivenNames t; clear_value t)
    | split
    | fail_if_no_progress (with_reducible apply Stays.lit)

theorem Stays.fetchreqIn {z s a1} (h : Stays z s) : Stays z (State.fetchreqIn s a1) := by
  unfold State.fetchreqIn
  repeat' first
    | with_reducible assumption
    | with_reducible exact Stays.lit (by with_reducible assumption)
    | with_reducible apply Stays.requestWork
    | (extract_lets +onlyGivenNames t; refine Stays.cut (t := t) ?_ (fun _ => ?_); (on_goal 1 => dsimp -zeta only [t]); (on_goal 2 => clear_value t))
    | (extract_lets +onlyGivenNames t; clear_value t)
    | split
    | fail_if_no_progress (with_reducible apply Stays.lit)

theorem Stays.fetchStallOp {z s} (h : Stays z s) : Stays z (State.fetchStallOp s) := by
  unfold State.fetchStallOp
  repeat' first
    | with_reducible assumption
    | with_reducible apply Stays.fetchFails
    | split

theorem Stays.fetchRetryOp {z s} (h : Stays z s) : Stays z (State.fetchRetryOp s) := by
  unfold State.fetchRetryOp
  repeat' first
    | with_reducible assumption
    | with_reducible exact Stays.lit (by with_reducible assumption)
    | with_reducible apply Stays.fetchOpRing
    | (extract_lets +onlyGivenNames t; refine Stays.cut (t := t) ?_ (fun _ => ?_); (on_goal 1 => dsimp -zeta only [t]); (on_goal 2 => clear_value t))
    | (extract_lets +onlyGivenNames t; clear_value t)
    | split
    | fail_if_no_progress (with_reducible apply Stays.lit)

theorem Stays.beginEcho {z s} (h : Stays z s) : Stays z (State.beginEcho s) := by
  unfold State.beginEcho
  repeat' first
    | with_reducible assumption
    | with_reducible exact Stays.lit (by with_reducible assumption)
    | with_reducible apply Stays.frameOut
    | with_reducible apply Stays.sendOwn
    | (extract_lets +onlyGivenNames t; refine Stays.cut (t := t) ?_ (fun _ => ?_); (on_goal 1 => dsimp -zeta only [t]); (on_goal 2 => clear_value t))
    | (extract_lets +onlyGivenNames t; clear_value t)
    | fail_if_no_progress (with_reducible apply Stays.lit)

theorem Stays.echoIn {z s a1} (h : Stays z s) : Stays z (State.echoIn s a1) := by
  unfold State.echoIn
  repeat' first
    | with_reducible assumption
    | with_reducible exact Stays.lit (by with_reducible assumption)
    | with_reducible apply Stays.frameOut
    | with_reducible apply Stays.sendOwn
    | (extract_lets +onlyGivenNames t; refine Stays.cut (t := t) ?_ (fun _ => ?_); (on_goal 1 => dsimp -zeta only [t]); (on_goal 2 => clear_value t))
    | (extract_lets +onlyGivenNames t; clear_value t)
    | split
    | fail_if_no_progress (with_reducible apply Stays.lit)

theorem Stays.startReady {z s} (h : Stays z s) : Stays z (State.startReady s) := by
  unfold State.startReady
  repeat' first
    | with_reducible assumption
    | with_reducible exact Stays.lit (by with_reducible assumption)
    | with_reducible apply Stays.setBit
    | with_reducible apply Stays.startRecast
    | with_reducible apply Stays.showNrg
    | with_reducible apply Stays.beginServe
    | with_reducible apply Stays.beginFetch
    | with_reducible apply Stays.beginEcho
    | (with_reducible refine Stays.foldl ?_ (fun _ _ _ => ?_))
    | (extract_lets +onlyGivenNames t; refine Stays.cut (t := t) ?_ (fun _ => ?_); (on_goal 1 => dsimp -zeta only [t]); (on_goal 2 => clear_value t))
    | (extract_lets +onlyGivenNames t; clear_value t)
    | split
    | intro _
    | fail_if_no_progress (with_reducible apply Stays.lit)

theorem Stays.discardAllRecords {z s} (h : Stays z s) : Stays z (State.discardAllRecords s) := by
  unfold State.discardAllRecords
  repeat' first
    | with_reducible assumption
    | with_reducible exact Stays.lit (by with_reducible assumption)
    | with_reducible apply Stays.bumpBy
    | with_reducible apply Stays.forAll
    | with_reducible apply Stays.setHs
    | (with_reducible refine Stays.forAll ?_ (fun _ _ _ => ?_))
    | (extract_lets +onlyGivenNames t; refine Stays.cut (t := t) ?_ (fun _ => ?_); (on_goal 1 => dsimp -zeta only [t]); (on_goal 2 => clear_value t))
    | (extract_lets +onlyGivenNames t; clear_value t)
    | intro _
    | fail_if_no_progress (with_reducible apply Stays.lit)

theorem Stays.destroyAll {z s} (h : Stays z s) : Stays z (State.destroyAll s) := by
  unfold State.destroyAll
  repeat' first
    | with_reducible assumption
    | with_reducible apply Stays.idlePorts
    | with_reducible apply Stays.endChan
    | (with_reducible refine Stays.foldl ?_ (fun _ _ _ => ?_))
    | (extract_lets +onlyGivenNames t; refine Stays.cut (t := t) ?_ (fun _ => ?_); (on_goal 1 => dsimp -zeta only [t]); (on_goal 2 => clear_value t))
    | (extract_lets +onlyGivenNames t; clear_value t)
    | intro _

theorem Stays.idleAllPorts {z s} (h : Stays z s) : Stays z (State.idleAllPorts s) := by
  unfold State.idleAllPorts
  try dsimp only
  repeat' first
    | with_reducible assumption
    | with_reducible exact Stays.lit (by with_reducible assumption)
    | with_reducible apply Stays.forAll
    | with_reducible apply Stays.setBit
    | with_reducible apply Stays.powerDrop
    | with_reducible apply Stays.modPort
    | with_reducible apply Stays.idleDrive
    | with_reducible apply Stays.setQuad
    | with_reducible apply Stays.setFld
    | (with_reducible refine Stays.forAll ?_ (fun _ _ _ => ?_))
    | with_reducible refine Stays.ite ?_ ?_
    | split
    | intro _
    | fail_if_no_progress (with_reducible apply Stays.lit)
    | (extract_lets +onlyGivenNames t; refine Stays.cut (t := t) ?_ (fun _ => ?_); (on_goal 1 => dsimp -zeta only [t]); (on_goal 2 => clear_value t))
    | (extract_lets +onlyGivenNames t; clear_value t)

theorem Stays.clearEvents {z s} (h : Stays z s) : Stays z (State.clearEvents s) := by
  unfold State.clearEvents
  repeat' first
    | with_reducible assumption
    | with_reducible exact Stays.lit (by with_reducible assumption)
    | with_reducible apply Stays.forAll
    | with_reducible apply Stays.wr
    | (with_reducible refine Stays.forAll ?_ (fun _ _ _ => ?_))
    | (extract_lets +onlyGivenNames t; refine Stays.cut (t := t) ?_ (fun _ => ?_); (on_goal 1 => dsimp -zeta only [t]); (on_goal 2 => clear_value t))
    | (extract_lets +onlyGivenNames t; clear_value t)
    | intro _
    | fail_if_no_progress (with_reducible apply Stays.lit)

theorem Stays.dropHostBound {z s} (h : Stays z s) : Stays z (State.dropHostBound s) := by
  unfold State.dropHostBound
  repeat' first
    | with_reducible assumption
    | with_reducible exact Stays.lit (by with_reducible assumption)
    | with_reducible apply Stays.splitAnswer
    | (with_reducible refine Stays.foldl ?_ (fun _ _ _ => ?_))
    | (extract_lets +onlyGivenNames t; refine Stays.cut (t := t) ?_ (fun _ => ?_); (on_goal 1 => dsimp -zeta only [t]); (on_goal 2 => clear_value t))
    | (extract_lets +onlyGivenNames t; clear_value t)
    | split
    | intro _
    | fail_if_no_progress (with_reducible apply Stays.lit)

theorem Stays.sinkHostReads {z s} (h : Stays z s) : Stays z (State.sinkHostReads s) := by
  unfold State.sinkHostReads
  repeat' first
    | with_reducible assumption
    | with_reducible exact Stays.lit (by with_reducible assumption)
    | split
    | intro _
    | fail_if_no_progress (with_reducible apply Stays.lit)

theorem Stays.functionSteps {z s} (h : Stays z s) : Stays z (State.functionSteps s) := by
  unfold State.functionSteps
  repeat' first
    | with_reducible assumption
    | with_reducible apply Stays.discardAllRecords
    | with_reducible apply Stays.sinkTags
    | with_reducible apply Stays.destroyAll
    | with_reducible apply Stays.clearEvents
    | with_reducible apply Stays.killQueues
    | with_reducible apply Stays.breakLocks
    | with_reducible apply Stays.fldRequestsEnd
    | with_reducible apply Stays.dropHostBound
    | with_reducible apply Stays.idleAllPorts
    | with_reducible apply Stays.sinkHostReads
    | (extract_lets +onlyGivenNames t; refine Stays.cut (t := t) ?_ (fun _ => ?_); (on_goal 1 => dsimp -zeta only [t]); (on_goal 2 => clear_value t))
    | (extract_lets +onlyGivenNames t; clear_value t)
    | split
    | intro _

theorem Stays.resetConfig {z s a1} (h : Stays z s) : Stays z (State.resetConfig s a1) := by
  unfold State.resetConfig
  repeat' first
    | with_reducible assumption
    | with_reducible exact Stays.lit (by with_reducible assumption)
    | (extract_lets +onlyGivenNames t; refine Stays.cut (t := t) ?_ (fun _ => ?_); (on_goal 1 => dsimp -zeta only [t]); (on_goal 2 => clear_value t))
    | (extract_lets +onlyGivenNames t; clear_value t)
    | intro _
    | fail_if_no_progress (with_reducible apply Stays.lit)

theorem Stays.enterDetect {z s} (h : Stays z s) : Stays z (State.enterDetect s) := by
  unfold State.enterDetect
  repeat' first
    | with_reducible assumption
    | with_reducible exact Stays.lit (by with_reducible assumption)
    | with_reducible apply Stays.detectIdentity
    | split
    | intro _
    | fail_if_no_progress (with_reducible apply Stays.lit)

theorem Stays.linkDetect {z s} (h : Stays z s) : Stays z (State.linkDetect s) := by
  unfold State.linkDetect
  repeat' first
    | with_reducible assumption
    | with_reducible exact Stays.lit (by with_reducible assumption)
    | with_reducible apply Stays.wr
    | with_reducible apply Stays.abortEye
    | with_reducible apply Stays.detectIdentity
    | (with_reducible refine Stays.forAll ?_ (fun _ _ _ => ?_))
    | with_reducible apply Stays.setFld
    | with_reducible apply Stays.enterDetect
    | (extract_lets +onlyGivenNames t; refine Stays.cut (t := t) ?_ (fun _ => ?_); (on_goal 1 => dsimp -zeta only [t]); (on_goal 2 => clear_value t))
    | (extract_lets +onlyGivenNames t; clear_value t)
    | fail_if_no_progress (with_reducible apply Stays.lit)

theorem Stays.endReads {z s} (h : Stays z s) : Stays z (State.endReads s) := by
  unfold State.endReads
  refine Stays.lit (Stays.foldl h fun t x ht => ?_)
  split
  · split
    · exact ht
    · exact ht.splitAnswer
  · split
    · exact ht
    · exact ht.splitAnswer
  · exact ht

theorem Stays.surpriseDown {z s} (h : Stays z s) : Stays z (State.surpriseDown s) := by
  unfold State.surpriseDown
  repeat' first
    | with_reducible assumption
    | with_reducible exact Stays.lit (by with_reducible assumption)
    | with_reducible apply Stays.fldRequestsEnd
    | with_reducible apply Stays.killQueues
    | with_reducible apply Stays.sinkTags
    | with_reducible apply Stays.breakLocks
    | with_reducible apply Stays.resetConfig
    | with_reducible apply Stays.linkDetect
    | with_reducible apply Stays.setBit
    | with_reducible apply Stays.raiseLink
    | with_reducible apply Stays.sinkHostReads
    | with_reducible apply Stays.endReads
    | with_reducible apply Stays.dropStagedInto
    | (extract_lets +onlyGivenNames t; refine Stays.cut (t := t) ?_ (fun _ => ?_); (on_goal 1 => dsimp -zeta only [t]); (on_goal 2 => clear_value t))
    | (extract_lets +onlyGivenNames t; clear_value t)
    | split
    | intro _
    | fail_if_no_progress (with_reducible apply Stays.lit)

theorem Stays.holdQuiesce {z s} (h : Stays z s) : Stays z (State.holdQuiesce s) := by
  unfold State.holdQuiesce
  repeat' first
    | with_reducible assumption
    | with_reducible exact Stays.lit (by with_reducible assumption)
    | with_reducible apply Stays.setBit
    | with_reducible apply Stays.quiesceChan
    | (with_reducible refine Stays.foldl ?_ (fun _ _ _ => ?_))
    | (extract_lets +onlyGivenNames t; refine Stays.cut (t := t) ?_ (fun _ => ?_); (on_goal 1 => dsimp -zeta only [t]); (on_goal 2 => clear_value t))
    | (extract_lets +onlyGivenNames t; clear_value t)
    | split
    | intro _
    | fail_if_no_progress (with_reducible apply Stays.lit)

theorem Stays.flrOp {z s} (h : Stays z s) : Stays z (State.flrOp s) := by
  unfold State.flrOp
  repeat' first
    | with_reducible assumption
    | with_reducible exact Stays.lit (by with_reducible assumption)
    | with_reducible apply Stays.resetConfig
    | with_reducible apply Stays.functionSteps
    | with_reducible apply Stays.setBit
    | (extract_lets +onlyGivenNames t; refine Stays.cut (t := t) ?_ (fun _ => ?_); (on_goal 1 => dsimp -zeta only [t]); (on_goal 2 => clear_value t))
    | (extract_lets +onlyGivenNames t; clear_value t)
    | split
    | fail_if_no_progress (with_reducible apply Stays.lit)

theorem Stays.hotResetOp {z s} (h : Stays z s) : Stays z (State.hotResetOp s) := by
  unfold State.hotResetOp
  repeat' first
    | with_reducible assumption
    | with_reducible apply Stays.resetConfig
    | with_reducible apply Stays.linkDetect
    | with_reducible apply Stays.functionSteps
    | with_reducible apply Stays.setBit
    | split

theorem Stays.enableHst {z s} (h : Stays z s) : Stays z (State.enableHst s) := by
  unfold State.enableHst
  repeat' first
    | with_reducible assumption
    | with_reducible apply Stays.plinthEnable
    | split

theorem Stays.perstOp {z s} (h : Stays z s) : Stays z (State.perstOp s) := by
  unfold State.perstOp
  repeat' first
    | with_reducible assumption
    | with_reducible exact Stays.lit (by with_reducible assumption)
    | with_reducible apply Stays.functionSteps
    | with_reducible apply Stays.setBit
    | with_reducible apply Stays.resetConfig
    | with_reducible apply Stays.linkDetect
    | with_reducible apply Stays.enterPower
    | with_reducible apply Stays.modIsland
    | with_reducible apply Stays.ceilingFrom
    | (extract_lets +onlyGivenNames t; refine Stays.cut (t := t) ?_ (fun _ => ?_); (on_goal 1 => dsimp -zeta only [t]); (on_goal 2 => clear_value t))
    | (extract_lets +onlyGivenNames t; clear_value t)
    | intro _
    | fail_if_no_progress (with_reducible apply Stays.lit)

theorem Stays.resetDevice {z s a1 a2 a3} (h : Stays z s) : Stays z (State.resetDevice s a1 a2 a3) := by
  unfold State.resetDevice
  repeat' first
    | with_reducible assumption
    | with_reducible exact Stays.lit (by with_reducible assumption)
    | with_reducible apply Stays.wr
    | with_reducible apply Stays.setBit
    | with_reducible apply Stays.setFld
    | with_reducible apply Stays.enableHst
    | with_reducible exact Stays.lit1 (by with_reducible assumption)
    | with_reducible exact Stays.lit2 (by with_reducible assumption)
    | (extract_lets +onlyGivenNames t; refine Stays.cut (t := t) ?_ (fun _ => ?_); (on_goal 1 => dsimp -zeta only [t]); (on_goal 2 => clear_value t))
    | (extract_lets +onlyGivenNames t; clear_value t)
    | split
    | fail_if_no_progress (with_reducible apply Stays.lit)

theorem Stays.porAssertOp {z s} (h : Stays z s) : Stays z (State.porAssertOp s) := by
  unfold State.porAssertOp
  repeat' first
    | with_reducible assumption
    | with_reducible exact Stays.lit (by with_reducible assumption)
    | with_reducible apply Stays.resetDevice
    | (extract_lets +onlyGivenNames t; refine Stays.cut (t := t) ?_ (fun _ => ?_); (on_goal 1 => dsimp -zeta only [t]); (on_goal 2 => clear_value t))
    | (extract_lets +onlyGivenNames t; clear_value t)
    | fail_if_no_progress (with_reducible apply Stays.lit)

theorem Stays.purgeOp {z s a1} (h : Stays z s) : Stays z (State.purgeOp s a1) := by
  unfold State.purgeOp
  repeat' first
    | with_reducible assumption
    | with_reducible exact Stays.lit (by with_reducible assumption)
    | with_reducible apply Stays.idleAllPorts
    | with_reducible apply Stays.destroyAll
    | with_reducible apply Stays.dropStaged
    | with_reducible apply Stays.send
    | with_reducible apply Stays.resetDevice
    | with_reducible exact Stays.lit2 (by with_reducible assumption)
    | with_reducible apply Stays.eraseSlot
    | (extract_lets +onlyGivenNames t; refine Stays.cut (t := t) ?_ (fun _ => ?_); (on_goal 1 => dsimp -zeta only [t]); (on_goal 2 => clear_value t))
    | (extract_lets +onlyGivenNames t; clear_value t)
    | split
    | fail_if_no_progress (with_reducible apply Stays.lit)

theorem Stays.purgeDone {z s} (h : Stays z s) : Stays z (State.purgeDone s) := by
  unfold State.purgeDone
  repeat' first
    | with_reducible assumption
    | with_reducible exact Stays.lit (by with_reducible assumption)
    | with_reducible apply Stays.resetDevice
    | with_reducible apply Stays.setFlash
    | (extract_lets +onlyGivenNames t; refine Stays.cut (t := t) ?_ (fun _ => ?_); (on_goal 1 => dsimp -zeta only [t]); (on_goal 2 => clear_value t))
    | (extract_lets +onlyGivenNames t; clear_value t)
    | split
    | fail_if_no_progress (with_reducible apply Stays.lit)

theorem Stays.bmeOp {z s a1} (h : Stays z s) : Stays z (State.bmeOp s a1) := by
  unfold State.bmeOp
  repeat' first
    | with_reducible assumption
    | with_reducible apply Stays.setCfg
    | with_reducible apply Stays.sendPending
    | with_reducible apply Stays.dropStagedInto
    | (extract_lets +onlyGivenNames t; refine Stays.cut (t := t) ?_ (fun _ => ?_); (on_goal 1 => dsimp -zeta only [t]); (on_goal 2 => clear_value t))
    | (extract_lets +onlyGivenNames t; clear_value t)
    | split

theorem Stays.d3Op {z s a1} (h : Stays z s) : Stays z (State.d3Op s a1) := by
  unfold State.d3Op
  repeat' first
    | with_reducible assumption
    | with_reducible exact Stays.lit (by with_reducible assumption)
    | with_reducible apply Stays.setCfg
    | with_reducible apply Stays.sendPending
    | with_reducible apply Stays.dropStagedInto
    | (extract_lets +onlyGivenNames t; refine Stays.cut (t := t) ?_ (fun _ => ?_); (on_goal 1 => dsimp -zeta only [t]); (on_goal 2 => clear_value t))
    | (extract_lets +onlyGivenNames t; clear_value t)
    | split
    | fail_if_no_progress (with_reducible apply Stays.lit)

theorem Stays.atsOff {z s} (h : Stays z s) : Stays z (State.atsOff s) := by
  unfold State.atsOff
  repeat' first
    | with_reducible assumption
    | with_reducible apply Stays.atcRemove
    | with_reducible apply Stays.setCfg
    | with_reducible apply Stays.faultQueue
    | with_reducible apply Stays.raiseTxn
    | with_reducible apply Stays.flushAtc
    | with_reducible apply Stays.translated
    | (with_reducible refine Stays.foldl ?_ (fun _ _ _ => ?_))
    | (extract_lets +onlyGivenNames t; refine Stays.cut (t := t) ?_ (fun _ => ?_); (on_goal 1 => dsimp -zeta only [t]); (on_goal 2 => clear_value t))
    | (extract_lets +onlyGivenNames t; clear_value t)
    | split
    | intro _

theorem Stays.cfgWrite {z s a1 a2 a3} (h : Stays z s) : Stays z (State.cfgWrite s a1 a2 a3) := by
  unfold State.cfgWrite
  repeat' first
    | with_reducible assumption
    | with_reducible apply Stays.setCfg
    | with_reducible apply Stays.bmeOp
    | with_reducible apply Stays.d3Op
    | with_reducible apply Stays.flrOp
    | with_reducible apply Stays.atsOff
    | with_reducible apply Stays.sendPending
    | (extract_lets +onlyGivenNames t; refine Stays.cut (t := t) ?_ (fun _ => ?_); (on_goal 1 => dsimp -zeta only [t]); (on_goal 2 => clear_value t))
    | (extract_lets +onlyGivenNames t; clear_value t)
    | split

theorem Stays.configOp {z s a1} (h : Stays z s) : Stays z (State.configOp s a1) := by
  unfold State.configOp
  repeat' first
    | with_reducible assumption
    | with_reducible exact Stays.lit (by with_reducible assumption)
    | with_reducible apply Stays.send
    | with_reducible apply Stays.cfgWrite
    | (extract_lets +onlyGivenNames t; refine Stays.cut (t := t) ?_ (fun _ => ?_); (on_goal 1 => dsimp -zeta only [t]); (on_goal 2 => clear_value t))
    | (extract_lets +onlyGivenNames t; clear_value t)
    | split
    | fail_if_no_progress (with_reducible apply Stays.lit)

theorem Stays.replanTransmit {z s} (h : Stays z s) : Stays z (State.replanTransmit s) := by
  unfold State.replanTransmit
  repeat' first
    | with_reducible assumption
    | with_reducible exact Stays.lit (by with_reducible assumption)
    | (extract_lets +onlyGivenNames t; refine Stays.cut (t := t) ?_ (fun _ => ?_); (on_goal 1 => dsimp -zeta only [t]); (on_goal 2 => clear_value t))
    | (extract_lets +onlyGivenNames t; clear_value t)
    | split
    | fail_if_no_progress (with_reducible apply Stays.lit)

theorem Stays.changeRate {z s a1} (h : Stays z s) : Stays z (State.changeRate s a1) := by
  unfold State.changeRate
  repeat' first
    | with_reducible assumption
    | with_reducible apply Stays.replanTransmit
    | with_reducible apply Stays.raiseLink
    | with_reducible apply Stays.setFld
    | split

theorem Stays.setLanes {z s a1 a2} (h : Stays z s) : Stays z (State.setLanes s a1 a2) := by
  unfold State.setLanes
  repeat' first
    | with_reducible assumption
    | with_reducible apply Stays.setFld
    | with_reducible apply Stays.setBit
    | with_reducible apply Stays.forAll
    | (with_reducible refine Stays.forAll ?_ (fun _ _ _ => ?_))
    | (extract_lets +onlyGivenNames t; refine Stays.cut (t := t) ?_ (fun _ => ?_); (on_goal 1 => dsimp -zeta only [t]); (on_goal 2 => clear_value t))
    | (extract_lets +onlyGivenNames t; clear_value t)
    | intro _

theorem Stays.setDropped {z s a1} (h : Stays z s) : Stays z (State.setDropped s a1) := by
  unfold State.setDropped
  repeat' first
    | with_reducible assumption
    | with_reducible apply Stays.setBit
    | with_reducible apply Stays.setFld
    | with_reducible apply Stays.forAll
    | (with_reducible refine Stays.forAll ?_ (fun _ _ _ => ?_))
    | (extract_lets +onlyGivenNames t; refine Stays.cut (t := t) ?_ (fun _ => ?_); (on_goal 1 => dsimp -zeta only [t]); (on_goal 2 => clear_value t))
    | (extract_lets +onlyGivenNames t; clear_value t)
    | intro _

theorem Stays.linkUpOp {z s a1 a2 a3 a4} (h : Stays z s) : Stays z (State.linkUpOp s a1 a2 a3 a4) := by
  unfold State.linkUpOp
  split
  · exact h
  · split
    · exact h
    · split
      · split
        · exact h.changeRate
        · exact h
      · extract_lets rv d t1 t2 t3 t4 x1 x2 t5 t6
        have k3 : Stays z t3 := Stays.forAll h.wr.setLanes.setDropped fun _ _ k => k.setBit
        have k4 : Stays z t4 := k3.setFld.setBit
        have k5 : Stays z t5 := Stays.lit k4
        have k6 : Stays z t6 := Stays.foldl k5 fun _ _ k => by
          split
          · exact k.send
          · exact k
        exact k6.raiseLink.sendPending

theorem Stays.eqDone {z s a1 a2} (h : Stays z s) : Stays z (State.eqDone s a1 a2) := by
  unfold State.eqDone
  try dsimp only
  repeat' first
    | with_reducible assumption
    | with_reducible exact Stays.lit (by with_reducible assumption)
    | with_reducible apply Stays.setFld
    | with_reducible apply Stays.changeRate
    | with_reducible apply Stays.raiseLink
    | with_reducible apply Stays.send
    | (with_reducible refine Stays.foldl ?_ (fun _ _ _ => ?_))
    | with_reducible refine Stays.ite ?_ ?_
    | split
    | intro _
    | fail_if_no_progress (with_reducible apply Stays.lit)
    | (extract_lets +onlyGivenNames t; refine Stays.cut (t := t) ?_ (fun _ => ?_); (on_goal 1 => dsimp -zeta only [t]); (on_goal 2 => clear_value t))
    | (extract_lets +onlyGivenNames t; clear_value t)

theorem Stays.eqRequest {z s a1 a2} (h : Stays z s) : Stays z (State.eqRequest s a1 a2) := by
  unfold State.eqRequest
  repeat' first
    | with_reducible assumption
    | with_reducible exact Stays.lit (by with_reducible assumption)
    | with_reducible apply Stays.send
    | with_reducible apply Stays.setFld
    | (extract_lets +onlyGivenNames t; refine Stays.cut (t := t) ?_ (fun _ => ?_); (on_goal 1 => dsimp -zeta only [t]); (on_goal 2 => clear_value t))
    | (extract_lets +onlyGivenNames t; clear_value t)
    | split
    | fail_if_no_progress (with_reducible apply Stays.lit)

theorem Stays.eyeStart {z s a1} (h : Stays z s) : Stays z (State.eyeStart s a1) := by
  unfold State.eyeStart
  repeat' first
    | with_reducible assumption
    | with_reducible exact Stays.lit (by with_reducible assumption)
    | with_reducible apply Stays.requestWork
    | with_reducible apply Stays.setBit
    | (extract_lets +onlyGivenNames t; refine Stays.cut (t := t) ?_ (fun _ => ?_); (on_goal 1 => dsimp -zeta only [t]); (on_goal 2 => clear_value t))
    | (extract_lets +onlyGivenNames t; clear_value t)
    | split
    | fail_if_no_progress (with_reducible apply Stays.lit)

theorem Stays.eyeAuto {z s} (h : Stays z s) : Stays z (State.eyeAuto s) := by
  unfold State.eyeAuto
  repeat' first
    | with_reducible assumption
    | with_reducible apply Stays.eyeStart
    | split

theorem Stays.eyeDone {z s a1 a2} (h : Stays z s) : Stays z (State.eyeDone s a1 a2) := by
  unfold State.eyeDone
  repeat' first
    | with_reducible assumption
    | with_reducible exact Stays.lit (by with_reducible assumption)
    | with_reducible apply Stays.raiseLink
    | with_reducible apply Stays.setBit
    | with_reducible refine Stays.busGrant ?_ (by with_reducible assumption)
    | with_reducible apply Stays.noteAsked
    | (extract_lets +onlyGivenNames t; refine Stays.cut (t := t) ?_ (fun _ => ?_); (on_goal 1 => dsimp -zeta only [t]); (on_goal 2 => clear_value t))
    | (extract_lets +onlyGivenNames t; clear_value t)
    | split
    | fail_if_no_progress (with_reducible apply Stays.lit)

theorem Stays.eyePause {z s f} (h : Stays z s) (hf : Stays z (f s)) : Stays z (State.eyePause s f) := by
  unfold State.eyePause
  dsimp only
  split
  · exact Stays.lit hf
  · exact hf

theorem Stays.eyePauseOver {z s} (h : Stays z s) : Stays z (State.eyePauseOver s) := by
  unfold State.eyePauseOver
  repeat' first
    | with_reducible assumption
    | with_reducible apply Stays.abortEye
    | split

theorem Stays.marginStep {z s a1} (h : Stays z s) : Stays z (State.marginStep s a1) := by
  unfold State.marginStep
  repeat' first
    | with_reducible assumption
    | with_reducible exact Stays.lit (by with_reducible assumption)
    | with_reducible apply Stays.abortEye
    | with_reducible apply Stays.send
    | with_reducible apply Stays.drew
    | (extract_lets +onlyGivenNames t; refine Stays.cut (t := t) ?_ (fun _ => ?_); (on_goal 1 => dsimp -zeta only [t]); (on_goal 2 => clear_value t))
    | (extract_lets +onlyGivenNames t; clear_value t)
    | split
    | intro _
    | fail_if_no_progress (with_reducible apply Stays.lit)

theorem Stays.marginOp {z s a1 a2} (h : Stays z s) : Stays z (State.marginOp s a1 a2) := by
  unfold State.marginOp
  repeat' first
    | with_reducible assumption
    | with_reducible exact Stays.lit (by with_reducible assumption)
    | with_reducible apply Stays.send
    | with_reducible apply Stays.abortEye
    | with_reducible apply Stays.drew
    | with_reducible apply Stays.marginStep
    | (extract_lets +onlyGivenNames t; refine Stays.cut (t := t) ?_ (fun _ => ?_); (on_goal 1 => dsimp -zeta only [t]); (on_goal 2 => clear_value t))
    | (extract_lets +onlyGivenNames t; clear_value t)
    | split
    | fail_if_no_progress (with_reducible apply Stays.lit)

theorem Stays.prbsPreset {z s} (h : Stays z s) : Stays z (State.prbsPreset s) := by
  unfold State.prbsPreset
  repeat' first
    | with_reducible assumption
    | with_reducible exact Stays.lit (by with_reducible assumption)
    | with_reducible apply Stays.setFld
    | (with_reducible refine Stays.forAll ?_ (fun _ _ _ => ?_))
    | split
    | intro _
    | fail_if_no_progress (with_reducible apply Stays.lit)

theorem Stays.testEnter {z s} (h : Stays z s) : Stays z (State.testEnter s) := by
  unfold State.testEnter
  repeat' first
    | with_reducible assumption
    | with_reducible exact Stays.lit (by with_reducible assumption)
    | with_reducible apply Stays.surpriseDown
    | with_reducible apply Stays.setFld
    | with_reducible apply Stays.wr
    | with_reducible apply Stays.requestWork
    | with_reducible apply Stays.prbsPreset
    | (extract_lets +onlyGivenNames t; refine Stays.cut (t := t) ?_ (fun _ => ?_); (on_goal 1 => dsimp -zeta only [t]); (on_goal 2 => clear_value t))
    | (extract_lets +onlyGivenNames t; clear_value t)
    | fail_if_no_progress (with_reducible apply Stays.lit)

theorem Stays.testExit {z s} (h : Stays z s) : Stays z (State.testExit s) := by
  unfold State.testExit
  repeat' first
    | with_reducible assumption
    | with_reducible exact Stays.lit (by with_reducible assumption)
    | with_reducible apply Stays.prbsSettle
    | with_reducible apply Stays.showNrg
    | with_reducible apply Stays.detectIdentity
    | with_reducible apply Stays.setFld
    | with_reducible apply Stays.setBit
    | with_reducible apply Stays.enterDetect
    | (extract_lets +onlyGivenNames t; refine Stays.cut (t := t) ?_ (fun _ => ?_); (on_goal 1 => dsimp -zeta only [t]); (on_goal 2 => clear_value t))
    | (extract_lets +onlyGivenNames t; clear_value t)
    | intro _
    | fail_if_no_progress (with_reducible apply Stays.lit)

theorem Stays.prbsLock {z s a1} (h : Stays z s) : Stays z (State.prbsLock s a1) := by
  unfold State.prbsLock
  repeat' first
    | with_reducible assumption
    | with_reducible exact Stays.lit (by with_reducible assumption)
    | with_reducible apply Stays.setBit
    | (extract_lets +onlyGivenNames t; refine Stays.cut (t := t) ?_ (fun _ => ?_); (on_goal 1 => dsimp -zeta only [t]); (on_goal 2 => clear_value t))
    | (extract_lets +onlyGivenNames t; clear_value t)
    | split
    | fail_if_no_progress (with_reducible apply Stays.lit)

theorem Stays.prbsZero {z s} (h : Stays z s) : Stays z (State.prbsZero s) := by
  unfold State.prbsZero
  repeat' first
    | with_reducible assumption
    | with_reducible exact Stays.lit (by with_reducible assumption)
    | with_reducible apply Stays.prbsSettle
    | (extract_lets +onlyGivenNames t; refine Stays.cut (t := t) ?_ (fun _ => ?_); (on_goal 1 => dsimp -zeta only [t]); (on_goal 2 => clear_value t))
    | (extract_lets +onlyGivenNames t; clear_value t)
    | fail_if_no_progress (with_reducible apply Stays.lit)

theorem Stays.prbsCtl {z s a1 a2} (h : Stays z s) : Stays z (State.prbsCtl s a1 a2) := by
  unfold State.prbsCtl
  repeat' first
    | with_reducible assumption
    | with_reducible exact Stays.lit (by with_reducible assumption)
    | with_reducible apply Stays.setFld
    | (extract_lets +onlyGivenNames t; refine Stays.cut (t := t) ?_ (fun _ => ?_); (on_goal 1 => dsimp -zeta only [t]); (on_goal 2 => clear_value t))
    | (extract_lets +onlyGivenNames t; clear_value t)
    | split
    | fail_if_no_progress (with_reducible apply Stays.lit)

theorem Stays.noteQuiet {z s} (h : Stays z s) : Stays z (State.noteQuiet s) := by
  unfold State.noteQuiet
  repeat' first
    | with_reducible assumption
    | with_reducible exact Stays.lit (by with_reducible assumption)
    | split
    | intro _
    | fail_if_no_progress (with_reducible apply Stays.lit)

theorem Stays.l0sOp {z s} (h : Stays z s) : Stays z (State.l0sOp s) := by
  unfold State.l0sOp
  repeat' first
    | with_reducible assumption
    | with_reducible apply Stays.eyePause
    | with_reducible apply Stays.setBit
    | split
    | (extract_lets +onlyGivenNames t; refine Stays.cut (t := t) ?_ (fun _ => ?_); (on_goal 1 => dsimp -zeta only [t]); (on_goal 2 => clear_value t))
    | (extract_lets +onlyGivenNames t; clear_value t)

theorem Stays.l1Op {z s} (h : Stays z s) : Stays z (State.l1Op s) := by
  unfold State.l1Op
  repeat' first
    | with_reducible assumption
    | with_reducible exact Stays.lit (by with_reducible assumption)
    | with_reducible apply Stays.setBit
    | with_reducible apply Stays.setFld
    | with_reducible apply Stays.eyePause
    | (extract_lets +onlyGivenNames t; refine Stays.cut (t := t) ?_ (fun _ => ?_); (on_goal 1 => dsimp -zeta only [t]); (on_goal 2 => clear_value t))
    | (extract_lets +onlyGivenNames t; clear_value t)
    | split
    | fail_if_no_progress (with_reducible apply Stays.lit)

theorem Stays.exitL1 {z s} (h : Stays z s) : Stays z (State.exitL1 s) := by
  unfold State.exitL1
  repeat' first
    | with_reducible assumption
    | with_reducible apply Stays.abortEye
    | with_reducible apply Stays.bump
    | with_reducible apply Stays.setFld
    | with_reducible apply Stays.setBit
    | with_reducible apply Stays.wake
    | with_reducible apply Stays.toRecovery
    | split

theorem Stays.l11Exit {z s} (h : Stays z s) : Stays z (State.l11Exit s) := by
  unfold State.l11Exit
  repeat' first
    | with_reducible assumption
    | with_reducible exact Stays.lit (by with_reducible assumption)
    | with_reducible apply Stays.exitL1
    | with_reducible apply Stays.wake
    | (extract_lets +onlyGivenNames t; refine Stays.cut (t := t) ?_ (fun _ => ?_); (on_goal 1 => dsimp -zeta only [t]); (on_goal 2 => clear_value t))
    | (extract_lets +onlyGivenNames t; clear_value t)
    | split
    | fail_if_no_progress (with_reducible apply Stays.lit)

theorem Stays.idleExit {z s} (h : Stays z s) : Stays z (State.idleExit s) := by
  unfold State.idleExit
  repeat' first
    | with_reducible assumption
    | with_reducible apply Stays.l11Exit
    | with_reducible apply Stays.exitL1
    | with_reducible apply Stays.setBit
    | with_reducible apply Stays.setFld
    | split

theorem Stays.refclkStop {z s} (h : Stays z s) : Stays z (State.refclkStop s) := by
  unfold State.refclkStop
  try dsimp only
  repeat' first
    | with_reducible assumption
    | with_reducible exact Stays.lit (by with_reducible assumption)
    | with_reducible apply Stays.setBit
    | with_reducible apply Stays.surpriseDown
    | with_reducible refine Stays.ite ?_ ?_
    | split
    | fail_if_no_progress (with_reducible apply Stays.lit)
    | (extract_lets +onlyGivenNames t; refine Stays.cut (t := t) ?_ (fun _ => ?_); (on_goal 1 => dsimp -zeta only [t]); (on_goal 2 => clear_value t))
    | (extract_lets +onlyGivenNames t; clear_value t)

theorem Stays.refclkStart {z s} (h : Stays z s) : Stays z (State.refclkStart s) := by
  unfold State.refclkStart
  try dsimp only
  repeat' first
    | with_reducible assumption
    | with_reducible exact Stays.lit (by with_reducible assumption)
    | with_reducible apply Stays.setBit
    | with_reducible apply Stays.enableHst
    | with_reducible apply Stays.exitL1
    | with_reducible refine Stays.ite ?_ ?_
    | split
    | fail_if_no_progress (with_reducible apply Stays.lit)
    | (extract_lets +onlyGivenNames t; refine Stays.cut (t := t) ?_ (fun _ => ?_); (on_goal 1 => dsimp -zeta only [t]); (on_goal 2 => clear_value t))
    | (extract_lets +onlyGivenNames t; clear_value t)

theorem Stays.ltrAuto {z s} (h : Stays z s) : Stays z (State.ltrAuto s) := by
  unfold State.ltrAuto
  repeat' first
    | with_reducible assumption
    | with_reducible exact Stays.lit (by with_reducible assumption)
    | with_reducible apply Stays.send
    | with_reducible apply Stays.sendLtr
    | (extract_lets +onlyGivenNames t; refine Stays.cut (t := t) ?_ (fun _ => ?_); (on_goal 1 => dsimp -zeta only [t]); (on_goal 2 => clear_value t))
    | (extract_lets +onlyGivenNames t; clear_value t)
    | split
    | fail_if_no_progress (with_reducible apply Stays.lit)

theorem Stays.ltrSendOp {z s} (h : Stays z s) : Stays z (State.ltrSendOp s) := by
  unfold State.ltrSendOp
  repeat' first
    | with_reducible assumption
    | with_reducible exact Stays.lit (by with_reducible assumption)
    | with_reducible apply Stays.send
    | with_reducible apply Stays.sendLtr
    | with_reducible apply Stays.leaveL1
    | with_reducible apply Stays.l11Exit
    | (extract_lets +onlyGivenNames t; refine Stays.cut (t := t) ?_ (fun _ => ?_); (on_goal 1 => dsimp -zeta only [t]); (on_goal 2 => clear_value t))
    | (extract_lets +onlyGivenNames t; clear_value t)
    | split
    | fail_if_no_progress (with_reducible apply Stays.lit)

theorem Stays.enterRecovery {z s} (h : Stays z s) : Stays z (State.enterRecovery s) := by
  unfold State.enterRecovery
  repeat' first
    | with_reducible assumption
    | with_reducible apply Stays.abortEye
    | with_reducible apply Stays.bump
    | with_reducible apply Stays.setBit
    | with_reducible apply Stays.setFld
    | with_reducible apply Stays.toRecovery

theorem Stays.dropLane {z s a1} (h : Stays z s) : Stays z (State.dropLane s a1) := by
  unfold State.dropLane
  repeat' first
    | with_reducible assumption
    | with_reducible exact Stays.lit (by with_reducible assumption)
    | with_reducible apply Stays.surpriseDown
    | with_reducible apply Stays.setFld
    | with_reducible apply Stays.setDropped
    | with_reducible apply Stays.setLanes
    | with_reducible apply Stays.sendPending
    | with_reducible apply Stays.raiseLink
    | with_reducible apply Stays.replanTransmit
    | (extract_lets +onlyGivenNames t; refine Stays.cut (t := t) ?_ (fun _ => ?_); (on_goal 1 => dsimp -zeta only [t]); (on_goal 2 => clear_value t))
    | (extract_lets +onlyGivenNames t; clear_value t)
    | split
    | fail_if_no_progress (with_reducible apply Stays.lit)

theorem Stays.recoveryFailed {z s a1} (h : Stays z s) : Stays z (State.recoveryFailed s a1) := by
  unfold State.recoveryFailed
  repeat' first
    | with_reducible assumption
    | with_reducible exact Stays.lit (by with_reducible assumption)
    | with_reducible apply Stays.dropLane
    | with_reducible apply Stays.setFld
    | with_reducible apply Stays.enterRecovery
    | (with_reducible refine Stays.forAll ?_ (fun _ _ _ => ?_))
    | with_reducible apply Stays.send
    | (extract_lets +onlyGivenNames t; refine Stays.cut (t := t) ?_ (fun _ => ?_); (on_goal 1 => dsimp -zeta only [t]); (on_goal 2 => clear_value t))
    | (extract_lets +onlyGivenNames t; clear_value t)
    | split
    | fail_if_no_progress (with_reducible apply Stays.lit)

theorem Stays.lockLoss {z s l} (h : Stays z s) : Stays z (State.lockLoss s l) := by
  unfold State.lockLoss
  split
  · exact h
  · extract_lets b t1 t2 t3 soon x4 t4
    have k2 : Stays z t2 := by
      dsimp only [t2]
      split
      · exact h.setBit.setCfg
      · exact h.setBit
    have k4 : Stays z t4 := by
      dsimp only [t4]
      split
      · exact k2.setFld
      · exact Stays.setFld (Stays.lit k2.setFld)
    split
    · split
      · exact Stays.recoveryFailed (Stays.lit k4)
      · exact Stays.enterRecovery (Stays.lit k4)
    · exact Stays.lit k2

theorem Stays.recoveryTimeout {z s a1} (h : Stays z s) : Stays z (State.recoveryTimeout s a1) := by
  unfold State.recoveryTimeout
  repeat' first
    | with_reducible assumption
    | with_reducible apply Stays.recoveryFailed
    | split

theorem Stays.returnL0 {z s} (h : Stays z s) : Stays z (State.returnL0 s) := by
  unfold State.returnL0
  repeat' first
    | with_reducible assumption
    | with_reducible exact Stays.lit (by with_reducible assumption)
    | with_reducible apply Stays.setFld
    | with_reducible apply Stays.setLanes
    | with_reducible apply Stays.sendPending
    | (extract_lets +onlyGivenNames t; refine Stays.cut (t := t) ?_ (fun _ => ?_); (on_goal 1 => dsimp -zeta only [t]); (on_goal 2 => clear_value t))
    | (extract_lets +onlyGivenNames t; clear_value t)
    | split
    | fail_if_no_progress (with_reducible apply Stays.lit)

theorem Stays.survived {z s} (h : Stays z s) : Stays z (State.survived s) := by
  unfold State.survived
  repeat' first
    | with_reducible assumption
    | with_reducible exact Stays.lit (by with_reducible assumption)
    | with_reducible apply Stays.setFld
    | (extract_lets +onlyGivenNames t; refine Stays.cut (t := t) ?_ (fun _ => ?_); (on_goal 1 => dsimp -zeta only [t]); (on_goal 2 => clear_value t))
    | (extract_lets +onlyGivenNames t; clear_value t)
    | split
    | fail_if_no_progress (with_reducible apply Stays.lit)

theorem Stays.upcfgAttempt {z s} (h : Stays z s) : Stays z (State.upcfgAttempt s) := by
  unfold State.upcfgAttempt
  repeat' first
    | with_reducible assumption
    | with_reducible exact Stays.lit (by with_reducible assumption)
    | with_reducible apply Stays.setFld
    | with_reducible apply Stays.enterRecovery
    | (extract_lets +onlyGivenNames t; refine Stays.cut (t := t) ?_ (fun _ => ?_); (on_goal 1 => dsimp -zeta only [t]); (on_goal 2 => clear_value t))
    | (extract_lets +onlyGivenNames t; clear_value t)
    | split
    | fail_if_no_progress (with_reducible apply Stays.lit)

theorem Stays.upcfgDone {z s a1 a2} (h : Stays z s) : Stays z (State.upcfgDone s a1 a2) := by
  unfold State.upcfgDone
  repeat' first
    | with_reducible assumption
    | with_reducible exact Stays.lit (by with_reducible assumption)
    | with_reducible apply Stays.setFld
    | with_reducible apply Stays.sendPending
    | with_reducible apply Stays.raiseLink
    | with_reducible apply Stays.setDropped
    | with_reducible apply Stays.setLanes
    | with_reducible apply Stays.replanTransmit
    | (extract_lets +onlyGivenNames t; refine Stays.cut (t := t) ?_ (fun _ => ?_); (on_goal 1 => dsimp -zeta only [t]); (on_goal 2 => clear_value t))
    | (extract_lets +onlyGivenNames t; clear_value t)
    | split
    | fail_if_no_progress (with_reducible apply Stays.lit)

theorem Stays.redetectOp {z s} (h : Stays z s) : Stays z (State.redetectOp s) := by
  unfold State.redetectOp
  repeat' first
    | with_reducible assumption
    | with_reducible apply Stays.surpriseDown
    | with_reducible apply Stays.detectIdentity
    | with_reducible apply Stays.setFld
    | with_reducible apply Stays.enterDetect
    | split

theorem Stays.parityErrors {z s a1 a2 a3} (h : Stays z s) : Stays z (State.parityErrors s a1 a2 a3) := by
  unfold State.parityErrors
  repeat' first
    | with_reducible assumption
    | with_reducible apply Stays.raiseSat
    | with_reducible apply Stays.satLogNo
    | with_reducible apply Stays.bumpBy
    | split

theorem Stays.targetTimeout {z s a1 a2} (h : Stays z s) : Stays z (State.targetTimeout s a1 a2) := by
  unfold State.targetTimeout
  repeat' first
    | with_reducible assumption
    | with_reducible apply Stays.raiseSat
    | with_reducible apply Stays.satLogNo

theorem Stays.breakSatLock {z s} (h : Stays z s) : Stays z (State.breakSatLock s) := by
  unfold State.breakSatLock
  repeat' first
    | with_reducible assumption
    | with_reducible exact Stays.lit (by with_reducible assumption)
    | with_reducible apply Stays.raiseSat
    | (extract_lets +onlyGivenNames t; refine Stays.cut (t := t) ?_ (fun _ => ?_); (on_goal 1 => dsimp -zeta only [t]); (on_goal 2 => clear_value t))
    | (extract_lets +onlyGivenNames t; clear_value t)
    | fail_if_no_progress (with_reducible apply Stays.lit)

theorem Stays.satLockTakeOp {z s a1} (h : Stays z s) : Stays z (State.satLockTakeOp s a1) := by
  unfold State.satLockTakeOp
  repeat' first
    | with_reducible assumption
    | with_reducible exact Stays.lit (by with_reducible assumption)
    | (extract_lets +onlyGivenNames t; refine Stays.cut (t := t) ?_ (fun _ => ?_); (on_goal 1 => dsimp -zeta only [t]); (on_goal 2 => clear_value t))
    | (extract_lets +onlyGivenNames t; clear_value t)
    | split
    | fail_if_no_progress (with_reducible apply Stays.lit)

theorem Stays.satLockSettle {z s a1} (h : Stays z s) : Stays z (State.satLockSettle s a1) := by
  unfold State.satLockSettle
  repeat' first
    | with_reducible assumption
    | with_reducible exact Stays.lit (by with_reducible assumption)
    | split
    | intro _
    | fail_if_no_progress (with_reducible apply Stays.lit)

theorem Stays.satLockReleaseOp {z s a1} (h : Stays z s) : Stays z (State.satLockReleaseOp s a1) := by
  unfold State.satLockReleaseOp
  repeat' first
    | with_reducible assumption
    | with_reducible exact Stays.lit (by with_reducible assumption)
    | with_reducible apply Stays.satLockSettle
    | (extract_lets +onlyGivenNames t; refine Stays.cut (t := t) ?_ (fun _ => ?_); (on_goal 1 => dsimp -zeta only [t]); (on_goal 2 => clear_value t))
    | (extract_lets +onlyGivenNames t; clear_value t)
    | split
    | fail_if_no_progress (with_reducible apply Stays.lit)

theorem Stays.lockmaxOp {z s} (h : Stays z s) : Stays z (State.lockmaxOp s) := by
  unfold State.lockmaxOp
  repeat' first
    | with_reducible assumption
    | with_reducible exact Stays.lit (by with_reducible assumption)
    | with_reducible apply Stays.breakSatLock
    | with_reducible apply Stays.raiseSat
    | with_reducible apply Stays.satLogNo
    | (extract_lets +onlyGivenNames t; refine Stays.cut (t := t) ?_ (fun _ => ?_); (on_goal 1 => dsimp -zeta only [t]); (on_goal 2 => clear_value t))
    | (extract_lets +onlyGivenNames t; clear_value t)
    | split
    | fail_if_no_progress (with_reducible apply Stays.lit)

theorem Stays.satGrantTimeoutOp {z s a1} (h : Stays z s) : Stays z (State.satGrantTimeoutOp s a1) := by
  unfold State.satGrantTimeoutOp
  repeat' first
    | with_reducible assumption
    | with_reducible exact Stays.lit (by with_reducible assumption)
    | with_reducible refine Stays.grantAt ?_ (by with_reducible assumption)
    | (extract_lets +onlyGivenNames t; refine Stays.cut (t := t) ?_ (fun _ => ?_); (on_goal 1 => dsimp -zeta only [t]); (on_goal 2 => clear_value t))
    | (extract_lets +onlyGivenNames t; clear_value t)
    | split
    | fail_if_no_progress (with_reducible apply Stays.lit)

theorem Stays.burstBegun {z s a1} (h : Stays z s) : Stays z (State.burstBegun s a1) := by
  unfold State.burstBegun
  repeat' first
    | with_reducible assumption
    | with_reducible exact Stays.lit (by with_reducible assumption)
    | (extract_lets +onlyGivenNames t; refine Stays.cut (t := t) ?_ (fun _ => ?_); (on_goal 1 => dsimp -zeta only [t]); (on_goal 2 => clear_value t))
    | (extract_lets +onlyGivenNames t; clear_value t)
    | fail_if_no_progress (with_reducible apply Stays.lit)

theorem Stays.setPrefetch {z s a1 a2} (h : Stays z s) : Stays z (State.setPrefetch s a1 a2) := by
  unfold State.setPrefetch
  repeat' first
    | with_reducible assumption
    | with_reducible exact Stays.lit (by with_reducible assumption)
    | (extract_lets +onlyGivenNames t; refine Stays.cut (t := t) ?_ (fun _ => ?_); (on_goal 1 => dsimp -zeta only [t]); (on_goal 2 => clear_value t))
    | (extract_lets +onlyGivenNames t; clear_value t)
    | fail_if_no_progress (with_reducible apply Stays.lit)

theorem Stays.dropPrefetch {z s a1} (h : Stays z s) : Stays z (State.dropPrefetch s a1) := by
  unfold State.dropPrefetch
  repeat' first
    | with_reducible assumption
    | with_reducible apply Stays.setPrefetch

theorem Stays.hostRefuse {z s a1 a2} (h : Stays z s) : Stays z (State.hostRefuse s a1 a2) := by
  unfold State.hostRefuse
  repeat' first
    | with_reducible assumption
    | with_reducible apply Stays.aer
    | with_reducible apply Stays.send
    | with_reducible apply Stays.completion
    | (extract_lets +onlyGivenNames t; refine Stays.cut (t := t) ?_ (fun _ => ?_); (on_goal 1 => dsimp -zeta only [t]); (on_goal 2 => clear_value t))
    | (extract_lets +onlyGivenNames t; clear_value t)
    | split

theorem Stays.queueBursts {z s a1} (h : Stays z s) : Stays z (State.queueBursts s a1) := by
  unfold State.queueBursts
  repeat' first
    | with_reducible assumption
    | with_reducible exact Stays.lit (by with_reducible assumption)
    | with_reducible apply Stays.park
    | (with_reducible refine Stays.foldl ?_ (fun _ _ _ => ?_))
    | (extract_lets +onlyGivenNames t; refine Stays.cut (t := t) ?_ (fun _ => ?_); (on_goal 1 => dsimp -zeta only [t]); (on_goal 2 => clear_value t))
    | (extract_lets +onlyGivenNames t; clear_value t)
    | split
    | intro _
    | fail_if_no_progress (with_reducible apply Stays.lit)

theorem Stays.hostWindowWrite {z s a1} (h : Stays z s) : Stays z (State.hostWindowWrite s a1) := by
  unfold State.hostWindowWrite
  repeat' first
    | with_reducible assumption
    | with_reducible exact Stays.lit (by with_reducible assumption)
    | with_reducible apply Stays.hostRefuse
    | with_reducible apply Stays.poisonNote
    | with_reducible apply Stays.queueBursts
    | with_reducible apply Stays.bumpBy
    | (extract_lets +onlyGivenNames t; refine Stays.cut (t := t) ?_ (fun _ => ?_); (on_goal 1 => dsimp -zeta only [t]); (on_goal 2 => clear_value t))
    | (extract_lets +onlyGivenNames t; clear_value t)
    | split
    | intro _
    | fail_if_no_progress (with_reducible apply Stays.lit)

theorem Stays.queueJob {z s a1 a2} (h : Stays z s) : Stays z (State.queueJob s a1 a2) := by
  unfold State.queueJob
  repeat' first
    | with_reducible assumption
    | with_reducible exact Stays.lit (by with_reducible assumption)
    | with_reducible apply Stays.wake
    | (extract_lets +onlyGivenNames t; refine Stays.cut (t := t) ?_ (fun _ => ?_); (on_goal 1 => dsimp -zeta only [t]); (on_goal 2 => clear_value t))
    | (extract_lets +onlyGivenNames t; clear_value t)
    | split
    | intro _
    | fail_if_no_progress (with_reducible apply Stays.lit)

theorem Stays.hostWindowRead {z s a1} (h : Stays z s) : Stays z (State.hostWindowRead s a1) := by
  unfold State.hostWindowRead
  repeat' first
    | with_reducible assumption
    | with_reducible apply Stays.hostRefuse
    | with_reducible apply Stays.queueJob
    | with_reducible apply Stays.finishAll
    | (extract_lets +onlyGivenNames t; refine Stays.cut (t := t) ?_ (fun _ => ?_); (on_goal 1 => dsimp -zeta only [t]); (on_goal 2 => clear_value t))
    | (extract_lets +onlyGivenNames t; clear_value t)
    | split
    | intro _

theorem Stays.hostAtomic {z s a1} (h : Stays z s) : Stays z (State.hostAtomic s a1) := by
  unfold State.hostAtomic
  repeat' first
    | with_reducible assumption
    | with_reducible apply Stays.hostRefuse
    | with_reducible apply Stays.poisonNote
    | with_reducible apply Stays.queueJob
    | split

theorem Stays.writeFailed {z s a1} (h : Stays z s) : Stays z (State.writeFailed s a1) := by
  unfold State.writeFailed
  repeat' first
    | with_reducible assumption
    | with_reducible apply Stays.raiseSat
    | with_reducible apply Stays.setBit
    | with_reducible apply Stays.satLog
    | with_reducible apply Stays.bump
    | (extract_lets +onlyGivenNames t; refine Stays.cut (t := t) ?_ (fun _ => ?_); (on_goal 1 => dsimp -zeta only [t]); (on_goal 2 => clear_value t))
    | (extract_lets +onlyGivenNames t; clear_value t)
    | split
    | intro _

theorem Stays.jobFailed {z s a1 a2 a3} (h : Stays z s) : Stays z (State.jobFailed s a1 a2 a3) := by
  unfold State.jobFailed
  repeat' first
    | with_reducible assumption
    | with_reducible exact Stays.lit (by with_reducible assumption)
    | with_reducible apply Stays.satLog
    | with_reducible apply Stays.raiseSat
    | with_reducible apply Stays.raiseTxn
    | with_reducible apply Stays.bump
    | with_reducible apply Stays.finishAll
    | with_reducible apply Stays.send
    | with_reducible apply Stays.aer
    | with_reducible apply Stays.jobReply
    | (extract_lets +onlyGivenNames t; refine Stays.cut (t := t) ?_ (fun _ => ?_); (on_goal 1 => dsimp -zeta only [t]); (on_goal 2 => clear_value t))
    | (extract_lets +onlyGivenNames t; clear_value t)
    | split
    | fail_if_no_progress (with_reducible apply Stays.lit)

theorem Stays.postedGone {z s} (h : Stays z s) : Stays z (State.postedGone s) := by
  unfold State.postedGone
  repeat' first
    | with_reducible assumption
    | with_reducible exact Stays.lit (by with_reducible assumption)
    | (extract_lets +onlyGivenNames t; refine Stays.cut (t := t) ?_ (fun _ => ?_); (on_goal 1 => dsimp -zeta only [t]); (on_goal 2 => clear_value t))
    | (extract_lets +onlyGivenNames t; clear_value t)
    | intro _
    | fail_if_no_progress (with_reducible apply Stays.lit)

theorem Stays.carryWrite {z s a1 a2} (h : Stays z s) : Stays z (State.carryWrite s a1 a2) := by
  unfold State.carryWrite
  repeat' first
    | with_reducible assumption
    | with_reducible apply Stays.finishAll
    | with_reducible apply Stays.bump
    | with_reducible apply Stays.postedGone
    | with_reducible apply Stays.send
    | with_reducible apply Stays.dropPrefetch
    | with_reducible apply Stays.raiseSat
    | with_reducible apply Stays.writeFailed
    | with_reducible apply Stays.targetTimeout
    | (extract_lets +onlyGivenNames t; refine Stays.cut (t := t) ?_ (fun _ => ?_); (on_goal 1 => dsimp -zeta only [t]); (on_goal 2 => clear_value t))
    | (extract_lets +onlyGivenNames t; clear_value t)
    | split

theorem Stays.storeWords {z s a1 a2} (h : Stays z s) : Stays z (State.storeWords s a1 a2) := by
  unfold State.storeWords
  repeat' first
    | with_reducible assumption
    | with_reducible exact Stays.lit (by with_reducible assumption)
    | with_reducible apply Stays.setPrefetch
    | (extract_lets +onlyGivenNames t; refine Stays.cut (t := t) ?_ (fun _ => ?_); (on_goal 1 => dsimp -zeta only [t]); (on_goal 2 => clear_value t))
    | (extract_lets +onlyGivenNames t; clear_value t)
    | split
    | intro _
    | fail_if_no_progress (with_reducible apply Stays.lit)

theorem Stays.takeRead {z s a1 a2 a3 a4} (h : Stays z s) : Stays z (State.takeRead s a1 a2 a3 a4) := by
  unfold State.takeRead
  repeat' first
    | with_reducible assumption
    | with_reducible exact Stays.lit (by with_reducible assumption)
    | with_reducible apply Stays.parityErrors
    | with_reducible apply Stays.setPrefetch
    | with_reducible apply Stays.storeWords
    | (extract_lets +onlyGivenNames t; refine Stays.cut (t := t) ?_ (fun _ => ?_); (on_goal 1 => dsimp -zeta only [t]); (on_goal 2 => clear_value t))
    | (extract_lets +onlyGivenNames t; clear_value t)
    | split
    | intro _
    | fail_if_no_progress (with_reducible apply Stays.lit)

theorem Stays.carryRead {z s a1 a2 a3 a4} (h : Stays z s) : Stays z (State.carryRead s a1 a2 a3 a4) := by
  unfold State.carryRead
  repeat' first
    | with_reducible assumption
    | with_reducible exact Stays.lit (by with_reducible assumption)
    | with_reducible apply Stays.send
    | with_reducible apply Stays.finishAll
    | with_reducible apply Stays.takeRead
    | with_reducible apply Stays.jobFailed
    | with_reducible apply Stays.targetTimeout
    | (extract_lets +onlyGivenNames t; refine Stays.cut (t := t) ?_ (fun _ => ?_); (on_goal 1 => dsimp -zeta only [t]); (on_goal 2 => clear_value t))
    | (extract_lets +onlyGivenNames t; clear_value t)
    | split
    | fail_if_no_progress (with_reducible apply Stays.lit)

theorem Stays.carryAtomic {z s a1 a2 a3 a4 a5 a6} (h : Stays z s) : Stays z (State.carryAtomic s a1 a2 a3 a4 a5 a6) := by
  unfold State.carryAtomic
  repeat' first
    | with_reducible assumption
    | with_reducible exact Stays.lit (by with_reducible assumption)
    | with_reducible apply Stays.takeRead
    | with_reducible apply Stays.send
    | with_reducible apply Stays.jobFailed
    | with_reducible apply Stays.targetTimeout
    | with_reducible apply Stays.dropPrefetch
    | with_reducible apply Stays.finishAll
    | (extract_lets +onlyGivenNames t; refine Stays.cut (t := t) ?_ (fun _ => ?_); (on_goal 1 => dsimp -zeta only [t]); (on_goal 2 => clear_value t))
    | (extract_lets +onlyGivenNames t; clear_value t)
    | split
    | fail_if_no_progress (with_reducible apply Stays.lit)

theorem Stays.bridgeBurstOp {z s a1} (h : Stays z s) : Stays z (State.bridgeBurstOp s a1) := by
  unfold State.bridgeBurstOp
  repeat' first
    | with_reducible assumption
    | with_reducible exact Stays.lit (by with_reducible assumption)
    | with_reducible apply Stays.carryAtomic
    | with_reducible apply Stays.carryRead
    | with_reducible apply Stays.finishAll
    | with_reducible apply Stays.carryWrite
    | (extract_lets +onlyGivenNames t; refine Stays.cut (t := t) ?_ (fun _ => ?_); (on_goal 1 => dsimp -zeta only [t]); (on_goal 2 => clear_value t))
    | (extract_lets +onlyGivenNames t; clear_value t)
    | split
    | fail_if_no_progress (with_reducible apply Stays.lit)

theorem Stays.jobStartTimeout {z s a1} (h : Stays z s) : Stays z (State.jobStartTimeout s a1) := by
  unfold State.jobStartTimeout
  repeat' first
    | with_reducible assumption
    | with_reducible exact Stays.lit (by with_reducible assumption)
    | with_reducible apply Stays.finishAll
    | with_reducible apply Stays.send
    | with_reducible apply Stays.aer
    | with_reducible apply Stays.raiseTxn
    | with_reducible apply Stays.bump
    | with_reducible apply Stays.jobFailed
    | with_reducible apply Stays.jobReply
    | (extract_lets +onlyGivenNames t; refine Stays.cut (t := t) ?_ (fun _ => ?_); (on_goal 1 => dsimp -zeta only [t]); (on_goal 2 => clear_value t))
    | (extract_lets +onlyGivenNames t; clear_value t)
    | split
    | fail_if_no_progress (with_reducible apply Stays.lit)

theorem Stays.prefetchExpiryOp {z s a1} (h : Stays z s) : Stays z (State.prefetchExpiryOp s a1) := by
  unfold State.prefetchExpiryOp
  repeat' first
    | with_reducible assumption
    | with_reducible exact Stays.lit (by with_reducible assumption)
    | with_reducible apply Stays.setPrefetch
    | (extract_lets +onlyGivenNames t; refine Stays.cut (t := t) ?_ (fun _ => ?_); (on_goal 1 => dsimp -zeta only [t]); (on_goal 2 => clear_value t))
    | (extract_lets +onlyGivenNames t; clear_value t)
    | intro _
    | fail_if_no_progress (with_reducible apply Stays.lit)

theorem Stays.wrObserved {z s a1 a2} (h : Stays z s) : Stays z (State.wrObserved s a1 a2) := by
  unfold State.wrObserved
  repeat' first
    | with_reducible assumption
    | with_reducible apply Stays.dropPrefetch
    | (with_reducible refine Stays.foldl ?_ (fun _ _ _ => ?_))
    | split
    | intro _

theorem Stays.splitTimeoutOp {z s a1} (h : Stays z s) : Stays z (State.splitTimeoutOp s a1) := by
  unfold State.splitTimeoutOp
  repeat' first
    | with_reducible assumption
    | with_reducible apply Stays.satLogNo
    | with_reducible apply Stays.bump
    | with_reducible apply Stays.setSplit
    | split

theorem Stays.collect {z s a1 a2} (h : Stays z s) : Stays z (State.collect s a1 a2) := by
  unfold State.collect
  repeat' first
    | with_reducible assumption
    | with_reducible apply Stays.send
    | with_reducible apply Stays.setSplit
    | split

theorem Stays.addressEdge {z s m b} (h : Stays z s) :
    Stays z (State.addressEdge s m b).2 ∧ ∀ t, (State.addressEdge s m b).1 = some t → Stays z t := by
  unfold State.addressEdge
  split
  · exact ⟨h, fun t e => by cases e⟩
  · split
    · dsimp only
      exact ⟨h.burstBegun.send, fun t e => by cases e⟩
    · split
      · dsimp only
        exact ⟨h.burstBegun.parityErrors.send, fun t e => by cases e⟩
      · refine ⟨h, fun t e => ?_⟩
        cases e
        split
        · exact h.burstBegun.satLockTakeOp
        · exact h.burstBegun

theorem Stays.mrstAssert {z s a1} (h : Stays z s) : Stays z (State.mrstAssert s a1) := by
  unfold State.mrstAssert
  repeat' first
    | with_reducible assumption
    | with_reducible exact Stays.lit (by with_reducible assumption)
    | with_reducible apply Stays.raiseSat
    | with_reducible apply Stays.flushToHost
    | with_reducible apply Stays.setSplit
    | with_reducible apply Stays.sinkTags
    | with_reducible apply Stays.breakSatLock
    | with_reducible apply Stays.breakLocks
    | with_reducible apply Stays.raise
    | (extract_lets +onlyGivenNames t; refine Stays.cut (t := t) ?_ (fun _ => ?_); (on_goal 1 => dsimp -zeta only [t]); (on_goal 2 => clear_value t))
    | (extract_lets +onlyGivenNames t; clear_value t)
    | split
    | intro _
    | fail_if_no_progress (with_reducible apply Stays.lit)

theorem Stays.mrstDeassert {z s a1} (h : Stays z s) : Stays z (State.mrstDeassert s a1) := by
  unfold State.mrstDeassert
  repeat' first
    | with_reducible assumption
    | with_reducible exact Stays.lit (by with_reducible assumption)
    | (extract_lets +onlyGivenNames t; refine Stays.cut (t := t) ?_ (fun _ => ?_); (on_goal 1 => dsimp -zeta only [t]); (on_goal 2 => clear_value t))
    | (extract_lets +onlyGivenNames t; clear_value t)
    | fail_if_no_progress (with_reducible apply Stays.lit)

theorem Stays.satInt {z s a1} (h : Stays z s) : Stays z (State.satInt s a1) := by
  unfold State.satInt
  repeat' first
    | with_reducible assumption
    | with_reducible exact Stays.lit (by with_reducible assumption)
    | with_reducible apply Stays.raiseSat
    | with_reducible apply Stays.raise
    | (extract_lets +onlyGivenNames t; refine Stays.cut (t := t) ?_ (fun _ => ?_); (on_goal 1 => dsimp -zeta only [t]); (on_goal 2 => clear_value t))
    | (extract_lets +onlyGivenNames t; clear_value t)
    | split
    | fail_if_no_progress (with_reducible apply Stays.lit)

theorem Stays.satReq {z s a1} (h : Stays z s) : Stays z (State.satReq s a1) := by
  unfold State.satReq
  repeat' first
    | with_reducible assumption
    | with_reducible exact Stays.lit (by with_reducible assumption)
    | with_reducible apply Stays.wake
    | (extract_lets +onlyGivenNames t; refine Stays.cut (t := t) ?_ (fun _ => ?_); (on_goal 1 => dsimp -zeta only [t]); (on_goal 2 => clear_value t))
    | (extract_lets +onlyGivenNames t; clear_value t)
    | split
    | fail_if_no_progress (with_reducible apply Stays.lit)

theorem Stays.lkstsRead {z s a1} (h : Stays z s) : Stays z (State.lkstsRead s a1) := by
  unfold State.lkstsRead
  repeat' first
    | with_reducible assumption
    | with_reducible exact Stays.lit (by with_reducible assumption)
    | (extract_lets +onlyGivenNames t; refine Stays.cut (t := t) ?_ (fun _ => ?_); (on_goal 1 => dsimp -zeta only [t]); (on_goal 2 => clear_value t))
    | (extract_lets +onlyGivenNames t; clear_value t)
    | split
    | fail_if_no_progress (with_reducible apply Stays.lit)

theorem Stays.revoke {z s a1} (h : Stays z s) : Stays z (State.revoke s a1) := by
  unfold State.revoke
  repeat' first
    | with_reducible assumption
    | with_reducible exact Stays.lit (by with_reducible assumption)
    | with_reducible apply Stays.bump
    | with_reducible apply Stays.setArb
    | (extract_lets +onlyGivenNames t; refine Stays.cut (t := t) ?_ (fun _ => ?_); (on_goal 1 => dsimp -zeta only [t]); (on_goal 2 => clear_value t))
    | (extract_lets +onlyGivenNames t; clear_value t)
    | split
    | fail_if_no_progress (with_reducible apply Stays.lit)

theorem Stays.decideGrant {z s n r b d} (h : Stays z s) : Stays z (State.decideGrant s n r b d).2 := by
  unfold State.decideGrant
  dsimp only
  repeat' split
  all_goals first
    | with_reducible exact h.revoke.setArb
    | with_reducible exact h.revoke
    | with_reducible exact h.setArb.setArb
    | with_reducible exact h.setArb
    | with_reducible exact h

theorem Stays.arbitrate {z s n r b d} (h : Stays z s) : Stays z (State.arbitrate s n r b d).2 := by
  unfold State.arbitrate
  exact h.decideGrant.noteAsked

theorem Stays.arbitrate_eq {z s n r b d a t} (h : Stays z s) (e : State.arbitrate s n r b d = (a, t)) : Stays z t := by
  have := h.arbitrate (n := n) (r := r) (b := b) (d := d); rw [e] at this; exact this

theorem Stays.satGrantOp {z s a1} (h : Stays z s) : Stays z (State.satGrantOp s a1) := by
  unfold State.satGrantOp
  repeat' first
    | with_reducible assumption
    | with_reducible exact Stays.lit (by with_reducible assumption)
    | with_reducible apply Stays.arbitrate
    | with_reducible refine Stays.arbitrate_eq ?_ (by with_reducible assumption)
    | (extract_lets +onlyGivenNames t; refine Stays.cut (t := t) ?_ (fun _ => ?_); (on_goal 1 => dsimp -zeta only [t]); (on_goal 2 => clear_value t))
    | (extract_lets +onlyGivenNames t; clear_value t)
    | split
    | intro _
    | fail_if_no_progress (with_reducible apply Stays.lit)

theorem Stays.countShorts {z s a1} (h : Stays z s) : Stays z (State.countShorts s a1) := by
  unfold State.countShorts
  repeat' first
    | with_reducible assumption
    | with_reducible exact Stays.lit (by with_reducible assumption)
    | with_reducible apply Stays.setArb
    | (with_reducible refine Stays.foldl ?_ (fun _ _ _ => ?_))
    | (extract_lets +onlyGivenNames t; refine Stays.cut (t := t) ?_ (fun _ => ?_); (on_goal 1 => dsimp -zeta only [t]); (on_goal 2 => clear_value t))
    | (extract_lets +onlyGivenNames t; clear_value t)
    | split
    | intro _
    | fail_if_no_progress (with_reducible apply Stays.lit)

theorem Stays.newCounts {z s a1} (h : Stays z s) : Stays z (State.newCounts s a1) := by
  unfold State.newCounts
  repeat' first
    | with_reducible assumption
    | with_reducible exact Stays.lit (by with_reducible assumption)
    | with_reducible apply Stays.setArb
    | (with_reducible refine Stays.foldl ?_ (fun _ _ _ => ?_))
    | (extract_lets +onlyGivenNames t; refine Stays.cut (t := t) ?_ (fun _ => ?_); (on_goal 1 => dsimp -zeta only [t]); (on_goal 2 => clear_value t))
    | (extract_lets +onlyGivenNames t; clear_value t)
    | split
    | intro _
    | fail_if_no_progress (with_reducible apply Stays.lit)

theorem Stays.parityMismatch {z s a1 a2} (h : Stays z s) : Stays z (State.parityMismatch s a1 a2) := by
  unfold State.parityMismatch
  repeat' first
    | with_reducible assumption
    | with_reducible apply Stays.setBit
    | with_reducible apply Stays.wr
    | with_reducible apply Stays.raise
    | with_reducible apply Stays.bump
    | with_reducible apply Stays.quadFaultOp
    | (extract_lets +onlyGivenNames t; refine Stays.cut (t := t) ?_ (fun _ => ?_); (on_goal 1 => dsimp -zeta only [t]); (on_goal 2 => clear_value t))
    | (extract_lets +onlyGivenNames t; clear_value t)
    | split

theorem Stays.scrubCheck {z s} (h : Stays z s) : Stays z (State.scrubCheck s) := by
  unfold State.scrubCheck
  repeat' first
    | with_reducible assumption
    | with_reducible exact Stays.lit (by with_reducible assumption)
    | with_reducible apply Stays.parityMismatch
    | (extract_lets +onlyGivenNames t; refine Stays.cut (t := t) ?_ (fun _ => ?_); (on_goal 1 => dsimp -zeta only [t]); (on_goal 2 => clear_value t))
    | (extract_lets +onlyGivenNames t; clear_value t)
    | split
    | fail_if_no_progress (with_reducible apply Stays.lit)

theorem Stays.boundary {z s a1} (h : Stays z s) : Stays z (State.boundary s a1) := by
  unfold State.boundary
  try dsimp only
  repeat' first
    | with_reducible assumption
    | with_reducible exact Stays.lit (by with_reducible assumption)
    | with_reducible apply Stays.forAll
    | with_reducible apply Stays.newCounts
    | with_reducible apply Stays.applyPlinth
    | with_reducible apply Stays.setBit
    | with_reducible apply Stays.wr
    | with_reducible apply Stays.planPass
    | with_reducible apply Stays.shedCounts
    | with_reducible apply Stays.adoptRun
    | with_reducible apply Stays.holdQuiesce
    | with_reducible apply Stays.refreshVsec
    | with_reducible apply Stays.startReady
    | with_reducible apply Stays.countShorts
    | (with_reducible refine Stays.forAll ?_ (fun _ _ _ => ?_))
    | with_reducible refine Stays.ite ?_ ?_
    | split
    | fail_if_no_progress (with_reducible apply Stays.lit)
    | (extract_lets +onlyGivenNames t; refine Stays.cut (t := t) ?_ (fun _ => ?_); (on_goal 1 => dsimp -zeta only [t]); (on_goal 2 => clear_value t))
    | (extract_lets +onlyGivenNames t; clear_value t)

theorem Stays.showSource {z s} (h : Stays z s) : Stays z (State.showSource s) := by
  unfold State.showSource
  repeat' first
    | with_reducible assumption
    | with_reducible apply Stays.setBit

theorem Stays.newSeries {z s} (h : Stays z s) : Stays z (State.newSeries s) := by
  unfold State.newSeries
  repeat' first
    | with_reducible assumption
    | with_reducible exact Stays.lit (by with_reducible assumption)
    | with_reducible apply Stays.wr
    | (extract_lets +onlyGivenNames t; refine Stays.cut (t := t) ?_ (fun _ => ?_); (on_goal 1 => dsimp -zeta only [t]); (on_goal 2 => clear_value t))
    | (extract_lets +onlyGivenNames t; clear_value t)
    | split
    | fail_if_no_progress (with_reducible apply Stays.lit)

theorem Stays.judgeDone {z s} (h : Stays z s) : Stays z (State.judgeDone s) := by
  unfold State.judgeDone
  repeat' first
    | with_reducible assumption
    | with_reducible exact Stays.lit (by with_reducible assumption)
    | with_reducible apply Stays.setBit
    | with_reducible apply Stays.showSource
    | (extract_lets +onlyGivenNames t; refine Stays.cut (t := t) ?_ (fun _ => ?_); (on_goal 1 => dsimp -zeta only [t]); (on_goal 2 => clear_value t))
    | (extract_lets +onlyGivenNames t; clear_value t)
    | split
    | fail_if_no_progress (with_reducible apply Stays.lit)

theorem Stays.ircGate {z s a1} (h : Stays z s) : Stays z (State.ircGate s a1) := by
  unfold State.ircGate
  repeat' first
    | with_reducible assumption
    | with_reducible apply Stays.newSeries
    | with_reducible apply Stays.judgeDone
    | with_reducible apply Stays.setFld
    | split

theorem Stays.refFailed {z s} (h : Stays z s) : Stays z (State.refFailed s) := by
  unfold State.refFailed
  repeat' first
    | with_reducible assumption
    | with_reducible exact Stays.lit (by with_reducible assumption)
    | with_reducible apply Stays.wr
    | (extract_lets +onlyGivenNames t; refine Stays.cut (t := t) ?_ (fun _ => ?_); (on_goal 1 => dsimp -zeta only [t]); (on_goal 2 => clear_value t))
    | (extract_lets +onlyGivenNames t; clear_value t)
    | fail_if_no_progress (with_reducible apply Stays.lit)

theorem Stays.refGate {z s a1} (h : Stays z s) : Stays z (State.refGate s a1) := by
  unfold State.refGate
  repeat' first
    | with_reducible assumption
    | with_reducible exact Stays.lit (by with_reducible assumption)
    | with_reducible apply Stays.judgeDone
    | with_reducible apply Stays.setFld
    | with_reducible apply Stays.refFailed
    | (extract_lets +onlyGivenNames t; refine Stays.cut (t := t) ?_ (fun _ => ?_); (on_goal 1 => dsimp -zeta only [t]); (on_goal 2 => clear_value t))
    | (extract_lets +onlyGivenNames t; clear_value t)
    | split
    | fail_if_no_progress (with_reducible apply Stays.lit)

theorem Stays.refStall {z s} (h : Stays z s) : Stays z (State.refStall s) := by
  unfold State.refStall
  repeat' first
    | with_reducible assumption
    | with_reducible apply Stays.refFailed
    | split

theorem Stays.judgeOver {z s} (h : Stays z s) : Stays z (State.judgeOver s) := by
  unfold State.judgeOver
  repeat' first
    | with_reducible assumption
    | with_reducible exact Stays.lit (by with_reducible assumption)
    | with_reducible apply Stays.raiseBit
    | with_reducible apply Stays.showSource
    | with_reducible apply Stays.setBit
    | (extract_lets +onlyGivenNames t; refine Stays.cut (t := t) ?_ (fun _ => ?_); (on_goal 1 => dsimp -zeta only [t]); (on_goal 2 => clear_value t))
    | (extract_lets +onlyGivenNames t; clear_value t)
    | split
    | fail_if_no_progress (with_reducible apply Stays.lit)

theorem Stays.rejudgeOp {z s} (h : Stays z s) : Stays z (State.rejudgeOp s) := by
  unfold State.rejudgeOp
  repeat' first
    | with_reducible assumption
    | with_reducible exact Stays.lit (by with_reducible assumption)
    | with_reducible apply Stays.newSeries
    | (extract_lets +onlyGivenNames t; refine Stays.cut (t := t) ?_ (fun _ => ?_); (on_goal 1 => dsimp -zeta only [t]); (on_goal 2 => clear_value t))
    | (extract_lets +onlyGivenNames t; clear_value t)
    | split
    | intro _
    | fail_if_no_progress (with_reducible apply Stays.lit)

theorem Stays.clkCtlHook {z s a1} (h : Stays z s) : Stays z (State.clkCtlHook s a1) := by
  unfold State.clkCtlHook
  repeat' first
    | with_reducible assumption
    | with_reducible apply Stays.showSource
    | with_reducible apply Stays.rejudgeOp
    | (extract_lets +onlyGivenNames t; refine Stays.cut (t := t) ?_ (fun _ => ?_); (on_goal 1 => dsimp -zeta only [t]); (on_goal 2 => clear_value t))
    | (extract_lets +onlyGivenNames t; clear_value t)
    | split

theorem Stays.xtalStops {z s} (h : Stays z s) : Stays z (State.xtalStops s) := by
  unfold State.xtalStops
  repeat' first
    | with_reducible assumption
    | with_reducible exact Stays.lit (by with_reducible assumption)
    | (extract_lets +onlyGivenNames t; refine Stays.cut (t := t) ?_ (fun _ => ?_); (on_goal 1 => dsimp -zeta only [t]); (on_goal 2 => clear_value t))
    | (extract_lets +onlyGivenNames t; clear_value t)
    | fail_if_no_progress (with_reducible apply Stays.lit)

theorem Stays.fmcBegin {z s} (h : Stays z s) : Stays z (State.fmcBegin s) := by
  unfold State.fmcBegin
  repeat' first
    | with_reducible assumption
    | with_reducible exact Stays.lit (by with_reducible assumption)
    | with_reducible apply Stays.setBit
    | (extract_lets +onlyGivenNames t; refine Stays.cut (t := t) ?_ (fun _ => ?_); (on_goal 1 => dsimp -zeta only [t]); (on_goal 2 => clear_value t))
    | (extract_lets +onlyGivenNames t; clear_value t)
    | fail_if_no_progress (with_reducible apply Stays.lit)

theorem Stays.fmcTick {z s} (h : Stays z s) : Stays z (State.fmcTick s) := by
  unfold State.fmcTick
  repeat' first
    | with_reducible assumption
    | with_reducible exact Stays.lit (by with_reducible assumption)
    | split
    | intro _
    | fail_if_no_progress (with_reducible apply Stays.lit)

theorem Stays.fmcEnd {z s a1} (h : Stays z s) : Stays z (State.fmcEnd s a1) := by
  unfold State.fmcEnd
  repeat' first
    | with_reducible assumption
    | with_reducible exact Stays.lit (by with_reducible assumption)
    | with_reducible apply Stays.setBit
    | (extract_lets +onlyGivenNames t; refine Stays.cut (t := t) ?_ (fun _ => ?_); (on_goal 1 => dsimp -zeta only [t]); (on_goal 2 => clear_value t))
    | (extract_lets +onlyGivenNames t; clear_value t)
    | split
    | fail_if_no_progress (with_reducible apply Stays.lit)

theorem Stays.fmcOver {z s} (h : Stays z s) : Stays z (State.fmcOver s) := by
  unfold State.fmcOver
  repeat' first
    | with_reducible assumption
    | with_reducible exact Stays.lit (by with_reducible assumption)
    | with_reducible apply Stays.setBit
    | (extract_lets +onlyGivenNames t; refine Stays.cut (t := t) ?_ (fun _ => ?_); (on_goal 1 => dsimp -zeta only [t]); (on_goal 2 => clear_value t))
    | (extract_lets +onlyGivenNames t; clear_value t)
    | split
    | fail_if_no_progress (with_reducible apply Stays.lit)

theorem Stays.seqSettled {z s a1} (h : Stays z s) : Stays z (State.seqSettled s a1) := by
  unfold State.seqSettled
  repeat' first
    | with_reducible assumption
    | with_reducible exact Stays.lit (by with_reducible assumption)
    | with_reducible apply Stays.modIsland
    | (extract_lets +onlyGivenNames t; refine Stays.cut (t := t) ?_ (fun _ => ?_); (on_goal 1 => dsimp -zeta only [t]); (on_goal 2 => clear_value t))
    | (extract_lets +onlyGivenNames t; clear_value t)
    | split
    | intro _
    | fail_if_no_progress (with_reducible apply Stays.lit)

theorem Stays.seqDone {z s a1} (h : Stays z s) : Stays z (State.seqDone s a1) := by
  unfold State.seqDone
  repeat' first
    | with_reducible assumption
    | with_reducible exact Stays.lit (by with_reducible assumption)
    | with_reducible apply Stays.kickSeq
    | with_reducible apply Stays.modIsland
    | (extract_lets +onlyGivenNames t; refine Stays.cut (t := t) ?_ (fun _ => ?_); (on_goal 1 => dsimp -zeta only [t]); (on_goal 2 => clear_value t))
    | (extract_lets +onlyGivenNames t; clear_value t)
    | split
    | intro _
    | fail_if_no_progress (with_reducible apply Stays.lit)

theorem Stays.drainDone {z s a1} (h : Stays z s) : Stays z (State.drainDone s a1) := by
  unfold State.drainDone
  repeat' first
    | with_reducible assumption
    | with_reducible apply Stays.enterPower
    | (extract_lets +onlyGivenNames t; refine Stays.cut (t := t) ?_ (fun _ => ?_); (on_goal 1 => dsimp -zeta only [t]); (on_goal 2 => clear_value t))
    | (extract_lets +onlyGivenNames t; clear_value t)
    | split

theorem Stays.opResult {z s a1 a2 a3} (h : Stays z s) : Stays z (State.opResult s a1 a2 a3) := by
  unfold State.opResult
  repeat' first
    | with_reducible assumption
    | with_reducible exact Stays.lit (by with_reducible assumption)
    | with_reducible apply Stays.raiseQue
    | (extract_lets +onlyGivenNames t; refine Stays.cut (t := t) ?_ (fun _ => ?_); (on_goal 1 => dsimp -zeta only [t]); (on_goal 2 => clear_value t))
    | (extract_lets +onlyGivenNames t; clear_value t)
    | fail_if_no_progress (with_reducible apply Stays.lit)

theorem Stays.createOp {z s} (h : Stays z s) : Stays z (State.createOp s) := by
  unfold State.createOp
  repeat' first
    | with_reducible assumption
    | with_reducible apply Stays.setChn
    | with_reducible apply Stays.opResult
    | with_reducible apply Stays.sendEstimate
    | with_reducible apply Stays.bump
    | (extract_lets +onlyGivenNames t; refine Stays.cut (t := t) ?_ (fun _ => ?_); (on_goal 1 => dsimp -zeta only [t]); (on_goal 2 => clear_value t))
    | (extract_lets +onlyGivenNames t; clear_value t)
    | split

theorem Stays.onHandle {z s n f} (h : Stays z s) (hf : ∀ k, Stays z (f k)) : Stays z (State.onHandle s n f) := by
  unfold State.onHandle
  dsimp only
  split
  · with_reducible exact h.opResult
  · with_reducible exact hf _

theorem Stays.quiesceOp {z s} (h : Stays z s) : Stays z (State.quiesceOp s) := by
  unfold State.quiesceOp
  repeat' first
    | with_reducible assumption
    | with_reducible apply Stays.onHandle
    | with_reducible apply Stays.opResult
    | with_reducible apply Stays.quiesceChan
    | intro _

theorem Stays.resumeOp {z s} (h : Stays z s) : Stays z (State.resumeOp s) := by
  unfold State.resumeOp
  repeat' first
    | with_reducible assumption
    | with_reducible apply Stays.onHandle
    | with_reducible apply Stays.opResult
    | with_reducible apply Stays.resumeChan
    | with_reducible apply Stays.quiesced
    | split
    | intro _

theorem Stays.destroyChan {z s a1} (h : Stays z s) : Stays z (State.destroyChan s a1) := by
  unfold State.destroyChan
  repeat' first
    | with_reducible assumption
    | with_reducible apply Stays.raiseQue
    | with_reducible apply Stays.idlePorts
    | with_reducible apply Stays.endChan
    | (extract_lets +onlyGivenNames t; refine Stays.cut (t := t) ?_ (fun _ => ?_); (on_goal 1 => dsimp -zeta only [t]); (on_goal 2 => clear_value t))
    | (extract_lets +onlyGivenNames t; clear_value t)

theorem Stays.destroyOp {z s} (h : Stays z s) : Stays z (State.destroyOp s) := by
  unfold State.destroyOp
  repeat' first
    | with_reducible assumption
    | with_reducible apply Stays.onHandle
    | with_reducible apply Stays.opResult
    | with_reducible apply Stays.destroyChan
    | intro _

theorem Stays.chnOp {z s a1} (h : Stays z s) : Stays z (State.chnOp s a1) := by
  unfold State.chnOp
  repeat' first
    | with_reducible assumption
    | with_reducible exact Stays.lit (by with_reducible assumption)
    | with_reducible apply Stays.setBit
    | with_reducible apply Stays.createOp
    | with_reducible apply Stays.quiesceOp
    | with_reducible apply Stays.resumeOp
    | with_reducible apply Stays.destroyOp
    | with_reducible apply Stays.opResult
    | (extract_lets +onlyGivenNames t; refine Stays.cut (t := t) ?_ (fun _ => ?_); (on_goal 1 => dsimp -zeta only [t]); (on_goal 2 => clear_value t))
    | (extract_lets +onlyGivenNames t; clear_value t)
    | split
    | fail_if_no_progress (with_reducible apply Stays.lit)

theorem Stays.createAfterFlr {z s} (h : Stays z s) : Stays z (State.createAfterFlr s) := by
  unfold State.createAfterFlr
  try dsimp only
  repeat' first
    | with_reducible assumption
    | with_reducible exact Stays.lit (by with_reducible assumption)
    | with_reducible apply Stays.forAll
    | with_reducible apply Stays.wr
    | with_reducible apply Stays.createOp
    | (with_reducible refine Stays.forAll ?_ (fun _ _ _ => ?_))
    | with_reducible refine Stays.ite ?_ ?_
    | split
    | intro _
    | fail_if_no_progress (with_reducible apply Stays.lit)
    | (extract_lets +onlyGivenNames t; refine Stays.cut (t := t) ?_ (fun _ => ?_); (on_goal 1 => dsimp -zeta only [t]); (on_goal 2 => clear_value t))
    | (extract_lets +onlyGivenNames t; clear_value t)

theorem Stays.beforeCapture {z s a1 a2} (h : Stays z s) : Stays z (State.beforeCapture s a1 a2) := by
  unfold State.beforeCapture
  repeat' first
    | with_reducible assumption
    | with_reducible exact Stays.lit (by with_reducible assumption)
    | with_reducible apply Stays.prbsSettle
    | with_reducible apply Stays.setVe
    | (extract_lets +onlyGivenNames t; refine Stays.cut (t := t) ?_ (fun _ => ?_); (on_goal 1 => dsimp -zeta only [t]); (on_goal 2 => clear_value t))
    | (extract_lets +onlyGivenNames t; clear_value t)
    | split
    | fail_if_no_progress (with_reducible apply Stays.lit)

theorem Stays.setPosition {z s a1 a2} (h : Stays z s) : Stays z (State.setPosition s a1 a2) := by
  unfold State.setPosition
  repeat' first
    | with_reducible assumption
    | with_reducible apply Stays.sendEstimate
    | with_reducible apply Stays.setVe

theorem Stays.mbApply {z s a1 a2 a3} (h : Stays z s) : Stays z (State.mbApply s a1 a2 a3) := by
  unfold State.mbApply
  repeat' first
    | with_reducible assumption
    | with_reducible exact Stays.lit (by with_reducible assumption)
    | with_reducible apply Stays.modQueue
    | with_reducible apply Stays.setInterval
    | with_reducible apply Stays.setPosition
    | with_reducible apply Stays.setVe
    | with_reducible apply Stays.modPort
    | (extract_lets +onlyGivenNames t; refine Stays.cut (t := t) ?_ (fun _ => ?_); (on_goal 1 => dsimp -zeta only [t]); (on_goal 2 => clear_value t))
    | (extract_lets +onlyGivenNames t; clear_value t)
    | split
    | intro _
    | fail_if_no_progress (with_reducible apply Stays.lit)

theorem Stays.applyDone {z s a1} (h : Stays z s) : Stays z (State.applyDone s a1) := by
  unfold State.applyDone
  repeat' first
    | with_reducible assumption
    | with_reducible exact Stays.lit (by with_reducible assumption)
    | with_reducible apply Stays.mbApply
    | with_reducible apply Stays.setMb
    | (extract_lets +onlyGivenNames t; refine Stays.cut (t := t) ?_ (fun _ => ?_); (on_goal 1 => dsimp -zeta only [t]); (on_goal 2 => clear_value t))
    | (extract_lets +onlyGivenNames t; clear_value t)
    | split
    | fail_if_no_progress (with_reducible apply Stays.lit)

theorem Stays.selWritten {z s a1 a2} (h : Stays z s) : Stays z (State.selWritten s a1 a2) := by
  unfold State.selWritten
  repeat' first
    | with_reducible assumption
    | with_reducible exact Stays.lit (by with_reducible assumption)
    | with_reducible apply Stays.beforeCapture
    | with_reducible apply Stays.setMb
    | with_reducible apply Stays.applyDone
    | (extract_lets +onlyGivenNames t; refine Stays.cut (t := t) ?_ (fun _ => ?_); (on_goal 1 => dsimp -zeta only [t]); (on_goal 2 => clear_value t))
    | (extract_lets +onlyGivenNames t; clear_value t)
    | split
    | fail_if_no_progress (with_reducible apply Stays.lit)

theorem Stays.captureDone {z s a1} (h : Stays z s) : Stays z (State.captureDone s a1) := by
  unfold State.captureDone
  repeat' first
    | with_reducible assumption
    | with_reducible exact Stays.lit (by with_reducible assumption)
    | with_reducible apply Stays.setMb
    | (extract_lets +onlyGivenNames t; refine Stays.cut (t := t) ?_ (fun _ => ?_); (on_goal 1 => dsimp -zeta only [t]); (on_goal 2 => clear_value t))
    | (extract_lets +onlyGivenNames t; clear_value t)
    | split
    | fail_if_no_progress (with_reducible apply Stays.lit)

theorem Stays.mbWordRead {z s m k} (h : Stays z s) : Stays z (State.mbWordRead s m k).2 := by
  unfold State.mbWordRead
  dsimp only
  split
  · with_reducible exact h
  · dsimp only
    split
    · with_reducible exact h.setMb
    · with_reducible exact h

theorem Stays.mbWordWrite {z s a1 a2 a3} (h : Stays z s) : Stays z (State.mbWordWrite s a1 a2 a3) := by
  unfold State.mbWordWrite
  repeat' first
    | with_reducible assumption
    | with_reducible exact Stays.lit (by with_reducible assumption)
    | with_reducible apply Stays.setMb
    | (extract_lets +onlyGivenNames t; refine Stays.cut (t := t) ?_ (fun _ => ?_); (on_goal 1 => dsimp -zeta only [t]); (on_goal 2 => clear_value t))
    | (extract_lets +onlyGivenNames t; clear_value t)
    | split
    | fail_if_no_progress (with_reducible apply Stays.lit)

end Sys2Proof.Machine
end

