-- ==== Sys2Proof/Laws/StaysOps4.lean ====
section
/-!
SUPPORT. What no operation changes (see Laws/Stays.lean), part 4 of 4: one lemma per operation, an operation after those it
calls, from State.rowRead to State.noAck.
-/

namespace Sys2Proof.Machine

set_option maxRecDepth 20000
set_option linter.unusedTactic false
set_option linter.unreachableTactic false
set_option linter.unusedVariables false
set_option linter.tactic.unusedName false

theorem Stays.rowRead {z s r k q} (h : Stays z s) : Stays z (State.rowRead s r k q).2 := by
  unfold State.rowRead
  split
  · with_reducible exact h
  · split
    · with_reducible exact h
    · with_reducible exact h
    · with_reducible exact h.mbWordRead
    · split
      · with_reducible exact h.lockAcquire
      · dsimp only
        split
        · split
          · with_reducible exact h.lkstsRead
          · with_reducible exact h.wr.lkstsRead
        · split
          · with_reducible exact h
          · with_reducible exact h.wr

theorem Stays.regRead {z s a v b t} (h : Stays z s) (e : State.regRead s a = .ok (v, b, t)) : Stays z t := by
  unfold State.regRead at e
  repeat' split at e
  all_goals first
    | contradiction
    | with_reducible exact h.sramRead_eq (Except.ok.inj e)
    | (have e := congrArg (fun p => p.2.2) (Except.ok.inj e); dsimp only at e; rw [← e]; with_reducible exact h.drew)
    | (have e := congrArg (fun p => p.2.2) (Except.ok.inj e); dsimp only at e; rw [← e]; with_reducible exact h.rowRead)

theorem Stays.pairApply {z s a1 a2} (h : Stays z s) : Stays z (State.pairApply s a1 a2) := by
  unfold State.pairApply
  repeat' first
    | with_reducible assumption
    | with_reducible apply Stays.commitOp
    | with_reducible apply Stays.forcePower
    | with_reducible apply Stays.fuseOp
    | with_reducible apply Stays.leaveGroup
    | with_reducible apply Stays.purgeOp
    | with_reducible apply Stays.masterEnable
    | split

theorem Stays.pairStale {z s a1 a2} (h : Stays z s) : Stays z (State.pairStale s a1 a2) := by
  unfold State.pairStale
  repeat' first
    | with_reducible assumption
    | with_reducible apply Stays.pairFail
    | split

theorem Stays.pairWrite {z s a1 a2 a3 a4 a5} (h : Stays z s) : Stays z (State.pairWrite s a1 a2 a3 a4 a5) := by
  unfold State.pairWrite
  repeat' first
    | with_reducible assumption
    | with_reducible exact Stays.lit (by with_reducible assumption)
    | with_reducible apply Stays.pairStale
    | with_reducible apply Stays.setPair
    | with_reducible apply Stays.pairFail
    | with_reducible apply Stays.pairApply
    | (extract_lets +onlyGivenNames t; refine Stays.cut (t := t) ?_ (fun _ => ?_); (on_goal 1 => dsimp -zeta only [t]); (on_goal 2 => clear_value t))
    | (extract_lets +onlyGivenNames t; clear_value t)
    | split
    | fail_if_no_progress (with_reducible apply Stays.lit)

theorem Stays.pairOver {z s a1} (h : Stays z s) : Stays z (State.pairOver s a1) := by
  unfold State.pairOver
  repeat' first
    | with_reducible assumption
    | with_reducible apply Stays.pairFail
    | split

theorem Stays.plnHook {z s a1 a2} (h : Stays z s) : Stays z (State.plnHook s a1 a2) := by
  unfold State.plnHook
  repeat' first
    | with_reducible assumption
    | with_reducible exact Stays.lit (by with_reducible assumption)
    | with_reducible apply Stays.islandReset
    | with_reducible apply Stays.forAll
    | with_reducible apply Stays.quadSelfReset
    | with_reducible apply Stays.modIsland
    | with_reducible apply Stays.kickSeq
    | (with_reducible refine Stays.forAll ?_ (fun _ _ _ => ?_))
    | (extract_lets +onlyGivenNames t; refine Stays.cut (t := t) ?_ (fun _ => ?_); (on_goal 1 => dsimp -zeta only [t]); (on_goal 2 => clear_value t))
    | (extract_lets +onlyGivenNames t; clear_value t)
    | split
    | intro _
    | fail_if_no_progress (with_reducible apply Stays.lit)

theorem Stays.clkHook {z s a1 a2} (h : Stays z s) : Stays z (State.clkHook s a1 a2) := by
  unfold State.clkHook
  repeat' first
    | with_reducible assumption
    | with_reducible apply Stays.clkCtlHook
    | with_reducible apply Stays.fmcBegin
    | split

theorem Stays.loadCtl {z s a1 a2} (h : Stays z s) : Stays z (State.loadCtl s a1 a2) := by
  unfold State.loadCtl
  repeat' first
    | with_reducible assumption
    | with_reducible apply Stays.hostLoad
    | with_reducible apply Stays.beginVerify
    | with_reducible apply Stays.abortLoad
    | with_reducible apply Stays.flashLoad
    | with_reducible apply Stays.program
    | with_reducible apply Stays.abortCtl
    | split

theorem Stays.armHook {z s a1 a2} (h : Stays z s) : Stays z (State.armHook s a1 a2) := by
  unfold State.armHook
  repeat' first
    | with_reducible assumption
    | with_reducible apply Stays.loadCtl
    | with_reducible apply Stays.armData
    | with_reducible apply Stays.setMaquette
    | split

theorem Stays.phyHook {z s a1} (h : Stays z s) : Stays z (State.phyHook s a1) := by
  unfold State.phyHook
  repeat' first
    | with_reducible assumption
    | with_reducible apply Stays.raiseLink
    | with_reducible apply Stays.testEnter
    | with_reducible apply Stays.testExit
    | with_reducible apply Stays.redetectOp
    | (extract_lets +onlyGivenNames t; refine Stays.cut (t := t) ?_ (fun _ => ?_); (on_goal 1 => dsimp -zeta only [t]); (on_goal 2 => clear_value t))
    | (extract_lets +onlyGivenNames t; clear_value t)
    | split

theorem Stays.hstHook {z s a1 a2} (h : Stays z s) : Stays z (State.hstHook s a1 a2) := by
  unfold State.hstHook
  repeat' first
    | with_reducible assumption
    | with_reducible apply Stays.phyHook
    | with_reducible apply Stays.ltrSendOp
    | with_reducible apply Stays.eyeStart
    | with_reducible apply Stays.prbsCtl
    | with_reducible apply Stays.atcRemove
    | with_reducible apply Stays.prbsPreset
    | with_reducible apply Stays.flushAtc
    | split
    | intro _

theorem Stays.unmasked {z s a1 a2 a3} (h : Stays z s) : Stays z (State.unmasked s a1 a2 a3) := by
  unfold State.unmasked
  repeat' first
    | with_reducible assumption
    | with_reducible apply Stays.forAll
    | with_reducible apply Stays.signalVector
    | (with_reducible refine Stays.forAll ?_ (fun _ _ _ => ?_))
    | split
    | intro _

theorem Stays.applyAll {z s} (h : Stays z s) : Stays z (State.applyAll s) := by
  unfold State.applyAll
  repeat' first
    | with_reducible assumption
    | with_reducible exact Stays.lit (by with_reducible assumption)
    | with_reducible apply Stays.applyDone
    | (with_reducible refine Stays.foldl ?_ (fun _ _ _ => ?_))
    | split
    | intro _
    | fail_if_no_progress (with_reducible apply Stays.lit)

theorem Stays.queHook {z s a1 a2} (h : Stays z s) : Stays z (State.queHook s a1 a2) := by
  unfold State.queHook
  repeat' first
    | with_reducible assumption
    | with_reducible apply Stays.queueCmd
    | with_reducible apply Stays.chnOp
    | with_reducible apply Stays.unmasked
    | with_reducible apply Stays.applyDone
    | with_reducible apply Stays.applyAll
    | split

theorem Stays.encCtlHook {z s a1 a2} (h : Stays z s) : Stays z (State.encCtlHook s a1 a2) := by
  unfold State.encCtlHook
  repeat' first
    | with_reducible assumption
    | with_reducible exact Stays.lit (by with_reducible assumption)
    | with_reducible apply Stays.setEnc
    | (extract_lets +onlyGivenNames t; refine Stays.cut (t := t) ?_ (fun _ => ?_); (on_goal 1 => dsimp -zeta only [t]); (on_goal 2 => clear_value t))
    | (extract_lets +onlyGivenNames t; clear_value t)
    | split
    | intro _
    | fail_if_no_progress (with_reducible apply Stays.lit)

theorem Stays.motHook {z s a1 a2} (h : Stays z s) : Stays z (State.motHook s a1 a2) := by
  unfold State.motHook
  repeat' first
    | with_reducible assumption
    | with_reducible apply Stays.encCtlHook
    | with_reducible apply Stays.sendEstimate
    | with_reducible apply Stays.setVe
    | with_reducible apply Stays.seRun
    | split

theorem Stays.tqHook {z s a1 a2 a3} (h : Stays z s) : Stays z (State.tqHook s a1 a2 a3) := by
  unfold State.tqHook
  repeat' first
    | with_reducible assumption
    | with_reducible apply Stays.powerRequest
    | with_reducible apply Stays.powerDrop
    | split

theorem Stays.fldHook {z s a1 a2} (h : Stays z s) : Stays z (State.fldHook s a1 a2) := by
  unfold State.fldHook
  repeat' first
    | with_reducible assumption
    | with_reducible apply Stays.forAll
    | with_reducible apply Stays.fbCtlHook
    | with_reducible apply Stays.txreqHook
    | (with_reducible refine Stays.forAll ?_ (fun _ _ _ => ?_))
    | split
    | intro _

theorem Stays.rngHook {z s a1 a2} (h : Stays z s) : Stays z (State.rngHook s a1 a2) := by
  unfold State.rngHook
  repeat' first
    | with_reducible assumption
    | with_reducible apply Stays.rejoinOp
    | with_reducible apply Stays.grpresetOp
    | with_reducible apply Stays.requestWork
    | (extract_lets +onlyGivenNames t; refine Stays.cut (t := t) ?_ (fun _ => ?_); (on_goal 1 => dsimp -zeta only [t]); (on_goal 2 => clear_value t))
    | (extract_lets +onlyGivenNames t; clear_value t)
    | split

theorem Stays.wrote {z s a1 a2} (h : Stays z s) : Stays z (State.wrote s a1 a2) := by
  unfold State.wrote
  repeat' first
    | with_reducible assumption
    | with_reducible exact Stays.lit (by with_reducible assumption)
    | with_reducible apply Stays.selWritten
    | with_reducible apply Stays.mbWordWrite
    | with_reducible apply Stays.plnHook
    | with_reducible apply Stays.clkHook
    | with_reducible apply Stays.armHook
    | with_reducible apply Stays.hstHook
    | with_reducible apply Stays.queHook
    | with_reducible apply Stays.lockWrite
    | with_reducible apply Stays.motHook
    | with_reducible apply Stays.tqHook
    | with_reducible apply Stays.fldHook
    | with_reducible apply Stays.rngHook
    | with_reducible apply Stays.monEnds
    | with_reducible apply Stays.planPass
    | (extract_lets +onlyGivenNames t; refine Stays.cut (t := t) ?_ (fun _ => ?_); (on_goal 1 => dsimp -zeta only [t]); (on_goal 2 => clear_value t))
    | (extract_lets +onlyGivenNames t; clear_value t)
    | split
    | fail_if_no_progress (with_reducible apply Stays.lit)

theorem Stays.store {z s a1 a2} (h : Stays z s) : Stays z (State.store s a1 a2) := by
  unfold State.store
  repeat' first
    | with_reducible assumption
    | with_reducible apply Stays.reparity
    | with_reducible apply Stays.commitGated
    | with_reducible apply Stays.writeEnables
    | with_reducible apply Stays.joinOp
    | with_reducible apply Stays.setTxb
    | with_reducible apply Stays.wr
    | split

theorem Stays.storeWrite {z s k r v n d t} (h : Stays z s) (e : State.storeWrite s k r v n d = .ok t) : Stays z t := by
  unfold State.storeWrite at e
  dsimp only at e
  split at e
  · cases e
  · split at e
    · cases e
    · split at e
      · cases e
      · cases e
        split
        · with_reducible exact h.prbsSettle.store.wrote
        · with_reducible exact h.store.wrote

theorem Stays.rowWrite {z s r k a q v n t} (h : Stays z s) (e : State.rowWrite s r k a q v n = .ok t) : Stays z t := by
  unfold State.rowWrite at e
  repeat' split at e
  all_goals first
    | with_reducible exact h.storeWrite e
    | (cases e; exact h.pairWrite)
    | (cases e; exact h)
    | cases e

theorem Stays.windowWrite {z s w v t} (h : Stays z s) (e : State.windowWrite s w v = .ok t) : Stays z t := by
  unfold State.windowWrite at e
  split at e
  · cases e
  · cases e; exact h.setSram.setFld

theorem Stays.regWrite {z s a n t} (h : Stays z s) (e : State.regWrite s a n = .ok t) : Stays z t := by
  unfold State.regWrite at e
  repeat' split at e
  all_goals first
    | with_reducible exact h.rowWrite e
    | with_reducible exact h.windowWrite e
    | (cases e; exact h.doorbellOp)
    | cases e

theorem Stays.answered {z s a1 a2 a3 a4} (h : Stays z s) : Stays z (State.answered s a1 a2 a3 a4) := by
  unfold State.answered
  repeat' first
    | with_reducible assumption
    | with_reducible exact Stays.lit (by with_reducible assumption)
    | with_reducible apply Stays.send
    | with_reducible apply Stays.splitAnswer
    | with_reducible apply Stays.completion
    | (extract_lets +onlyGivenNames t; refine Stays.cut (t := t) ?_ (fun _ => ?_); (on_goal 1 => dsimp -zeta only [t]); (on_goal 2 => clear_value t))
    | (extract_lets +onlyGivenNames t; clear_value t)
    | split
    | fail_if_no_progress (with_reducible apply Stays.lit)

theorem Stays.refuseAccess {z s a1 a2 a3} (h : Stays z s) : Stays z (State.refuseAccess s a1 a2 a3) := by
  unfold State.refuseAccess
  repeat' first
    | with_reducible assumption
    | with_reducible apply Stays.answerRefused
    | with_reducible apply Stays.accessRefused

theorem Stays.perform {z s a1 a2 a3} (h : Stays z s) : Stays z (State.perform s a1 a2 a3) := by
  unfold State.perform
  repeat' first
    | with_reducible assumption
    | with_reducible refine Stays.regWrite ?_ (by with_reducible assumption)
    | with_reducible apply Stays.refuseAccess
    | with_reducible apply Stays.answered
    | with_reducible apply Stays.startReady
    | with_reducible refine Stays.regRead ?_ (by with_reducible assumption)
    | split

theorem Stays.deliver {z s a1} (h : Stays z s) : Stays z (State.deliver s a1) := by
  unfold State.deliver
  repeat' first
    | with_reducible assumption
    | with_reducible exact Stays.lit (by with_reducible assumption)
    | with_reducible apply Stays.perform
    | with_reducible apply Stays.takeEvent
    | (extract_lets +onlyGivenNames t; refine Stays.cut (t := t) ?_ (fun _ => ?_); (on_goal 1 => dsimp -zeta only [t]); (on_goal 2 => clear_value t))
    | (extract_lets +onlyGivenNames t; clear_value t)
    | split
    | fail_if_no_progress (with_reducible apply Stays.lit)

theorem Stays.deliverParked {z s a1} (h : Stays z s) : Stays z (State.deliverParked s a1) := by
  unfold State.deliverParked
  repeat' first
    | with_reducible assumption
    | with_reducible exact Stays.lit (by with_reducible assumption)
    | with_reducible apply Stays.deliver
    | (with_reducible refine Stays.foldl ?_ (fun _ _ _ => ?_))
    | (extract_lets +onlyGivenNames t; refine Stays.cut (t := t) ?_ (fun _ => ?_); (on_goal 1 => dsimp -zeta only [t]); (on_goal 2 => clear_value t))
    | (extract_lets +onlyGivenNames t; clear_value t)
    | intro _
    | fail_if_no_progress (with_reducible apply Stays.lit)

theorem Stays.serveWaiters {z s a1} (h : Stays z s) : Stays z (State.serveWaiters s a1) := by
  unfold State.serveWaiters
  repeat' first
    | with_reducible assumption
    | with_reducible exact Stays.lit (by with_reducible assumption)
    | with_reducible apply Stays.perform
    | (with_reducible refine Stays.foldl ?_ (fun _ _ _ => ?_))
    | (extract_lets +onlyGivenNames t; refine Stays.cut (t := t) ?_ (fun _ => ?_); (on_goal 1 => dsimp -zeta only [t]); (on_goal 2 => clear_value t))
    | (extract_lets +onlyGivenNames t; clear_value t)
    | intro _
    | fail_if_no_progress (with_reducible apply Stays.lit)

theorem Stays.atGate {z s a1 a2 a3 a4} (h : Stays z s) : Stays z (State.atGate s a1 a2 a3 a4) := by
  unfold State.atGate
  repeat' first
    | with_reducible assumption
    | with_reducible exact Stays.lit (by with_reducible assumption)
    | with_reducible apply Stays.park
    | with_reducible apply Stays.wake
    | (extract_lets +onlyGivenNames t; refine Stays.cut (t := t) ?_ (fun _ => ?_); (on_goal 1 => dsimp -zeta only [t]); (on_goal 2 => clear_value t))
    | (extract_lets +onlyGivenNames t; clear_value t)
    | split
    | fail_if_no_progress (with_reducible apply Stays.lit)

theorem Stays.waitOver {z s a1} (h : Stays z s) : Stays z (State.waitOver s a1) := by
  unfold State.waitOver
  repeat' first
    | with_reducible assumption
    | with_reducible exact Stays.lit (by with_reducible assumption)
    | with_reducible apply Stays.refuseAccess
    | (with_reducible refine Stays.foldl ?_ (fun _ _ _ => ?_))
    | (extract_lets +onlyGivenNames t; refine Stays.cut (t := t) ?_ (fun _ => ?_); (on_goal 1 => dsimp -zeta only [t]); (on_goal 2 => clear_value t))
    | (extract_lets +onlyGivenNames t; clear_value t)
    | split
    | intro _
    | fail_if_no_progress (with_reducible apply Stays.lit)

theorem Stays.judge {z s a1 a2 a3} (h : Stays z s) : Stays z (State.judge s a1 a2 a3) := by
  unfold State.judge
  repeat' first
    | with_reducible assumption
    | with_reducible apply Stays.refuseAccess
    | with_reducible apply Stays.atGate
    | with_reducible apply Stays.perform
    | with_reducible apply Stays.deliverParked
    | split

theorem Stays.accessFrom {z s a1 a2 a3} (h : Stays z s) : Stays z (State.accessFrom s a1 a2 a3) := by
  unfold State.accessFrom
  repeat' first
    | with_reducible assumption
    | with_reducible exact Stays.lit (by with_reducible assumption)
    | with_reducible apply Stays.refuseAccess
    | with_reducible refine Stays.busGrant ?_ (by with_reducible assumption)
    | with_reducible apply Stays.judge
    | with_reducible apply Stays.noteAsked
    | (extract_lets +onlyGivenNames t; refine Stays.cut (t := t) ?_ (fun _ => ?_); (on_goal 1 => dsimp -zeta only [t]); (on_goal 2 => clear_value t))
    | (extract_lets +onlyGivenNames t; clear_value t)
    | split
    | intro _
    | fail_if_no_progress (with_reducible apply Stays.lit)

theorem Stays.access {z s a1 a2} (h : Stays z s) : Stays z (State.access s a1 a2) := by
  unfold State.access
  repeat' first
    | with_reducible assumption
    | with_reducible exact Stays.lit (by with_reducible assumption)
    | with_reducible apply Stays.refuseAccess
    | with_reducible refine Stays.busGrant ?_ (by with_reducible assumption)
    | with_reducible apply Stays.judge
    | with_reducible apply Stays.noteAsked
    | with_reducible apply Stays.accessFrom
    | (extract_lets +onlyGivenNames t; refine Stays.cut (t := t) ?_ (fun _ => ?_); (on_goal 1 => dsimp -zeta only [t]); (on_goal 2 => clear_value t))
    | (extract_lets +onlyGivenNames t; clear_value t)
    | split
    | fail_if_no_progress (with_reducible apply Stays.lit)

theorem Stays.serveBus {z s} (h : Stays z s) : Stays z (State.serveBus s) := by
  unfold State.serveBus
  repeat' first
    | with_reducible assumption
    | with_reducible exact Stays.lit (by with_reducible assumption)
    | with_reducible apply Stays.access
    | with_reducible apply Stays.accessFrom
    | (with_reducible refine Stays.foldl ?_ (fun _ _ _ => ?_))
    | (extract_lets +onlyGivenNames t; refine Stays.cut (t := t) ?_ (fun _ => ?_); (on_goal 1 => dsimp -zeta only [t]); (on_goal 2 => clear_value t))
    | (extract_lets +onlyGivenNames t; clear_value t)
    | intro _
    | fail_if_no_progress (with_reducible apply Stays.lit)

theorem Stays.hostAccess {z s a1 a2} (h : Stays z s) : Stays z (State.hostAccess s a1 a2) := by
  unfold State.hostAccess
  repeat' first
    | with_reducible assumption
    | with_reducible apply Stays.aer
    | with_reducible apply Stays.send
    | with_reducible apply Stays.poisonNote
    | with_reducible apply Stays.access
    | with_reducible apply Stays.completion
    | (extract_lets +onlyGivenNames t; refine Stays.cut (t := t) ?_ (fun _ => ?_); (on_goal 1 => dsimp -zeta only [t]); (on_goal 2 => clear_value t))
    | (extract_lets +onlyGivenNames t; clear_value t)
    | split

theorem Stays.regAccess {z s a1 a2} (h : Stays z s) : Stays z (State.regAccess s a1 a2) := by
  unfold State.regAccess
  repeat' first
    | with_reducible assumption
    | with_reducible apply Stays.hostAccess
    | with_reducible apply Stays.access
    | split

theorem Stays.writeReg {z s a1 a2 a3} (h : Stays z s) : Stays z (State.writeReg s a1 a2 a3) := by
  unfold State.writeReg
  repeat' first
    | with_reducible assumption
    | with_reducible exact Stays.lit (by with_reducible assumption)
    | with_reducible apply Stays.regAccess
    | (extract_lets +onlyGivenNames t; refine Stays.cut (t := t) ?_ (fun _ => ?_); (on_goal 1 => dsimp -zeta only [t]); (on_goal 2 => clear_value t))
    | (extract_lets +onlyGivenNames t; clear_value t)
    | fail_if_no_progress (with_reducible apply Stays.lit)

theorem Stays.readReg {z s a1 a2} (h : Stays z s) : Stays z (State.readReg s a1 a2) := by
  unfold State.readReg
  repeat' first
    | with_reducible assumption
    | with_reducible exact Stays.lit (by with_reducible assumption)
    | with_reducible apply Stays.regAccess
    | (extract_lets +onlyGivenNames t; refine Stays.cut (t := t) ?_ (fun _ => ?_); (on_goal 1 => dsimp -zeta only [t]); (on_goal 2 => clear_value t))
    | (extract_lets +onlyGivenNames t; clear_value t)
    | fail_if_no_progress (with_reducible apply Stays.lit)

theorem Stays.monBanner {z s} (h : Stays z s) : Stays z (State.monBanner s) := by
  unfold State.monBanner
  repeat' first
    | with_reducible assumption
    | with_reducible apply Stays.monLine
    | with_reducible apply Stays.setFld

theorem Stays.monBannerOp {z s} (h : Stays z s) : Stays z (State.monBannerOp s) := by
  unfold State.monBannerOp
  repeat' first
    | with_reducible assumption
    | with_reducible exact Stays.lit (by with_reducible assumption)
    | with_reducible apply Stays.monBanner
    | (extract_lets +onlyGivenNames t; refine Stays.cut (t := t) ?_ (fun _ => ?_); (on_goal 1 => dsimp -zeta only [t]); (on_goal 2 => clear_value t))
    | (extract_lets +onlyGivenNames t; clear_value t)
    | split
    | fail_if_no_progress (with_reducible apply Stays.lit)

theorem Stays.monStart {z s a1} (h : Stays z s) : Stays z (State.monStart s a1) := by
  unfold State.monStart
  repeat' first
    | with_reducible assumption
    | with_reducible apply Stays.monPrompt
    | with_reducible apply Stays.raiseMon
    | with_reducible apply Stays.setBit
    | with_reducible apply Stays.setFld
    | split

theorem Stays.monBreakOp {z s} (h : Stays z s) : Stays z (State.monBreakOp s) := by
  unfold State.monBreakOp
  repeat' first
    | with_reducible assumption
    | with_reducible exact Stays.lit (by with_reducible assumption)
    | with_reducible apply Stays.raiseMon
    | with_reducible apply Stays.monEnds
    | (extract_lets +onlyGivenNames t; refine Stays.cut (t := t) ?_ (fun _ => ?_); (on_goal 1 => dsimp -zeta only [t]); (on_goal 2 => clear_value t))
    | (extract_lets +onlyGivenNames t; clear_value t)
    | split
    | fail_if_no_progress (with_reducible apply Stays.lit)

theorem Stays.monBreakEndOp {z s} (h : Stays z s) : Stays z (State.monBreakEndOp s) := by
  unfold State.monBreakEndOp
  repeat' first
    | with_reducible assumption
    | with_reducible exact Stays.lit (by with_reducible assumption)
    | with_reducible apply Stays.monBanner
    | (extract_lets +onlyGivenNames t; refine Stays.cut (t := t) ?_ (fun _ => ?_); (on_goal 1 => dsimp -zeta only [t]); (on_goal 2 => clear_value t))
    | (extract_lets +onlyGivenNames t; clear_value t)
    | split
    | fail_if_no_progress (with_reducible apply Stays.lit)

theorem Stays.monEcho {z s a1} (h : Stays z s) : Stays z (State.monEcho s a1) := by
  unfold State.monEcho
  repeat' first
    | with_reducible assumption
    | with_reducible apply Stays.monOut
    | split

theorem Stays.monEnter {z s} (h : Stays z s) : Stays z (State.monEnter s) := by
  unfold State.monEnter
  repeat' first
    | with_reducible assumption
    | with_reducible exact Stays.lit (by with_reducible assumption)
    | with_reducible apply Stays.setBit
    | with_reducible apply Stays.monNo
    | with_reducible apply Stays.monPrompt
    | (extract_lets +onlyGivenNames t; refine Stays.cut (t := t) ?_ (fun _ => ?_); (on_goal 1 => dsimp -zeta only [t]); (on_goal 2 => clear_value t))
    | (extract_lets +onlyGivenNames t; clear_value t)
    | split
    | fail_if_no_progress (with_reducible apply Stays.lit)

theorem Stays.monTake {z s a1} (h : Stays z s) : Stays z (State.monTake s a1) := by
  unfold State.monTake
  repeat' first
    | with_reducible assumption
    | with_reducible exact Stays.lit (by with_reducible assumption)
    | with_reducible apply Stays.monEnter
    | with_reducible apply Stays.monEcho
    | (extract_lets +onlyGivenNames t; refine Stays.cut (t := t) ?_ (fun _ => ?_); (on_goal 1 => dsimp -zeta only [t]); (on_goal 2 => clear_value t))
    | (extract_lets +onlyGivenNames t; clear_value t)
    | split
    | fail_if_no_progress (with_reducible apply Stays.lit)

theorem Stays.monDrain {z s n} (h : Stays z s) : Stays z (State.monDrain s n) := by
  induction n generalizing s with
  | zero => exact h
  | succ n ih =>
    unfold State.monDrain
    repeat' split
    all_goals first
      | with_reducible exact h
      | with_reducible exact ih (Stays.lit h).monTake

theorem Stays.monSettle {z s} (h : Stays z s) : Stays z (State.monSettle s) := by
  unfold State.monSettle
  repeat' first
    | with_reducible assumption
    | with_reducible apply Stays.monDrain

theorem Stays.monRx {z s a1} (h : Stays z s) : Stays z (State.monRx s a1) := by
  unfold State.monRx
  repeat' first
    | with_reducible assumption
    | with_reducible exact Stays.lit (by with_reducible assumption)
    | with_reducible apply Stays.monTake
    | (extract_lets +onlyGivenNames t; refine Stays.cut (t := t) ?_ (fun _ => ?_); (on_goal 1 => dsimp -zeta only [t]); (on_goal 2 => clear_value t))
    | (extract_lets +onlyGivenNames t; clear_value t)
    | split
    | fail_if_no_progress (with_reducible apply Stays.lit)

theorem Stays.monSyntax {z s} (h : Stays z s) : Stays z (State.monSyntax s) := by
  unfold State.monSyntax
  repeat' first
    | with_reducible assumption
    | with_reducible apply Stays.monNo

theorem Stays.monNeeds {z s n f} (h : Stays z s) (hf : ∀ t, Stays z t → Stays z (f t)) : Stays z (State.monNeeds s n f) := by
  unfold State.monNeeds
  split
  · with_reducible exact h.raiseMon.monNo
  · with_reducible exact hf _ h

theorem Stays.monGranted {z s f} (h : Stays z s) (hf : ∀ t, Stays z t → Stays z (f t)) : Stays z (State.monGranted s f) := by
  unfold State.monGranted
  split
  · rename_i e; exact hf _ (h.busGrant e)
  · with_reducible exact h.noteAsked

theorem Stays.monPlain {z s c n f} (h : Stays z s) (hf : ∀ t, Stays z t → Stays z (f t)) : Stays z (State.monPlain s c n f) := by
  unfold State.monPlain
  split
  · with_reducible exact h
  · with_reducible exact (h.monNeeds hf).monSettle
  · with_reducible exact h.monSyntax.monSettle

theorem Stays.monHelp {z s} (h : Stays z s) : Stays z (State.monHelp s) := by
  unfold State.monHelp
  repeat' first
    | with_reducible assumption
    | with_reducible apply Stays.monPlain
    | with_reducible apply Stays.monOk
    | intro _

theorem Stays.monV {z s} (h : Stays z s) : Stays z (State.monV s) := by
  unfold State.monV
  repeat' first
    | with_reducible assumption
    | with_reducible apply Stays.monPlain
    | with_reducible apply Stays.monGranted
    | with_reducible apply Stays.monOk
    | intro _

theorem Stays.monS {z s} (h : Stays z s) : Stays z (State.monS s) := by
  unfold State.monS
  repeat' first
    | with_reducible assumption
    | with_reducible apply Stays.monPlain
    | with_reducible apply Stays.monGranted
    | with_reducible apply Stays.monOk
    | intro _

theorem Stays.monE {z s} (h : Stays z s) : Stays z (State.monE s) := by
  unfold State.monE
  repeat' first
    | with_reducible assumption
    | with_reducible apply Stays.monPlain
    | with_reducible apply Stays.monGranted
    | with_reducible apply Stays.monOk
    | intro _

theorem Stays.monT {z s} (h : Stays z s) : Stays z (State.monT s) := by
  unfold State.monT
  repeat' first
    | with_reducible assumption
    | with_reducible apply Stays.monSettle
    | with_reducible apply Stays.monNeeds
    | with_reducible apply Stays.monGranted
    | with_reducible apply Stays.monOk
    | with_reducible apply Stays.monSyntax
    | (extract_lets +onlyGivenNames t; refine Stays.cut (t := t) ?_ (fun _ => ?_); (on_goal 1 => dsimp -zeta only [t]); (on_goal 2 => clear_value t))
    | (extract_lets +onlyGivenNames t; clear_value t)
    | split
    | intro _

theorem Stays.monG {z s} (h : Stays z s) : Stays z (State.monG s) := by
  unfold State.monG
  repeat' first
    | with_reducible assumption
    | with_reducible apply Stays.monPlain
    | with_reducible apply Stays.monGranted
    | with_reducible apply Stays.monOk
    | intro _

theorem Stays.monQ {z s} (h : Stays z s) : Stays z (State.monQ s) := by
  unfold State.monQ
  repeat' first
    | with_reducible assumption
    | with_reducible apply Stays.monSettle
    | with_reducible apply Stays.monNeeds
    | with_reducible apply Stays.monGranted
    | with_reducible apply Stays.monOk
    | with_reducible apply Stays.monSyntax
    | (extract_lets +onlyGivenNames t; refine Stays.cut (t := t) ?_ (fun _ => ?_); (on_goal 1 => dsimp -zeta only [t]); (on_goal 2 => clear_value t))
    | (extract_lets +onlyGivenNames t; clear_value t)
    | split
    | intro _

theorem Stays.monC {z s} (h : Stays z s) : Stays z (State.monC s) := by
  unfold State.monC
  repeat' first
    | with_reducible assumption
    | with_reducible apply Stays.monSettle
    | with_reducible apply Stays.monNeeds
    | with_reducible apply Stays.monGranted
    | with_reducible apply Stays.monOk
    | with_reducible apply Stays.monSyntax
    | (extract_lets +onlyGivenNames t; refine Stays.cut (t := t) ?_ (fun _ => ?_); (on_goal 1 => dsimp -zeta only [t]); (on_goal 2 => clear_value t))
    | (extract_lets +onlyGivenNames t; clear_value t)
    | split
    | intro _

theorem Stays.monX {z s} (h : Stays z s) : Stays z (State.monX s) := by
  unfold State.monX
  repeat' first
    | with_reducible assumption
    | with_reducible exact Stays.lit (by with_reducible assumption)
    | with_reducible apply Stays.monSettle
    | with_reducible apply Stays.monNeeds
    | with_reducible apply Stays.monGranted
    | with_reducible apply Stays.monOk
    | with_reducible apply Stays.monSyntax
    | with_reducible apply Stays.eyeStart
    | (extract_lets +onlyGivenNames t; refine Stays.cut (t := t) ?_ (fun _ => ?_); (on_goal 1 => dsimp -zeta only [t]); (on_goal 2 => clear_value t))
    | (extract_lets +onlyGivenNames t; clear_value t)
    | split
    | intro _
    | fail_if_no_progress (with_reducible apply Stays.lit)

theorem Stays.monA {z s} (h : Stays z s) : Stays z (State.monA s) := by
  unfold State.monA
  repeat' first
    | with_reducible assumption
    | with_reducible apply Stays.monSettle
    | with_reducible apply Stays.monNeeds
    | with_reducible apply Stays.monGranted
    | with_reducible apply Stays.monOk
    | with_reducible apply Stays.monSyntax
    | split
    | intro _

theorem Stays.monVerified {z s} (h : Stays z s) : Stays z (State.monVerified s) := by
  unfold State.monVerified
  repeat' first
    | with_reducible assumption
    | with_reducible apply Stays.monSettle
    | with_reducible apply Stays.monOk
    | with_reducible apply Stays.monNo
    | split

theorem Stays.monLoadEnd {z s} (h : Stays z s) : Stays z (State.monLoadEnd s) := by
  unfold State.monLoadEnd
  try dsimp only
  repeat' first
    | with_reducible assumption
    | with_reducible exact Stays.lit (by with_reducible assumption)
    | with_reducible apply Stays.monSettle
    | with_reducible apply Stays.monNeeds
    | with_reducible apply Stays.monGranted
    | with_reducible apply Stays.beginVerify
    | with_reducible apply Stays.monNo
    | with_reducible refine Stays.ite ?_ ?_
    | split
    | intro _
    | fail_if_no_progress (with_reducible apply Stays.lit)
    | (extract_lets +onlyGivenNames t; refine Stays.cut (t := t) ?_ (fun _ => ?_); (on_goal 1 => dsimp -zeta only [t]); (on_goal 2 => clear_value t))
    | (extract_lets +onlyGivenNames t; clear_value t)

theorem Stays.monLoadAbort {z s} (h : Stays z s) : Stays z (State.monLoadAbort s) := by
  unfold State.monLoadAbort
  try dsimp only
  repeat' first
    | with_reducible assumption
    | with_reducible apply Stays.monSettle
    | with_reducible apply Stays.monNeeds
    | with_reducible apply Stays.monGranted
    | with_reducible apply Stays.abortLoad
    | with_reducible apply Stays.monOk
    | with_reducible apply Stays.monNo
    | with_reducible refine Stays.ite ?_ ?_
    | split
    | intro _
    | (extract_lets +onlyGivenNames t; refine Stays.cut (t := t) ?_ (fun _ => ?_); (on_goal 1 => dsimp -zeta only [t]); (on_goal 2 => clear_value t))
    | (extract_lets +onlyGivenNames t; clear_value t)

theorem Stays.monL {z s} (h : Stays z s) : Stays z (State.monL s) := by
  unfold State.monL
  try dsimp only
  repeat' first
    | with_reducible assumption
    | with_reducible exact Stays.lit (by with_reducible assumption)
    | with_reducible apply Stays.monPlain
    | with_reducible apply Stays.monGranted
    | with_reducible apply Stays.monNo
    | with_reducible apply Stays.loadRefused
    | with_reducible apply Stays.beginLoad
    | with_reducible apply Stays.monOk
    | with_reducible apply Stays.setBit
    | with_reducible refine Stays.ite ?_ ?_
    | split
    | intro _
    | fail_if_no_progress (with_reducible apply Stays.lit)
    | (extract_lets +onlyGivenNames t; refine Stays.cut (t := t) ?_ (fun _ => ?_); (on_goal 1 => dsimp -zeta only [t]); (on_goal 2 => clear_value t))
    | (extract_lets +onlyGivenNames t; clear_value t)

theorem Stays.hexStage {z s a1 a2} (h : Stays z s) : Stays z (State.hexStage s a1 a2) := by
  unfold State.hexStage
  repeat' first
    | with_reducible assumption
    | with_reducible exact Stays.lit (by with_reducible assumption)
    | with_reducible apply Stays.forAll
    | with_reducible apply Stays.stageWord
    | (with_reducible refine Stays.forAll ?_ (fun _ _ _ => ?_))
    | (extract_lets +onlyGivenNames t; refine Stays.cut (t := t) ?_ (fun _ => ?_); (on_goal 1 => dsimp -zeta only [t]); (on_goal 2 => clear_value t))
    | (extract_lets +onlyGivenNames t; clear_value t)
    | intro _
    | fail_if_no_progress (with_reducible apply Stays.lit)

theorem Stays.monHex {z s} (h : Stays z s) : Stays z (State.monHex s) := by
  unfold State.monHex
  repeat' first
    | with_reducible assumption
    | with_reducible exact Stays.lit (by with_reducible assumption)
    | with_reducible apply Stays.monSettle
    | with_reducible apply Stays.monNo
    | with_reducible apply Stays.armRecord
    | with_reducible apply Stays.monOk
    | with_reducible apply Stays.hexStage
    | (extract_lets +onlyGivenNames t; refine Stays.cut (t := t) ?_ (fun _ => ?_); (on_goal 1 => dsimp -zeta only [t]); (on_goal 2 => clear_value t))
    | (extract_lets +onlyGivenNames t; clear_value t)
    | split
    | fail_if_no_progress (with_reducible apply Stays.lit)

theorem Stays.monB {z s} (h : Stays z s) : Stays z (State.monB s) := by
  unfold State.monB
  repeat' first
    | with_reducible assumption
    | with_reducible apply Stays.monSettle
    | with_reducible apply Stays.monNeeds
    | with_reducible apply Stays.setFld
    | with_reducible apply Stays.monOk
    | with_reducible apply Stays.monSyntax
    | split
    | intro _

theorem Stays.monZ {z s} (h : Stays z s) : Stays z (State.monZ s) := by
  unfold State.monZ
  try dsimp only
  repeat' first
    | with_reducible assumption
    | with_reducible exact Stays.lit (by with_reducible assumption)
    | with_reducible apply Stays.monPlain
    | with_reducible apply Stays.monOk
    | with_reducible refine Stays.ite ?_ ?_
    | intro _
    | fail_if_no_progress (with_reducible apply Stays.lit)
    | (extract_lets +onlyGivenNames t; refine Stays.cut (t := t) ?_ (fun _ => ?_); (on_goal 1 => dsimp -zeta only [t]); (on_goal 2 => clear_value t))
    | (extract_lets +onlyGivenNames t; clear_value t)

theorem Stays.monZReset {z s} (h : Stays z s) : Stays z (State.monZReset s) := by
  unfold State.monZReset
  repeat' first
    | with_reducible assumption
    | with_reducible apply Stays.resetDevice
    | split

theorem Stays.monDone {z s} (h : Stays z s) : Stays z (State.monDone s) := by
  unfold State.monDone
  repeat' first
    | with_reducible assumption
    | with_reducible apply Stays.monReply
    | with_reducible apply Stays.monOk
    | with_reducible apply Stays.monNo
    | (extract_lets +onlyGivenNames t; refine Stays.cut (t := t) ?_ (fun _ => ?_); (on_goal 1 => dsimp -zeta only [t]); (on_goal 2 => clear_value t))
    | (extract_lets +onlyGivenNames t; clear_value t)
    | split
    | intro _

theorem Stays.monSteps {z s n} (h : Stays z s) : Stays z (State.monSteps s n) := by
  induction n generalizing s with
  | zero => exact h
  | succ n ih =>
    unfold State.monSteps
    repeat' split
    all_goals first
      | with_reducible exact h
      | with_reducible exact h.monDone
      | with_reducible exact ih h.access

theorem Stays.monPump {z s} (h : Stays z s) : Stays z (State.monPump s) := by
  unfold State.monPump
  repeat' first
    | with_reducible assumption
    | with_reducible apply Stays.monSettle
    | with_reducible apply Stays.monSteps
    | split

theorem Stays.monBegin {z s a1 a2} (h : Stays z s) : Stays z (State.monBegin s a1 a2) := by
  unfold State.monBegin
  repeat' first
    | with_reducible assumption
    | with_reducible exact Stays.lit (by with_reducible assumption)
    | with_reducible apply Stays.monPump
    | (extract_lets +onlyGivenNames t; refine Stays.cut (t := t) ?_ (fun _ => ?_); (on_goal 1 => dsimp -zeta only [t]); (on_goal 2 => clear_value t))
    | (extract_lets +onlyGivenNames t; clear_value t)
    | fail_if_no_progress (with_reducible apply Stays.lit)

theorem Stays.monR {z s} (h : Stays z s) : Stays z (State.monR s) := by
  unfold State.monR
  repeat' first
    | with_reducible assumption
    | with_reducible apply Stays.monSettle
    | with_reducible apply Stays.monNeeds
    | with_reducible apply Stays.monBegin
    | with_reducible apply Stays.monSyntax
    | split
    | intro _

theorem Stays.monW {z s} (h : Stays z s) : Stays z (State.monW s) := by
  unfold State.monW
  repeat' first
    | with_reducible assumption
    | with_reducible apply Stays.monSettle
    | with_reducible apply Stays.monNeeds
    | with_reducible apply Stays.monBegin
    | with_reducible apply Stays.monSyntax
    | split
    | intro _

theorem Stays.monP {z s} (h : Stays z s) : Stays z (State.monP s) := by
  unfold State.monP
  repeat' first
    | with_reducible assumption
    | with_reducible apply Stays.monSettle
    | with_reducible apply Stays.monNeeds
    | with_reducible apply Stays.monBegin
    | with_reducible apply Stays.monSyntax
    | split
    | intro _

theorem Stays.monEventLine {z s} (h : Stays z s) : Stays z (State.monEventLine s) := by
  unfold State.monEventLine
  repeat' first
    | with_reducible assumption
    | with_reducible exact Stays.lit (by with_reducible assumption)
    | with_reducible apply Stays.monPrompt
    | with_reducible apply Stays.monLine
    | (extract_lets +onlyGivenNames t; refine Stays.cut (t := t) ?_ (fun _ => ?_); (on_goal 1 => dsimp -zeta only [t]); (on_goal 2 => clear_value t))
    | (extract_lets +onlyGivenNames t; clear_value t)
    | split
    | fail_if_no_progress (with_reducible apply Stays.lit)

theorem Stays.takeEntry {z s a1 a2} (h : Stays z s) : Stays z (State.takeEntry s a1 a2) := by
  unfold State.takeEntry
  repeat' first
    | with_reducible assumption
    | with_reducible exact Stays.lit (by with_reducible assumption)
    | with_reducible apply Stays.modPort
    | with_reducible apply Stays.stageEntry
    | with_reducible apply Stays.setEst
    | (extract_lets +onlyGivenNames t; refine Stays.cut (t := t) ?_ (fun _ => ?_); (on_goal 1 => dsimp -zeta only [t]); (on_goal 2 => clear_value t))
    | (extract_lets +onlyGivenNames t; clear_value t)
    | split
    | intro _
    | fail_if_no_progress (with_reducible apply Stays.lit)

theorem Stays.takeSome {z s c n} (h : Stays z s) : Stays z (State.takeSome s c n) := by
  induction n generalizing s with
  | zero => exact h
  | succ n ih =>
    unfold State.takeSome
    split
    · exact h
    · split
      · exact h
      · exact ih h.setHs.takeEntry

theorem Stays.takeReadable {z s a1} (h : Stays z s) : Stays z (State.takeReadable s a1) := by
  unfold State.takeReadable
  repeat' first
    | with_reducible assumption
    | with_reducible exact Stays.lit (by with_reducible assumption)
    | with_reducible apply Stays.takeEntry
    | with_reducible apply Stays.setHs
    | with_reducible apply Stays.takeSome
    | (with_reducible refine Stays.foldl ?_ (fun _ _ _ => ?_))
    | (extract_lets +onlyGivenNames t; refine Stays.cut (t := t) ?_ (fun _ => ?_); (on_goal 1 => dsimp -zeta only [t]); (on_goal 2 => clear_value t))
    | (extract_lets +onlyGivenNames t; clear_value t)
    | split
    | intro _
    | fail_if_no_progress (with_reducible apply Stays.lit)

theorem Stays.takeWaiting {z s} (h : Stays z s) : Stays z (State.takeWaiting s) := by
  unfold State.takeWaiting
  repeat' first
    | with_reducible assumption
    | with_reducible exact Stays.lit (by with_reducible assumption)
    | with_reducible apply Stays.takeReadable
    | (with_reducible refine Stays.forAll ?_ (fun _ _ _ => ?_))
    | split
    | intro _
    | fail_if_no_progress (with_reducible apply Stays.lit)

theorem Stays.entryDelivered {z s a1} (h : Stays z s) : Stays z (State.entryDelivered s a1) := by
  unfold State.entryDelivered
  repeat' first
    | with_reducible assumption
    | with_reducible exact Stays.lit (by with_reducible assumption)
    | with_reducible apply Stays.takeReadable
    | with_reducible apply Stays.setHs
    | (extract_lets +onlyGivenNames t; refine Stays.cut (t := t) ?_ (fun _ => ?_); (on_goal 1 => dsimp -zeta only [t]); (on_goal 2 => clear_value t))
    | (extract_lets +onlyGivenNames t; clear_value t)
    | split
    | fail_if_no_progress (with_reducible apply Stays.lit)

theorem Stays.sendResumed {z s a1} (h : Stays z s) : Stays z (State.sendResumed s a1) := by
  unfold State.sendResumed
  repeat' first
    | with_reducible assumption
    | with_reducible exact Stays.lit (by with_reducible assumption)
    | with_reducible apply Stays.setHs
    | (extract_lets +onlyGivenNames t; refine Stays.cut (t := t) ?_ (fun _ => ?_); (on_goal 1 => dsimp -zeta only [t]); (on_goal 2 => clear_value t))
    | (extract_lets +onlyGivenNames t; clear_value t)
    | split
    | fail_if_no_progress (with_reducible apply Stays.lit)

theorem Stays.queueWrite {z s a1 a2 a3} (h : Stays z s) : Stays z (State.queueWrite s a1 a2 a3) := by
  unfold State.queueWrite
  repeat' first
    | with_reducible assumption
    | with_reducible apply Stays.writeReg

theorem Stays.cmdOver {z s a1} (h : Stays z s) : Stays z (State.cmdOver s a1) := by
  unfold State.cmdOver
  repeat' first
    | with_reducible assumption
    | with_reducible exact Stays.lit (by with_reducible assumption)
    | with_reducible apply Stays.modQueue
    | (extract_lets +onlyGivenNames t; refine Stays.cut (t := t) ?_ (fun _ => ?_); (on_goal 1 => dsimp -zeta only [t]); (on_goal 2 => clear_value t))
    | (extract_lets +onlyGivenNames t; clear_value t)
    | intro _
    | fail_if_no_progress (with_reducible apply Stays.lit)

theorem Stays.cmdRefused {z s a1} (h : Stays z s) : Stays z (State.cmdRefused s a1) := by
  unfold State.cmdRefused
  repeat' first
    | with_reducible assumption
    | with_reducible apply Stays.raiseQue
    | with_reducible apply Stays.cmdOver

theorem Stays.onCmd {z s q o f} (h : Stays z s) (hf : ∀ k l, Stays z (f k l)) : Stays z (State.onCmd s q o f) := by
  unfold State.onCmd
  split
  · split
    · with_reducible exact hf _ _
    · with_reducible exact h
  · with_reducible exact h

theorem Stays.lockedFor {z s a1 a2 a3} (h : Stays z s) : Stays z (State.lockedFor s a1 a2 a3) := by
  unfold State.lockedFor
  repeat' first
    | with_reducible assumption
    | with_reducible apply Stays.lockAcquire
    | with_reducible apply Stays.stageRecord
    | with_reducible apply Stays.cmdOver
    | (extract_lets +onlyGivenNames t; refine Stays.cut (t := t) ?_ (fun _ => ?_); (on_goal 1 => dsimp -zeta only [t]); (on_goal 2 => clear_value t))
    | (extract_lets +onlyGivenNames t; clear_value t)

theorem Stays.cmdLockOp {z s a1 a2 a3} (h : Stays z s) : Stays z (State.cmdLockOp s a1 a2 a3) := by
  unfold State.cmdLockOp
  repeat' first
    | with_reducible assumption
    | with_reducible exact Stays.lit (by with_reducible assumption)
    | with_reducible apply Stays.cmdRefused
    | with_reducible apply Stays.lockedFor
    | (extract_lets +onlyGivenNames t; refine Stays.cut (t := t) ?_ (fun _ => ?_); (on_goal 1 => dsimp -zeta only [t]); (on_goal 2 => clear_value t))
    | (extract_lets +onlyGivenNames t; clear_value t)
    | split
    | intro _
    | fail_if_no_progress (with_reducible apply Stays.lit)

theorem Stays.lockGranted {z s a1} (h : Stays z s) : Stays z (State.lockGranted s a1) := by
  unfold State.lockGranted
  repeat' first
    | with_reducible assumption
    | with_reducible exact Stays.lit (by with_reducible assumption)
    | with_reducible apply Stays.lockedFor
    | (extract_lets +onlyGivenNames t; refine Stays.cut (t := t) ?_ (fun _ => ?_); (on_goal 1 => dsimp -zeta only [t]); (on_goal 2 => clear_value t))
    | (extract_lets +onlyGivenNames t; clear_value t)
    | split
    | intro _
    | fail_if_no_progress (with_reducible apply Stays.lit)

theorem Stays.cmdUnlockOp {z s a1 a2 a3} (h : Stays z s) : Stays z (State.cmdUnlockOp s a1 a2 a3) := by
  unfold State.cmdUnlockOp
  repeat' first
    | with_reducible assumption
    | with_reducible apply Stays.cmdOver
    | with_reducible apply Stays.lockFree
    | (extract_lets +onlyGivenNames t; refine Stays.cut (t := t) ?_ (fun _ => ?_); (on_goal 1 => dsimp -zeta only [t]); (on_goal 2 => clear_value t))
    | (extract_lets +onlyGivenNames t; clear_value t)
    | split

theorem Stays.cmdSkip {z s a1} (h : Stays z s) : Stays z (State.cmdSkip s a1) := by
  unfold State.cmdSkip
  repeat' first
    | with_reducible assumption
    | with_reducible apply Stays.raiseQue
    | with_reducible apply Stays.cmdOver
    | with_reducible apply Stays.cmdRefused
    | split

theorem Stays.newGrid {z s a1 a2 a3 a4} (h : Stays z s) : Stays z (State.newGrid s a1 a2 a3 a4) := by
  unfold State.newGrid
  repeat' first
    | with_reducible assumption
    | with_reducible exact Stays.lit (by with_reducible assumption)
    | with_reducible apply Stays.setChn
    | (extract_lets +onlyGivenNames t; refine Stays.cut (t := t) ?_ (fun _ => ?_); (on_goal 1 => dsimp -zeta only [t]); (on_goal 2 => clear_value t))
    | (extract_lets +onlyGivenNames t; clear_value t)
    | split
    | fail_if_no_progress (with_reducible apply Stays.lit)

theorem Stays.cmdPitchOp {z s a1 a2 a3} (h : Stays z s) : Stays z (State.cmdPitchOp s a1 a2 a3) := by
  unfold State.cmdPitchOp
  repeat' first
    | with_reducible assumption
    | with_reducible apply Stays.cmdRefused
    | with_reducible apply Stays.cmdOver
    | with_reducible apply Stays.newGrid
    | (extract_lets +onlyGivenNames t; refine Stays.cut (t := t) ?_ (fun _ => ?_); (on_goal 1 => dsimp -zeta only [t]); (on_goal 2 => clear_value t))
    | (extract_lets +onlyGivenNames t; clear_value t)
    | split

theorem Stays.cmdExposureOp {z s a1 a2 a3} (h : Stays z s) : Stays z (State.cmdExposureOp s a1 a2 a3) := by
  unfold State.cmdExposureOp
  repeat' first
    | with_reducible assumption
    | with_reducible exact Stays.lit (by with_reducible assumption)
    | with_reducible apply Stays.cmdRefused
    | with_reducible apply Stays.cmdOver
    | with_reducible apply Stays.setChn
    | (extract_lets +onlyGivenNames t; refine Stays.cut (t := t) ?_ (fun _ => ?_); (on_goal 1 => dsimp -zeta only [t]); (on_goal 2 => clear_value t))
    | (extract_lets +onlyGivenNames t; clear_value t)
    | split
    | fail_if_no_progress (with_reducible apply Stays.lit)

theorem Stays.cmdRephaseOp {z s a1 a2 a3} (h : Stays z s) : Stays z (State.cmdRephaseOp s a1 a2 a3) := by
  unfold State.cmdRephaseOp
  repeat' first
    | with_reducible assumption
    | with_reducible apply Stays.cmdRefused
    | with_reducible apply Stays.cmdOver
    | with_reducible apply Stays.newGrid
    | (extract_lets +onlyGivenNames t; refine Stays.cut (t := t) ?_ (fun _ => ?_); (on_goal 1 => dsimp -zeta only [t]); (on_goal 2 => clear_value t))
    | (extract_lets +onlyGivenNames t; clear_value t)
    | split

theorem Stays.cmdWindowSetOp {z s a1 a2 a3} (h : Stays z s) : Stays z (State.cmdWindowSetOp s a1 a2 a3) := by
  unfold State.cmdWindowSetOp
  repeat' first
    | with_reducible assumption
    | with_reducible exact Stays.lit (by with_reducible assumption)
    | with_reducible apply Stays.cmdRefused
    | with_reducible apply Stays.cmdOver
    | with_reducible apply Stays.setWindow
    | (extract_lets +onlyGivenNames t; refine Stays.cut (t := t) ?_ (fun _ => ?_); (on_goal 1 => dsimp -zeta only [t]); (on_goal 2 => clear_value t))
    | (extract_lets +onlyGivenNames t; clear_value t)
    | split
    | dsimp only
    | fail_if_no_progress (with_reducible apply Stays.lit)

theorem Stays.cmdWindowClearOp {z s a1 a2 a3} (h : Stays z s) : Stays z (State.cmdWindowClearOp s a1 a2 a3) := by
  unfold State.cmdWindowClearOp
  repeat' first
    | with_reducible assumption
    | with_reducible apply Stays.cmdOver
    | with_reducible apply Stays.setWindow
    | with_reducible apply Stays.cmdRefused
    | (extract_lets +onlyGivenNames t; refine Stays.cut (t := t) ?_ (fun _ => ?_); (on_goal 1 => dsimp -zeta only [t]); (on_goal 2 => clear_value t))
    | (extract_lets +onlyGivenNames t; clear_value t)
    | split

theorem Stays.cmdReservedOp {z s a1} (h : Stays z s) : Stays z (State.cmdReservedOp s a1) := by
  unfold State.cmdReservedOp
  repeat' first
    | with_reducible assumption
    | with_reducible apply Stays.cmdRefused
    | split

theorem Stays.contraryCount {z s a1 a2} (h : Stays z s) : Stays z (State.contraryCount s a1 a2) := by
  unfold State.contraryCount
  repeat' first
    | with_reducible assumption
    | with_reducible exact Stays.lit (by with_reducible assumption)
    | with_reducible apply Stays.raiseEnc
    | with_reducible apply Stays.setEnc
    | (extract_lets +onlyGivenNames t; refine Stays.cut (t := t) ?_ (fun _ => ?_); (on_goal 1 => dsimp -zeta only [t]); (on_goal 2 => clear_value t))
    | (extract_lets +onlyGivenNames t; clear_value t)
    | split
    | fail_if_no_progress (with_reducible apply Stays.lit)

theorem Stays.encCount {z s a1 a2 a3} (h : Stays z s) : Stays z (State.encCount s a1 a2 a3) := by
  unfold State.encCount
  repeat' first
    | with_reducible assumption
    | with_reducible exact Stays.lit (by with_reducible assumption)
    | with_reducible apply Stays.setEnc
    | with_reducible apply Stays.sourceCount
    | with_reducible apply Stays.contraryCount
    | (extract_lets +onlyGivenNames t; refine Stays.cut (t := t) ?_ (fun _ => ?_); (on_goal 1 => dsimp -zeta only [t]); (on_goal 2 => clear_value t))
    | (extract_lets +onlyGivenNames t; clear_value t)
    | split
    | fail_if_no_progress (with_reducible apply Stays.lit)

theorem Stays.encIllegal {z s a1} (h : Stays z s) : Stays z (State.encIllegal s a1) := by
  unfold State.encIllegal
  repeat' first
    | with_reducible assumption
    | with_reducible exact Stays.lit (by with_reducible assumption)
    | with_reducible apply Stays.bump
    | with_reducible apply Stays.setEnc
    | with_reducible apply Stays.raiseEnc
    | (extract_lets +onlyGivenNames t; refine Stays.cut (t := t) ?_ (fun _ => ?_); (on_goal 1 => dsimp -zeta only [t]); (on_goal 2 => clear_value t))
    | (extract_lets +onlyGivenNames t; clear_value t)
    | split
    | intro _
    | fail_if_no_progress (with_reducible apply Stays.lit)

theorem Stays.encTransition {z s a1 a2 a3 a4} (h : Stays z s) : Stays z (State.encTransition s a1 a2 a3 a4) := by
  unfold State.encTransition
  repeat' first
    | with_reducible assumption
    | with_reducible apply Stays.encIllegal
    | with_reducible apply Stays.encCount
    | (extract_lets +onlyGivenNames t; refine Stays.cut (t := t) ?_ (fun _ => ?_); (on_goal 1 => dsimp -zeta only [t]); (on_goal 2 => clear_value t))
    | (extract_lets +onlyGivenNames t; clear_value t)
    | split

theorem Stays.zEdge {z s a1 a2} (h : Stays z s) : Stays z (State.zEdge s a1 a2) := by
  unfold State.zEdge
  repeat' first
    | with_reducible assumption
    | with_reducible exact Stays.lit (by with_reducible assumption)
    | with_reducible apply Stays.setEnc
    | with_reducible apply Stays.raiseEnc
    | with_reducible apply Stays.references
    | (extract_lets +onlyGivenNames t; refine Stays.cut (t := t) ?_ (fun _ => ?_); (on_goal 1 => dsimp -zeta only [t]); (on_goal 2 => clear_value t))
    | (extract_lets +onlyGivenNames t; clear_value t)
    | split
    | fail_if_no_progress (with_reducible apply Stays.lit)

theorem Stays.encQualified {z s a1 a2 a3 a4} (h : Stays z s) : Stays z (State.encQualified s a1 a2 a3 a4) := by
  unfold State.encQualified
  repeat' first
    | with_reducible assumption
    | with_reducible exact Stays.lit (by with_reducible assumption)
    | with_reducible apply Stays.setEnc
    | with_reducible apply Stays.zEdge
    | with_reducible apply Stays.raiseEnc
    | with_reducible apply Stays.encTransition
    | (extract_lets +onlyGivenNames t; refine Stays.cut (t := t) ?_ (fun _ => ?_); (on_goal 1 => dsimp -zeta only [t]); (on_goal 2 => clear_value t))
    | (extract_lets +onlyGivenNames t; clear_value t)
    | split
    | fail_if_no_progress (with_reducible apply Stays.lit)

theorem Stays.encBand {z s a1 a2 a3} (h : Stays z s) : Stays z (State.encBand s a1 a2 a3) := by
  unfold State.encBand
  repeat' first
    | with_reducible assumption
    | with_reducible exact Stays.lit (by with_reducible assumption)
    | with_reducible apply Stays.setEnc
    | with_reducible apply Stays.raiseEnc
    | (extract_lets +onlyGivenNames t; refine Stays.cut (t := t) ?_ (fun _ => ?_); (on_goal 1 => dsimp -zeta only [t]); (on_goal 2 => clear_value t))
    | (extract_lets +onlyGivenNames t; clear_value t)
    | split
    | intro _
    | fail_if_no_progress (with_reducible apply Stays.lit)

theorem Stays.probeDone {z s a1 a2 a3} (h : Stays z s) : Stays z (State.probeDone s a1 a2 a3) := by
  unfold State.probeDone
  repeat' first
    | with_reducible assumption
    | with_reducible exact Stays.lit (by with_reducible assumption)
    | with_reducible apply Stays.setEnc
    | with_reducible apply Stays.encBand
    | (extract_lets +onlyGivenNames t; refine Stays.cut (t := t) ?_ (fun _ => ?_); (on_goal 1 => dsimp -zeta only [t]); (on_goal 2 => clear_value t))
    | (extract_lets +onlyGivenNames t; clear_value t)
    | split
    | fail_if_no_progress (with_reducible apply Stays.lit)

theorem Stays.encCm {z s a1 a2 a3} (h : Stays z s) : Stays z (State.encCm s a1 a2 a3) := by
  unfold State.encCm
  repeat' first
    | with_reducible assumption
    | with_reducible exact Stays.lit (by with_reducible assumption)
    | with_reducible apply Stays.setEnc
    | with_reducible apply Stays.raiseEnc
    | (extract_lets +onlyGivenNames t; refine Stays.cut (t := t) ?_ (fun _ => ?_); (on_goal 1 => dsimp -zeta only [t]); (on_goal 2 => clear_value t))
    | (extract_lets +onlyGivenNames t; clear_value t)
    | split
    | intro _
    | fail_if_no_progress (with_reducible apply Stays.lit)

theorem Stays.levChange {z s a1 a2} (h : Stays z s) : Stays z (State.levChange s a1 a2) := by
  unfold State.levChange
  repeat' first
    | with_reducible assumption
    | with_reducible exact Stays.lit (by with_reducible assumption)
    | with_reducible apply Stays.setLev
    | with_reducible apply Stays.sourceCount
    | with_reducible apply Stays.raiseEnc
    | with_reducible apply Stays.references
    | (extract_lets +onlyGivenNames t; refine Stays.cut (t := t) ?_ (fun _ => ?_); (on_goal 1 => dsimp -zeta only [t]); (on_goal 2 => clear_value t))
    | (extract_lets +onlyGivenNames t; clear_value t)
    | split
    | fail_if_no_progress (with_reducible apply Stays.lit)

theorem Stays.seStepOp {z s a1} (h : Stays z s) : Stays z (State.seStepOp s a1) := by
  unfold State.seStepOp
  repeat' first
    | with_reducible assumption
    | with_reducible exact Stays.lit (by with_reducible assumption)
    | with_reducible apply Stays.sourceCount
    | with_reducible apply Stays.setSe
    | (extract_lets +onlyGivenNames t; refine Stays.cut (t := t) ?_ (fun _ => ?_); (on_goal 1 => dsimp -zeta only [t]); (on_goal 2 => clear_value t))
    | (extract_lets +onlyGivenNames t; clear_value t)
    | split
    | fail_if_no_progress (with_reducible apply Stays.lit)

theorem Stays.filterRelease {z s a1} (h : Stays z s) : Stays z (State.filterRelease s a1) := by
  unfold State.filterRelease
  repeat' first
    | with_reducible assumption
    | with_reducible exact Stays.lit (by with_reducible assumption)
    | with_reducible apply Stays.sendEstimate
    | with_reducible apply Stays.veCount
    | with_reducible apply Stays.setVe
    | (extract_lets +onlyGivenNames t; refine Stays.cut (t := t) ?_ (fun _ => ?_); (on_goal 1 => dsimp -zeta only [t]); (on_goal 2 => clear_value t))
    | (extract_lets +onlyGivenNames t; clear_value t)
    | split
    | fail_if_no_progress (with_reducible apply Stays.lit)

theorem Stays.veStillOp {z s a1} (h : Stays z s) : Stays z (State.veStillOp s a1) := by
  unfold State.veStillOp
  repeat' first
    | with_reducible assumption
    | with_reducible apply Stays.sendEstimate
    | with_reducible apply Stays.setVe
    | (extract_lets +onlyGivenNames t; refine Stays.cut (t := t) ?_ (fun _ => ?_); (on_goal 1 => dsimp -zeta only [t]); (on_goal 2 => clear_value t))
    | (extract_lets +onlyGivenNames t; clear_value t)
    | split

theorem Stays.splitRefused {z s a1 a2} (h : Stays z s) : Stays z (State.splitRefused s a1 a2) := by
  unfold State.splitRefused
  repeat' first
    | with_reducible assumption
    | with_reducible apply Stays.satLogNo
    | with_reducible apply Stays.splitAnswer

theorem Stays.released {z s} (h : Stays z s) : Stays z (State.released s) := by
  unfold State.released
  repeat' first
    | with_reducible assumption
    | with_reducible apply Stays.issueSplits
    | with_reducible apply Stays.flushToHost
    | with_reducible apply Stays.sendPending

theorem Stays.splitBegin {z s a1 a2} (h : Stays z s) : Stays z (State.splitBegin s a1 a2) := by
  unfold State.splitBegin
  repeat' first
    | with_reducible assumption
    | with_reducible exact Stays.lit (by with_reducible assumption)
    | with_reducible apply Stays.setSplit
    | with_reducible apply Stays.send
    | with_reducible apply Stays.splitRefused
    | with_reducible apply Stays.regAccess
    | with_reducible apply Stays.bump
    | with_reducible apply Stays.issueSplit
    | (extract_lets +onlyGivenNames t; refine Stays.cut (t := t) ?_ (fun _ => ?_); (on_goal 1 => dsimp -zeta only [t]); (on_goal 2 => clear_value t))
    | (extract_lets +onlyGivenNames t; clear_value t)
    | split
    | fail_if_no_progress (with_reducible apply Stays.lit)

theorem Stays.addressEdge_none {z s m b x u} (h : Stays z s) (e : State.addressEdge s m b = (x, u)) : Stays z u := by
  have := (h.addressEdge (m := m) (b := b)).1; rw [e] at this; exact this

theorem Stays.addressEdge_some {z s m b t u} (h : Stays z s) (e : State.addressEdge s m b = (some t, u)) : Stays z t :=
  h.addressEdge.2 t (by rw [e])

theorem Stays.splitBurst {z s a1 a2} (h : Stays z s) : Stays z (State.splitBurst s a1 a2) := by
  unfold State.splitBurst
  try dsimp only
  repeat' first
    | with_reducible assumption
    | with_reducible exact Stays.lit (by with_reducible assumption)
    | with_reducible refine Stays.addressEdge_some ?_ (by with_reducible assumption)
    | with_reducible refine Stays.addressEdge_none ?_ (by with_reducible assumption)
    | with_reducible apply Stays.parityErrors
    | with_reducible apply Stays.splitBegin
    | with_reducible apply Stays.issueSplit
    | with_reducible apply Stays.collect
    | with_reducible apply Stays.send
    | with_reducible apply Stays.addressEdge
    | with_reducible refine Stays.ite ?_ ?_
    | split
    | fail_if_no_progress (with_reducible apply Stays.lit)
    | (extract_lets +onlyGivenNames t; refine Stays.cut (t := t) ?_ (fun _ => ?_); (on_goal 1 => dsimp -zeta only [t]); (on_goal 2 => clear_value t))
    | (extract_lets +onlyGivenNames t; clear_value t)

theorem Stays.hwrRefused {z s a1 a2} (h : Stays z s) : Stays z (State.hwrRefused s a1 a2) := by
  unfold State.hwrRefused
  repeat' first
    | with_reducible assumption
    | with_reducible apply Stays.raiseSat
    | with_reducible apply Stays.satLogNo

theorem Stays.hwrRegister {z s a1 a2 a3} (h : Stays z s) : Stays z (State.hwrRegister s a1 a2 a3) := by
  unfold State.hwrRegister
  repeat' first
    | with_reducible assumption
    | with_reducible apply Stays.raiseSat
    | with_reducible apply Stays.satLogNo
    | with_reducible apply Stays.regAccess
    | split

theorem Stays.bridgeUE {z s} (h : Stays z s) : Stays z (State.bridgeUE s) := by
  unfold State.bridgeUE
  repeat' first
    | with_reducible assumption
    | with_reducible exact Stays.lit (by with_reducible assumption)
    | with_reducible apply Stays.eccNote
    | with_reducible apply Stays.drew
    | split
    | intro _
    | fail_if_no_progress (with_reducible apply Stays.lit)

theorem Stays.hwrHost {z s a1 a2 a3 a4} (h : Stays z s) : Stays z (State.hwrHost s a1 a2 a3 a4) := by
  unfold State.hwrHost
  repeat' first
    | with_reducible assumption
    | with_reducible exact Stays.lit (by with_reducible assumption)
    | with_reducible apply Stays.flushToHost
    | with_reducible apply Stays.bridgeUE
    | with_reducible apply Stays.satLockSettle
    | (extract_lets +onlyGivenNames t; refine Stays.cut (t := t) ?_ (fun _ => ?_); (on_goal 1 => dsimp -zeta only [t]); (on_goal 2 => clear_value t))
    | (extract_lets +onlyGivenNames t; clear_value t)
    | split
    | fail_if_no_progress (with_reducible apply Stays.lit)

theorem Stays.hwrBurst {z s a1 a2} (h : Stays z s) : Stays z (State.hwrBurst s a1 a2) := by
  unfold State.hwrBurst
  try dsimp only
  repeat' first
    | with_reducible assumption
    | with_reducible refine Stays.addressEdge_some ?_ (by with_reducible assumption)
    | with_reducible refine Stays.addressEdge_none ?_ (by with_reducible assumption)
    | with_reducible apply Stays.parityErrors
    | with_reducible apply Stays.hwrRegister
    | with_reducible apply Stays.hwrRefused
    | with_reducible apply Stays.hwrHost
    | with_reducible apply Stays.bump
    | with_reducible apply Stays.addressEdge
    | with_reducible refine Stays.ite ?_ ?_
    | split
    | (extract_lets +onlyGivenNames t; refine Stays.cut (t := t) ?_ (fun _ => ?_); (on_goal 1 => dsimp -zeta only [t]); (on_goal 2 => clear_value t))
    | (extract_lets +onlyGivenNames t; clear_value t)

theorem Stays.reservedBurst {z s a1 a2} (h : Stays z s) : Stays z (State.reservedBurst s a1 a2) := by
  unfold State.reservedBurst
  try dsimp only
  repeat' first
    | with_reducible assumption
    | with_reducible refine Stays.addressEdge_some ?_ (by with_reducible assumption)
    | with_reducible refine Stays.addressEdge_none ?_ (by with_reducible assumption)
    | with_reducible apply Stays.send
    | with_reducible apply Stays.addressEdge
    | with_reducible refine Stays.ite ?_ ?_
    | split

theorem Stays.cadenceBoundary {z s} (h : Stays z s) : Stays z (State.cadenceBoundary s) := by
  unfold State.cadenceBoundary
  repeat' first
    | with_reducible assumption
    | with_reducible apply Stays.monPump
    | with_reducible apply Stays.serveBus
    | with_reducible apply Stays.boundary
    | with_reducible apply Stays.released
    | with_reducible apply Stays.flushRing
    | split

theorem Stays.meterReport {z s a1 a2} (h : Stays z s) : Stays z (State.meterReport s a1 a2) := by
  unfold State.meterReport
  repeat' first
    | with_reducible assumption
    | with_reducible refine Stays.busGrant ?_ (by with_reducible assumption)
    | with_reducible apply Stays.book
    | with_reducible apply Stays.noteAsked
    | split

theorem Stays.vectorTimer {z s a1} (h : Stays z s) : Stays z (State.vectorTimer s a1) := by
  unfold State.vectorTimer
  repeat' first
    | with_reducible assumption
    | with_reducible apply Stays.sendMessage
    | with_reducible apply Stays.setVec
    | split

theorem Stays.fbCtlWrite {z s a1 a2 a3 a4} (h : Stays z s) : Stays z (State.fbCtlWrite s a1 a2 a3 a4) := by
  unfold State.fbCtlWrite
  repeat' first
    | with_reducible assumption
    | with_reducible apply Stays.writeReg

theorem Stays.presenceTaken {z s a1} (h : Stays z s) : Stays z (State.presenceTaken s a1) := by
  unfold State.presenceTaken
  repeat' first
    | with_reducible assumption
    | with_reducible exact Stays.lit (by with_reducible assumption)
    | with_reducible apply Stays.setPort
    | with_reducible apply Stays.raiseHp
    | (extract_lets +onlyGivenNames t; refine Stays.cut (t := t) ?_ (fun _ => ?_); (on_goal 1 => dsimp -zeta only [t]); (on_goal 2 => clear_value t))
    | (extract_lets +onlyGivenNames t; clear_value t)
    | split
    | fail_if_no_progress (with_reducible apply Stays.lit)

theorem Stays.absenceTaken {z s a1} (h : Stays z s) : Stays z (State.absenceTaken s a1) := by
  unfold State.absenceTaken
  repeat' first
    | with_reducible assumption
    | with_reducible exact Stays.lit (by with_reducible assumption)
    | with_reducible apply Stays.setPort
    | with_reducible apply Stays.setBit
    | with_reducible apply Stays.unpower
    | with_reducible apply Stays.raiseHp
    | with_reducible apply Stays.modPort
    | (extract_lets +onlyGivenNames t; refine Stays.cut (t := t) ?_ (fun _ => ?_); (on_goal 1 => dsimp -zeta only [t]); (on_goal 2 => clear_value t))
    | (extract_lets +onlyGivenNames t; clear_value t)
    | split
    | fail_if_no_progress (with_reducible apply Stays.lit)

theorem Stays.penRise {z s a1} (h : Stays z s) : Stays z (State.penRise s a1) := by
  unfold State.penRise
  repeat' first
    | with_reducible assumption
    | with_reducible exact Stays.lit (by with_reducible assumption)
    | with_reducible apply Stays.setQuad
    | with_reducible apply Stays.modPort
    | (extract_lets +onlyGivenNames t; refine Stays.cut (t := t) ?_ (fun _ => ?_); (on_goal 1 => dsimp -zeta only [t]); (on_goal 2 => clear_value t))
    | (extract_lets +onlyGivenNames t; clear_value t)
    | split
    | intro _
    | fail_if_no_progress (with_reducible apply Stays.lit)

theorem Stays.powerGood {z s a1} (h : Stays z s) : Stays z (State.powerGood s a1) := by
  unfold State.powerGood
  repeat' first
    | with_reducible assumption
    | with_reducible exact Stays.lit (by with_reducible assumption)
    | with_reducible apply Stays.raiseHp
    | with_reducible apply Stays.setPort
    | (extract_lets +onlyGivenNames t; refine Stays.cut (t := t) ?_ (fun _ => ?_); (on_goal 1 => dsimp -zeta only [t]); (on_goal 2 => clear_value t))
    | (extract_lets +onlyGivenNames t; clear_value t)
    | split
    | fail_if_no_progress (with_reducible apply Stays.lit)

theorem Stays.pgdOver {z s a1} (h : Stays z s) : Stays z (State.pgdOver s a1) := by
  unfold State.pgdOver
  repeat' first
    | with_reducible assumption
    | with_reducible apply Stays.powerFault
    | (extract_lets +onlyGivenNames t; refine Stays.cut (t := t) ?_ (fun _ => ?_); (on_goal 1 => dsimp -zeta only [t]); (on_goal 2 => clear_value t))
    | (extract_lets +onlyGivenNames t; clear_value t)
    | split

theorem Stays.pgdLow {z s a1} (h : Stays z s) : Stays z (State.pgdLow s a1) := by
  unfold State.pgdLow
  repeat' first
    | with_reducible assumption
    | with_reducible exact Stays.lit (by with_reducible assumption)
    | with_reducible apply Stays.setPort
    | with_reducible apply Stays.powerFault
    | (extract_lets +onlyGivenNames t; refine Stays.cut (t := t) ?_ (fun _ => ?_); (on_goal 1 => dsimp -zeta only [t]); (on_goal 2 => clear_value t))
    | (extract_lets +onlyGivenNames t; clear_value t)
    | split
    | fail_if_no_progress (with_reducible apply Stays.lit)

theorem Stays.attention {z s a1} (h : Stays z s) : Stays z (State.attention s a1) := by
  unfold State.attention
  repeat' first
    | with_reducible assumption
    | with_reducible exact Stays.lit (by with_reducible assumption)
    | with_reducible apply Stays.setPort
    | with_reducible apply Stays.raiseHp
    | (extract_lets +onlyGivenNames t; refine Stays.cut (t := t) ?_ (fun _ => ?_); (on_goal 1 => dsimp -zeta only [t]); (on_goal 2 => clear_value t))
    | (extract_lets +onlyGivenNames t; clear_value t)
    | split
    | fail_if_no_progress (with_reducible apply Stays.lit)

theorem Stays.attentionOver {z s a1} (h : Stays z s) : Stays z (State.attentionOver s a1) := by
  unfold State.attentionOver
  repeat' first
    | with_reducible assumption
    | with_reducible exact Stays.lit (by with_reducible assumption)
    | with_reducible apply Stays.raiseHp
    | with_reducible apply Stays.modPort
    | with_reducible apply Stays.powerDrop
    | with_reducible apply Stays.setBit
    | with_reducible apply Stays.powerRequest
    | (extract_lets +onlyGivenNames t; refine Stays.cut (t := t) ?_ (fun _ => ?_); (on_goal 1 => dsimp -zeta only [t]); (on_goal 2 => clear_value t))
    | (extract_lets +onlyGivenNames t; clear_value t)
    | split
    | intro _
    | fail_if_no_progress (with_reducible apply Stays.lit)

theorem Stays.slotPower {z s a1 a2} (h : Stays z s) : Stays z (State.slotPower s a1 a2) := by
  unfold State.slotPower
  repeat' first
    | with_reducible assumption
    | with_reducible apply Stays.setCfg
    | with_reducible apply Stays.startReady
    | with_reducible apply Stays.wr
    | with_reducible apply Stays.ceilingFrom
    | (extract_lets +onlyGivenNames t; refine Stays.cut (t := t) ?_ (fun _ => ?_); (on_goal 1 => dsimp -zeta only [t]); (on_goal 2 => clear_value t))
    | (extract_lets +onlyGivenNames t; clear_value t)
    | split

theorem Stays.msixWrite {z s a1 a2} (h : Stays z s) : Stays z (State.msixWrite s a1 a2) := by
  unfold State.msixWrite
  repeat' first
    | with_reducible assumption
    | with_reducible exact Stays.lit (by with_reducible assumption)
    | (extract_lets +onlyGivenNames t; refine Stays.cut (t := t) ?_ (fun _ => ?_); (on_goal 1 => dsimp -zeta only [t]); (on_goal 2 => clear_value t))
    | (extract_lets +onlyGivenNames t; clear_value t)
    | split
    | fail_if_no_progress (with_reducible apply Stays.lit)

theorem Stays.bar4Op {z s a1} (h : Stays z s) : Stays z (State.bar4Op s a1) := by
  unfold State.bar4Op
  repeat' first
    | with_reducible assumption
    | with_reducible apply Stays.hostRefuse
    | with_reducible apply Stays.poisonNote
    | with_reducible apply Stays.sendPending
    | with_reducible apply Stays.msixWrite
    | with_reducible apply Stays.send
    | with_reducible apply Stays.completion
    | (with_reducible refine Stays.foldl ?_ (fun _ _ _ => ?_))
    | split
    | intro _

theorem Stays.completionOver {z s a1} (h : Stays z s) : Stays z (State.completionOver s a1) := by
  unfold State.completionOver
  repeat' first
    | with_reducible assumption
    | with_reducible exact Stays.lit (by with_reducible assumption)
    | with_reducible apply Stays.freeTagOf
    | with_reducible apply Stays.raiseTxn
    | with_reducible apply Stays.wr
    | with_reducible apply Stays.bump
    | with_reducible apply Stays.aer
    | with_reducible apply Stays.readFailed
    | with_reducible apply Stays.quarantineTag
    | (extract_lets +onlyGivenNames t; refine Stays.cut (t := t) ?_ (fun _ => ?_); (on_goal 1 => dsimp -zeta only [t]); (on_goal 2 => clear_value t))
    | (extract_lets +onlyGivenNames t; clear_value t)
    | split
    | fail_if_no_progress (with_reducible apply Stays.lit)

theorem Stays.quarantineOver {z s a1} (h : Stays z s) : Stays z (State.quarantineOver s a1) := by
  unfold State.quarantineOver
  repeat' first
    | with_reducible assumption
    | with_reducible exact Stays.lit (by with_reducible assumption)
    | with_reducible apply Stays.issueSplits
    | (extract_lets +onlyGivenNames t; refine Stays.cut (t := t) ?_ (fun _ => ?_); (on_goal 1 => dsimp -zeta only [t]); (on_goal 2 => clear_value t))
    | (extract_lets +onlyGivenNames t; clear_value t)
    | intro _
    | fail_if_no_progress (with_reducible apply Stays.lit)

theorem Stays.invalidateOp {z s a1 a2 a3} (h : Stays z s) : Stays z (State.invalidateOp s a1 a2 a3) := by
  unfold State.invalidateOp
  repeat' first
    | with_reducible assumption
    | with_reducible apply Stays.invalidate
    | split
    | intro _

theorem Stays.invalidated {z s a1} (h : Stays z s) : Stays z (State.invalidated s a1) := by
  unfold State.invalidated
  repeat' first
    | with_reducible assumption
    | with_reducible exact Stays.lit (by with_reducible assumption)
    | with_reducible apply Stays.send
    | (extract_lets +onlyGivenNames t; refine Stays.cut (t := t) ?_ (fun _ => ?_); (on_goal 1 => dsimp -zeta only [t]); (on_goal 2 => clear_value t))
    | (extract_lets +onlyGivenNames t; clear_value t)
    | split
    | intro _
    | fail_if_no_progress (with_reducible apply Stays.lit)

theorem Stays.idleTimeout {z s a1} (h : Stays z s) : Stays z (State.idleTimeout s a1) := by
  unfold State.idleTimeout
  repeat' first
    | with_reducible assumption
    | with_reducible apply Stays.sleepIdle
    | (extract_lets +onlyGivenNames t; refine Stays.cut (t := t) ?_ (fun _ => ?_); (on_goal 1 => dsimp -zeta only [t]); (on_goal 2 => clear_value t))
    | (extract_lets +onlyGivenNames t; clear_value t)
    | split

theorem Stays.drained {z s a1} (h : Stays z s) : Stays z (State.drained s a1) := by
  unfold State.drained
  try dsimp only
  repeat' first
    | with_reducible assumption
    | with_reducible apply Stays.drainDone
    | with_reducible apply Stays.commitGated
    | with_reducible apply Stays.recastDrained
    | with_reducible apply Stays.ceilingFrom
    | with_reducible refine Stays.ite ?_ ?_
    | split
    | (extract_lets +onlyGivenNames t; refine Stays.cut (t := t) ?_ (fun _ => ?_); (on_goal 1 => dsimp -zeta only [t]); (on_goal 2 => clear_value t))
    | (extract_lets +onlyGivenNames t; clear_value t)

theorem Stays.powerUpNext {z s} (h : Stays z s) : Stays z (State.powerUpNext s) := by
  unfold State.powerUpNext
  repeat' first
    | with_reducible assumption
    | with_reducible exact Stays.lit (by with_reducible assumption)
    | with_reducible apply Stays.setFld
    | with_reducible apply Stays.modIsland
    | (extract_lets +onlyGivenNames t; refine Stays.cut (t := t) ?_ (fun _ => ?_); (on_goal 1 => dsimp -zeta only [t]); (on_goal 2 => clear_value t))
    | (extract_lets +onlyGivenNames t; clear_value t)
    | split
    | intro _
    | fail_if_no_progress (with_reducible apply Stays.lit)

theorem Stays.shadowRead {z : State} : ∀ (l : List Nat) (p : Bool × State), Stays z p.2 →
    Stays z (l.foldl (fun p w => let r := p.2.sramRead w; (p.1 || r.2.1, r.2.2)) p).2
  | [], _, h => h
  | a :: l, p, h => by
    rw [List.foldl_cons]
    refine Stays.shadowRead l _ ?_
    dsimp only
    with_reducible exact h.sramRead

theorem Stays.readShadow {z s i} (h : Stays z s) : Stays z (State.readShadow s i).2 := by
  unfold State.readShadow
  exact Stays.shadowRead _ (false, s) h

theorem Stays.reinitialise {z s a1} (h : Stays z s) : Stays z (State.reinitialise s a1) := by
  unfold State.reinitialise
  repeat' first
    | with_reducible assumption
    | with_reducible apply Stays.initIsland
    | with_reducible apply Stays.forAll
    | with_reducible apply Stays.setFld
    | with_reducible apply Stays.directDrive
    | with_reducible apply Stays.startTrain
    | (with_reducible refine Stays.forAll ?_ (fun _ _ _ => ?_))
    | (extract_lets +onlyGivenNames t; refine Stays.cut (t := t) ?_ (fun _ => ?_); (on_goal 1 => dsimp -zeta only [t]); (on_goal 2 => clear_value t))
    | (extract_lets +onlyGivenNames t; clear_value t)
    | split
    | intro _

theorem Stays.recastInit {z s i} (h : Stays z s) : Stays z (State.recastInit s i) := by
  unfold State.recastInit
  extract_lets old new added t1 t2
  clear_value added
  split
  · have k1 : Stays z t1 := Stays.forAll h fun _ _ k => by
      split
      · exact k
      · exact k.setVe
    have k2 : Stays z t2 := Stays.forAll k1 fun _ _ k => by
      split
      · exact k
      · exact k.setInterval
    exact Stays.forAll k2 fun _ _ k => by
      split
      · exact k.setFld
      · exact k
  iterate 4
    · exact Stays.forAll h fun _ _ k => by
        split
        · exact k.idleDrive.directDrive
        · exact k
  · exact Stays.foldl h.wr fun _ _ k => by
      split
      · exact k
      · split
        · exact k.setPhase
        · exact k.fbLeaveInit
  · exact Stays.lit h
  · exact h.initIsland
  · exact h

theorem Stays.reachOn {z s a1} (h : Stays z s) : Stays z (State.reachOn s a1) := by
  unfold State.reachOn
  repeat' first
    | with_reducible assumption
    | with_reducible exact Stays.lit (by with_reducible assumption)
    | with_reducible apply Stays.setIsland
    | with_reducible apply Stays.reinitialise
    | with_reducible apply Stays.commitRaised
    | with_reducible apply Stays.serveWaiters
    | with_reducible apply Stays.deliverParked
    | with_reducible apply Stays.kickSeq
    | with_reducible apply Stays.issueSplits
    | with_reducible apply Stays.flushToHost
    | with_reducible apply Stays.monPump
    | with_reducible apply Stays.startReady
    | with_reducible apply Stays.recastInit
    | (extract_lets +onlyGivenNames t; refine Stays.cut (t := t) ?_ (fun _ => ?_); (on_goal 1 => dsimp -zeta only [t]); (on_goal 2 => clear_value t))
    | (extract_lets +onlyGivenNames t; clear_value t)
    | split
    | fail_if_no_progress (with_reducible apply Stays.lit)

theorem Stays.readShadow_eq {z s i a t} (h : Stays z s) (e : State.readShadow s i = (a, t)) : Stays z t := by
  have := h.readShadow (i := i); rw [e] at this; exact this

theorem Stays.wakeDone {z s a1} (h : Stays z s) : Stays z (State.wakeDone s a1) := by
  unfold State.wakeDone
  try dsimp only
  repeat' first
    | with_reducible assumption
    | with_reducible exact Stays.lit (by with_reducible assumption)
    | with_reducible apply Stays.reachOn
    | with_reducible apply Stays.readShadow
    | with_reducible refine Stays.readShadow_eq ?_ (by with_reducible assumption)
    | with_reducible apply Stays.modIsland
    | with_reducible refine Stays.ite ?_ ?_
    | split
    | intro _
    | fail_if_no_progress (with_reducible apply Stays.lit)
    | (extract_lets +onlyGivenNames t; refine Stays.cut (t := t) ?_ (fun _ => ?_); (on_goal 1 => dsimp -zeta only [t]); (on_goal 2 => clear_value t))
    | (extract_lets +onlyGivenNames t; clear_value t)

theorem Stays.forceWrite {z s a1 a2 a3} (h : Stays z s) : Stays z (State.forceWrite s a1 a2 a3) := by
  unfold State.forceWrite
  repeat' first
    | with_reducible assumption
    | with_reducible apply Stays.writeReg

theorem Stays.jobWaitOver {z s} (h : Stays z s) : Stays z (State.jobWaitOver s) := by
  unfold State.jobWaitOver
  repeat' first
    | with_reducible assumption
    | with_reducible exact Stays.lit (by with_reducible assumption)
    | with_reducible apply Stays.forAll
    | with_reducible apply Stays.raise
    | with_reducible apply Stays.bump
    | with_reducible apply Stays.send
    | with_reducible apply Stays.aer
    | (with_reducible refine Stays.foldl ?_ (fun _ _ _ => ?_))
    | with_reducible apply Stays.jobReply
    | (with_reducible refine Stays.forAll ?_ (fun _ _ _ => ?_))
    | (extract_lets +onlyGivenNames t; refine Stays.cut (t := t) ?_ (fun _ => ?_); (on_goal 1 => dsimp -zeta only [t]); (on_goal 2 => clear_value t))
    | (extract_lets +onlyGivenNames t; clear_value t)
    | split
    | intro _
    | fail_if_no_progress (with_reducible apply Stays.lit)

theorem Stays.patrol {z s} (h : Stays z s) : Stays z (State.patrol s) := by
  unfold State.patrol
  repeat' first
    | with_reducible assumption
    | with_reducible exact Stays.lit (by with_reducible assumption)
    | with_reducible refine Stays.grantAt ?_ (by with_reducible assumption)
    | with_reducible apply Stays.noteAsked
    | with_reducible apply Stays.sramRead
    | with_reducible refine Stays.sramRead_eq ?_ (by with_reducible assumption)
    | with_reducible apply Stays.bump
    | (extract_lets +onlyGivenNames t; refine Stays.cut (t := t) ?_ (fun _ => ?_); (on_goal 1 => dsimp -zeta only [t]); (on_goal 2 => clear_value t))
    | (extract_lets +onlyGivenNames t; clear_value t)
    | split
    | fail_if_no_progress (with_reducible apply Stays.lit)

theorem Stays.aliasOp {z s a1 a2 a3 a4} (h : Stays z s) : Stays z (State.aliasOp s a1 a2 a3 a4) := by
  unfold State.aliasOp
  repeat' first
    | with_reducible assumption
    | with_reducible apply Stays.writeReg

theorem Stays.scrubGrant {z s} (h : Stays z s) : Stays z (State.scrubGrant s) := by
  unfold State.scrubGrant
  repeat' first
    | with_reducible assumption
    | with_reducible refine Stays.busGrant ?_ (by with_reducible assumption)
    | with_reducible apply Stays.scrubCheck
    | with_reducible apply Stays.noteAsked
    | split

theorem Stays.resetPulse {z s a1 a2 a3} (h : Stays z s) : Stays z (State.resetPulse s a1 a2 a3) := by
  unfold State.resetPulse
  repeat' first
    | with_reducible assumption
    | with_reducible apply Stays.resetDevice
    | split

theorem Stays.sramCleared {z s} (h : Stays z s) : Stays z (State.sramCleared s) := by
  unfold State.sramCleared
  repeat' first
    | with_reducible assumption
    | with_reducible exact Stays.lit (by with_reducible assumption)
    | with_reducible apply Stays.readSlot
    | with_reducible apply Stays.setFld
    | with_reducible exact Stays.lit2 (by with_reducible assumption)
    | (extract_lets +onlyGivenNames t; refine Stays.cut (t := t) ?_ (fun _ => ?_); (on_goal 1 => dsimp -zeta only [t]); (on_goal 2 => clear_value t))
    | (extract_lets +onlyGivenNames t; clear_value t)
    | split
    | fail_if_no_progress (with_reducible apply Stays.lit)

theorem Stays.powerUpCommit {z s} (h : Stays z s) : Stays z (State.powerUpCommit s) := by
  unfold State.powerUpCommit
  repeat' first
    | with_reducible assumption
    | with_reducible apply Stays.startWhole
    | split

theorem Stays.flrDone {z s} (h : Stays z s) : Stays z (State.flrDone s) := by
  unfold State.flrDone
  repeat' first
    | with_reducible assumption
    | with_reducible exact Stays.lit (by with_reducible assumption)
    | with_reducible apply Stays.released
    | with_reducible apply Stays.createAfterFlr
    | (extract_lets +onlyGivenNames t; refine Stays.cut (t := t) ?_ (fun _ => ?_); (on_goal 1 => dsimp -zeta only [t]); (on_goal 2 => clear_value t))
    | (extract_lets +onlyGivenNames t; clear_value t)
    | split
    | fail_if_no_progress (with_reducible apply Stays.lit)

theorem Stays.onRing {z s f} (h : Stays z s) (hf : ∀ t, Stays z t → Stays z (f t)) : Stays z (State.onRing s f) := by
  unfold State.onRing
  split
  · with_reducible exact hf _ h
  · with_reducible exact h

theorem Stays.onFrame {z s w f} (h : Stays z s) (hf : ∀ t x, Stays z t → Stays z (f t x)) : Stays z (State.onFrame s w f) := by
  unfold State.onFrame
  split
  · split
    · rename_i e; exact hf _ _ (h.takeFrame e)
    · with_reducible exact h
  · with_reducible exact h

theorem Stays.trainOver {z s a1} (h : Stays z s) : Stays z (State.trainOver s a1) := by
  unfold State.trainOver
  repeat' first
    | with_reducible assumption
    | with_reducible apply Stays.setFld
    | with_reducible apply Stays.trainLane
    | split

theorem Stays.leaveIn {z s a1} (h : Stays z s) : Stays z (State.leaveIn s a1) := by
  unfold State.leaveIn
  repeat' first
    | with_reducible assumption
    | with_reducible apply Stays.showNode
    | with_reducible apply Stays.judgeCandidate
    | with_reducible apply Stays.setBit
    | with_reducible apply Stays.setNode

theorem Stays.geStaleOp {z s a1} (h : Stays z s) : Stays z (State.geStaleOp s a1) := by
  unfold State.geStaleOp
  repeat' first
    | with_reducible assumption
    | with_reducible apply Stays.raiseRing
    | with_reducible apply Stays.setBit
    | with_reducible apply Stays.forAll
    | with_reducible apply Stays.sendEstimate
    | (with_reducible refine Stays.forAll ?_ (fun _ _ _ => ?_))
    | (extract_lets +onlyGivenNames t; refine Stays.cut (t := t) ?_ (fun _ => ?_); (on_goal 1 => dsimp -zeta only [t]); (on_goal 2 => clear_value t))
    | (extract_lets +onlyGivenNames t; clear_value t)
    | split
    | intro _

theorem Stays.memberMissing {z s a1} (h : Stays z s) : Stays z (State.memberMissing s a1) := by
  unfold State.memberMissing
  repeat' first
    | with_reducible assumption
    | with_reducible apply Stays.declareMissing
    | split

theorem Stays.moduleOp {z s a1 a2} (h : Stays z s) : Stays z (State.moduleOp s a1 a2) := by
  unfold State.moduleOp
  repeat' first
    | with_reducible assumption
    | with_reducible apply Stays.raiseRing
    | with_reducible apply Stays.setBit
    | with_reducible apply Stays.directionLost
    | (extract_lets +onlyGivenNames t; refine Stays.cut (t := t) ?_ (fun _ => ?_); (on_goal 1 => dsimp -zeta only [t]); (on_goal 2 => clear_value t))
    | (extract_lets +onlyGivenNames t; clear_value t)
    | split

theorem Stays.onSat {z s f} (h : Stays z s) (hf : ∀ t, Stays z t → Stays z (f t)) : Stays z (State.onSat s f) := by
  unfold State.onSat
  split
  · with_reducible exact hf _ h
  · with_reducible exact h

theorem Stays.sinkFault {z s a1 a2} (h : Stays z s) : Stays z (State.sinkFault s a1 a2) := by
  unfold State.sinkFault
  repeat' first
    | with_reducible assumption
    | with_reducible exact Stays.lit (by with_reducible assumption)
    | with_reducible apply Stays.setPort
    | with_reducible apply Stays.raiseHp
    | (extract_lets +onlyGivenNames t; refine Stays.cut (t := t) ?_ (fun _ => ?_); (on_goal 1 => dsimp -zeta only [t]); (on_goal 2 => clear_value t))
    | (extract_lets +onlyGivenNames t; clear_value t)
    | split
    | fail_if_no_progress (with_reducible apply Stays.lit)

theorem Stays.gapRunOver {z s a1} (h : Stays z s) : Stays z (State.gapRunOver s a1) := by
  unfold State.gapRunOver
  repeat' first
    | with_reducible assumption
    | with_reducible apply Stays.closeGap
    | split

theorem Stays.stillFrame {z s a1 a2} (h : Stays z s) : Stays z (State.stillFrame s a1 a2) := by
  unfold State.stillFrame
  repeat' first
    | with_reducible assumption
    | with_reducible exact Stays.lit (by with_reducible assumption)
    | with_reducible apply Stays.modPort
    | with_reducible apply Stays.makeFire
    | (extract_lets +onlyGivenNames t; refine Stays.cut (t := t) ?_ (fun _ => ?_); (on_goal 1 => dsimp -zeta only [t]); (on_goal 2 => clear_value t))
    | (extract_lets +onlyGivenNames t; clear_value t)
    | split
    | intro _
    | fail_if_no_progress (with_reducible apply Stays.lit)

theorem Stays.noAck {z s a1} (h : Stays z s) : Stays z (State.noAck s a1) := by
  unfold State.noAck
  repeat' first
    | with_reducible assumption
    | with_reducible exact Stays.lit (by with_reducible assumption)
    | with_reducible apply Stays.setPort
    | with_reducible apply Stays.raiseHp
    | (extract_lets +onlyGivenNames t; refine Stays.cut (t := t) ?_ (fun _ => ?_); (on_goal 1 => dsimp -zeta only [t]); (on_goal 2 => clear_value t))
    | (extract_lets +onlyGivenNames t; clear_value t)
    | split
    | fail_if_no_progress (with_reducible apply Stays.lit)

end Sys2Proof.Machine
end

