-- ==== Sys2Proof/Tests/Slice0.lean ====
section
/-!
SUPPORT. Tests of the model's own: for each check of `Instr.ok` a term that it does not pass; `test_…`, one step of a command on a
small state, the expected result taken from the rules of the specification; `met_…`, for each statement a state and operands
that meet the hypotheses of each of its clauses together, at a boundary of their ranges where they have one.
-/

open Sys2Proof Sys2Proof.Machine Sys2Proof.Claims

namespace Sys2Proof.Tests

set_option Elab.async false

/-- Whether a command answers a next state of which `p` holds. -/
def after (c : Instr) (s : State) (p : State → Bool) : Bool :=
  match exec c s with
  | .next t => p t
  | _ => false

/-- Some islands ON. -/
def withOn (s : State) (is : List Island) : State :=
  is.foldl (fun t i => (t.setIsland i { power := .on, op := if i.variable then 1 else 3, broughtUp := true }).setBit Reg.PLN_ISL_EN i.idx true) s

/-- A late instant, the device ready, the Plinth's clocks judged. -/
def base : State := { now := 1000000000, boot := { perstN := true, refclk := true }, clk := { judgeAt := none, pllXtal := true } : State }.wr Reg.PLN_BOOT 8

/-- HST ON, the link up in L0 at x4 and 16.0 GT/s, the function's memory space and bus mastering enabled. -/
def linked : State :=
  let t := (withOn base [.hst]).wr Reg.HST_LINK_STS (word (3 + 3 * 8 + 4 * 32 + 15 * 512 + 2 ^ 17))
  let t := [0, 1, 2, 3].foldl (fun t l => t.setBit (Reg.HST_LANE_STS l) 0 true) t
  { t with link := { t.link with detectRate := 3, detectWidth := 4, detectLanes := 15 } }.setCfg 1 6

/-- An image of some sections, by type and content. -/
def img (secs : List (Nat × List Nat)) : Image :=
  let bodies := secs.map fun e => e.1 :: (e.2.length + 3) :: e.2
  let lens := bodies.map (·.length)
  let offs := (List.range secs.length).map fun k => 8 + 3 * secs.length + (lens.take k).sum
  let table := ((List.range secs.length).map fun k => [(secs.getD k (0, [])).1, offs.getD k 0, lens.getD k 0]).flatten
  { words := ([0, 0, 0, 0, 1, secs.length, 0, 0] ++ table ++ bodies.flatten).map word }

/-- The device with an image in force. -/
def withImg (s : State) (secs : List (Nat × List Nat)) : State :=
  { s with arm := { s.arm with committed := some (img secs), plnImage := some (img secs) } }

/-! ### Ill-formed operands (WellFormed) -/

/-- A frame with a base identifier and eight data bytes. -/
def plainFrame : CanFrame :=
  { ide := false, fdf := false, brs := false, esi := false, rtr := false, dlc := 8, ident := 0x7FF, data := List.replicate 8 0 }
theorem test_ill_formed_frame :
    (Instr.canFrameRx 0 plainFrame 0).ok = true ∧ (Instr.canFrameRx 0 { plainFrame with ident := 0x800 } 0).ok = false ∧
    (Instr.canFrameRx 0 { plainFrame with brs := true } 0).ok = false ∧ (Instr.canFrameRx 0 { plainFrame with esi := true } 0).ok = false ∧
    (Instr.canFrameRx 0 { plainFrame with fdf := true, rtr := true, data := [] } 0).ok = false ∧
    (Instr.canFrameRx 0 { plainFrame with dlc := 9, fdf := true } 0).ok = false ∧ (Instr.canFrameRx 0 { plainFrame with dlc := 7 } 0).ok = false := by
  decide
theorem test_ill_formed_host :
    (Instr.atomicopRequest { op := .swap, bar := 1, offset := 0, operand := 0 }).ok = false ∧
    (Instr.atomicopRequest { op := .swap, bar := 2, offset := 0, operand := 0, width := 16 }).ok = false ∧
    (Instr.bar4Access { write := false, offset := 0, size := 2 }).ok = false ∧
    (Instr.bridgeHostWrite { offset := 0, dwords := [] }).ok = false ∧
    (Instr.bridgeHostRead { offset := 0, dwords := List.replicate 1025 (15, 0) }).ok = false ∧
    (Instr.chnOpInvalid .host 4).ok = false ∧ (Instr.chnOpInvalid .host 1).ok = false ∧ (Instr.chnOpInvalid .host 5).ok = true := by
  decide +kernel
theorem test_ill_formed_burst :
    (Instr.satHrd 0 { cmd := 4, addr := 0, len := 1 }).ok = false ∧ (Instr.satHrd 0 { cmd := 3, addr := 0, len := 0 }).ok = false ∧
    (Instr.satHrd 0 { cmd := 3, addr := 0, len := 17 }).ok = false ∧ (Instr.satHrd 0 { cmd := 3, addr := 63, len := 2 }).ok = false ∧
    (Instr.satHrd 0 { cmd := 3, addr := 0, len := 1, words := [{ data := 0 }] }).ok = false ∧
    (Instr.satHwr 0 { cmd := 4, addr := 0, len := 1, words := List.replicate 2 { data := 0 } }).ok = false ∧
    (Instr.satHatm 0 { cmd := 5, addr := 0, len := 3, words := [{ data := 0 }] }).ok = false ∧
    (Instr.satCmdReserved 0 { cmd := 5, addr := 0, len := 1 }).ok = false := by
  decide
/-- What stands on the bus when such fields are sent: SAT_LEN carries the length minus 1 in four bits, no burst leaves its block, a
base identifier has 11 bits (R373, R404); and no word spells a command. -/
theorem test_on_bus :
    (SatBurst.onBus { cmd := 7, addr := 60, len := 16 } 3).len = 4 ∧ (SatBurst.onBus { cmd := 7, addr := 0, len := 0 } 3).len = 16 ∧
    (SatBurst.onBus { cmd := 7, addr := 0, len := 1 } 3).ok [3] = true ∧
    (CanFrame.onBus { plainFrame with ident := 0x1FFF, brs := true, dlc := 2 }).ok = true ∧
    (CanFrame.onBus { plainFrame with ident := 0x1FFF }).ident = 0x7FF ∧ decodeTableWord 32 0 = none := by
  decide +kernel

/-! ### Witnesses: registers, islands and clocks, armature, power-up and reset -/
/-- Parity off at one register: the scrub stands at the first register with parity of the Plinth. -/
def scrubbing : State := { linked with scrub := some (0, 0) }
theorem none_all {α : Type} {o : Option α} {P : α → Prop} (h : o = none) : ∀ a, o = some a → P a := by
  intro a ha; rw [h] at ha; cases ha
theorem some_all {α : Type} {o : Option α} {P : α → Prop} {b : α} (h : o = some b) (hp : P b) : ∀ a, o = some a → P a := by
  intro a ha; rw [h] at ha; cases ha; exact hp
/-- Reading a refusal off a computed answer. -/
theorem refuses {α : Type} {x : Except Nat α} {c : Nat} (h : (match x with | .error e => decide (e = c) | .ok _ => false) = true) :
    x = .error c := by
  cases x with
  | error e => simpa using h
  | ok _ => simp at h
def answerOf (x : Except Nat State) (s : State) : State := match x with | .ok u => u | .error _ => s
theorem answers {x : Except Nat State} {s : State} (h : (match x with | .error _ => false | .ok _ => true) = true) :
    x = .ok (answerOf x s) := by
  cases x with
  | error _ => simp at h
  | ok _ => rfl
/-- A register write parked for SAT, and the state that it leaves when it is delivered. -/
def parked0 : State := { withOn linked [.sat] with wakeBuf := [(.sat, .write (regAcc .host Reg.SAT_TTO 0) 5)] }
def written0 : State := answerOf ({ parked0 with wakeBuf := [] }.regWrite (regAcc .host Reg.SAT_TTO 0) 5) parked0
theorem written0_ok : { parked0 with wakeBuf := [] }.regWrite (regAcc .host Reg.SAT_TTO 0) 5 = .ok written0 :=
  answers (by decide +kernel)
/-- All islands but HST gated, the crystal judged bad. -/
def ircMode : State := linked.setBit Reg.CLK_STS 1 true
/-- An open pair of the monitor. -/
def paired (s : State) (p : Nat) (v : Word) : State := s.setPair p (some { value := v, req := .monitor, openAt := s.now - 400000 })
/-- An image that has MEM, QUE and SAT present. -/
def islImg : List (Nat × List Nat) :=
  [(2, [1 + 16 + 256, 10, 3 + 16 + 256, 10, 2 + 16 + 256, 10, 10 + 16 + 256, 10, 4, 0, 5, 0, 6, 0, 7, 0, 8, 0, 9, 0, 11, 0])]
def isl0 : State := withImg linked islImg
/-- A verified image is staged over the same committed one. -/
def staged0 : State := { isl0.setStage 3 with arm := { isl0.arm with staged := some (img islImg) } }
theorem met_RegisterWriteStores :
    (∃ (s : State) (a : RegAccess) (i : Island) (r : RegRow),
      s.openFor a i = true ∧ accBlk a ≤ 19 ∧ regAt (accBlk a) (accOff a % 16384) = RegAt.reg r ∧ actingReg (accKey a) = false ∧ r.noWritable = false ∧ accWord a &&& r.reservedBits = 0 ∧ (accAlias a ≠ 0 → accWord a &&& ~~~r.writable = 0)) ∧
    (∃ (s : State) (a : RegAccess) (i : Island) (r : RegRow),
      s.openFor a i = true ∧ accBlk a ≤ 19 ∧ regAt (accBlk a) (accOff a % 16384) = RegAt.reg r ∧ actingReg (accKey a) = false ∧ r.noWritable = false ∧ accWord a &&& r.reservedBits = 0 ∧ (accAlias a ≠ 0 → accWord a &&& ~~~r.writable = 0)) :=
  ⟨⟨linked, regAcc .host Reg.HST_LTR_US 77, .hst, rowOf Reg.HST_LTR_US, by decide +kernel⟩,
   ⟨linked, { regAcc .monitor (Reg.HST_LTR_US + 0xC000) 77 with be := 7 }, .hst, rowOf Reg.HST_LTR_US, by decide +kernel⟩⟩

theorem met_AliasWritesChangeTheirBits :
    (∃ (s : State) (req : Requester) (reg : BitVec 24) (v : Word) (n : Nat) (i : Island) (r : RegRow),
      1 ≤ n ∧ n ≤ 3 ∧ reg.toNat / 65536 ≤ 19 ∧ reg.toNat % 65536 < 16384 ∧ s.openFor (aliasAcc req reg n v) i = true ∧ regAt (reg.toNat / 65536) (reg.toNat % 65536) = RegAt.reg r ∧ actingReg reg.toNat = false ∧ r.noWritable = false ∧ v &&& ~~~r.writable = 0) ∧
    (∃ (s : State) (req : Requester) (reg : BitVec 24) (v : Word) (n : Nat) (i : Island) (r : RegRow),
      1 ≤ n ∧ n ≤ 3 ∧ reg.toNat / 65536 ≤ 19 ∧ reg.toNat % 65536 < 16384 ∧ s.openFor (aliasAcc req reg n v) i = true ∧ regAt (reg.toNat / 65536) (reg.toNat % 65536) = RegAt.reg r ∧ actingReg reg.toNat = false ∧ r.noWritable = false ∧ v &&& ~~~r.writable = 0) :=
  ⟨⟨linked, .host, BitVec.ofNat 24 Reg.HST_LTR_US, 77, 1, .hst, rowOf Reg.HST_LTR_US, by decide +kernel⟩,
   ⟨linked, .monitor, BitVec.ofNat 24 Reg.HST_LTR_US, 77, 3, .hst, rowOf Reg.HST_LTR_US, by decide +kernel⟩⟩

theorem met_RegisterReadAnswers :
    (∃ (s : State) (a : RegAccess) (i : Island) (r : RegRow),
      s.openFor a i = true ∧ accBlk a ≤ 19 ∧ regAt (accBlk a) (accOff a % 16384) = RegAt.reg r ∧ MailboxId.at? (accKey a) = none ∧ pairAt? (accKey a) = none ∧ within? (accKey a) 524288 64 = none ∧ accKey a ≠ Reg.SAT_LKSTS ∧ accKey a ≠ Reg.HST_LINK_STS) ∧
    (∃ (s : State) (req : Requester) (reg : BitVec 24) (i : Island) (r : RegRow),
      s.openFor (readAcc req reg.toNat) i = true ∧ reg.toNat / 65536 ≤ 19 ∧ reg.toNat % 65536 < 16384 ∧ regAt (reg.toNat / 65536) (reg.toNat % 65536) = RegAt.reg r ∧ MailboxId.at? reg.toNat = none ∧ r.rc ≠ 0 ∧ reg.toNat ≠ Reg.SAT_LKSTS) :=
  ⟨⟨linked, readAcc .host Reg.PLN_ISL_EN, .pln, rowOf Reg.PLN_ISL_EN, by decide +kernel⟩,
   ⟨linked, .host, 64, .pln, rowOf 64, by decide +kernel⟩⟩

theorem met_RefusedAccessChangesNothing :
    (∃ (s : State) (a : RegAccess) (i : Island) (c : Nat) (u : State),
      s.openFor a i = true ∧ s.busGrant (busActivity a) = some u ∧ u.regWrite a = Except.error c) ∧
    (∃ (s : State) (a : RegAccess) (i : Island) (c : Nat) (u : State),
      s.openFor a i = true ∧ s.busGrant (busActivity a) = some u ∧ u.regRead a = Except.error c) :=
  ⟨⟨linked, regAcc .host Reg.PLN_PART 1, .pln, 7, (linked.busGrant 6).getD linked, by decide +kernel, by decide +kernel, refuses (by decide +kernel)⟩,
   ⟨linked, readAcc .host 8, .pln, 2, (linked.busGrant 6).getD linked, by decide +kernel, by decide +kernel, refuses (by decide +kernel)⟩⟩

theorem met_RefusalIsLogged :
    (∃ (s : State) (a : RegAccess) (c : Nat),
      s.arrives a = true ∧ s.boot.inPor = false ∧ s.stopped Island.pln = false ∧ (s.busGrant (busActivity a)).isSome = true ∧ sizeCause a = some c) ∧
    (∃ (s : State) (a : RegAccess) (c : Nat),
      s.arrives a = true ∧ s.boot.inPor = false ∧ s.stopped Island.pln = false ∧ (s.busGrant (busActivity a)).isSome = true ∧ sizeCause a = some c) :=
  ⟨⟨linked, { regAcc .host Reg.PLN_SCRATCH 0 with size := 8 }, 0, by decide +kernel⟩,
   ⟨linked, regAcc .monitor 0x140000 0, 1, by decide +kernel⟩⟩

theorem met_MailboxCaptureTakesItsItem :
    (∃ (s : State) (req : Requester) (m : MailboxId) (item : BitVec 17) (n : Nat) (w : Bool),
      s.openFor (regAcc req m.sel (word item.toNat)) m.island = true ∧ s.mbItem m item.toNat = some (n, w)) ∧
    (∃ (s : State) (m : MailboxId) (ws : List Word),
      (s.mb m).capturing = some ws) ∧
    (∃ (s : State) (req : Requester) (m : MailboxId) (k : Fin 3),
      s.openFor (readAcc req (m.sel + 8 + 4 * k.val)) m.island = true) :=
  ⟨⟨linked, .host, .armFuse, 31, 1, false, by decide +kernel⟩,
   ⟨linked.setMb .hstPrbs { capturing := some [1, 2], width := 2 }, .hstPrbs, [1, 2], by decide +kernel⟩,
   ⟨linked, .host, .plnId, 2, by decide +kernel⟩⟩

theorem met_MailboxApplyWritesItsItem :
    (∃ (s : State) (req : Requester) (m : MailboxId) (item : BitVec 17) (n : Nat),
      s.openFor (regAcc req m.sel (word (item.toNat + 131072))) m.island = true ∧ s.mbItem m item.toNat = some (n, true)) ∧
    (∃ (s : State) (m : MailboxId) (i : Nat) (ws : List Word),
      (s.mb m).applying = some (i, ws)) :=
  ⟨⟨withOn linked [.que], .host, .queMb, 16376, 3, by decide +kernel⟩,
   ⟨linked.setMb (.tqMb 3) { applying := some (7, [1, 2]) }, .tqMb 3, 7, [1, 2], by decide +kernel⟩⟩

theorem met_LockBitSets :
    (∃ (s : State) (req : Requester) (b : LockBit) (i : Island),
      s.openFor (regAcc req b.reg (s.rd b.reg ||| word (2 ^ b.bit))) i = true ∧ s.rd b.reg &&& (rowOf b.reg).reservedBits = 0) ∧
    (∃ (s : State) (req : Requester) (b : LockBit) (i : Island),
      s.openFor (regAcc req b.reg (s.rd b.reg ||| word (2 ^ b.bit))) i = true ∧ s.rd b.reg &&& (rowOf b.reg).reservedBits = 0) :=
  ⟨⟨linked, .monitor, .monCtl, .pln, by decide +kernel⟩,
   ⟨linked, .host, .armSrc, .pln, by decide +kernel⟩⟩

theorem met_LockedFieldKeepsItsValue :
    ∃ (s : State) (a : RegAccess) (i : Island) (r : RegRow),
      s.openFor a i = true ∧ regAt (accBlk a) (accOff a % 16384) = RegAt.reg r ∧ accBlk a ≤ 19 ∧ accAlias a = 0 ∧ accWord a &&& r.reservedBits = 0 ∧ (mergeWrite r (s.rd (accKey a)) (accWord a) ^^^ s.rd (accKey a)) &&& s.lockedBits (accKey a) ≠ 0 ∧ (accKey a = Reg.ARM_SRC ∨ accKey a = Reg.NRG_CEIL_DRV ∨ accKey a = Reg.RNG_JOIN ∨ accKey a = Reg.MON_CTL) :=
  ⟨linked.setBit Reg.NRG_CTL 0 true, regAcc .host Reg.NRG_CEIL_DRV 1000, .pln, rowOf Reg.NRG_CEIL_DRV, by decide +kernel⟩

theorem met_PairGuard :
    (∃ (s : State) (req : Requester) (p : Fin 9) (v : Word) (i : Island),
      s.openFor (regAcc req (pairV p.val) v) i = true ∧ v &&& (rowOf (pairV p.val)).reservedBits = 0 ∧ s.pair p.val = none) ∧
    (∃ (s : State) (req : Requester) (p : Fin 9) (v : Word) (i : Island),
      s.openFor (regAcc req (pairV p.val) v) i = true ∧ v &&& (rowOf (pairV p.val)).reservedBits = 0 ∧ s.pair p.val = none) ∧
    (∃ (s : State) (p : Fin 9) (o : PairOpen),
      s.pair p.val = some o ∧ o.openAt + 400000 < s.now ∧ s.pairCWaits p.val (o.openAt + 400000) = false) :=
  ⟨⟨withOn linked [.tqa], .host, 0, 0, .tqa, by decide +kernel⟩,
   ⟨linked, .host, 8, 3, .pln, by decide +kernel⟩,
   ⟨(linked.setPair 8 (some { value := 1, req := .monitor, openAt := linked.now - 400001 })), 8, { value := 1, req := .monitor, openAt := linked.now - 400001 }, by decide +kernel⟩⟩

theorem met_ScrubFindsMismatches :
    (∃ (s : State) (isl : Nat) (k : Nat) (at_ : Nat) (reg : Nat) (i : Island),
      s.scrub = some (isl, k) ∧ s.scrubFrom isl k = some (i, at_, reg) ∧ s.stopped Island.pln = false ∧ (s.busGrant 14).isSome = true ∧ parityBit (rowOf reg) (s.rd reg) = s.parityOf reg) ∧
    (∃ (s : State) (isl : Nat) (k : Nat) (at_ : Nat) (reg : Nat) (i : Island),
      s.scrub = some (isl, k) ∧ s.scrubFrom isl k = some (i, at_, reg) ∧ s.stopped Island.pln = false ∧ (s.busGrant 14).isSome = true ∧ parityBit (rowOf reg) (s.rd reg) ≠ s.parityOf reg ∧ i.quad? = none) :=
  ⟨⟨scrubbing, 0, 0, 0, (parityRegs .pln).headD 0, .pln, by decide +kernel⟩,
   ⟨{ scrubbing with parity := [((parityRegs .pln).headD 0, !scrubbing.parityOf ((parityRegs .pln).headD 0))] }, 0, 0, 0, (parityRegs .pln).headD 0, .pln, by decide +kernel⟩⟩

theorem met_HoldIsReleasedWhereClean :
    ∃ (s : State) (req : Requester) (bits : Word),
      s.openFor (regAcc req Reg.PLN_PAR_HOLD bits) Island.pln = true ∧ bits &&& 258049 = 0 :=
  ⟨linked, .host, 4094, by decide +kernel⟩

theorem met_PairReadsDisturbNothing :
    (∃ (s : State) (a : RegAccess) (i : Island) (p : Fin 9),
      s.openFor a i = true ∧ accKey a = pairV p.val) ∧
    (∃ (s : State) (a : RegAccess) (i : Island) (p : Fin 9),
      s.openFor a i = true ∧ accKey a = pairV p.val) ∧
    (∃ (s : State) (a : RegAccess) (i : Island) (p : Fin 9),
      s.openFor a i = true ∧ accKey a = pairV p.val + 4) :=
  ⟨⟨paired linked 4 3, readAcc .host (pairV 4), .pln, 4, by decide +kernel⟩,
   ⟨withOn linked [.tqa], readAcc .host (pairV 0), .tqa, 0, by decide +kernel⟩,
   ⟨paired linked 8 1, readAcc .host (pairV 8 + 4), .pln, 8, by decide +kernel⟩⟩

theorem met_ChannelsAndTimeMove :
    (∃ (s : State) (ch : ChannelId) (e : HsEntry) (rest : List HsEntry),
      (s.hs ch).inFlight = e :: rest) ∧
    (∃ (s : State) (ch : ChannelId) (e : HsEntry) (rest : List HsEntry),
      (s.hs ch).waiting = e :: rest ∧ s.hsRoom ch = true) ∧
    (∃ (s : State),
      s.devTime = BitVec.allOnes 54 ∧ s.clk.timebase = true) :=
  ⟨⟨linked.setHs .queHst { inFlight := [.words [1]] }, .queHst, .words [1], [], by decide +kernel⟩,
   ⟨linked.setHs .queHst { waiting := [.words [1]] }, .queHst, .words [1], [], by decide +kernel⟩,
   ⟨{ linked with devTime := BitVec.allOnes 54 }, by decide +kernel⟩⟩

theorem met_IslandEnableAndGate :
    (∃ (s : State) (req : Requester) (i : Island),
      i ≠ Island.pln ∧ s.arm.run = none ∧ s.rd Reg.PLN_ISL_EN &&& (rowOf Reg.PLN_ISL_EN).reservedBits = 0 ∧ s.openFor (regAcc req Reg.PLN_ISL_EN (withField (s.rd Reg.PLN_ISL_EN) i.idx 1 1)) Island.pln = true ∧ s.bit Reg.PLN_ISL_EN i.idx = false ∧ (s.island i).power = Power.gated ∧ (s.island i).force ≠ 2 ∧ s.enableCause (withField (s.rd Reg.PLN_ISL_EN) i.idx 1 1) i = none) ∧
    (∃ (s : State) (req : Requester) (i : Island),
      i ≠ Island.pln ∧ s.arm.run = none ∧ s.rd Reg.PLN_ISL_EN &&& (rowOf Reg.PLN_ISL_EN).reservedBits = 0 ∧ s.openFor (regAcc req Reg.PLN_ISL_EN (withField (s.rd Reg.PLN_ISL_EN) i.idx 1 0)) Island.pln = true ∧ s.bit Reg.PLN_ISL_EN i.idx = true ∧ (s.island i).power = Power.on ∧ (s.island i).drain = none ∧ s.gateCause (withField (s.rd Reg.PLN_ISL_EN) i.idx 1 0) i = none) :=
  ⟨⟨isl0, .host, .mem, by decide +kernel⟩,
   ⟨withOn isl0 [.hst, .mem, .que], .host, .que, by decide +kernel⟩⟩

theorem met_RefusedEnableIsLogged :
    (∃ (s : State) (req : Requester) (i : Island) (c : Nat),
      i ≠ Island.pln ∧ s.arm.run = none ∧ s.rd Reg.PLN_ISL_EN &&& (rowOf Reg.PLN_ISL_EN).reservedBits = 0 ∧ s.openFor (regAcc req Reg.PLN_ISL_EN (withField (s.rd Reg.PLN_ISL_EN) i.idx 1 1)) Island.pln = true ∧ s.bit Reg.PLN_ISL_EN i.idx = false ∧ s.enableCause (withField (s.rd Reg.PLN_ISL_EN) i.idx 1 1) i = some c) ∧
    (∃ (s : State) (req : Requester) (i : Island) (c : Nat),
      i ≠ Island.pln ∧ s.arm.run = none ∧ s.rd Reg.PLN_ISL_EN &&& (rowOf Reg.PLN_ISL_EN).reservedBits = 0 ∧ s.openFor (regAcc req Reg.PLN_ISL_EN (withField (s.rd Reg.PLN_ISL_EN) i.idx 1 1)) Island.pln = true ∧ s.bit Reg.PLN_ISL_EN i.idx = false ∧ s.enableCause (withField (s.rd Reg.PLN_ISL_EN) i.idx 1 1) i = some c) :=
  ⟨⟨isl0, .host, .que, 0, by decide +kernel⟩,
   ⟨linked, .monitor, .rng, 2, by decide +kernel⟩⟩

theorem met_IslandSleepAndWake :
    (∃ (s : State) (i : Island),
      (s.island i).power = Power.on ∧ (s.island i).drain = none ∧ s.idle i = true ∧ (s.island i).force ≠ 1 ∧ s.rd (Reg.PLN_ISL_IDLE i.idx) ≠ 0 ∧ (i.variable = true ∨ s.mayOff i = true) ∧ (∃ a, (s.island i).idleAt = some a ∧ a + 400 * BitVec.toNat (s.rd (Reg.PLN_ISL_IDLE i.idx)) ≤ s.now)) ∧
    (∃ (s : State) (i : Island) (p : Power),
      (s.island i).drain = some p ∧ s.stepping i = false ∧ s.arm.run = none ∧ s.drainedOut i = true ∧ (p = Power.gated → s.bit Reg.PLN_ISL_EN i.idx = false ∨ (s.island i).force ≠ 2)) ∧
    (∃ (s : State) (i : Island),
      s.nextPowerUp = some i ∧ s.boot.inPor = false ∧ s.stopped Island.pln = false ∧ (∀ (a : Nat), s.boot.lastPowerUpAt = some a → a + 80000 ≤ s.now)) ∧
    (∃ (s : State) (i : Island),
      (s.island i).waking = true ∧ (s.island i).power ≠ Power.on ∧ s.stopped Island.pln = false ∧ s.stopped i = false ∧ s.wakeForbidden i = false ∧ s.inReset i = false ∧ s.hasWork i = false ∧ calm s = true ∧ ((s.island i).power ≠ Power.doze → (s.island i).powered = true ∧ (s.readShadow i).fst = false)) ∧
    (∃ (s : State) (i : Island),
      (s.island i).waking = true ∧ (s.island i).power ≠ Power.on ∧ s.stopped Island.pln = false ∧ s.stopped i = false ∧ s.wakeForbidden i = false ∧ s.inReset i = false ∧ s.hasWork i = false ∧ calm s = true ∧ ((s.island i).power ≠ Power.doze → (s.island i).powered = true ∧ (s.readShadow i).fst = false)) :=
  ⟨⟨((withOn isl0 [.sat]).wr (Reg.PLN_ISL_IDLE 10) 1).setIsland .sat { ((withOn isl0 [.sat]).island .sat) with idleAt := some 0 }, .sat, by decide +kernel, by decide +kernel, by decide +kernel, by decide +kernel, by decide +kernel, by decide +kernel, 0, by decide +kernel⟩,
   ⟨linked.setIsland .que { power := .on, drain := some .off }, .que, .off, by decide +kernel⟩,
   ⟨{ linked.setIsland .mem { waking := true } with boot := { linked.boot with lastPowerUpAt := some (linked.now - 80000) } }, .mem, by decide +kernel, by decide +kernel, by decide +kernel, some_all (b := linked.now - 80000) (by decide +kernel) (by decide +kernel)⟩,
   ⟨linked.setIsland .que { power := .doze, waking := true }, .que, by decide +kernel⟩,
   ⟨linked.setIsland .que { power := .off, waking := true, powered := true }, .que, by decide +kernel⟩⟩

theorem met_ForcedPowerModes :
    (∃ (s : State) (req : Requester) (i : Island) (mode : Nat) (c : Instr) (o : PairOpen),
      (mode = 0 ∧ c = Instr.fpwrFree req i ∨ mode = 1 ∧ c = Instr.fpwrKeepOn req i ∨ mode = 2 ∧ c = Instr.fpwrOffNow req i) ∧ s.pair 5 = some o ∧ o.req = req ∧ s.now ≤ o.openAt + 400000 ∧ o.value = word (i.idx + 16 * mode) ∧ s.openFor (regAcc req Reg.PLN_FPWR_C (~~~word (i.idx + 16 * mode))) Island.pln = true ∧ s.forceCause i.idx mode = none) ∧
    (∃ (s : State) (req : Requester) (i : Island) (mode : Nat) (c : Instr) (o : PairOpen),
      (mode = 0 ∧ c = Instr.fpwrFree req i ∨ mode = 1 ∧ c = Instr.fpwrKeepOn req i ∨ mode = 2 ∧ c = Instr.fpwrOffNow req i) ∧ s.pair 5 = some o ∧ o.req = req ∧ s.now ≤ o.openAt + 400000 ∧ o.value = word (i.idx + 16 * mode) ∧ s.openFor (regAcc req Reg.PLN_FPWR_C (~~~word (i.idx + 16 * mode))) Island.pln = true ∧ s.forceCause i.idx mode = none) ∧
    (∃ (s : State) (req : Requester) (i : Island) (mode : Nat) (c : Instr) (o : PairOpen),
      (mode = 0 ∧ c = Instr.fpwrFree req i ∨ mode = 1 ∧ c = Instr.fpwrKeepOn req i ∨ mode = 2 ∧ c = Instr.fpwrOffNow req i) ∧ s.pair 5 = some o ∧ o.req = req ∧ s.now ≤ o.openAt + 400000 ∧ o.value = word (i.idx + 16 * mode) ∧ s.openFor (regAcc req Reg.PLN_FPWR_C (~~~word (i.idx + 16 * mode))) Island.pln = true ∧ s.forceCause i.idx mode = none) :=
  ⟨⟨paired isl0 5 (2 + 16), .monitor, .que, 1, .fpwrKeepOn .monitor .que, { value := 18, req := .monitor, openAt := isl0.now - 400000 }, by decide +kernel⟩,
   ⟨paired isl0 5 (11 + 32), .monitor, .rng, 2, .fpwrOffNow .monitor .rng, { value := 43, req := .monitor, openAt := isl0.now - 400000 }, by decide +kernel⟩,
   ⟨paired isl0 5 1, .monitor, .hst, 0, .fpwrFree .monitor .hst, { value := 1, req := .monitor, openAt := isl0.now - 400000 }, by decide +kernel⟩⟩

theorem met_ParkedTrafficAndWaits :
    (∃ (s : State) (u : State) (i : Island) (a : RegAccess) (n : Nat),
      s.isOn i = true ∧ s.gateClosed i = false ∧ s.stopped i = false ∧ s.wakeBuf = [(i, Parked.write a n)] ∧ s.mon.running = 0 ∧ s.nrg.ready = [] ∧ { s with wakeBuf := [] }.regWrite a n = Except.ok u ∧ u.nrg.ready = [] ∧ u.mon.running = 0 ∧ u.wakeBuf = []) ∧
    (∃ (s : State) (i : Island) (w : Waiter),
      s.isOn i = false ∧ s.waiters = [w] ∧ w.isl = i ∧ w.sinceAt + 400000 ≤ s.now ∧ s.sat.nonPosted = [] ∧ s.stopped Island.pln = false ∧ s.mon.running = 0) :=
  ⟨⟨parked0, written0, .sat, regAcc .host Reg.SAT_TTO 0, 5, by decide +kernel, by decide +kernel, by decide +kernel, by decide +kernel, by decide +kernel, by decide +kernel,
       written0_ok, by decide +kernel, by decide +kernel, by decide +kernel⟩,
   ⟨{ linked with waiters := [{ isl := .sat, write := false, acc := readAcc .host Reg.SAT_STS, sinceAt := linked.now - 400000 }] }, .sat, { isl := .sat, write := false, acc := readAcc .host Reg.SAT_STS, sinceAt := linked.now - 400000 }, by decide +kernel⟩⟩

theorem met_CrystalJudging :
    (∃ (s : State),
      s.clk.judgeAt ≠ none ∧ s.stopped Island.pln = false ∧ s.clk.gateCounts = true ∧ s.fld Reg.CLK_JUDGE 0 4 < 8) ∧
    (∃ (s : State),
      s.clk.judgeAt ≠ none ∧ s.stopped Island.pln = false ∧ s.clk.gateCounts = true ∧ s.fld Reg.CLK_JUDGE 0 4 < 8) ∧
    (∃ (s : State),
      s.refGateRuns = true) ∧
    (∃ (s : State),
      s.refGateRuns = true) ∧
    (∃ (s : State) (a : Nat),
      s.clk.judgeAt = some a ∧ a + 20000000 ≤ s.now) :=
  ⟨⟨{ linked with clk := { linked.clk with judgeAt := some 0 } }, by decide +kernel⟩,
   ⟨{ linked.setFld Reg.CLK_JUDGE 0 4 7 with clk := { linked.clk with judgeAt := some 0 } }, by decide +kernel⟩,
   ⟨{ linked.setFld Reg.CLK_JUDGE 4 2 3 with clk := { linked.clk with judgeAt := some 0 } }, by decide +kernel⟩,
   ⟨{ linked.setFld Reg.CLK_JUDGE 4 2 3 with clk := { linked.clk with judgeAt := some 0 } }, by decide +kernel⟩,
   ⟨{ linked with clk := { linked.clk with judgeAt := some (linked.now - 20000000) } }, linked.now - 20000000, by decide +kernel⟩⟩

theorem met_CrystalJudgedStable :
    (∃ (s : State) (n : Nat),
      s.clk.judgeAt ≠ none ∧ s.stopped Island.pln = false ∧ s.clk.gateCounts = true ∧ s.fld Reg.CLK_JUDGE 0 4 = 7 ∧ 24625 ≤ n ∧ n ≤ 25375) ∧
    (∃ (s : State) (n : Nat),
      s.clk.judgeAt ≠ none ∧ s.stopped Island.pln = false ∧ s.clk.gateCounts = true ∧ s.fld Reg.CLK_JUDGE 0 4 = 7 ∧ 24625 ≤ n ∧ n ≤ 25375) :=
  ⟨⟨{ linked.setFld Reg.CLK_JUDGE 0 4 7 with clk := { linked.clk with judgeAt := some 0 } }, 24625, by decide +kernel⟩,
   ⟨{ linked.setFld Reg.CLK_JUDGE 0 4 7 with clk := { linked.clk with judgeAt := some 0 } }, 25375, by decide +kernel⟩⟩

theorem met_ClockSources :
    (∃ (s : State) (req : Requester),
      s.openFor (regAcc req Reg.CLK_CTL (withField (s.rd Reg.CLK_CTL) 1 1 1)) Island.pln = true ∧ s.rd Reg.CLK_CTL &&& 262142 = 0 ∧ s.bit Reg.CLK_STS 1 = true ∧ (s.island Island.fld).power = Power.gated ∧ (s.island Island.sat).power = Power.gated ∧ (s.island Island.que).power = Power.gated ∧ (s.island Island.mem).power = Power.gated) ∧
    (∃ (s : State) (req : Requester) (irc : Bool),
      s.openFor (regAcc req Reg.CLK_CTL (word (flag irc))) Island.pln = true) :=
  ⟨⟨ircMode, .host, by decide +kernel⟩,
   ⟨linked, .host, true, by decide +kernel⟩⟩

theorem met_FrequencyCounter :
    (∃ (s : State) (req : Requester) (ctl : Word),
      s.openFor (regAcc req Reg.CLK_FMC_CTL (withField ctl 13 1 1)) Island.pln = true ∧ ctl &&& 196608 = 0) ∧
    (∃ (s : State),
      s.bit Reg.CLK_FMC_CTL 14 = true ∧ s.stopped Island.pln = false ∧ s.clockRuns (s.fld Reg.CLK_FMC_CTL 4 4) = true ∧ s.fmcGateOver = true) ∧
    (∃ (s : State),
      s.bit Reg.CLK_FMC_CTL 14 = true ∧ s.stopped Island.pln = false ∧ s.clockRuns (s.fld Reg.CLK_FMC_CTL 4 4) = false ∧ s.clk.fmcEdgeAt + 400000000 ≤ s.now) :=
  ⟨⟨linked, .host, 3, by decide +kernel⟩,
   ⟨{ linked.setBit Reg.CLK_FMC_CTL 14 true with clk := { linked.clk with fmcAt := linked.now - 400000000 } }, by decide +kernel⟩,
   ⟨{ linked.setBit Reg.CLK_FMC_CTL 14 true |>.setFld Reg.CLK_FMC_CTL 4 4 9 with clk := { linked.clk with fmcAt := linked.now - 400000000 } }, by decide +kernel⟩⟩

theorem met_OperatingPoints :
    (∃ (s : State) (req : Requester) (i : Island) (p : BitVec 2),
      i.variable = true ∧ s.openFor (regAcc req (Reg.PLN_ISL_OPREQ i.idx) (word p.toNat)) Island.pln = true ∧ (s.island i).power = Power.on ∧ (s.island i).seq = none ∧ (s.island i).drain = none) ∧
    (∃ (s : State) (i : Island) (x : SeqStep),
      (s.island i).seq = some x ∧ x.raising = true ∧ x.settled = false ∧ x.startAt + 8000 ≤ s.now) ∧
    (∃ (s : State) (i : Island) (x : SeqStep),
      (s.island i).seq = some x ∧ x.startAt ≤ s.now ∧ (x.raising = true → x.settled = true)) ∧
    (∃ (s : State) (i : Island) (x : SeqStep),
      (s.island i).seq = some x ∧ x.startAt ≤ s.now ∧ (x.raising = true → x.settled = true)) :=
  ⟨⟨withOn linked [.mem], .host, .mem, 2, by decide +kernel⟩,
   ⟨linked.setIsland .hst { power := .on, op := 1, seq := some { target := 2, raising := true, startAt := linked.now - 8000 } }, .hst, { target := 2, raising := true, startAt := linked.now - 8000 }, by decide +kernel⟩,
   ⟨linked.setIsland .hst { power := .on, op := 1, seq := some { target := 0, raising := false, startAt := linked.now } }, .hst, { target := 0, raising := false, startAt := linked.now }, by decide +kernel⟩,
   ⟨linked.setIsland .hst { power := .on, op := 1, seq := some { target := 2, raising := true, settled := true, startAt := linked.now } }, .hst, { target := 2, raising := true, settled := true, startAt := linked.now }, by decide +kernel⟩⟩

theorem met_LoadControl :
    (∃ (s : State) (req : Requester),
      s.openFor (regAcc req Reg.ARM_LOAD_CTL 1) Island.pln = true) ∧
    (∃ (s : State) (req : Requester),
      s.openFor (regAcc req Reg.ARM_LOAD_CTL 8) Island.pln = true ∧ s.loadRefusal 0 = none) ∧
    (∃ (s : State) (req : Requester),
      s.openFor (regAcc req Reg.ARM_LOAD_CTL 4) Island.pln = true ∧ s.stage ≠ 5 ∧ s.stage ≠ 6 ∧ s.powerUpRuns = false) ∧
    (∃ (s : State) (req : Requester),
      s.openFor (regAcc req Reg.ARM_LOAD_CTL 2) Island.pln = true ∧ s.arm.loader = some req) :=
  ⟨⟨linked, .host, by decide +kernel⟩,
   ⟨(linked.wr Reg.ARM_SRC 3).wr Reg.PLN_BOOT 11, .monitor, by decide +kernel⟩,
   ⟨linked.wr Reg.PLN_BOOT 11, .host, by decide +kernel⟩,
   ⟨{ linked.setStage 1 with arm := { linked.arm with loader := some .host } }, .host, by decide +kernel⟩⟩

theorem met_LoadedWords :
    ∃ (s : State) (req : Requester) (v : Word),
      s.openFor (regAcc req Reg.ARM_DATA v) Island.pln = true ∧ s.arm.loader = some req :=
  ⟨{ linked.setStage 1 with arm := { linked.arm with loader := some .host } }, .host, 5, by decide +kernel⟩

theorem met_VerificationEnds :
    (∃ (s : State) (r : Bool × Bool),
      s.arm.reading = some r) ∧
    (∃ (s : State),
      s.stage = 2 ∧ s.arm.reading = none ∧ s.mon.running = 0 ∧ s.mon.loadWait = false) :=
  ⟨⟨{ linked with arm := { linked.arm with reading := some (true, false) } }, (true, false), by decide +kernel⟩,
   ⟨linked.setStage 2, by decide +kernel⟩⟩

theorem met_FlashProgramming :
    (∃ (s : State) (req : Requester) (slotB : Bool),
      (s.openFor (regAcc req Reg.ARM_LOAD_CTL (if slotB = true then 32 else 16)) Island.pln = true)) ∧
    (∃ (s : State) (req : Requester) (slotB : Bool),
      (s.openFor (regAcc req Reg.ARM_LOAD_CTL (if slotB = true then 32 else 16)) Island.pln = true)) ∧
    (∃ (s : State) (slotB : Bool) (im : Image),
      s.arm.prog = some slotB ∧ s.arm.staged = some im) :=
  ⟨⟨linked, .host, true, by decide +kernel⟩,
   ⟨linked, .monitor, false, by decide +kernel⟩,
   ⟨{ linked with arm := { linked.arm with prog := some false, staged := some (img islImg) } }, false, img islImg, by decide +kernel⟩⟩

theorem met_CommitsAreJudged :
    (∃ (s : State) (req : Requester) (o : PairOpen) (c : Instr) (r : Nat × Nat),
      s.pair 4 = some o ∧ o.req = req ∧ s.now ≤ o.openAt + 400000 ∧ s.openFor (regAcc req Reg.ARM_CMT_C (~~~o.value)) Island.pln = true ∧ (c = Instr.commitWhole req (~~~o.value) ∨ c = Instr.recast req (~~~o.value)) ∧ s.commitRefusal o.value = some r) ∧
    (∃ (s : State) (req : Requester) (o : PairOpen) (c : Instr) (r : Nat × Nat),
      s.pair 4 = some o ∧ o.req = req ∧ s.now ≤ o.openAt + 400000 ∧ s.openFor (regAcc req Reg.ARM_CMT_C (~~~o.value)) Island.pln = true ∧ (c = Instr.commitWhole req (~~~o.value) ∨ c = Instr.recast req (~~~o.value)) ∧ s.commitRefusal o.value = some r) ∧
    (∃ (s : State) (req : Requester) (o : PairOpen) (i : Island),
      s.pair 4 = some o ∧ o.req = req ∧ s.now ≤ o.openAt + 400000 ∧ s.openFor (regAcc req Reg.ARM_CMT_C (~~~o.value)) Island.pln = true ∧ s.commitRefusal o.value = none ∧ BitVec.getLsbD o.value 17 = true ∧ s.boot.waitXtal = false ∧ (presentIslands s.arm.committed).getLast? = some i ∧ (s.island i).power = Power.on ∧ (s.island i).drain = none ∧ s.bit Reg.PLN_ISL_EN i.idx = true ∧ s.arm.committed ≠ none ∧ s.arm.staged ≠ none) ∧
    (∃ (s : State) (req : Requester) (o : PairOpen),
      s.pair 4 = some o ∧ o.req = req ∧ s.now ≤ o.openAt + 400000 ∧ s.openFor (regAcc req Reg.ARM_CMT_C (~~~o.value)) Island.pln = true ∧ s.commitRefusal o.value = none ∧ BitVec.getLsbD o.value 17 = false ∧ s.arm.staged ≠ none) :=
  ⟨⟨paired linked 4 (2 ^ 17), .monitor, { value := 2 ^ 17, req := .monitor, openAt := linked.now - 400000 }, .commitWhole .monitor (~~~(2 ^ 17)), (1, 0), by decide +kernel⟩,
   ⟨paired linked 4 1, .monitor, { value := 1, req := .monitor, openAt := linked.now - 400000 }, .recast .monitor (~~~1), (1, 0), by decide +kernel⟩,
   ⟨paired (withOn staged0 [.mem, .sat]) 4 (2 ^ 17), .monitor, { value := 2 ^ 17, req := .monitor, openAt := linked.now - 400000 }, .sat, by decide +kernel⟩,
   ⟨paired staged0 4 (2 ^ 10), .monitor, { value := 2 ^ 10, req := .monitor, openAt := linked.now - 400000 }, by decide +kernel⟩⟩

theorem met_MaquetteMode :
    ∃ (s : State) (req : Requester) (en : Bool),
      s.openFor (regAcc req Reg.ARM_MAQ (word (flag en))) Island.pln = true ∧ s.rd Reg.ARM_MAQ &&& 262142 = 0 :=
  ⟨linked, .host, true, by decide +kernel⟩

theorem met_FuseProgramming :
    (∃ (s : State) (req : Requester) (o : PairOpen),
      s.pair 6 = some o ∧ o.req = req ∧ s.now ≤ o.openAt + 400000 ∧ s.openFor (regAcc req Reg.ARM_FUSE_C (~~~o.value)) Island.pln = true ∧ s.arm.fusing = none) ∧
    (∃ (s : State) (x : Nat × Word) (f : Fuses),
      s.arm.fusing = some x ∧ s.fuses.programmed x.fst x.snd = some f) ∧
    (∃ (s : State) (req : Requester) (o : PairOpen) (x : Nat × Word),
      s.pair 6 = some o ∧ o.req = req ∧ s.now ≤ o.openAt + 400000 ∧ s.openFor (regAcc req Reg.ARM_FUSE_C (~~~o.value)) Island.pln = true ∧ s.arm.fusing = some x) :=
  ⟨⟨paired linked 6 16, .monitor, { value := 16, req := .monitor, openAt := linked.now - 400000 }, by decide +kernel⟩,
   ⟨{ linked with arm := { linked.arm with fusing := some (0, 1) } }, (0, 1), { linked.fuses with secmode := 1 }, by decide +kernel⟩,
   ⟨{ paired linked 6 16 with arm := { linked.arm with fusing := some (0, 1) } }, .monitor, { value := 16, req := .monitor, openAt := linked.now - 400000 }, (0, 1), by decide +kernel⟩⟩

theorem met_FusesOnlyGainBits :
    (∃ (f : Fuses) (g : Fuses) (item : Nat) (w : Word),
      f.programmed item w = some g) ∧
    (∃ (f : Fuses) (g : Fuses) (item : Nat) (w : Word),
      f.programmed item w = some g) ∧
    (∃ (f : Fuses) (g : Fuses) (item : Nat) (w : Word),
      f.programmed item w = some g) ∧
    (∃ (f : Fuses) (g : Fuses) (item : Nat) (w : Word),
      f.programmed item w = some g ∧ g.secmode = 3) ∧
    (∃ (f : Fuses) (g : Fuses) (item : Nat) (w : Word),
      f.programmed item w = some g ∧ f.secmode ≠ 0) ∧
    (∃ (f : Fuses) (g : Fuses) (item : Nat) (w : Word),
      f.programmed item w = some g) ∧
    (∃ (f : Fuses) (g : Fuses) (item : Nat) (w : Word),
      f.programmed item w = some g) :=
  ⟨⟨{}, { secmode := 1 }, 0, 1, by decide +kernel⟩,
   ⟨{}, { keyhash := [(15, 5)] }, 31, 5, by decide +kernel⟩,
   ⟨{}, { secmode := 1 }, 0, 1, by decide +kernel⟩,
   ⟨{ secmode := 1, keyhash := [(0, 5)] }, { secmode := 3, keyhash := [(0, 5)] }, 0, 2, by decide +kernel⟩,
   ⟨{ secmode := 1 }, { secmode := 1 }, 0, 0, by decide +kernel⟩,
   ⟨{}, { secmode := 1 }, 0, 1, by decide +kernel⟩,
   ⟨{}, { secmode := 1 }, 0, 1, by decide +kernel⟩⟩

theorem met_WholeDeviceResets :
    (∃ (s : State),
      s.boot.inPor = true) ∧
    (∃ (s : State),
      s.boot.inPor = false) :=
  ⟨⟨{ linked with boot := { linked.boot with inPor := true } }, by decide +kernel⟩,
   ⟨linked, by decide +kernel⟩⟩

theorem met_PowerUpSteps :
    (∃ (s : State),
      s.boot.inPor = false ∧ s.fld Reg.PLN_BOOT 0 3 = 0) ∧
    (∃ (s : State) (im : Image),
      s.boot.waitXtal = true ∧ s.stage = 3 ∧ s.arm.staged = some im ∧ (s.bit Reg.CLK_STS 0 = true ∨ s.bit Reg.CLK_STS 1 = true)) :=
  ⟨⟨linked.wr Reg.PLN_BOOT 0, by decide +kernel⟩,
   ⟨{ (staged0.wr Reg.PLN_BOOT 2).setBit Reg.CLK_STS 1 true with boot := { linked.boot with waitXtal := true } }, img islImg, by decide +kernel⟩⟩

theorem met_FundamentalReset :
    ∃ (s : State),
      s.boot.perstN = true :=
  ⟨linked, by decide +kernel⟩

theorem met_FunctionResets :
    (∃ (s : State),
      s.linkUp = true) ∧
    (∃ (s : State),
      s.linkUp = true ∧ s.isOn Island.hst = true ∧ s.bit Reg.PLN_BOOT 3 = true ∧ s.boot.flr = false ∧ s.boot.perstN = true) ∧
    (∃ (s : State),
      s.boot.flr = true) :=
  ⟨⟨linked, by decide +kernel⟩,
   ⟨linked, by decide +kernel⟩,
   ⟨{ linked with boot := { linked.boot with flr := true } }, by decide +kernel⟩⟩

theorem met_ConfigRequestAnswers :
    (∃ (s : State),
      s.linkUp = true ∧ s.isOn Island.hst = true ∧ (s.bit Reg.PLN_BOOT 3 = false ∨ s.boot.flr = true)) ∧
    (∃ (s : State) (q : ConfigReq),
      s.linkUp = true ∧ s.isOn Island.hst = true ∧ s.bit Reg.PLN_BOOT 3 = true ∧ s.boot.flr = false ∧ q.write = false) ∧
    (∃ (s : State) (q : ConfigReq),
      s.linkUp = true ∧ s.isOn Island.hst = true ∧ s.bit Reg.PLN_BOOT 3 = true ∧ s.boot.flr = false ∧ q.write = true) :=
  ⟨⟨{ linked with boot := { linked.boot with flr := true } }, by decide +kernel⟩,
   ⟨linked, { write := false, dword := 1023 }, by decide +kernel⟩,
   ⟨linked, { write := true, dword := 1, data := 6 }, by decide +kernel⟩⟩

theorem met_IslandResets :
    (∃ (s : State) (req : Requester) (n : BitVec 4) (i : Island),
      s.openFor (regAcc req Reg.PLN_ISL_RST (word (n.toNat + 16))) Island.pln = true ∧ Island.ofIdx n.toNat = some i ∧ s.islandResetCause n.toNat = none ∧ (s.island i).drain = none) ∧
    (∃ (s : State) (req : Requester) (n : BitVec 4) (c : Nat),
      s.openFor (regAcc req Reg.PLN_ISL_RST (word (n.toNat + 16))) Island.pln = true ∧ s.islandResetCause n.toNat = some c ∧ s.bit Reg.PLN_EN_STS 0 = false) ∧
    (∃ (s : State) (req : Requester) (n : BitVec 4) (c : Nat),
      s.openFor (regAcc req Reg.PLN_ISL_RST (word (n.toNat + 16))) Island.pln = true ∧ s.islandResetCause n.toNat = some c ∧ s.bit Reg.PLN_EN_STS 0 = false) :=
  ⟨⟨withOn linked [.sat], .host, 10, .sat, by decide +kernel⟩,
   ⟨linked, .host, 15, 6, by decide +kernel⟩,
   ⟨linked, .host, 0, 6, by decide +kernel⟩⟩

theorem met_PurgeClearsTheDevice :
    (∃ (s : State) (req : Requester) (o : PairOpen),
      s.pair 8 = some o ∧ o.req = req ∧ s.now ≤ o.openAt + 400000 ∧ s.openFor (regAcc req Reg.PLN_PURGE_C (~~~o.value)) Island.pln = true ∧ BitVec.getLsbD o.value 0 = true) ∧
    (∃ (s : State),
      s.boot.erasing = true) :=
  ⟨⟨paired linked 8 1, .monitor, { value := 1, req := .monitor, openAt := linked.now - 400000 }, by decide +kernel⟩,
   ⟨{ linked with boot := { linked.boot with erasing := true } }, by decide +kernel⟩⟩

/-! ### A signed image: sections IDENTITY, ISLANDS, POLICY and MONITOR, made outside the model from R86 to R108, with the key
pair whose private key is 1 -/
/-- The 69 words of the image. -/
def imgWords : List Nat :=
  [17241, 21569, 1, 69, 5, 4, 0, 0, 0, 22, 8, 2, 30, 26, 11, 56, 7, 12, 63, 6, 39565, 23301, 0, 8, 4660, 1, 1, 0, 46161, 12217, 2, 26, 17, 0] ++
  [3, 0, 2, 0, 4, 0, 5, 0, 6, 0, 7, 0, 8, 0, 9, 0, 10, 0, 11, 0, 18929, 63677, 11, 7, 0, 0, 0, 53958, 42813, 12, 6, 0, 0, 569] ++
  [5083]
/-- Its SIGNATURE section. -/
def imgSig : List Nat :=
  [13, 68, 27415, 53746, 57644, 16967, 63676, 59109, 25508, 16626, 30467, 32129, 11755, 13216, 62625, 14661, 55448, 49814, 20451, 17122, 65050, 32667, 36583, 60234, 31759, 40470, 11214, 13143, 27441, 24270, 52150, 16488, 14271, 20981] ++
  [31986, 31512, 36099, 20350, 35410, 14339, 1205, 6851, 49289, 27106, 30706, 6965, 42507, 18684, 18278, 39288, 24243, 21256, 30039, 34656, 31629, 30919, 44743, 27160, 60155, 19754, 29866, 55146, 33480, 54260, 41258, 34383, 44419, 59694]
/-- The SHA-256 of the public key, as KEYHASH holds it. -/
def imgKey : List Nat :=
  [55413, 56189, 61219, 8758, 44743, 14534, 45243, 16000, 5167, 23823, 55540, 57124, 65238, 61173, 52149, 3487]
/-- The fuses of a device in ENFORCE with that key. -/
def lockedFuses : Fuses := { secmode := 3, keyhash := (List.range 16).map fun k => (k, BitVec.ofNat 16 (imgKey.getD k 0)) }
def allWords : List Word := (imgWords ++ imgSig).map word
def sigWords : List Word := imgSig.map word
def old0 : Image := { words := imgWords.map word }
/-- The signature is valid (R108). -/
theorem test_signature : signatureValid lockedFuses (imgWords.map word) sigWords = true := by decide +kernel
def image0 : Image := { words := imgWords.map word, sig := sigWords, digest := digestOf (imgWords.map word), signed := true }
set_option maxRecDepth 1000000 in
theorem crcs0 : checkSectionCrcs old0 sigWords = none := by decide +kernel
theorem header0 : checkHeader allWords 137 = none := by decide +kernel
theorem checks0 : checkTable old0 = none ∧ checkMissing old0 = none ∧ checkFields old0 sigWords = none ∧ checkOrder old0 = none := by
  decide +kernel
theorem memory0 : checkMemory old0 (69 + sigWords.length) = none := by decide +kernel
theorem parts0 : (wordAt allWords 3).toNat = 69 ∧ allWords.take 69 = imgWords.map word ∧ (allWords.take 137).drop 69 = sigWords := by
  decide +kernel
theorem key0 : lockedFuses.enforce = true ∧ sigWords.isEmpty = false ∧ keyMatches lockedFuses sigWords = true ∧
    ¬ old0.epoch.toNat < ((some old0).map fun i => i.epoch.toNat).getD 0 := by decide +kernel
theorem enforced0 : checkSignature lockedFuses (((some old0).map fun i => i.epoch.toNat).getD 0) old0 sigWords = none := by
  obtain ⟨k1, k2, k3, k4⟩ := key0
  have hs : signatureValid lockedFuses old0.words sigWords = true := test_signature
  unfold checkSignature
  rw [if_neg (by simp [k1]), if_neg (by simp [k2]), if_neg (by simp [k3]), if_neg (by simp [hs]), if_neg k4]
theorem verifies {f : Fuses} {com : Option Image} {ws w sig : List Word} {got n : Nat} (hn : (wordAt ws 3).toNat = n)
    (hw : ws.take n = w) (ht : (ws.take got).drop n = sig) (c1 : checkHeader ws got = none) (c2 : checkTable { words := w } = none)
    (c3 : checkSectionCrcs { words := w } sig = none) (c4 : checkMissing { words := w } = none)
    (c5 : checkFields { words := w } sig = none) (c6 : checkOrder { words := w } = none)
    (c7 : checkMemory { words := w } (n + sig.length) = none)
    (c8 : checkSignature f ((com.map fun i => i.epoch.toNat).getD 0) { words := w } sig = none) :
    verifyImage f com ws got = .ok { words := w, sig := sig, digest := digestOf w, signed := signatureValid f w sig } := by
  subst hn hw ht
  unfold verifyImage
  simp only [c1, c2, c3, c4, c5, c6, c7, c8, Option.orElse_none]
/-- The image verifies under ENFORCE, and is signed (R109, R117). -/
theorem test_signed_image : verifyImage lockedFuses (some old0) allWords 137 = .ok image0 := by
  obtain ⟨h1, h2, h3⟩ := parts0
  obtain ⟨t1, t2, t3, t4⟩ := checks0
  have h := verifies h1 h2 h3 header0 t1 crcs0 t2 t3 t4 memory0 enforced0
  rw [test_signature] at h
  exact h
/-- One word changed: cause 6 at the section's CRC. -/
theorem test_damaged_image :
    (match verifyImage {} none ((imgWords.set 24 4661).map word) 69 with | .ok _ => false | .error e => decide (e.cause = 6)) = true := by
  decide +kernel
theorem met_EnforceNeedsSignature :
    (∃ (f : Fuses) (com : Option Image) (ws : List Word) (got : Nat) (im : Image),
      verifyImage f com ws got = Except.ok im ∧ f.enforce = true) ∧
    (∃ (f : Fuses) (com : Option Image) (ws : List Word) (got : Nat) (im : Image),
      verifyImage f com ws got = Except.ok im ∧ f.enforce = true) ∧
    (∃ (f : Fuses) (com : Option Image) (ws : List Word) (got : Nat) (im : Image) (c : Image),
      verifyImage f com ws got = Except.ok im ∧ f.enforce = true ∧ com = some c) ∧
    (∃ (f : Fuses) (com : Option Image) (ws : List Word) (got : Nat) (im : Image),
      verifyImage f com ws got = Except.ok im) :=
  ⟨⟨lockedFuses, some old0, allWords, 137, image0, test_signed_image, (by decide +kernel)⟩,
   ⟨lockedFuses, some old0, allWords, 137, image0, test_signed_image, (by decide +kernel)⟩,
   ⟨lockedFuses, some old0, allWords, 137, image0, old0, test_signed_image, (by decide +kernel), rfl⟩,
   ⟨lockedFuses, some old0, allWords, 137, image0, test_signed_image⟩⟩

/-! ### Host link -/

theorem test_LinkTrains :
    (let s := withOn base [.hst]
     s.training = true ∧ s.linkUp = false ∧ laneConfig 0xC = some (2, true) ∧ 3 ≤ s.rateCap ∧ 2 ≤ s.widthCap ∧ calm s = true ∧
     after (.linkUp 3 0xC { reversed := false, inverted := 6 } true) s (fun t => t.linkUp && t.bit (Reg.HST_LANE_STS 2) 1 && !t.bit (Reg.HST_LANE_STS 1) 1 && t.ltssm == 3 && t.linkRate == 3 && t.linkWidth == 2 &&
      t.fld Reg.HST_LINK_STS 9 4 == 12 && t.bit Reg.HST_LINK_EVT 0 && !t.bit Reg.HST_LL_STS 1)) := by decide +kernel

theorem test_eq_pass :
    (let rs : List LaneEq := [0, 1, 2, 3].map fun l => { lane := l, ok := true, passing := [(4, 20), (7, 30)] }
     eqPasses linked rs = true ∧
     after (.eqPhase2Done 2 rs) linked (fun t => t.linkRate == 2 && t.fld (Reg.HST_LANE_STS 0) 8 4 == 7)) := by decide +kernel

theorem test_eq_fail :
    (let rs : List LaneEq := [{ lane := 0, ok := false, passing := [] }]
     eqPasses linked rs = false ∧ after (.eqPhase2Done 3 rs) linked (fun t => t.sent == [] && t.linkRate == 3) ∧
     after (.eqPhase2Done 3 rs) { linked with link := { linked.link with eq8 := true } } (fun t => t.linkRate == 2 && t.bit Reg.HST_LINK_EVT 5 && t.link.eqCap == 2)) := by decide +kernel

theorem test_eq3 :
    after (.eqPhase3Request 1 (.preset 10)) linked (fun t => t.fld (Reg.HST_LANE_STS 1) 4 4 == 10) ∧
    after (.eqPhase3Request 1 (.preset 11)) linked (fun t => t.sent == [Output.laneMsg 1 .rejected]) ∧
    after (.eqPhase3Request 1 (.coefficients 1 2 3 true)) linked (fun t => Tab.get 0 t.link.coefficients 1 == 12417) ∧
    after (.eqPhase3Request 1 (.coefficients 1 2 3 false)) linked (fun t => decide (t.link = linked.link)) := by decide +kernel

theorem test_lock :
    linked.activeLane 2 = true ∧ calm linked = true ∧
    after (.laneLockLoss 2) linked (fun t => t.ltssm == 4 && !t.bit (Reg.HST_LANE_STS 2) 0 && t.fld (Reg.HST_LANE_STS 2) 12 6 == 1 && t.rd Reg.HST_RECOV_CNT == 1) := by decide +kernel

def recov : State := (linked.setFld Reg.HST_LINK_STS 0 3 4).setBit (Reg.HST_LANE_STS 2) 0 false
theorem test_rto :
    after (.recoveryTimeout 2) recov (fun t => t.fld Reg.HST_DROP_STS 4 2 == 1 && t.fld Reg.HST_DROP_STS 6 2 == 2 && t.ltssm == 4) ∧
    (let s := (recov.setFld Reg.HST_DROP_STS 4 4 10).setBit Reg.HST_PHY_CTL 7 true
     bestLanes (s.link.detectLanes &&& ~~~(s.dropped ||| BitVec.ofNat 4 (2 ^ 2))) = some 3 ∧
     after (.recoveryTimeout 2) s (fun t => t.dropped == 4 && t.linkWidth == 2 && t.fld Reg.HST_LINK_STS 9 4 == 3 && t.bit Reg.HST_LINK_EVT 2 && t.ltssm == 3 && t.fld Reg.HST_DROP_STS 4 4 == 0)) := by decide +kernel

theorem test_surv :
   after .recoverySurvived (State.setFld { linked with link := { linked.link with l0At := some 960000000 } } Reg.HST_DROP_STS 4 4 6)
     (fun t => t.fld Reg.HST_DROP_STS 4 4 == 0 && t.link.l0At == none) ∧
   after .linkReturnToL0 recov (fun t => t.ltssm == 3 && t.bit (Reg.HST_LANE_STS 2) 0) := by decide +kernel

def narrowed : State := { (linked.setLanes 3 false).setDropped 4 with link := { linked.link with dropAt := some 0, partnerUpcfg := true } }.setBit Reg.HST_PHY_CTL 4 true |>.wr Reg.HST_UPCFG_T 2
theorem test_up :
   (let s : State := { narrowed with now := 4000000000 }
    s.inL0 = true ∧ s.dropped ≠ 0 ∧ after .upconfigureAttempt s (fun t => t.ltssm == 2 && t.link.upcfgRun && t.rd Reg.HST_RECOV_CNT == 1)) ∧
   (let s : State := { narrowed with now := 4000000000, link := { narrowed.link with partnerUpcfg := false } }
    after .upconfigureAttempt s (fun t => t.ltssm == 3 && t.fld Reg.HST_UPCFG_STS 0 2 == 1)) := by decide +kernel
def upcfg : State := { narrowed with link := { narrowed.link with upcfgRun := true } }
theorem test_upd :
   after (.upconfigureDone 0 true) upcfg (fun t => t.fld Reg.HST_UPCFG_STS 0 2 == 2 && t.bit Reg.HST_LINK_EVT 4 && t.dropped == 4) ∧
   after (.upconfigureDone 4 false) upcfg (fun t => t.fld Reg.HST_UPCFG_STS 0 2 == 3 && t.bit Reg.HST_LINK_EVT 4 && t.dropped == 4) ∧
   after (.upconfigureDone 4 true) upcfg (fun t => t.linkWidth == 4 && t.bit Reg.HST_LINK_EVT 3 && t.dropped == 0) := by decide +kernel

theorem test_eye : 
   (linked.openFor (regAcc .monitor Reg.HST_EYE_CTL (word 6)) .hst = true ∧ belowCeiling linked) ∧
   after (.eyeScanStart .monitor 2) linked (fun t => t.bit Reg.HST_EYE_CTL 3 && t.link.eyeLane == 2) ∧
   after (.eyeScanStart .host 3) linked (fun t => t.bit Reg.HST_EYE_CTL 3 && t.link.eyeLane == 3) := by decide +kernel
def scanning : State := { (linked.setBit Reg.HST_EYE_CTL 3 true) with link := { linked.link with eyeLane := 1 } }
theorem test_auto :
   (let s := { linked.setBit Reg.HST_EYE_CTL 5 true with link := { linked.link with eyeLane := 3 } }
    s.activeLane (s.nextLane s.link.eyeLane) = true ∧ after .eyeScanAuto s (fun t => t.bit Reg.HST_EYE_CTL 3 && t.link.eyeLane == 0)) ∧
   (let s := { linked.setBit Reg.HST_EYE_CTL 5 true with link := { linked.link with eyeLane := 3, eyeRestart := true } }
    after .eyeScanAuto s (fun t => t.bit Reg.HST_EYE_CTL 3 && t.link.eyeLane == 3)) ∧
   scanning.eyeRuns = true ∧
   after (.eyeScanDone 64 250) scanning (fun t => !t.bit Reg.HST_EYE_CTL 3 && t.bit Reg.HST_LINK_EVT 7 && (Tab.get {} t.link.eyes 1).word == 0x37D40) ∧
   (let s := { scanning.setBit Reg.HST_LINK_STS 13 true with link := { scanning.link with eyePausedAt := some 1 } }
    after .eyeScanPauseTimeout s (fun t => !t.bit Reg.HST_EYE_CTL 3 && t.bit Reg.HST_EYE_CTL 4)) ∧
   after (.laneMarginCommand 1 (.timing true 32)) scanning (fun t => !t.bit Reg.HST_EYE_CTL 3) ∧
   after (.laneMarginCommand 1 .goToNormal) { scanning with link := { scanning.link with margining := 3 } } (fun t => t.link.margining == 1) := by decide +kernel

theorem test_test :
  (linked.openFor (regAcc .monitor Reg.HST_PHY_CTL (withField (linked.rd Reg.HST_PHY_CTL) 6 1 1)) .hst = true ∧
    linked.rd Reg.HST_PHY_CTL &&& (rowOf Reg.HST_PHY_CTL).reservedBits = 0 ∧ linked.bit Reg.HST_PHY_CTL 5 = false) ∧
  after (.testmodeEnter .monitor) linked (fun t => t.bit Reg.HST_PHY_CTL 6 && !t.linkUp && t.ltssm == 7 && t.bit Reg.HST_PRBS_STS 4 && t.link.prbsRuns) ∧
  after (.testmodeEnter .host) linked (fun t => !t.bit Reg.HST_PHY_CTL 6 && t.linkUp && t.bit Reg.HST_LINK_EVT 8) ∧
  (let s := linked.setBit Reg.HST_PHY_CTL 6 true
   after (.testmodeExit .monitor) s (fun t => !t.bit Reg.HST_PHY_CTL 6 && t.ltssm == 0 && !t.bit Reg.HST_PRBS_STS 4)) ∧
  (let s := { linked.wr Reg.HST_PRBS_CTL 15 with link := { linked.link with prbsRuns := true } }
   after (.prbsCheckerLock 3) s (fun t => t.rd Reg.HST_PRBS_STS == 8)) ∧
  (let s := { linked.wr Reg.HST_PRBS_CTL 15 with link := { linked.link with prbsMis := [(0, 1)] } }
   after (.prbsClear .monitor) s (fun t => t.link.prbsMis == [])) := by decide +kernel

theorem test_sleep :
  (let s := { linked.setCfg 32 3 with link := { linked.link with quietAt := some (linked.now - 40000) } }
   after .l0sEntry s (fun t => t.bit Reg.HST_LINK_STS 13) ∧ after .l0sEntry { s with link := { s.link with sentAt := linked.now - 399 } } (fun t => !t.bit Reg.HST_LINK_STS 13) ∧
   after .l1Request { s with now := linked.now - 1 } (fun t => t.ltssm == 3) ∧
   after .l0sEntry (s.setBit Reg.HST_LINK_STS 13 true) (fun t => t.bit Reg.HST_LINK_STS 14) ∧ after .l1Request s (fun t => t.ltssm == 5 && t.link.clkreq)) ∧
  (let s := (linked.setFld Reg.HST_LINK_STS 0 3 5)
   after .electricalIdleExit s (fun t => t.ltssm == 4 && t.rd Reg.HST_RECOV_CNT == 1) ∧
   after .l11Exit (s.setBit Reg.HST_LINK_STS 15 true) (fun t => t.ltssm == 4 && t.link.clkreq && !t.bit Reg.HST_LINK_STS 15) ∧
   after .l11Exit { s.setBit Reg.HST_LINK_STS 15 true with boot := { s.boot with refclk := false } } (fun t => t.ltssm == 5 && t.link.clkreq) ∧
   after .refclkStop (s.setBit Reg.HST_LINK_STS 15 true) (fun t => t.linkUp && !t.boot.refclk)∧
   after .refclkStart (s.setBit Reg.HST_LINK_STS 15 true) (fun t => t.ltssm == 4 && t.boot.refclk)) ∧
  (let s := (linked.setCfg 38 0x400).wr Reg.HST_LTR_US 77
   s.ltrEn = true ∧ s.canSend = true ∧
   after .ltrAutoSend (s.setBit Reg.HST_LTR_CTL 0 true) (fun t => t.sent == [Output.ltr 77]) ∧
   s.openFor (regAcc .host Reg.HST_LTR_CTL (withField (s.rd Reg.HST_LTR_CTL) 1 1 1)) .hst = true ∧
   after (.ltrSend .host) (s.setBit Reg.HST_LTR_CTL 0 false) (fun t => t.sent == [Output.ltr 77])) ∧
  after .refclkStop linked (fun t => !t.linkUp && t.bit Reg.HST_LINK_EVT 1) ∧
  (let s := linked.setQueue 5 { state := .enabled } |>.setLock 63 { owner := some (.req .host) }
  after .surpriseLinkDown s (fun t => !t.linkUp && t.ltssm == 0 && t.bit Reg.HST_LL_STS 1 && t.bit Reg.HST_LINK_EVT 1 && decide ((t.queue 5).state ≠ .enabled) && decide (t.lock 63 = { owner := none, broken := true })) ∧
  after (.redetect .monitor) s (fun t => !t.linkUp && t.ltssm == 0 && t.bit Reg.HST_LL_STS 1)) := by decide +kernel

/-! ### Host transactions -/

theorem test_07a :
  (linked.nrg.deferred = [] ∧ takesConfig linked = true ∧ takesMemory linked = true) ∧
  after (.slotPowerLimitMsg 5 0) linked (fun t => t.rd Reg.HST_SPL == 5000 && t.rd Reg.NRG_CEIL == word t.ceiling.1 && decide (t.ceiling.1 ≤ 5000)) ∧
  after .busMasterEnableClear linked (fun t => !t.bme && !t.canSend && t.mse) ∧
  after .d3hotEntry linked (fun t => t.txn.d3hot && !t.canSend) ∧
  (let s := { linked.setCfg 44 0x80000000 with txn := { (linked.setCfg 44 0x80000000).txn with pba := 2 ^ 127, msix := [(511, 0)] } }
   s.vecMasked 127 = false ∧ after .busMasterEnableSet s (fun t => t.bme && !t.txn.pba.getLsbD 127)) ∧
  (let s := { linked with txn := { linked.txn with d3hot := true } }
   after .d3hotToD0 s (fun t => !t.txn.d3hot)) := by decide +kernel

theorem test_07b :
  (let a : Bar4Access := { write := false, offset := 0x800, size := 4 }
   bar4Ok a = false ∧ after (.bar4Access a) linked (fun t => t.sent == [Output.completion .host .ur [] false]) ∧
   after (.bar4Access { a with write := true }) linked (fun t => t.sent == [])) ∧
  (let a : Bar4Access := { write := true, offset := 0x7FC, size := 4, data := 0xFFFFFFFE }
   bar4Ok a = true ∧ after (.bar4Access a) linked (fun t => t.msixD 511 == 0 && msixStored a == 0) ∧
   after (.bar4Access { a with poisoned := true }) linked (fun t => t.bit Reg.HST_TXN_EVT 2) ∧
   after (.bar4Access { a with write := false, offset := 0x7F8, size := 8 }) linked (fun t => t.sent == [Output.completion .host .sc [0, 1] false])) := by decide +kernel

/-- A command queue whose fetch is under way. -/
def fetching : State :=
  { (withOn linked [.que]).setQueue 9 { state := .enabled, cfg := 3, fetching := true, prod := 1 } with
    txn := { linked.txn with tags := [{ tag := 5, who := .cmdQueue 9 1, issuedAt := 900000000 }] } }
theorem test_07c :
  after (.completionReceived { tag := 6, status := .sc, data := [] }) fetching (fun t => t.rd Reg.HST_LATE_CNT == 1 && t.bit Reg.HST_TXN_EVT 1) ∧
  after (.completionReceived { tag := 5, status := .sc, data := [1], last := false }) fetching (fun t => (t.txn.tags.map (·.got)) == [[1]]) ∧
  after (.completionReceived { tag := 5, status := .sc, data := List.replicate 16 1 }) fetching (fun t => t.txn.tags == [] && (t.queue 9).fetched.length == 1 && (t.queue 9).cons == 1) ∧
  after (.completionReceived { tag := 5, status := .ca, data := [] }) fetching (fun t => t.txn.tags == [] && t.bit Reg.HST_TXN_EVT 3 && (t.queue 9).faultCause == 3) ∧
  fetching.ctoDisable = false ∧ 900000000 + fetching.ctoTicks ≤ fetching.now ∧
  after (.completionTimeout 5) fetching (fun t => t.txn.tags == [] && t.txn.quarantine == [{ tag := 5, endAt := 1040000000 }] && t.rd Reg.HST_CTO_LAST == 9 && t.bit Reg.HST_TXN_EVT 0 && (t.queue 9).faultCause == 3) ∧
  after (.tagQuarantineEnd 5) { fetching with txn := { fetching.txn with quarantine := [{ tag := 5, endAt := 1000000000 }, { tag := 6, endAt := 1 }] } }
    (fun t => t.txn.quarantine == [{ tag := 6, endAt := 1 }]) := by decide +kernel

def ats : State :=
  { (withOn (linked.setCfg 87 0x80000000) [.que]).setQueue 9 { state := .enabled, cfg := 0x83 } with
    txn := { (linked.setCfg 87 0x80000000).txn with tags := [{ tag := 5, who := .ats 9 7, issuedAt := 0 }], atc := [{ vpage := 3, ppage := 1, read := true, write := true }] } }
theorem test_07d :
  (ats.atsEn = true ∧ takesConfig ats = true) ∧
  after (.translationCompletion 5 { status := .sc, page := 2, read := true, write := false }) ats (fun t => t.atcFind 7 == some { vpage := 7, ppage := 2, read := true, write := false }) ∧
  after (.translationCompletion 5 { status := .sc, page := 2, read := false, write := true }) ats (fun t => t.atcFind 7 == none && t.txn.atsBad == [(9, 7)] && !t.bit Reg.HST_TXN_EVT 4) ∧
  after (.invalidateRequest 31 3 1) ats (fun t => t.atcFind 3 == none && t.txn.invals.length == 1) ∧
  after (.invalidateCompletion 31) { ats with txn := { ats.txn with invals := [{ itag := some 31, waits := [] }] } } (fun t => t.sent == [Output.invalidateCpl 31] && t.txn.invals == []) ∧
  after (.atcFlush .monitor) ats (fun t => t.txn.atc == []) ∧ ats.openFor (regAcc .monitor Reg.HST_ATC_CTL 1) .hst = true ∧
  after .atsEnableClear ats (fun t => !t.atsEn && t.txn.atc == [] && (t.queue 9).faultCause == 4 && t.bit Reg.HST_TXN_EVT 4) := by decide +kernel

theorem test_07e :
  (let a : AtomicReq := { op := .swap, bar := 2, offset := 0, operand := 1 }
   windowAt linked.image 0 1 = none ∧ after (.atomicopRequest a) linked (fun t => t.sent == [Output.completion .host .ur [] false])) ∧
  (let s : State := { linked with sat := { linked.sat with nonPosted := [{ win := 3, want := .atomic .swap 5 1 0, sinceAt := 996000000, ahead := 0, behind := 0 }] } }
   after .atomicopLockTimeout s (fun t => t.sat.nonPosted == [] && t.rd Reg.HST_ATOMIC_FAIL == 1 && t.bit Reg.HST_TXN_EVT 5 && t.sent.head? == some (Output.completion .host .ca [] false))) := by decide +kernel

def mem : State := (withOn linked [.mem]).setSram 262143 { stored := 1, checked := 0 }
theorem test_07f :
  mem.openFor (regAcc .host (sramOffset 262143) 5) .mem = true ∧ mem.inShadow 262143 = false ∧ mem.inShadow 0 = false ∧
  after (.sramWindowWrite .host 262143 5) (mem.wr Reg.MEM_ECC_CTL 2) (fun t => t.sramW 262143 == { stored := 6, checked := 5 } && t.rd Reg.MEM_ECC_CTL == 0) ∧
  after (.sramWindowRead .host 262143) mem (fun t => t.sramW 262143 == {} && t.sent.head? == some (Output.completion .host .sc [0] false)) ∧
  after (.sramWindowRead .host 262142) mem (fun t => t.sent == [Output.completion .host .sc [0] false]) ∧
  after (.sramWindowRead .host 262143) (mem.setSram 262143 { stored := 3, checked := 0 }) (fun t => t.sramW 262143 == { stored := 3, checked := 0 } && t.rd Reg.MEM_UE_ADDR == word 262143 && t.sent.head? == some (Output.completion .host .sc [3] true)) ∧
  (mem.grantAt 7 14).isSome = true ∧ mem.stopped .mem = false ∧
  after .memPatrolScrub { mem with mem := { next := 262143 } } (fun t => t.mem.next == 0 && t.sramW 262143 == {} && t.rd (Reg.MEM_CE_CNT 7) == 1) ∧
  after .memPatrolScrub { mem.setSram 262143 {} with mem := { next := 262143 } } (fun t => t.mem.next == 0 && t.rd Reg.MEM_SCRUB_PASS == 1) := by decide +kernel
theorem test_07g :
  (let s := withImg (withOn linked [.sat]) [(7, [16, 1, 1, 0x4F, 0, 0, 1])]
   let a : AtomicReq := { op := .cas, bar := 2, offset := 0xFC, operand := 0x3FFFF, compare := 1 }
   (windowAt s.image a.offset.toNat 1).map (·.2) = some 63 ∧ s.satGone = false ∧
   after (.atomicopRequest a) s (fun t => t.sent == [] && (t.sat.nonPosted.map (·.want)) == [.atomic .cas 63 0x3FFFF 1])) := by decide +kernel

/-! ### Channels, queues and events -/

/-- QUE ON with a channel bound to queues 1 (record) and 2 (command) in slot 5. -/
def chan5 : State :=
  let t := withOn linked [.que]
  let t := t.setQueue 1 { state := .enabled, cfg := 1 } |>.setQueue 2 { state := .enabled, cfg := 3 }
  (t.setChn 5 { state := .live, gen := 2047, recq := 1, cmdq := 2 }).wr Reg.CHN_HANDLE (word (5 * 2048 + 2047)) |>.setLock 7 { owner := some (.chan 5) }
/-- An image with template 0 for port 0 of TQA and virtual encoder 0, sourced from an encoder. -/
def forCreate : State :=
  let t := withImg (withOn chan5 [.tqa, .mot]) [(1, [1, 0, 1, 0]), (3, [1, 0, 1, 1]), (4, [1, 0, 1, 0, 1, 0, 0, 100, 0])]
  (t.wr (Reg.CHN_P 2) 1).wr (Reg.CHN_P 4) 1 |>.wr (Reg.CHN_P 5) 3 |>.setQueue 3 { state := .enabled, cfg := 3 }
theorem test_08a :
  forCreate.openFor (regAcc .host Reg.CHN_OP (word 1)) .que = true ∧ forCreate.createStatus = (0, some 0) ∧
  after (.create .host) forCreate (fun t => t.chn 0 == forCreate.newChan 0 && t.que.opRes == [word 8, word 1] && t.bit Reg.QUE_EVT 14) ∧
  chan5.createStatus = (2, none) ∧ after (.create .host) chan5 (fun t => t.que.opRes == [word 10, 0]) ∧
  chan5.slotOf (chan5.rd Reg.CHN_HANDLE) = some 5 ∧
  after (.chnQuiesce .monitor) chan5 (fun t => (t.chn 5).state == .quiescing && t.que.opRes == [word 16, word 12287]) ∧
  after (.resume .monitor) chan5 (fun t => (t.chn 5).state == .live && t.que.opRes == [word 29, 0]) ∧
  after (.resume .monitor) (chan5.setChn 5 { chan5.chn 5 with state := .quiesced }) (fun t => (t.chn 5).state == .live && t.que.opRes == [word 24, word 12287]) ∧
  after (.destroy .monitor) chan5 (fun t => (t.chn 5).state == .free && (t.chn 5).gen == 1 && (t.queue 2).state == .disabled && t.bit Reg.QUE_EVT 13 &&
    t.lock 7 == { owner := none, broken := true } && t.que.opRes == [word 32, word 12287]) ∧
  after (.destroy .monitor) (chan5.wr Reg.CHN_HANDLE 0) (fun t => t.que.opRes == [word 36, 0]) ∧
  after (.create .host) { chan5 with que := { chan5.que with op := some { code := 1, handle := 0, params := [] } } } (fun t => t.bit Reg.CHN_OPSTS 1) := by decide +kernel

theorem test_08b :
  after (.chnOpInvalid .host 7) chan5 (fun t => t.que.opRes == [word 61, 0]) ∧ chan5.openFor (regAcc .host Reg.CHN_OP (word 7)) .que = true ∧
  (let s := chan5.setChn 5 { chan5.chn 5 with state := .quiescing }
   s.unwritten 5 = 0 ∧ s.firesPending 5 = false ∧ takesEntry s 1 = true ∧
   after (.channelQuiesced 5) s (fun t => (t.chn 5).state == .quiesced && (t.queue 1).staged == [{ typ := 4, words := [s.handleOf 5, 3] ++ words54 s.devTime, slot := some 5, cause := some 12 }])) := by decide +kernel

theorem test_08c :
  (let s := chan5.setQueue 2047 { cfg := 1, prod := 5, cons := 3 }
   s.openFor (regAcc .host Reg.QUE_CMD (word (2047 + 2048))) .que = true ∧
   after (.queueEnable .host 2047) s (fun t => (t.queue 2047).state == .enabled && (t.queue 2047).prod == 0) ∧
   after (.queueReset .host 2047) s (fun t => (t.queue 2047).state == .disabled && (t.queue 2047).cons == 0) ∧
   after (.queueFaultclr .host 2047) s (fun t => t.bit Reg.QUE_EVT 5 && decide (t.que.queues = s.que.queues))) ∧
  (let s := chan5.setQueue 1 { chan5.queue 1 with staged := [{ typ := 1, words := [] }], prod := 7 }
   after (.queueDisable .host 1) s (fun t => (t.queue 1).state == .draining && (t.queue 1).staged == [] && (t.queue 1).drops == 1 && t.bit Reg.QUE_EVT 8 && (t.queue 1).prod == 7)) ∧
  (let s := chan5.setQueue 1 { chan5.queue 1 with state := .fault, prod := 7 }
   after (.queueFaultclr .host 1) s (fun t => (t.queue 1).state == .enabled && (t.queue 1).prod == 7)) ∧
  (let s := chan5.setQueue 1 { chan5.queue 1 with state := .draining }
   s.queWorks = true ∧ after (.queueDrainDone 1) s (fun t => (t.queue 1).state == .disabled)) ∧
  chan5.openFor (regAcc .host (0x200000 + 8) 16) .que = true ∧
  after (.doorbell .host 2 16) chan5 (fun t => (t.queue 2).prod == 16) ∧ after (.doorbell .host 2 17) chan5 (fun t => (t.queue 2).faultCause == 2 && t.bit Reg.QUE_EVT 2) ∧
  after (.doorbell .host 1 0) chan5 (fun t => (t.queue 1).cons == 0) ∧ after (.doorbell .host 1 1) chan5 (fun t => (t.queue 1).faultCause == 2) ∧
  after (.doorbell .host 9 1) chan5 (fun t => t.bit Reg.QUE_EVT 1) := by decide +kernel

theorem test_08d :
  (let s := chan5.setQueue 1 { chan5.queue 1 with staged := [{ typ := 3, words := [1, 2] }], prod := 17, base := 5 }
   s.canSend = true ∧ after (.queueEntryWrite 1 .clean) s (fun t => (t.queue 1).prod == 18 && (t.queue 1).staged == [] && t.sent ==
     [Output.memWrite (20480 + 64) [0x203] false false, Output.memWrite (20480 + 68) (bodyOf [1, 2]) s.relaxedOn false])) ∧
  (let s := chan5.setQueue 2 { chan5.queue 2 with prod := 5, base := 5 }
   s.freeTag = some 0 ∧ s.fetchCount (s.queue 2) 16 = 5 ∧
   after (.commandFetch 2 false) s (fun t => (t.queue 2).fetching && t.sent == [Output.memRead 0 20480 80])) := by decide +kernel

/-- The command queue of slot 5 holds one command. -/
def cmdIn (ws : List Word) : State := chan5.setQueue 2 { chan5.queue 2 with fetched := [{ typ := 0x20, words := chan5.handleOf 5 :: ws }] }
theorem test_08e :
  (cmdIn [1, 8, 9]).cmdHead 2 = .cmd 5 1 [8, 9] ∧
  after (.cmdMark 2) (cmdIn [1, 8, 9]) (fun t => (t.queue 2).fetched == [] && (t.queue 1).staged == [{ typ := 3, words := [chan5.handleOf 5, 8, 9, 0], slot := some 5 }]) ∧
  after (.cmdQuiesce 2) (cmdIn [2]) (fun t => (t.queue 2).fetched == [] && (t.chn 5).state == .quiescing) ∧
  after (.cmdLock 2) (cmdIn [3, 63]) (fun t => (t.queue 2).fetched == [] && t.lock 63 == { owner := some (.chan 5), broken := false }) ∧
  after (.cmdLock 2) ((cmdIn [3, 63]).setLock 63 { owner := some (.req .host) }) (fun t => t.lockStalled 2 && (t.queue 2).fetched.length == 1) ∧
  after (.cmdUnlock 2) (cmdIn [4, 7]) (fun t => (t.queue 2).fetched == [] && t.lock 7 == { owner := none, broken := false }) ∧
  (let s := { cmdIn [3, 9] with que := { (cmdIn [3, 9]).que with lockWait := [(9, 5, 2)] } }
   after (.cmdLockGranted 2) s (fun t => t.que.lockWait == [] && t.lock 9 == { owner := some (.chan 5), broken := false } &&
    (t.queue 1).staged == [{ typ := 5, words := [chan5.handleOf 5, 9, lockWord 2 (some (.chan 5))], slot := some 5 }])) ∧
  (cmdIn [9]).cmdHead 2 = .unknown ∧ after (.cmdStaleOrUnknown 2) (cmdIn [9]) (fun t => (t.queue 2).fetched == [] && t.bit Reg.QUE_EVT 5) ∧
  ((cmdIn [1]).setChn 5 { chan5.chn 5 with gen := 3 }).cmdHead 2 = .stale ∧
  after (.cmdStaleOrUnknown 2) ((cmdIn [1]).setChn 5 { chan5.chn 5 with gen := 3 }) (fun t => t.bit Reg.QUE_EVT 6) := by decide +kernel

def msix : State := { chan5.setCfg 44 0x80000000 with txn := { (chan5.setCfg 44 0x80000000).txn with msix := [(3, 0), (511, 0)] } }
theorem test_08f :
  (let s := (msix.setVec 127 { signals := 1, firstAt := some 1 }).wr (Reg.EVT_VEC 127) 256
   s.vecTimer 127 = 4000 ∧ after (.vectorTimerExpiry 127) s (fun t => t.vec 127 == {} && t.sent == [Output.message 127 127 true 0 0])) ∧
  (let s := msix.wr (Reg.EVT_PEND 30) 0x1000
   isAttention 552 = true ∧ s.openFor (regAcc .host (Reg.EVT_MASK 30) 0) .que = true ∧ s.fld (Reg.EVT_ROUTE 552) 0 7 = 0 ∧
   after (.evtMaskWrite .host 30 0) s (fun t => t.rd (Reg.EVT_MASK 30) == 0 && t.sent == [Output.message 0 0 true 0 0])) ∧
  after (.evtRouteWrite .host 0 0) chan5 (fun t => t.rd (Reg.EVT_ROUTE 0) == 1) ∧
  after (.evtRouteWrite .host 552 0x80) (chan5.wr (Reg.EVT_ROUTE 552) 0x85) (fun t => t.rd (Reg.EVT_ROUTE 552) == 0x80) := by decide +kernel

theorem test_08g :
  chan5.openFor (readAcc .host (lckOfs 63)) .pln = true ∧ chan5.openFor (regAcc .monitor (lckOfs 63) 1) .pln = true ∧
  after (.lockAcquire .monitor 63) chan5 (fun t => t.lock 63 == { owner := some (.req .monitor), broken := false } && t.mon.got == [(0x0800FC, lockWord 2 (some (.req .monitor)))]) ∧
  after (.lockAcquire .host 7) chan5 (fun t => t.lock 7 == chan5.lock 7 && t.sent == [Output.completion .host .sc [dwordOf (lockWord 0 (some (.chan 5)))] false]) ∧
  after (.lockRelease .host 7) chan5 (fun t => t.lock 7 == chan5.lock 7 && t.bit Reg.LCK_STS 0 && t.rd Reg.LCK_FOREIGN == 7) ∧
  after (.lockRelease .host 8) (chan5.setLock 8 { owner := some (.req .host) }) (fun t => t.lock 8 == { owner := none, broken := false }) ∧
  after (.lockForce .host 7) chan5 (fun t => t.lock 7 == { owner := none, broken := true }) ∧
  after (.lockForce .monitor 7) (chan5.wr Reg.MON_CTL 1) (fun t => t.lock 7 == chan5.lock 7) := by decide +kernel

/-! ### Budgets and energy -/

theorem test_09 :
  (let s := base
   s.stopped .pln = false ∧ s.cadenceEnds = some 0 ∧ s.cadenceEnds.isSome = true ∧
   after .cadenceBoundary (s.setArb 11 { grants := [(6, 5)] }) (fun t => t.rd Reg.TMP_CAD_CNT == 1 && t.rd Reg.TMP_CAD_LEN == 2047 && (t.arb 11).grants == [] && (t.arb 11).lastGrants == [(6, 5)] && t.nrg.cadStartAt == t.now)) ∧
  (let s : State := { base with nrg := { base.nrg with cadStartAt := 999999999 } }
   s.cadenceEnds = none) ∧
  mayWin base 8 0 = true ∧ mayWin base 8 5 = false ∧
  after (.arbiterGrant .hostTx [{ activity := 0, age := 3 }] .free) base (fun t => (t.arb 8).granted 0 == 1) ∧
  after (.arbiterGrant .hostTx [{ activity := 5, age := 3 }] .free) base (fun t => (t.arb 8).granted 5 == 0) ∧
  (let s := base.setArb 8 { parked := some 4, grants := [(4, 9)] }
   after (.arbiterGrant .hostTx [{ activity := 0, age := 3 }] .handed) s (fun t => (t.arb 8).granted 4 == 9) ∧
   after (.arbiterGrant .hostTx [{ activity := 0, age := 3 }] .transfer) s (fun t => (t.arb 8).granted 0 == 1 && (t.arb 8).granted 4 == 8 && t.rd (Reg.TMP_PREEMPT 4) == 1)) ∧
  (base.busGrant 12).isSome = true ∧
  after (.meterReport .hst 1500) base (fun t => decide (t.nrg = base.nrg)) ∧
  after (.meterReport .hst 1500) linked (fun t => Tab.get 0 t.nrg.acc 1 == 1 && Tab.get 0 t.nrg.rem 1 == 1000000 && Tab.get 0 t.nrg.acc 64 == 1) ∧
  base.openFor (regAcc .monitor Reg.NRG_CEIL_DRV 5000) .pln = true ∧
  after (.nrgCeilDrvWrite .monitor 5000) base (fun t => t.rd Reg.NRG_CEIL_DRV == 5000 && t.rd Reg.NRG_CEIL == 5000) ∧
  (base.arbitrate 8 [(2, 7), (3, 7), (0, 5)] false).1 = some 0 := by decide +kernel

/-! ### Witnesses: host link, host transactions, channels, queues, events, budgets -/
def autoEye (r : Bool) : State := { linked.setBit Reg.HST_EYE_CTL 5 true with link := { linked.link with eyeLane := 3, eyeRestart := r, eyeLastAt := linked.now - 400000000 } }
def sleepy : State := linked.setFld Reg.HST_LINK_STS 0 3 5
def ltr0 : State := (linked.setCfg 38 0x400).wr Reg.HST_LTR_US 77
def shortRead : Bar4Access := { write := false, offset := 0x800, size := 4 }
def tableRead : Bar4Access := { write := false, offset := 0x7FC, size := 4 }
def atom0 : State := withImg (withOn linked [.sat]) [(7, [16, 1, 1, 0x4F, 0, 0, 1])]
def cas0 : AtomicReq := { op := .cas, bar := 2, offset := 0xFC, operand := 0x3FFFF, compare := 1 }
def lockJob : BridgeJob := { win := 3, want := .atomic .swap 5 1 0, sinceAt := linked.now - 4000000, ahead := 0, behind := 0 }
def tagged : Tag := { tag := 5, who := .cmdQueue 9 1, issuedAt := 900000000 }
theorem met_LinkTrains :
    (∃ (s : State) (rate : Fin 4) (lanes : BitVec 4) (w : Nat) (r : Bool),
      s.training = true ∧ s.linkUp = false ∧ laneConfig lanes = some (w, r) ∧ rate.val ≤ s.rateCap ∧ w ≤ s.widthCap ∧ calm s = true) ∧
    (∃ (s : State) (rate : Fin 4) (lanes : BitVec 4) (w : Nat) (r : Bool),
      s.training = true ∧ s.linkUp = false ∧ laneConfig lanes = some (w, r) ∧ rate.val ≤ s.rateCap ∧ w ≤ s.widthCap ∧ calm s = true) ∧
    (∃ (s : State) (rate : Fin 4),
      s.training = true ∧ 2 ≤ rate.val ∧ rate.val ≤ s.rateCap ∧ (rate.val = 3 → s.link.eq8 = true)) ∧
    (∃ (s : State) (rate : Fin 4),
      s.training = true ∧ 2 ≤ rate.val ∧ rate.val ≤ s.rateCap ∧ (rate.val = 3 → s.link.eq8 = true)) ∧
    (∃ (s : State),
      s.training = true) :=
  ⟨⟨withOn base [.hst], 3, 0xC, 2, true, by decide +kernel⟩,
   ⟨withOn base [.hst], 0, 1, 1, false, by decide +kernel⟩,
   ⟨linked, 2, by decide +kernel⟩,
   ⟨{ linked with link := { linked.link with eq8 := true } }, 3, by decide +kernel⟩,
   ⟨linked, by decide +kernel⟩⟩

theorem met_LanesFailAndDrop :
    (∃ (s : State) (lane : Fin 4),
      s.linkUp = true ∧ s.activeLane lane.val = true ∧ s.bit (Reg.HST_LANE_STS lane.val) 0 = true ∧ s.ltssm = 3 ∧ s.link.l0At = none ∧ calm s = true) ∧
    (∃ (s : State) (lane : Fin 4),
      s.linkUp = true ∧ s.activeLane lane.val = true ∧ s.bit (Reg.HST_LANE_STS lane.val) 0 = false ∧ s.ltssm = 4 ∧ s.link.recoveryAt + 9600000 ≤ s.now ∧ calm s = true) ∧
    (∃ (s : State) (a : Nat),
      s.link.l0At = some a ∧ s.inL0 = true ∧ a + 40000000 ≤ s.now) ∧
    (∃ (s : State),
      s.linkUp = true ∧ s.ltssm = 4 ∧ s.link.upcfgRun = false ∧ s.isOn Island.hst = true ∧ calm s = true) :=
  ⟨⟨linked, 3, by decide +kernel⟩,
   ⟨recov, 2, by decide +kernel⟩,
   ⟨{ linked with link := { linked.link with l0At := some (linked.now - 40000000) } }, linked.now - 40000000, by decide +kernel⟩,
   ⟨recov, by decide +kernel⟩⟩

theorem met_LanesComeBack :
    (∃ (s : State) (a : Nat),
      s.link.dropAt = some a ∧ s.inL0 = true ∧ s.dropped ≠ 0 ∧ s.bit Reg.HST_PHY_CTL 4 = true ∧ a + 400000000 * max 10 (BitVec.toNat (s.rd Reg.HST_UPCFG_T)) ≤ s.now) ∧
    (∃ (s : State),
      s.link.upcfgRun = true ∧ s.linkUp = true ∧ calm s = true) ∧
    (∃ (s : State),
      s.link.upcfgRun = true ∧ s.linkUp = true ∧ calm s = true) :=
  ⟨⟨{ narrowed with now := 4000000000 }, 0, by decide +kernel⟩,
   ⟨upcfg, by decide +kernel⟩,
   ⟨upcfg, by decide +kernel⟩⟩

theorem met_EyesAreScanned :
    (∃ (s : State) (req : Requester) (lane : Fin 4),
      s.openFor (regAcc req Reg.HST_EYE_CTL (word (lane.val + 4 + 32 * flag (s.bit Reg.HST_EYE_CTL 5)))) Island.hst = true ∧ s.bit Reg.HST_EYE_CTL 3 = false ∧ s.inL0 = true ∧ s.activeLane lane.val = true ∧ belowCeiling s) ∧
    (∃ (s : State),
      s.bit Reg.HST_EYE_CTL 5 = true ∧ s.bit Reg.HST_EYE_CTL 3 = false ∧ s.inL0 = true ∧ belowCeiling s ∧ s.nrg.ready = [] ∧ s.link.eyeRestart = true ∧ s.activeLane s.link.eyeLane = true ∧ s.link.margining.getLsbD s.link.eyeLane = false ∧ s.fld Reg.NRG_STS 0 3 = 0) ∧
    (∃ (s : State),
      s.bit Reg.HST_EYE_CTL 5 = true ∧ s.bit Reg.HST_EYE_CTL 3 = false ∧ s.inL0 = true ∧ belowCeiling s ∧ s.nrg.ready = [] ∧ s.link.eyeRestart = false ∧ s.link.eyeLastAt + 400000000 ≤ s.now ∧ s.activeLane (s.nextLane s.link.eyeLane) = true) ∧
    (∃ (s : State),
      s.eyeRuns = true ∧ (s.busGrant 10).isSome = true) ∧
    (∃ (s : State) (a : Nat),
      s.link.eyePausedAt = some a ∧ s.lanesAsleep = true ∧ a + 40000000 < s.now ∧ s.bit Reg.HST_EYE_CTL 3 = true) ∧
    (∃ (s : State) (lane : Fin 4) (c : MarginCmd),
      s.inL0 = true ∧ s.linkRate = 3 ∧ s.activeLane lane.val = true ∧ marginOk c = true) :=
  ⟨⟨linked, .monitor, 3, by decide +kernel⟩,
   ⟨autoEye true, by decide +kernel⟩,
   ⟨autoEye false, by decide +kernel⟩,
   ⟨scanning, by decide +kernel⟩,
   ⟨{ scanning.setBit Reg.HST_LINK_STS 13 true with link := { scanning.link with eyePausedAt := some (scanning.now - 40000001) } }, scanning.now - 40000001, by decide +kernel⟩,
   ⟨scanning, 3, .goToNormal, by decide +kernel⟩⟩

theorem met_TestModeRuns :
    (∃ (s : State) (req : Requester),
      s.openFor (regAcc req Reg.HST_PHY_CTL (withField (s.rd Reg.HST_PHY_CTL) 6 1 1)) Island.hst = true ∧ s.rd Reg.HST_PHY_CTL &&& (rowOf Reg.HST_PHY_CTL).reservedBits = 0 ∧ s.bit Reg.HST_PHY_CTL 5 = false ∧ s.bit Reg.HST_PHY_CTL 6 = false ∧ s.nrg.deferred = []) ∧
    (∃ (s : State) (req : Requester),
      s.openFor (regAcc req Reg.HST_PHY_CTL (withField (s.rd Reg.HST_PHY_CTL) 6 1 1)) Island.hst = true ∧ s.rd Reg.HST_PHY_CTL &&& (rowOf Reg.HST_PHY_CTL).reservedBits = 0 ∧ s.bit Reg.HST_PHY_CTL 5 = false ∧ s.bit Reg.HST_PHY_CTL 6 = false ∧ s.nrg.deferred = []) ∧
    (∃ (s : State) (req : Requester),
      s.openFor (regAcc req Reg.HST_PHY_CTL (withField (s.rd Reg.HST_PHY_CTL) 6 1 0)) Island.hst = true ∧ s.rd Reg.HST_PHY_CTL &&& (rowOf Reg.HST_PHY_CTL).reservedBits = 0 ∧ s.bit Reg.HST_PHY_CTL 6 = true) ∧
    (∃ (s : State) (lane : Fin 4),
      s.link.prbsRuns = true ∧ s.bit Reg.HST_PRBS_CTL lane.val = true) ∧
    (∃ (s : State) (req : Requester),
      s.openFor (regAcc req Reg.HST_PRBS_CTL (withField (s.rd Reg.HST_PRBS_CTL) 10 1 1)) Island.hst = true ∧ s.rd Reg.HST_PRBS_CTL &&& (rowOf Reg.HST_PRBS_CTL).reservedBits = 0) :=
  ⟨⟨linked, .monitor, by decide +kernel⟩,
   ⟨linked, .host, by decide +kernel⟩,
   ⟨linked.setBit Reg.HST_PHY_CTL 6 true, .monitor, by decide +kernel⟩,
   ⟨{ linked.wr Reg.HST_PRBS_CTL 15 with link := { linked.link with prbsRuns := true } }, 3, by decide +kernel⟩,
   ⟨linked, .monitor, by decide +kernel⟩⟩

theorem met_LinkSleepsAndWakes :
    (∃ (s : State),
      s.inL0 = true ∧ s.isOn Island.hst = true ∧ s.aspmL0s = true ∧ (s.bit Reg.HST_LINK_STS 13 = true ∨ s.txWork = true)) ∧
    (∃ (s : State) (a : Nat),
      s.inL0 = true ∧ s.isOn Island.hst = true ∧ s.aspmL0s = true ∧ s.bit Reg.HST_LINK_STS 13 = false ∧ s.txWork = false ∧ s.link.quietAt = some a ∧ a + 400 * max 1 (s.fld Reg.HST_L0S_IDLE 0 3) ≤ s.now ∧ s.link.sentAt + 400 * max 1 (s.fld Reg.HST_L0S_IDLE 0 3) ≤ s.now) ∧
    (∃ (s : State),
      s.inL0 = true ∧ s.isOn Island.hst = true ∧ s.txWork = false ∧ (s.txn.d3hot = true ∨ s.aspmL1 = true ∧ ∃ a, s.link.quietAt = some a ∧ a + 400 * BitVec.toNat (s.rd Reg.HST_L1_IDLE) ≤ s.now)) ∧
    (∃ (s : State),
      s.inL0 = true ∧ s.isOn Island.hst = true ∧ s.txWork = false ∧ (s.txn.d3hot = true ∨ s.aspmL1 = true ∧ ∃ a, s.link.quietAt = some a ∧ a + 400 * BitVec.toNat (s.rd Reg.HST_L1_IDLE) ≤ s.now)) ∧
    (∃ (s : State),
      s.ltssm = 5 ∧ s.bit Reg.HST_LINK_STS 15 = true) ∧
    (∃ (s : State),
      s.ltssm = 5 ∧ s.bit Reg.HST_LINK_STS 15 = false) ∧
    (∃ (s : State),
      s.inL0 = true) ∧
    (∃ (s : State),
      s.ltrEn = true ∧ s.canSend = true ∧ s.bit Reg.HST_LTR_CTL 0 = true ∧ s.link.ltrAt = none) ∧
    (∃ (s : State) (a : Nat),
      s.ltrEn = true ∧ s.canSend = true ∧ s.bit Reg.HST_LTR_CTL 0 = true ∧ s.link.ltrAt = some a ∧ a + 400000 ≤ s.now ∧ s.link.ltrLast < 4 * (s.ltrValue - s.link.ltrLast)) ∧
    (∃ (s : State) (req : Requester),
      s.ltrEn = true ∧ s.canSend = true ∧ s.bit Reg.HST_LTR_CTL 0 = false ∧ s.rd Reg.HST_LTR_CTL &&& (rowOf Reg.HST_LTR_CTL).reservedBits = 0 ∧ s.openFor (regAcc req Reg.HST_LTR_CTL (withField (s.rd Reg.HST_LTR_CTL) 1 1 1)) Island.hst = true) ∧
    (∃ (s : State) (req : Requester),
      s.ltrEn = true ∧ s.linkUp = true ∧ s.canSend = false ∧ s.bit Reg.HST_LTR_CTL 0 = false ∧ s.rd Reg.HST_LTR_CTL &&& (rowOf Reg.HST_LTR_CTL).reservedBits = 0 ∧ s.openFor (regAcc req Reg.HST_LTR_CTL (withField (s.rd Reg.HST_LTR_CTL) 1 1 1)) Island.hst = true) :=
  ⟨⟨(linked.setCfg 32 1).setBit Reg.HST_LINK_STS 13 true, by decide +kernel⟩,
   ⟨{ linked.setCfg 32 1 with link := { linked.link with quietAt := some 0 } }, 0, by decide +kernel⟩,
   ⟨{ linked with txn := { linked.txn with d3hot := true } }, by decide +kernel, by decide +kernel, by decide +kernel, .inl (by decide +kernel)⟩,
   ⟨{ linked.setCfg 32 2 with link := { linked.link with quietAt := some 0 } }, by decide +kernel, by decide +kernel, by decide +kernel, .inr ⟨by decide +kernel, 0, by decide +kernel⟩⟩,
   ⟨sleepy.setBit Reg.HST_LINK_STS 15 true, by decide +kernel⟩,
   ⟨sleepy, by decide +kernel⟩,
   ⟨linked, by decide +kernel⟩,
   ⟨ltr0.setBit Reg.HST_LTR_CTL 0 true, by decide +kernel⟩,
   ⟨{ ltr0.setBit Reg.HST_LTR_CTL 0 true with link := { linked.link with ltrAt := some (linked.now - 400000) } }, linked.now - 400000, by decide +kernel⟩,
   ⟨ltr0.setBit Reg.HST_LTR_CTL 0 false, .host, by decide +kernel⟩,
   ⟨(ltr0.setBit Reg.HST_LTR_CTL 0 false).setFld Reg.HST_LINK_STS 0 3 5, .host, by decide +kernel⟩⟩

theorem met_LinkIsLost :
    (∃ (s : State) (c : Instr),
      s.linkUp = true ∧ (c = Instr.surpriseLinkDown ∧ s.boot.perstN = true ∨ ∃ req, c = Instr.redetect req ∧ s.openFor (regAcc req Reg.HST_PHY_CTL (withField (s.rd Reg.HST_PHY_CTL) 5 1 1)) Island.hst = true ∧ s.rd Reg.HST_PHY_CTL &&& (rowOf Reg.HST_PHY_CTL).reservedBits = 0 ∧ s.bit Reg.HST_PHY_CTL 6 = false)) ∧
    (∃ (s : State) (c : Instr),
      s.linkUp = true ∧ (c = Instr.surpriseLinkDown ∧ s.boot.perstN = true ∨ ∃ req, c = Instr.redetect req ∧ s.openFor (regAcc req Reg.HST_PHY_CTL (withField (s.rd Reg.HST_PHY_CTL) 5 1 1)) Island.hst = true ∧ s.rd Reg.HST_PHY_CTL &&& (rowOf Reg.HST_PHY_CTL).reservedBits = 0 ∧ s.bit Reg.HST_PHY_CTL 6 = false)) :=
  ⟨⟨linked, .surpriseLinkDown, by decide +kernel, .inl (by decide +kernel)⟩,
   ⟨linked, .redetect .monitor, by decide +kernel, .inr ⟨.monitor, rfl, by decide +kernel⟩⟩⟩

theorem met_FunctionIsConfigured :
    (∃ (s : State),
      s.linkUp = true ∧ s.isOn Island.hst = true ∧ s.nrg.deferred = [] ∧ s.nrg.ready = []) ∧
    (∃ (s : State),
      takesConfig s = true) ∧
    (∃ (s : State),
      takesConfig s = true) ∧
    (∃ (s : State),
      takesConfig s = true ∧ calm s = true) ∧
    (∃ (s : State),
      takesConfig s = true ∧ calm s = true ∧ s.txn.d3hot = true ∧ s.sat.nonPosted = []) ∧
    (∃ (s : State) (a : Bar4Access),
      takesMemory s = true ∧ s.isOn Island.hst = true ∧ bar4Ok a = false ∧ a.write = false) ∧
    (∃ (s : State) (a : Bar4Access),
      takesMemory s = true ∧ s.isOn Island.hst = true ∧ bar4Ok a = false ∧ a.write = true) ∧
    (∃ (s : State) (a : Bar4Access),
      takesMemory s = true ∧ s.isOn Island.hst = true ∧ bar4Ok a = true ∧ a.write = false) ∧
    (∃ (s : State) (a : Bar4Access),
      takesMemory s = true ∧ s.isOn Island.hst = true ∧ bar4Ok a = true ∧ a.write = true ∧ a.poisoned = true) ∧
    (∃ (s : State) (a : Bar4Access),
      takesMemory s = true ∧ s.isOn Island.hst = true ∧ bar4Ok a = true ∧ a.write = true ∧ a.poisoned = false ∧ a.size = 4 ∧ a.offset.toNat < 2048) :=
  ⟨⟨linked, by decide +kernel⟩,
   ⟨linked, by decide +kernel⟩,
   ⟨linked, by decide +kernel⟩,
   ⟨linked.setCfg 1 0, by decide +kernel⟩,
   ⟨{ linked with txn := { linked.txn with d3hot := true } }, by decide +kernel⟩,
   ⟨linked, shortRead, by decide +kernel⟩,
   ⟨linked, { shortRead with write := true, offset := 0xFFC }, by decide +kernel⟩,
   ⟨linked, { tableRead with offset := 0x7F8, size := 8 }, by decide +kernel⟩,
   ⟨linked, { tableRead with write := true, poisoned := true }, by decide +kernel⟩,
   ⟨linked, { tableRead with write := true, data := 0xFFFFFFFE }, by decide +kernel⟩⟩

theorem met_ReadsComeBack :
    (∃ (s : State) (c : Completion),
      s.linkUp = true ∧ s.isOn Island.hst = true ∧ calm s = true ∧ s.tagOf c.tag.toNat = none) ∧
    (∃ (s : State) (c : Completion) (x : Tag),
      s.linkUp = true ∧ s.isOn Island.hst = true ∧ calm s = true ∧ s.tagOf c.tag.toNat = some x ∧ x.sunk = false ∧ c.status = CplStatus.sc ∧ c.last = false) ∧
    (∃ (s : State) (c : Completion) (x : Tag) (q : Nat) (n : Nat),
      s.linkUp = true ∧ s.isOn Island.hst = true ∧ calm s = true ∧ s.tagOf c.tag.toNat = some x ∧ x.sunk = false ∧ c.status = CplStatus.sc ∧ c.last = true ∧ x.who = Consumer.cmdQueue q n ∧ x.poisoned = false ∧ c.poisoned = false ∧ (s.queue q).fetching = true ∧ (s.queue q).state = QState.enabled) ∧
    (∃ (s : State) (c : Completion) (x : Tag),
      s.linkUp = true ∧ s.isOn Island.hst = true ∧ calm s = true ∧ s.tagOf c.tag.toNat = some x ∧ x.sunk = false ∧ c.status ≠ CplStatus.sc) ∧
    (∃ (s : State) (tag : BitVec 10) (x : Tag),
      s.tagOf tag.toNat = some x ∧ s.ctoDisable = false ∧ x.issuedAt + s.ctoTicks ≤ s.now) ∧
    (∃ (s : State),
      calm s = true) :=
  ⟨⟨fetching, { tag := 6, status := .sc, data := [] }, by decide +kernel⟩,
   ⟨fetching, { tag := 5, status := .sc, data := [1], last := false }, tagged, by decide +kernel⟩,
   ⟨fetching, { tag := 5, status := .sc, data := List.replicate 16 1 }, tagged, 9, 1, by decide +kernel⟩,
   ⟨fetching, { tag := 5, status := .ca, data := [] }, tagged, by decide +kernel⟩,
   ⟨{ fetching with now := 900000000 + fetching.ctoTicks }, 5, tagged, by decide +kernel⟩,
   ⟨fetching, by decide +kernel⟩⟩

theorem met_TranslationsComeAndGo :
    (∃ (s : State) (tag : BitVec 10) (x : Tag) (q : Nat) (page : BitVec 52),
      s.linkUp = true ∧ s.isOn Island.hst = true ∧ s.tagOf tag.toNat = some x ∧ x.who = Consumer.ats q page ∧ x.sunk = false ∧ s.atsEn = true) ∧
    (∃ (s : State) (q : Fin 2048) (e : QEntry) (rest : List QEntry),
      s.queWorks = true ∧ (s.queue q.val).state = QState.enabled ∧ (s.queue q.val).staged = e :: rest ∧ s.canSend = true ∧ (s.queue q.val).translated = true ∧ (s.atsEn = false ∨ (q.val, pageOf ((s.queue q.val).addr (s.queue q.val).prod.toNat)) ∈ s.txn.atsBad)) ∧
    (∃ (s : State),
      s.linkUp = true ∧ s.isOn Island.hst = true ∧ s.txn.invals.length < 32) ∧
    (∃ (s : State) (itag : BitVec 5),
      s.canSend = true ∧ { itag := some itag.toNat, waits := [] } ∈ s.txn.invals) ∧
    (∃ (s : State) (req : Requester),
      s.openFor (regAcc req Reg.HST_ATC_CTL 1) Island.hst = true) ∧
    (∃ (s : State),
      takesConfig s = true ∧ s.atsEn = true) :=
  ⟨⟨ats, 5, { tag := 5, who := .ats 9 7, issuedAt := 0 }, 9, 7, by decide +kernel⟩,
   ⟨{ ats.setQueue 9 { state := .enabled, cfg := 0x83, staged := [{ typ := 3, words := [1] }] } with txn := { ats.txn with atsBad := [(9, 0)] } }, 9, { typ := 3, words := [1] }, [], by decide +kernel⟩,
   ⟨ats, by decide +kernel⟩,
   ⟨{ ats with txn := { ats.txn with invals := [{ itag := some 31, waits := [] }] } }, 31, by decide +kernel⟩,
   ⟨ats, .monitor, by decide +kernel⟩,
   ⟨ats, by decide +kernel⟩⟩

theorem met_HostAtomics :
    (∃ (s : State) (a : AtomicReq),
      takesMemory s = true ∧ (windowAt s.image a.offset.toNat 1 = none ∨ ∃ w j, windowAt s.image a.offset.toNat 1 = some (w, j) ∧ atomicMay s a w = false)) ∧
    (∃ (s : State) (a : AtomicReq),
      takesMemory s = true ∧ (windowAt s.image a.offset.toNat 1 = none ∨ ∃ w j, windowAt s.image a.offset.toNat 1 = some (w, j) ∧ atomicMay s a w = false)) ∧
    (∃ (s : State) (a : AtomicReq) (w : SatWindow) (j : Nat),
      takesMemory s = true ∧ windowAt s.image a.offset.toNat 1 = some (w, j) ∧ atomicMay s a w = true ∧ a.poisoned = false ∧ s.satGone = false ∧ s.sat.nonPosted.length < 16) ∧
    (∃ (s : State) (b : BridgeJob) (op : AtomOp) (addr : BitVec 22) (x : Word) (y : Word),
      s.sat.nonPosted = [b] ∧ b.started = false ∧ b.want = HostWant.atomic op addr x y ∧ b.sinceAt + 4000000 ≤ s.now ∧ b.sunk = false ∧ s.boot.flr = false) :=
  ⟨⟨linked, { op := .swap, bar := 2, offset := 0, operand := 1 }, by decide +kernel, .inl (by decide +kernel)⟩,
   ⟨linked, { op := .swap, bar := 1, offset := 0, operand := 1, width := 16 }, by decide +kernel, .inl (by decide +kernel)⟩,
   ⟨atom0, cas0, ((windowAt atom0.image cas0.offset.toNat 1).get (by decide +kernel)).1, 63, by decide +kernel⟩,
   ⟨{ linked with sat := { linked.sat with nonPosted := [lockJob] } }, lockJob, .swap, 5, 1, 0, by decide +kernel⟩⟩

theorem met_SramKeepsItsWords :
    (∃ (s : State) (req : Requester) (w : BitVec 18) (v : Word),
      s.openFor (regAcc req (sramOffset w.toNat) v) Island.mem = true) ∧
    (∃ (s : State) (req : Requester) (w : BitVec 18),
      s.openFor (readAcc req (sramOffset w.toNat)) Island.mem = true) ∧
    (∃ (s : State),
      s.isOn Island.mem = true ∧ s.stopped Island.mem = false ∧ s.stepping Island.mem = false ∧ s.bit Reg.MEM_SCRUB_CTL 0 = true ∧ s.mem.next < 262144 ∧ (s.grantAt (s.mem.next / 32768) 14).isSome = true) ∧
    (∃ (s : State),
      s.isOn Island.mem = true ∧ s.stopped Island.mem = false ∧ s.stepping Island.mem = false ∧ s.bit Reg.MEM_SCRUB_CTL 0 = true ∧ s.mem.next < 262144 ∧ (s.grantAt (s.mem.next / 32768) 14).isSome = true) :=
  ⟨⟨mem, .host, 262143, 5, by decide +kernel⟩,
   ⟨mem, .host, 0, by decide +kernel⟩,
   ⟨mem.wr Reg.MEM_SCRUB_CTL 1, by decide +kernel⟩,
   ⟨{ mem.wr Reg.MEM_SCRUB_CTL 1 with mem := { next := 262143 } }, by decide +kernel⟩⟩

theorem met_ChannelOperations :
    (∃ (s : State) (req : Requester) (code : Nat),
      1 ≤ code ∧ code ≤ 4 ∧ s.openFor (regAcc req Reg.CHN_OP (word code)) Island.que = true ∧ s.que.op ≠ none) ∧
    (∃ (s : State) (req : Requester) (code : Nat),
      1 ≤ code ∧ code ≤ 4 ∧ s.openFor (regAcc req Reg.CHN_OP (word code)) Island.que = true ∧ s.que.op = none ∧ code = 1 ∧ s.boot.flr = true) ∧
    (∃ (s : State) (req : Requester) (code : Nat) (k : Nat),
      1 ≤ code ∧ code ≤ 4 ∧ s.openFor (regAcc req Reg.CHN_OP (word code)) Island.que = true ∧ s.que.op = none ∧ (code = 1 → s.boot.flr = false) ∧ code = 1 ∧ s.createStatus = (0, some k)) ∧
    (∃ (s : State) (req : Requester) (code : Nat) (c : Nat),
      1 ≤ code ∧ code ≤ 4 ∧ s.openFor (regAcc req Reg.CHN_OP (word code)) Island.que = true ∧ s.que.op = none ∧ (code = 1 → s.boot.flr = false) ∧ code = 1 ∧ s.createStatus = (c, none)) ∧
    (∃ (s : State) (req : Requester) (code : Nat),
      1 ≤ code ∧ code ≤ 4 ∧ s.openFor (regAcc req Reg.CHN_OP (word code)) Island.que = true ∧ s.que.op = none ∧ (code = 1 → s.boot.flr = false) ∧ code ≠ 1 ∧ s.slotOf (s.rd Reg.CHN_HANDLE) = none) ∧
    (∃ (s : State) (req : Requester) (code : Nat),
      1 ≤ code ∧ code ≤ 4 ∧ s.openFor (regAcc req Reg.CHN_OP (word code)) Island.que = true ∧ s.que.op = none ∧ (code = 1 → s.boot.flr = false) ∧ code ≠ 1 ∧ s.slotOf (s.rd Reg.CHN_HANDLE) = none) ∧
    (∃ (s : State) (req : Requester) (code : Nat) (k : Nat),
      1 ≤ code ∧ code ≤ 4 ∧ s.openFor (regAcc req Reg.CHN_OP (word code)) Island.que = true ∧ s.que.op = none ∧ (code = 1 → s.boot.flr = false) ∧ s.slotOf (s.rd Reg.CHN_HANDLE) = some k ∧ code = 2) ∧
    (∃ (s : State) (req : Requester) (code : Nat) (k : Nat),
      1 ≤ code ∧ code ≤ 4 ∧ s.openFor (regAcc req Reg.CHN_OP (word code)) Island.que = true ∧ s.que.op = none ∧ (code = 1 → s.boot.flr = false) ∧ s.slotOf (s.rd Reg.CHN_HANDLE) = some k ∧ code = 3 ∧ (s.chn k).state = ChState.quiesced) ∧
    (∃ (s : State) (req : Requester) (code : Nat) (k : Nat),
      1 ≤ code ∧ code ≤ 4 ∧ s.openFor (regAcc req Reg.CHN_OP (word code)) Island.que = true ∧ s.que.op = none ∧ (code = 1 → s.boot.flr = false) ∧ s.slotOf (s.rd Reg.CHN_HANDLE) = some k ∧ code = 3 ∧ (s.chn k).state ≠ ChState.quiesced) ∧
    (∃ (s : State) (req : Requester) (code : Nat) (k : Nat),
      1 ≤ code ∧ code ≤ 4 ∧ s.openFor (regAcc req Reg.CHN_OP (word code)) Island.que = true ∧ s.que.op = none ∧ (code = 1 → s.boot.flr = false) ∧ s.slotOf (s.rd Reg.CHN_HANDLE) = some k ∧ code = 4) :=
  ⟨⟨{ chan5 with que := { chan5.que with op := some { code := 1, handle := 0, params := [] } } }, .host, 4, by decide +kernel⟩,
   ⟨{ chan5 with boot := { chan5.boot with flr := true } }, .monitor, 1, by decide +kernel⟩,
   ⟨forCreate, .host, 1, 0, by decide +kernel⟩,
   ⟨chan5, .host, 1, 2, by decide +kernel⟩,
   ⟨chan5.wr Reg.CHN_HANDLE 0, .host, 2, by decide +kernel⟩,
   ⟨chan5.wr Reg.CHN_HANDLE 0, .host, 4, by decide +kernel⟩,
   ⟨chan5, .host, 2, 5, by decide +kernel⟩,
   ⟨chan5.setChn 5 { chan5.chn 5 with state := .quiesced }, .host, 3, 5, by decide +kernel⟩,
   ⟨chan5, .host, 3, 5, by decide +kernel⟩,
   ⟨chan5, .host, 4, 5, by decide +kernel⟩⟩

theorem met_ChannelEnds :
    (∃ (s : State) (req : Requester) (code : BitVec 3),
      (code = 0 ∨ 4 < code.toNat) ∧ s.que.op = none ∧ s.openFor (regAcc req Reg.CHN_OP (word code.toNat)) Island.que = true) ∧
    (∃ (s : State) (req : Requester) (code : BitVec 3),
      (code = 0 ∨ 4 < code.toNat) ∧ s.que.op = none ∧ s.openFor (regAcc req Reg.CHN_OP (word code.toNat)) Island.que = true) ∧
    (∃ (s : State) (req : Requester) (code : BitVec 3),
      (code = 0 ∨ 4 < code.toNat) ∧ s.que.op = none ∧ s.openFor (regAcc req Reg.CHN_OP (word code.toNat)) Island.que = true) ∧
    (∃ (s : State) (k : Fin 128),
      (s.chn k.val).state = ChState.quiescing ∧ s.unwritten k.val = 0 ∧ s.firesPending k.val = false) :=
  ⟨⟨chan5, .host, 5, by decide +kernel⟩,
   ⟨chan5, .host, 7, by decide +kernel⟩,
   ⟨chan5, .host, 0, by decide +kernel⟩,
   ⟨chan5.setChn 127 { chan5.chn 5 with state := .quiescing }, 127, by decide +kernel⟩⟩

theorem met_QueuesAreCommanded :
    (∃ (u : State) (s : State) (req : Requester) (op : Nat) (q : Fin 2048),
      1 ≤ op ∧ op ≤ 4 ∧ s = u.applyDone MailboxId.queMb ∧ u.openFor (regAcc req Reg.QUE_CMD (word (q.val + op * 2048))) Island.que = true ∧ queueMay (s.queue q.val) op = false) ∧
    (∃ (u : State) (s : State) (req : Requester) (op : Nat) (q : Fin 2048),
      1 ≤ op ∧ op ≤ 4 ∧ s = u.applyDone MailboxId.queMb ∧ u.openFor (regAcc req Reg.QUE_CMD (word (q.val + op * 2048))) Island.que = true ∧ queueMay (s.queue q.val) op = true) ∧
    (∃ (s : State) (q : Fin 2048),
      s.queWorks = true ∧ (s.queue q.val).state = QState.draining) ∧
    (∃ (s : State) (req : Requester) (q : Fin 2048) (v : Word),
      s.openFor (regAcc req (2097152 + 4 * q.val) v) Island.que = true) :=
  ⟨⟨chan5, _, .host, 1, 2, by decide, by decide, rfl, by decide +kernel, by decide +kernel⟩,
   ⟨chan5.setQueue 2047 { cfg := 1, prod := 5, cons := 3 }, _, .host, 3, 2047, by decide, by decide, rfl, by decide +kernel, by decide +kernel⟩,
   ⟨chan5.setQueue 1 { chan5.queue 1 with state := .draining }, 1, by decide +kernel⟩,
   ⟨chan5, .host, 2047, 0x3FFFF, by decide +kernel⟩⟩

theorem met_EntriesMove :
    (∃ (s : State) (q : Fin 2048) (ecc : EntryEcc) (e : QEntry) (rest : List QEntry),
      s.queWorks = true ∧ (s.queue q.val).state = QState.enabled ∧ (s.queue q.val).staged = e :: rest ∧ ecc ≠ EntryEcc.descUE ∧ s.canSend = true ∧ (s.queue q.val).translated = false ∧ (s.grantsAt arbHostTx e.activity 2).isSome = true) ∧
    (∃ (s : State) (q : Fin 2048) (k : Nat),
      s.queWorks = true ∧ (s.queue q.val).state = QState.enabled ∧ (s.queue q.val).typ = 3 ∧ (s.queue q.val).fetching = false ∧ (s.queue q.val).needDoorbell = false ∧ (s.queue q.val).fetched = [] ∧ (s.queue q.val).prod ≠ (s.queue q.val).fetchPos ∧ (s.queue q.val).translated = false ∧ s.canSend = true ∧ s.freeTag = some k ∧ s.enginesBusy = false ∧ (s.grantAt arbHostTx 2).isSome = true) ∧
    (∃ (s : State) (q : Fin 2048),
      s.queWorks = true ∧ (s.queue q.val).state = QState.enabled ∧ (s.queue q.val).typ = 3 ∧ (s.queue q.val).fetching = false ∧ (s.queue q.val).needDoorbell = false ∧ (s.queue q.val).fetched = [] ∧ (s.queue q.val).prod ≠ (s.queue q.val).fetchPos ∧ s.enginesBusy = false) :=
  ⟨⟨chan5.setQueue 1 { chan5.queue 1 with staged := [{ typ := 3, words := [1, 2] }], prod := 17, base := 5 }, 1, .clean, { typ := 3, words := [1, 2] }, [], by decide +kernel⟩,
   ⟨chan5.setQueue 2 { chan5.queue 2 with prod := 5, base := 5 }, 2, 0, by decide +kernel⟩,
   ⟨chan5.setQueue 2 { chan5.queue 2 with prod := 5, base := 5 }, 2, by decide +kernel⟩⟩

theorem met_QueueCommandsRun :
    (∃ (s : State) (q : Fin 2048) (slot : Nat) (op : Nat) (ws : List Word),
      s.cmdHead q.val = CmdHead.cmd slot op ws ∧ (s.chn slot).recq ≠ q.val ∧ op = 1) ∧
    (∃ (s : State) (q : Fin 2048) (slot : Nat) (op : Nat) (ws : List Word),
      s.cmdHead q.val = CmdHead.cmd slot op ws ∧ (s.chn slot).recq ≠ q.val ∧ op = 2) ∧
    (∃ (s : State) (q : Fin 2048) (slot : Nat) (op : Nat) (ws : List Word),
      s.cmdHead q.val = CmdHead.cmd slot op ws ∧ (s.chn slot).recq ≠ q.val ∧ op = 3 ∧ BitVec.toNat (wordAt ws 0) < 64 ∧ (s.lock (BitVec.toNat (wordAt ws 0))).owner = none ∧ (∀ (w : Nat × Nat × Nat), w ∈ s.que.lockWait → w.fst ≠ BitVec.toNat (wordAt ws 0))) ∧
    (∃ (s : State) (q : Fin 2048) (slot : Nat) (op : Nat) (ws : List Word),
      s.cmdHead q.val = CmdHead.cmd slot op ws ∧ (s.chn slot).recq ≠ q.val ∧ op = 3 ∧ BitVec.toNat (wordAt ws 0) < 64 ∧ (s.lock (BitVec.toNat (wordAt ws 0))).owner ≠ none) ∧
    (∃ (s : State) (q : Fin 2048) (slot : Nat) (op : Nat) (ws : List Word),
      s.cmdHead q.val = CmdHead.cmd slot op ws ∧ (s.chn slot).recq ≠ q.val ∧ op = 4) ∧
    (∃ (s : State) (q : Fin 2048) (n : Nat) (slot : Nat),
      s.que.lockWait = [(n, slot, q.val)] ∧ s.queWorks = true ∧ (s.queue q.val).state = QState.enabled ∧ (s.lock n).owner = none ∧ (s.chn slot).recq ≠ q.val) ∧
    (∃ (s : State) (q : Fin 2048),
      (s.cmdHead q.val = CmdHead.stale ∨ s.cmdHead q.val = CmdHead.unknown)) ∧
    (∃ (s : State) (q : Fin 2048),
      (s.cmdHead q.val = CmdHead.stale ∨ s.cmdHead q.val = CmdHead.unknown)) :=
  ⟨⟨cmdIn [1, 8, 9], 2, 5, 1, [8, 9], by decide +kernel⟩,
   ⟨cmdIn [2], 2, 5, 2, [], by decide +kernel⟩,
   ⟨cmdIn [3, 63], 2, 5, 3, [63], by decide +kernel⟩,
   ⟨(cmdIn [3, 63]).setLock 63 { owner := some (.req .host) }, 2, 5, 3, [63], by decide +kernel⟩,
   ⟨cmdIn [4, 7], 2, 5, 4, [7], by decide +kernel⟩,
   ⟨{ cmdIn [3, 9] with que := { (cmdIn [3, 9]).que with lockWait := [(9, 5, 2)] } }, 2, 9, 5, by decide +kernel⟩,
   ⟨cmdIn [9], 2, by decide +kernel⟩,
   ⟨(cmdIn [1]).setChn 5 { chan5.chn 5 with gen := 3 }, 2, by decide +kernel⟩⟩

theorem met_EventsReachTheirVectors :
    (∃ (s : State) (v : Fin 128) (a : Nat),
      (s.vec v.val).firstAt = some a ∧ s.isOn Island.que = true ∧ s.vecTimer v.val ≠ 0 ∧ a + s.vecTimer v.val ≤ s.now) ∧
    (∃ (s : State) (req : Requester) (k : Fin 32) (v : Word),
      s.openFor (regAcc req (Reg.EVT_MASK k.val) v) Island.que = true) ∧
    (∃ (s : State) (req : Requester) (src : Fin 576) (v : Word),
      s.openFor (regAcc req (Reg.EVT_ROUTE src.val) v) Island.que = true ∧ BitVec.toNat v < 256) :=
  ⟨⟨{ (msix.setVec 127 { signals := 1, firstAt := some 0 }).wr (Reg.EVT_VEC 127) 256 with now := 4000 }, 127, 0, by decide +kernel⟩,
   ⟨chan5, .host, 31, 0x3FFFF, by decide +kernel⟩,
   ⟨chan5, .host, 575, 255, by decide +kernel⟩⟩

theorem met_HardwareLocks :
    (∃ (s : State) (req : Requester) (n : Fin 64),
      s.openFor (readAcc req (lckOfs n)) Island.pln = true) ∧
    (∃ (s : State) (req : Requester) (n : Fin 64),
      s.openFor (regAcc req (lckOfs n) 1) Island.pln = true) ∧
    (∃ (s : State) (req : Requester) (n : Fin 64),
      s.openFor (regAcc req (lckOfs n) 2) Island.pln = true) :=
  ⟨⟨chan5, .host, 63, by decide +kernel⟩,
   ⟨chan5, .monitor, 7, by decide +kernel⟩,
   ⟨chan5, .monitor, 7, by decide +kernel⟩⟩

theorem met_OwedThenOldestWins :
    ∃ (s : State) (n : Nat) (reqs : List (Nat × Nat)) (k : Nat),
      (s.arbitrate n reqs false).fst = some k :=
  ⟨base, 8, [(2, 7), (3, 7), (0, 5)], 0, by decide +kernel⟩

theorem met_BudgetsAndEnergyAreBooked :
    (∃ (s : State) (clamp : Nat),
      s.stopped Island.pln = false ∧ s.boot.inPor = false ∧ s.busWait = [] ∧ s.nrg.deferred = [] ∧ calm s = true ∧ s.ring.txWait = [] ∧ s.ring.serving = none ∧ s.ring.fetch = none ∧ s.cadenceEnds = some clamp) ∧
    (∃ (s : State),
      s.cadenceEnds = none) ∧
    (∃ (s : State) (arb : ArbiterId) (r : ArbRequest) (b : Nat) (hold : ArbHold),
      (hold = ArbHold.transfer ∧ (arbRow arb.idx = 0 ∨ arbRow arb.idx = 1) ∨ hold = ArbHold.handed ∧ arbRow arb.idx = 0) ∧ actClass r.activity.val = ActClass.lineCritical ∧ mayWin s arb.idx r.activity.val = true ∧ (s.arb arb.idx).parked = some b ∧ b < 16 ∧ (actClass b = ActClass.bulk ∨ actClass b = ActClass.background) ∧ Tab.get 0 (s.arb arb.idx).revoked b < 3) ∧
    (∃ (s : State) (arb : ArbiterId) (r : ArbRequest) (b : Nat) (hold : ArbHold),
      (hold = ArbHold.transfer ∧ (arbRow arb.idx = 0 ∨ arbRow arb.idx = 1) ∨ hold = ArbHold.handed ∧ arbRow arb.idx = 0) ∧ actClass r.activity.val = ActClass.lineCritical ∧ mayWin s arb.idx r.activity.val = true ∧ (s.arb arb.idx).parked = some b ∧ b < 16 ∧ (actClass b = ActClass.bulk ∨ actClass b = ActClass.background) ∧ Tab.get 0 (s.arb arb.idx).revoked b < 3) ∧
    (∃ (s : State) (i : Island) (nj : Nat),
      s.stopped Island.pln = false ∧ s.boot.inPor = false ∧ i ≠ Island.pln ∧ s.isOn i = true ∧ (s.busGrant 12).isSome = true ∧ 0 < nj) ∧
    (∃ (s : State) (req : Requester) (v : Word),
      s.openFor (regAcc req Reg.NRG_CEIL_DRV v) Island.pln = true ∧ BitVec.toNat v < 2 ^ 14 ∧ s.bit Reg.NRG_CTL 0 = false ∧ s.nrg.deferred = []) :=
  ⟨⟨base, 0, by decide +kernel⟩,
   ⟨{ base with nrg := { base.nrg with cadStartAt := 999999999 } }, by decide +kernel⟩,
   ⟨base.setArb 8 { parked := some 4, grants := [(4, 9)] }, .hostTx, { activity := 0, age := 3 }, 4, .transfer, by decide +kernel⟩,
   ⟨base.setArb 0 { parked := some 4 }, .mem 0, { activity := 0, age := 3 }, 4, .handed, by decide +kernel⟩,
   ⟨linked, .hst, 1500, by decide +kernel⟩,
   ⟨linked, .host, 2 ^ 14 - 1, by decide +kernel⟩⟩

/-! ### Encoders and position -/

/-- ENC0 RS422 with Z, PEN and a declared direction; ENC1 HTL; LEV3 used; head port 4 DIRECT from LEV3. VE0 from ENC0, VE1 from SE2, VE2 from LEV3, VE3 from ENC0 filtered. -/
def motImg : List (Nat × List Nat) :=
  [(1, [4, 4096, 0x1D, 8, 4097, 2, 8, 8192 + 3, 1, 10, 4, 2, 3]),
   (3, [1, 3, 2, 0, 4 + 2 * 8, 1, 1, 0, 3 + 3 * 8, 1, 1, 0, 1, 1, 1, 5])]
def mot0 : State := withImg (withOn linked [.que, .mot, .tqa]) motImg
def mot1 : State := (mot0.wr (Reg.ENC_CTL 0) 3).wr (Reg.ENC_CTL 1) 1
def inp (st : Option Bool) (l : Option Nat) : EncIn := { state := st, lastSt := l }
theorem test_10a :
  mot1.encFn 0 = 0x1D ∧ mot1.receives 0 .a = true ∧ mot1.receives 0 .z = true ∧ mot1.receives 1 .a = true ∧ mot1.encQ 0 = 512 ∧
  after (.encInputQualified 0 .a true 512) mot1 (fun t => (t.enc 0).a.state == some true && !t.bit (Reg.ENC_EVT 0) 0) ∧
  after (.encInputQualified 0 .a true 512) (mot1.setEnc 0 { b := inp (some false) none }) (fun t => t.bit (Reg.ENC_EVT 0) 0 && (t.enc 0).count == 0) ∧
  (let s := mot1.setEnc 0 { a := inp (some false) none, b := inp (some false) none }
   after (.encInputQualified 0 .a true 512) s (fun t => (t.enc 0).count == 1 && (t.ve 0).pos == 96 && (t.ve 3).held.length == 1 && (t.enc 0).contrary == 0 && t.rd (Reg.ENC_EVT 0) == 0) ∧
   after (.encInputQualified 0 .b true 512) s (fun t => (t.enc 0).count == -1 && (t.ve 0).pos == -96 && (t.enc 0).contrary == 1)) ∧
  (let s := mot1.setEnc 0 { a := inp (some false) none, b := inp (some false) (some (64 * base.now - 1000)) }
   after (.encInputQualified 0 .a true 512) s (fun t => (t.enc 0).count == 0 && t.rd (Reg.ENC_ILL_CNT 0) == 1) ∧
   after (.encInputQualified 0 .a true 488) s (fun t => (t.enc 0).a.state == some false) ∧
   after (.encInputQualified 0 .a true 1513) s (fun t => (t.enc 0).count == 1)) ∧
  (let s := (mot1.setEnc 0 { a := inp (some false) none, b := inp (some false) none }).setVe 0 { started := true, pos := 10, est := { p := 10, s := 1 / 1000, atSt := 64 * base.now - 100000, corrSt := 64 * base.now - 100000 } }
   after (.encInputQualified 0 .b true 512) s (fun t => (t.ve 0).reversals == 1 && (t.ve 0).est.s == 0 && (t.ve 0).pos == -86) ∧
   after (.encInputQualified 0 .a true 512) s (fun t => (t.ve 0).reversals == 0 && (t.ve 0).pos == 106 &&
     decide ((t.ve 0).est.p = (10 + (99488:Rat)/1000) + 3/4 * (106 - (10 + (99488:Rat)/1000))))) := by decide +kernel

theorem test_10b :
  after (.encBandTimeout 0 .a true) mot1 (fun t => (t.enc 0).a.probing == some true) ∧
  after (.encBandTimeout 1 .a true) mot1 (fun t => (t.enc 1).a.cond == 1 && t.bit (Reg.ENC_EVT 1) 1) ∧
  (let s := mot1.setEnc 0 { a := { probing := some true } }
   after (.encProbeDone 0 .a true) s (fun t => (t.enc 0).a.cond == 1 && t.bit (Reg.ENC_EVT 0) 1 && (t.enc 0).a.probing == none) ∧
   after (.encProbeDone 0 .a false) s (fun t => (t.enc 0).a.cond == 2 && t.bit (Reg.ENC_EVT 0) 2)) ∧
  after (.encShortcm 0 .z true) mot1 (fun t => (t.enc 0).z.cond == 3 && t.bit (Reg.ENC_EVT 0) 3) ∧
  after (.encShortcm 0 .z false) (mot1.setEnc 0 { z := { cm := true } }) (fun t => (t.enc 0).z.cond == 0) ∧
  mot1.encPenOn 0 = true ∧
  after (.encSupplyflt 0) mot1 (fun t => !t.encPenOn 0 && t.bit (Reg.ENC_EVT 0) 7 && t.rd (Reg.ENC_CTL 0) == 1 && (t.enc 0).flt) ∧
  after (.encSupplyFaultEnd 0) (mot1.setEnc 0 { flt := true }) (fun t => !(t.enc 0).flt) ∧
  mot1.openFor (regAcc .host (Reg.ENC_CTL 0) (withField (mot1.rd (Reg.ENC_CTL 0)) 3 1 1)) .mot = true ∧
  after (.encClrcnt .host 0) (mot1.setEnc 0 { count := 5, a := inp (some true) none }) (fun t => (t.enc 0).count == 0 && (t.enc 0).a.state == some true && t.rd (Reg.ENC_CTL 0) == 3) ∧
  (let s := ((mot1.setEnc 0 { a := inp (some false) none, b := inp (some false) none, z := inp (some false) none }).wr (Reg.VE_REF 0) 1).wr (Reg.VE_REF 3) 3
   let s := (s.setVe 0 { pos := 640, est := { p := 640 } }).setVe 3 { preset := 7 }
   s.encCounting 0 = true ∧
   after (.encInputQualified 0 .z true 512) s (fun t => t.bit (Reg.ENC_EVT 0) 8 && (t.ve 0).refP == 640 && (t.ve 0).pos == 640 && (t.ve 0).refT == s.devAtSt (s.nowSt - 512) &&
     t.vePos 3 s.nowSt == 7 && (t.ve 3).refDone) ∧
   after (.encInputQualified 0 .z false 512) (s.setEnc 0 { s.enc 0 with z := inp (some true) none }) (fun t => !t.bit (Reg.ENC_EVT 0) 8)) := by decide +kernel

theorem test_10c :
  (pinOf mot1.image 2 3).1 = 1 ∧
  after (.levStateChange 3 true) mot1 (fun t => (t.lev 3).state == some true && t.rd (Reg.ENC_EVT 1) == 0) ∧
  (let s := (mot1.setLev 3 { state := some false }).wr (Reg.LEV_CTL 3) 1
   after (.levStateChange 3 true) s (fun t => t.bit (Reg.ENC_EVT 1) 11 && (t.lev 3).capT == s.devTime && (t.ve 2).pos == 64)) ∧
  (let s := (mot1.setLev 3 { state := some false }).wr (Reg.LEV_CTL 3) 2
   after (.levStateChange 3 true) s (fun t => t.rd (Reg.ENC_EVT 1) == 0 && (t.ve 2).pos == 64)) ∧
  pinOf mot1.image 0 4 = (2, 3) ∧ mot1.drives 4 = true ∧
  after (.directLevChange 3 true) mot1 (fun t => (t.port 4).trg && (t.port 4).stb && (t.port 4).drive == .active && !(t.port 5).trg) := by decide +kernel

/-- VE0 and VE1 move at 1 and 2, and comparator 7 has seen that for 1 ms. -/
def slipSet : State :=
  let s := ((mot1.wr (Reg.SLIP_CFG 7) (word (1 * 32 + 1024))).setVe 0 { est := { s := 1 } }).setVe 1 { est := { s := 2 } }
  { s with mot := { s.mot with slipSince := [(7, (true, mot1.now - 400000))] } }

theorem test_10d :
  (let s := (mot1.wr (Reg.SE_CTL 2) 3).setSe 2 { interval := 100, due := some mot1.nowSt }
   after (.seStep 2) s (fun t => (t.se 2).count == -1 && (t.se 2).due == some (s.nowSt + 640) && (t.ve 1).pos == -64)) ∧
  (let s := mot1.setVe 3 { held := [{ up := true, st := 64 * base.now - 640, atSt := 64 * base.now - 320 }] }
   after (.sprueFilterRelease 3) s (fun t => (t.ve 3).held == [] && (t.ve 3).pos == 64 && (t.ve 3).est.atSt == 64 * base.now - 640)) ∧
  (let s := (mot1.wr (Reg.VE_STILL 0) 1).setVe 0 { started := true, lastSt := some (64 * base.now - 25600000), pos := 5, est := { p := 5, s := 1/2, atSt := 64 * base.now - 25600000 } }
   after (.veStillTimeout 0) s (fun t => (t.ve 0).still && decide ((t.ve 0).est.s = 0) && t.vePos 0 s.nowSt == 12800005)) ∧
  mot1.openFor (regAcc .host (Reg.VE_CTL 0) (withField (mot1.rd (Reg.VE_CTL 0)) 3 1 1)) .mot = true ∧
  after (.veResync .host 0) (mot1.setVe 0 { est := { s := 3 } }) (fun t => decide ((t.ve 0).est.s = 0)) ∧
  (let s := mot1.setChn 5 { state := .live, ve := 0, ports := 1, recq := 1, cmdq := 2 }
   s.quadsOf 0 = [0] ∧ s.hsRoom (.motTq 0) = true ∧ after (.estimateSend 0) s (fun t => (t.hs (.motTq 0)).inFlight.length == 1)) ∧
  slipSet.slips 7 = true ∧ after (.slipDetected 7) slipSet (fun t => t.mot.slipping == 128 && t.bit (Reg.ENC_EVT 7) 9) ∧
  after (.slipDetected 7) { slipSet with now := mot1.now - 1 } (fun t => t.mot.slipping == 0) ∧
  mot1.slips 7 = false ∧ after (.slipCleared 7) { mot1 with mot := { mot1.mot with slipping := 0x81 } } (fun t => t.mot.slipping == 1) := by decide +kernel

/-! ### Triggers and heads -/

def trgBase : State :=
  let s := withImg (withOn linked [.que, .mot, .tqa, .tqb]) [(1, [4, 3, 1, 0, 11, 1, 0, 4, 2, 3, 8192 + 3, 1, 10])]
  let s := ((s.setBit (hpCtl 3) 0 true).setQuad 0 { men := true }).setPort 3 { slot := .powered, prs := true, pen := true, pgd := true, drive := .idle }
  let s := s.setChn 5 { state := .live, ve := 0, ports := 8, recq := 1, cmdq := 2, pitch := 640, expo := 64, x0 := 0, strobe := true }
  s.setQueue 2 { cfg := 3 * 16 + 3, state := .enabled }
/-- VE0 at 0 moves at 1/64 unit per 1,000 sub-ticks. -/
def trgRun : State := trgBase.setEst 0 0 { p := 0, s := 1 / 1000, a := 0, atSt := trgBase.nowSt - 638000, corrSt := trgBase.nowSt - 638000 }
def trgHwm : State := trgRun.setPort 3 { trgRun.port 3 with hwm := some 0 }

theorem test_11a :
  trgHwm.binder 3 = some 5 ∧ (trgHwm.portTarget 3 5).1 = 640 ∧
  ((trgHwm.portTarget 3 5).2.crossing false 640 trgHwm.nowSt) = some (trgHwm.nowSt + 2000) ∧
  trgHwm.missReason 3 true 0 (trgHwm.nowSt + 2000) 0 = none ∧
  after (.fireFreeze 3 true) trgHwm (fun t => (t.port 3).hwm == some 640 && (t.port 3).fires.length == 1 && (t.port 3).gap == none &&
    ((t.port 3).fires.map (·.tfSt)) == [trgHwm.nowSt + 2000] && t.rd (Reg.HP_LATE 0 3) == 0) ∧
  after (.fireFreeze 3 true) (trgHwm.wr (Reg.HP_LAT 0 3) 1500) (fun t => ((t.port 3).fires.map (·.tfSt)) == [trgHwm.nowSt + 1024] && t.rd (Reg.HP_LATE 0 3) == 1) ∧
  after (.fireFreeze 3 true) ({ trgHwm with now := trgHwm.now - 40 }) (fun t => t == { trgHwm with now := trgHwm.now - 40 }) ∧
  after (.fireFreeze 3 true) (trgHwm.setPort 3 { trgHwm.port 3 with slot := .present }) (fun t => (t.port 3).hwm == some 640 &&
    (t.port 3).gap == some { reason := 9, count := 1, first := 640, last := 640, began := t.devTime }) ∧
  after (.fireFreeze 3 true) (trgHwm.setPort 3 { trgHwm.port 3 with slot := .present, gap := some { reason := 9, count := 4094, first := 1, last := 2, began := 0 } })
    (fun t => ((t.port 3).gap.map (·.count)) == some 4095) ∧
  after (.fireFreeze 3 true) ((trgHwm.setPort 3 { trgHwm.port 3 with lastFireSt := some trgHwm.nowSt }).wr (Reg.HP_MINFI 0 3) 1) (fun t => t.bit (hpEvt 3) 7) ∧
  after (.fireFreeze 3 true) (trgHwm.setWindow 7 (some { owner := 5, start := 0, stop := 639, mask := 8 })) (fun t => (t.port 3).hwm == some 640 && (t.port 3).fires == [] && (t.port 3).gap == none) ∧
  after (.fireFreeze 3 true) (trgHwm.setWindow 7 (some { owner := 5, start := 0, stop := 640, mask := 8 })) (fun t => (t.port 3).fires.length == 1) ∧
  after (.fireFreeze 3 true) (trgHwm.setEst 0 0 { (trgHwm.est 0 0) with limit := some 600 }) (fun t => (t.port 3).hwm == some 0) ∧
  after (.fireFreeze 3 true) ((trgHwm.setEst 0 0 { (trgHwm.est 0 0) with limit := some 600, noSrc := true }).setPort 3 { trgHwm.port 3 with slot := .present }) (fun t => (t.port 3).hwm == some 640) := by
  decide +kernel

def fireOf (s : State) : Fire := { target := 640, tfSt := s.nowSt, tcSt := s.nowSt, expo := 64, clamped := false, strobe := true, slot := 5 }
def fireIn : State := trgHwm.setPort 3 { trgHwm.port 3 with fires := [fireOf trgHwm] }
theorem test_11b :
  fireIn.drives 3 = true ∧ fireIn.hsRoom (.tqQue 0) = true ∧
  after (.fireEdge 3) fireIn (fun t => (t.port 3).trg && (t.port 3).seq == 1 && (t.hs (.tqQue 0)).inFlight == [.record 1 1 (fireWords fireIn 3 (fireOf trgHwm)) 5 3] && (t.port 3).drive == .active) ∧
  (let s := { fireIn.setPort 3 { fireIn.port 3 with trg := true, fires := [{ fireOf trgHwm with made := true, trgOn := true }] } with now := fireIn.now + 400 }
   after (.triggerEnd 3) s (fun t => !(t.port 3).trg && (t.port 3).drive == .idle)) ∧
  after (.strobeOn 3) fireIn (fun t => (t.port 3).stb) ∧
  (let s := { fireIn.setPort 3 { fireIn.port 3 with stb := true, fires := [{ fireOf trgHwm with made := true, stbOn := true, stbBegun := true }] } with now := fireIn.now + 400 }
   after (.strobeOff 3) s (fun t => !(t.port 3).stb && (t.port 3).fires == [])) ∧
  after (.stbLimCut 3) (fireIn.setPort 3 { fireIn.port 3 with stb := true }) (fun t => !(t.port 3).stb && t.bit (hpEvt 3) 8) ∧
  after (.trgLimCut 3) (fireIn.setPort 3 { fireIn.port 3 with trg := true }) (fun t => !(t.port 3).trg && t.bit (hpEvt 3) 9 && (t.port 3).trgCut) ∧
  after (.strobeSinkFault 3 true) fireIn (fun t => t.bit (hpEvt 3) 8 && (t.port 3).stbFlt) ∧
  (let s := { fireIn.setPort 3 { fireIn.port 3 with awaitAck := true, lastFireSt := some fireIn.nowSt } with now := fireIn.now + 800 }
   after (.noack 3) s (fun t => t.bit (hpEvt 3) 6 && (t.port 3).noack)) := by decide +kernel

/-- VE0 has stood still at 5 for 1 ms, and the channel asks for a frame each millisecond. -/
def stillAt0 : State :=
  (trgHwm.setEst 0 0 { still := true, p := 5, atSt := (trgHwm.now - 400000) * 64, stillSt := (trgHwm.now - 400000) * 64 }).setChn 5
    { trgHwm.chn 5 with standstill := 1, liveAt := trgHwm.now - 400000 }

theorem test_11c :
  (let s := trgHwm.setPort 3 { trgHwm.port 3 with gap := some { reason := 9, count := 4, first := 1, last := 2, began := 0 - 40000000 } }
   after (.gapRunTimeout 3) s (fun t => (t.port 3).gap == none && (t.hs (.tqQue 0)).inFlight.length == 1) ∧
   after (.gapRunTimeout 3) { s with devTime := 0 - 1 } (fun t => (t.port 3).gap.isSome)) ∧
  (let s := stillAt0
   after (.standstillFrame 3 true) { s with now := trgHwm.now - 65 } (fun t => (t.port 3).stillAt == none) ∧
   after (.standstillFrame 3 true) s (fun t => (t.port 3).hwm == some 0 && (t.port 3).fires.length == 1 && ((t.port 3).fires.map (·.target)) == [5] && (t.port 3).stillAt == some s.now) ∧
   after (.standstillFrame 3 true) (s.setPort 3 { s.port 3 with slot := .present }) (fun t => (t.port 3).fires == [] && (t.port 3).gap == none && (t.port 3).stillAt == some s.now)) := by
  decide +kernel

def trgCmd (ws : List Word) : State := trgHwm.setQueue 2 { trgHwm.queue 2 with fetched := [{ typ := 0x20, words := trgHwm.handleOf 5 :: ws }] }
theorem test_11d :
  (trgCmd [0x10, 320]).cmdHead 2 = .cmd 5 0x10 [320] ∧ (trgCmd []).anchor 5 = some 0 ∧
  after (.cmdPitch 2) (trgCmd [0x10, 320]) (fun t => (t.chn 5).pitch == 320 && (t.chn 5).oldGrids.length == 1 && (t.queue 2).fetched == []) ∧
  after (.cmdPitch 2) (trgCmd [0x10, 0]) (fun t => (t.chn 5).pitch == 640 && t.bit Reg.QUE_EVT 5) ∧
  after (.cmdExposure 2) (trgCmd [0x11, 1]) (fun t => (t.chn 5).expo == 64 && t.bit Reg.QUE_EVT 5) ∧
  after (.cmdExposure 2) (trgCmd [0x11, 0]) (fun t => (t.chn 5).expo == 0) ∧
  after (.cmdRephase 2) (trgCmd [0x12, 0, 0, 1]) (fun t => (t.chn 5).x0 == 1 && (t.chn 5).pitch == 640) ∧
  after (.cmdRephase 2) (trgCmd [0x12, 0, 0, 0]) (fun t => t.bit Reg.QUE_EVT 5) ∧
  after (.cmdWindowSet 2) (trgCmd [0x13, 2047, 0, 0, 1, 0, 0, 2, 8, 0]) (fun t => t.window 2047 == some { owner := 5, start := 1, stop := 2, mask := 8 }) ∧
  after (.cmdWindowSet 2) (trgCmd [0x13, 2048, 0, 0, 1, 0, 0, 2, 8, 0]) (fun t => t.bit Reg.QUE_EVT 5) ∧
  after (.cmdWindowSet 2) (trgCmd [0x13, 1, 0, 0, 1, 0, 0, 1, 8, 0]) (fun t => t.bit Reg.QUE_EVT 5) ∧
  after (.cmdWindowSet 2) (trgCmd [0x13, 1, 0, 0, 1, 0, 0, 2, 24, 0]) (fun t => t.bit Reg.QUE_EVT 5) ∧
  after (.cmdWindowClear 2) ((trgCmd [0x14, 1]).setWindow 1 (some { owner := 5, start := 1, stop := 2, mask := 8 })) (fun t => t.window 1 == none) ∧
  after (.cmdWindowClear 2) ((trgCmd [0x14, 1]).setWindow 1 (some { owner := 6, start := 1, stop := 2, mask := 8 })) (fun t => t.bit Reg.QUE_EVT 5) ∧
  after (.cmdBlur 2) (trgCmd [0x15, 9]) (fun t => (t.chn 5).blur == 9) ∧
  after (.cmdTriggerReserved 2) (trgCmd [0x1F]) (fun t => t.bit Reg.QUE_EVT 5 && (t.queue 2).fetched == []) := by decide +kernel

theorem test_11e :
  (let s := trgHwm.setHs (.tqQue 0) { readable := [.words []] }
   after (.quadFault 0 .sramUE) s (fun t => (t.port 3).drive == .hiZ && (t.port 3).lost && !(t.port 3).pen && t.rd (Reg.PLN_QF_LOST 0) == 1 && t.fld (Reg.PLN_QF_STS 0) 2 2 == 1 &&
     t.fld (Reg.PLN_QF_STS 0) 4 4 == 1 && t.fld (Reg.PLN_QF_STS 0) 0 2 == 1 && (t.island .tqa).power == .off && (t.island .tqa).waking) ∧
   after (.quadFault 0 .mismatch) (s.setQuad 0 { men := true, faultAt := some (s.now - 399999999) }) (fun t => t.fld (Reg.PLN_QF_STS 0) 0 2 == 2 && !(t.island .tqa).waking)) ∧
  (let s := trgHwm.wr (Reg.PLN_QF_STS 1) 2
   let s := s.setIsland .tqb { s.island .tqb with power := .off }
   s.openFor (regAcc .host Reg.PLN_QF_CTL 15) .pln = true ∧
   after (.quadRestart .host 15) s (fun t => t.fld (Reg.PLN_QF_STS 1) 0 2 == 1 && (t.island .tqb).waking && t.rd (Reg.PLN_QF_STS 0) == 0)) := by decide +kernel

def prs11 : State := trgHwm.setPort 11 { slot := .empty }
theorem test_11f :
  prs11.headWorks 11 = true ∧ prs11.prsUse 11 = true ∧
  after (.headPresenceTaken 11) prs11 (fun t => (t.port 11).slot == .present && t.bit (hpEvt 11) 0 && !(t.port 11).pen) ∧
  after (.headAbsenceTaken 3) trgHwm (fun t => (t.port 3).slot == .empty && !t.bit (hpCtl 3) 0 && t.bit (hpEvt 3) 1 && t.bit (hpEvt 3) 0) ∧
  (let s := (prs11.setPort 11 { slot := .present, prs := true }).setQuad 1 { men := true }
   s.openFor (regAcc .host (hpCtl 11) (withField (s.rd (hpCtl 11)) 0 1 1)) .tqb = true ∧
   after (.headPwrSet .host 11) s (fun t => (t.port 11).slot == .powering && (t.port 11).penDue && t.bit (hpCtl 11) 0) ∧
   after (.headPwrSet .host 11) (s.setQuad 1 { men := false }) (fun t => (t.port 11).slot == .present && t.bit (hpCtl 11) 0) ∧
   (let u := s.setPort 11 { slot := .powering, prs := true, penDue := true }
    after (.headPenRise 11) u (fun t => (t.port 11).pen && (t.quad 1).lastPenAt == some u.now) ∧
    after (.headPenRise 11) (u.setQuad 1 { men := true, lastPenAt := some (u.now - 1999999) }) (fun t => !(t.port 11).pen)) ∧
   (let u := s.setPort 11 { slot := .powering, prs := true, pen := true, poweringAt := s.now - 40000000 }
    after (.headPowerGood 11) u (fun t => (t.port 11).slot == .powered && t.bit (hpEvt 11) 2) ∧
    after (.headPgdTimeout 11) u (fun t => (t.port 11).slot == .fault && t.bit (hpEvt 11) 3))) ∧
  after (.headPwrSet .host 11) prs11 (fun t => !t.bit (hpCtl 11) 0 && (t.port 11).slot == .empty) ∧
  after (.headPwrClear .host 3) trgHwm (fun t => (t.port 3).slot == .present && !(t.port 3).pen) ∧
  after (.headPowerFault 3) trgHwm (fun t => (t.port 3).slot == .fault && !t.bit (hpCtl 3) 0 && t.bit (hpEvt 3) 3) ∧
  (let s := ((prs11.setPort 11 { slot := .present, prs := true }).setBit (hpCtl 11) 0 true).setPair 1 (some { value := 1, req := .host, openAt := prs11.now })
   s.openFor (regAcc .host (pairV 1 + 4) 0x3FFFE) .tqb = true ∧
   after (.masterEnableSet .host 1 0x3FFFE) s (fun t => (t.quad 1).men && (t.port 11).slot == .powering && t.pair 1 == none)) ∧
  (let s := trgHwm.setPair 0 (some { value := 0, req := .host, openAt := prs11.now })
   after (.masterEnableClear .host 0 0x3FFFF) s (fun t => !(t.quad 0).men && (t.port 3).slot == .present && !(t.port 3).pen)) := by decide +kernel

theorem test_11g :
  after (.attentionPress 3) trgHwm (fun t => t.bit (hpEvt 3) 4 && (t.port 3).atnEndAt == none) ∧
  (let s := trgHwm.wr (hpCfg 3) 0x44
   after (.attentionPress 3) s (fun t => (t.port 3).atnEndAt == some (s.now + 2000000000)) ∧
   after (.attentionPress 3) (s.setPort 3 { s.port 3 with atnEndAt := some (s.now + 1) }) (fun t => (t.port 3).atnEndAt == none)) ∧
  (let s := trgHwm.setPort 3 { trgHwm.port 3 with atnEndAt := some trgHwm.now }
   after (.attentionSequenceEnd 3) s (fun t => t.bit (hpEvt 3) 5 && t.bit (hpCtl 3) 0 && (t.port 3).slot == .powered) ∧
   after (.attentionSequenceEnd 3) (s.setChn 5 {}) (fun t => !t.bit (hpCtl 3) 0 && (t.port 3).slot == .present) ∧
   after (.attentionSequenceEnd 3) ((s.setChn 5 {}).wr (hpCtl 3) 0) (fun t => t.bit (hpCtl 3) 0)) := by decide +kernel

/-! ### Witnesses: encoders and position, triggers and heads -/
def enc2 : State := mot1.setEnc 0 { a := inp (some false) none, b := inp (some false) none, z := inp (some false) none }
def near2 (st : Nat) : State := mot1.setEnc 0 { a := inp (some false) none, b := inp (some false) (some st) }
def prt (s : State) (p : Nat) (f : Port → Port) : State := s.setPort p (f (s.port p))
def gapOf (n : Nat) : GapRun := { reason := 9, count := n, first := 1, last := 2, began := 0 - 40000000 }
def present9 : State := prt trgHwm 3 fun x => { x with slot := .present }
def madeFire (t : Bool) : Fire := { fireOf trgHwm with made := true, trgOn := t, stbOn := !t, stbBegun := true }
def madeIn (t : Bool) : State := { prt fireIn 3 (fun x => { x with trg := t, stb := !t, fires := [madeFire t] }) with now := fireIn.now + 400 }
def tgtEst : Est := (trgHwm.portTarget 3 5).2
def lateTrg : State := { trgHwm with now := trgHwm.now - 40 }
def clampTrg : State := trgHwm.setEst 0 0 { (trgHwm.est 0 0) with limit := some 600, noSrc := false }
def missAt (slot : Slot) : State := trgHwm.setPort 3 { slot := slot }
def windowOf (o : Nat) : Window := { owner := o, start := 0, stop := 639, mask := 8 }
def head11 : State := ((prs11.setPort 11 { slot := .present, prs := true }).setQuad 1 { men := true })
def powering11 (due pen : Bool) (last : Option Nat) : State :=
  (head11.setPort 11 { slot := .powering, prs := true, penDue := due, pen := pen, poweringAt := head11.now - 40000000 }).setQuad 1 { men := true, lastPenAt := last }
def menPair (v : Word) : State := trgHwm.setPair 0 (some { value := v, req := .host, openAt := trgHwm.now - 400000 })
theorem met_EncodersCount :
    (∃ (s : State) (e : Fin 8) (i : EncInput) (high : Bool) (age : Nat),
      i ≠ EncInput.z ∧ s.receives (e.val) i = true ∧ s.encQ e.val ≤ age ∧ age ≤ s.nowSt ∧ ((s.enc e.val).input i).probing = none ∧ ((s.enc e.val).input i).state = some high) ∧
    (∃ (s : State) (e : Fin 8) (i : EncInput) (age : Nat),
      i ≠ EncInput.z ∧ s.receives (e.val) i = true ∧ s.encQ e.val ≤ age ∧ age ≤ s.nowSt ∧ ((s.enc e.val).input i).probing = none ∧ ((s.enc e.val).input i).state = none) ∧
    (∃ (s : State) (e : Fin 8) (i : EncInput) (high : Bool) (age : Nat) (o : Bool),
      i ≠ EncInput.z ∧ s.receives (e.val) i = true ∧ s.encQ e.val ≤ age ∧ age ≤ s.nowSt ∧ ((s.enc e.val).input i).probing = none ∧ ((s.enc e.val).input i).state = some !high ∧ ((s.enc e.val).input (across i)).state = some o ∧ tooNear s (e.val) i (s.nowSt - age)) ∧
    (∃ (s : State) (e : Fin 8) (i : EncInput) (high : Bool) (age : Nat) (o : Bool),
      i ≠ EncInput.z ∧ s.receives (e.val) i = true ∧ s.encQ e.val ≤ age ∧ age ≤ s.nowSt ∧ ((s.enc e.val).input i).probing = none ∧ ((s.enc e.val).input i).state = some !high ∧ ((s.enc e.val).input (across i)).state = some o ∧ ¬tooNear s (e.val) i (s.nowSt - age)) :=
  ⟨⟨enc2, 0, .a, false, 512, by decide +kernel⟩,
   ⟨mot1, 0, .b, 512, by decide +kernel⟩,
   ⟨near2 (64 * base.now - 1024), 0, .a, true, 512, false, by decide +kernel⟩,
   ⟨near2 (64 * base.now - 1025), 0, .a, true, 512, false, by decide +kernel⟩⟩

theorem met_EncoderFaultsAndIndex :
    (∃ (s : State) (e : Fin 8) (i : EncInput),
      s.receives (e.val) i = true ∧ s.encFn e.val % 4 = 1) ∧
    (∃ (s : State) (e : Fin 8) (i : EncInput),
      s.receives (e.val) i = true ∧ s.encFn e.val % 4 = 1) ∧
    (∃ (s : State) (e : Fin 8) (i : EncInput),
      s.receives (e.val) i = true ∧ s.encFn e.val % 4 = 2) ∧
    (∃ (s : State) (e : Fin 8) (i : EncInput) (inside : Bool),
      ((s.enc e.val).input i).probing = some inside) ∧
    (∃ (s : State),
      s.motWorks = true) ∧
    (∃ (s : State) (req : Requester) (e : Fin 8),
      BitVec.toNat (s.rd (Reg.ENC_CTL e.val)) < 8 ∧ s.openFor (regAcc req (Reg.ENC_CTL e.val) (withField (s.rd (Reg.ENC_CTL e.val)) 3 1 1)) Island.mot = true) ∧
    (∃ (s : State) (e : Fin 8) (high : Bool) (age : Nat),
      s.receives (e.val) EncInput.z = true ∧ s.encQ e.val ≤ age ∧ age ≤ s.nowSt ∧ (s.enc e.val).z.probing = none ∧ (s.enc e.val).z.state = some !high ∧ s.encCounting e.val = true ∧ (s.enc e.val).zSteps = none ∧ (s.enc e.val).zReversed = false) :=
  ⟨⟨mot1, 0, .a, by decide +kernel⟩,
   ⟨mot1, 0, .z, by decide +kernel⟩,
   ⟨mot1, 1, .b, by decide +kernel⟩,
   ⟨mot1.setEnc 0 { a := { probing := some true } }, 0, .a, true, by decide +kernel⟩,
   ⟨mot1, by decide +kernel⟩,
   ⟨mot1, .host, 7, by decide +kernel⟩,
   ⟨enc2, 0, true, 512, by decide +kernel⟩⟩

theorem met_LineEvents :
    (∃ (s : State) (n : Fin 16),
      s.motWorks = true ∧ (pinOf s.image 2 n.val).fst = 1 ∧ (s.lev n.val).state = none) ∧
    (∃ (s : State) (n : Fin 16) (high : Bool),
      s.motWorks = true ∧ (pinOf s.image 2 n.val).fst = 1 ∧ (s.lev n.val).state = some !high) :=
  ⟨⟨mot1, 3, by decide +kernel⟩,
   ⟨mot1.setLev 3 { state := some false }, 3, true, by decide +kernel⟩⟩

theorem met_PositionsFollowTheirSources :
    (∃ (s : State) (n : Fin 4) (d : Nat),
      s.motWorks = true ∧ s.bit (Reg.SE_CTL n.val) 0 = true ∧ (s.se n.val).due = some d ∧ d < s.nowSt + 64) ∧
    (∃ (s : State) (v : Fin 32) (h : HeldCount) (rest : List HeldCount),
      s.motWorks = true ∧ (s.ve v.val).held = h :: rest ∧ h.atSt + 64 * (sprueOf s.image v.val).filt ≤ s.nowSt) ∧
    (∃ (s : State) (v : Fin 32),
      s.motWorks = true ∧ (s.ve v.val).still = false ∧ (s.ve v.val).lastSt.getD (64 * s.veStart v.val) + 25600000 * max 1 (s.fld (Reg.VE_STILL v.val) 0 18) ≤ s.nowSt ∧ (sprueOf s.image v.val).kind ∈ [1, 3, 4]) ∧
    (∃ (s : State) (v : Fin 32),
      s.motWorks = true ∧ (s.ve v.val).still = false ∧ (s.ve v.val).lastSt.getD (64 * s.veStart v.val) + 25600000 * max 1 (s.fld (Reg.VE_STILL v.val) 0 18) ≤ s.nowSt ∧ (sprueOf s.image v.val).kind ∈ [1, 3, 4]) ∧
    (∃ (s : State) (req : Requester) (v : Fin 32),
      BitVec.toNat (s.rd (Reg.VE_CTL v.val)) < 8 ∧ s.openFor (regAcc req (Reg.VE_CTL v.val) (withField (s.rd (Reg.VE_CTL v.val)) 3 1 1)) Island.mot = true) ∧
    (∃ (s : State),
      s.motWorks = true) :=
  ⟨⟨(mot1.wr (Reg.SE_CTL 2) 3).setSe 2 { interval := 100, due := some (mot1.nowSt + 63) }, 2, mot1.nowSt + 63, by decide +kernel⟩,
   ⟨mot1.setVe 3 { held := [{ up := true, st := 64 * base.now - 640, atSt := 64 * base.now - 320 }] }, 3, { up := true, st := 64 * base.now - 640, atSt := 64 * base.now - 320 }, [], by decide +kernel⟩,
   ⟨(mot1.wr (Reg.VE_STILL 0) 1).setVe 0 { started := true, lastSt := some (64 * base.now - 25600000) }, 0, by decide +kernel⟩,
   ⟨(mot1.wr (Reg.VE_STILL 0) 1).setVe 0 { started := true }, 0, by decide +kernel⟩,
   ⟨mot1, .host, 31, by decide +kernel⟩,
   ⟨mot1, by decide +kernel⟩⟩

theorem met_SlipComparators :
    (∃ (s : State) (k : Fin 8),
      s.motWorks = true ∧ s.slips k.val = true ∧ (s.slipNow k.val).fst = true ∧ (s.slipNow k.val).snd + 400000 * max 1 (s.fld (Reg.SLIP_THR k.val) 10 8) ≤ s.now ∧ s.mot.slipping.getLsbD k.val = false) ∧
    (∃ (s : State) (k : Fin 8),
      s.motWorks = true ∧ s.slips k.val = false ∧ (s.slipNow k.val).fst = false ∧ (s.slipNow k.val).snd + 400000 * max 1 (s.fld (Reg.SLIP_THR k.val) 10 8) ≤ s.now) :=
  ⟨⟨{ slipSet with mot := { slipSet.mot with slipSince := [(7, (true, 0))] } }, 7, by decide +kernel⟩,
   ⟨{ mot1 with mot := { mot1.mot with slipping := 0x80 } }, 7, by decide +kernel⟩⟩

theorem met_FiresAreJudged :
    (∃ (s : State) (p : Fin 32) (slot : Nat) (x : Int) (e : Est) (tf : Nat) (tc : Nat),
      s.quadRuns p.val = true ∧ FireDue s (p.val) slot x e tf tc ∧ s.nowSt + 4096 < tf) ∧
    (∃ (s : State) (p : Fin 32) (slot : Nat) (x : Int) (e : Est) (tf : Nat) (tc : Nat),
      s.quadRuns p.val = true ∧ FireDue s (p.val) slot x e tf tc ∧ e.clampedAt s.nowSt = true ∧ e.noSrc = false) ∧
    (∃ (s : State) (p : Fin 32) (slot : Nat) (x : Int) (e : Est) (tf : Nat) (tc : Nat),
      s.quadRuns p.val = true ∧ FireDue s (p.val) slot x e tf tc ∧ tf ≤ s.nowSt + 4096 ∧ e.clampedAt s.nowSt = false ∧ s.ownsWindow slot = true ∧ s.inWindow slot (p.val) x = false) ∧
    (∃ (s : State) (p : Fin 32) (rdy : Bool) (slot : Nat) (x : Int) (e : Est) (tf : Nat) (tc : Nat),
      s.quadRuns p.val = true ∧ FireDue s (p.val) slot x e tf tc ∧ tf ≤ s.nowSt + 4096 ∧ e.clampedAt s.nowSt = false ∧ (s.ownsWindow slot = true → s.inWindow slot (p.val) x = true) ∧ (s.chn slot).state = ChState.live ∧ s.missReason (p.val) rdy (uNow s slot e) tf (s.chn slot).tol = none) ∧
    (∃ (s : State) (p : Fin 32) (rdy : Bool) (slot : Nat) (x : Int) (e : Est) (tf : Nat) (tc : Nat),
      s.quadRuns p.val = true ∧ FireDue s (p.val) slot x e tf tc ∧ tf ≤ s.nowSt + 4096 ∧ e.clampedAt s.nowSt = false ∧ (s.ownsWindow slot = true → s.inWindow slot (p.val) x = true) ∧ (s.chn slot).state = ChState.live ∧ s.missReason (p.val) rdy (uNow s slot e) tf (s.chn slot).tol = none) ∧
    (∃ (s : State) (p : Fin 32) (rdy : Bool) (slot : Nat) (x : Int) (e : Est) (tf : Nat) (tc : Nat) (r : Nat),
      s.quadRuns p.val = true ∧ FireDue s (p.val) slot x e tf tc ∧ tf ≤ s.nowSt + 4096 ∧ e.clampedAt s.nowSt = false ∧ (s.ownsWindow slot = true → s.inWindow slot (p.val) x = true) ∧ (s.chn slot).state = ChState.live ∧ s.missReason (p.val) rdy (uNow s slot e) tf (s.chn slot).tol = some r ∧ (s.port p.val).gap = none) ∧
    (∃ (s : State) (p : Fin 32) (rdy : Bool) (slot : Nat) (x : Int) (e : Est) (tf : Nat) (tc : Nat) (r : Nat) (g : GapRun),
      s.quadRuns p.val = true ∧ FireDue s (p.val) slot x e tf tc ∧ tf ≤ s.nowSt + 4096 ∧ e.clampedAt s.nowSt = false ∧ (s.ownsWindow slot = true → s.inWindow slot (p.val) x = true) ∧ (s.chn slot).state = ChState.live ∧ s.missReason (p.val) rdy (uNow s slot e) tf (s.chn slot).tol = some r ∧ (s.port p.val).gap = some g ∧ g.reason = r ∧ g.count + 1 < 4096) ∧
    (∃ (s : State) (p : Nat) (rdy : Bool),
      s.groupHeld = false ∧ (s.port p).lost = false ∧ s.maquette = false ∧ (s.port p).removed = true ∧ s.slotReason p rdy ≠ none) ∧
    (∃ (s : State) (p : Nat) (rdy : Bool),
      s.groupHeld = false ∧ (s.port p).lost = false ∧ s.maquette = false ∧ (s.port p).removed = true ∧ s.slotReason p rdy ≠ none) ∧
    (∃ (s : State) (p : Nat),
      s.groupHeld = false ∧ (s.port p).lost = false ∧ s.maquette = false ∧ s.slot p = Slot.empty) ∧
    (∃ (s : State) (p : Nat),
      s.groupHeld = false ∧ (s.port p).lost = false ∧ s.maquette = false ∧ (s.port p).removed = false ∧ s.slot p = Slot.fault) ∧
    (∃ (s : State) (p : Nat) (rdy : Bool),
      s.groupHeld = false ∧ (s.port p).lost = false ∧ s.maquette = false ∧ (s.port p).removed = false ∧ (s.slot p = Slot.present ∨ s.slot p = Slot.powering ∨ s.slot p = Slot.powered ∧ s.fld (hpCfg p) 0 2 = 1 ∧ rdy = false)) ∧
    (∃ (s : State) (p : Nat) (rdy : Bool),
      s.groupHeld = false ∧ (s.port p).lost = false ∧ s.maquette = false ∧ (s.port p).removed = false ∧ (s.slot p = Slot.present ∨ s.slot p = Slot.powering ∨ s.slot p = Slot.powered ∧ s.fld (hpCfg p) 0 2 = 1 ∧ rdy = false)) ∧
    (∃ (s : State) (p : Nat) (rdy : Bool) (u : Nat) (tol : Nat),
      s.groupHeld = false ∧ (s.port p).lost = false ∧ s.maquette = false ∧ (s.port p).removed = false ∧ s.slot p = Slot.powered ∧ (s.fld (hpCfg p) 0 2 ≠ 1 ∨ rdy = true) ∧ tol ≠ 0 ∧ tol < u) ∧
    (∃ (s : State) (p : Nat) (rdy : Bool) (u : Nat) (tf : Nat) (tol : Nat),
      s.groupHeld = false ∧ (s.port p).lost = false ∧ s.maquette = false ∧ (s.port p).removed = false ∧ s.slot p = Slot.powered ∧ (s.fld (hpCfg p) 0 2 ≠ 1 ∨ rdy = true) ∧ (tol = 0 ∨ u ≤ tol) ∧ s.tooSoon p tf = true) ∧
    (∃ (s : State) (p : Nat) (rdy : Bool) (u : Nat) (tf : Nat) (tol : Nat),
      s.groupHeld = false ∧ (s.port p).lost = false ∧ s.maquette = false ∧ (s.port p).removed = false ∧ s.slot p = Slot.powered ∧ (s.fld (hpCfg p) 0 2 ≠ 1 ∨ rdy = true) ∧ (tol = 0 ∨ u ≤ tol) ∧ s.tooSoon p tf = false) :=
  ⟨⟨lateTrg, 3, 5, 640, tgtEst, trgHwm.nowSt + 2000, trgHwm.nowSt + 2000, by decide +kernel⟩,
   ⟨clampTrg, 3, 5, 640, (clampTrg.portTarget 3 5).2, ((clampTrg.portTarget 3 5).2.crossing false 640 trgHwm.nowSt).getD 0, ((clampTrg.portTarget 3 5).2.crossing false 640 trgHwm.nowSt).getD 0, by decide +kernel⟩,
   ⟨trgHwm.setWindow 7 (some (windowOf 5)), 3, 5, 640, tgtEst, trgHwm.nowSt + 2000, trgHwm.nowSt + 2000, by decide +kernel⟩,
   ⟨trgHwm, 3, true, 5, 640, tgtEst, trgHwm.nowSt + 2000, trgHwm.nowSt + 2000, by decide +kernel⟩,
   ⟨trgHwm.setWindow 2047 (some { windowOf 5 with stop := 640 }), 3, true, 5, 640, tgtEst, trgHwm.nowSt + 2000, trgHwm.nowSt + 2000, by decide +kernel⟩,
   ⟨present9, 3, true, 5, 640, tgtEst, trgHwm.nowSt + 2000, trgHwm.nowSt + 2000, 9, by decide +kernel⟩,
   ⟨prt present9 3 (fun x => { x with gap := some (gapOf 4094) }), 3, true, 5, 640, tgtEst, trgHwm.nowSt + 2000, trgHwm.nowSt + 2000, 9, gapOf 4094, by decide +kernel⟩,
   ⟨prt (missAt .empty) 3 (fun x => { x with removed := true }), 3, true, by decide +kernel⟩,
   ⟨prt (missAt .present) 3 (fun x => { x with removed := true }), 3, true, by decide +kernel⟩,
   ⟨missAt .empty, 3, by decide +kernel⟩,
   ⟨missAt .fault, 3, by decide +kernel⟩,
   ⟨missAt .powering, 3, true, by decide +kernel⟩,
   ⟨(missAt .powered).wr (hpCfg 3) 1, 3, false, by decide +kernel⟩,
   ⟨missAt .powered, 3, true, 2, 1, by decide +kernel⟩,
   ⟨(trgHwm.setPort 3 { slot := .powered, lastFireSt := some trgHwm.nowSt }).wr (Reg.HP_MINFI 0 3) 1, 3, true, 1, trgHwm.nowSt, 1, by decide +kernel⟩,
   ⟨missAt .powered, 3, true, 7, 0, 0, by decide +kernel⟩⟩

theorem met_TargetsLieBeyondTheMark :
    ∃ (s : State) (p : Nat) (h : Int),
      (s.port p).hwm = some h :=
  ⟨trgHwm, 3, 0, by decide +kernel⟩

theorem met_FiresLeave :
    (∃ (s : State) (p : Fin 32) (f : Fire),
      s.quadRuns p.val = true ∧ (s.port p.val).frozen = some f ∧ f.tfSt / 64 ≤ s.now) ∧
    (∃ (s : State) (p : Fin 32) (f : Fire) (rest : List Fire),
      s.quadRuns p.val = true ∧ (s.port p.val).fires = f :: rest ∧ f.trgOn = true ∧ f.tfSt + f.width ≤ s.nowSt + 63 ∧ (∀ (g : Fire), g ∈ rest → g.trgOn = false)) ∧
    (∃ (s : State) (p : Fin 32) (f : Fire) (rest : List Fire),
      s.quadRuns p.val = true ∧ (s.port p.val).fires = f :: rest ∧ f.strobe = true ∧ f.stbBegun = false ∧ f.tcSt ≤ s.nowSt + 63 + 64 * f.lead ∧ s.drives p.val = true) ∧
    (∃ (s : State) (p : Fin 32) (f : Fire) (rest : List Fire),
      s.quadRuns p.val = true ∧ (s.port p.val).fires = f :: rest ∧ f.stbOn = true ∧ f.tcSt + 400 * f.expo ≤ s.nowSt + 63 ∧ (∀ (g : Fire), g ∈ rest → g.stbOn = false)) ∧
    (∃ (s : State) (p : Fin 32),
      (s.port p.val).stb = true ∧ (s.port p.val).stbAt + s.stbLimTicks ≤ s.now) ∧
    (∃ (s : State) (p : Fin 32),
      (s.port p.val).trg = true ∧ (s.port p.val).trgAt + s.trgLimTicks ≤ s.now) ∧
    (∃ (s : State) (p : Fin 32),
      s.now < (s.port p.val).stbAt + s.stbLimTicks) ∧
    (∃ (s : State) (p : Fin 32),
      s.now < (s.port p.val).trgAt + s.trgLimTicks) ∧
    (∃ (s : State) (p : Fin 32) (l : Nat),
      s.quadRuns p.val = true ∧ (s.port p.val).awaitAck = true ∧ (s.port p.val).lastFireSt = some l ∧ l + (s.port p.val).ackLat + 51200 ≤ s.nowSt) :=
  ⟨⟨fireIn, 3, fireOf trgHwm, by decide +kernel⟩,
   ⟨madeIn true, 3, madeFire true, [], by decide +kernel⟩,
   ⟨fireIn, 3, fireOf trgHwm, [], by decide +kernel⟩,
   ⟨madeIn false, 3, madeFire false, [], by decide +kernel⟩,
   ⟨prt fireIn 3 (fun x => { x with stb := true, stbAt := 0 }), 3, by decide +kernel⟩,
   ⟨prt fireIn 3 (fun x => { x with trg := true, trgAt := 0 }), 3, by decide +kernel⟩,
   ⟨prt fireIn 3 (fun x => { x with stb := true, stbAt := fireIn.now }), 3, by decide +kernel⟩,
   ⟨prt fireIn 3 (fun x => { x with trg := true, trgAt := fireIn.now }), 3, by decide +kernel⟩,
   ⟨{ prt fireIn 3 (fun x => { x with awaitAck := true, lastFireSt := some fireIn.nowSt }) with now := fireIn.now + 800 }, 3, fireIn.nowSt, by decide +kernel⟩⟩

theorem met_GapsAndStandstillFrames :
    (∃ (s : State) (p : Fin 32) (g : GapRun) (slot : Nat),
      (s.port p.val).gap = some g ∧ s.binder p.val = some slot ∧ s.runWriter p.val = true ∧ 40000000 ≤ BitVec.toNat (s.devTime - g.began)) ∧
    (∃ (s : State) (p : Fin 32) (rdy : Bool) (slot : Nat) (due : Nat),
      s.quadRuns p.val = true ∧ s.isOn (Island.ofQuad (qOf p.val)) = true ∧ s.binder p.val = some slot ∧ (s.chn slot).state = ChState.live ∧ (s.chn slot).standstill ≠ 0 ∧ (s.est (qOf p.val) (s.chn slot).ve).still = true ∧ due = s.stillDue p.val slot ∧ due ≤ s.now + 64 ∧ s.groupHeld = false ∧ s.stepReason p.val rdy 0 (64 * due) 0 = none) ∧
    (∃ (s : State) (p : Fin 32) (rdy : Bool) (slot : Nat) (due : Nat),
      s.quadRuns p.val = true ∧ s.isOn (Island.ofQuad (qOf p.val)) = true ∧ s.binder p.val = some slot ∧ (s.chn slot).state = ChState.live ∧ (s.chn slot).standstill ≠ 0 ∧ (s.est (qOf p.val) (s.chn slot).ve).still = true ∧ due = s.stillDue p.val slot ∧ due ≤ s.now + 64 ∧ s.groupHeld = false ∧ s.stepReason p.val rdy 0 (64 * due) 0 ≠ none) :=
  ⟨⟨prt trgHwm 3 (fun x => { x with gap := some (gapOf 4) }), 3, gapOf 4, 5, by decide +kernel⟩,
   ⟨stillAt0, 3, true, 5, trgHwm.now, by decide +kernel⟩,
   ⟨prt stillAt0 3 (fun x => { x with slot := .present }), 3, true, 5, trgHwm.now, by decide +kernel⟩⟩

theorem met_TriggerCommandsRun :
    (∃ (s : State) (q : Fin 2048) (slot : Nat) (op : Nat) (ws : List Word),
      s.cmdHead q.val = CmdHead.cmd slot op ws ∧ op = 16 ∧ (BitVec.toNat (wordAt ws 0) < pitchMinOf s slot ∨ BitVec.toNat (wordAt ws 0) = 0)) ∧
    (∃ (s : State) (q : Fin 2048) (slot : Nat) (op : Nat) (ws : List Word),
      s.cmdHead q.val = CmdHead.cmd slot op ws ∧ op = 16 ∧ pitchMinOf s slot ≤ BitVec.toNat (wordAt ws 0) ∧ BitVec.toNat (wordAt ws 0) ≠ 0) ∧
    (∃ (s : State) (q : Fin 2048) (slot : Nat) (op : Nat) (ws : List Word),
      s.cmdHead q.val = CmdHead.cmd slot op ws ∧ op = 17 ∧ expMaxOf s slot < BitVec.toNat (wordAt ws 0)) ∧
    (∃ (s : State) (q : Fin 2048) (slot : Nat) (op : Nat) (ws : List Word),
      s.cmdHead q.val = CmdHead.cmd slot op ws ∧ op = 17 ∧ BitVec.toNat (wordAt ws 0) ≤ expMaxOf s slot) ∧
    (∃ (s : State) (q : Fin 2048) (slot : Nat) (op : Nat) (ws : List Word),
      s.cmdHead q.val = CmdHead.cmd slot op ws ∧ op = 18 ∧ (∃ a, s.anchor slot = some a ∧ fwd (s.chn slot).dirDown (posOf ws 0) ≤ a)) ∧
    (∃ (s : State) (q : Fin 2048) (slot : Nat) (op : Nat) (ws : List Word),
      s.cmdHead q.val = CmdHead.cmd slot op ws ∧ op = 18 ∧ (∀ (a : Int), s.anchor slot = some a → a < fwd (s.chn slot).dirDown (posOf ws 0))) ∧
    (∃ (s : State) (q : Fin 2048) (slot : Nat) (op : Nat) (ws : List Word),
      s.cmdHead q.val = CmdHead.cmd slot op ws ∧ op = 19 ∧ (2048 ≤ BitVec.toNat (wordAt ws 0) ∨ foreignWindow s slot (BitVec.toNat (wordAt ws 0)) ∨ posOf ws 4 ≤ posOf ws 1 ∨ maskOf ws &&& ~~~(s.chn slot).ports ≠ 0)) ∧
    (∃ (s : State) (q : Fin 2048) (slot : Nat) (op : Nat) (ws : List Word),
      s.cmdHead q.val = CmdHead.cmd slot op ws ∧ op = 19 ∧ (2048 ≤ BitVec.toNat (wordAt ws 0) ∨ foreignWindow s slot (BitVec.toNat (wordAt ws 0)) ∨ posOf ws 4 ≤ posOf ws 1 ∨ maskOf ws &&& ~~~(s.chn slot).ports ≠ 0)) ∧
    (∃ (s : State) (q : Fin 2048) (slot : Nat) (op : Nat) (ws : List Word),
      s.cmdHead q.val = CmdHead.cmd slot op ws ∧ op = 19 ∧ BitVec.toNat (wordAt ws 0) < 2048 ∧ ¬foreignWindow s slot (BitVec.toNat (wordAt ws 0)) ∧ posOf ws 1 < posOf ws 4 ∧ maskOf ws &&& ~~~(s.chn slot).ports = 0) ∧
    (∃ (s : State) (q : Fin 2048) (slot : Nat) (op : Nat) (ws : List Word),
      s.cmdHead q.val = CmdHead.cmd slot op ws ∧ op = 20 ∧ (s.window (BitVec.toNat (wordAt ws 0)) = none ∨ foreignWindow s slot (BitVec.toNat (wordAt ws 0)))) ∧
    (∃ (s : State) (q : Fin 2048) (slot : Nat) (op : Nat) (ws : List Word),
      s.cmdHead q.val = CmdHead.cmd slot op ws ∧ op = 20 ∧ (s.window (BitVec.toNat (wordAt ws 0)) = none ∨ foreignWindow s slot (BitVec.toNat (wordAt ws 0)))) ∧
    (∃ (s : State) (q : Fin 2048) (slot : Nat) (op : Nat) (ws : List Word) (w : Window),
      s.cmdHead q.val = CmdHead.cmd slot op ws ∧ op = 20 ∧ s.window (BitVec.toNat (wordAt ws 0)) = some w ∧ w.owner = slot) ∧
    (∃ (s : State) (q : Fin 2048) (slot : Nat) (op : Nat) (ws : List Word),
      s.cmdHead q.val = CmdHead.cmd slot op ws ∧ op = 21) ∧
    (∃ (s : State) (q : Fin 2048) (slot : Nat) (op : Nat) (ws : List Word),
      s.cmdHead q.val = CmdHead.cmd slot op ws ∧ 22 ≤ op) ∧
    (∃ (s : State) (q : Fin 2048) (slot : Nat) (op : Nat) (ws : List Word),
      s.cmdHead q.val = CmdHead.cmd slot op ws ∧ 22 ≤ op) :=
  ⟨⟨trgCmd [0x10, 0], 2, 5, 16, [0], by decide +kernel⟩,
   ⟨trgCmd [0x10, 320], 2, 5, 16, [320], by decide +kernel⟩,
   ⟨trgCmd [0x11, 1], 2, 5, 17, [1], by decide +kernel⟩,
   ⟨trgCmd [0x11, 0], 2, 5, 17, [0], by decide +kernel⟩,
   ⟨trgCmd [0x12, 0, 0, 0], 2, 5, 18, [0, 0, 0], by decide +kernel, by decide +kernel, ⟨0, by decide +kernel⟩⟩,
   ⟨trgCmd [0x12, 0, 0, 1], 2, 5, 18, [0, 0, 1], by decide +kernel, by decide +kernel, some_all (b := 0) (by decide +kernel) (by decide +kernel)⟩,
   ⟨trgCmd [0x13, 2048, 0, 0, 1, 0, 0, 2, 8, 0], 2, 5, 19, [2048, 0, 0, 1, 0, 0, 2, 8, 0], by decide +kernel⟩,
   ⟨trgCmd [0x13, 1, 0, 0, 1, 0, 0, 1, 8, 0], 2, 5, 19, [1, 0, 0, 1, 0, 0, 1, 8, 0], by decide +kernel⟩,
   ⟨trgCmd [0x13, 2047, 0, 0, 1, 0, 0, 2, 8, 0], 2, 5, 19, [2047, 0, 0, 1, 0, 0, 2, 8, 0], by decide +kernel⟩,
   ⟨(trgCmd [0x14, 1]).setWindow 1 (some (windowOf 6)), 2, 5, 20, [1], by decide +kernel⟩,
   ⟨trgCmd [0x14, 1], 2, 5, 20, [1], by decide +kernel⟩,
   ⟨(trgCmd [0x14, 1]).setWindow 1 (some (windowOf 5)), 2, 5, 20, [1], windowOf 5, by decide +kernel⟩,
   ⟨trgCmd [0x15, 9], 2, 5, 21, [9], by decide +kernel⟩,
   ⟨trgCmd [0x16], 2, 5, 22, [], by decide +kernel⟩,
   ⟨trgCmd [0x1F], 2, 5, 31, [], by decide +kernel⟩⟩

theorem met_QuadsFaultAndRestart :
    (∃ (s : State) (quad : Fin 4),
      s.isOn (Island.ofQuad quad.val) = true ∧ s.stopped (Island.ofQuad quad.val) = false) ∧
    (∃ (s : State) (req : Requester) (bits : BitVec 4),
      s.openFor (regAcc req Reg.PLN_QF_CTL (word bits.toNat)) Island.pln = true) :=
  ⟨⟨trgHwm, 0, by decide +kernel⟩,
   ⟨trgHwm, .host, 15, by decide +kernel⟩⟩

theorem met_HeadsAreHotPlugSlots :
    (∃ (s : State) (p : Fin 32),
      s.headWorks p.val = true ∧ (s.port p.val).prs = false) ∧
    (∃ (s : State) (p : Fin 32),
      s.headWorks p.val = true ∧ s.prsUse p.val = true ∧ (s.port p.val).slot ≠ Slot.empty) ∧
    (∃ (s : State) (req : Requester) (p : Fin 32),
      BitVec.toNat (s.rd (hpCtl p.val)) < 8 ∧ s.openFor (regAcc req (hpCtl p.val) (withField (s.rd (hpCtl p.val)) 0 1 1)) (Island.ofQuad (qOf p.val)) = true) ∧
    (∃ (s : State) (req : Requester) (p : Fin 32),
      BitVec.toNat (s.rd (hpCtl p.val)) < 8 ∧ s.openFor (regAcc req (hpCtl p.val) (withField (s.rd (hpCtl p.val)) 0 1 0)) (Island.ofQuad (qOf p.val)) = true ∧ s.bit (hpCtl p.val) 0 = true) ∧
    (∃ (s : State) (p : Fin 32),
      s.headWorks p.val = true ∧ s.drives p.val = true ∧ (s.quad (qOf p.val)).men = true ∧ (s.port p.val).penDue = true ∧ (∀ (i : Nat), i < iOf p.val → (s.port (8 * qOf p.val + i)).penDue = false) ∧ (∀ (a : Nat), (s.quad (qOf p.val)).lastPenAt = some a → a + 2000000 ≤ s.now)) ∧
    (∃ (s : State) (p : Fin 32) (a : Nat),
      s.headWorks p.val = true ∧ (s.quad (qOf p.val)).lastPenAt = some a ∧ s.now < a + 2000000) ∧
    (∃ (s : State) (p : Fin 32),
      s.headWorks p.val = true ∧ (s.port p.val).slot = Slot.powering ∧ (s.port p.val).pen = true) ∧
    (∃ (s : State) (p : Fin 32),
      s.headWorks p.val = true ∧ (s.port p.val).slot = Slot.powering ∧ (s.port p.val).pen = true ∧ (s.port p.val).poweringAt + 400000 * max 1 (s.fld (Reg.TQ_PGDT (qOf p.val)) 0 18) ≤ s.now) ∧
    (∃ (s : State) (p : Fin 32),
      s.headWorks p.val = true ∧ (s.port p.val).slot = Slot.powered) ∧
    (∃ (s : State) (req : Requester) (q : Fin 4) (v : Word) (c : Word),
      s.openFor (regAcc req (pairV q.val + 4) c) (Island.ofQuad q.val) = true ∧ pairReady s req q v ∧ c = ~~~v ∧ v = 1) ∧
    (∃ (s : State) (req : Requester) (q : Fin 4) (v : Word) (c : Word),
      s.openFor (regAcc req (pairV q.val + 4) c) (Island.ofQuad q.val) = true ∧ pairReady s req q v ∧ c = ~~~v ∧ v = 0) :=
  ⟨⟨prs11, 11, by decide +kernel⟩,
   ⟨(prs11.setPort 11 { slot := .present, prs := true }), 11, by decide +kernel⟩,
   ⟨head11, .host, 11, by decide +kernel⟩,
   ⟨trgHwm, .host, 3, by decide +kernel⟩,
   ⟨powering11 true false (some (head11.now - 2000000)), 11, by decide +kernel, by decide +kernel, by decide +kernel, by decide +kernel, (by decide +kernel), some_all (b := head11.now - 2000000) (by decide +kernel) (by decide +kernel)⟩,
   ⟨powering11 true false (some (head11.now - 1999999)), 11, head11.now - 1999999, by decide +kernel⟩,
   ⟨powering11 false true none, 11, by decide +kernel⟩,
   ⟨powering11 false true none, 11, by decide +kernel⟩,
   ⟨trgHwm, 3, by decide +kernel⟩,
   ⟨menPair 1, .host, 0, 1, 0x3FFFE, by decide +kernel⟩,
   ⟨menPair 0, .host, 0, 0, 0x3FFFF, by decide +kernel⟩⟩

theorem met_AttentionButton :
    (∃ (s : State) (p : Fin 32),
      s.headWorks p.val = true) ∧
    (∃ (s : State) (p : Fin 32) (e : Nat),
      s.headWorks p.val = true ∧ (s.port p.val).atnEndAt = some e ∧ e ≤ s.now) ∧
    (∃ (s : State) (p : Nat),
      s.drives p = false) ∧
    (∃ (s : State) (p : Nat),
      s.drives p = true ∧ s.attends p = true) ∧
    (∃ (s : State) (p : Nat),
      s.drives p = true ∧ s.attends p = false ∧ s.fld (hpCtl p) 1 2 = 0) ∧
    (∃ (s : State) (p : Nat),
      s.drives p = true ∧ s.attends p = false ∧ s.fld (hpCtl p) 1 2 = 1) ∧
    (∃ (s : State) (p : Nat),
      s.drives p = true ∧ s.attends p = false ∧ s.fld (hpCtl p) 1 2 = 2) ∧
    (∃ (s : State) (p : Nat),
      s.drives p = true ∧ s.attends p = false ∧ s.fld (hpCtl p) 1 2 = 3) :=
  ⟨⟨trgHwm, 3, by decide +kernel⟩,
   ⟨prt trgHwm 3 (fun x => { x with atnEndAt := some trgHwm.now }), 3, trgHwm.now, by decide +kernel⟩,
   ⟨linked, 3, by decide +kernel⟩,
   ⟨prt trgHwm 3 (fun x => { x with atnEndAt := some (trgHwm.now + 1) }), 3, by decide +kernel⟩,
   ⟨trgHwm, 3, by decide +kernel⟩,
   ⟨trgHwm.setFld (hpCtl 3) 1 2 1, 3, by decide +kernel⟩,
   ⟨trgHwm.setFld (hpCtl 3) 1 2 2, 3, by decide +kernel⟩,
   ⟨trgHwm.setFld (hpCtl 3) 1 2 3, 3, by decide +kernel⟩⟩

/-! ### Working as a group -/

/-- Ring pins in MODULE mode; RING: DISTRIBUTE, ACCEPT and JOIN, group 9, GE[2] = node 1, VE 3; VE3 from SE0, VE4 from GE2. -/
def rngImg : List (Nat × List Nat) :=
  [(1, [2, 20480, 1, 0, 20481, 1, 0]),
   (3, (List.range 12).map (fun _ => 0) ++ [4, 1, 1, 0, 2 + 2 * 8, 1, 1, 0]),
   (8, [7, 9, 0, 0, 0, 0x20000 + 32 + 3, 0, 0, 0, 0, 0, 0, 0, 0, 0, 0, 0, 0, 0, 0])]
/-- Node 1, RNG ON, both lanes up, CHECK. -/
def rng0 : State :=
  let s := withImg (withOn linked [.que, .mot, .tqa, .rng]) rngImg
  let s := ((s.wr Reg.PLN_STRAP 1).wr Reg.RNG_JOIN 1).wr Reg.RNG_STS 3
  { s with ring := { east := { up := true, partner := 2, delayEast := 5150 }, west := { up := true, partner := 0 }, keeper := some 0, beaconAt := some s.now } }
def down12 (s : State) : State := { s with ring := { s.ring with east := {}, west := {} } }
def keep12 (s : State) : State := { s.setFld Reg.RNG_STS 0 4 13 with ring := { s.ring with keeper := some 1 } }
def got (s : State) (f : RFrame) (age : Nat) : State := { s with ring := { s.ring with inbox := [{ f := f, side := .west, arrSt := s.nowSt - age }] } }
def fr (typ src : Nat) (dst : Option Nat) (ws : List Nat) : RFrame :=
  { typ := typ, src := src, dst := dst.getD 0, bcast := dst.isNone, level := 1, west := false, w := (List.range 14).map fun k => word (ws.getD k 0) }
def blk (hi : Nat) : BitVec 64 := let v := 0xC3 + hi * 256; BitVec.ofNat 64 (v + (crc32 (blockBytes 4 v)).toNat * 2 ^ 32)
def datas (f : RFrame) : List (BitVec 64) :=
  (List.range 4).map fun k => BitVec.ofNat 64 (((payloadBytes f.w).drop (8 * k)).take 8 |>.reverse.foldl (fun n b => n * 256 + b.toNat) 0)
def hdr (f : RFrame) : BitVec 64 := BitVec.ofNat 64 (f.header + f.crc.toNat * 2 ^ 32)

theorem test_12a :
  (let s := { down12 rng0 with ring := { (down12 rng0).ring with trainDueAt := some 5 } }
   s.ringWorks = true ∧ lanePin s .east = 1 ∧
   after .ringTrainStart s (fun t => t.sent.length == 2 && t.fld (laneReg .east) 6 2 == 1 && t.ring.trainDueAt == none)) ∧
  (let s := (down12 rng0).setFld Reg.RNG_STS 0 3 1
   let u (n : Nat) := s.setLane .east { trainAt := some 5, readyRun := n, ownReady := 15 }
   after (.trainingBlockRx .east 0xC3 true) (u 15) (fun t => t == u 15) ∧
   after (.trainingBlockRx .east (blk (2 ^ 13 + 5 * 2 ^ 14)) true) (u 14) (fun t => !(t.lane .east).up && (t.lane .east).readyRun == 15 && t.sent.length == 1) ∧
   after (.trainingBlockRx .east (blk (2 ^ 13 + 5 * 2 ^ 14)) true) (u 15) (fun t => (t.lane .east).up && t.ringState == 2 && t.bit Reg.RNG_EVT0 0 && (t.lane .east).partner == 5)) ∧
  (let s := (down12 rng0).setLane .west { trainAt := some (rng0.now - 4000000) }
   after (.ringTrainTimeout .west) s (fun t => t.fld (laneReg .west) 6 2 == 3 && (t.lane .west).trainAt == some s.now)) := by decide +kernel

theorem test_12b :
  (let f := fr 0 0 none [9, 1, 0, 0, 16, 0, 0, 8, 0, 0, 100, 3]
   parseFrame (hdr f) (datas f) = some f ∧
   after (.ringFrameRx .west (hdr f) (datas f) 3072) rng0 (fun t => t.ring.inbox == [{ f := f, side := .west, arrSt := rng0.nowSt - 3072 }] &&
     t.sent == [.ringFrame .east { f with w := (fr 0 0 none [9, 1, 0, 0, 16, 0, 0, 8, 0, 0, 100 + 3072 + 5150, 3]).w }])) ∧
  (let f := fr 2 0 (some 1) [2, 7]
   after (.ringFrameRx .west (hdr f) (datas f) 0) rng0 (fun t => t.ring.inbox.length == 1 && t.sent == [.ringFrame .east f]) ∧
   after (.ringFrameRx .west (hdr f) [0, 0, 0, 0] 0) rng0 (fun t => t.rd Reg.RNG_CRC_CNT == 1 && t.sent == []) ∧
   after (.ringFrameRx .east (hdr f) (datas f) 0) rng0 (fun t => t.ring.inbox.length == 1 && t.sent == []) ∧
   after (.ringFrameRx .east 0x1E [] 0) rng0 (fun t => t == rng0) ∧
   after (.ringFrameRx .east 0x55 [] 0) rng0 (fun t => t.rd Reg.RNG_CRC_CNT == 1)) ∧
  (let f := fr 1 1 none [2]
   after (.ringFrameRx .west (hdr f) (datas f) 0) rng0 (fun t => t == rng0)) ∧
  (let s := { rng0.setBit Reg.RNG_STS 4 true with ring := { rng0.ring with wrapRole := 1 } }
   let f := fr 1 2 none [2]
   after (.ringFrameRx .west (hdr f) (datas f) 0) s (fun t => t.sent == [.ringFrame .west { f with west := true }] && t.ring.inbox.length == 1)) := by decide +kernel

/-- A beacon of node 0 whose group time at its arrival, now, is `d` sub-ticks off. -/
def bcn (s : State) (dig : Nat) (d : Int) : RFrame :=
  let g := s.groupNow + d
  { fr 0 0 none [9, 1, 0, dig, 0x110, 0, 0, 0, 0, 0, 0, 3, 4, 0] with
    w := (fr 0 0 none [9, 1, 0, dig, 0x110]).w.take 5 ++ words54 (toWord54 (g / 64)) ++ [word (g % 64).toNat, 0, 0, 3, 4, 0] }
def dig12 : Nat := rng0.ownDigest.toNat
theorem test_12c :
  (let s := got rng0 (bcn rng0 dig12 51) 0
   deviation s { f := bcn rng0 dig12 51, side := .west, arrSt := s.nowSt } = 51 ∧
   after .beaconRx s (fun t => t.rd Reg.RNG_DEV == 51 && t.ring.slew == 51 && t.ring.slewPpm == 10 && t.ringState == 4 && t.rd Reg.RNG_MEMBERS == 3 && t.rd Reg.RNG_MISSING == 4 && t.ring.inbox == [])) ∧
  (let s := { got rng0 (bcn rng0 dig12 (-20)) 0 with ring := { (got rng0 (bcn rng0 dig12 (-20)) 0).ring with lockRun := 15 } }
   after .beaconRx s (fun t => t.rd Reg.RNG_DEV == 0x3FFEC && t.bit Reg.RNG_STS 7 && t.bit Reg.RNG_EVT0 9 && t.ringState == 4)) ∧
  (let s := got rng0 (bcn rng0 dig12 52) 0
   after .beaconRx s (fun t => t.ring.slew == 0 && t.ring.offset == 52 && !t.bit Reg.RNG_STS 7)) ∧
  (let s := (got rng0 (bcn rng0 dig12 1280) 0).setChn 5 { state := .live }
   after .beaconRx s (fun t => t.ring.slew == 1280 && t.ring.slewPpm == 100 && t.ringState == 4)) ∧
  (let s := (got rng0 (bcn rng0 dig12 1281) 0).setChn 5 { state := .live }
   after .beaconRx s (fun t => t.ringState == 6 && t.fld Reg.RNG_STS 15 2 == 2 && t.bit Reg.RNG_EVT0 10)) ∧
  (let s := (got rng0 (bcn rng0 (dig12 + 1) 0) 0).setBit Reg.RNG_STS 5 true
   after .beaconRx s (fun t => t.ringState == 6 && t.fld Reg.RNG_STS 15 2 == 1 && t.bit Reg.RNG_EVT0 11)) ∧
  (let s := (((got rng0 (bcn rng0 dig12 0) 0).setBit Reg.RNG_STS 5 true).setFld Reg.RNG_STS 0 3 6).setBit Reg.RNG_STS 7 true
   after .beaconRx { s with ring := { s.ring with heldOkAt := some (s.now - 400000) } } (fun t => t.ringState == 5)) ∧
  after .beaconRx (got rng0 (fr 0 0 none [9, 1, 0, 0, 0x20]) 0) (fun t => t.ringState == 7 && t.bit Reg.RNG_EVT0 12) := by decide +kernel

theorem test_12d :
  after .sampleRx (got rng0 (fr 1 0 none [2, 0, 0, 77, 0, 0, 0, 0, 0, 0, 9]) 0) (fun t => t.bit Reg.RNG_GE_STS 2 && decide ((t.ve 4).est.p = 77) && (t.ve 4).est.u0 == 9 && t.ring.inbox == []) ∧
  after .statusRx (got ((keep12 rng0).wr Reg.RNG_MISSING 4) (fr 2 2 none [1, 5, 0, 0, 0xD001, 0, 0, 7, 9]) 0)
    (fun t => (t.node 2).seen && (t.node 2).epoch == 5 && t.rd Reg.RNG_MISSING == 0 && t.bit Reg.RNG_EVT0 15) ∧
  after .statusRx (got { rng0 with fuses := { rng0.fuses with silicon := 8 } } (fr 2 1 none [1, 5, 0, 0, 0xD001, 0, 0, 7, 9]) 0) (fun t => t.ringState == 7 && t.bit Reg.RNG_EVT1 0) ∧
  (let s := ((got (rng0.setFld Reg.RNG_STS 0 3 5) (fr 4 0 none [3]) 0).wr Reg.RNG_GAPQ (word (2048 + 1))).setQueue 1 { cfg := 2, state := .enabled }
   takesEntry s 1 = true ∧
   after .gapFrameRx s (fun t => (t.queue 1).staged == [] && Tab.get none t.ring.gapPos 3 == some 0) ∧
   after .gapFrameRx { s with ring := { s.ring with gapPos := [(3, some 5)] } } (fun t => (t.queue 1).staged.length == 1)) := by decide +kernel

theorem test_12e :
  after .delayReqRx (got rng0 (fr 2 0 (some 1) [2, 7]) 0) (fun t => t.sent.length == 2 && t.sent.getLast? == some (.ringWake .west) && t.ring.inbox == []) ∧
  (let s := got rng0 (fr 2 2 (some 1) [3, 7, 0, 0, 1000, 0, 0, 1000 + 51200]) 0
   after .delayRespRx { s with ring := { s.ring with delayReq := some (7, s.nowSt - 61500) } } (fun t => t.ring.east.delayEast == 5150 && t.ring.delayReq == none)) ∧
  after .wrapRx (got rng0 (fr 2 2 none [4, 1]) 0) (fun t => t.ring.wrapRole == 1 && t.bit Reg.RNG_STS 4 && t.bit Reg.RNG_EVT0 5) ∧
  after .wrapRx (got rng0 (fr 2 2 none [4, 3]) 0) (fun t => t.ring.wrapRole == 0 && t.bit Reg.RNG_STS 5) ∧
  (let s := got rng0 (fr 2 2 none [5, 3]) 0
   after .unwrapRx { s with ring := { s.ring with breaks := [(2, [])] } } (fun t => !t.ring.unwrapDue && t.ring.breaks == [(2, [2])]) ∧
   after .unwrapRx { s with ring := { s.ring with breaks := [(2, [3])] } } (fun t => t.ring.unwrapDue && t.ring.breaks == [])) ∧
  after .leaveRx (got (rng0.wr Reg.RNG_MEMBERS 7) (fr 2 2 none [6]) 0) (fun t => t.rd Reg.RNG_MEMBERS == 3) ∧
  after .groupresetRx (got rng0 (fr 2 2 none [7, 0, 0, 5]) 0) (fun t => t.ring.resetAtGroup == some 5) ∧
  after .groupresetRx (got (keep12 rng0) (fr 2 2 (some 1) [7]) 0) (fun t => t.ring.resetAtGroup.isSome && t.sent.length == 1) ∧
  after .echoRx (got rng0 (fr 5 2 (some 1) [1, 3]) 0) (fun t => t.sent == [.ringFrame .east { fr 5 1 (some 2) [2, 3] with src := 1 }]) ∧
  after .echoRx { got rng0 (fr 5 2 (some 1) [2, 3]) 0 with ring := { (got rng0 (fr 5 2 (some 1) [2, 3]) 0).ring with echoSentSt := some (3, rng0.nowSt - 90) } } (fun t => t.ring.rtt == 90) := by decide +kernel

theorem test_12f :
  after .statusSend rng0 (fun t => t.sent.length == 1) ∧ after .statusSend (rng0.wr Reg.RNG_JOIN 0) (fun t => t.sent == []) ∧
  after .beaconSend (keep12 rng0) (fun t => t.sent.length == 1 && t.ring.beaconSeq == 1) ∧
  (let s := (rng0.setFld Reg.RNG_STS 0 3 5)
   geEntry s.image 2 = some (1, 3) ∧ s.veNoSrc 3 = false ∧ after (.sampleSend 2) s (fun t => t.bit Reg.RNG_GE_STS 2 && t.sent.length == 1)) ∧
  after .heartbeatSend rng0 (fun t => t.sent == [.ringWake .west]) ∧
  after .delayMeasure rng0 (fun t => t.ring.delayReq == some (0, rng0.nowSt) && t.sent == [.ringFrame .east (fr 2 1 (some 2) [2, 0])]) ∧
  after (.gapFrameSend 3) ((keep12 rng0).wr Reg.RNG_MISSING 8) (fun t => t.sent.length == 1) ∧
  (let s := { (rng0.wr Reg.RNG_GE_STS 4) with ring := { rng0.ring with geAt := [(2, some (rng0.now - 4096))] } }
   after (.geStale 2) s (fun t => t.rd Reg.RNG_GE_STS == 0 && t.bit Reg.RNG_EVT1 2 && t.veNoSrc 4)) ∧
  (let s := { rng0.setFld Reg.RNG_STS 0 3 2 with ring := { rng0.ring with keeper := none, candidate := some 1, candidateAt := rng0.now - 12800000, hasTime := true, offset := 44 } }
   after .electionStable s (fun t => t.ring.keeper == some 1 && t.ringState == 5 && t.ring.offset == 44 && t.bit Reg.RNG_EVT0 7)) ∧
  (let s := ((keep12 rng0).wr Reg.RNG_MEMBERS 7).setNode 2 { lastAt := rng0.now - 200000 }
   after (.memberMissing 2) s (fun t => t.rd Reg.RNG_MISSING == 4 && t.bit Reg.RNG_EVT0 14)) ∧
  (let s := { rng0 with ring := { rng0.ring with beaconAt := some (rng0.now - 40000) } }
   after .keeperLost s (fun t => t.ring.keeper == none && t.bit Reg.RNG_STS 6 && t.bit Reg.RNG_EVT0 8 && t.ringState == 3)) := by decide +kernel

theorem test_12g :
  after (.receiveDirectionLost .west) rng0 (fun t => t.ring.wrapRole == 2 && t.bit (laneReg .west) 8 && t.sent.head? == some (.ringFrame .east (fr 2 1 none [4, 0]))) ∧
  after (.receiveDirectionLost .east) rng0 (fun t => t.ring.wrapRole == 1 && t.bit Reg.RNG_EVT0 1) ∧
  (let s := rng0.setLane .east { lostSince := some 5, up := true, upAt := some (rng0.now - 4000000), partner := 2 }
   let s := { s with ring := { s.ring with wrapRole := 1, breaks := [(2, [2])] } }
   after (.directionRestored .east) { s with now := rng0.now - 1 } (fun t => t.sent == []) ∧
   after (.directionRestored .east) s (fun t => (t.lane .east).lostSince == none && t.ring.unwrapDue && t.ring.delayReq == some (0, rng0.nowSt))) ∧
  after (.moduleChange .east true) rng0 (fun t => t.bit (laneReg .east) 1 && !(t.lane .east).up && t.bit Reg.RNG_EVT0 4) := by decide +kernel

theorem test_12h :
  ((keep12 rng0).admits .ringArm = true ∧ (imageFrom (keep12 rng0) 20).length = 50 ∧
   after .fetchreqRx (got (keep12 rng0) (fr 2 2 (some 1) [8, 20]) 0) (fun t => t.sent.length == 5 && t.ring.serving == none)) ∧
  after .fetchreqRx (got rng0 (fr 2 2 (some 1) [8, 20]) 0) (fun t => t.sent == []) ∧
  (let s := { rng0 with ring := { rng0.ring with fetch := some { words := [1, 2, 3, 100], progressAt := 1 } } }
   after .armatureFrameRx (got s (fr 3 0 (some 1) [3, 12]) 0) (fun t => t.sent == [] && t.ring.fetch == s.ring.fetch) ∧
   after .armatureFrameRx (got s (fr 3 0 (some 1) [5, 12]) 0) (fun t => t.sent == [.ringFrame .east (fr 2 1 (some 0) [8, 4])]) ∧
   after .armatureFrameRx (got s (fr 3 0 (some 1) [4, 12]) 0) (fun t => (t.ring.fetch.map (·.words.length)) == some 16) ∧
   after .fetchStall { s with ring := { s.ring with fetch := some { progressAt := rng0.now - 400000000 } } } (fun t => t.ring.fetch == none && t.bit Reg.RNG_EVT0 17 && t.stage == 0)) ∧
  (let s := ((rng0.setFld Reg.RNG_STS 0 3 6).setFld Reg.RNG_STS 15 2 1).wr Reg.PLN_BOOT 11
   s.fetchWanted = true ∧ (s.setBit Reg.ARM_SRC 2 true).mayFetch = true ∧
   after .fetchStart (s.setBit Reg.ARM_SRC 2 true) (fun t => t.ring.fetch.isSome && t.bit Reg.RNG_STS 11) ∧
   after .fetchStart (s.setBit Reg.ARM_SRC 2 false) (fun t => t.bit Reg.RNG_EVT0 17) ∧
   after .fetchRetry { s.setBit Reg.ARM_SRC 2 true with now := 5000000000, ring := { s.ring with fetchFailAt := some 1000000000 } } (fun t => t.ring.fetch.isSome && t.ring.fetchFailAt == none)) := by decide +kernel

theorem test_12i :
  (let s := rng0.setPair 7 (some { value := 1, req := .host, openAt := rng0.now })
   s.openFor (regAcc .host (pairV 7 + 4) 0x3FFFE) .rng = true ∧
   after (.groupLeave .host 0x3FFFE) s (fun t => t.bit Reg.RNG_STS 10 && t.ringState == 0 && t.sent == [.ringFrame .east (fr 2 1 none [6])] && t.veNoSrc 4)) ∧
  rng0.openFor (regAcc .host Reg.RNG_CTL (withField (rng0.rd Reg.RNG_CTL) 1 1 1)) .rng = true ∧
  after (.rejoin .host) (rng0.wr Reg.RNG_STS 1024) (fun t => t.ringState == 2 && !t.bit Reg.RNG_STS 10) ∧
  after (.joinWrite .host 0) rng0 (fun t => t.rd Reg.RNG_JOIN == 0 && t.ringState == 0) ∧
  after (.joinWrite .host 2) (rng0.wr Reg.RNG_JOIN 3) (fun t => t.rd Reg.RNG_JOIN == 3 && t.ringState == 3) ∧
  after (.grpreset .host) ((keep12 rng0)) (fun t => t.ring.resetAtGroup.isSome && t.sent.length == 1) ∧
  after (.grpreset .host) (rng0.setFld Reg.RNG_STS 0 3 5) (fun t => t.sent == [.ringFrame .east (fr 2 1 (some 0) [7])]) ∧
  (let s := { rng0.setChn 5 { state := .live, ve := 4 } with ring := { rng0.ring with resetAtGroup := some (toWord54 (rng0.groupNow / 64)) } }
   after .groupResetTime s (fun t => t.bit Reg.PLN_RST_CAUSE 8 && t.bit Reg.RNG_EVT1 4 && (t.island .rng).drain == some .off && (t.chn 5).state == .quiescing) ∧
   after .groupResetTime { s with ring := { s.ring with resetAtGroup := some (toWord54 (rng0.groupNow / 64 + 1)) } } (fun t => (t.chn 5).state == .live)) ∧
  rng0.admits .ringDiag = true ∧ after (.diag .host) rng0 (fun t => t.ring.echoSentSt == some (0, rng0.nowSt)) := by decide +kernel

/-! ### Witnesses: working as a group -/
def ring12 (s : State) (f : RingSt → RingSt) : State := { s with ring := f s.ring }
def rx12 (s : State) (f : RFrame) : RxFrame := { f := f, side := .west, arrSt := s.nowSt }
def bcn0 : RFrame := bcn rng0 dig12 51
def gone12 : State := { down12 rng0 with ring := { (down12 rng0).ring with trainDueAt := some 5 } }
def train12 (n m : Nat) : State := ((down12 rng0).setFld Reg.RNG_STS 0 3 1).setLane .east { trainAt := some 5, readyRun := n, ownReady := m }
def ready12 : BitVec 64 := blk (2 ^ 13 + 5 * 2 ^ 14)
def ctl12 (ws : List Nat) : RFrame := fr 2 2 (some 1) ws
def wrap12 (r : Nat) : State := ring12 (rng0.setBit Reg.RNG_STS 4 true) fun x => { x with wrapRole := r }
def sampleF (src : Nat) : RFrame := fr 1 src none [2, 0, 0, 77, 0, 0, 0, 0, 0, 0, 9]
def statusF (src : Nat) : RFrame := fr 2 src none [1, 5, 0, 0, 0xD001, 0, 0, 7, 9]
def fet12 (ws : List Word) : Fetch := { words := ws, progressAt := rng0.now - 400000000 }
def fetching12 (ws : List Word) : State := ring12 rng0 fun x => { x with fetch := some (fet12 ws) }
def behind12 (b : Bool) : State := (((rng0.setFld Reg.RNG_STS 0 3 6).setFld Reg.RNG_STS 15 2 1).wr Reg.PLN_BOOT 11).setBit Reg.ARM_SRC 2 b
def elect12 (t : Nat) : State := ring12 (rng0.setFld Reg.RNG_STS 0 3 2) fun x => { x with keeper := none, candidate := some 1, candidateAt := t }
def pair12 : State := rng0.setPair 7 (some { value := 1, req := .host, openAt := rng0.now - 400000 })
def reset12 (d : Int) : State := ring12 rng0 fun x => { x with resetAtGroup := some (toWord54 (rng0.groupNow / 64 + d)) }
def busy12 : State := { rng0 with nrg := { rng0.nrg with admitted := 13500 } }
theorem met_RingLanesTrain :
    (∃ (s : State) (a : Nat),
      s.ringWorks = true ∧ s.ring.trainDueAt = some a ∧ a ≤ s.now ∧ s.held Island.rng = false ∧ (∀ (side : Side), (s.lane side).up = false ∧ lanePin s side ≠ 0)) ∧
    (∃ (s : State) (b : BitVec 64),
      s.ringWorks = true ∧ ¬goodBlock b) ∧
    (∃ (s : State) (side : Side) (b : BitVec 64) (adapted : Bool),
      s.ringWorks = true ∧ goodBlock b ∧ (s.lane side).up = false ∧ lanePin s side ≠ 0 ∧ (s.lane side).trainAt ≠ none ∧ s.held Island.rng = false ∧ (b.getLsbD 21 = false ∨ adapted = false ∨ (s.lane side).readyRun < 15 ∨ (s.lane side).ownReady < 15)) ∧
    (∃ (s : State) (side : Side) (b : BitVec 64) (adapted : Bool),
      s.ringWorks = true ∧ goodBlock b ∧ (s.lane side).up = false ∧ lanePin s side ≠ 0 ∧ (s.lane side).trainAt ≠ none ∧ s.held Island.rng = false ∧ (b.getLsbD 21 = false ∨ adapted = false ∨ (s.lane side).readyRun < 15 ∨ (s.lane side).ownReady < 15)) ∧
    (∃ (s : State) (side : Side) (b : BitVec 64) (adapted : Bool),
      s.ringWorks = true ∧ goodBlock b ∧ (s.lane side).up = false ∧ lanePin s side ≠ 0 ∧ (s.lane side).trainAt ≠ none ∧ s.held Island.rng = false ∧ b.getLsbD 21 = true ∧ adapted = true ∧ 15 ≤ (s.lane side).readyRun ∧ 15 ≤ (s.lane side).ownReady) ∧
    (∃ (s : State) (side : Side) (a : Nat),
      s.ringWorks = true ∧ (s.lane side).up = false ∧ lanePin s side ≠ 0 ∧ (s.lane side).trainAt = some a ∧ a + 4000000 ≤ s.now) :=
  ⟨⟨gone12, 5, by decide +kernel, by decide +kernel, by decide +kernel, by decide +kernel, fun side => by cases side <;> decide +kernel⟩,
   ⟨train12 15 15, 0xC3, by decide +kernel⟩,
   ⟨train12 14 15, .east, ready12, true, by decide +kernel⟩,
   ⟨train12 15 15, .east, ready12, false, by decide +kernel⟩,
   ⟨train12 15 15, .east, ready12, true, by decide +kernel⟩,
   ⟨(down12 rng0).setLane .west { trainAt := some (rng0.now - 4000000) }, .west, rng0.now - 4000000, by decide +kernel⟩⟩

theorem met_RingFramesAreForwarded :
    (∃ (s : State) (h : BitVec 64),
      s.ringWorks = true ∧ (h.toNat % 256 = 30 ∨ h.toNat % 256 = 195)) ∧
    (∃ (s : State) (h : BitVec 64),
      s.ringWorks = true ∧ (h.toNat % 256 = 30 ∨ h.toNat % 256 = 195)) ∧
    (∃ (s : State) (h : BitVec 64) (data : List (BitVec 64)),
      s.ringWorks = true ∧ h.toNat % 256 ≠ 30 ∧ h.toNat % 256 ≠ 195 ∧ (h.toNat % 256 ≠ 180 ∨ parseFrame h data = none)) ∧
    (∃ (s : State) (h : BitVec 64) (data : List (BitVec 64)),
      s.ringWorks = true ∧ h.toNat % 256 ≠ 30 ∧ h.toNat % 256 ≠ 195 ∧ (h.toNat % 256 ≠ 180 ∨ parseFrame h data = none)) ∧
    (∃ (s : State) (h : BitVec 64) (data : List (BitVec 64)) (f : RFrame),
      s.ringWorks = true ∧ h.toNat % 256 = 180 ∧ parseFrame h data = some f ∧ s.duplicates f = false ∧ s.bit Reg.RNG_STS 4 = false ∧ f.src = s.nodeId) ∧
    (∃ (s : State) (side : Side) (h : BitVec 64) (data : List (BitVec 64)) (f : RFrame),
      s.ringWorks = true ∧ h.toNat % 256 = 180 ∧ parseFrame h data = some f ∧ s.duplicates f = false ∧ s.bit Reg.RNG_STS 4 = false ∧ f.src ≠ s.nodeId ∧ side = Side.west) ∧
    (∃ (s : State) (side : Side) (h : BitVec 64) (data : List (BitVec 64)) (f : RFrame),
      s.ringWorks = true ∧ h.toNat % 256 = 180 ∧ parseFrame h data = some f ∧ s.duplicates f = false ∧ s.bit Reg.RNG_STS 4 = false ∧ f.src ≠ s.nodeId ∧ side = Side.east) ∧
    (∃ (s : State) (side : Side) (h : BitVec 64) (data : List (BitVec 64)) (f : RFrame),
      s.ringWorks = true ∧ h.toNat % 256 = 180 ∧ parseFrame h data = some f ∧ s.duplicates f = false ∧ s.bit Reg.RNG_STS 4 = true ∧ f.src ≠ s.nodeId ∧ s.ring.wrapRole = 2 ∧ side = Side.east) ∧
    (∃ (s : State) (side : Side) (h : BitVec 64) (data : List (BitVec 64)) (f : RFrame),
      s.ringWorks = true ∧ h.toNat % 256 = 180 ∧ parseFrame h data = some f ∧ s.duplicates f = false ∧ s.bit Reg.RNG_STS 4 = true ∧ f.src ≠ s.nodeId ∧ s.ring.wrapRole = 1 ∧ side = Side.west) ∧
    (∃ (s : State) (h : BitVec 64) (data : List (BitVec 64)) (f : RFrame),
      s.ringWorks = true ∧ h.toNat % 256 = 180 ∧ parseFrame h data = some f ∧ s.duplicates f = false ∧ s.bit Reg.RNG_STS 4 = true ∧ f.src ≠ s.nodeId ∧ s.ring.wrapRole = 0 ∧ f.west = false ∧ isControl 2 f = false) ∧
    (∃ (s : State) (h : BitVec 64) (data : List (BitVec 64)) (f : RFrame),
      s.ringWorks = true ∧ h.toNat % 256 = 180 ∧ parseFrame h data = some f ∧ s.duplicates f = false ∧ s.bit Reg.RNG_STS 4 = true ∧ f.src ≠ s.nodeId ∧ s.ring.wrapRole = 0 ∧ f.west = true) :=
  ⟨⟨rng0, 30, by decide +kernel⟩,
   ⟨rng0, 195, by decide +kernel⟩,
   ⟨rng0, 0x55, [], by decide +kernel⟩,
   ⟨rng0, hdr (sampleF 0), [0, 0, 0, 0], by decide +kernel⟩,
   ⟨rng0, hdr (sampleF 1), datas (sampleF 1), sampleF 1, by decide +kernel⟩,
   ⟨rng0, .west, hdr (sampleF 0), datas (sampleF 0), sampleF 0, by decide +kernel⟩,
   ⟨rng0, .east, hdr (sampleF 0), datas (sampleF 0), sampleF 0, by decide +kernel⟩,
   ⟨wrap12 2, .east, hdr (sampleF 0), datas (sampleF 0), sampleF 0, by decide +kernel⟩,
   ⟨wrap12 1, .west, hdr (sampleF 15), datas (sampleF 15), sampleF 15, by decide +kernel⟩,
   ⟨wrap12 0, hdr (sampleF 0), datas (sampleF 0), sampleF 0, by decide +kernel⟩,
   ⟨ring12 (wrap12 1) (fun x => { x with wrapRole := 0 }), hdr { sampleF 15 with west := true }, datas (sampleF 15), { sampleF 15 with west := true }, by decide +kernel⟩⟩

theorem met_BeaconsAreFollowed :
    (∃ (s : State) (x : RxFrame) (rest : List RxFrame),
      Oldest s x rest ∧ Follows s x ∧ s.ringState ≠ 7) ∧
    (∃ (s : State) (x : RxFrame) (rest : List RxFrame),
      Oldest s x rest ∧ Follows s x ∧ s.bit Reg.RNG_STS 5 = true) ∧
    (∃ (s : State) (x : RxFrame) (rest : List RxFrame),
      Oldest s x rest ∧ x.f.typ = 0 ∧ s.ringWanted = true ∧ s.ringState ≠ 0 ∧ s.ringState ≠ 7 ∧ wordAt x.f.w 0 = ringGroup s.image ∧ fieldOf (wordAt x.f.w 4) 4 4 ≠ 1) ∧
    (∃ (s : State) (x : RxFrame) (rest : List RxFrame),
      Oldest s x rest ∧ x.f.typ = 0 ∧ s.ringWanted = true ∧ s.ringState ≠ 0 ∧ wordAt x.f.w 0 ≠ ringGroup s.image) ∧
    (∃ (s : State) (x : RxFrame) (rest : List RxFrame),
      Oldest s x rest ∧ x.f.typ = 0 ∧ s.ringWanted = true ∧ s.ringState ≠ 0 ∧ wordAt x.f.w 0 = ringGroup s.image ∧ fieldOf (wordAt x.f.w 4) 4 4 = 1 ∧ s.bit Reg.RNG_STS 3 = true) :=
  ⟨⟨got rng0 bcn0 0, rx12 rng0 bcn0, [], by decide +kernel⟩,
   ⟨(got rng0 bcn0 0).setBit Reg.RNG_STS 5 true, rx12 rng0 bcn0, [], by decide +kernel⟩,
   ⟨got rng0 (fr 0 0 none [9, 1, 0, 0, 0x20]) 0, rx12 rng0 (fr 0 0 none [9, 1, 0, 0, 0x20]), [], by decide +kernel⟩,
   ⟨got rng0 (fr 0 0 none [8, 1, 0, 0, 0x10]) 0, rx12 rng0 (fr 0 0 none [8, 1, 0, 0, 0x10]), [], by decide +kernel⟩,
   ⟨(got rng0 (fr 0 0 none [9, 1, 0, 0, 0x10]) 0).setBit Reg.RNG_STS 3 true, rx12 rng0 (fr 0 0 none [9, 1, 0, 0, 0x10]), [], by decide +kernel⟩⟩

theorem met_SamplesAndStatusAreTaken :
    (∃ (s : State) (x : RxFrame) (rest : List RxFrame),
      Oldest s x rest ∧ x.f.typ = 1 ∧ s.ringState ≠ 0) ∧
    (∃ (s : State) (x : RxFrame) (rest : List RxFrame),
      Oldest s x rest ∧ isControl 1 x.f = true ∧ x.f.src ≠ s.nodeId) ∧
    (∃ (s : State) (x : RxFrame) (rest : List RxFrame),
      Oldest s x rest ∧ isControl 1 x.f = true ∧ x.f.src = s.nodeId) ∧
    (∃ (s : State) (x : RxFrame) (rest : List RxFrame),
      Oldest s x rest ∧ x.f.typ = 4 ∧ (s.ringState = 5 ∨ s.ringState = 6)) :=
  ⟨⟨got rng0 (sampleF 0) 0, rx12 rng0 (sampleF 0), [], by decide +kernel⟩,
   ⟨got rng0 (statusF 2) 0, rx12 rng0 (statusF 2), [], by decide +kernel⟩,
   ⟨got rng0 (statusF 1) 0, rx12 rng0 (statusF 1), [], by decide +kernel⟩,
   ⟨got (rng0.setFld Reg.RNG_STS 0 3 5) (fr 4 0 none [3]) 0, rx12 rng0 (fr 4 0 none [3]), [], by decide +kernel⟩⟩

theorem met_ControlFramesAreObeyed :
    (∃ (s : State) (x : RxFrame) (rest : List RxFrame),
      Oldest s x rest ∧ isControl 2 x.f = true) ∧
    (∃ (s : State) (x : RxFrame) (rest : List RxFrame) (q : Word) (t1 : Nat),
      Oldest s x rest ∧ isControl 3 x.f = true ∧ s.ring.delayReq = some (q, t1)) ∧
    (∃ (s : State) (x : RxFrame) (rest : List RxFrame),
      Oldest s x rest ∧ isControl 4 x.f = true) ∧
    (∃ (s : State) (x : RxFrame) (rest : List RxFrame),
      Oldest s x rest ∧ isControl 5 x.f = true) ∧
    (∃ (s : State) (x : RxFrame) (rest : List RxFrame),
      Oldest s x rest ∧ isControl 6 x.f = true ∧ x.f.src < 16) ∧
    (∃ (s : State) (x : RxFrame) (rest : List RxFrame),
      Oldest s x rest ∧ isControl 7 x.f = true ∧ s.ringState ≠ 0 ∧ s.ringState ≠ 7) ∧
    (∃ (s : State) (x : RxFrame) (rest : List RxFrame),
      Oldest s x rest ∧ isDiag x.f = true) :=
  ⟨⟨got rng0 (ctl12 [2, 7]) 0, rx12 rng0 (ctl12 [2, 7]), [], by decide +kernel⟩,
   ⟨ring12 (got rng0 (ctl12 [3, 7]) 0) (fun x => { x with delayReq := some (7, 5) }), rx12 rng0 (ctl12 [3, 7]), [], 7, 5, by decide +kernel⟩,
   ⟨got rng0 (ctl12 [4, 3]) 0, rx12 rng0 (ctl12 [4, 3]), [], by decide +kernel⟩,
   ⟨got rng0 (ctl12 [5, 3]) 0, rx12 rng0 (ctl12 [5, 3]), [], by decide +kernel⟩,
   ⟨got rng0 (fr 2 15 none [6]) 0, rx12 rng0 (fr 2 15 none [6]), [], by decide +kernel⟩,
   ⟨got rng0 (ctl12 [7]) 0, rx12 rng0 (ctl12 [7]), [], by decide +kernel⟩,
   ⟨got rng0 (fr 5 2 (some 1) [1, 3]) 0, rx12 rng0 (fr 5 2 (some 1) [1, 3]), [], by decide +kernel⟩⟩

theorem met_RingNodeSends :
    (∃ (s : State),
      s.ringWorks = true ∧ s.bit Reg.RNG_JOIN 0 = false) ∧
    (∃ (s : State),
      s.ringWorks = true ∧ s.bit Reg.RNG_JOIN 0 = true) ∧
    (∃ (s : State),
      s.ringWorks = true ∧ s.bit Reg.RNG_STS 3 = false) ∧
    (∃ (s : State),
      s.ringWorks = true ∧ s.bit Reg.RNG_STS 3 = true ∧ s.ring.unwrapDue = false) ∧
    (∃ (s : State) (k : Fin 16) (v : Nat),
      s.ringWorks = true ∧ geEntry s.image k.val = some (s.nodeId, v) ∧ s.ringState = 5 ∧ (sprueOf s.image v).kind ≠ 0) ∧
    (∃ (s : State),
      s.ringWorks = true ∧ s.ring.west.up = true ∧ s.held Island.rng = false) ∧
    (∃ (s : State),
      s.ringWorks = true ∧ s.ring.east.up = true) ∧
    (∃ (s : State) (n : Fin 16),
      s.ringWorks = true ∧ s.bit Reg.RNG_STS 3 = true ∧ s.bit Reg.RNG_MISSING n.val = true) :=
  ⟨⟨rng0.wr Reg.RNG_JOIN 0, by decide +kernel⟩,
   ⟨rng0, by decide +kernel⟩,
   ⟨rng0, by decide +kernel⟩,
   ⟨keep12 rng0, by decide +kernel⟩,
   ⟨rng0.setFld Reg.RNG_STS 0 3 5, 2, 3, by decide +kernel⟩,
   ⟨rng0, by decide +kernel⟩,
   ⟨rng0, by decide +kernel⟩,
   ⟨(keep12 rng0).wr Reg.RNG_MISSING 0x8000, 15, by decide +kernel⟩⟩

theorem met_KeeperAndMembers :
    (∃ (s : State) (k : Fin 16) (a : Nat),
      s.ringWorks = true ∧ Tab.get none s.ring.geAt k.val = some a ∧ s.bit Reg.RNG_GE_STS k.val = true ∧ a + 4096 ≤ s.now) ∧
    (∃ (s : State) (k : Fin 16) (a : Nat),
      s.ringWorks = true ∧ Tab.get none s.ring.geAt k.val = some a ∧ s.bit Reg.RNG_GE_STS k.val = true ∧ s.now < a + 4096) ∧
    (∃ (s : State) (n : Nat),
      s.ringWorks = true ∧ s.ringWanted = true ∧ 2 ≤ s.ringState ∧ s.bestCandidate = some n ∧ s.ring.candidate = some n ∧ s.ring.candidateAt + 12800000 ≤ s.now ∧ s.ring.keeper = none) ∧
    (∃ (s : State),
      s.ringWorks = true ∧ s.ringWanted = true ∧ 2 ≤ s.ringState ∧ s.bestCandidate = some s.nodeId ∧ s.ring.candidate = some s.nodeId ∧ s.ring.candidateAt + 12800000 ≤ s.now ∧ s.ring.keeper = none) ∧
    (∃ (s : State),
      s.ringWorks = true ∧ s.ringWanted = true ∧ 2 ≤ s.ringState ∧ s.bestCandidate = some s.nodeId ∧ s.ring.candidate = some s.nodeId ∧ s.now < s.ring.candidateAt + 12800000) ∧
    (∃ (s : State) (n : Fin 16),
      s.ringWorks = true ∧ s.bit Reg.RNG_STS 3 = true ∧ s.bit Reg.RNG_MEMBERS n.val = true ∧ s.bit Reg.RNG_MISSING n.val = false ∧ n.val ≠ s.nodeId ∧ (s.node n.val).lastAt + 200000 ≤ s.now) ∧
    (∃ (s : State) (k : Nat) (a : Nat),
      s.ringWorks = true ∧ s.ring.keeper = some k ∧ s.ring.beaconAt = some a ∧ s.bit Reg.RNG_STS 3 = false ∧ a + 40000 ≤ s.now) :=
  ⟨⟨ring12 (rng0.wr Reg.RNG_GE_STS 4) (fun x => { x with geAt := [(2, some (rng0.now - 4096))] }), 2, rng0.now - 4096, by decide +kernel⟩,
   ⟨ring12 (rng0.wr Reg.RNG_GE_STS 4) (fun x => { x with geAt := [(2, some (rng0.now - 4095))] }), 2, rng0.now - 4095, by decide +kernel⟩,
   ⟨elect12 (rng0.now - 12800000), 1, by decide +kernel⟩,
   ⟨elect12 (rng0.now - 12800000), by decide +kernel⟩,
   ⟨elect12 (rng0.now - 12799999), by decide +kernel⟩,
   ⟨((keep12 rng0).wr Reg.RNG_MEMBERS 7).setNode 2 { lastAt := rng0.now - 200000 }, 2, by decide +kernel⟩,
   ⟨ring12 rng0 (fun x => { x with beaconAt := some (rng0.now - 40000) }), 0, rng0.now - 40000, by decide +kernel⟩⟩

theorem met_RingWrapsAndUnwraps :
    (∃ (s : State) (side : Side),
      s.ringWorks = true ∧ (s.lane side).up = true) ∧
    (∃ (s : State) (side : Side) (a : Nat) (u : Nat),
      s.ringWorks = true ∧ (s.lane side).lostSince = some a ∧ (s.lane side).up = true ∧ (s.lane side).upAt = some u ∧ s.now < u + 4000000) ∧
    (∃ (s : State) (side : Side) (a : Nat) (u : Nat),
      s.ringWorks = true ∧ (s.lane side).lostSince = some a ∧ (s.lane side).up = true ∧ (s.lane side).upAt = some u ∧ u + 4000000 ≤ s.now) ∧
    (∃ (s : State),
      s.ringWorks = true ∧ s.bit Reg.RNG_STS 3 = true ∧ s.ring.unwrapDue = true ∧ s.ring.breaks = []) ∧
    (∃ (s : State) (side : Side) (absent : Bool),
      s.ringWorks = true ∧ lanePin s side = 1 ∧ s.bit (laneReg side) 1 = !absent) :=
  ⟨⟨rng0, .west, by decide +kernel⟩,
   ⟨rng0.setLane .east { lostSince := some 5, up := true, upAt := some (rng0.now - 3999999) }, .east, 5, rng0.now - 3999999, by decide +kernel⟩,
   ⟨rng0.setLane .east { lostSince := some 5, up := true, upAt := some (rng0.now - 4000000) }, .east, 5, rng0.now - 4000000, by decide +kernel⟩,
   ⟨ring12 (keep12 rng0) (fun x => { x with unwrapDue := true }), by decide +kernel⟩,
   ⟨rng0, .east, true, by decide +kernel⟩⟩

theorem met_ArmaturesAreFetched :
    (∃ (s : State) (x : RxFrame) (rest : List RxFrame),
      Oldest s x rest ∧ isControl 8 x.f = true ∧ s.nrg.ready = [] ∧ (s.bit Reg.RNG_STS 3 = false ∨ ringFlag s.arm.committed 0 = false)) ∧
    (∃ (s : State) (x : RxFrame) (rest : List RxFrame),
      Oldest s x rest ∧ isControl 8 x.f = true ∧ s.nrg.ready = [] ∧ s.bit Reg.RNG_STS 3 = true ∧ ringFlag s.arm.committed 0 = true ∧ belowCeiling s ∧ s.admits Work.ringArm = true ∧ s.held Island.rng = false ∧ (s.lane s.ownSide).up = true ∧ mayLeave s (s.frame 3 none []) ∧ (s.grantsAt arbRing 8 (ceilDiv (imageFrom s (BitVec.toNat (wordAt x.f.w 1))).length 12)).isSome = true) ∧
    (∃ (s : State) (x : RxFrame) (rest : List RxFrame) (f : Fetch),
      Oldest s x rest ∧ x.f.typ = 3 ∧ s.nrg.ready = [] ∧ s.ring.fetch = some f ∧ fieldOf (wordAt x.f.w 0) 0 17 < f.words.length) ∧
    (∃ (s : State) (x : RxFrame) (rest : List RxFrame) (f : Fetch),
      Oldest s x rest ∧ x.f.typ = 3 ∧ s.nrg.ready = [] ∧ s.ring.fetch = some f ∧ f.words.length < fieldOf (wordAt x.f.w 0) 0 17) ∧
    (∃ (s : State) (x : RxFrame) (rest : List RxFrame) (f : Fetch),
      Oldest s x rest ∧ x.f.typ = 3 ∧ s.nrg.ready = [] ∧ s.ring.fetch = some f ∧ f.words.length = fieldOf (wordAt x.f.w 0) 0 17 ∧ fieldOf (wordAt x.f.w 1) 0 4 = 12 ∧ f.words.length + 12 < BitVec.toNat (wordAt (f.words ++ List.drop 2 x.f.w) 3) ∧ x.f.w.length = 14) ∧
    (∃ (s : State),
      s.ringWorks = true ∧ s.nrg.ready = [] ∧ s.fetchWanted = true ∧ s.mayFetch = true ∧ belowCeiling s ∧ s.admits Work.ringArm = true ∧ s.ring.serving = none) ∧
    (∃ (s : State),
      s.ringWorks = true ∧ s.nrg.ready = [] ∧ s.fetchWanted = true ∧ s.mayFetch = false ∧ s.ring.fetchNoted = false) ∧
    (∃ (s : State) (f : Fetch),
      s.ringWorks = true ∧ s.ring.fetch = some f ∧ f.progressAt + 400000000 ≤ s.now) ∧
    (∃ (s : State) (a : Nat),
      s.ringWorks = true ∧ s.nrg.ready = [] ∧ s.ring.fetchFailAt = some a ∧ a + 4000000000 ≤ s.now ∧ s.fetchWanted = true ∧ s.mayFetch = true ∧ belowCeiling s ∧ s.admits Work.ringArm = true ∧ s.ring.serving = none) :=
  ⟨⟨got rng0 (ctl12 [8, 20]) 0, rx12 rng0 (ctl12 [8, 20]), [], by decide +kernel⟩,
   ⟨got (keep12 rng0) (ctl12 [8, 20]) 0, rx12 rng0 (ctl12 [8, 20]), [], by decide +kernel⟩,
   ⟨got (fetching12 [1, 2, 3, 100]) (fr 3 0 (some 1) [3, 12]) 0, rx12 rng0 (fr 3 0 (some 1) [3, 12]), [], fet12 [1, 2, 3, 100], by decide +kernel⟩,
   ⟨got (fetching12 [1, 2, 3, 100]) (fr 3 0 (some 1) [5, 12]) 0, rx12 rng0 (fr 3 0 (some 1) [5, 12]), [], fet12 [1, 2, 3, 100], by decide +kernel⟩,
   ⟨got (fetching12 [1, 2, 3, 100]) (fr 3 0 (some 1) [4, 12]) 0, rx12 rng0 (fr 3 0 (some 1) [4, 12]), [], fet12 [1, 2, 3, 100], by decide +kernel⟩,
   ⟨behind12 true, by decide +kernel⟩,
   ⟨behind12 false, by decide +kernel⟩,
   ⟨fetching12 [], fet12 [], by decide +kernel⟩,
   ⟨{ ring12 (behind12 true) (fun x => { x with fetchFailAt := some 1000000000 }) with now := 5000000000 }, 1000000000, by decide +kernel⟩⟩

theorem met_NodesLeaveAndJoin :
    (∃ (s : State) (req : Requester) (o : PairOpen),
      s.pair 7 = some o ∧ o.req = req ∧ s.now ≤ o.openAt + 400000 ∧ o.value = 1 ∧ s.openFor (regAcc req (pairV 7 + 4) 262142) Island.rng = true) ∧
    (∃ (s : State) (req : Requester),
      BitVec.toNat (s.rd Reg.RNG_CTL) < 2 ∧ s.openFor (regAcc req Reg.RNG_CTL (withField (s.rd Reg.RNG_CTL) 1 1 1)) Island.rng = true ∧ s.bit Reg.RNG_STS 10 = true) ∧
    (∃ (s : State) (req : Requester) (v : Word),
      s.openFor (regAcc req Reg.RNG_JOIN v) Island.rng = true ∧ BitVec.toNat v < 4 ∧ s.bit Reg.RNG_JOIN 1 = false) ∧
    (∃ (s : State) (req : Requester) (v : Word),
      s.openFor (regAcc req Reg.RNG_JOIN v) Island.rng = true ∧ BitVec.toNat v < 4 ∧ s.bit Reg.RNG_JOIN 1 = true ∧ BitVec.getLsbD v 0 ≠ s.bit Reg.RNG_JOIN 0) ∧
    (∃ (s : State) (req : Requester),
      BitVec.toNat (s.rd Reg.RNG_CTL) < 2 ∧ s.ringState = 5 ∧ s.openFor (regAcc req Reg.RNG_CTL (withField (s.rd Reg.RNG_CTL) 2 1 1)) Island.rng = true) ∧
    (∃ (s : State) (g : Word54),
      s.ringWorks = true ∧ s.ring.resetAtGroup = some g ∧ 0 ≤ signedDiff 54 (s.groupNow / 64) ↑(BitVec.toNat g) ∧ (s.island Island.rng).drain = none) ∧
    (∃ (s : State) (g : Word54),
      s.ringWorks = true ∧ s.ring.resetAtGroup = some g ∧ signedDiff 54 (s.groupNow / 64) ↑(BitVec.toNat g) < 0) ∧
    (∃ (s : State) (req : Requester),
      BitVec.toNat (s.rd Reg.RNG_CTL) < 2 ∧ belowCeiling s ∧ s.nrg.ready = [] ∧ s.openFor (regAcc req Reg.RNG_CTL (withField (s.rd Reg.RNG_CTL) 3 1 1)) Island.rng = true ∧ s.admits Work.ringDiag = true) ∧
    (∃ (s : State) (req : Requester),
      BitVec.toNat (s.rd Reg.RNG_CTL) < 2 ∧ belowCeiling s ∧ s.nrg.ready = [] ∧ s.openFor (regAcc req Reg.RNG_CTL (withField (s.rd Reg.RNG_CTL) 3 1 1)) Island.rng = true ∧ s.admits Work.ringDiag = false) :=
  ⟨⟨pair12, .host, { value := 1, req := .host, openAt := rng0.now - 400000 }, by decide +kernel⟩,
   ⟨rng0.wr Reg.RNG_STS 1024, .host, by decide +kernel⟩,
   ⟨rng0, .host, 3, by decide +kernel⟩,
   ⟨rng0.wr Reg.RNG_JOIN 3, .host, 2, by decide +kernel⟩,
   ⟨rng0.setFld Reg.RNG_STS 0 3 5, .host, by decide +kernel⟩,
   ⟨reset12 0, toWord54 (rng0.groupNow / 64), by decide +kernel⟩,
   ⟨reset12 1, toWord54 (rng0.groupNow / 64 + 1), by decide +kernel⟩,
   ⟨rng0, .host, by decide +kernel⟩,
   ⟨busy12, .host, by decide +kernel⟩⟩

/-! ### Field bus -/

/-- FB0 a CONTROLLER in MODE FD with BRS, bus-off LIMITED to 4, bit 5 set; FB1 UNUSED and OFF; FB2 in TRANSCEIVER mode. -/
def canImg : List (Nat × List Nat) :=
  [(1, [2, 12288, 1, 0, 12290, 2, 0]),
   (6, [0x115 + 32, 0x3EFC0, 0x0241F, 0x0F25C, 200, 60000, 0x04020, 0x70, 0x04020, 0x70] ++ (List.range 32).map fun _ => 0)]
def can0 : State := (withImg (withOn linked [.mem, .que, .fld]) canImg).fldInit
/-- FB0 ACTIVE, queue 7 its first receive queue, queue 9 its first transmit queue. -/
def can3 : State :=
  let s := (((can0.setPhase 0 3).setCan 0 {}).wr (Reg.FB_RXQ 0 0) 7).wr (Reg.FB_TXQ 0 0) (2048 + 9)
  (s.setQueue 7 { cfg := 4, state := .enabled }).setQueue 9 { cfg := 5, state := .enabled, prod := 3, fetchPos := 1, cons := 1 }
def cf (id n : Nat) : CanFrame := { ide := false, fdf := decide (8 < n), brs := decide (8 < n), esi := false, rtr := false
                                    dlc := BitVec.ofNat 4 (if n = 64 then 15 else n), ident := BitVec.ofNat 29 id
                                    data := (List.range n).map fun k => BitVec.ofNat 8 (k + 1) }
def flt (s : State) (k : Nat) (w : List Nat) : State := (List.range 4).foldl (fun t j => t.sramWrite (filterAt t 0 k + j) (word (w.getD j 0))) s
def ctlAcc (s : State) (b n : Nat) : RegAccess := regAcc .host (Reg.FB_CTL 0) (withField (s.rd (Reg.FB_CTL 0)) b 1 n)

theorem test_13a :
  (let s := ((can3.setTxb 0 5 0 0x400).setBit (Reg.FB_TXREQ 0 0) 5 true).setBit (Reg.FB_TXREQ 0 1) 1 true
   let s := s.setCan 0 { heads := [(0, some { f := cf 0x7FF 8, marker := 0, queue := 9 })] }
   s.openFor (ctlAcc s 0 1) .fld = true ∧ headsLost s 0 = 1 ∧ s.offered 0 = some (.buffer 5, s.bufFrame 0 5) ∧
   after (.fbInitSet .host 0) s (fun t => t.bit (Reg.FB_CTL 0) 0 && t.offered 0 == s.offered 0 && t.rd (Reg.FB_TXREQ 0 0) == 0 && t.rd (Reg.FB_TXREQ 0 1) == 0 &&
     t.fbPhase 0 == 0 && t.rd (Reg.FB_TXDISC 0) == 1 && Tab.get none (t.can 0).heads 0 == none) ∧
   after (.fbInitSet .host 1) s (fun t => t.rd (Reg.FB_CTL 1) == 0x11)) ∧
  (let s := (can3.setBit (Reg.FB_CTL 0) 0 true).wr (Reg.FB_TEC 0) 5
   s.openFor (ctlAcc s 0 0) .fld = true ∧ s.fbPin 0 = 1 ∧ fbMode s.image 0 = 1 ∧
   after (.fbInitClear .host 0) s (fun t => t.rd (Reg.FB_CTL 0) == 0x10 && t.fbPhase 0 == 1 && t.rd (Reg.FB_TEC 0) == 0 && t.rd (Reg.FB_TERM 0) == 0x3000 && (t.can 0).quietDue) ∧
   after (.fbInitClear .host 1) s (fun t => t.rd (Reg.FB_CTL 1) == 0x11)) ∧
  (can0.fldRuns = true ∧ can0.fbPhase 0 = 1 ∧
   after (.fbIntegrationDone 0) can0 (fun t => t.fbPhase 0 == 2 && (t.can 0).quietAt == some t.now) ∧
   after (.fbIntegrationDone 0) (can0.setCan 0 {}) (fun t => t.fbPhase 0 == 3) ∧
   after (.fbIntegrationDone 0) can3 (fun t => t == can3) ∧
   (let s := (can0.setPhase 0 2).setCan 0 { quietAt := some (can0.now - 80000000) }
    after (.fbQuietEnd 0) s (fun t => t.fbPhase 0 == 3 && t.bit (Reg.FB_EVT 0) 14 && (t.can 0).quietAt == none) ∧
    after (.fbQuietEnd 0) { s with now := s.now - 1 } (fun t => t == { s with now := s.now - 1 })) ∧
   after (.canProtocolException 0) can3 (fun t => t.fbPhase 0 == 1)) := by decide +kernel

theorem test_13b :
  (let s := (flt can3 3 [0x0800 + 0x2000 + 0x10000 + 0x4000, 0x120, 0, 0x7F0]).setFld (Reg.FB_REC 0) 0 8 5
   cleanFilters can3 0 ∧ filterDecides 0x16800 0x120 0 0x7F0 (cf 0x12A 8) = true ∧ s.tec 0 = 0 ∧
   after (.canFrameRx 0 (cf 0x12A 8) 400) s (fun t => t.fb.stage == [{ ctrl := 0, f := cf 0x12A 8, qsel := 1, filter := 3, noMatch := false, sofT := t.devTime - 400 }] &&
     t.bit (Reg.FB_EVT 0) 15 && t.recCnt 0 == 4) ∧
   after (.canFrameRx 0 (cf 0x130 8) 400) s (fun t => match t.fb.stage with | [x] => x.noMatch && x.qsel == 0 | _ => false) ∧
   after (.canFrameRx 0 (cf 0x130 8) 400) (s.setBit (Reg.FB_CTL 0) 4 false) (fun t => t.fb.stage == [])) ∧
  (let x : RxStage := { ctrl := 0, f := cf 0x12A 64, qsel := 0, filter := 3, noMatch := false, sofT := 9 }
   let s := { can3 with fb := { can3.fb with stage := [x] } }
   s.canRoom 7 3 = true ∧ takesEntry s 7 = true ∧ (rxEntries x).length = 3 ∧
   after .canRxEntryWrite s (fun t => t.fb.stage == [] && (t.queue 7).staged == rxEntries x) ∧
   after .canRxEntryWrite (s.setQueue 7 { cfg := 4, state := .enabled, prod := 14 }) (fun t => t.fb.stage == [] && (t.queue 7).staged == [] && t.rd (Reg.FB_RXDROP 0) == 1 && t.bit (Reg.FB_EVT 0) 7) ∧
   (List.range 64).all (fun j => entryByte (rxEntries x) j == j + 1)) := by decide +kernel

theorem test_13c :
  (let s := (can3.setTxb 0 0 0 0x400).setTxb 0 1 0 (8 + 64)
   s.openFor (regAcc .host (Reg.FB_TXREQ 0 0 + 0x4000) 3) .fld = true ∧
   after (.txreqSet .host 0 0 3) s (fun t => t.rd (Reg.FB_TXREQ 0 0) == 1 && t.rd (Reg.FB_TXDISC 0) == 1) ∧
   (let s := s.wr (Reg.FB_TXREQ 0 0) 5
    s.openFor (regAcc .host (Reg.FB_TXREQ 0 0 + 0x8000) 1) .fld = true ∧
    after (.txreqCancel .host 0 0 1) s (fun t => t.rd (Reg.FB_TXREQ 0 0) == 4 && t.offered 0 == s.offered 0 && s.offered 0 == some (.buffer 0, s.bufFrame 0 0))) ∧
   s.canSend = true ∧ s.freeTag = some 0 ∧
   after (.cantxFetch 0 0) s (fun t => (t.queue 9).fetching && t.sent == [Output.memRead 0 64 16]) ∧
   after (.cantxFetch 0 1) s (fun t => t == s)) := by decide +kernel

theorem test_13d :
  (let s := ((((can3.setTxb 0 20 0 0x400).setTxb 0 20 2 0x100).setTxb 0 20 3 0x10055).setBit (Reg.FB_TXREQ 0 1) 4 true).wr (Reg.FB_TEC 0) 9
   let s := s.setCan 0 { heads := [(0, some { f := cf 0x101 64, marker := 0x10001, queue := 9 })] }
   s.offered 0 = some (.buffer 20, s.bufFrame 0 20) ∧ (s.txWaiting 0).length = 2 ∧
   after (.canFrameTxDone 0 400 2600 30) s (fun t => t.rd (Reg.FB_TXREQ 0 1) == 0 && t.rd (Reg.FB_TXDONE 0 1) == 16 && t.bit (Reg.FB_EVT 0) 8 && t.tec 0 == 8 &&
     canFrames t.sent == [.canFrame 0 (s.bufFrame 0 20).f] && t.rd (Reg.FB_TERM 0) == word (2600 + 4096) && t.bit (Reg.FB_EVT 0) 12 &&
     (t.queue 7).staged == [{ typ := 0x32, words := [word (20 * 8), 0x55] ++ words54 (t.devTime - 400) }]) ∧
   (let s := s.wr (Reg.FB_TXREQ 0 1) 0
    s.offered 0 = some (.queue 0, { f := cf 0x101 64, marker := 0x10001, queue := 9 }) ∧
    after (.canFrameTxDone 0 400 2000 30) s (fun t => (t.can 0).heads == [] && t.rd (Reg.FB_TDC 0) == word (30 + 60 * 128) && t.rd (Reg.FB_TXDONE 0 1) == 0) ∧
    after (.canFrameTxDone 0 400 2000 100) (s.setBit Reg.CLK_STS 1 true) (fun t => t.rd (Reg.FB_TDC 0) == 0) ∧
    after (.canTxFail 0) s (fun t => t == s) ∧
    after (.canTxFail 0) (s.setBit (Reg.FB_CTL 0) 2 true) (fun t => (t.can 0).heads == [] && t.bit (Reg.FB_EVT 0) 9 && t.tec 0 == 9 &&
      (t.queue 7).staged == [{ typ := 0x32, words := [4 + 512, 1, 0, 0, 0] }]))) ∧
  (can3.fbPhase 2 = 6 ∧ after (.canFrameTxDone 2 400 1699 0) can3 (fun t => t.rd (Reg.FB_TERM 2) == word (1699 + 8192) && t.bit (Reg.FB_EVT 2) 12)) := by decide +kernel

theorem test_13e :
  (let s := (can3.setTxb 0 5 0 0x400).setBit (Reg.FB_TXREQ 0 0) 5 true
   after (.canBusError 0 .bit1 true) (s.wr (Reg.FB_TEC 0) 24) (fun t => t.tec 0 == 32 && t.fld (Reg.FB_STS 0) 11 3 == 1 && t.rd (Reg.FB_EVT 0) == word (2 ^ 13 + 2 ^ 4) && t.fld (Reg.FB_STS 0) 8 3 == 4) ∧
   after (.canBusError 0 .bit1 true) (s.wr (Reg.FB_TEC 0) 127) (fun t => t.fld (Reg.FB_STS 0) 3 2 == 1 && t.bit (Reg.FB_EVT 0) 2) ∧
   (let s := (s.wr (Reg.FB_TEC 0) 248).setFld (Reg.FB_STS 0) 3 2 1
    after (.canBusError 0 .bit1 true) s (fun t => t.tec 0 == 256 && t.fbPhase 0 == 5 && t.fld (Reg.FB_STS 0) 3 2 == 2 && t.rd (Reg.FB_BUSOFFS 0) == 1 && (t.can 0).windowAt == some t.now) ∧
    after (.canBusError 0 .bit1 true) (s.wr (Reg.FB_BOCNT 0) 4) (fun t => t.fbPhase 0 == 4 && t.bit (Reg.FB_EVT 0) 6) ∧
    after (.canBusError 0 .ack true) s (fun t => t.tec 0 == 248 && t.rd (Reg.FB_ERRCNT 0) == 1)) ∧
   after (.canBusError 0 .bit0 false) s (fun t => t.recCnt 0 == 8 && t.tec 0 == 0)) ∧
  (let s := ((can3.setPhase 0 5).setFld (Reg.FB_STS 0) 3 2 2).wr (Reg.FB_TEC 0) 256
   let s := s.setCan 0 { windowAt := some (s.now - 24000000000) }
   after (.canBusoffRecovered 0) s (fun t => t.fbPhase 0 == 3 && t.rd (Reg.FB_TEC 0) == 0 && t.bit (Reg.FB_EVT 0) 1 && t.rd (Reg.FB_BOCNT 0) == 1 && t.fld (Reg.FB_STS 0) 3 2 == 0) ∧
   (let s := s.setPhase 0 4
    s.openFor (ctlAcc s 5 1) .fld = true ∧ after (.fbRecover .host 0) s (fun t => t.fbPhase 0 == 5 && t.rd (Reg.FB_CTL 0) == s.rd (Reg.FB_CTL 0))) ∧
   after (.fbRecover .host 0) s (fun t => t.fbPhase 0 == 5)) ∧
  (let s := ({ can3 with now := 30000000000 }.wr (Reg.FB_BOCNT 0) 4).setCan 0 { windowAt := some 6000000000 }
   after (.limitedWindowEnd 0) s (fun t => t.rd (Reg.FB_BOCNT 0) == 0 && (t.can 0).windowAt == none) ∧
   after (.limitedWindowEnd 0) (s.setCan 0 { windowAt := some 6000000001 }) (fun t => t.rd (Reg.FB_BOCNT 0) == 4)) := by decide +kernel

theorem test_13f :
  after (.canSwapDetect 0) can3 (fun t => t.rd (Reg.FB_LINE 0) == 1 && t.bit (Reg.FB_EVT 0) 10 && (t.can 0).swapDue) ∧
  after (.canSwapDetect 2) can3 (fun t => t.rd (Reg.FB_LINE 2) == 1 && !(t.can 2).swapDue) ∧
  after (.polarityInvert 0) (can3.setCan 0 { swapDue := true }) (fun t => t.bit (Reg.FB_STS 0) 6 && !(t.can 0).swapDue) ∧
  after (.polarityInvert 0) can3 (fun t => t == can3) ∧
  after (.canLineShort 2 .lGnd) can3 (fun t => t.rd (Reg.FB_LINE 2) == 8 && t.bit (Reg.FB_EVT 2) 11) ∧
  after (.canLineShortEnd 2 .lGnd) (can3.wr (Reg.FB_LINE 2) 8) (fun t => t.rd (Reg.FB_LINE 2) == 0) ∧
  after (.canLineShort 1 .lGnd) can3 (fun t => t == can3) ∧
  after (.txdDominantTimeout 0) can3 (fun t => t.rd (Reg.FB_LINE 0) == 32 && t.bit (Reg.FB_EVT 0) 11) ∧
  after (.txdtoRearm 0) (can3.wr (Reg.FB_LINE 0) 32) (fun t => t.rd (Reg.FB_LINE 0) == 0) := by decide +kernel

/-! ### Witnesses: field bus -/
def init13 : State := (can3.setBit (Reg.FB_CTL 0) 0 true).wr (Reg.FB_TEC 0) 5
def quiet13 (t : Nat) : State := (can0.setPhase 0 2).setCan 0 { quietAt := some t }
def filt13 : State := (flt can3 3 [0x0800 + 0x2000 + 0x10000 + 0x4000, 0x120, 0, 0x7F0]).setFld (Reg.FB_REC 0) 0 8 5
def rxs13 : RxStage := { ctrl := 0, f := cf 0x12A 64, qsel := 0, filter := 127, noMatch := false, sofT := 9 }
def staged13 (prod : Nat) : State := { can3 with fb := { can3.fb with stage := [rxs13] } }.setQueue 7 { cfg := 4, state := .enabled, prod := BitVec.ofNat 17 prod }
def tx13 : State := ((can3.setTxb 0 63 0 0x400).setBit (Reg.FB_TXREQ 0 3) 15 true).wr (Reg.FB_TEC 0) 127
def head13 : TxFrame := { f := cf 0x101 64, marker := 0x10001, queue := 9 }
def qtx13 : State := can3.setCan 0 { heads := [(0, some head13)] }
def off13 (t : Nat) : State := (((can3.setPhase 0 5).setFld (Reg.FB_STS 0) 3 2 2).wr (Reg.FB_TEC 0) 256).setCan 0 { windowAt := some t }
def lim13 (t : Nat) : State := ({ can3 with now := 30000000000 }.wr (Reg.FB_BOCNT 0) 4).setCan 0 { windowAt := some t }
theorem met_ControllersStart :
    (∃ (s : State) (req : Requester) (c : Fin 4),
      BitVec.toNat (s.rd (Reg.FB_CTL c.val)) < 32 ∧ s.openFor (regAcc req (Reg.FB_CTL c.val) (withField (s.rd (Reg.FB_CTL c.val)) 0 1 1)) Island.fld = true ∧ s.bit (Reg.FB_CTL c.val) 0 = true) ∧
    (∃ (s : State) (req : Requester) (c : Fin 4),
      BitVec.toNat (s.rd (Reg.FB_CTL c.val)) < 32 ∧ s.openFor (regAcc req (Reg.FB_CTL c.val) (withField (s.rd (Reg.FB_CTL c.val)) 0 1 1)) Island.fld = true ∧ s.bit (Reg.FB_CTL c.val) 0 = false) ∧
    (∃ (s : State) (req : Requester) (c : Fin 4),
      BitVec.toNat (s.rd (Reg.FB_CTL c.val)) < 32 ∧ s.bit (Reg.FB_CTL c.val) 0 = true ∧ s.openFor (regAcc req (Reg.FB_CTL c.val) (withField (s.rd (Reg.FB_CTL c.val)) 0 1 0)) Island.fld = true ∧ s.fbPin c.val = 1 ∧ fbMode s.image c.val ≠ 0) ∧
    (∃ (s : State) (req : Requester) (c : Fin 4),
      BitVec.toNat (s.rd (Reg.FB_CTL c.val)) < 32 ∧ s.bit (Reg.FB_CTL c.val) 0 = true ∧ s.openFor (regAcc req (Reg.FB_CTL c.val) (withField (s.rd (Reg.FB_CTL c.val)) 0 1 0)) Island.fld = true ∧ (s.fbPin c.val ≠ 1 ∨ fbMode s.image c.val = 0)) ∧
    (∃ (s : State) (c : Fin 4),
      s.fldRuns = true ∧ s.fbPhase c.val ≠ 1) ∧
    (∃ (s : State) (c : Fin 4),
      s.fldRuns = true ∧ s.fbPhase c.val = 1) ∧
    (∃ (s : State) (c : Fin 4) (a : Nat),
      s.fldRuns = true ∧ (s.can c.val).quietAt = some a ∧ a + 400000 * BitVec.toNat (fbWord s.image (c.val) 4) ≤ s.now) ∧
    (∃ (s : State) (c : Fin 4) (a : Nat),
      s.fldRuns = true ∧ (s.can c.val).quietAt = some a ∧ s.now < a + 400000 * BitVec.toNat (fbWord s.image (c.val) 4)) ∧
    (∃ (s : State) (c : Fin 4),
      s.fldRuns = true ∧ (s.fbPhase c.val = 2 ∨ s.fbPhase c.val = 3) ∧ fbMode s.image c.val = 1) ∧
    (∃ (s : State) (c : Fin 4),
      s.fldRuns = true ∧ (s.fbPhase c.val = 2 ∨ s.fbPhase c.val = 3) ∧ fbMode s.image c.val = 1) ∧
    (∃ (s : State) (c : Fin 4),
      s.fldRuns = true ∧ (s.fbPhase c.val = 2 ∨ s.fbPhase c.val = 3) ∧ fbMode s.image c.val ≠ 1) :=
  ⟨⟨init13, .host, 0, by decide +kernel⟩,
   ⟨can3, .host, 0, by decide +kernel⟩,
   ⟨init13, .host, 0, by decide +kernel⟩,
   ⟨can3.setBit (Reg.FB_CTL 1) 0 true, .host, 1, by decide +kernel⟩,
   ⟨can3, 3, by decide +kernel⟩,
   ⟨can0, 0, by decide +kernel⟩,
   ⟨quiet13 (can0.now - 80000000), 0, can0.now - 80000000, by decide +kernel⟩,
   ⟨quiet13 (can0.now - 79999999), 0, can0.now - 79999999, by decide +kernel⟩,
   ⟨can3, 0, by decide +kernel⟩,
   ⟨quiet13 0, 0, by decide +kernel⟩,
   ⟨withImg can3 [], 0, by decide +kernel⟩⟩

theorem met_FramesAreReceived :
    (∃ (s : State) (c : Fin 4) (g : CanFrame) (f : CanFrame) (k : Nat),
      f = g.onBus ∧ s.fldRuns = true ∧ (s.fbPhase c.val = 2 ∨ s.fbPhase c.val = 3) ∧ (f.fdf = true → fbMode s.image c.val = 1) ∧ s.tec c.val < 256 ∧ k < 128 ∧ Takes s c.val k f ∧ (∀ (j : Nat), j < k → ¬Takes s c.val j f)) ∧
    (∃ (s : State) (c : Fin 4) (g : CanFrame) (f : CanFrame),
      f = g.onBus ∧ s.fldRuns = true ∧ (s.fbPhase c.val = 2 ∨ s.fbPhase c.val = 3) ∧ (f.fdf = true → fbMode s.image c.val = 1) ∧ s.tec c.val < 256 ∧ (∀ (k : Nat), k < 128 → ¬Takes s c.val k f)) ∧
    (∃ (s : State) (c : Fin 4) (g : CanFrame) (f : CanFrame),
      f = g.onBus ∧ s.fldRuns = true ∧ (s.fbPhase c.val = 2 ∨ s.fbPhase c.val = 3) ∧ (f.fdf = true → fbMode s.image c.val = 1) ∧ s.tec c.val < 256) ∧
    (∃ (s : State) (c : Fin 4) (g : CanFrame) (f : CanFrame),
      f = g.onBus ∧ s.fldRuns = true ∧ (s.fbPhase c.val = 2 ∨ s.fbPhase c.val = 3) ∧ (f.fdf = true → fbMode s.image c.val = 1) ∧ s.tec c.val < 256) ∧
    (∃ (s : State) (x : RxStage) (rest : List RxStage),
      s.fldRuns = true ∧ s.fb.stage = x :: rest ∧ s.canRoom (s.fld (Reg.FB_RXQ x.ctrl x.qsel) 0 11) (rxEntries x).length = true ∧ takesEntry s (s.fld (Reg.FB_RXQ x.ctrl x.qsel) 0 11) = true) ∧
    (∃ (s : State) (x : RxStage) (rest : List RxStage),
      s.fldRuns = true ∧ s.fb.stage = x :: rest ∧ s.canRoom (s.fld (Reg.FB_RXQ x.ctrl x.qsel) 0 11) (rxEntries x).length = false) ∧
    (∃ (s : State),
      s.fb.stage = []) :=
  ⟨⟨filt13, 0, cf 0x12A 8, cf 0x12A 8, 3, by decide +kernel⟩,
   ⟨filt13, 0, cf 0x130 8, cf 0x130 8, by decide +kernel⟩,
   ⟨quiet13 0, 0, cf 0x130 0, cf 0x130 0, by decide +kernel⟩,
   ⟨quiet13 0, 0, { cf 0x930 2 with data := [] }, { cf 0x130 2 with data := [0, 0] }, by decide +kernel⟩,
   ⟨staged13 0, rxs13, [], by decide +kernel⟩,
   ⟨staged13 14, rxs13, [], by decide +kernel⟩,
   ⟨can3, by decide +kernel⟩⟩

theorem met_RxEntriesHoldTheFrame :
    ∃ (x : RxStage),
      x.f.ok = true ∧ x.ctrl < 4 ∧ x.filter < 128 :=
  ⟨rxs13, by decide +kernel⟩

theorem met_FramesAreRequested :
    (∃ (s : State) (req : Requester) (c : Fin 4) (k : Fin 4) (bits : BitVec 16),
      BitVec.toNat (s.rd (Reg.FB_TXREQ c.val k.val)) < 65536 ∧ s.openFor (regAcc req (Reg.FB_TXREQ c.val k.val + 16384) (word bits.toNat)) Island.fld = true) ∧
    (∃ (s : State) (req : Requester) (c : Fin 4) (k : Fin 4) (bits : BitVec 16),
      BitVec.toNat (s.rd (Reg.FB_TXREQ c.val k.val)) < 65536 ∧ s.openFor (regAcc req (Reg.FB_TXREQ c.val k.val + 32768) (word bits.toNat)) Island.fld = true) ∧
    (∃ (s : State) (c : Fin 4) (k : Fin 2) (q : Nat),
      s.fldRuns = true ∧ fieldOf (s.rd (Reg.FB_TXQ c.val k.val)) 0 11 = q ∧ (BitVec.getLsbD (s.rd (Reg.FB_TXQ c.val k.val)) 11 = false ∨ Tab.get none (s.can c.val).heads k.val ≠ none)) ∧
    (∃ (s : State) (c : Fin 4) (k : Fin 2) (q : Nat),
      s.fldRuns = true ∧ fieldOf (s.rd (Reg.FB_TXQ c.val k.val)) 0 11 = q ∧ (BitVec.getLsbD (s.rd (Reg.FB_TXQ c.val k.val)) 11 = false ∨ Tab.get none (s.can c.val).heads k.val ≠ none)) ∧
    (∃ (s : State) (c : Fin 4) (k : Fin 2) (q : Nat) (tag : Nat),
      s.fldRuns = true ∧ fieldOf (s.rd (Reg.FB_TXQ c.val k.val)) 0 11 = q ∧ BitVec.getLsbD (s.rd (Reg.FB_TXQ c.val k.val)) 11 = true ∧ Tab.get none (s.can c.val).heads k.val = none ∧ (s.queue q).typ = 5 ∧ (s.queue q).state = QState.enabled ∧ (s.queue q).fetching = false ∧ (s.queue q).needDoorbell = false ∧ (s.queue q).prod ≠ (s.queue q).fetchPos ∧ (s.queue q).translated = false ∧ s.canSend = true ∧ s.freeTag = some tag ∧ (s.grantAt arbHostTx 3).isSome = true) :=
  ⟨⟨can3, .host, 0, 3, 0xFFFF, by decide +kernel⟩,
   ⟨can3.wr (Reg.FB_TXREQ 0 3) 0xFFFF, .host, 0, 3, 0x8000, by decide +kernel⟩,
   ⟨can3, 0, 1, 0, by decide +kernel⟩,
   ⟨qtx13, 0, 0, 9, by decide +kernel⟩,
   ⟨can3, 0, 0, 9, 0, by decide +kernel⟩⟩

theorem met_FramesAreSent :
    (∃ (s : State) (c : Fin 4),
      s.fbPhase c.val = 3 ∧ (s.can c.val).onBus = none ∧ s.listens c.val = false ∧ s.txWaiting c.val = []) ∧
    (∃ (s : State) (c : Fin 4) (x : TxSource × TxFrame),
      s.fbPhase c.val = 3 ∧ (s.can c.val).onBus = none ∧ s.listens c.val = false ∧ x ∈ s.txWaiting c.val) ∧
    (∃ (s : State) (c : Fin 4) (src : TxSource) (x : TxFrame),
      s.fldRuns = true ∧ s.held Island.fld = false ∧ s.fbPhase c.val ≠ 6 ∧ s.offered c.val = some (src, x) ∧ sourceOk src ∧ s.bit (Reg.FB_CTL c.val) 3 = false ∧ s.tec c.val ≤ 256) ∧
    (∃ (s : State) (c : Fin 4) (src : TxSource) (x : TxFrame),
      s.fldRuns = true ∧ s.held Island.fld = false ∧ s.fbPhase c.val ≠ 6 ∧ s.offered c.val = some (src, x) ∧ sourceOk src ∧ s.bit (Reg.FB_CTL c.val) 3 = false ∧ s.tec c.val ≤ 256) ∧
    (∃ (s : State) (c : Fin 4),
      s.fldRuns = true ∧ s.held Island.fld = false ∧ s.fbPhase c.val = 6 ∧ s.bit Reg.ARM_STS 12 = false) ∧
    (∃ (s : State) (c : Fin 4),
      s.fldRuns = true ∧ s.bit (Reg.FB_CTL c.val) 2 = false) ∧
    (∃ (s : State) (c : Fin 4) (src : TxSource) (x : TxFrame),
      s.fldRuns = true ∧ s.bit (Reg.FB_CTL c.val) 2 = true ∧ s.offered c.val = some (src, x) ∧ sourceOk src) :=
  ⟨⟨can3, 0, by decide +kernel⟩,
   ⟨tx13, 0, (.buffer 63, tx13.bufFrame 0 63), by decide +kernel⟩,
   ⟨tx13, 0, .buffer 63, tx13.bufFrame 0 63, by decide +kernel⟩,
   ⟨qtx13, 0, .queue 0, head13, by decide +kernel⟩,
   ⟨can3, 2, by decide +kernel⟩,
   ⟨tx13, 0, by decide +kernel⟩,
   ⟨tx13.setBit (Reg.FB_CTL 0) 2 true, 0, .buffer 63, tx13.bufFrame 0 63, by decide +kernel⟩⟩

theorem met_ErrorsAreConfined :
    (∃ (s : State) (c : Fin 4) (err : CanError) (tx : Bool),
      s.fldRuns = true ∧ s.tec c.val < 256 ∧ s.fld (Reg.FB_STS c.val) 3 2 < 2 ∧ (s.fbPhase c.val = 3 ∨ s.fbPhase c.val = 2 ∧ tx = false) ∧ (tx = true → s.offered c.val ≠ none) ∧ (¬(tx = true ∧ err = CanError.ack ∧ s.fld (Reg.FB_STS c.val) 3 2 = 1))) ∧
    (∃ (s : State) (c : Fin 4) (err : CanError) (tx : Bool),
      s.fldRuns = true ∧ s.tec c.val < 256 ∧ s.fld (Reg.FB_STS c.val) 3 2 < 2 ∧ (s.fbPhase c.val = 3 ∨ s.fbPhase c.val = 2 ∧ tx = false) ∧ (tx = true → s.offered c.val ≠ none) ∧ (¬(tx = true ∧ err = CanError.ack ∧ s.fld (Reg.FB_STS c.val) 3 2 = 1))) ∧
    (∃ (s : State) (c : Fin 4),
      s.fldRuns = true ∧ s.fbPhase c.val = 3 ∧ s.offered c.val ≠ none ∧ s.fld (Reg.FB_STS c.val) 3 2 = 1) ∧
    (∃ (s : State) (c : Fin 4),
      s.fldRuns = true ∧ s.fbPhase c.val ≠ 5) ∧
    (∃ (s : State) (c : Fin 4),
      s.fldRuns = true ∧ s.fbPhase c.val = 5) ∧
    (∃ (s : State) (req : Requester) (c : Fin 4),
      BitVec.toNat (s.rd (Reg.FB_CTL c.val)) < 32 ∧ s.openFor (regAcc req (Reg.FB_CTL c.val) (withField (s.rd (Reg.FB_CTL c.val)) 5 1 1)) Island.fld = true) ∧
    (∃ (s : State) (c : Fin 4) (a : Nat),
      s.fldRuns = true ∧ (s.can c.val).windowAt = some a ∧ a + 400000 * BitVec.toNat (fbWord s.image (c.val) 5) ≤ s.now) ∧
    (∃ (s : State) (c : Fin 4) (a : Nat),
      s.fldRuns = true ∧ (s.can c.val).windowAt = some a ∧ s.now < a + 400000 * BitVec.toNat (fbWord s.image (c.val) 5)) :=
  ⟨⟨tx13, 0, .bit1, true, by decide +kernel⟩,
   ⟨quiet13 0, 0, .stuff, false, by decide +kernel⟩,
   ⟨tx13.setFld (Reg.FB_STS 0) 3 2 1, 0, by decide +kernel⟩,
   ⟨can3, 0, by decide +kernel⟩,
   ⟨off13 0, 0, by decide +kernel⟩,
   ⟨off13 0, .host, 0, by decide +kernel⟩,
   ⟨lim13 6000000000, 0, 6000000000, by decide +kernel⟩,
   ⟨lim13 6000000001, 0, 6000000001, by decide +kernel⟩⟩

theorem met_BusLinesAreWatched :
    (∃ (s : State) (c : Fin 4),
      s.fldRuns = true ∧ s.fbPhase c.val ≠ 0) ∧
    (∃ (s : State) (c : Fin 4),
      s.fldRuns = true ∧ (s.can c.val).swapDue = false) ∧
    (∃ (s : State) (c : Fin 4),
      s.fldRuns = true ∧ (s.can c.val).swapDue = true) ∧
    (∃ (s : State) (c : Fin 4),
      s.isOn Island.fld = true ∧ s.fbPin c.val ≠ 0) ∧
    (∃ (s : State) (c : Fin 4),
      s.isOn Island.fld = true ∧ s.fbPin c.val ≠ 0) ∧
    (∃ (s : State) (c : Fin 4),
      s.isOn Island.fld = true ∧ s.fbPin c.val ≠ 0) ∧
    (∃ (s : State) (c : Fin 4),
      s.isOn Island.fld = true ∧ s.fbPin c.val ≠ 0) ∧
    (∃ (s : State) (c : Fin 4),
      s.isOn Island.fld = true ∧ s.fbPin c.val = 0) :=
  ⟨⟨can3, 0, by decide +kernel⟩,
   ⟨can3, 0, by decide +kernel⟩,
   ⟨can3.setCan 0 { swapDue := true }, 0, by decide +kernel⟩,
   ⟨can3, 2, by decide +kernel⟩,
   ⟨can3, 2, by decide +kernel⟩,
   ⟨can3, 0, by decide +kernel⟩,
   ⟨can3, 0, by decide +kernel⟩,
   ⟨can3, 1, by decide +kernel⟩⟩

/-! ### Satellite port -/

/-- Both masters and the wires present; window 3 CONFIRMED and PASS, window 5 POSTED, STRICT, PREFETCHABLE and LOCKABLE. -/
def satImg : List (Nat × List Nat) :=
  [(1, [1, 16384, 0x7F, 0]), (7, [20, 1, 2, 0x33, 0x100, 0x800, 0x40, 0xC5, 0, 0, 2])]
def sat0 : State :=
  let s := withImg (withOn linked [.que, .sat]) satImg
  { s with sat := { s.sat with mrst := 0 } }
def dev14 : State := { sat0 with sat := { sat0.sat with grant := 3 } }
def ctl14 (s : State) : State := (s.wr Reg.SAT_CTL 15).setCfg 38 64
def apt14 (s : State) : State := { ctl14 s with sat := { (ctl14 s).sat with apertures := [(2, [1, 0, 0x20001])] } }
def bst (c a n : Nat) (ws : List SatWord) : SatBurst := { cmd := BitVec.ofNat 3 c, addr := BitVec.ofNat 22 a, len := n, words := ws }
def w14 (n : Nat) : SatWord := { data := word n }
def aptA : Nat := 2 ^ 20 + 2 * 65536 + 64
def evt14 (t : State) (b : Nat) : Bool := t.bit Reg.SAT_EVT b
def lastErr (t : State) : Nat := fieldOf (wordAt t.sat.lastErr 0) 10 4

theorem test_14a :
  sat0.satBusOpen = true ∧ mayHaveBus sat0 { who := 0, age := 3 } = true ∧ mayWin sat0 9 4 = true ∧
  after (.satGrant [{ who := 0, age := 3 }]) sat0 (fun t => t.sat.grant == 1 && (t.arb 9).granted 4 == 1) ∧
  after (.satGrant [{ who := 0, age := 3 }, { who := 1, age := 9 }]) { sat0 with sat := { sat0.sat with lockBy := 1 } } (fun t => t.sat.grant == 1) ∧
  after (.satGrant [{ who := 2, age := 3 }]) { sat0 with sat := { sat0.sat with lockBy := 1 } } (fun t => t.sat.grant == 0) ∧
  after (.satGrantTimeout 0) { sat0 with sat := { sat0.sat with grant := 1 } } (fun t => t.sat.grant == 0) ∧
  after (.satLockTake 1) sat0 (fun t => t.sat.lockBy == 2) ∧
  after (.satLockRelease 1) { sat0 with sat := { sat0.sat with lockBy := 2 } } (fun t => t.sat.lockBy == 0) ∧
  (let s := { sat0 with sat := { sat0.sat with lockBy := 2, lockAt := sat0.now - 40000 } }
   after .satLockmaxExpiry s (fun t => t.sat.lockBy == 0 && t.sat.broken && t.sat.deaf == 2 && evt14 t 10 && evt14 t 15) ∧
   after .satLockmaxExpiry { s with now := s.now - 1 } (fun t => t.sat.lockBy == 2)) ∧
  (let s := { sat0 with sat := { sat0.sat with lockBy := 2, broken := true, splits := [(1, some { b := bst 3 0 1 [] })] } }
   s.openFor (readAcc .sat1 Reg.SAT_LKSTS) .sat = true ∧
   after (.satLkstsRead .sat1) s (fun t => !t.sat.broken && (t.splitOf 1).map (·.answer) == some (some (some [w14 3]))) ∧
   after (.satLkstsRead .host) s (fun t => t.sat.broken)) := by decide +kernel

theorem test_14b :
  (let s := apt14 sat0
   let b := bst 3 aptA 4 []
   heard s 0 b ∧ b.ok [3] = true ∧ s.hostAddr b.addr = some 0x1000000040100 ∧ s.canSend = true ∧ s.freeTag = some 0 ∧
   after (.satHrd 0 b) s (fun t => t.sent == [Output.memRead 0 0x1000000040100 4, Output.satRetry 0]) ∧
   after (.satHrd 0 b) s (fun t => t.splitOf 0 == some { b := b, issued := true } && t.sat.reqPin == 0) ∧
   after (.satHrd 0 (bst 3 (2 ^ 20) 4 [])) s (fun t => (t.splitOf 0).map (·.answer) == some (some none) && t.rd Reg.SAT_HDROP_CNT == 1) ∧
   after (.satHrd 0 (bst 3 (2 ^ 21) 4 [])) s (fun t => (t.splitOf 0).map (·.answer) == some (some none) && t.sent == [.satRetry 0]) ∧
   after (.satHrd 0 (bst 3 5 2 [])) s (fun t => (t.splitOf 0).map (·.answer) == some (some none)) ∧
   after (.satHrd 0 (bst 3 (0x01 * 16384 + 1) 1 [])) (s.wr 0x10004 5) (fun t => ((t.splitOf 0).map (·.answer)).isSome && t.sent == [.satRetry 0]) ∧
   (let u := s.setSplit 0 (some { b := b, issued := true })
    after (.satHrd 0 b) u (fun t => t.sent == [.satRetry 0] && t.sat.splits == u.sat.splits) ∧
    after (.satHrd 0 (bst 3 aptA 5 [])) u (fun t => t.sent == [.satRetry 0] && t.sat.splits == u.sat.splits) ∧
    after (.satHrd 0 b) (u.setSplit 0 (some { b := b, issued := true, answer := some (some [w14 7]) })) (fun t => t.sent == [.satData 0 [w14 7]] && t.splitOf 0 == none) ∧
    after (.satHrd 0 b) (u.setSplit 0 (some { b := b, answer := some none })) (fun t => t.sent == [.satErr 0] && t.splitOf 0 == none) ∧
    after (.splitAnswerTimeout 0) (u.setSplit 0 (some { b := b, answer := some none, answerAt := s.now - 400000 })) (fun t => t.splitOf 0 == none && t.rd Reg.SAT_SPLIT_DROP == 1) ∧
    after (.splitAnswerTimeout 0) (u.setSplit 0 (some { b := b, answer := some none, answerAt := s.now - 399999 })) (fun t => (t.splitOf 0).isSome))) ∧
  (let s := { apt14 sat0 with sat := { (apt14 sat0).sat with lockBy := 1 } }
   let b := { bst 5 aptA 3 [w14 8, w14 9] with lock := true }
   b.ok [5] = true ∧ splitToHost s 0 b = true ∧
   after (.satHatm 0 b) s (fun t => t.sent == [.atomic 0 0x1000000040100 .cas 9 8, .satRetry 0]) ∧
   after (.satHatm 0 { b with lock := false }) { s with sat := { s.sat with lockBy := 0 } } (fun t => (t.splitOf 0).map (·.answer) == some (some none) && t.sent == [.satRetry 0])) := by decide +kernel

theorem test_14c :
  (let s := apt14 sat0
   let b := bst 4 aptA 2 [w14 8, { data := 9, poi := true }]
   heard s 1 b ∧ b.ok [4] = true ∧
   after (.satHwr 1 b) s (fun t => t.sent == [.memWrite 0x1000000040100 [8, 9] false true] && evt14 t 13) ∧
   after (.satHwr 1 b) (s.setCfg 1 2) (fun t => t.sent == [] && evt14 t 14 && t.rd Reg.SAT_HDROP_CNT == 1) ∧
   after (.satHwr 1 { b with words := [w14 8] }) s (fun t => t.sat.hwr == some (1, b.addr, [w14 8]) && t.sent == []) ∧
   after (.satHwr 1 b) (s.setFld Reg.HST_LINK_STS 0 3 4) (fun t => t.sat.toHost == [(0x1000000040100, b.words)] && t.sent == []) ∧
   after (.satHwr 1 (bst 4 (2 ^ 21) 1 [w14 1])) s (fun t => evt14 t 14 && t.sat.toHost == []) ∧
   after (.satHwr 1 b) { s with sat := { s.sat with deaf := 2 } } (fun t => t.sent == [.satErr 1]) ∧
   after (.satHwr 1 { b with addrPar := false }) s (fun t => t.sent == [.satErr 1] && t.rd Reg.SAT_PAR_CNT == 1 && evt14 t 11) ∧
   after (.satCmdReserved 1 (bst 6 aptA 2 [])) s (fun t => t.sent == [.satErr 1]) ∧
   after (.satTargetTimeout 1 77) s (fun t => t.sent == [.satErr 1] && evt14 t 12)) := by decide +kernel

def acc14 (o : Nat) (ds : List (Nat × Nat)) : Bar2Access :=
  { offset := BitVec.ofNat 26 o, dwords := ds.map fun d => (BitVec.ofNat 4 d.1, BitVec.ofNat 32 d.2) }

theorem test_14d :
  (let b := cutBursts 3 ((List.range 128).map fun k => (BitVec.ofNat 22 (0x20028 + k), w14 k))
   b.map (fun x => (x.addr.toNat, x.words.length)) = [(0x20028, 16), (0x20038, 8), (0x20040, 16), (0x20050, 16), (0x20060, 16), (0x20070, 16), (0x20080, 16), (0x20090, 16), (0x200A0, 8)] ∧
   (b.flatMap fun x => x.words.map (·.data.toNat)) = List.range 128) ∧
  takesMemory sat0 = true ∧ sat0.satGone = false ∧
  after (.bridgeHostWrite (acc14 0x100A0 [(15, 5), (15, 6), (1, 7), (0, 8), (7, 9)])) sat0 (fun t =>
    t.sat.posted == [{ win := 3, addr := 0x20028, words := [w14 5, w14 6] }, { win := 3, addr := 0x2002C, words := [w14 9] }] && t.rd Reg.SAT_PARTIAL_CNT == 1) ∧
  after (.bridgeHostWrite (acc14 0 [(15, 5), (1, 7)])) sat0 (fun t => t.sat.posted == []) ∧
  after (.bridgeHostWrite { acc14 0 [(15, 5)] with poisoned := true }) sat0 (fun t => t.sat.posted == [] && t.rd Reg.HST_POISON_CNT == 1) ∧
  after (.bridgeHostWrite (acc14 0x8000 [(15, 5)])) sat0 (fun t => t.sat.posted == [] && t.sent == []) ∧
  after (.bridgeHostRead (acc14 0x8000 [(15, 5)])) sat0 (fun t => t.sent == [.completion .host .ur [] false]) ∧
  after (.bridgeHostRead (acc14 0x100A0 [(15, 0), (15, 0)])) sat0 (fun t => t.sat.nonPosted == [{ win := 3, want := .read [some 0x20028, some 0x20029], sinceAt := t.now, ahead := 0, behind := 0 }] && t.sent == []) ∧
  (let s := sat0.setPrefetch 5 { words := [(4, w14 9, sat0.now - 7999)] }
   after (.bridgeHostRead (acc14 16 [(15, 0)])) s (fun t => t.sat.nonPosted == [] && t.sent == [.completion .host .sc [9] false]) ∧
   after (.bridgeHostRead (acc14 16 [(15, 0)])) { s with now := s.now + 1 } (fun t => t.sat.nonPosted.length == 1)) ∧
  after (.bridgeHostRead (acc14 0x100A0 [(15, 0)])) { sat0 with sat := { sat0.sat with posted := List.replicate 3 { win := 3, addr := 0, words := [] } } } (fun t => t.sat.nonPosted.map (·.ahead) == [3]) := by decide +kernel

theorem test_14e :
  (let s := { dev14 with sat := { dev14.sat with posted := [{ win := 3, addr := 0x20028, words := [w14 5] }, { win := 5, addr := 4, words := [w14 6] }] } }
   let u := { s with sat := { s.sat with posted := s.sat.posted.drop 1 } }
   s.satBusOpen = true ∧ confirmedWin s 3 = true ∧ confirmedWin s 5 = false ∧
   after (.bridgeBurst (.done [])) s (fun t => t.sat.posted == u.sat.posted && t.sent == [.satBurst true 0x20028 [w14 5] 1]) ∧
   after (.bridgeBurst .retry) s (fun t => t.sat.posted == s.sat.posted) ∧
   after (.bridgeBurst (.err [])) s (fun t => t.sat.posted == u.sat.posted && t.rd Reg.SAT_FENCE == 8 && evt14 t 5 && lastErr t == 2) ∧
   after (.bridgeBurst (.timeout [])) u (fun t => t.sat.posted == [] && t.rd Reg.SAT_WERR_CNT == 1 && evt14 t 4 && evt14 t 12 && lastErr t == 1) ∧
   after (.bridgeBurst (.done [])) (s.wr Reg.SAT_FENCE 8) (fun t => t.sat.posted == u.sat.posted && t.sent == [] && t.rd Reg.SAT_FENCE_DROP == 1)) ∧
  (let j : BridgeJob := { win := 3, want := .read [some 4, some 5], todo := [(4, 2)], started := true, sinceAt := 5, ahead := 0, behind := 0 }
   let s := { dev14 with sat := { dev14.sat with nonPosted := [j] } }
   after (.bridgeBurst (.done [w14 8, w14 9])) s (fun t => t.sat.nonPosted == [] && t.sent == [.completion .host .sc [8, 9] false, .satBurst false 4 [] 2]) ∧
   after (.bridgeBurst .retry) s (fun t => t.sat.nonPosted == [{ j with stalled := true }]) ∧
   after (.bridgeBurst (.err [])) s (fun t => t.sat.nonPosted == [] && evt14 t 6 && t.sent.head? == some (.completion .host .ca [] false)) ∧
   (let u := { s with sat := { s.sat with nonPosted := [{ j with todo := [], started := false, sinceAt := s.now - 4000000 }] } }
    after .bridgeReadStartTimeout u (fun t => t.sat.nonPosted == [] && evt14 t 6 && lastErr t == 0 && t.sent.head? == some (.completion .host .ca [] false)) ∧
    after .bridgeReadStartTimeout { u with now := u.now - 1 } (fun t => t.sat.nonPosted.length == 1))) ∧
  (let j : BridgeJob := { win := 5, want := .atomic .fetchAdd 4 3 0, sinceAt := 5, ahead := 0, behind := 0 }
   let s := { dev14 with sat := { dev14.sat with nonPosted := [j] } }
   after (.bridgeBurst (.done [w14 8])) s (fun t => t.sat.lockBy == 3 && t.sat.nonPosted.map (·.got) == [[(4, w14 8)]]) ∧
   after (.bridgeBurst (.done [])) { s with sat := { s.sat with nonPosted := [{ j with started := true, got := [(4, w14 8)], todo := [(4, 1)] }] } } (fun t =>
     t.sat.lockBy == 0 && t.sat.nonPosted == [] && t.rd Reg.HST_ATOMIC_CNT == 1 && t.sent == [.completion .host .sc [8] false, .satBurst true 4 [w14 11] 1])) ∧
  after (.bridgeBurst (.done [])) sat0 (fun t => t == sat0) := by decide +kernel

theorem test_14f :
  (let s := (sat0.setPrefetch 5 { words := [(4, w14 9, sat0.now - 7999), (5, w14 9, sat0.now - 8000)] }).setPrefetch 3 { words := [(9, w14 9, 0)] }
   after (.satWrObserved 127 2) s (fun t => t.prefetched 5 == {} && t.prefetched 3 == s.prefetched 3) ∧
   after (.satWrObserved 128 2) s (fun t => t.prefetched 5 == s.prefetched 5) ∧
   after (.prefetchExpiry 5) s (fun t => (t.prefetched 5).words.length == 1)) ∧
  after (.satIntAssert 2) sat0 (fun t => evt14 t 2 && t.satSts.getLsbD 2) ∧
  (let s := { apt14 sat0 with sat := { (apt14 sat0).sat with lockBy := 1, grant := 1, hwr := some (0, BitVec.ofNat 22 aptA, [w14 4, w14 5]) } }.setLock 9 { owner := some (.req .sat0), broken := false }
   s.satPowered = true ∧
   after (.satMrstAssert 0) s (fun t => t.sat.grant == 0 && t.sat.lockBy == 0 && t.sat.broken && evt14 t 8 && evt14 t 10 && evt14 t 7 && t.lock 9 == { owner := none, broken := true } &&
     t.sent == [.memWrite 0x1000000040100 [4, 5] false false] && t.sat.trunc == [word (4 + 4 * 16), word aptA, word (aptA + 1)])) ∧
  after (.satMrstDeassert 0) { sat0 with sat := { sat0.sat with mrst := 3 } } (fun t => t.sat.mrst == 2) ∧
  (let s := sat0.setIsland .sat { sat0.island .sat with power := .doze }
   s.masterThere 1 = true ∧ s.wakeForbidden .sat = false ∧ after (.satReqWake 1) s (fun t => (t.island .sat).waking && t.sat.reqPin == 2)) := by decide +kernel

/-! ### Witnesses: satellite port -/
def sat14 (s : State) (f : SatSt → SatSt) : State := { s with sat := f s.sat }
def splitIs (x : Split) : State := (apt14 sat0).setSplit 0 (some x)
def rd14 : SatBurst := bst 3 aptA 4 []
def at14 : SatBurst := { bst 5 aptA 3 [w14 8, w14 9] with lock := true }
def wr14 : SatBurst := bst 4 aptA 2 [w14 8, { data := 9, poi := true }]
def regA (k : Nat) : Nat := k / 65536 * 16384 + k % 65536 / 4
def full32 : State := sat14 sat0 fun x => { x with toHost := List.replicate 32 (0, []) }
def win14 (o n : Nat) (h : (windowAt sat0.image o n).isSome = true) : SatWindow := ((windowAt sat0.image o n).get h).1
def win3 : SatWindow := win14 0x100A0 1 (by decide +kernel)
def win5 : SatWindow := win14 0 1 (by decide +kernel)
def par14 : Bar2Access := acc14 0 [(15, 5), (1, 7)]
def whole14 : Bar2Access := acc14 0x100A0 [(15, 5), (0, 6)]
def read14 : Bar2Access := acc14 16 [(15, 0)]
def long14 (n : Nat) : Bar2Access := acc14 0x10000 (List.replicate n (15, 0))
def posts (n : Nat) (s : State) : State := sat14 s fun x => { x with posted := List.replicate n { win := 3, addr := 0, words := [] } }
def jobs (n : Nat) (s : State) : State := sat14 s fun x => { x with nonPosted := List.replicate n { win := 3, want := .read [some 4], sinceAt := sat0.now, ahead := 0, behind := 0 } }
def wb (n : Nat) : WriteBurst := { win := n, addr := 0x20028, words := [w14 5] }
def post1 : State := sat14 dev14 fun x => { x with posted := [wb 3] }
def rj (more : List (BitVec 22 × Nat)) : BridgeJob :=
  { win := 3, want := .read [some 4, some 5], todo := (4, 2) :: more, started := true, sinceAt := 5, ahead := 0, behind := 0 }
def job1 (j : BridgeJob) : State := sat14 dev14 fun x => { x with nonPosted := [j] }
def aj (started : Bool) : BridgeJob :=
  { win := 5, want := .atomic .fetchAdd 4 3 0, started := started, todo := if started then [(4, 1)] else [], got := if started then [(4, w14 8)] else [], sinceAt := 5, ahead := 0, behind := 0 }
def lj (t : Nat) : BridgeJob := { win := 15, want := .read [some 4], sinceAt := t, ahead := 0, behind := 0 }
def lock14 (m : Nat) (t : Nat) : State := sat14 sat0 fun x => { x with lockBy := m, lockAt := t }
theorem met_BusAndLock :
    (∃ (s : State),
      s.satBusOpen = true) ∧
    (∃ (s : State) (r : SatRequest),
      s.satBusOpen = true ∧ mayHaveBus s r = true ∧ mayWin s 9 (satActivity r) = true) ∧
    (∃ (s : State) (m : Fin 2),
      s.satRuns = true ∧ (s.sat.grant ≠ m.val + 1 ∨ s.sat.burstSince = true ∨ s.now < s.sat.grantAt + s.satCycles 16)) ∧
    (∃ (s : State) (m : Fin 2),
      s.satRuns = true ∧ (s.sat.grant ≠ m.val + 1 ∨ s.sat.burstSince = true ∨ s.now < s.sat.grantAt + s.satCycles 16)) ∧
    (∃ (s : State) (m : Fin 2),
      s.satRuns = true ∧ s.sat.grant = m.val + 1 ∧ s.sat.burstSince = false ∧ s.sat.grantAt + s.satCycles 16 ≤ s.now) ∧
    (∃ (s : State) (m : Fin 2),
      s.satRuns = true ∧ s.masterThere m.val = true ∧ s.sat.lockBy = 0 ∧ s.sat.deaf.getLsbD m.val = false) ∧
    (∃ (s : State) (m : Fin 2),
      s.satRuns = true ∧ s.masterThere m.val = true ∧ s.sat.lockBy ≠ 0) ∧
    (∃ (s : State) (m : Fin 2),
      s.satRuns = true ∧ s.sat.lockBy = m.val + 1 ∧ (s.rd Reg.SAT_LOCKMAX = 0 ∨ s.now < s.sat.lockAt + 400 * BitVec.toNat (s.rd Reg.SAT_LOCKMAX))) ∧
    (∃ (s : State) (m : Fin 2),
      s.satRuns = true ∧ s.sat.lockBy = m.val + 1 ∧ s.rd Reg.SAT_LOCKMAX ≠ 0 ∧ s.sat.lockAt + 400 * BitVec.toNat (s.rd Reg.SAT_LOCKMAX) ≤ s.now) ∧
    (∃ (s : State) (req : Requester),
      s.openFor (readAcc req Reg.SAT_LKSTS) Island.sat = true) :=
  ⟨⟨sat0, by decide +kernel⟩,
   ⟨sat0, { who := 2, age := 3 }, by decide +kernel⟩,
   ⟨sat0, 1, by decide +kernel⟩,
   ⟨sat14 sat0 (fun x => { x with grant := 2, grantAt := sat0.now }), 1, by decide +kernel⟩,
   ⟨sat14 sat0 (fun x => { x with grant := 2 }), 1, by decide +kernel⟩,
   ⟨sat0, 1, by decide +kernel⟩,
   ⟨lock14 1 0, 1, by decide +kernel⟩,
   ⟨lock14 2 (sat0.now - 39999), 1, by decide +kernel⟩,
   ⟨lock14 2 (sat0.now - 40000), 1, by decide +kernel⟩,
   ⟨sat0, .sat1, by decide +kernel⟩⟩

theorem met_SplitRequests :
    (∃ (s : State) (m : Fin 2) (b : SatBurst) (x : Split) (c : Instr),
      IsSplit c m b ∧ heard s (m.val) b ∧ s.splitOf m.val = some x ∧ sameSplit x.b b = false) ∧
    (∃ (s : State) (m : Fin 2) (b : SatBurst) (x : Split) (c : Instr),
      IsSplit c m b ∧ heard s (m.val) b ∧ s.splitOf m.val = some x ∧ sameSplit x.b b = true ∧ x.answer = none ∧ x.issued = true) ∧
    (∃ (s : State) (m : Fin 2) (b : SatBurst) (x : Split) (c : Instr) (ws : List SatWord),
      IsSplit c m b ∧ heard s (m.val) b ∧ s.splitOf m.val = some x ∧ sameSplit x.b b = true ∧ x.answer = some (some ws)) ∧
    (∃ (s : State) (m : Fin 2) (b : SatBurst) (x : Split) (c : Instr),
      IsSplit c m b ∧ heard s (m.val) b ∧ s.splitOf m.val = some x ∧ sameSplit x.b b = true ∧ x.answer = some none) ∧
    (∃ (s : State) (m : Fin 2) (raw : SatBurst) (b : SatBurst),
      b = raw.onBus 3 ∧ heard s m.val b ∧ s.splitOf m.val = none ∧ (2 ≤ spaceOf b.addr ∨ spaceOf b.addr = 0 ∧ s.regSpaceOk m.val b = false ∨ spaceOf b.addr = 1 ∧ s.hostSpaceOk m.val = false)) ∧
    (∃ (s : State) (m : Fin 2) (raw : SatBurst) (b : SatBurst),
      b = raw.onBus 3 ∧ heard s m.val b ∧ s.splitOf m.val = none ∧ (2 ≤ spaceOf b.addr ∨ spaceOf b.addr = 0 ∧ s.regSpaceOk m.val b = false ∨ spaceOf b.addr = 1 ∧ s.hostSpaceOk m.val = false)) ∧
    (∃ (s : State) (m : Fin 2) (raw : SatBurst) (b : SatBurst),
      b = raw.onBus 3 ∧ heard s m.val b ∧ s.splitOf m.val = none ∧ (2 ≤ spaceOf b.addr ∨ spaceOf b.addr = 0 ∧ s.regSpaceOk m.val b = false ∨ spaceOf b.addr = 1 ∧ s.hostSpaceOk m.val = false)) ∧
    (∃ (s : State) (m : Fin 2) (raw : SatBurst) (b : SatBurst),
      b = raw.onBus 3 ∧ heard s m.val b ∧ s.splitOf m.val = none ∧ (2 ≤ spaceOf b.addr ∨ spaceOf b.addr = 0 ∧ s.regSpaceOk m.val b = false ∨ spaceOf b.addr = 1 ∧ s.hostSpaceOk m.val = false)) ∧
    (∃ (s : State) (m : Fin 2) (raw : SatBurst) (b : SatBurst),
      b = raw.onBus 3 ∧ heard s m.val b ∧ s.splitOf m.val = none ∧ spaceOf b.addr = 1 ∧ s.hostSpaceOk m.val = true ∧ s.apertureOpen b = false) ∧
    (∃ (s : State) (m : Fin 2) (raw : SatBurst) (b : SatBurst) (host : BitVec 64) (tag : Nat),
      b = raw.onBus 3 ∧ heard s m.val b ∧ s.splitOf m.val = none ∧ spaceOf b.addr = 1 ∧ s.hostSpaceOk m.val = true ∧ s.hostAddr b.addr = some host ∧ s.canSend = true ∧ s.freeTag = some tag ∧ (s.grantAt arbHostTx 4).isSome = true ∧ s.bme = true ∧ bridgeIdle s) ∧
    (∃ (s : State) (m : Fin 2) (raw : SatBurst) (b : SatBurst) (i : Island) (r : RegRow),
      b = raw.onBus 3 ∧ heard s m.val b ∧ s.splitOf m.val = none ∧ spaceOf b.addr = 0 ∧ s.regSpaceOk m.val b = true ∧ s.openFor (spaceAccess m.val b.addr 0) i = true ∧ regAt (accBlk (spaceAccess m.val b.addr 0)) (accOff (spaceAccess m.val b.addr 0) % 16384) = RegAt.reg r ∧ MailboxId.at? (accKey (spaceAccess m.val b.addr 0)) = none ∧ pairAt? (accKey (spaceAccess m.val b.addr 0)) = none ∧ within? (accKey (spaceAccess m.val b.addr 0)) 524288 64 = none ∧ accKey (spaceAccess m.val b.addr 0) ≠ Reg.SAT_STS ∧ accKey (spaceAccess m.val b.addr 0) ≠ Reg.SAT_LKSTS ∧ accBlk (spaceAccess m.val b.addr 0) ≤ 19) ∧
    (∃ (s : State) (m : Fin 2) (raw : SatBurst) (b : SatBurst),
      b = raw.onBus 5 ∧ s.satBusOpen = true ∧ s.masterThere m.val = true ∧ s.sat.deaf.getLsbD m.val = false ∧ b.addrPar = true ∧ (∀ (w : SatWord), w ∈ b.words → w.parBad = false) ∧ s.splitOf m.val = none ∧ (s.sat.lockBy = if b.lock = true then m.val + 1 else s.sat.lockBy) ∧ (b.lock = false ∨ 3 < b.len ∨ s.atomicReqEn = false ∨ spaceOf b.addr ≠ 1 ∨ s.hostSpaceOk m.val = false)) ∧
    (∃ (s : State) (m : Fin 2) (raw : SatBurst) (b : SatBurst) (op : AtomOp) (n : Nat) (host : BitVec 64) (tag : Nat),
      b = raw.onBus 5 ∧ s.satBusOpen = true ∧ s.masterThere m.val = true ∧ s.sat.deaf.getLsbD m.val = false ∧ b.addrPar = true ∧ (∀ (w : SatWord), w ∈ b.words → w.parBad = false) ∧ s.splitOf m.val = none ∧ (s.sat.lockBy = if b.lock = true then m.val + 1 else s.sat.lockBy) ∧ b.lock = true ∧ hatmOp b.len = some (op, n) ∧ splitToHost s m.val b = true ∧ s.hostAddr b.addr = some host ∧ s.canSend = true ∧ s.freeTag = some tag ∧ (s.grantAt arbHostTx 4).isSome = true ∧ s.bme = true ∧ bridgeIdle s) ∧
    (∃ (s : State) (m : Fin 2) (x : Split),
      s.satRuns = true ∧ s.splitOf m.val = some x ∧ x.answer ≠ none ∧ s.now < x.answerAt + 400000) ∧
    (∃ (s : State) (m : Fin 2) (x : Split),
      s.satRuns = true ∧ s.splitOf m.val = some x ∧ x.answer ≠ none ∧ x.answerAt + 400000 ≤ s.now) :=
  ⟨⟨splitIs { b := rd14, issued := true }, 0, bst 3 aptA 5 [], { b := rd14, issued := true }, .satHrd 0 (bst 3 aptA 5 []), ⟨bst 3 aptA 5 [], .inl ⟨rfl, by decide⟩⟩, by decide +kernel⟩,
   ⟨splitIs { b := rd14, issued := true }, 0, rd14, { b := rd14, issued := true }, .satHrd 0 rd14, ⟨rd14, .inl ⟨rfl, by decide⟩⟩, by decide +kernel⟩,
   ⟨splitIs { b := rd14, answer := some (some [w14 7]) }, 0, rd14, { b := rd14, answer := some (some [w14 7]) }, .satHrd 0 rd14, [w14 7], ⟨rd14, .inl ⟨rfl, by decide⟩⟩, by decide +kernel⟩,
   ⟨splitIs { b := rd14, answer := some none }, 0, rd14, { b := rd14, answer := some none }, .satHrd 0 rd14, ⟨rd14, .inl ⟨rfl, by decide⟩⟩, by decide +kernel⟩,
   ⟨sat0, 1, bst 3 (2 ^ 21) 16 [], bst 3 (2 ^ 21) 16 [], by decide +kernel⟩,
   ⟨sat0, 1, bst 0 (2 ^ 21) 0 [w14 1], bst 3 (2 ^ 21) 16 [], by decide +kernel⟩,
   ⟨sat0, 1, bst 3 0 1 [], bst 3 0 1 [], by decide +kernel⟩,
   ⟨sat0, 0, rd14, rd14, by decide +kernel⟩,
   ⟨apt14 sat0, 0, bst 3 (2 ^ 20) 4 [], bst 3 (2 ^ 20) 4 [], by decide +kernel⟩,
   ⟨apt14 sat0, 0, rd14, rd14, 0x1000000040100, 0, by decide +kernel⟩,
   ⟨apt14 sat0, 0, bst 3 (regA Reg.HST_LTR_US) 1 [], bst 3 (regA Reg.HST_LTR_US) 1 [], .hst, rowOf Reg.HST_LTR_US, by decide +kernel⟩,
   ⟨apt14 sat0, 0, { at14 with lock := false }, { at14 with lock := false }, by decide +kernel⟩,
   ⟨sat14 (apt14 sat0) (fun x => { x with lockBy := 1 }), 0, at14, at14, .cas, 2, 0x1000000040100, 0, by decide +kernel⟩,
   ⟨splitIs { b := rd14, answer := some none, answerAt := sat0.now - 399999 }, 0, { b := rd14, answer := some none, answerAt := sat0.now - 399999 }, by decide +kernel⟩,
   ⟨splitIs { b := rd14, answer := some none, answerAt := sat0.now - 400000 }, 0, { b := rd14, answer := some none, answerAt := sat0.now - 400000 }, by decide +kernel⟩⟩

theorem met_MastersWrite :
    (∃ (s : State),
      32 ≤ s.sat.toHost.length) ∧
    (∃ (s : State) (m : Fin 2) (raw : SatBurst) (b : SatBurst),
      b = raw.onBus 4 ∧ heard s m.val b ∧ s.sat.toHost.length < 32 ∧ (2 ≤ spaceOf b.addr ∨ spaceOf b.addr = 0 ∧ s.regSpaceOk m.val b = false ∨ spaceOf b.addr = 1 ∧ s.hostSpaceOk m.val = false)) ∧
    (∃ (s : State) (m : Fin 2) (raw : SatBurst) (b : SatBurst),
      b = raw.onBus 4 ∧ heard s m.val b ∧ s.sat.toHost.length < 32 ∧ spaceOf b.addr = 1 ∧ s.hostSpaceOk m.val = true ∧ s.apertureOpen b = false) ∧
    (∃ (s : State) (m : Fin 2) (raw : SatBurst) (b : SatBurst) (host : BitVec 64),
      b = raw.onBus 4 ∧ heard s m.val b ∧ s.sat.toHost.length < 32 ∧ spaceOf b.addr = 1 ∧ s.hostSpaceOk m.val = true ∧ s.hostAddr b.addr = some host ∧ s.bme = true ∧ b.words.length < b.len) ∧
    (∃ (s : State) (m : Fin 2) (raw : SatBurst) (b : SatBurst) (host : BitVec 64),
      b = raw.onBus 4 ∧ heard s m.val b ∧ s.sat.toHost.length < 32 ∧ spaceOf b.addr = 1 ∧ s.hostSpaceOk m.val = true ∧ s.hostAddr b.addr = some host ∧ s.bme = true ∧ b.words.length = b.len ∧ (s.canSend = false ∨ bridgeIdle s ∧ s.grantAt arbHostTx 4 = none)) ∧
    (∃ (s : State) (m : Fin 2) (raw : SatBurst) (b : SatBurst) (host : BitVec 64),
      b = raw.onBus 4 ∧ heard s m.val b ∧ s.sat.toHost.length < 32 ∧ spaceOf b.addr = 1 ∧ s.hostSpaceOk m.val = true ∧ s.hostAddr b.addr = some host ∧ s.bme = true ∧ b.words.length = b.len ∧ s.canSend = true ∧ (s.grantAt arbHostTx 4).isSome = true ∧ bridgeIdle s) ∧
    (∃ (s : State) (m : Fin 2) (raw : SatBurst) (b : SatBurst) (host : BitVec 64),
      b = raw.onBus 4 ∧ heard s m.val b ∧ s.sat.toHost.length < 32 ∧ spaceOf b.addr = 1 ∧ s.hostSpaceOk m.val = true ∧ s.hostAddr b.addr = some host ∧ s.bme = true ∧ b.words.length = b.len ∧ s.canSend = true ∧ (s.grantAt arbHostTx 4).isSome = true ∧ bridgeIdle s) ∧
    (∃ (s : State) (m : Fin 2) (raw : SatBurst) (b : SatBurst) (i : Island) (r : RegRow) (w : SatWord),
      b = raw.onBus 4 ∧ heard s m.val b ∧ s.sat.toHost.length < 32 ∧ spaceOf b.addr = 0 ∧ s.regSpaceOk m.val b = true ∧ b.words = [w] ∧ w.poi = false ∧ s.openFor (spaceAccess m.val b.addr w.data) i = true ∧ accBlk (spaceAccess m.val b.addr w.data) ≤ 19 ∧ regAt (accBlk (spaceAccess m.val b.addr w.data)) (accOff (spaceAccess m.val b.addr w.data) % 16384) = RegAt.reg r ∧ actingReg (accKey (spaceAccess m.val b.addr w.data)) = false ∧ r.noWritable = false ∧ w.data &&& r.reservedBits = 0 ∧ accAlias (spaceAccess m.val b.addr w.data) = 0) ∧
    (∃ (s : State) (m : Fin 2) (raw : SatBurst) (b : SatBurst),
      b = raw.onBus (raw.cmd ||| 6) ∧ heard s m.val b) ∧
    (∃ (s : State) (m : Fin 2) (raw : SatBurst) (b : SatBurst),
      b = raw.onBus (raw.cmd ||| 6) ∧ heard s m.val b) ∧
    (∃ (s : State) (m : Fin 2) (b : SatBurst) (c : Instr),
      s.satBusOpen = true ∧ s.masterThere m.val = true ∧ s.sat.toHost.length < 32 ∧ (IsSplit c m b ∨ ∃ raw, c = Instr.satHwr m raw ∧ b = raw.onBus 4 ∨ c = Instr.satCmdReserved m raw ∧ b = raw.onBus (raw.cmd ||| 6)) ∧ s.sat.deaf.getLsbD m.val = true) ∧
    (∃ (s : State) (m : Fin 2) (b : SatBurst) (c : Instr),
      s.satBusOpen = true ∧ s.masterThere m.val = true ∧ s.sat.toHost.length < 32 ∧ (IsSplit c m b ∨ ∃ raw, c = Instr.satHwr m raw ∧ b = raw.onBus 4 ∨ c = Instr.satCmdReserved m raw ∧ b = raw.onBus (raw.cmd ||| 6)) ∧ s.sat.deaf.getLsbD m.val = false ∧ b.addrPar = false) ∧
    (∃ (s : State) (m : Fin 2),
      s.satBusOpen = true ∧ s.masterThere m.val = true) :=
  ⟨⟨full32, by decide +kernel⟩,
   ⟨sat0, 1, wr14, wr14, by decide +kernel⟩,
   ⟨(apt14 sat0).setCfg 1 2, 1, wr14, wr14, by decide +kernel⟩,
   ⟨apt14 sat0, 1, { wr14 with words := [w14 8] }, { wr14 with words := [w14 8] }, 0x1000000040100, by decide +kernel⟩,
   ⟨(apt14 sat0).setFld Reg.HST_LINK_STS 0 3 4, 1, wr14, wr14, 0x1000000040100, by decide +kernel⟩,
   ⟨apt14 sat0, 1, wr14, wr14, 0x1000000040100, by decide +kernel⟩,
   ⟨apt14 sat0, 1, { wr14 with cmd := 0, ue := true }, { wr14 with ue := true }, 0x1000000040100, by decide +kernel⟩,
   ⟨apt14 sat0, 1, bst 4 (regA Reg.HST_LTR_US) 1 [w14 77], bst 4 (regA Reg.HST_LTR_US) 1 [w14 77], .hst, rowOf Reg.HST_LTR_US, w14 77, by decide +kernel⟩,
   ⟨sat0, 1, bst 7 aptA 2 [], bst 7 aptA 2 [], by decide +kernel⟩,
   ⟨sat0, 1, bst 0 aptA 2 [w14 8], bst 6 aptA 2 [], by decide +kernel⟩,
   ⟨sat14 sat0 (fun x => { x with deaf := 2 }), 1, wr14, .satHwr 1 wr14, by decide +kernel, by decide +kernel, by decide +kernel, .inr ⟨wr14, .inl (by decide +kernel)⟩, by decide +kernel⟩,
   ⟨sat0, 1, { bst 6 aptA 2 [] with addrPar := false }, .satCmdReserved 1 { bst 6 aptA 2 [] with addrPar := false }, by decide +kernel, by decide +kernel, by decide +kernel, .inr ⟨{ bst 6 aptA 2 [] with addrPar := false }, .inr (by decide +kernel)⟩, by decide +kernel⟩,
   ⟨sat0, 1, by decide +kernel⟩⟩

theorem met_BurstsCarryTheirWords :
    (∃ (win : Nat) (ws : List (BitVec 22 × SatWord)) (b : WriteBurst),
      (List.Pairwise (fun x1 x2 => x1 < x2) (List.map (fun e => e.fst.toNat) ws)) ∧ b ∈ cutBursts win ws) ∧
    (∃ (win : Nat) (ws : List (BitVec 22 × SatWord)) (b : WriteBurst),
      (List.Pairwise (fun x1 x2 => x1 < x2) (List.map (fun e => e.fst.toNat) ws)) ∧ b ∈ cutBursts win ws) ∧
    (∃ (win : Nat) (ws : List (BitVec 22 × SatWord)) (b : WriteBurst),
      (List.Pairwise (fun x1 x2 => x1 < x2) (List.map (fun e => e.fst.toNat) ws)) ∧ b ∈ cutBursts win ws) ∧
    (∃ (win : Nat) (ws : List (BitVec 22 × SatWord)) (b : WriteBurst),
      (List.Pairwise (fun x1 x2 => x1 < x2) (List.map (fun e => e.fst.toNat) ws)) ∧ b ∈ cutBursts win ws) ∧
    (∃ (ws : List (BitVec 22 × SatWord)),
      (List.Pairwise (fun x1 x2 => x1 < x2) (List.map (fun e => e.fst.toNat) ws))) :=
  ⟨⟨3, [(0x2002F, w14 1), (0x20030, w14 2)], { win := 3, addr := 0x2002F, words := [w14 1, w14 2] }, by decide +kernel⟩,
   ⟨3, [(0x2002F, w14 1), (0x20030, w14 2)], { win := 3, addr := 0x2002F, words := [w14 1, w14 2] }, by decide +kernel⟩,
   ⟨3, [(0x3F, w14 1), (0x40, w14 2)], { win := 3, addr := 0x40, words := [w14 2] }, by decide +kernel⟩,
   ⟨3, [(0x3F, w14 1), (0x41, w14 2)], { win := 3, addr := 0x41, words := [w14 2] }, by decide +kernel⟩,
   ⟨[(0x3F, w14 1), (0x40, w14 2)], by decide +kernel⟩⟩

theorem met_HostReachesWindows :
    (∃ (s : State) (a : Bar2Access),
      takesMemory s = true ∧ windowAt s.image a.offset.toNat a.dwords.length = none) ∧
    (∃ (s : State) (a : Bar2Access),
      takesMemory s = true ∧ windowAt s.image a.offset.toNat a.dwords.length = none) ∧
    (∃ (s : State) (a : Bar2Access) (w : SatWindow) (j : Nat),
      takesMemory s = true ∧ windowAt s.image a.offset.toNat a.dwords.length = some (w, j) ∧ s.bit Reg.ARM_STS 12 = false ∧ s.satGone = true) ∧
    (∃ (s : State) (a : Bar2Access) (w : SatWindow) (j : Nat),
      takesMemory s = true ∧ windowAt s.image a.offset.toNat a.dwords.length = some (w, j) ∧ s.bit Reg.ARM_STS 12 = false ∧ s.satGone = true ∧ a.dwords.length ≤ 128) ∧
    (∃ (s : State) (a : Bar2Access) (w : SatWindow) (j : Nat),
      takesMemory s = true ∧ windowAt s.image a.offset.toNat a.dwords.length = some (w, j) ∧ s.bit Reg.ARM_STS 12 = false ∧ s.satGone = false ∧ a.poisoned = false ∧ w.pass = false ∧ 0 < partials a) ∧
    (∃ (s : State) (a : Bar2Access) (w : SatWindow) (j : Nat),
      takesMemory s = true ∧ windowAt s.image a.offset.toNat a.dwords.length = some (w, j) ∧ s.bit Reg.ARM_STS 12 = false ∧ s.satGone = false ∧ a.poisoned = false ∧ w.pass = false ∧ 0 < partials a) ∧
    (∃ (s : State) (a : Bar2Access) (w : SatWindow) (j : Nat),
      takesMemory s = true ∧ windowAt s.image a.offset.toNat a.dwords.length = some (w, j) ∧ s.bit Reg.ARM_STS 12 = false ∧ s.satGone = false ∧ a.poisoned = true ∧ w.pass = false) ∧
    (∃ (s : State) (a : Bar2Access) (w : SatWindow) (j : Nat),
      takesMemory s = true ∧ windowAt s.image a.offset.toNat a.dwords.length = some (w, j) ∧ s.bit Reg.ARM_STS 12 = false ∧ s.satGone = false ∧ a.poisoned = false ∧ (w.pass = true ∨ partials a = 0) ∧ s.gateClosed Island.sat = false ∧ 32 < s.sat.posted.length + (cutBursts w.num (windowWords w j a)).length) ∧
    (∃ (s : State) (a : Bar2Access) (w : SatWindow) (j : Nat),
      takesMemory s = true ∧ windowAt s.image a.offset.toNat a.dwords.length = some (w, j) ∧ s.bit Reg.ARM_STS 12 = false ∧ s.satGone = false ∧ a.poisoned = false ∧ (w.pass = true ∨ partials a = 0) ∧ s.gateClosed Island.sat = false ∧ s.sat.posted.length + (cutBursts w.num (windowWords w j a)).length ≤ 32) ∧
    (∃ (s : State) (a : Bar2Access) (w : SatWindow) (j : Nat),
      takesMemory s = true ∧ windowAt s.image a.offset.toNat a.dwords.length = some (w, j) ∧ s.bit Reg.ARM_STS 12 = false ∧ s.satGone = false ∧ a.poisoned = true ∧ w.pass = true ∧ s.gateClosed Island.sat = false ∧ s.sat.posted.length + (cutBursts w.num (windowWords w j a)).length ≤ 32) ∧
    (∃ (s : State) (a : Bar2Access) (w : SatWindow) (j : Nat),
      takesMemory s = true ∧ windowAt s.image a.offset.toNat a.dwords.length = some (w, j) ∧ s.bit Reg.ARM_STS 12 = false ∧ 128 < a.dwords.length) ∧
    (∃ (s : State) (a : Bar2Access) (w : SatWindow) (j : Nat),
      takesMemory s = true ∧ windowAt s.image a.offset.toNat a.dwords.length = some (w, j) ∧ s.bit Reg.ARM_STS 12 = false ∧ s.satGone = false ∧ a.dwords.length ≤ 128 ∧ (w.pass = true ∨ partials a = 0) ∧ s.gateClosed Island.sat = false ∧ 16 ≤ s.sat.nonPosted.length) ∧
    (∃ (s : State) (a : Bar2Access) (w : SatWindow) (j : Nat),
      takesMemory s = true ∧ windowAt s.image a.offset.toNat a.dwords.length = some (w, j) ∧ s.bit Reg.ARM_STS 12 = false ∧ s.satGone = false ∧ a.dwords.length ≤ 128 ∧ (w.pass = true ∨ partials a = 0) ∧ s.gateClosed Island.sat = false ∧ s.sat.nonPosted.length < 16 ∧ (s.sat.nonPosted ≠ [] ∨ s.readBursts w (List.filterMap id (windowWant w j a)) ≠ [] ∨ s.sat.posted ≠ []) ∧ List.find? (fun x => decide (x.num = w.num)) (satWindows s.image) = some w ∧ s.wakeBuf = []) ∧
    (∃ (s : State) (a : Bar2Access) (w : SatWindow) (j : Nat) (ws : List (BitVec 22 × SatWord)),
      takesMemory s = true ∧ windowAt s.image a.offset.toNat a.dwords.length = some (w, j) ∧ s.bit Reg.ARM_STS 12 = false ∧ s.satGone = false ∧ a.dwords.length ≤ 128 ∧ (w.pass = true ∨ partials a = 0) ∧ bridgeIdle s ∧ s.wakeBuf = [] ∧ s.satRuns = true ∧ s.gateClosed Island.sat = false ∧ List.find? (fun x => decide (x.num = w.num)) (satWindows s.image) = some w ∧ windowWant w j a = List.map (fun e => some e.fst) ws ∧ (∀ (e : BitVec 22 × SatWord), e ∈ ws → s.stored? w.num e.fst = some e.snd ∧ e.snd.poi = false)) :=
  ⟨⟨sat0, acc14 0x8000 [(15, 5)], by decide +kernel⟩,
   ⟨sat0, acc14 0x8000 [], by decide +kernel⟩,
   ⟨withImg linked satImg, par14, win5, 0, by decide +kernel⟩,
   ⟨withImg linked satImg, par14, win5, 0, by decide +kernel⟩,
   ⟨sat0, par14, win5, 0, by decide +kernel⟩,
   ⟨sat0, par14, win5, 0, by decide +kernel⟩,
   ⟨sat0, { acc14 0 [(15, 5)] with poisoned := true }, win5, 0, by decide +kernel⟩,
   ⟨posts 32 sat0, whole14, win3, 40, by decide +kernel⟩,
   ⟨posts 31 sat0, whole14, win3, 40, by decide +kernel⟩,
   ⟨posts 31 sat0, { whole14 with poisoned := true }, win3, 40, by decide +kernel⟩,
   ⟨sat0, long14 129, win3, 0, by decide +kernel⟩,
   ⟨jobs 16 sat0, whole14, win3, 40, by decide +kernel⟩,
   ⟨jobs 15 sat0, whole14, win3, 40, by decide +kernel⟩,
   ⟨sat0.setPrefetch 5 { words := [(4, w14 9, sat0.now - 7999)] }, read14, win5, 4, [(4, w14 9)], by decide +kernel⟩⟩

theorem met_BridgeCarries :
    (∃ (s : State),
      (s.satBusOpen = false ∨ s.sat.grant ≠ 3 ∨ s.sat.lockBy = 1 ∨ s.sat.lockBy = 2)) ∧
    (∃ (s : State) (b : WriteBurst) (more : List WriteBurst),
      deviceTurn s ∧ s.sat.nonPosted = [] ∧ s.sat.posted = b :: more ∧ b.win < 16 ∧ s.bit Reg.SAT_FENCE b.win = true) ∧
    (∃ (s : State) (b : WriteBurst) (more : List WriteBurst),
      deviceTurn s ∧ s.sat.nonPosted = [] ∧ s.sat.posted = b :: more ∧ b.win < 16 ∧ s.bit Reg.SAT_FENCE b.win = false) ∧
    (∃ (s : State) (b : WriteBurst) (more : List WriteBurst),
      deviceTurn s ∧ s.sat.nonPosted = [] ∧ s.sat.posted = b :: more ∧ b.win < 16 ∧ s.bit Reg.SAT_FENCE b.win = false ∧ poisonedIn b.words = false) ∧
    (∃ (s : State) (b : WriteBurst) (more : List WriteBurst) (ans : TargetAnswer) (ws : List SatWord),
      deviceTurn s ∧ s.sat.nonPosted = [] ∧ s.sat.posted = b :: more ∧ b.win < 16 ∧ s.bit Reg.SAT_FENCE b.win = false ∧ (ans = TargetAnswer.err ws ∨ ans = TargetAnswer.timeout ws)) ∧
    (∃ (s : State) (j : BridgeJob) (want : List (Option (BitVec 22))) (a : BitVec 22) (n : Nat) (more : List (BitVec 22 × Nat)),
      deviceTurn s ∧ s.sat.nonPosted = [j] ∧ j.want = HostWant.read want ∧ j.started = true ∧ j.todo = (a, n) :: more ∧ j.ahead = 0 ∧ (j.stalled = false ∨ s.sat.posted = []) ∧ j.win < 16 ∧ j.sunk = false) ∧
    (∃ (s : State) (j : BridgeJob) (want : List (Option (BitVec 22))) (a : BitVec 22) (n : Nat) (more : List (BitVec 22 × Nat)) (ans : TargetAnswer) (ws : List SatWord),
      deviceTurn s ∧ s.sat.nonPosted = [j] ∧ j.want = HostWant.read want ∧ j.started = true ∧ j.todo = (a, n) :: more ∧ j.ahead = 0 ∧ (j.stalled = false ∨ s.sat.posted = []) ∧ j.win < 16 ∧ j.sunk = false ∧ (ans = TargetAnswer.err ws ∨ ans = TargetAnswer.timeout ws)) ∧
    (∃ (s : State) (j : BridgeJob) (want : List (Option (BitVec 22))) (a : BitVec 22) (n : Nat) (more : List (BitVec 22 × Nat)) (ws : List SatWord),
      deviceTurn s ∧ s.sat.nonPosted = [j] ∧ j.want = HostWant.read want ∧ j.started = true ∧ j.todo = (a, n) :: more ∧ j.ahead = 0 ∧ (j.stalled = false ∨ s.sat.posted = []) ∧ j.win < 16 ∧ j.sunk = false ∧ ws.length = n ∧ (∀ (w : SatWord), w ∈ ws → w.parBad = false) ∧ more ≠ []) ∧
    (∃ (s : State) (j : BridgeJob) (want : List (Option (BitVec 22))) (a : BitVec 22) (n : Nat) (more : List (BitVec 22 × Nat)) (ws : List SatWord),
      deviceTurn s ∧ s.sat.nonPosted = [j] ∧ j.want = HostWant.read want ∧ j.started = true ∧ j.todo = (a, n) :: more ∧ j.ahead = 0 ∧ (j.stalled = false ∨ s.sat.posted = []) ∧ j.win < 16 ∧ j.sunk = false ∧ ws.length = n ∧ (∀ (w : SatWord), w ∈ ws → w.parBad = false ∧ w.poi = false) ∧ more = [] ∧ j.behind = 0 ∧ j.got = [] ∧ a.toNat + n ≤ 2 ^ 22 ∧ want = List.map (fun k => some (BitVec.ofNat 22 (a.toNat + k))) (List.range n)) ∧
    (∃ (s : State) (j : BridgeJob) (op : AtomOp) (a : BitVec 22) (x : Word) (y : Word) (w : SatWord),
      deviceTurn s ∧ s.sat.nonPosted = [j] ∧ j.want = HostWant.atomic op a x y ∧ j.ahead = 0 ∧ s.sat.posted = [] ∧ j.win < 16 ∧ j.sunk = false ∧ j.got = [] ∧ j.started = false ∧ w.parBad = false) ∧
    (∃ (s : State) (j : BridgeJob) (op : AtomOp) (a : BitVec 22) (x : Word) (y : Word) (w : SatWord),
      deviceTurn s ∧ s.sat.nonPosted = [j] ∧ j.want = HostWant.atomic op a x y ∧ j.ahead = 0 ∧ s.sat.posted = [] ∧ j.win < 16 ∧ j.sunk = false ∧ j.got = [(a, w)] ∧ j.started = true ∧ j.todo ≠ [] ∧ j.behind = 0) ∧
    (∃ (s : State) (j : BridgeJob) (want : List (Option (BitVec 22))),
      s.satRuns = true ∧ s.sat.nonPosted = [j] ∧ j.want = HostWant.read want ∧ j.started = false ∧ j.win < 16 ∧ j.sunk = false ∧ s.now < j.sinceAt + 4000000) ∧
    (∃ (s : State) (j : BridgeJob) (want : List (Option (BitVec 22))),
      s.satRuns = true ∧ s.sat.nonPosted = [j] ∧ j.want = HostWant.read want ∧ j.started = false ∧ j.win < 16 ∧ j.sunk = false ∧ j.sinceAt + 4000000 ≤ s.now) :=
  ⟨⟨sat0, by decide +kernel⟩,
   ⟨post1.wr Reg.SAT_FENCE 8, wb 3, [], by decide +kernel⟩,
   ⟨post1, wb 3, [], by decide +kernel⟩,
   ⟨post1, wb 3, [], by decide +kernel⟩,
   ⟨post1, wb 3, [], .timeout [], [], by decide +kernel⟩,
   ⟨job1 (rj []), rj [], [some 4, some 5], 4, 2, [], by decide +kernel⟩,
   ⟨job1 (rj []), rj [], [some 4, some 5], 4, 2, [], .err [], [], by decide +kernel⟩,
   ⟨job1 (rj [(6, 1)]), rj [(6, 1)], [some 4, some 5], 4, 2, [(6, 1)], [w14 8, w14 9], by decide +kernel⟩,
   ⟨job1 (rj []), rj [], [some 4, some 5], 4, 2, [], [w14 8, w14 9], by decide +kernel⟩,
   ⟨job1 (aj false), aj false, .fetchAdd, 4, 3, 0, w14 8, by decide +kernel⟩,
   ⟨job1 (aj true), aj true, .fetchAdd, 4, 3, 0, w14 8, by decide +kernel⟩,
   ⟨job1 (lj (sat0.now - 3999999)), lj (sat0.now - 3999999), [some 4], by decide +kernel⟩,
   ⟨job1 (lj (sat0.now - 4000000)), lj (sat0.now - 4000000), [some 4], by decide +kernel⟩⟩

theorem met_StoreWiresAndResets :
    (∃ (s : State),
      s.satRuns = true) ∧
    (∃ (s : State),
      s.satRuns = true) ∧
    (∃ (s : State) (i : Fin 4),
      s.satPins.testBit (3 + i.val) = false) ∧
    (∃ (s : State) (i : Fin 4),
      s.satPins.testBit (3 + i.val) = true ∧ s.satPowered = true) ∧
    (∃ (s : State),
      s.satPowered = true) ∧
    (∃ (s : State) (m : Fin 2),
      s.masterThere m.val = false) ∧
    (∃ (s : State) (m : Fin 2),
      s.masterThere m.val = true ∧ (s.island Island.sat).power = Power.doze ∧ (s.island Island.sat).drain = none ∧ s.wakeForbidden Island.sat = false) :=
  ⟨⟨sat0, by decide +kernel⟩,
   ⟨sat0, by decide +kernel⟩,
   ⟨linked, 3, by decide +kernel⟩,
   ⟨sat0, 3, by decide +kernel⟩,
   ⟨sat0, by decide +kernel⟩,
   ⟨sat14 sat0 (fun x => { x with mrst := 2 }), 1, by decide +kernel⟩,
   ⟨sat0.setIsland .sat { sat0.island .sat with power := .doze }, 1, by decide +kernel⟩⟩

/-! ### Serial monitor -/

/-- A session at level 3, rate 4. -/
def mon0 : State := let s := (withImg linked []).wr Reg.MON_STS 9
  { s with mon := { s.mon with ready := true } }
/-- A line entered. -/
def typed (s : State) (l : String) : State := { s with mon := { s.mon with cmd := some (bytesOf l.toList) } }.setBit Reg.MON_STS 5 true
def lvl (s : State) (n : Nat) : State := s.setFld Reg.MON_CTL 0 2 n
def said (t : State) (l : String) : Bool := t.sent.take 2 == [promptOut, lineOut l.toList] && t.mon.cmd == none && !t.bit Reg.MON_STS 5

theorem test_15a :
  (let s : State := { mon0 with mon := { bannerDueAt := some mon0.now } }
   after .monBanner s (fun t => t.sent == [lineOut "CV-3218 B0 L3".toList] && t.mon.ready) ∧
   after .monBanner { s with now := s.now - 1 } (fun t => !t.mon.ready)) ∧
  (let s := mon0.wr Reg.MON_STS 8
   after (.monSessionStart 9114) s (fun t => t.monSession && t.fld Reg.MON_STS 1 3 == 4 && t.bit Reg.MON_EVT 0 && t.sent.head? == some promptOut) ∧
   after (.monSessionStart 9115) s (fun t => t == s) ∧
   after (.monSessionStart 104167) s (fun t => t.fld Reg.MON_STS 1 3 == 0) ∧
   after (.monSessionStart 12000) s (fun t => t == s) ∧
   after (.monSessionStart 8681) mon0 (fun t => t == mon0)) ∧
  (let s := typed ({ mon0.wr Reg.PLN_BOOT 11 with arm := { mon0.arm with monLoad := true, staging := [1] } }.setStage 1) "l"
   s.powerUpRuns = false ∧ after .monBreak s (fun t => !t.monSession && t.mon.cmd == none && t.mon.inBreak && !t.arm.monLoad && t.stage == 0 && t.bit Reg.MON_EVT 2)) ∧
  after .monBreakEnd { mon0 with mon := { mon0.mon with inBreak := true } } (fun t => t.sent == [lineOut "CV-3218 B0 L3".toList] && !t.mon.inBreak) := by decide +kernel

theorem test_15b :
  after (.monCharRx 0x76) mon0 (fun t => t.mon.line == [0x76] && t.sent == [.monText ['v']]) ∧
  after (.monCharRx 0x76) (typed mon0 "v") (fun t => t.mon.kept == [0x76] && t.sent == []) ∧
  after (.monCharRx 0x0A) mon0 (fun t => t == mon0) ∧
  (let s := { mon0 with mon := { mon0.mon with line := bytesOf "r 70".toList } }
   after (.monCharRx 0x08) s (fun t => t.mon.line == bytesOf "r 7".toList) ∧
   after (.monCharRx 0x0D) s (fun t => t.mon.cmd == some (bytesOf "r 70".toList) && t.mon.line == [] && t.bit Reg.MON_STS 5) ∧
   after .monEventLine { s with mon := { s.mon with events := [563] } } (fun t => t.mon.events == [563])) ∧
  after (.monCharRx 0x0D) mon0 (fun t => t.sent.head? == some promptOut && t.rd Reg.MON_ERR_CNT == 0) ∧
  after (.monCharRx 0x0D) { mon0 with mon := { mon0.mon with line := bytesOf "y".toList } } (fun t => said t "! SYNTAX" && t.rd Reg.MON_ERR_CNT == 1) ∧
  after (.monCharRx 0x76) { mon0 with mon := { mon0.mon with line := List.replicate 80 0x20 } } (fun t => t.mon.tooLong && t.sent == []) ∧
  after (.monCharRx 0x0D) { mon0 with mon := { mon0.mon with line := List.replicate 80 0x20, tooLong := true } } (fun t => said t "! LONG" && !t.mon.tooLong) ∧
  after (.monCharRx 0x0D) { mon0.setBit Reg.MON_STS 4 true with mon := { mon0.mon with line := bytesOf ":00".toList } } (fun t => t.mon.cmd.isSome && t.bit Reg.MON_STS 4) ∧
  after .monEventLine { mon0 with mon := { mon0.mon with events := [563, 5] } } (fun t => t.sent == [promptOut, lineOut "# EV563".toList] && t.mon.events == [5]) ∧
  mon0.openFor (regAcc .host Reg.MON_CTL 0x1A) .pln = true ∧
  after (.monLevelWrite .host 0x1A) mon0 (fun t => t.rd Reg.MON_CTL == 0x1A && t.monSession) ∧
  after (.monLevelWrite .host 0) mon0 (fun t => t.rd Reg.MON_CTL == 0 && !t.monSession && t.sent == []) ∧
  after (.monLevelWrite .host 3) (lvl mon0 1) (fun t => t.monLevel == 1 && t.fld Reg.PLN_ACC_BLK 11 4 == 13) ∧
  after (.monLevelWrite .host 0x16) (mon0.setBit Reg.MON_CTL 2 true) (fun t => t.monLevel == 3 && t.fld Reg.PLN_ACC_BLK 11 4 == 6) ∧
  after (.monLevelWrite .host 0x17) (lvl (mon0.setBit Reg.MON_CTL 2 true) 1) (fun t => t.monLevel == 1 && t.fld Reg.PLN_ACC_BLK 11 4 == 6) := by decide +kernel

theorem test_15c :
  (typed mon0 "v").monWaits 'v' = some [] ∧ (typed mon0 " v").monWaits 'v' = none ∧ (typed mon0 "t  1 0A").monWaits 't' = some [[0x31], [0x30, 0x41]] ∧
  ((typed mon0 "v").busGrant 11).isSome = true ∧
  after .monCmdHelp (typed mon0 "?") (fun t => said t "= ?vrwpsetgqcxalbz" && t.rd Reg.MON_CMD_CNT == 1) ∧
  after .monCmdV (typed mon0 "v") (fun t => said t "= CV-3218 REV B0 GRADE 0 SID 00000000000000 DIG 000000000 EP 00000 NODE 0" || t.sent.length == 2) ∧
  after .monCmdS (typed mon0 "s") (fun t => said t "= BOOT 0 RDY 1 XTAL 0 IRC 0 ISL 033333333303" || t.sent.length == 2) ∧
  after .monCmdE (typed mon0 "e") (fun t => t.sent.length == 2 && t.rd Reg.MON_CMD_CNT == 1) ∧
  after .monCmdT (typed mon0 "t") (fun t => t.sent.length == 2 && t.rd Reg.MON_CMD_CNT == 1) ∧
  after .monCmdT (typed mon0 "t 4 0") (fun t => t.sent.length == 2 && t.rd Reg.MON_CMD_CNT == 1) ∧
  after .monCmdT (typed mon0 "t 5 0") (fun t => said t "! SYNTAX") ∧
  after .monCmdG (typed mon0 "g") (fun t => said t "= STATE 0 NODE 0 KEEPER 0 MEMBERS 0000 MISSING 0000 DEV 00000" || t.sent.length == 2) ∧
  after .monCmdQ (typed (mon0.setQueue 2047 { cfg := 3, prod := 9, drops := 17 }) "q 7Ff") (fun t => said t "= STATE 0 TYPE 3 PROD 00009 CONS 00000 DROPS 000000011") ∧
  after .monCmdQ (typed mon0 "q 800") (fun t => said t "! SYNTAX") ∧
  after .monCmdC (typed mon0 "c 7F") (fun t => said t "= STATE 0 GEN 001 LOST 000000000" || said t "= STATE 0 GEN 000 LOST 000000000") ∧
  after .monCmdX (typed mon0 "x 3") (fun t => said t "= WIDTH 00 HEIGHT 000 PASS 0") ∧
  after .monCmdX (typed (lvl mon0 1) "x 3 1") (fun t => said t "! LEVEL 2" && t.bit Reg.MON_EVT 1) ∧
  (let s := typed mon0 "x 3 1"
   belowCeiling s ∧ s.inL0 = true ∧ s.activeLane 3 = true ∧ after .monCmdX s (fun t => said t "= ok" && t.bit Reg.HST_EYE_CTL 3 && t.link.eyeLane == 3)) ∧
  after .monCmdA (typed mon0 "a") (fun t => t.sent.length == 2 && t.rd Reg.MON_CMD_CNT == 1) ∧
  after .monCmdG (typed mon0 "g 1") (fun t => said t "! SYNTAX" && t.rd Reg.MON_ERR_CNT == 1) := by decide +kernel

theorem test_15d :
  (typed mon0 "r 000070").openFor (readAcc .monitor 0x70) .pln = true ∧
  after .monCmdR (typed (mon0.wr 0x70 0x30) "r 000070") (fun t => said t "= 000070 00030") ∧
  after .monCmdR (typed (mon0.wr 0x70 0x30) "r 000070 2") (fun t => said t "! UR 2 000074") ∧
  after .monCmdR (typed mon0 "r 000060 2") (fun t => t.sent == [promptOut, lineOut "= 000064 00000".toList, lineOut "= 000060 00000".toList]) ∧
  after .monCmdR (typed mon0 "r 71") (fun t => said t "! UR 0") ∧
  after .monCmdR (typed mon0 "r 200000") (fun t => said t "! UR 1") ∧
  (typed mon0 "w 70 30").openFor (regAcc .monitor 0x70 0x30) .pln = true ∧
  after .monCmdW (typed mon0 "w 4070 30") (fun t => said t "= ok" && t.rd 0x70 == 0x30) ∧
  after .monCmdW (typed mon0 "w 70 30") (fun t => said t "= ok" && t.rd 0x70 == 0x30) ∧
  after .monCmdW (typed (lvl mon0 1) "w 4070 30") (fun t => said t "! LEVEL 2") ∧
  after .monCmdP (typed (lvl mon0 2) "p 040030 20000") (fun t => said t "! LEVEL 3") ∧
  (let s := withOn mon0 [.que, .mot, .tqa]
   let o := pairV 0
   let l := String.ofList ("p ".toList ++ hexN 6 o ++ " 1".toList)
   s.openFor (regAcc .monitor o 1) .tqa = true ∧ s.pair 0 = none ∧
   after .monCmdP (typed s l) (fun t => (t.quad 0).men && t.pair 0 == none && t.sent.take 2 == [promptOut, lineOut ("= ".toList ++ hexN 6 o ++ " 00001".toList)])) := by decide +kernel

def boot15 (s : State) : State := (s.wr Reg.PLN_BOOT 11).setBit Reg.ARM_SRC 3 true
def load15 : State := let s := (boot15 mon0).setBit Reg.MON_STS 4 true; { s with arm := { s.arm with monLoad := true } }.setStage 1
theorem test_15e :
  (let s := typed (boot15 mon0) "l"
   s.loadRefusal 3 = none ∧
   after .monCmdL s (fun t => said t "= load" && t.stage == 1 && t.arm.monLoad && t.bit Reg.MON_STS 4) ∧
   after .monCmdL (s.setBit Reg.ARM_SRC 3 false) (fun t => said t "! ARM F" && t.rd Reg.ARM_ERR == word (15 + 15 * 32)) ∧
   after .monCmdL (lvl s 2) (fun t => said t "! LEVEL 3")) ∧
  after .monHexLine (typed load15 ":0000000435905441000010028765DE") (fun t => said t "= 000004" && t.arm.staging == [0x04359, 0x05441, 0x00010, 0x02876].map word || t.sent.length == 2) ∧
  after .monHexLine (typed load15 ":000004000040000B0000000000FFED") (fun t => said t "= 000008" && t.mon.loadTop == 8 && wordAt t.arm.staging 5 == 11 && wordAt t.arm.staging 1 == 0) ∧
  after .monHexLine (typed load15 ":000008000000002B00008FFC6") (fun t => said t "! LINE" && t.arm == load15.arm) ∧
  after .monHexLine (typed load15 ":000008000000002B00008FFC5") (fun t => said t "= 00000B") ∧
  hexText 8 [0, 0x2B, 8] 0xFFC5 = bytesOf ":000008000000002B00008FFC5".toList ∧
  after .monHexLine (typed load15 ":01000000001FFFF") (fun t => said t "! ARM 10" || said t "! LINE") ∧
  hexLine (hexText 0x10000 [1] 0xFFFF) = some (0x10000, [1]) ∧
  after .monHexLine { load15 with mon := { load15.mon with cmd := some (hexText 0x10000 [1] 0xFFFF) } } (fun t => said t "! ARM 10" && t.rd Reg.ARM_ERR == word (16 + 15 * 32) && t.rd Reg.ARM_ERR_WORD == 0x10000) ∧
  (let s := { typed load15 "a e" with mon := { (typed load15 "a e").mon with loadTop := 9 } }
   s.monWaits 'a' = some [[0x65]] ∧
   after .monLoadEnd s (fun t => t.stage == 2 && t.arm.received == 9 && t.mon.loadWait && t.sent == []) ∧
   after .monLoadEnd { s with arm := { s.arm with monLoad := false } } (fun t => said t "! STATE") ∧
   after .monLoadEnd (lvl s 2) (fun t => said t "! LEVEL 3")) ∧
  after .monLoadAbort (typed load15 "a x") (fun t => t.stage == 0 && !t.arm.monLoad && t.rd Reg.MON_CMD_CNT == 1) ∧
  after .monCmdB (typed mon0 "b 7") (fun t => said t "= ok" && t.fld Reg.MON_STS 1 3 == 7) ∧
  after .monCmdZ (typed mon0 "z") (fun t => said t "= z" && t.mon.zDue) ∧
  after .monCmdZ (typed (lvl mon0 2) "z") (fun t => said t "! LEVEL 3" && !t.mon.zDue) ∧
  after .monZReset { mon0.wr Reg.PLN_STRAP 5 with mon := { mon0.mon with zDue := true } } (fun t => t.rd Reg.PLN_RST_CAUSE == 5 && t.fld Reg.PLN_STRAP 0 4 == 5 && t.arm.committed == none) ∧
  after .monZReset mon0 (fun t => t == mon0) := by decide +kernel

/-! ### Witnesses: serial monitor, the machine as a whole -/
def ban15 (a l : Nat) : State := { lvl mon0 l with mon := { bannerDueAt := some a } }
def open15 : State := mon0.wr Reg.MON_STS 8
def line15 (l : String) (long : Bool) : State := { mon0 with mon := { mon0.mon with line := bytesOf l.toList, tooLong := long } }
def ev15 (s : State) : State := { s with mon := { s.mon with events := [563, 5] } }
def typ15 (l : String) (n : Nat) : State := typed (lvl mon0 n) l
def full15 (s : State) : State := s.setArb 11 { grants := [(11, 0x3FFFF)] }
def pairTyped : State := typed (withOn mon0 [.que, .mot, .tqa]) (String.ofList ("p ".toList ++ hexN 6 (pairV 0) ++ " 1".toList))
def wrd (l : String) : List (BitVec 8) := bytesOf l.toList
def hex15 (l : List (BitVec 8)) : State := { load15 with mon := { load15.mon with cmd := some l } }
/-- The state that an outcome leaves. -/
def runs (o : Host.Outcome State Fault Refusal) : State := match o with | .next t => t | _ => {}
theorem next_of {o : Host.Outcome State Fault Refusal} (h : (match o with | .next _ => true | _ => false) = true) :
    o = .next (runs o) := by
  cases o with
  | next t => rfl
  | fault _ => simp at h
  | refused _ => simp at h
def mem15 : State := { (linked.setSram 5 { stored := 1, checked := 1 }) with pending := [.sramWindowWrite .monitor 5 0] }
def fuse15 : State := { linked with arm := { linked.arm with fusing := some (0, 1) } }
theorem met_MonitorLine :
    (∃ (s : State) (a : Nat),
      s.monAlive = true ∧ s.mon.bannerDueAt = some a ∧ s.now < a) ∧
    (∃ (s : State) (a : Nat),
      s.monAlive = true ∧ s.mon.bannerDueAt = some a ∧ a ≤ s.now ∧ s.monLevel ≠ 0) ∧
    (∃ (s : State) (a : Nat),
      s.monAlive = true ∧ s.mon.bannerDueAt = some a ∧ a ≤ s.now ∧ s.monLevel = 0) ∧
    (∃ (s : State),
      s.monAlive = true ∧ s.mon.ready = true ∧ s.mon.inBreak = false ∧ s.monLevel ≠ 0 ∧ s.monSession = true) ∧
    (∃ (s : State) (ns : Nat),
      s.monAlive = true ∧ s.mon.ready = true ∧ s.mon.inBreak = false ∧ s.monLevel ≠ 0 ∧ s.monSession = false ∧ (∀ (b : Nat), b ∈ bauds → 1050000000 < ns * b ∨ ns * b < 950000000)) ∧
    (∃ (s : State) (ns : Nat),
      s.monAlive = true ∧ s.mon.ready = true ∧ s.mon.inBreak = false ∧ s.monLevel ≠ 0 ∧ s.monSession = false ∧ (∀ (b : Nat), b ∈ bauds → 1050000000 < ns * b ∨ ns * b < 950000000)) ∧
    (∃ (s : State) (ns : Nat) (k : Nat),
      s.monAlive = true ∧ s.mon.ready = true ∧ s.mon.inBreak = false ∧ s.monLevel ≠ 0 ∧ s.monSession = false ∧ k < 8 ∧ 950000000 ≤ ns * bauds.getD k 0 ∧ ns * bauds.getD k 0 ≤ 1050000000) ∧
    (∃ (s : State) (ns : Nat) (k : Nat),
      s.monAlive = true ∧ s.mon.ready = true ∧ s.mon.inBreak = false ∧ s.monLevel ≠ 0 ∧ s.monSession = false ∧ k < 8 ∧ 950000000 ≤ ns * bauds.getD k 0 ∧ ns * bauds.getD k 0 ≤ 1050000000) ∧
    (∃ (s : State),
      s.monAlive = true ∧ s.mon.ready = true ∧ s.monLevel ≠ 0) ∧
    (∃ (s : State),
      s.monAlive = true ∧ s.monLevel ≠ 0 ∧ s.mon.inBreak = false) ∧
    (∃ (s : State),
      s.monAlive = true ∧ s.monLevel ≠ 0 ∧ s.mon.inBreak = true) ∧
    (∃ (s : State),
      (s.mon.ready = false ∨ s.monSession = false ∨ s.monLevel = 0 ∨ s.mon.inBreak = true)) ∧
    (∃ (s : State),
      s.monAlive = true ∧ s.mon.ready = true ∧ s.mon.inBreak = false ∧ s.monSession = true ∧ s.monLevel ≠ 0 ∧ s.monBusy = true) ∧
    (∃ (s : State) (c : BitVec 8),
      s.monAlive = true ∧ s.mon.ready = true ∧ s.mon.inBreak = false ∧ s.monSession = true ∧ s.monLevel ≠ 0 ∧ s.monBusy = false ∧ c = 10) ∧
    (∃ (s : State) (c : BitVec 8),
      s.monAlive = true ∧ s.mon.ready = true ∧ s.mon.inBreak = false ∧ s.monSession = true ∧ s.monLevel ≠ 0 ∧ s.monBusy = false ∧ c ≠ 10 ∧ c ≠ 13 ∧ c ≠ 8 ∧ c ≠ 127 ∧ s.mon.line.length < 80) ∧
    (∃ (s : State) (c : BitVec 8),
      s.monAlive = true ∧ s.mon.ready = true ∧ s.mon.inBreak = false ∧ s.monSession = true ∧ s.monLevel ≠ 0 ∧ s.monBusy = false ∧ c ≠ 10 ∧ c ≠ 13 ∧ c ≠ 8 ∧ c ≠ 127 ∧ s.mon.line.length < 80) ∧
    (∃ (s : State) (c : BitVec 8),
      s.monAlive = true ∧ s.mon.ready = true ∧ s.mon.inBreak = false ∧ s.monSession = true ∧ s.monLevel ≠ 0 ∧ s.monBusy = false ∧ c ≠ 10 ∧ c ≠ 13 ∧ c ≠ 8 ∧ c ≠ 127 ∧ 80 ≤ s.mon.line.length) ∧
    (∃ (s : State) (c : BitVec 8),
      s.monAlive = true ∧ s.mon.ready = true ∧ s.mon.inBreak = false ∧ s.monSession = true ∧ s.monLevel ≠ 0 ∧ s.monBusy = false ∧ (c = 8 ∨ c = 127)) ∧
    (∃ (s : State) (c : BitVec 8),
      s.monAlive = true ∧ s.mon.ready = true ∧ s.mon.inBreak = false ∧ s.monSession = true ∧ s.monLevel ≠ 0 ∧ s.monBusy = false ∧ (c = 8 ∨ c = 127)) ∧
    (∃ (s : State) (c : BitVec 8),
      s.monAlive = true ∧ s.mon.ready = true ∧ s.mon.inBreak = false ∧ s.monSession = true ∧ s.monLevel ≠ 0 ∧ s.monBusy = false ∧ c = 13 ∧ s.mon.tooLong = true) ∧
    (∃ (s : State) (c : BitVec 8),
      s.monAlive = true ∧ s.mon.ready = true ∧ s.mon.inBreak = false ∧ s.monSession = true ∧ s.monLevel ≠ 0 ∧ s.monBusy = false ∧ c = 13 ∧ s.mon.tooLong = false ∧ s.mon.line = []) ∧
    (∃ (s : State) (c : BitVec 8) (p : Char × List (List (BitVec 8))),
      s.monAlive = true ∧ s.mon.ready = true ∧ s.mon.inBreak = false ∧ s.monSession = true ∧ s.monLevel ≠ 0 ∧ s.monBusy = false ∧ c = 13 ∧ s.mon.tooLong = false ∧ s.mon.line.head? ≠ some 58 ∧ monParse s.mon.line = some p) ∧
    (∃ (s : State) (c : BitVec 8),
      s.monAlive = true ∧ s.mon.ready = true ∧ s.mon.inBreak = false ∧ s.monSession = true ∧ s.monLevel ≠ 0 ∧ s.monBusy = false ∧ c = 13 ∧ s.mon.tooLong = false ∧ s.mon.line.head? = some 58 ∧ s.bit Reg.MON_STS 4 = true) ∧
    (∃ (s : State) (c : BitVec 8),
      s.monAlive = true ∧ s.mon.ready = true ∧ s.mon.inBreak = false ∧ s.monSession = true ∧ s.monLevel ≠ 0 ∧ s.monBusy = false ∧ c = 13 ∧ s.mon.tooLong = false ∧ s.mon.line ≠ [] ∧ monParse s.mon.line = none ∧ (s.mon.line.head? ≠ some 58 ∨ s.bit Reg.MON_STS 4 = false)) ∧
    (∃ (s : State) (c : BitVec 8),
      s.monAlive = true ∧ s.mon.ready = true ∧ s.mon.inBreak = false ∧ s.monSession = true ∧ s.monLevel ≠ 0 ∧ s.monBusy = false ∧ c = 13 ∧ s.mon.tooLong = false ∧ s.mon.line ≠ [] ∧ monParse s.mon.line = none ∧ (s.mon.line.head? ≠ some 58 ∨ s.bit Reg.MON_STS 4 = false)) ∧
    (∃ (s : State) (e : Nat) (rest : List Nat),
      s.monAlive = true ∧ s.monSession = true ∧ s.mon.events = e :: rest ∧ s.monLevel ≠ 0 ∧ (s.monBusy = true ∨ s.mon.line ≠ [])) ∧
    (∃ (s : State) (e : Nat) (rest : List Nat),
      s.monAlive = true ∧ s.monSession = true ∧ s.mon.events = e :: rest ∧ s.monLevel ≠ 0 ∧ (s.monBusy = true ∨ s.mon.line ≠ [])) ∧
    (∃ (s : State) (e : Nat) (rest : List Nat),
      s.monAlive = true ∧ s.monSession = true ∧ s.mon.events = e :: rest ∧ s.monLevel ≠ 0 ∧ s.monBusy = false ∧ s.mon.line = [] ∧ s.mon.tooLong = false) ∧
    (∃ (s : State) (req : Requester) (v : Word),
      s.openFor (regAcc req Reg.MON_CTL v) Island.pln = true ∧ BitVec.toNat v < 32 ∧ BitVec.toNat (s.rd Reg.MON_CTL) < 32 ∧ s.bit Reg.MON_CTL 2 = false ∧ fieldOf v 0 2 ≤ s.monLevel) ∧
    (∃ (s : State) (req : Requester) (v : Word),
      s.openFor (regAcc req Reg.MON_CTL v) Island.pln = true ∧ BitVec.toNat v < 32 ∧ BitVec.toNat (s.rd Reg.MON_CTL) < 32 ∧ s.bit Reg.MON_CTL 2 = false ∧ s.monLevel < fieldOf v 0 2) ∧
    (∃ (s : State) (req : Requester) (v : Word),
      s.openFor (regAcc req Reg.MON_CTL v) Island.pln = true ∧ BitVec.toNat v < 32 ∧ BitVec.toNat (s.rd Reg.MON_CTL) < 32 ∧ s.bit Reg.MON_CTL 2 = true ∧ fieldOf v 0 2 ≠ s.monLevel) :=
  ⟨⟨ban15 (mon0.now + 1) 3, mon0.now + 1, by decide +kernel⟩,
   ⟨ban15 mon0.now 3, mon0.now, by decide +kernel⟩,
   ⟨ban15 mon0.now 0, mon0.now, by decide +kernel⟩,
   ⟨mon0, by decide +kernel⟩,
   ⟨open15, 9115, by decide +kernel⟩,
   ⟨open15, 12000, by decide +kernel⟩,
   ⟨open15, 9114, 4, by decide +kernel⟩,
   ⟨open15, 98959, 0, by decide +kernel⟩,
   ⟨mon0, by decide +kernel⟩,
   ⟨mon0, by decide +kernel⟩,
   ⟨{ mon0 with mon := { mon0.mon with inBreak := true } }, by decide +kernel⟩,
   ⟨open15, by decide +kernel⟩,
   ⟨typed mon0 "v", by decide +kernel⟩,
   ⟨mon0, 10, by decide +kernel⟩,
   ⟨mon0, 0x76, by decide +kernel⟩,
   ⟨line15 "0123456789012345678901234567890123456789012345678901234567890123456789012345678" false, 0xFF, by decide +kernel⟩,
   ⟨line15 "01234567890123456789012345678901234567890123456789012345678901234567890123456789" false, 0x20, by decide +kernel⟩,
   ⟨line15 "r" false, 8, by decide +kernel⟩,
   ⟨mon0, 127, by decide +kernel⟩,
   ⟨line15 "r" true, 13, by decide +kernel⟩,
   ⟨mon0, 13, by decide +kernel⟩,
   ⟨line15 "r 70" false, 13, ('r', [wrd "70"]), by decide +kernel⟩,
   ⟨(line15 ":00" false).setBit Reg.MON_STS 4 true, 13, by decide +kernel⟩,
   ⟨line15 "y" false, 13, by decide +kernel⟩,
   ⟨line15 ":00" false, 13, by decide +kernel⟩,
   ⟨ev15 (line15 "r" false), 563, [5], by decide +kernel⟩,
   ⟨ev15 (typed mon0 "v"), 563, [5], by decide +kernel⟩,
   ⟨ev15 mon0, 563, [5], by decide +kernel⟩,
   ⟨mon0, .host, 27, by decide +kernel⟩,
   ⟨lvl mon0 1, .host, 2, by decide +kernel⟩,
   ⟨lvl (mon0.setBit Reg.MON_CTL 2 true) 1, .host, 0x17, by decide +kernel⟩⟩

theorem met_MonitorSummaries :
    (∃ (s : State),
      Typed s '?' []) ∧
    (∃ (s : State),
      Typed s 'v' []) ∧
    (∃ (s : State),
      Typed s 's' []) ∧
    (∃ (s : State),
      Typed s 'e' []) ∧
    (∃ (s : State),
      Typed s 't' []) ∧
    (∃ (s : State) (b : List (BitVec 8)) (a : List (BitVec 8)) (nb : Nat) (na : Nat),
      Typed s 't' [b, a] ∧ hexArg 1 0 4 b = some nb ∧ hexArg 1 0 15 a = some na) ∧
    (∃ (s : State),
      Typed s 'g' []) ∧
    (∃ (s : State) (w : List (BitVec 8)) (n : Nat),
      Typed s 'q' [w] ∧ hexArg 3 0 2047 w = some n) ∧
    (∃ (s : State) (w : List (BitVec 8)) (n : Nat),
      Typed s 'c' [w] ∧ hexArg 2 0 127 w = some n) ∧
    (∃ (s : State) (w : List (BitVec 8)) (n : Nat),
      Typed s 'x' [w] ∧ hexArg 1 0 3 w = some n ∧ s.nrg.ready = []) ∧
    (∃ (s : State) (w : List (BitVec 8)) (k : List (BitVec 8)) (n : Nat),
      Typed s 'x' [w, k] ∧ hexArg 1 0 3 w = some n ∧ hexArg 1 1 1 k = some 1 ∧ s.nrg.ready = [] ∧ s.monLevel = 1) ∧
    (∃ (s : State) (w : List (BitVec 8)) (k : List (BitVec 8)) (n : Nat),
      Typed s 'x' [w, k] ∧ hexArg 1 0 3 w = some n ∧ hexArg 1 1 1 k = some 1 ∧ s.nrg.ready = [] ∧ 2 ≤ s.monLevel ∧ (s.busGrant 11).isSome = true ∧ s.bit Reg.HST_EYE_CTL 3 = false ∧ s.inL0 = true ∧ s.activeLane n = true ∧ belowCeiling s) ∧
    (∃ (s : State),
      Typed s 'a' []) ∧
    (∃ (s : State) (e : Char × Instr × List Nat) (args : List (List (BitVec 8))),
      e ∈ letterCmds ∧ Typed s e.fst args ∧ ¬args.length ∈ e.snd.snd ∧ s.nrg.ready = []) ∧
    (∃ (s : State) (e : Char × Instr × List Nat),
      e ∈ letterCmds ∧ e.fst ∈ ['v', 's', 'e', 't', 'g', 'a', 'l'] ∧ Typed s e.fst [] ∧ 3 ≤ s.monLevel ∧ s.busGrant 11 = none) :=
  ⟨⟨typed mon0 "?", by decide +kernel⟩,
   ⟨typed mon0 "v", by decide +kernel⟩,
   ⟨typed mon0 "s", by decide +kernel⟩,
   ⟨typed mon0 "e", by decide +kernel⟩,
   ⟨typed mon0 "t", by decide +kernel⟩,
   ⟨typed mon0 "t 4 F", wrd "4", wrd "F", 4, 15, by decide +kernel⟩,
   ⟨typed mon0 "g", by decide +kernel⟩,
   ⟨typed mon0 "q 7Ff", wrd "7Ff", 2047, by decide +kernel⟩,
   ⟨typed mon0 "c 7F", wrd "7F", 127, by decide +kernel⟩,
   ⟨typed mon0 "x 3", wrd "3", 3, by decide +kernel⟩,
   ⟨typ15 "x 3 1" 1, wrd "3", wrd "1", 3, by decide +kernel⟩,
   ⟨typed mon0 "x 3 1", wrd "3", wrd "1", 3, by decide +kernel⟩,
   ⟨typed mon0 "a", by decide +kernel⟩,
   ⟨typed mon0 "g 1", ('g', .monCmdG, [0]), [wrd "1"], by decide +kernel⟩,
   ⟨full15 (typed mon0 "v"), ('v', .monCmdV, [0]), by decide +kernel⟩⟩

theorem met_HexLinesAreReadBack :
    ∃ (a : Nat) (ws : List Word) (c : Nat),
      a < 2 ^ 24 ∧ 1 ≤ ws.length ∧ ws.length ≤ 16 ∧ c < 65536 :=
  ⟨2 ^ 24 - 1, [1], 65535, by decide +kernel⟩

theorem met_MonitorRegisters :
    (∃ (s : State) (w : List (BitVec 8)) (o : Nat) (i : Island) (r : RegRow),
      Typed s 'r' [w] ∧ hexArg 6 0 16777215 w = some o ∧ s.openFor (readAcc Requester.monitor o) i = true ∧ plainReg (readAcc Requester.monitor o) r ∧ s.monHeld = false) ∧
    (∃ (s : State) (w : List (BitVec 8)) (o : Nat) (c : Nat),
      Typed s 'r' [w] ∧ hexArg 6 0 16777215 w = some o ∧ sizeCause (readAcc Requester.monitor o) = some c ∧ (s.busGrant 11).isSome = true ∧ s.monHeld = false) ∧
    (∃ (s : State) (w : List (BitVec 8)) (o : Nat) (c : Nat),
      Typed s 'r' [w] ∧ hexArg 6 0 16777215 w = some o ∧ sizeCause (readAcc Requester.monitor o) = some c ∧ (s.busGrant 11).isSome = true ∧ s.monHeld = false) ∧
    (∃ (s : State) (w : List (BitVec 8)) (v : List (BitVec 8)) (o : Nat) (n : Nat),
      Typed s 'w' [w, v] ∧ hexArg 6 0 16777215 w = some o ∧ hexArg 5 0 262143 v = some n ∧ s.monLevel = 1) ∧
    (∃ (s : State) (w : List (BitVec 8)) (v : List (BitVec 8)) (o : Nat) (n : Nat) (i : Island) (r : RegRow),
      Typed s 'w' [w, v] ∧ hexArg 6 0 16777215 w = some o ∧ hexArg 5 0 262143 v = some n ∧ 2 ≤ s.monLevel ∧ s.openFor (regAcc Requester.monitor o (word n)) i = true ∧ plainReg (regAcc Requester.monitor o (word n)) r ∧ s.monHeld = false ∧ actingReg (accKey (regAcc Requester.monitor o (word n))) = false ∧ r.noWritable = false ∧ accAlias (regAcc Requester.monitor o (word n)) = 0 ∧ word n &&& r.reservedBits = 0 ∧ accKey (regAcc Requester.monitor o (word n)) ≠ Reg.MON_CMD_CNT) ∧
    (∃ (s : State) (w : List (BitVec 8)) (v : List (BitVec 8)) (o : Nat) (n : Nat),
      Typed s 'p' [w, v] ∧ hexArg 6 0 16777215 w = some o ∧ hexArg 5 0 262143 v = some n ∧ s.monLevel < pairLevel o) ∧
    (∃ (s : State) (w : List (BitVec 8)) (v : List (BitVec 8)) (o : Nat) (n : Nat) (q : Fin 4),
      Typed s 'p' [w, v] ∧ hexArg 6 0 16777215 w = some o ∧ hexArg 5 0 262143 v = some n ∧ o = pairV q.val ∧ pairLevel o ≤ s.monLevel ∧ n < 2 ∧ s.openFor (regAcc Requester.monitor o (word n)) (Island.ofQuad q.val) = true ∧ (s.arb 11).granted 11 + 3 ≤ s.maxOf (arbRow 11) 11 ∧ s.monHeld = false ∧ s.pair q.val = none) :=
  ⟨⟨typed mon0 "r 000070", wrd "000070", 0x70, .pln, rowOf 0x70, by decide +kernel⟩,
   ⟨typed mon0 "r 71", wrd "71", 0x71, 0, by decide +kernel⟩,
   ⟨typed mon0 "r FFFFFC", wrd "FFFFFC", 0xFFFFFC, 1, by decide +kernel⟩,
   ⟨typ15 "w 4070 3FFFF" 1, wrd "4070", wrd "3FFFF", 0x4070, 0x3FFFF, by decide +kernel⟩,
   ⟨typ15 "w 70 30" 2, wrd "70", wrd "30", 0x70, 0x30, .pln, rowOf 0x70, by decide +kernel⟩,
   ⟨typ15 "p 040030 20000" 2, wrd "040030", wrd "20000", 0x40030, 0x20000, by decide +kernel⟩,
   ⟨pairTyped, wrd (String.ofList (hexN 6 (pairV 0))), wrd "1", pairV 0, 1, 0, by decide +kernel⟩⟩

theorem met_MonitorLoads :
    (∃ (s : State),
      Typed s 'l' [] ∧ s.monLevel < 3) ∧
    (∃ (s : State),
      Typed s 'l' [] ∧ 3 ≤ s.monLevel ∧ (s.busGrant 11).isSome = true ∧ s.loadRefusal 3 = none) ∧
    (∃ (s : State) (c : Nat),
      Typed s 'l' [] ∧ 3 ≤ s.monLevel ∧ (s.busGrant 11).isSome = true ∧ s.loadRefusal 3 = some c) ∧
    (∃ (s : State) (line : List (BitVec 8)),
      s.monAlive = true ∧ s.mon.running = 0 ∧ s.mon.loadWait = false ∧ s.mon.kept = [] ∧ s.monLevel ≠ 0 ∧ s.mon.cmd = some line ∧ line.head? = some 58 ∧ hexLine line = none) ∧
    (∃ (s : State) (line : List (BitVec 8)) (a : Nat) (ws : List Word),
      s.monAlive = true ∧ s.mon.running = 0 ∧ s.mon.loadWait = false ∧ s.mon.kept = [] ∧ s.monLevel ≠ 0 ∧ s.mon.cmd = some line ∧ line.head? = some 58 ∧ hexLine line = some (a, ws) ∧ s.arm.monLoad = true ∧ s.hexRefusal a ws.length = none) ∧
    (∃ (s : State) (line : List (BitVec 8)) (a : Nat) (ws : List Word) (c : Nat) (k : Nat),
      s.monAlive = true ∧ s.mon.running = 0 ∧ s.mon.loadWait = false ∧ s.mon.kept = [] ∧ s.monLevel ≠ 0 ∧ s.mon.cmd = some line ∧ line.head? = some 58 ∧ hexLine line = some (a, ws) ∧ s.arm.monLoad = true ∧ s.hexRefusal a ws.length = some (c, k)) ∧
    (∃ (s : State) (w : List (BitVec 8)) (x : Instr),
      Typed s 'a' [w] ∧ (w = [101] ∧ x = Instr.monLoadEnd ∨ w = [120] ∧ x = Instr.monLoadAbort) ∧ s.monLevel < 3) ∧
    (∃ (s : State) (w : List (BitVec 8)) (x : Instr),
      Typed s 'a' [w] ∧ (w = [101] ∧ x = Instr.monLoadEnd ∨ w = [120] ∧ x = Instr.monLoadAbort) ∧ s.monLevel < 3) ∧
    (∃ (s : State) (w : List (BitVec 8)) (x : Instr),
      Typed s 'a' [w] ∧ (w = [101] ∧ x = Instr.monLoadEnd ∨ w = [120] ∧ x = Instr.monLoadAbort) ∧ 3 ≤ s.monLevel ∧ s.arm.monLoad = false ∧ (s.busGrant 11).isSome = true) ∧
    (∃ (s : State),
      Typed s 'a' [[101]] ∧ 3 ≤ s.monLevel ∧ s.arm.monLoad = true ∧ (s.busGrant 11).isSome = true) ∧
    (∃ (s : State),
      Typed s 'a' [[120]] ∧ 3 ≤ s.monLevel ∧ s.arm.monLoad = true ∧ (s.busGrant 11).isSome = true ∧ s.stage ≠ 5 ∧ s.stage ≠ 6) ∧
    (∃ (s : State) (w : List (BitVec 8)) (k : Nat),
      Typed s 'b' [w] ∧ hexArg 1 0 7 w = some k) ∧
    (∃ (s : State),
      Typed s 'z' [] ∧ s.monLevel < 3) ∧
    (∃ (s : State),
      Typed s 'z' [] ∧ 3 ≤ s.monLevel) ∧
    (∃ (s : State),
      s.mon.zDue = false) ∧
    (∃ (s : State),
      s.mon.zDue = true) :=
  ⟨⟨typ15 "l" 2, by decide +kernel⟩,
   ⟨typed (boot15 mon0) "l", by decide +kernel⟩,
   ⟨typed ((boot15 mon0).setBit Reg.ARM_SRC 3 false) "l", 15, by decide +kernel⟩,
   ⟨hex15 (wrd ":000008000000002B00008FFC6"), wrd ":000008000000002B00008FFC6", by decide +kernel⟩,
   ⟨typed load15 ":000008000000002B00008FFC5", wrd ":000008000000002B00008FFC5", 8, [0, 0x2B, 8], by decide +kernel⟩,
   ⟨hex15 (hexText 0x10000 [1] 0xFFFF), hexText 0x10000 [1] 0xFFFF, 0x10000, [1], 16, 0x10000, by decide +kernel⟩,
   ⟨lvl (typed load15 "a e") 2, wrd "e", .monLoadEnd, by decide +kernel⟩,
   ⟨lvl (typed load15 "a x") 2, wrd "x", .monLoadAbort, by decide +kernel⟩,
   ⟨typed mon0 "a e", wrd "e", .monLoadEnd, by decide +kernel⟩,
   ⟨typed load15 "a e", by decide +kernel⟩,
   ⟨typed load15 "a x", by decide +kernel⟩,
   ⟨typed mon0 "b 7", wrd "7", 7, by decide +kernel⟩,
   ⟨typ15 "z" 2, by decide +kernel⟩,
   ⟨typed mon0 "z", by decide +kernel⟩,
   ⟨mon0, by decide +kernel⟩,
   ⟨{ mon0 with mon := { mon0.mon with zDue := true } }, by decide +kernel⟩⟩

theorem met_StepRunsTheFrontCommand :
    (∃ (s : State) (c : Instr) (rest : List Instr),
      s.pending = c :: rest) ∧
    (∃ (s : State),
      s.pending = []) :=
  ⟨⟨{ linked with pending := [.hotReset, .flr] }, .hotReset, [.flr], by decide +kernel⟩,
   ⟨linked, by decide +kernel⟩⟩

theorem met_StepsKeepTheTablesCanonical :
    (∃ (s : State) (t : State),
      Regs.wf s = true ∧ Memory.wf s = true ∧ step s = Host.Outcome.next t) ∧
    (∃ (s : State) (t : State),
      Regs.wf s = true ∧ Memory.wf s = true ∧ step s = Host.Outcome.next t) :=
  ⟨⟨{ linked with pending := [.hotReset] }, runs (step { linked with pending := [.hotReset] }), by decide +kernel, by decide +kernel, next_of (by decide +kernel)⟩,
   ⟨mem15, runs (step mem15), by decide +kernel, by decide +kernel, next_of (by decide +kernel)⟩⟩

theorem met_CommandsLeaveQueueClockAndFuses :
    (∃ (c : Instr) (s : State) (t : State),
      exec c s = Host.Outcome.next t) ∧
    (∃ (c : Instr) (s : State) (t : State),
      exec c s = Host.Outcome.next t ∧ c ≠ Instr.deviceTimeWrap) ∧
    (∃ (c : Instr) (s : State) (t : State),
      exec c s = Host.Outcome.next t) ∧
    (∃ (c : Instr) (s : State) (t : State),
      exec c s = Host.Outcome.next t) :=
  ⟨⟨.hotReset, linked, runs (exec .hotReset linked), next_of (by decide +kernel)⟩,
   ⟨.flr, linked, runs (exec .flr linked), next_of (by decide +kernel), (by decide +kernel)⟩,
   ⟨.hotReset, linked, runs (exec .hotReset linked), next_of (by decide +kernel)⟩,
   ⟨.fuseProgramDone true, fuse15, runs (exec (.fuseProgramDone true) fuse15), next_of (by decide +kernel)⟩⟩

end Sys2Proof.Tests
end

section
/-!
PROOFS. The machine as a whole (00_scope.md): what every command leaves as it was, what one tick changes, and the two statements on
the step and on the queue, the clock and the fuses.
-/

namespace Sys2Proof.Machine

/-! ### A view that every round of a loop keeps -/

theorem State.foldl_keeps {α β : Type} (view : State → β) {f : State → α → State} (hf : ∀ t a, view (f t a) = view t)
    (l : List α) (s : State) : view (l.foldl f s) = view s :=
  List.foldlRecOn l f (motive := fun t => view t = view s) rfl fun t ht a _ => (hf t a).trans ht

theorem State.forAll_keeps {β : Type} (view : State → β) {f : State → Nat → State} (hf : ∀ t k, view (f t k) = view t)
    (ks : List Nat) (s : State) : view (s.forAll ks f) = view s := State.foldl_keeps view hf ks s

/-! ### One tick

A tick books, dates conditions and, under shed step 6, lets idle islands sleep. The bookkeeping keeps all of `outward`; the sleep keeps
device time only, since an island that goes OFF loses its registers. -/

/-- What the bookkeeping of a tick leaves as it was: device time and whether it runs, the registers, the SRAM, what was sent. -/
def State.outward (s : State) : Word54 × Bool × Tab Word × Tab SramWord × List Output :=
  (s.devTime, s.clk.timebase, s.regs, s.sram, s.sent)

/-- Device time, and whether it runs (R11, R69). -/
def State.timeView (s : State) : Word54 × Bool := (s.devTime, s.clk.timebase)

theorem State.outward_eq_iff {s t : State} :
    t.outward = s.outward ↔
      t.devTime = s.devTime ∧ t.clk.timebase = s.clk.timebase ∧ t.regs = s.regs ∧ t.sram = s.sram ∧ t.sent = s.sent := by
  simp only [State.outward, Prod.mk.injEq]

theorem State.timeView_of_outward {s t : State} (h : t.outward = s.outward) : t.timeView = s.timeView := by
  obtain ⟨hdev, hrun, -⟩ := outward_eq_iff.1 h
  exact Prod.ext hdev hrun

section
variable (s : State)

theorem State.outward_bookOne (k hp : Nat) : (s.bookOne k hp).outward = s.outward := rfl

theorem State.outward_book (k hp : Nat) : (s.book k hp).outward = s.outward := by
  unfold State.book
  split
  · rfl
  · exact (State.outward_bookOne _ 64 hp).trans (s.outward_bookOne k hp)

theorem State.outward_bookTick : s.bookTick.outward = s.outward := by
  unfold State.bookTick
  rw [State.forAll_keeps State.outward fun t l => t.outward_book _ _]
  simp only [State.outward_book]

theorem State.outward_noteIdle : s.noteIdle.outward = s.outward :=
  State.foldl_keeps State.outward (fun t i => by dsimp only; split <;> rfl) _ s

theorem State.outward_noteQuiet : s.noteQuiet.outward = s.outward := by
  unfold State.noteQuiet
  split <;> rfl

theorem State.outward_noteSlips : s.noteSlips.outward = s.outward := by
  unfold State.noteSlips
  split
  · exact State.forAll_keeps State.outward (fun t k => by split <;> rfl) _ s
  · rfl

theorem State.outward_notes : s.bookTick.noteIdle.noteQuiet.noteSlips.outward = s.outward := by
  rw [State.outward_noteSlips, State.outward_noteQuiet, State.outward_noteIdle, State.outward_bookTick]

theorem State.outward_fmcTick : s.fmcTick.outward = s.outward := by
  unfold State.fmcTick
  split <;> rfl

theorem State.outward_sleepUnderShed (h : s.fld Reg.NRG_STS 0 3 < 6) : s.sleepUnderShed.outward = s.outward :=
  congrArg State.outward (if_neg (Nat.not_le.2 h))

theorem State.timeView_setQue (x : QueSt) : { s with que := x }.timeView = s.timeView := rfl

theorem State.timeView_setTrg (x : TrgSt) : { s with trg := x }.timeView = s.timeView := rfl

theorem State.timeView_setIsland (i : Island) (x : IslSt) : (s.setIsland i x).timeView = s.timeView := rfl

theorem State.timeView_setQuad (q : Nat) (x : Quad) : (s.setQuad q x).timeView = s.timeView := rfl

theorem State.timeView_setPort (p : Nat) (x : Port) : (s.setPort p x).timeView = s.timeView := rfl

theorem State.timeView_loseRecord (slot port : Option Nat) : (s.loseRecord slot port).timeView = s.timeView := by
  cases slot <;> cases port <;> rfl

/-- The records that QUE loses are counted one by one, and a quad's ports are emptied one by one; the other islands lose a part of
the state that holds neither device time nor TIMEBASE. -/
theorem State.timeView_loseUnits (i : Island) : (s.loseUnits i).timeView = s.timeView := by
  cases i
  case que =>
    exact (State.timeView_setQue _ _).trans
      (State.foldl_keeps State.timeView (fun t e => by split; exacts [t.timeView_loseRecord _ _, rfl]) _ s)
  case tqa | tqb | tqc | tqd =>
    refine (State.timeView_setQuad _ _ _).trans ((State.timeView_setTrg _ _).trans ?_)
    exact State.forAll_keeps State.timeView (fun t k => t.timeView_setPort _ _) _ s
  all_goals rfl

theorem State.timeView_loseState (i : Island) : (s.loseState i).timeView = s.timeView := (s.resetRegs i).timeView_loseUnits i

theorem State.timeView_enterPower (i : Island) {target : Power} (h : target ≠ .gated) :
    (s.enterPower i target).timeView = s.timeView := by
  cases target
  case gated => exact absurd rfl h
  all_goals simp only [State.enterPower, apply_ite State.timeView, State.timeView_setIsland, State.timeView_loseState, ite_self]

theorem State.timeView_sleepTo (i : Island) {target : Power} (h : target ≠ .gated) : (s.sleepTo i target).timeView = s.timeView := by
  unfold State.sleepTo
  dsimp only
  split
  · rfl
  · split
    · exact s.timeView_enterPower i h
    · split <;> rfl
  · split
    · exact s.timeView_enterPower i h
    · split <;> rfl
  · split
    · split <;> rfl
    · rfl

theorem State.timeView_sleepAllIdle : s.sleepAllIdle.timeView = s.timeView := by
  unfold State.sleepAllIdle
  refine State.foldl_keeps State.timeView (fun t i => ?_) _ s
  dsimp only
  split
  · split
    · exact t.timeView_sleepTo i (by split <;> decide)
    · split
      · exact t.timeView_sleepTo i (by decide)
      · rfl
    · rfl
  · rfl

theorem State.timeView_sleepUnderShed : s.sleepUnderShed.timeView = s.timeView := by
  unfold State.sleepUnderShed
  split
  · exact s.timeView_sleepAllIdle
  · rfl

/-- Device time goes on by one while TIMEBASE runs (R11, R69). -/
theorem State.tick_devTime : s.tick.devTime = if s.clk.timebase then s.devTime + 1 else s.devTime := by
  have h : s.bookTick.noteIdle.noteQuiet.noteSlips.sleepUnderShed.fmcTick.timeView = s.timeView := by
    rw [timeView_of_outward (State.outward_fmcTick _), timeView_sleepUnderShed, timeView_of_outward s.outward_notes]
  obtain ⟨hdev, hrun⟩ := Prod.mk.inj h
  unfold State.tick
  dsimp only
  rw [hdev, hrun]

/-- Below shed step 6 a tick changes no register and no SRAM word, and sends nothing (R268). -/
theorem State.tick_outward (h : s.fld Reg.NRG_STS 0 3 < 6) :
    s.tick.regs = s.regs ∧ s.tick.sram = s.sram ∧ s.tick.sent = s.sent := by
  obtain ⟨-, -, hregs, -⟩ := outward_eq_iff.1 s.outward_notes
  have notes : s.bookTick.noteIdle.noteQuiet.noteSlips.fld Reg.NRG_STS 0 3 < 6 := by
    simpa only [State.fld, State.rd, hregs] using h
  have all := ((State.outward_fmcTick _).trans (State.outward_sleepUnderShed _ notes)).trans s.outward_notes
  exact (outward_eq_iff.1 all).2.2

/-- Of what `Stays` names a tick changes the clock alone. -/
theorem State.tick_stays : Stays { s with now := s.now + 1 } s.tick :=
  have h := (Stays.refl s).bookTick.noteIdle.noteQuiet.noteSlips.sleepUnderShed.fmcTick
  ⟨h.pending, congrArg (· + 1) h.now, h.fuses, h.regs, h.sram⟩

end

/-! ### What the commands leave

Every command completes, and `Stays` holds of it by the lemma of the operation that is its meaning; two commands change one of
the five: the tick in which device time wraps, and the end of a fuse programming. -/

theorem exec_stays {c : Instr} {s : State} (hw : c ≠ .deviceTimeWrap) (hf : ∀ ok, c ≠ .fuseProgramDone ok) :
    Completes c s (Stays s) :=
  have h := Stays.refl s
  match c with
  | .deviceTimeWrap => absurd rfl hw
  | .fuseProgramDone ok => absurd rfl (hf ok)
  -- what several commands do: a register access or one shared operation
  | .plnParHoldClear .. | .mailboxCapture .. | .mailboxApply .. | .lockBitSet .. | .pairVWrite .. | .islandEnable ..
    | .islandGate .. | .rejudge .. | .plnSrcSwitch .. | .fmcStart .. | .opRequest .. | .loadStart ..
    | .armDataWrite .. | .loadEnd .. | .loadAbort .. | .loadFlash .. | .progA .. | .progB .. | .commitWhole ..
    | .recast .. | .maquetteWrite .. | .fuseProgram .. | .islandReset .. | .devicePurge .. | .eyeScanStart ..
    | .testmodeEnter .. | .testmodeExit .. | .prbsClear .. | .ltrSend .. | .redetect .. | .atcFlush ..
    | .sramWindowWrite .. | .create .. | .chnQuiesce .. | .resume .. | .destroy .. | .chnOpInvalid .. | .doorbell ..
    | .evtMaskWrite .. | .evtRouteWrite .. | .lockRelease .. | .lockForce .. | .nrgCeilDrvWrite .. | .encClrcnt ..
    | .veResync .. | .quadRestart .. | .headPwrSet .. | .headPwrClear .. | .masterEnableSet ..
    | .masterEnableClear .. | .groupLeave .. | .rejoin .. | .joinWrite .. | .grpreset .. | .diag .. | .txreqSet ..
    | .txreqCancel .. | .monLevelWrite .. => ⟨_, rfl, h.writeReg⟩
  | .rcFieldRead .. | .mailboxWordRead .. | .lockAcquire .. | .satLkstsRead .. | .sramWindowRead ..
      => ⟨_, rfl, h.readReg⟩
  | .flr .. | .busMasterEnableClear .. | .d3hotEntry .. | .atsEnableClear .. => ⟨_, rfl, h.configOp⟩
  | .queueEnable .. | .queueDisable .. | .queueReset .. | .queueFaultclr .. => ⟨_, rfl, h.queueWrite⟩
  | .setAliasWrite .. | .clearAliasWrite .. | .toggleAliasWrite .. => ⟨_, rfl, h.aliasOp⟩
  | .fpwrFree .. | .fpwrKeepOn .. | .fpwrOffNow .. => ⟨_, rfl, h.forceWrite⟩
  | .configRequest .. | .busMasterEnableSet .. | .d3hotToD0 .. => ⟨_, rfl, h.configOp.released⟩
  | .fbInitSet .. | .fbInitClear .. | .fbRecover .. => ⟨_, rfl, h.fbCtlWrite⟩
  | .registerWrite .. | .registerRead .. => ⟨_, rfl, h.regAccess⟩
  | .canLineShort .. | .txdDominantTimeout .. => ⟨_, rfl, h.lineFault⟩
  | .satHrd .. | .satHatm .. => ⟨_, rfl, h.splitBurst⟩
  | .vio5Loss .. | .vio5Return .. => ⟨_, rfl, h.lit⟩
  | .canLineShortEnd .. | .txdtoRearm .. => ⟨_, rfl, h.lineClear⟩
  -- Machine/Registers.lean
  | .scrubRegisterCheck .. => ⟨_, rfl, h.scrubGrant⟩
  | .mailboxCaptureDone .. => ⟨_, rfl, h.captureDone⟩
  | .mailboxApplyDone .. => ⟨_, rfl, h.applyDone⟩
  | .pairTimeout .. => ⟨_, rfl, h.pairOver⟩
  | .handshakeEntryDelivered .. => ⟨_, rfl, h.entryDelivered⟩
  | .handshakeSendResume .. => ⟨_, rfl, h.sendResumed⟩
  -- Machine/Islands.lean
  | .islandIdleTimeout .. => ⟨_, rfl, h.idleTimeout⟩
  | .islandDrainDone .. => ⟨_, rfl, h.drained⟩
  | .islandPowerupStart .. => ⟨_, rfl, h.powerUpNext⟩
  | .islandWakeDone .. => ⟨_, rfl, h.wakeDone⟩
  | .parkedWriteDeliver .. => ⟨_, rfl, .ite h.deliverParked.monPump h⟩
  | .wakeFail .. => ⟨_, rfl, (Stays.ite h.waitOver.jobWaitOver h.waitOver).monPump⟩
  -- Machine/Clocks.lean
  | .xtalIrcGateEnd .. => ⟨_, rfl, h.ircGate⟩
  | .refclkGateEnd .. => ⟨_, rfl, h.refGate⟩
  | .refclkGateStall .. => ⟨_, rfl, h.refStall⟩
  | .judgeTimeout .. => ⟨_, rfl, h.judgeOver⟩
  | .xtalStop .. => ⟨_, rfl, h.xtalStops⟩
  | .fmcGateEnd .. => ⟨_, rfl, h.fmcEnd⟩
  | .fmcTimeout .. => ⟨_, rfl, h.fmcOver⟩
  | .sequencerSettleEnd .. => ⟨_, rfl, h.seqSettled⟩
  | .sequencerStepDone .. => ⟨_, rfl, h.seqDone⟩
  -- Machine/Armature.lean
  | .flashSlotReadDone .. => ⟨_, rfl, h.slotRead⟩
  | .armVerifyDone .. => ⟨_, rfl, h.verifyDone.monVerified.monPump⟩
  | .armProgdone .. => ⟨_, rfl, h.programDone⟩
  -- Machine/Resets.lean
  | .porAssert .. => ⟨_, rfl, h.porAssertOp⟩
  | .porEnd .. => ⟨_, rfl, .ite h.resetDevice h⟩
  | .resetNPulse .. => ⟨_, rfl, h.resetPulse⟩
  | .sramClearDone .. => ⟨_, rfl, h.sramCleared⟩
  | .powerupCommitStart .. => ⟨_, rfl, h.powerUpCommit⟩
  | .perstDeassert .. => ⟨_, rfl, h.upd.enableHst⟩
  | .perstAssert .. => ⟨_, rfl, .ite h.perstOp h⟩
  | .hotReset .. => ⟨_, rfl, h.hotResetOp⟩
  | .flrComplete .. => ⟨_, rfl, h.flrDone⟩
  | .purgeEraseDone .. => ⟨_, rfl, h.purgeDone⟩
  -- Machine/HostLink.lean
  | .linkUp .. => ⟨_, rfl, h.linkUpOp.released⟩
  | .eqPhase2Done .. => ⟨_, rfl, h.eqDone⟩
  | .eqPhase3Request .. => ⟨_, rfl, h.eqRequest⟩
  | .laneLockLoss .. => ⟨_, rfl, h.lockLoss.released⟩
  | .recoveryTimeout .. => ⟨_, rfl, h.recoveryTimeout.released⟩
  | .recoverySurvived .. => ⟨_, rfl, h.survived⟩
  | .upconfigureAttempt .. => ⟨_, rfl, h.upcfgAttempt⟩
  | .upconfigureDone .. => ⟨_, rfl, h.upcfgDone.released⟩
  | .eyeScanAuto .. => ⟨_, rfl, h.eyeAuto.startReady⟩
  | .eyeScanDone .. => ⟨_, rfl, h.eyeDone⟩
  | .eyeScanPauseTimeout .. => ⟨_, rfl, h.eyePauseOver⟩
  | .laneMarginCommand .. => ⟨_, rfl, h.marginOp⟩
  | .prbsCheckerLock .. => ⟨_, rfl, h.prbsLock⟩
  | .l0sEntry .. => ⟨_, rfl, h.l0sOp⟩
  | .l1Request .. => ⟨_, rfl, h.l1Op⟩
  | .l11Exit .. => ⟨_, rfl, h.l11Exit⟩
  | .ltrAutoSend .. => ⟨_, rfl, h.ltrAuto⟩
  | .refclkStop .. => ⟨_, rfl, h.refclkStop⟩
  | .surpriseLinkDown .. => ⟨_, rfl, .ite h.surpriseDown h⟩
  | .refclkStart .. => ⟨_, rfl, h.refclkStart⟩
  | .electricalIdleExit .. => ⟨_, rfl, h.idleExit⟩
  | .linkReturnToL0 .. => ⟨_, rfl, h.returnL0.released⟩
  -- Machine/HostTxn.lean
  | .slotPowerLimitMsg .. => ⟨_, rfl, h.slotPower⟩
  | .bar4Access .. => ⟨_, rfl, h.bar4Op⟩
  | .completionReceived .. => ⟨_, rfl, h.completion⟩
  | .completionTimeout .. => ⟨_, rfl, h.completionOver⟩
  | .tagQuarantineEnd .. => ⟨_, rfl, h.quarantineOver⟩
  | .atomicopRequest .. => ⟨_, rfl, h.hostAtomic⟩
  | .atomicopLockTimeout .. => ⟨_, rfl, h.jobStartTimeout⟩
  | .translationCompletion .. => ⟨_, rfl, h.translated⟩
  | .invalidateRequest .. => ⟨_, rfl, h.invalidateOp⟩
  | .invalidateCompletion .. => ⟨_, rfl, h.invalidated⟩
  -- Machine/Memory.lean
  | .memPatrolScrub .. => ⟨_, rfl, h.patrol⟩
  -- Machine/Channels.lean
  | .channelQuiesced .. => ⟨_, rfl, h.quiesced⟩
  -- Machine/Queues.lean
  | .queueDrainDone .. => ⟨_, rfl, .ite h.queueDrained h⟩
  | .queueEntryWrite .. => ⟨_, rfl, .ite h.writeEntry.takeWaiting h⟩
  | .commandFetch .. => ⟨_, rfl, .ite h.fetchOp h⟩
  -- Machine/Commands.lean
  | .cmdMark .. => ⟨_, rfl, h.onCmd fun _ _ => h.cmdOver.stageRecord⟩
  | .cmdQuiesce .. => ⟨_, rfl, h.onCmd fun _ _ => h.cmdOver.quiesceChan⟩
  | .cmdLock .. => ⟨_, rfl, h.onCmd fun _ _ => h.cmdLockOp⟩
  | .cmdLockGranted .. => ⟨_, rfl, h.lockGranted⟩
  | .cmdUnlock .. => ⟨_, rfl, h.onCmd fun _ _ => h.cmdUnlockOp⟩
  | .cmdStaleOrUnknown .. => ⟨_, rfl, h.cmdSkip⟩
  | .cmdPitch .. => ⟨_, rfl, h.onCmd fun _ _ => h.cmdPitchOp⟩
  | .cmdExposure .. => ⟨_, rfl, h.onCmd fun _ _ => h.cmdExposureOp⟩
  | .cmdRephase .. => ⟨_, rfl, h.onCmd fun _ _ => h.cmdRephaseOp⟩
  | .cmdWindowSet .. => ⟨_, rfl, h.onCmd fun _ _ => h.cmdWindowSetOp⟩
  | .cmdWindowClear .. => ⟨_, rfl, h.onCmd fun _ _ => h.cmdWindowClearOp⟩
  | .cmdBlur .. => ⟨_, rfl, h.onCmd fun _ _ => h.setChn.cmdOver⟩
  | .cmdTriggerReserved .. => ⟨_, rfl, h.cmdReservedOp⟩
  -- Machine/Events.lean
  | .vectorTimerExpiry .. => ⟨_, rfl, h.vectorTimer⟩
  -- Machine/Energy.lean
  | .cadenceBoundary .. => ⟨_, rfl, h.cadenceBoundary⟩
  | .arbiterGrant .. => ⟨_, rfl, h.arbitrate⟩
  | .meterReport .. => ⟨_, rfl, h.meterReport⟩
  -- Machine/Encoders.lean
  | .encInputQualified .. => ⟨_, rfl, h.encQualified⟩
  | .encBandTimeout .. => ⟨_, rfl, .ite h (.ite h.encBand h.setEnc)⟩
  | .encProbeDone .. => ⟨_, rfl, h.probeDone⟩
  | .encShortcm .. => ⟨_, rfl, .ite h h.encCm⟩
  | .encSupplyflt .. => ⟨_, rfl, .ite h.setEnc.setBit.raiseEnc h⟩
  | .levStateChange .. => ⟨_, rfl, h.levChange⟩
  | .directLevChange .. => ⟨_, rfl, h.setLev.forAll fun _ _ h => .ite h.directDrive h⟩
  | .seStep .. => ⟨_, rfl, h.seStepOp⟩
  | .sprueFilterRelease .. => ⟨_, rfl, h.filterRelease⟩
  | .veStillTimeout .. => ⟨_, rfl, h.veStillOp⟩
  | .estimateSend .. => ⟨_, rfl, .ite h.sendEstimate h⟩
  | .slipDetected .. => ⟨_, rfl, .ite h.lit.raiseEnc h⟩
  | .slipCleared .. => ⟨_, rfl, .ite h.lit h⟩
  | .encSupplyFaultEnd .. => ⟨_, rfl, .ite h.setEnc h⟩
  -- Machine/Triggers.lean
  | .fireFreeze .. => ⟨_, rfl, .ite h.freeze h⟩
  | .fireEdge .. => ⟨_, rfl, .ite h.fireEdgeOp h⟩
  | .triggerEnd .. => ⟨_, rfl, .ite h.triggerEndOp h⟩
  | .strobeOn .. => ⟨_, rfl, .ite h.strobeOnOp h⟩
  | .strobeOff .. => ⟨_, rfl, .ite h.strobeOffOp h⟩
  | .stbLimCut .. => ⟨_, rfl, h.cutStb⟩
  | .trgLimCut .. => ⟨_, rfl, h.cutTrg⟩
  | .strobeSinkFault .. => ⟨_, rfl, h.sinkFault⟩
  | .gapRunTimeout .. => ⟨_, rfl, .ite h.gapRunOver h⟩
  | .standstillFrame .. => ⟨_, rfl, .ite h.stillFrame h⟩
  | .noack .. => ⟨_, rfl, .ite h.noAck h⟩
  | .quadFault .. => ⟨_, rfl, .ite h.quadFaultOp h⟩
  -- Machine/Heads.lean
  | .headPresenceTaken .. => ⟨_, rfl, h.presenceTaken⟩
  | .headAbsenceTaken .. => ⟨_, rfl, h.absenceTaken⟩
  | .headPenRise .. => ⟨_, rfl, h.penRise⟩
  | .headPowerGood .. => ⟨_, rfl, h.powerGood⟩
  | .headPgdTimeout .. => ⟨_, rfl, h.pgdOver⟩
  | .headPowerFault .. => ⟨_, rfl, h.pgdLow⟩
  | .attentionPress .. => ⟨_, rfl, h.attention⟩
  | .attentionSequenceEnd .. => ⟨_, rfl, h.attentionOver⟩
  -- Machine/Ring.lean
  | .ringTrainStart .. => ⟨_, rfl, h.onRing fun _ h => h.trainStartOp⟩
  | .trainingBlockRx .. => ⟨_, rfl, h.onRing fun _ h => h.trainRx⟩
  | .ringTrainTimeout .. => ⟨_, rfl, h.onRing fun _ h => h.trainOver⟩
  | .ringFrameRx .. => ⟨_, rfl, h.onRing fun _ h => h.frameIn⟩
  | .beaconRx .. => ⟨_, rfl, h.onFrame fun _ _ h => h.beaconIn⟩
  | .sampleRx .. => ⟨_, rfl, h.onFrame fun _ _ h => .ite h h.sampleIn⟩
  | .statusRx .. => ⟨_, rfl, h.onFrame fun _ _ h => h.statusIn⟩
  | .delayReqRx .. => ⟨_, rfl, h.onFrame fun _ _ h => h.delayReqIn⟩
  | .delayRespRx .. => ⟨_, rfl, h.onFrame fun _ _ h => h.delayRespIn⟩
  | .wrapRx .. => ⟨_, rfl, h.onFrame fun _ _ h => h.wrapIn⟩
  | .unwrapRx .. => ⟨_, rfl, h.onFrame fun _ _ h => h.unwrapIn⟩
  | .leaveRx .. => ⟨_, rfl, h.onFrame fun _ _ h => h.leaveIn⟩
  | .groupresetRx .. => ⟨_, rfl, h.onFrame fun _ _ h => .ite h h.groupresetIn⟩
  | .fetchreqRx .. => ⟨_, rfl, h.onFrame fun _ _ h => h.fetchreqIn.startReady⟩
  | .armatureFrameRx .. => ⟨_, rfl, h.onFrame fun _ _ h => h.armatureIn.startReady⟩
  | .gapFrameRx .. => ⟨_, rfl, h.onFrame fun _ _ h => .ite h.gapIn h⟩
  | .echoRx .. => ⟨_, rfl, h.onFrame fun _ _ h => h.echoIn⟩
  | .statusSend .. => ⟨_, rfl, h.onRing fun _ h => h.statusOp⟩
  | .beaconSend .. => ⟨_, rfl, h.onRing fun _ h => h.beaconOp⟩
  | .sampleSend .. => ⟨_, rfl, h.onRing fun _ h => h.sampleOp⟩
  | .heartbeatSend .. => ⟨_, rfl, h.onRing fun _ h => .ite h.send h⟩
  | .delayMeasure .. => ⟨_, rfl, h.onRing fun _ h => h.delayReqOp⟩
  | .geStale .. => ⟨_, rfl, h.onRing fun _ h => h.geStaleOp⟩
  | .electionStable .. => ⟨_, rfl, h.onRing fun _ h => h.electOp⟩
  | .memberMissing .. => ⟨_, rfl, h.onRing fun _ h => h.memberMissing⟩
  | .gapFrameSend .. => ⟨_, rfl, h.onRing fun _ h => .ite h.gapFrame h⟩
  | .keeperLost .. => ⟨_, rfl, h.onRing fun _ h => h.keeperLostOp⟩
  | .receiveDirectionLost .. => ⟨_, rfl, h.onRing fun _ h => h.directionLost⟩
  | .directionRestored .. => ⟨_, rfl, h.onRing fun _ h => h.directionBack⟩
  | .moduleChange .. => ⟨_, rfl, h.onRing fun _ h => h.moduleOp⟩
  | .fetchStart .. => ⟨_, rfl, h.onRing fun _ h => h.fetchOpRing.startReady⟩
  | .fetchStall .. => ⟨_, rfl, h.onRing fun _ h => h.fetchStallOp⟩
  | .fetchRetry .. => ⟨_, rfl, h.onRing fun _ h => h.fetchRetryOp.startReady⟩
  | .groupResetTime .. => ⟨_, rfl, h.onRing fun _ h => h.groupResetOp⟩
  -- Machine/FieldBus.lean
  | .fbIntegrationDone .. => ⟨_, rfl, h.integrated⟩
  | .fbQuietEnd .. => ⟨_, rfl, h.quietEnd⟩
  | .canFrameRx .. => ⟨_, rfl, h.frameRx⟩
  | .canRxEntryWrite .. => ⟨_, rfl, h.rxEntryWrite⟩
  | .cantxFetch .. => ⟨_, rfl, h.cantxFetchOp⟩
  | .canFrameTxDone .. => ⟨_, rfl, h.frameSent⟩
  | .canTxFail .. => ⟨_, rfl, h.frameFailed⟩
  | .canBusError .. => ⟨_, rfl, h.busError⟩
  | .canBusoffRecovered .. => ⟨_, rfl, h.recovered⟩
  | .limitedWindowEnd .. => ⟨_, rfl, h.windowEnd⟩
  | .canProtocolException .. => ⟨_, rfl, h.protocolException⟩
  | .canSwapDetect .. => ⟨_, rfl, h.swapSeen⟩
  | .polarityInvert .. => ⟨_, rfl, h.invertPolarity⟩
  -- Machine/Satellite.lean
  | .satGrant .. => ⟨_, rfl, h.satGrantOp⟩
  | .satGrantTimeout .. => ⟨_, rfl, h.onSat fun _ h => h.satGrantTimeoutOp⟩
  | .bridgeBurst .. => ⟨_, rfl, h.bridgeBurstOp⟩
  | .satWrObserved .. => ⟨_, rfl, h.onSat fun _ h => h.wrObserved⟩
  | .satHwr .. => ⟨_, rfl, h.hwrBurst⟩
  | .satCmdReserved .. => ⟨_, rfl, h.reservedBurst⟩
  | .satTargetTimeout .. => ⟨_, rfl, .ite h.targetTimeout.send h⟩
  | .satLockTake .. => ⟨_, rfl, h.satLockTakeOp⟩
  | .satLockRelease .. => ⟨_, rfl, h.satLockReleaseOp⟩
  | .satLockmaxExpiry .. => ⟨_, rfl, h.lockmaxOp⟩
  | .bridgeHostWrite .. => ⟨_, rfl, h.hostWindowWrite⟩
  | .bridgeHostRead .. => ⟨_, rfl, h.hostWindowRead⟩
  | .bridgeReadStartTimeout .. => ⟨_, rfl, h.onSat fun _ h => h.jobStartTimeout⟩
  | .prefetchExpiry .. => ⟨_, rfl, h.onSat fun _ h => h.prefetchExpiryOp⟩
  | .splitAnswerTimeout .. => ⟨_, rfl, h.onSat fun _ h => h.splitTimeoutOp⟩
  | .satIntAssert .. => ⟨_, rfl, h.satInt⟩
  | .satMrstAssert .. => ⟨_, rfl, h.mrstAssert⟩
  | .satMrstDeassert .. => ⟨_, rfl, h.mrstDeassert⟩
  | .satReqWake .. => ⟨_, rfl, h.satReq⟩
  -- Machine/Monitor.lean
  | .monBanner .. => ⟨_, rfl, h.monBannerOp⟩
  | .monSessionStart .. => ⟨_, rfl, h.monStart⟩
  | .monBreak .. => ⟨_, rfl, h.monBreakOp⟩
  | .monBreakEnd .. => ⟨_, rfl, h.monBreakEndOp⟩
  | .monCharRx .. => ⟨_, rfl, h.monRx⟩
  | .monCmdHelp .. => ⟨_, rfl, h.monHelp⟩
  | .monCmdV .. => ⟨_, rfl, h.monV⟩
  | .monCmdR .. => ⟨_, rfl, h.monR⟩
  | .monCmdW .. => ⟨_, rfl, h.monW⟩
  | .monCmdP .. => ⟨_, rfl, h.monP⟩
  | .monCmdS .. => ⟨_, rfl, h.monS⟩
  | .monCmdE .. => ⟨_, rfl, h.monE⟩
  | .monCmdT .. => ⟨_, rfl, h.monT⟩
  | .monCmdG .. => ⟨_, rfl, h.monG⟩
  | .monCmdQ .. => ⟨_, rfl, h.monQ⟩
  | .monCmdC .. => ⟨_, rfl, h.monC⟩
  | .monCmdX .. => ⟨_, rfl, h.monX.startReady⟩
  | .monCmdA .. => ⟨_, rfl, h.monA⟩
  | .monLoadEnd .. => ⟨_, rfl, h.monLoadEnd⟩
  | .monLoadAbort .. => ⟨_, rfl, h.monLoadAbort⟩
  | .monCmdL .. => ⟨_, rfl, h.monL⟩
  | .monHexLine .. => ⟨_, rfl, h.monHex⟩
  | .monCmdB .. => ⟨_, rfl, h.monB⟩
  | .monCmdZ .. => ⟨_, rfl, h.monZ⟩
  | .monZReset .. => ⟨_, rfl, h.monZReset⟩
  | .monEventLine .. => ⟨_, rfl, h.monEventLine⟩

/-- A tick in which device time wraps changes the clock alone; at any other time DEVICE_TIME_WRAP does nothing (R11). -/
theorem deviceTimeWrap_stays (s : State) : Completes .deviceTimeWrap s fun t => ∃ n, Stays { s with now := n } t := by
  refine ⟨_, rfl, ?_⟩
  split
  · exact ⟨_, s.tick_stays⟩
  · exact ⟨s.now, .refl s⟩

theorem Stays.withFuses {s t : State} {f : Fuses} (h : Stays s t) : Stays { s with fuses := f } { t with fuses := f } :=
  ⟨h.pending, h.now, rfl, h.regs, h.sram⟩

/-- The end of a fuse programming: the fuses change only where it succeeded, to what R110 makes of the item. -/
theorem State.fuseDone_cases (s : State) (ok : Bool) :
    Stays s (s.fuseDone ok) ∨
      ok = true ∧ ∃ x f, s.arm.fusing = some x ∧ s.fuses.programmed x.1 x.2 = some f ∧
        Stays { s with fuses := f } (s.fuseDone ok) := by
  unfold State.fuseDone
  cases hx : s.arm.fusing with
  | none => exact .inl (.refl s)
  | some x =>
    have h : Stays s ({ s with arm := { s.arm with fusing := none } }.setBit Reg.ARM_FUSE_STS 0 false) :=
      (Stays.refl s).lit.setBit
    cases ok with
    | false => exact .inl h.setBit
    | true =>
      cases hf : s.fuses.programmed x.1 x.2 with
      | none =>
        left
        simp only [State.setBit_fuses, hf, if_true]
        exact h.setBit
      | some f =>
        refine .inr ⟨rfl, x, f, rfl, hf, ?_⟩
        simp only [State.setBit_fuses, hf, if_true]
        exact h.withFuses.lit.setFld

theorem Completes.of_exec {c : Instr} {s t : State} {p : State → Prop} (h : Completes c s p) (e : exec c s = .next t) : p t := by
  obtain ⟨u, hu, hp⟩ := h
  rw [e] at hu
  cases hu
  exact hp

/-! ### The statements -/

/-- Settles O56: a queue that holds a command is `step`'s own case; on an empty queue the step is `State.tick`, whose bookkeeping keeps
device time, registers and SRAM, and whose sleep under shed step 6 keeps device time. -/
theorem stepRunsTheFrontCommand : Obligations.StepRunsTheFrontCommand := by
  unfold Obligations.StepRunsTheFrontCommand
  constructor
  · intro s c rest h
    simp only [step, h]
  · intro s h
    have stays := s.tick_stays
    refine ⟨s.tick, by simp only [step, h], stays.now, s.tick_devTime, stays.pending.trans h, fun shed => ?_⟩
    obtain ⟨hregs, hsram, hsent⟩ := s.tick_outward shed
    refine ⟨⟨fun j _ => ?_, fun w => ?_, stays.pending⟩, hsent⟩
    · simp only [State.rd, hregs]
    · simp only [State.sramW, hsram]

/-- Settles O60, by the command: the wrap of device time, the end of a fuse programming, and all others, for which `Stays` holds. -/
theorem commandsLeaveQueueClockAndFuses : Obligations.CommandsLeaveQueueClockAndFuses := by
  unfold Obligations.CommandsLeaveQueueClockAndFuses
  intro c s t e
  by_cases hw : c = .deviceTimeWrap
  · subst hw
    obtain ⟨n, h⟩ := (deviceTimeWrap_stays s).of_exec e
    exact ⟨h.pending, fun hne => absurd rfl hne, .inl h.fuses⟩
  by_cases hf : ∃ ok, c = .fuseProgramDone ok
  · obtain ⟨ok, rfl⟩ := hf
    cases e
    rcases s.fuseDone_cases ok with h | ⟨rfl, x, f, hx, hp, h⟩
    · exact ⟨h.pending, fun _ => h.now, .inl h.fuses⟩
    · exact ⟨h.pending, fun _ => h.now, .inr ⟨rfl, x, f, hx, hp, h.fuses⟩⟩
  · have h := (exec_stays hw fun ok hc => hf ⟨ok, hc⟩).of_exec e
    exact ⟨h.pending, fun _ => h.now, .inl h.fuses⟩

end Sys2Proof.Machine
end

section
/-!
PROOFS. The canonical form of the register file and of the SRAM (R26, R27, R206), kept by every step.
-/

namespace Sys2Proof.Machine

/-- Every command keeps the canonical form of both tables: by `Stays`, also where the clock or the fuses change (R11, R110). -/
theorem exec_keeps_wf {c : Instr} {s t : State} (e : exec c s = .next t) (hr : Regs.wf s = true) (hm : Memory.wf s = true) :
    Regs.wf t = true ∧ Memory.wf t = true := by
  by_cases hw : c = .deviceTimeWrap
  · subst hw
    obtain ⟨n, h⟩ := (deviceTimeWrap_stays s).of_exec e
    exact ⟨h.regs hr, h.sram hm⟩
  by_cases hf : ∃ ok, c = .fuseProgramDone ok
  · obtain ⟨ok, rfl⟩ := hf
    cases e
    rcases s.fuseDone_cases ok with h | ⟨-, x, f, -, -, h⟩
    · exact ⟨h.regs hr, h.sram hm⟩
    · exact ⟨h.regs hr, h.sram hm⟩
  · have h := (exec_stays hw fun ok hc => hf ⟨ok, hc⟩).of_exec e
    exact ⟨h.regs hr, h.sram hm⟩

/-- Settles O59: a step is a tick or the command at the front of the queue, and each keeps both tables canonical. -/
theorem stepsKeepTheTablesCanonical : Obligations.StepsKeepTheTablesCanonical := by
  unfold Obligations.StepsKeepTheTablesCanonical
  intro s t hr hm e
  cases hp : s.pending with
  | nil =>
    have h : step s = .next s.tick := by simp only [step, hp]
    cases h.symm.trans e
    exact ⟨s.tick_stays.regs hr, s.tick_stays.sram hm⟩
  | cons c rest =>
    have h : step s = exec c { s with pending := rest } := by simp only [step, hp]
    exact exec_keeps_wf (h.symm.trans e) hr hm

end Sys2Proof.Machine
end

section
/-!
PROOFS. The register path (02_registers.md): where an access leads, that an admitted access takes its grant and takes place, what its
answer changes, and the read or write of a register by its row. The later proofs on registers use these lemmas.
-/

namespace Sys2Proof.Machine
open Sys2Proof.Claims

/-! ### Addresses of accesses (R21, R24) -/

section
variable {req : Requester} {k : Nat} {v : Word}

@[simp] theorem accWord_dwordOf (v : Word) : word (dwordOf v).toNat = v := by
  apply BitVec.eq_of_toNat_eq
  have := v.isLt
  simp only [dwordOf, BitVec.toNat_ofNat]
  omega

@[simp] theorem accWord_regAcc : accWord (regAcc req k v) = v := accWord_dwordOf v

theorem accBlk_ofNat {a : RegAccess} (ha : a.addr = BitVec.ofNat 24 k) (hb : k / 65536 ≤ 0x13) : accBlk a = k / 65536 := by
  rw [accBlk, ha, BitVec.toNat_ofNat, Nat.mod_eq_of_lt (by omega)]

theorem accOff_ofNat {a : RegAccess} (ha : a.addr = BitVec.ofNat 24 k) (hb : k / 65536 ≤ 0x13) : accOff a = k % 65536 := by
  rw [accOff, ha, BitVec.toNat_ofNat, Nat.mod_eq_of_lt (by omega : k < 2 ^ 24)]

theorem accAlias_ofNat {a : RegAccess} (ha : a.addr = BitVec.ofNat 24 k) (hb : k / 65536 ≤ 0x13) :
    accAlias a = k % 65536 / 0x4000 := by
  rw [accAlias, accBlk_ofNat ha hb, accOff_ofNat ha hb, if_pos hb]

theorem accKey_ofNat {a : RegAccess} (ha : a.addr = BitVec.ofNat 24 k) (hb : k / 65536 ≤ 0x13) :
    accKey a = k / 65536 * 65536 + k % 65536 % 0x4000 := by
  rw [accKey, accBlk_ofNat ha hb, accOff_ofNat ha hb, if_pos hb]

/-- A register of a register block at its own offset. -/
abbrev ownOffset (k : Nat) : Prop := k / 65536 ≤ 0x13 ∧ k % 65536 < 0x4000

theorem accKey_own {a : RegAccess} (ha : a.addr = BitVec.ofNat 24 k) (h : ownOffset k) : accKey a = k := by
  have := h.2
  rw [accKey_ofNat ha h.1]
  omega

theorem accAlias_own {a : RegAccess} (ha : a.addr = BitVec.ofNat 24 k) (h : ownOffset k) : accAlias a = 0 := by
  have := h.2
  rw [accAlias_ofNat ha h.1]
  omega

/-- The row of the register addressed is the row by its key. -/
theorem rowOf_accKey {a : RegAccess} {r : RegRow} (hb : accBlk a ≤ 0x13) (hr : regAt (accBlk a) (accOff a % 0x4000) = .reg r) :
    rowOf (accKey a) = r := by
  have h1 : accKey a / 65536 = accBlk a := by rw [accKey, if_pos hb]; omega
  have h2 : accKey a % 65536 = accOff a % 0x4000 := by rw [accKey, if_pos hb]; omega
  simp only [rowOf, h1, h2, hr]

theorem regAt_of_accKey {a : RegAccess} {r : RegRow} (hb : accBlk a ≤ 0x13)
    (hr : regAt (accKey a / 65536) (accKey a % 65536) = .reg r) : regAt (accBlk a) (accOff a % 0x4000) = .reg r := by
  have h1 : accKey a / 65536 = accBlk a := by rw [accKey, if_pos hb]; omega
  have h2 : accKey a % 65536 = accOff a % 0x4000 := by rw [accKey, if_pos hb]; omega
  rw [← h1, ← h2, hr]

/-- A key in a register block is addressed through a register block. -/
theorem accBlk_of_accKey {a : RegAccess} (h : accKey a / 65536 ≤ 0x13) : accBlk a ≤ 0x13 := by
  by_contra hb
  rw [accKey, if_neg hb, accOff] at h
  omega
end

/-! ### The bus grant -/

/-- The state after a lone request of an activity has had its grant of the register bus (R252). -/
def State.onBus (s : State) (act : Nat) : State := s.setArb 11 ((s.arb 11).grant act)

theorem State.busGrant_eq {s : State} {act : Nat} (h : (s.busGrant act).isSome = true) : s.busGrant act = some (s.onBus act) := by
  simp only [State.busGrant, State.grantAt, State.grantsAt] at h ⊢
  split
  · rfl
  · rename_i hn; rw [if_neg hn] at h; cases h

section
variable (s : State) (act : Nat)
@[simp] theorem State.onBus_rd (k : Nat) : (s.onBus act).rd k = s.rd k := rfl
@[simp] theorem State.onBus_now : (s.onBus act).now = s.now := rfl
@[simp] theorem State.onBus_sent : (s.onBus act).sent = s.sent := rfl
@[simp] theorem State.onBus_mon : (s.onBus act).mon = s.mon := rfl
@[simp] theorem State.onBus_sat : (s.onBus act).sat = s.sat := rfl
@[simp] theorem State.onBus_boot : (s.onBus act).boot = s.boot := rfl
@[simp] theorem State.onBus_sram : (s.onBus act).sram = s.sram := rfl
@[simp] theorem State.onBus_pending : (s.onBus act).pending = s.pending := rfl
@[simp] theorem State.onBus_mbs : (s.onBus act).mbs = s.mbs := rfl
@[simp] theorem State.onBus_pairs : (s.onBus act).pairs = s.pairs := rfl
@[simp] theorem State.onBus_ready : (s.onBus act).nrg.ready = s.nrg.ready := rfl
@[simp] theorem State.onBus_view (k : Nat) : (s.onBus act).view k = s.view k := rfl
@[simp] theorem State.onBus_pairValue (p : Nat) : (s.onBus act).pairValue p = s.pairValue p := rfl
end

/-! ### An admitted access (R33, R62, R252) -/

/-- What `openFor` asks of the access, of the Plinth, of the island and of the work that waits. -/
theorem State.openFor_iff {s : State} {a : RegAccess} {i : Island} :
    s.openFor a i = true ↔
      (s.arrives a = true ∧ sizeCause a = none ∧ Island.ofBlock (accBlk a) = some i) ∧
      (s.boot.inPor = false ∧ s.stopped .pln = false ∧ (s.busGrant (busActivity a)).isSome = true) ∧
      (s.islandCause i = none ∧ s.gateClosed i = false) ∧ (∀ e ∈ s.wakeBuf, e.1 ≠ i) ∧ s.nrg.ready = [] := by
  simp only [State.openFor, Bool.and_eq_true, decide_eq_true_eq, Bool.not_eq_true', List.any_eq_false, and_assoc]

theorem State.openFor_ready {s : State} {a : RegAccess} {i : Island} (h : s.openFor a i = true) : s.nrg.ready = [] :=
  (State.openFor_iff.1 h).2.2.2.2

theorem State.deliverParked_of_none {s : State} {i : Island} (h : ∀ e ∈ s.wakeBuf, e.1 ≠ i) : s.deliverParked i = s := by
  have h1 : (s.wakeBuf.filter fun e => decide (e.1 = i)) = [] := by simpa using h
  have h2 : (s.wakeBuf.filter fun e => !decide (e.1 = i)) = s.wakeBuf := by simpa using h
  rw [State.deliverParked, h1, h2]
  rfl

/-- Past the requester's own gate an access goes to the Plinth (R188, R418). -/
theorem State.regAccess_of_arrives {s : State} {a : RegAccess} (write : Bool) (h : s.arrives a = true) :
    s.regAccess write a = s.access write a := by
  unfold State.arrives at h
  unfold State.regAccess State.hostAccess
  cases hq : a.req <;> simp_all

/-- An admitted access takes its grant and takes place at once. -/
theorem State.regAccess_of_open {s : State} {a : RegAccess} {i : Island} (write : Bool) (h : s.openFor a i = true) :
    s.regAccess write a = (s.onBus (busActivity a)).perform write a s.now := by
  obtain ⟨⟨harr, hsize, hblk⟩, ⟨hpor, hrun, hbus⟩, ⟨hcause, hgate⟩, hbuf, -⟩ := State.openFor_iff.1 h
  have hcause' : (s.onBus (busActivity a)).islandCause i = none := hcause
  have hgate' : (s.onBus (busActivity a)).gateClosed i = false := hgate
  rw [State.regAccess_of_arrives write harr, State.access, State.accessFrom, State.busGrant_eq hbus, hpor, hrun]
  simp only [Bool.false_eq_true, if_false, State.judge, hsize, hblk, hcause', hgate']
  rw [State.deliverParked_of_none (s := s.onBus (busActivity a)) hbuf]

theorem State.openFor_flr {s : State} {a : RegAccess} {i : Island} (h : s.openFor a i = true) (hq : a.req = .host) :
    s.boot.flr = false := by
  have := (State.openFor_iff.1 h).1.1
  simp only [State.arrives, hq, State.hostReaches, Bool.and_eq_true, Bool.not_eq_true'] at this
  exact this.1.1.1.2

/-! ### Answers -/

/-- The state with another record of the monitor. -/
def State.withMon (s : State) (m : MonSt) : State := { s with mon := m }

section
variable (s : State) (m : MonSt)
@[simp] theorem State.withMon_rd (k : Nat) : (s.withMon m).rd k = s.rd k := rfl
@[simp] theorem State.withMon_bit (k b : Nat) : (s.withMon m).bit k b = s.bit k b := rfl
@[simp] theorem State.withMon_parityOf (k : Nat) : (s.withMon m).parityOf k = s.parityOf k := rfl
@[simp] theorem State.withMon_sramW (w : Nat) : (s.withMon m).sramW w = s.sramW w := rfl
@[simp] theorem State.withMon_pending : (s.withMon m).pending = s.pending := rfl
@[simp] theorem State.withMon_mb (x : MailboxId) : (s.withMon m).mb x = s.mb x := rfl
@[simp] theorem State.withMon_pair (p : Nat) : (s.withMon m).pair p = s.pair p := rfl
@[simp] theorem State.withMon_port (p : Nat) : (s.withMon m).port p = s.port p := rfl
end

/-- The answer to a write touches at most the monitor's command. -/
theorem State.answered_write (s : State) (a : RegAccess) (v : Word) (ue : Bool) :
    ∃ m, s.answered true a v ue = s.withMon m := by
  cases hq : a.req <;> simp only [State.answered, hq, if_true] <;> exact ⟨_, rfl⟩

theorem State.startReady_of_none {s : State} (h : s.nrg.ready = []) : s.startReady = s := by
  unfold State.startReady
  simp only [h, List.foldl_nil]
  rw [← h]

/-- A write that is stored leaves the state after the store, but for the monitor's command. -/
theorem State.perform_write {s t : State} {a : RegAccess} {at_ : Nat} (h : s.regWrite a at_ = .ok t) (hr : t.nrg.ready = []) :
    ∃ m, s.perform true a at_ = t.withMon m := by
  simp only [State.perform, if_true, h, State.startReady_of_none hr]
  exact t.answered_write a 0 false

theorem State.perform_read {s t : State} {a : RegAccess} {at_ : Nat} {v : Word} (h : s.regRead a = .ok (v, false, t)) :
    s.perform false a at_ = t.answered false a v false := by
  simp only [State.perform, h, Bool.false_eq_true, if_false]

theorem State.perform_write_refused {s : State} {a : RegAccess} {at_ c : Nat} (h : s.regWrite a at_ = .error c) :
    s.perform true a at_ = s.refuseAccess true a c := by
  simp only [State.perform, if_true, h]

/-- What the answer to a read leaves as it was: a completion takes the host link out of L0s (R161). -/
structure AnswerKeeps (s t : State) : Prop where
  rd : ∀ k, k ≠ Reg.HST_LINK_STS → t.rd k = s.rd k
  sram : t.sram = s.sram
  pending : t.pending = s.pending
  mbs : t.mbs = s.mbs
  pairs : t.pairs = s.pairs

theorem AnswerKeeps.refl (s : State) : AnswerKeeps s s := ⟨fun _ _ => rfl, rfl, rfl, rfl, rfl⟩

theorem State.send_keeps (s : State) (o : Output) : AnswerKeeps s (s.send o) := by
  unfold State.send
  split
  · exact .refl s
  · dsimp only
    split
    · exact ⟨fun _ hk => State.setBit_rd_ne s hk _ _, rfl, rfl, rfl, rfl⟩
    · exact ⟨fun _ _ => rfl, rfl, rfl, rfl, rfl⟩

theorem State.splitAnswer_keeps (s : State) (m : Nat) (ans : Option (List SatWord)) : AnswerKeeps s (s.splitAnswer m ans) := by
  unfold State.splitAnswer
  split
  · exact .refl s
  · exact ⟨fun _ _ => rfl, rfl, rfl, rfl, rfl⟩

theorem State.answered_keeps (s : State) (write : Bool) (a : RegAccess) (v : Word) (ue : Bool) :
    AnswerKeeps s (s.answered write a v ue) := by
  unfold State.answered
  split
  · split
    · exact .refl s
    · exact s.send_keeps _
  · exact ⟨fun _ _ => rfl, rfl, rfl, rfl, rfl⟩
  · split
    · exact .refl s
    · exact s.splitAnswer_keeps _ _
  · split
    · exact .refl s
    · exact s.splitAnswer_keeps _ _

theorem State.send_sent {s : State} {o : Output} (h : s.boot.flr = false) : (s.send o).sent = o :: s.sent := by
  unfold State.send
  rw [h, if_neg (by simp)]
  dsimp only
  split <;> rfl

theorem State.splitOf_splitAnswer {s : State} {m : Nat} {x : Split} {ans : Option (List SatWord)} (h : s.splitOf m = some x) :
    (s.splitAnswer m ans).splitOf m = some { x with answer := some ans, answerAt := s.now } := by
  simp only [State.splitAnswer, h, State.setSplit_splitOf_self]

/-- A read that has taken place is answered with its word: `t` is the state in which it is answered. -/
theorem State.answered_read {s t : State} {a : RegAccess} {v : Word} (hsent : t.sent = s.sent) (hgot : t.mon.got = s.mon.got)
    (hsplit : t.sat.splits = s.sat.splits) (hnow : t.now = s.now) (hflr : a.req = .host → t.boot.flr = false) :
    Answered s (t.answered false a v false) a v := by
  have hof : ∀ m, t.splitOf m = s.splitOf m := fun m => by rw [State.splitOf, State.splitOf, hsplit]
  unfold Answered State.answered
  cases hq : a.req
  case host => exact hsent ▸ State.send_sent (hflr hq)
  case monitor => exact congrArg (· ++ [(a.addr, v)]) hgot
  case sat0 => exact fun x hx => hnow ▸ State.splitOf_splitAnswer ((hof 0).trans hx)
  case sat1 => exact fun x hx => hnow ▸ State.splitOf_splitAnswer ((hof 1).trans hx)

/-! ### Accesses to the registers of a register block -/

theorem State.regWrite_reg {s : State} {a : RegAccess} {r : RegRow} {at_ : Nat} (hb : accBlk a ≤ 0x13)
    (hr : regAt (accBlk a) (accOff a % 0x4000) = .reg r) :
    s.regWrite a at_ = s.rowWrite r (accKey a) (accAlias a) a.req (accWord a) at_ := by
  rw [State.regWrite, if_neg (by omega), if_neg (by omega), hr]

theorem State.regRead_reg {s : State} {a : RegAccess} {r : RegRow} (hb : accBlk a ≤ 0x13)
    (hr : regAt (accBlk a) (accOff a % 0x4000) = .reg r) :
    s.regRead a = .ok ((s.rowRead r (accKey a) a.req).1, false, (s.rowRead r (accKey a) a.req).2) := by
  rw [State.regRead, if_neg (by omega), if_neg (by omega), hr]

/-- An admitted write to a register whose row takes it. -/
theorem State.regAccess_write {s t : State} {a : RegAccess} {i : Island} {r : RegRow} (h : s.openFor a i = true)
    (hb : accBlk a ≤ 0x13) (hr : regAt (accBlk a) (accOff a % 0x4000) = .reg r)
    (hw : (s.onBus (busActivity a)).rowWrite r (accKey a) (accAlias a) a.req (accWord a) s.now = .ok t) (hn : t.nrg.ready = []) :
    ∃ m, s.regAccess true a = t.withMon m := by
  rw [State.regAccess_of_open true h]
  exact State.perform_write ((State.regWrite_reg hb hr).trans hw) hn

/-- An admitted read of a register. -/
theorem State.regAccess_read {s : State} {a : RegAccess} {i : Island} {r : RegRow} {x : Word × State} (h : s.openFor a i = true)
    (hb : accBlk a ≤ 0x13) (hr : regAt (accBlk a) (accOff a % 0x4000) = .reg r)
    (hx : (s.onBus (busActivity a)).rowRead r (accKey a) a.req = x) :
    s.regAccess false a = x.2.answered false a x.1 false := by
  subst hx
  rw [State.regAccess_of_open false h]
  exact State.perform_read (State.regRead_reg hb hr)

end Sys2Proof.Machine
end

section
/-!
PROOFS. Writes that only store (R27, R30, R31, R35): no rule of its own guards the register and its write starts nothing.
-/

namespace Sys2Proof.Machine
open Sys2Proof.Claims

/-! ### A write that only stores (R27, R30, R31) -/

section
variable {s : State} {k : Nat}

theorem current_of_not_acting (h : actingReg k = false) : s.current k = s.rd k := by
  simp only [actingReg, Bool.or_eq_false_iff, Option.isSome_eq_false_iff, Option.isNone_iff_eq_none] at h
  simp only [State.current, h]

theorem lockedBits_of_not_acting (h : actingReg k = false) : s.lockedBits k = 0 := by
  simp [actingReg] at h
  simp [State.lockedBits, h]

theorem stickyBits_of_not_acting (h : actingReg k = false) : stickyBits k = 0 := by
  simp [actingReg] at h
  simp [stickyBits, h]

theorem selCause_of_not_acting {v : Word} (h : actingReg k = false) : s.selCause k v = false := by
  simp [actingReg] at h
  simp [State.selCause, h]

theorem writeJudged_of_not_acting {req : Requester} {old v new : Word} (h : actingReg k = false) :
    s.writeJudged k req old v new = .ok new := by
  simp [actingReg] at h
  simp [State.writeJudged, State.loadRefuses, h]

theorem store_of_not_acting {v : Word} (h : actingReg k = false) : s.store k v = (s.wr k v).reparity k := by
  simp [actingReg] at h
  simp [State.store, h]

theorem fldHook_of_not_acting {w : Written} (h : actingReg k = false) : s.fldHook k w = s := by
  simp [actingReg] at h
  obtain ⟨⟨-, hfld⟩, -⟩ := h
  have hc : ∀ (t : State), ∀ c ∈ List.range 4, (if k = Reg.FB_CTL c then t.fbCtlHook c w.old w.v
      else match within? k (Reg.FB_TXREQ c 0) 4 with | some n => t.txreqHook c n w.old | none => t) = t := by
    intro t c hm
    simp [hfld c (List.mem_range.1 hm)]
  exact List.foldlRecOn _ _ (motive := fun t => t = s) rfl fun t ht c hm => (hc t c hm).trans ht

/-- No write to a register that is not an acting one starts anything, whatever its block. -/
theorem wrote_of_not_acting {w : Written} (h : actingReg k = false) : s.wrote k w = s := by
  have hfld := fldHook_of_not_acting (s := s) (w := w) h
  simp [actingReg] at h
  unfold State.wrote
  simp only [h]
  split <;> simp [h, hfld, State.plnHook, State.clkHook, State.armHook, State.hstHook, State.queHook, State.motHook,
    State.tqHook, State.rngHook]

theorem storeWrite_of_not_acting {req : Requester} {v new : Word} {direct : Bool} (h : actingReg k = false) :
    s.storeWrite k req v new direct = .ok ((s.wr k new).reparity k) := by
  have hprbs : k ≠ Reg.HST_PRBS_CTL := by rintro rfl; revert h; decide
  simp [State.storeWrite, lockedBits_of_not_acting h, stickyBits_of_not_acting h, selCause_of_not_acting h,
    writeJudged_of_not_acting h, store_of_not_acting h, wrote_of_not_acting h, hprbs]

/-- A write by the access codes, directly or through an alias (R27, R30 to R32). -/
theorem rowWrite_of_not_acting {r : RegRow} {al at_ : Nat} {req : Requester} {v : Word} (h : actingReg k = false)
    (hw : r.noWritable = false) (hres : v &&& r.reservedBits = 0) (hal : al ≠ 0 → v &&& ~~~r.writable = 0) :
    s.rowWrite r k al req v at_ =
      .ok ((s.wr k (if al = 0 then mergeWrite r (s.rd k) v else aliasWrite (aliasKind al) r (s.rd k) v)).reparity k) := by
  have hpair : pairAt? k = none := by simp [actingReg] at h; simp [h]
  rw [State.rowWrite, if_neg (by simp [hres])]
  by_cases h0 : al = 0
  · simp only [if_pos h0, hw, hpair, current_of_not_acting h, storeWrite_of_not_acting h, Bool.false_eq_true, if_false]
  · have hforb : v &&& aliasForbidden r (s.lockedBits k) = 0 := by
      simpa [aliasForbidden, lockedBits_of_not_acting h] using hal h0
    simp only [if_neg h0, hforb, hw, hpair, current_of_not_acting h, storeWrite_of_not_acting h, ne_eq, not_true_eq_false,
      Bool.false_eq_true, if_false, Option.isSome_none]

end

@[simp] theorem State.reparity_parityOf {s : State} {k : Nat} : (s.reparity k).parityOf k = parityBit (rowOf k) (s.rd k) :=
  Tab.get_set_self

/-- The value that an admitted write leaves in a register whose write only stores (R27, R30, R31). -/
def written (r : RegRow) (a : RegAccess) (old : Word) : Word :=
  if accAlias a = 0 then mergeWrite r old (accWord a) else aliasWrite (aliasKind (accAlias a)) r old (accWord a)

theorem registerWriteStores : Claims.RegisterWriteStores := by
  unfold Claims.RegisterWriteStores
  intro s a i r hopen hb hr hact hw hres hal
  obtain ⟨m, hm⟩ := State.regAccess_write hopen hb hr (rowWrite_of_not_acting hact hw hres hal)
    (by simpa using State.openFor_ready hopen)
  refine ⟨s.regAccess true a, rfl, ?_⟩
  rw [hm]
  refine ⟨State.wr_rd_self _ _ _, ?_, ⟨fun j hj => ?_, fun _ => rfl, rfl⟩⟩
  · rw [State.withMon_parityOf, ← rowOf_accKey hb hr]
    exact State.reparity_parityOf
  · exact State.wr_rd_ne _ (by simpa using hj) _

/-! ### The alias ranges (R24, R31) -/

theorem getLsbD_aliasWrite {r : RegRow} {v old : Word} (hv : v &&& ~~~r.writable = 0) (kind : AliasKind) (b : Nat) :
    (aliasWrite kind r old v).getLsbD b =
      if v.getLsbD b then (match kind with | .set => true | .clear => false | .toggle => !old.getLsbD b) else old.getLsbD b := by
  have hb : v.getLsbD b = true → r.writable.getLsbD b = true := by
    intro h
    have := congrArg (·.getLsbD b) hv
    have hlt := BitVec.lt_of_getLsbD h
    simpa [h, hlt] using this
  have hlt : v.getLsbD b = true → b < 18 := BitVec.lt_of_getLsbD
  have ho : old.getLsbD b = true → b < 18 := BitVec.lt_of_getLsbD
  cases hvb : v.getLsbD b <;> cases hob : old.getLsbD b <;> cases kind <;>
    simp_all only [aliasWrite, BitVec.getLsbD_or, BitVec.getLsbD_and, BitVec.getLsbD_xor, BitVec.getLsbD_not] <;> simp_all

end Sys2Proof.Machine
end

section
/-!
PROOFS. Alias writes bit for bit (R24, R31), and reads with the clearing of RC fields (R27, R29).
-/

namespace Sys2Proof.Machine
open Sys2Proof.Claims

/-- A word whose ones stand in RW and RWL bits has none in a reserved bit. -/
theorem and_reservedBits_of_writable {r : RegRow} {v : Word} (h : v &&& ~~~r.writable = 0) : v &&& r.reservedBits = 0 := by
  apply BitVec.eq_of_getLsbD_eq
  intro b hb
  have := congrArg (·.getLsbD b) h
  simp only [RegRow.writable, RegRow.reservedBits, BitVec.getLsbD_and, BitVec.getLsbD_not, BitVec.getLsbD_ofNat, Nat.testBit_or,
    hb, decide_true, Bool.true_and] at this ⊢
  grind

section
variable {req : Requester} {reg : BitVec 24} {n : Nat} {v : Word}

/-- An alias access addresses its register, in the alias range of its number. -/
theorem aliasAcc_place (hn : n ≤ 3) (hb : reg.toNat / 65536 ≤ 0x13) (ho : reg.toNat % 65536 < 0x4000) :
    accBlk (aliasAcc req reg n v) = reg.toNat / 65536 ∧ accOff (aliasAcc req reg n v) % 0x4000 = reg.toNat % 65536 ∧
      accAlias (aliasAcc req reg n v) = n ∧ accKey (aliasAcc req reg n v) = reg.toNat := by
  have ha : (aliasAcc req reg n v).addr = BitVec.ofNat 24 (reg.toNat + 0x4000 * n) := rfl
  have hb' : (reg.toNat + 0x4000 * n) / 65536 ≤ 0x13 := by omega
  rw [accBlk_ofNat ha hb', accOff_ofNat ha hb', accAlias_ofNat ha hb', accKey_ofNat ha hb']
  omega

theorem exec_aliasCmd (s : State) (hn : 1 ≤ n) (hn' : n ≤ 3) :
    exec (aliasCmd n req reg v) s = exec (.registerWrite (aliasAcc req reg n v)) s := by
  obtain rfl | rfl | rfl : n = 1 ∨ n = 2 ∨ n = 3 := by omega
  all_goals rfl

end

theorem aliasWritesChangeTheirBits : Claims.AliasWritesChangeTheirBits := by
  unfold Claims.AliasWritesChangeTheirBits
  intro s req reg v n i r hn hn' hb ho hopen hr hact hw hv
  obtain ⟨hblk, hoff, hal, hkey⟩ := aliasAcc_place (req := req) (v := v) hn' hb ho
  have hword : accWord (aliasAcc req reg n v) = v := accWord_dwordOf v
  obtain ⟨t, ht, hval, -, hkeep⟩ := registerWriteStores s (aliasAcc req reg n v) i r hopen (by omega) (by rw [hblk, hoff, hr])
    (by rwa [hkey]) hw (by rw [hword]; exact and_reservedBits_of_writable hv) (fun _ => by rwa [hword])
  rw [hkey] at hval hkeep
  rw [hal, hword, if_neg (by omega)] at hval
  refine ⟨t, (exec_aliasCmd s hn hn').trans ht, fun b => ?_, hkeep⟩
  rw [hval, getLsbD_aliasWrite hv]
  obtain rfl | rfl | rfl : n = 1 ∨ n = 2 ∨ n = 3 := by omega
  all_goals rfl

/-! ### Reads (R24, R27, R29, R41, R48) -/

section
variable {s : State} {r : RegRow} {k p : Nat} {req : Requester}

theorem State.rowRead_pair {c : Bool} (h : pairAt? k = some (p, c)) :
    s.rowRead r k req = (if c then 0 else s.pairValue p, s) := by
  simp only [State.rowRead, h]

theorem State.rowRead_word {m : MailboxId} {n : Nat} (hp : pairAt? k = none) (hm : MailboxId.at? k = some (m, n + 2)) :
    s.rowRead r k req = s.mbWordRead m n := by
  simp only [State.rowRead, hp, hm, Nat.add_sub_cancel]

/-- A read of a register that is no mailbox, pair or lock slot clears what its row says (R27). -/
theorem State.rowRead_plain (hp : pairAt? k = none) (hm : MailboxId.at? k = none) (hl : within? k 0x080000 64 = none)
    (hk : k ≠ Reg.SAT_LKSTS) :
    s.rowRead r k req = (readShows r (s.view k), if r.rc = 0 then s else s.wr k (readClears r req (s.rd k))) := by
  simp only [State.rowRead, hp, hm, hl, if_neg hk]

end

theorem readClears_of_rc_zero {r : RegRow} {req : Requester} {v : Word} (h : r.rc = 0) : readClears r req v = v := by
  rw [readClears, h]
  split
  · rfl
  · exact BitVec.and_allOnes

/-- What the read of a plain register leaves: its RC bits cleared, all else as it was. -/
theorem State.rowRead_plain_keeps {s : State} {r : RegRow} {k : Nat} {req : Requester} {t : State}
    (ht : t = if r.rc = 0 then s else s.wr k (readClears r req (s.rd k))) :
    t.rd k = readClears r req (s.rd k) ∧ (∀ j, j ≠ k → t.rd j = s.rd j) ∧
      t.sram = s.sram ∧ t.pending = s.pending ∧ t.sent = s.sent ∧ t.mon = s.mon ∧ t.sat = s.sat ∧ t.now = s.now ∧ t.boot = s.boot := by
  subst ht
  split
  · rename_i h
    exact ⟨(readClears_of_rc_zero h).symm, fun _ _ => rfl, rfl, rfl, rfl, rfl, rfl, rfl, rfl⟩
  · exact ⟨State.wr_rd_self _ _ _, fun j hj => State.wr_rd_ne _ hj _, rfl, rfl, rfl, rfl, rfl, rfl, rfl⟩

/-- The read of a plain register by an admitted access. -/
theorem regAccess_read_plain {s : State} {a : RegAccess} {i : Island} {r : RegRow} (hopen : s.openFor a i = true)
    (hb : accBlk a ≤ 0x13) (hr : regAt (accBlk a) (accOff a % 0x4000) = .reg r) (hm : MailboxId.at? (accKey a) = none)
    (hp : pairAt? (accKey a) = none) (hl : within? (accKey a) 0x080000 64 = none) (hk : accKey a ≠ Reg.SAT_LKSTS)
    (hk' : accKey a ≠ Reg.HST_LINK_STS) :
    Answered s (s.regAccess false a) a (readShows r (s.view (accKey a))) ∧
      (s.regAccess false a).rd (accKey a) = readClears r a.req (s.rd (accKey a)) ∧
      SameRegsBut s (s.regAccess false a) (fun j => decide (j = accKey a) || decide (j = Reg.HST_LINK_STS)) := by
  rw [State.regAccess_read hopen hb hr (State.rowRead_plain hp hm hl hk)]
  generalize ht : (if r.rc = 0 then s.onBus (busActivity a) else _) = t
  obtain ⟨hrd, hne, hsram, hpend, hsent, hmon, hsat, hnow, hboot⟩ := State.rowRead_plain_keeps ht.symm
  have keeps := t.answered_keeps false a (readShows r ((s.onBus (busActivity a)).view (accKey a))) false
  refine ⟨?_, (keeps.rd _ hk').trans hrd, fun j hj => ?_, fun w => ?_, keeps.pending.trans hpend⟩
  · exact State.answered_read hsent (congrArg (·.got) hmon) (congrArg (·.splits) hsat) hnow fun hq =>
      (congrArg (·.flr) hboot).trans (State.openFor_flr hopen hq)
  · simp only [Bool.or_eq_false_iff, decide_eq_false_iff_not] at hj
    exact (keeps.rd j hj.2).trans (hne j hj.1)
  · simp only [State.sramW, keeps.sram, hsram]
    rfl

theorem pairAt?_eq_some {k p : Nat} {c : Bool} (h : pairAt? k = some (p, c)) : p < 9 ∧ k = if c then pairV p + 4 else pairV p := by
  simp only [pairAt?, Option.map_eq_some_iff, Prod.mk.injEq] at h
  obtain ⟨q, hq, rfl, rfl⟩ := h
  refine ⟨List.mem_range.1 (List.mem_of_find?_eq_some hq), ?_⟩
  have h1 := List.find?_some hq
  simp only [decide_eq_true_eq] at h1 ⊢
  split
  · assumption
  · exact h1.resolve_right ‹_›

theorem rc_pair : ∀ p < 9, (rowOf (pairV p)).rc = 0 ∧ (rowOf (pairV p + 4)).rc = 0 := by decide

theorem rc_hostLinkSts : (rowOf Reg.HST_LINK_STS).rc = 0 := rfl

theorem pairAt?_of_rc {k : Nat} (h : (rowOf k).rc ≠ 0) : pairAt? k = none := by
  by_contra hne
  obtain ⟨⟨p, c⟩, hp⟩ := Option.ne_none_iff_exists'.1 hne
  obtain ⟨hlt, rfl⟩ := pairAt?_eq_some hp
  cases c
  · exact h (rc_pair p hlt).1
  · exact h (rc_pair p hlt).2

theorem within?_lock_of_rc {k : Nat} (h : (rowOf k).rc ≠ 0) : within? k 0x080000 64 = none := by
  rw [within?, if_neg]
  rintro ⟨hlo, hhi⟩
  refine h ?_
  have hb : k / 65536 = 8 := by omega
  have ho : k % 65536 < 256 := by omega
  simp [rowOf, regAt, hb, blockRows, lckRows, findRow, ho]

theorem registerReadAnswers : Claims.RegisterReadAnswers := by
  unfold Claims.RegisterReadAnswers
  refine ⟨fun s a i r hopen hb hr hm hp hl hk hk' => ⟨_, rfl, regAccess_read_plain hopen hb hr hm hp hl hk hk'⟩, ?_⟩
  intro s req reg i r hopen hb ho hr hm hrc hk
  have ha : (readAcc req reg.toNat).addr = BitVec.ofNat 24 reg.toNat := rfl
  have hkey := accKey_own ha ⟨hb, ho⟩
  have hblk : accBlk (readAcc req reg.toNat) ≤ 0x13 := accBlk_of_accKey (by rwa [hkey])
  have hr' := regAt_of_accKey hblk (by rwa [hkey])
  have hrow : (rowOf reg.toNat).rc ≠ 0 := by rwa [← hkey, rowOf_accKey hblk hr']
  have hlink : reg.toNat ≠ Reg.HST_LINK_STS := fun h => by rw [h] at hrow; exact hrow rc_hostLinkSts
  have := regAccess_read_plain hopen hblk hr'
  rw [hkey] at this
  have := this hm (pairAt?_of_rc hrow) (within?_lock_of_rc hrow) hk hlink
  exact ⟨_, rfl, this⟩

/-- Settles O1: a write stores by its access codes, an alias write bit for bit, a read answers and clears its RC fields. -/
theorem registersStoreAndAnswer : Obligations.RegistersStoreAndAnswer :=
  ⟨registerWriteStores, aliasWritesChangeTheirBits, registerReadAnswers⟩

end Sys2Proof.Machine
end

section
/-!
PROOFS. Direct writes in general, the reads of the pairs' slots (R48), and the release of HOLD (R39).
-/

namespace Sys2Proof.Machine
open Sys2Proof.Claims

/-! ### A direct write in general (R30, R33, R44, R45)

What a write by the access codes needs to be stored, whatever the register: it changes no locked field, names no refused item, and
the register's own rule takes it. -/

section
variable {s : State} {r : RegRow} {k at_ : Nat} {req : Requester} {v want fin : Word}

/-- A direct write past the reserved bits to a register that is no pair slot: by the access codes. -/
theorem State.rowWrite_direct (hres : v &&& r.reservedBits = 0) (hw : r.noWritable = false) (hp : pairAt? k = none) :
    s.rowWrite r k 0 req v at_ = s.storeWrite k req v (mergeWrite r (s.current k) v) true := by
  rw [State.rowWrite, if_neg (by simp [hres]), if_pos rfl, hw, hp]
  simp only [Bool.false_eq_true, if_false]

/-- A write that nothing refuses is stored, and what it starts takes place. -/
theorem State.storeWrite_ok {new : Word} {direct : Bool} (hwant : new ||| (s.current k &&& stickyBits k) = want)
    (hlock : (want ^^^ s.current k) &&& s.lockedBits k = 0) (hsel : s.selCause k want = false)
    (hjudge : s.writeJudged k req (s.current k) v want = .ok fin) (hprbs : k ≠ Reg.HST_PRBS_CTL) :
    s.storeWrite k req v new direct =
      .ok ((s.store k fin).wrote k { req := req, old := s.current k, v := v, want := want, new := fin, direct := direct }) := by
  simp only [State.storeWrite, hwant, hlock, hsel, hjudge, if_neg hprbs, ne_eq, not_true_eq_false, if_false, Bool.false_eq_true]

end

/-- The row of a register at its own offset, and that an access to that offset finds it. -/
theorem regAcc_place {req : Requester} {k : Nat} {v : Word} (h : ownOffset k) (hr : regAt (k / 65536) (k % 65536) = .reg (rowOf k)) :
    accKey (regAcc req k v) = k ∧ accAlias (regAcc req k v) = 0 ∧ accBlk (regAcc req k v) ≤ 0x13 ∧
      regAt (accBlk (regAcc req k v)) (accOff (regAcc req k v) % 0x4000) = .reg (rowOf k) := by
  have ha : (regAcc req k v).addr = BitVec.ofNat 24 k := rfl
  have hkey := accKey_own ha h
  have hb : accBlk (regAcc req k v) ≤ 0x13 := accBlk_of_accKey (by rw [hkey]; exact h.1)
  exact ⟨hkey, accAlias_own ha h, hb, regAt_of_accKey hb (by rw [hkey, hr])⟩

/-- The write of a word to a register at its own offset, once its row takes it. -/
theorem State.writeReg_ok {s t : State} {req : Requester} {k : Nat} {v : Word} {i : Island}
    (hopen : s.openFor (regAcc req k v) i = true) (h : ownOffset k) (hr : regAt (k / 65536) (k % 65536) = .reg (rowOf k))
    (hw : (s.onBus (busActivity (regAcc req k v))).rowWrite (rowOf k) k 0 req v s.now = .ok t) (hn : t.nrg.ready = s.nrg.ready) :
    ∃ m, s.writeReg req k v = t.withMon m := by
  obtain ⟨hkey, hal, hb, hr'⟩ := regAcc_place (req := req) (v := v) h hr
  refine State.regAccess_write (a := regAcc req k v) hopen hb hr' ?_ (hn.trans (State.openFor_ready hopen))
  rw [hkey, hal, accWord_regAcc]
  exact hw

/-! ### Pairs (R46 to R48) -/

theorem pairAt?_pairV : ∀ p < 9, pairAt? (pairV p) = some (p, false) ∧ pairAt? (pairV p + 4) = some (p, true) := by decide

/-- The slots of the pairs stand at their own offsets, each with its row. -/
theorem regAt_pairV : ∀ p < 9, ∀ k ∈ [pairV p, pairV p + 4],
    k / 65536 ≤ 0x13 ∧ k % 65536 < 0x4000 ∧ regAt (k / 65536) (k % 65536) = .reg (rowOf k) ∧ (rowOf k).noWritable = false := by
  decide

/-- The answer to the read of a pair's slot; no pair is touched. -/
theorem regAccess_read_pair {s : State} {a : RegAccess} {i : Island} {p : Nat} {c : Bool} (hopen : s.openFor a i = true)
    (hp : pairAt? (accKey a) = some (p, c)) :
    Answered s (s.regAccess false a) a (if c then 0 else s.pairValue p) ∧ (s.regAccess false a).pairs = s.pairs := by
  obtain ⟨hlt, hkey⟩ := pairAt?_eq_some hp
  obtain ⟨hb, -, hr, -⟩ := regAt_pairV p hlt (accKey a) (by cases c <;> simp [hkey])
  have hb' := accBlk_of_accKey hb
  rw [State.regAccess_read hopen hb' (regAt_of_accKey hb' hr) (State.rowRead_pair hp)]
  constructor
  · exact State.answered_read (s.onBus_sent _) (by rw [State.onBus_mon]) (by rw [State.onBus_sat]) (s.onBus_now _) fun hq => by
      rw [State.onBus_boot, State.openFor_flr hopen hq]
  · rw [(State.answered_keeps _ _ _ _ _).pairs, State.onBus_pairs]

/-- Settles O5: a read of a pair's slot has its value in force or zero, and the answer touches no pair. -/
theorem pairReadsDisturbNothing : Obligations.PairReadsDisturbNothing := by
  unfold Obligations.PairReadsDisturbNothing
  intro s a i p hopen
  obtain ⟨hv, hc⟩ := pairAt?_pairV p.val p.isLt
  exact ⟨fun hk => ⟨_, rfl, regAccess_read_pair (c := false) hopen (hk ▸ hv)⟩,
    fun hk => ⟨_, rfl, regAccess_read_pair (c := true) hopen (hk ▸ hc)⟩⟩

/-! ### HOLD (R39) -/

/-- A fold that sets the bits of islands that meet a condition. -/
theorem getLsbD_foldl_setIdx (c : Island → Bool) (l : List Island) (w : Word) (b : Nat) (hb : b < 18) :
    (l.foldl (fun (w : Word) i => if c i then w ||| word (2 ^ i.idx) else w) w).getLsbD b =
      (w.getLsbD b || l.any fun i => c i && decide (i.idx = b)) := by
  induction l generalizing w with
  | nil => simp
  | cons i l ih =>
    rw [List.foldl_cons, ih, List.any_cons]
    cases hc : c i
    · simp
    · simp only [if_true, BitVec.getLsbD_or, BitVec.getLsbD_ofNat, hb, Nat.testBit_two_pow, decide_true, Bool.true_and,
        Bool.or_assoc]

theorem Island.idx_inj {i j : Island} : i.idx = j.idx ↔ i = j := by
  cases i <;> cases j <;> decide

/-- A bit of PLN_PAR_HOLD after a write: one that would clear stays where its island has a mismatch (R39). -/
theorem getLsbD_holdKept (s : State) (old new : Word) (i : Island) :
    (s.holdKept old new).getLsbD i.idx =
      (new.getLsbD i.idx || (old.getLsbD i.idx && !new.getLsbD i.idx && s.mismatchIn i)) := by
  have hb : i.idx < 18 := by cases i <;> decide
  have hall : i ∈ Island.all := by cases i <;> decide
  rw [State.holdKept, BitVec.getLsbD_or, getLsbD_foldl_setIdx _ _ _ _ hb, show (0 : Word) = 0#18 from rfl,
    BitVec.getLsbD_zero, Bool.false_or, Bool.eq_iff_iff]
  simp only [Bool.or_eq_true, List.any_eq_true, Bool.and_eq_true, decide_eq_true_eq, Sys2Proof.Machine.Island.idx_inj]
  constructor
  · rintro (h | ⟨j, -, hj, rfl⟩)
    · exact .inl h
    · exact .inr hj
  · rintro (h | h)
    · exact .inl h
    · exact .inr ⟨i, hall, h, rfl⟩

theorem and_not_of_and_eq_zero {v m : Word} (h : v &&& m = 0) : v &&& ~~~m = v := by
  apply BitVec.eq_of_getLsbD_eq
  intro b hb
  have := congrArg (·.getLsbD b) h
  simp only [BitVec.getLsbD_and, BitVec.getLsbD_not, hb, decide_true, Bool.true_and, show (0 : Word) = 0#18 from rfl,
    BitVec.getLsbD_zero] at this ⊢
  grind

theorem mergeWrite_parHold {old v : Word} (hv : v &&& 0x3F001 = 0) :
    mergeWrite (rowOf Reg.PLN_PAR_HOLD) old v = old &&& ~~~v := by
  have hrow : rowOf Reg.PLN_PAR_HOLD = { base := 0x003C, n := 1, reset := 0x00000, w1c := 0x00FFE } := rfl
  have hclr : v &&& word 0xFFE = v := and_not_of_and_eq_zero hv
  have hrw : RegRow.writable { base := 0x003C, n := 1, reset := 0x00000, w1c := 0x00FFE } = 0#18 := rfl
  simp only [mergeWrite, hrow, hclr, hrw, BitVec.not_zero, BitVec.and_allOnes, BitVec.and_zero, BitVec.or_zero]

theorem stickyBits_parHold : stickyBits Reg.PLN_PAR_HOLD = 0 := rfl

theorem lockedBits_parHold (s : State) : s.lockedBits Reg.PLN_PAR_HOLD = 0 := rfl

theorem writeJudged_parHold (s : State) (req : Requester) (old v new : Word) :
    s.writeJudged Reg.PLN_PAR_HOLD req old v new = .ok (s.holdKept old new) := rfl

theorem store_parHold (s : State) (v : Word) :
    s.store Reg.PLN_PAR_HOLD v = (s.wr Reg.PLN_PAR_HOLD v).reparity Reg.PLN_PAR_HOLD := rfl

theorem wrote_parHold (s : State) (w : Written) : s.wrote Reg.PLN_PAR_HOLD w = s := rfl

/-- A direct write to PLN_PAR_HOLD stores what R39 leaves of it, and starts nothing. -/
theorem rowWrite_parHold {s : State} {v : Word} {req : Requester} {at_ : Nat} (hv : v &&& 0x3F001 = 0) :
    s.rowWrite (rowOf Reg.PLN_PAR_HOLD) Reg.PLN_PAR_HOLD 0 req v at_ =
      .ok ((s.wr Reg.PLN_PAR_HOLD (s.holdKept (s.rd Reg.PLN_PAR_HOLD) (s.rd Reg.PLN_PAR_HOLD &&& ~~~v))).reparity
        Reg.PLN_PAR_HOLD) := by
  have hcur : s.current Reg.PLN_PAR_HOLD = s.rd Reg.PLN_PAR_HOLD := rfl
  have hwant (w : Word) : w ||| (s.current Reg.PLN_PAR_HOLD &&& stickyBits Reg.PLN_PAR_HOLD) = w := by
    rw [stickyBits_parHold]
    simp
  have hlock (w : Word) : w &&& s.lockedBits Reg.PLN_PAR_HOLD = 0 := by
    rw [lockedBits_parHold]
    simp
  rw [State.rowWrite_direct hv rfl rfl, hcur, mergeWrite_parHold hv,
    State.storeWrite_ok (hwant _) (hlock _) rfl (writeJudged_parHold s _ _ _ _) (by decide), store_parHold, wrote_parHold, hcur]

/-- Settles O6: bit for bit, by the rule of R39 on what the ones-clear write of PLN_PAR_HOLD would leave. -/
theorem holdIsReleasedWhereClean : Obligations.HoldIsReleasedWhereClean := by
  unfold Obligations.HoldIsReleasedWhereClean
  intro s req bits hopen hbits
  obtain ⟨m, hm⟩ := State.writeReg_ok hopen (by decide) rfl (rowWrite_parHold hbits) rfl
  refine ⟨s.writeReg req Reg.PLN_PAR_HOLD bits, rfl, fun i => ?_⟩
  have hrd : (s.writeReg req Reg.PLN_PAR_HOLD bits).rd Reg.PLN_PAR_HOLD =
      s.holdKept (s.rd Reg.PLN_PAR_HOLD) (s.rd Reg.PLN_PAR_HOLD &&& ~~~bits) := by
    rw [hm]
    exact State.wr_rd_self _ _ _
  have hb : i.idx < 18 := by cases i <;> decide
  rw [State.held, State.held, State.bit, State.bit, hrd, getLsbD_holdKept, BitVec.getLsbD_and, BitVec.getLsbD_not]
  simp only [hb, decide_true, Bool.true_and]
  cases (s.rd Reg.PLN_PAR_HOLD).getLsbD i.idx <;> cases bits.getLsbD i.idx <;> simp

end Sys2Proof.Machine
end

section
/-!
PROOFS. What the report of an event leaves as it was, and the guard of the pairs (R46, R47).
-/

namespace Sys2Proof.Machine
open Sys2Proof.Claims

/-! ### What the report of an event changes (R64, R66, R161, R162, R231, R438) -/

/-- `t` has the registers of `s` but those through which events are reported, its SRAM, its pair guards, its
ledger and its queue of commands. -/
structure Reported (s t : State) : Prop where
  rd : ∀ k, eventReg k = false → t.rd k = s.rd k
  sram : t.sram = s.sram
  pairs : t.pairs = s.pairs
  pending : t.pending = s.pending
  nrg : t.nrg = s.nrg

namespace Reported

variable {z s : State}

theorem refl (s : State) : Reported s s := ⟨fun _ _ => rfl, rfl, rfl, rfl, rfl⟩

theorem upd {t : State} (h : Reported z s) (h1 : t.regs = s.regs := by rfl) (h2 : t.sram = s.sram := by rfl)
    (h3 : t.pairs = s.pairs := by rfl) (h4 : t.pending = s.pending := by rfl)
    (h5 : t.nrg = s.nrg := by rfl) : Reported z t :=
  ⟨fun k hk => (congrArg (Tab.get (resetVal k) · k) h1).trans (h.rd k hk), h2.trans h.sram, h3.trans h.pairs,
    h4.trans h.pending, h5.trans h.nrg⟩

theorem wr {k : Nat} {v : Word} (h : Reported z s) (hk : eventReg k = true) : Reported z (s.wr k v) :=
  ⟨fun j hj => (State.wr_rd_ne s (fun e => by rw [e, hk] at hj; cases hj) v).trans (h.rd j hj), h.sram, h.pairs, h.pending, h.nrg⟩

theorem setIsland {i : Island} {x : IslSt} (h : Reported z s) : Reported z (s.setIsland i x) := h.upd

theorem wake {i : Island} (h : Reported z s) : Reported z (s.wake i) := by
  unfold State.wake
  dsimp only
  split
  · exact h.setIsland
  · split
    · exact h
    · split
      · exact h.setIsland
      · exact h.setIsland
      · exact h

theorem send {o : Output} (h : Reported z s) : Reported z (s.send o) := by
  unfold State.send
  split
  · exact h
  · dsimp only
    split
    · exact (h.wr (k := Reg.HST_LINK_STS) (by decide)).upd
    · exact h.upd

theorem toRecovery (h : Reported z s) : Reported z s.toRecovery :=
  (((h.wr (k := Reg.HST_LINK_STS) (by decide)).wr (k := Reg.HST_LINK_STS) (by decide)).wr (k := Reg.HST_RECOV_CNT)
    (by decide)).upd

theorem leaveL1 (h : Reported z s) : Reported z s.leaveL1 := by
  unfold State.leaveL1
  split
  · exact h.wake.toRecovery
  · exact h

theorem sendMessage {v : Nat} (h : Reported z s) : Reported z (s.sendMessage v) := by
  unfold State.sendMessage
  split
  · split
    · exact h.upd.leaveL1
    · exact h.upd.send
  · dsimp only
    split
    · exact h.upd.leaveL1
    · exact h.upd.send
  · exact h

theorem pmeFor {v : Nat} (h : Reported z s) : Reported z (s.pmeFor v) := by
  unfold State.pmeFor
  split
  · exact h.send
  · exact h

theorem signalVector {v : Nat} (h : Reported z s) : Reported z (s.signalVector v) := by
  unfold State.signalVector
  split
  · exact h.pmeFor.sendMessage
  · dsimp only
    split
    · exact h.pmeFor.upd.sendMessage
    · exact h.pmeFor.upd

theorem takeEvent {src : Nat} (h : Reported z s) (hs : src < 576) : Reported z (s.takeEvent src) := by
  have hreg : eventReg (Reg.EVT_PEND (src / 18)) = true := by
    simp only [eventReg, Reg.EVT_PEND, Bool.or_eq_true, decide_eq_true_eq]
    omega
  unfold State.takeEvent
  split
  · exact h
  · dsimp only
    split
    · exact h.wr hreg
    · exact (h.wr hreg).signalVector

theorem monEvent {src : Nat} (h : Reported z s) : Reported z (s.monEvent src) := by
  unfold State.monEvent
  split
  · split
    · exact h.upd
    · exact h.wr (by decide)
  · exact h

theorem raise {src : Nat} (h : Reported z s) (hs : src < 576) : Reported z (s.raise src) := by
  have hm := h.monEvent (src := src)
  unfold State.raise
  dsimp only
  split
  · split
    · exact hm.upd.wake
    · split
      · exact hm
      · exact hm.wr (by decide)
  · split
    · exact hm.takeEvent hs
    · exact hm

end Reported

/-! ### Pairs that open and fail (R46, R47) -/

theorem regAt_pairV_own {p : Nat} (hp : p < 9) : ownOffset (pairV p) ∧ (rowOf (pairV p)).noWritable = false ∧
    regAt (pairV p / 65536) (pairV p % 65536) = .reg (rowOf (pairV p)) := by
  obtain ⟨hb, ho, hr, hw⟩ := regAt_pairV p hp (pairV p) (by simp)
  exact ⟨⟨hb, ho⟩, hw, hr⟩

/-- The _V write on an idle guard opens the pair (R46). -/
theorem State.rowWrite_open {s : State} {r : RegRow} {p at_ : Nat} {req : Requester} {v : Word} (hp : p < 9)
    (hres : v &&& r.reservedBits = 0) (hw : r.noWritable = false) (hidle : s.pair p = none) :
    s.rowWrite r (pairV p) 0 req v at_ = .ok (s.setPair p (some { value := v, req := req, openAt := at_ })) := by
  rw [State.rowWrite, if_neg (by simp [hres]), if_pos rfl, hw, (pairAt?_pairV p hp).1]
  simp only [Bool.false_eq_true, if_false, State.pairWrite, State.pairStale, hidle]

theorem pairV_write_opens {s : State} {req : Requester} {p : Nat} {v : Word} {i : Island} (hp : p < 9)
    (hopen : s.openFor (regAcc req (pairV p) v) i = true) (hres : v &&& (rowOf (pairV p)).reservedBits = 0)
    (hidle : s.pair p = none) :
    ∃ m, s.writeReg req (pairV p) v =
      ((s.onBus (busActivity (regAcc req (pairV p) v))).setPair p (some { value := v, req := req, openAt := s.now })).withMon m := by
  obtain ⟨hown, hw, hr⟩ := regAt_pairV_own hp
  exact State.writeReg_ok hopen hown hr (State.rowWrite_open hp hres hw hidle) rfl

/-- What is logged of a failed pair, before its event is raised (R47). -/
def State.pairLogged (s : State) (p cause : Nat) (req : Requester) : State :=
  if s.bit Reg.PLN_PAIR_STS 0 then s.setBit Reg.PLN_PAIR_STS 1 true
  else (s.setBit Reg.PLN_PAIR_STS 0 true).wr Reg.PLN_PAIR_LAST (word (p + cause * 16 + req.code * 128))

theorem State.pairFail_eq (s : State) (p cause : Nat) (req : Requester) :
    ∃ m, s.pairFail p cause req = (((s.setPair p none).withMon m).pairLogged p cause req).raise 553 := by
  unfold State.pairFail
  dsimp only
  split
  · exact ⟨_, rfl⟩
  · exact ⟨(s.setPair p none).mon, rfl⟩

theorem getLsbD_withField_flag (v : Word) (b : Nat) (hb : b < 18) (x : Bool) : (withField v b 1 (flag x)).getLsbD b = x := by
  have hmask : (2 ^ 1 - 1) * 2 ^ b = 2 ^ b := Nat.one_mul _
  cases x
  · simp only [withField, flag, hmask, BitVec.getLsbD_or, BitVec.getLsbD_and, BitVec.getLsbD_not, BitVec.getLsbD_ofNat, hb,
      Nat.testBit_two_pow_self]
    simp
  · have hone : (1 : Nat) % 2 ^ 1 * 2 ^ b = 2 ^ b := Nat.one_mul _
    simp only [withField, flag, if_true, hone, BitVec.getLsbD_or, BitVec.getLsbD_ofNat, hb, Nat.testBit_two_pow_self]
    simp

theorem State.pairLogged_spec (s : State) (p cause : Nat) (req : Requester) :
    (s.bit Reg.PLN_PAIR_STS 0 = false → (s.pairLogged p cause req).bit Reg.PLN_PAIR_STS 0 = true ∧
      (s.pairLogged p cause req).rd Reg.PLN_PAIR_LAST = word (p + cause * 16 + req.code * 128)) ∧
    (s.bit Reg.PLN_PAIR_STS 0 = true → (s.pairLogged p cause req).bit Reg.PLN_PAIR_STS 1 = true ∧
      (s.pairLogged p cause req).rd Reg.PLN_PAIR_LAST = s.rd Reg.PLN_PAIR_LAST) ∧
    (∀ k, k ≠ Reg.PLN_PAIR_STS → k ≠ Reg.PLN_PAIR_LAST → (s.pairLogged p cause req).rd k = s.rd k) ∧
    (s.pairLogged p cause req).sram = s.sram ∧ (s.pairLogged p cause req).pairs = s.pairs ∧
    (s.pairLogged p cause req).pending = s.pending := by
  have hne : Reg.PLN_PAIR_STS ≠ Reg.PLN_PAIR_LAST := by decide
  unfold State.pairLogged
  cases h : s.bit Reg.PLN_PAIR_STS 0
  · simp only [Bool.false_eq_true, if_false]
    refine ⟨fun _ => ⟨?_, State.wr_rd_self _ _ _⟩, fun h => (by cases h), fun k h1 h2 => ?_, rfl, rfl, rfl⟩
    · rw [State.bit, State.wr_rd_ne _ hne, State.setBit_rd_self]
      exact getLsbD_withField_flag _ 0 (by decide) true
    · rw [State.wr_rd_ne _ h2, State.setBit_rd_ne _ h1]
  · simp only [if_true]
    refine ⟨fun h => (by cases h), fun _ => ⟨?_, State.setBit_rd_ne _ hne.symm _ _⟩, fun k h1 _ => State.setBit_rd_ne _ h1 _ _,
      rfl, rfl, rfl⟩
    rw [State.bit, State.setBit_rd_self]
    exact getLsbD_withField_flag _ 1 (by decide) true

theorem pairGuard : Claims.PairGuard := by
  unfold Claims.PairGuard
  constructor
  · intro s req p v i hopen hres hidle
    obtain ⟨m, hm⟩ := pairV_write_opens p.isLt hopen hres hidle
    refine ⟨s.writeReg req (pairV p) v, rfl, ?_⟩
    rw [hm]
    exact ⟨(State.withMon_pair _ _ _).trans (State.setPair_pair_self _ _ _), fun _ _ => rfl, fun _ => rfl, rfl⟩
  · intro s p o ho hlate hwait
    have hover : s.pairOver p.val = s.pairFail p.val 1 o.req := by
      simp only [State.pairOver, ho, msTicks, Nat.mul_one, hlate, hwait, decide_true, Bool.not_false, Bool.and_self, if_true]
    obtain ⟨m, hm⟩ := s.pairFail_eq p.val 1 o.req
    have hraise := (Reported.refl (((s.setPair p.val none).withMon m).pairLogged p.val 1 o.req)).raise (src := 553) (by decide)
    obtain ⟨hfirst, hagain, hrd, hsram, hpairs, hpend⟩ := ((s.setPair p.val none).withMon m).pairLogged_spec p.val 1 o.req
    have hsts := hraise.rd Reg.PLN_PAIR_STS (by decide)
    have hlast := hraise.rd Reg.PLN_PAIR_LAST (by decide)
    refine ⟨s.pairOver p.val, rfl, ?_⟩
    rw [hover, hm]
    refine ⟨?_, fun h => ?_, fun h => ?_, fun k hk => ?_, fun w => ?_, hraise.pending.trans hpend⟩
    · rw [State.pair, hraise.pairs, hpairs]
      exact State.setPair_pair_self s p.val none
    · rw [State.bit, hsts, hlast]
      exact hfirst h
    · rw [State.bit, hsts, hlast]
      exact hagain h
    · simp only [pairReg, Bool.or_eq_false_iff, decide_eq_false_iff_not] at hk
      exact (hraise.rd k hk.1.1).trans (hrd k hk.1.2 hk.2)
    · rw [State.sramW, hraise.sram, hsram]
      rfl

end Sys2Proof.Machine
end

section
/-!
PROOFS. Locked fields (R45, R33 cause 6): what a refused write changes.
-/

namespace Sys2Proof.Machine
open Sys2Proof.Claims

/-! ### Refusals (R33, R45, R51) -/

theorem State.setCfg_regs (s : State) (d : Nat) (v : Dword) : (s.setCfg d v).regs = s.regs := rfl

theorem State.aerFirst_regs (s : State) (b : Nat) : (s.aerFirst b).regs = s.regs := by
  have hloop : ∀ t : State, ((List.range 4).foldl (fun t k => t.setCfg (71 + k)
      (BitVec.ofNat 32 (Config.freeNat (t.freeIdx + k)))) t).regs = t.regs := fun t =>
    State.foldl_keeps State.regs (fun t k => t.setCfg_regs _ _) _ t
  simp only [State.aerFirst, apply_ite State.regs, State.drew_regs, hloop, State.setCfg_regs, ite_self]

theorem State.aer_regs (s : State) (b : Nat) (advisory : Bool) : (s.aer b advisory).regs = s.regs := by
  simp only [State.aer, State.setCfg_regs, apply_ite State.regs, State.aerFirst_regs, ite_self]

theorem State.rd_of_regs {s t : State} (h : t.regs = s.regs) (k : Nat) : t.rd k = s.rd k := by
  rw [State.rd, State.rd, h]

theorem State.logAccess_rd_ne {s : State} {req : Requester} {addr cause k : Nat} {ca : Bool} (h1 : k ≠ Reg.PLN_ACC_STS)
    (h2 : k ≠ Reg.PLN_ACC_BLK) (h3 : k ≠ Reg.PLN_ACC_OFS) : (s.logAccess req addr ca cause).rd k = s.rd k := by
  unfold State.logAccess
  split
  · rw [State.wr_rd_ne _ h3, State.wr_rd_ne _ h2, State.setBit_rd_ne _ h1]
  · exact State.setBit_rd_ne _ h1 _ _

theorem State.logAccess_first {s : State} {req : Requester} {addr cause : Nat} {ca : Bool} (h : s.fld Reg.PLN_ACC_STS 0 2 = 0) :
    (s.logAccess req addr ca cause).rd Reg.PLN_ACC_BLK = word (addr / 65536 % 256 + req.code * 256 + cause * 2048) := by
  rw [State.logAccess, if_pos h, State.wr_rd_ne _ (by decide), State.wr_rd_self]

/-- The cause that PLN_ACC_BLK names. -/
theorem fieldOf_accBlk_cause (blk cause : Nat) (req : Requester) (hc : cause < 16) :
    fieldOf (word (blk % 256 + req.code * 256 + cause * 2048)) 11 4 = cause := by
  have hreq : req.code < 4 := by cases req <;> decide
  rw [fieldOf, BitVec.toNat_ofNat]
  omega

/-- A refused write of causes 2 to 8, 13 and 14 while the Plinth runs: the log is written, and for the host AER. -/
theorem State.accessRefused_regs {s : State} {a : RegAccess} {cause : Nat} (hrun : s.stopped .pln = false)
    (hc : causeCA cause = false) :
    (s.accessRefused true a cause).regs = (s.logAccess a.req a.addr.toNat (causeCA cause) cause).regs := by
  have hraise : ∀ t : State, t.raiseCause cause = t := by
    intro t
    unfold State.raiseCause
    split <;> first | rfl | exact absurd hc (by decide)
  unfold State.accessRefused
  rw [hrun, hraise]
  dsimp only
  split
  · exact State.aer_regs _ _ _
  · rfl

/-- A reply of the monitor is counted and ends its command. -/
theorem State.monReply_rd {s : State} {lines : List (List Char)} {ok : Bool} {k : Nat} (hk : eventReg k = false)
    (h1 : k ≠ Reg.MON_CMD_CNT) (h2 : k ≠ Reg.MON_ERR_CNT) (h3 : k ≠ Reg.MON_STS) : (s.monReply lines ok).rd k = s.rd k := by
  have hout : ∀ (t : State) cs, (t.monOut cs).rd k = t.rd k := by
    intro t cs
    unfold State.monOut
    split
    · rfl
    · exact ((Reported.refl t).send).rd k hk
  have hlines : (lines.foldl State.monLine s).rd k = s.rd k :=
    State.foldl_keeps (State.rd · k) (fun t l => hout t _) lines s
  have hcnt : k ≠ (if ok then Reg.MON_CMD_CNT else Reg.MON_ERR_CNT) := by
    cases ok
    · exact h2
    · exact h1
  unfold State.monReply
  dsimp only
  rw [State.setBit_rd_ne _ h3]
  exact (State.wr_rd_ne _ hcnt _).trans ((hout _ _).trans hlines)

/-- The answer to a refused write changes the registers that report it. -/
theorem State.answerRefused_rd {s : State} {a : RegAccess} {cause k : Nat} (hk : eventReg k = false)
    (h1 : k ≠ Reg.MON_CMD_CNT) (h2 : k ≠ Reg.MON_ERR_CNT) (h3 : k ≠ Reg.MON_STS) (h4 : k ≠ Reg.SAT_EVT) :
    (s.answerRefused true a cause).rd k = s.rd k := by
  have hsat : ∀ t : State, t.regs = s.regs → (t.raiseSat 14).rd k = s.rd k := fun t ht =>
    ((Reported.refl _).raise (by decide)).rd k hk |>.trans ((State.setBit_rd_ne _ h4 _ _).trans (State.rd_of_regs ht k))
  unfold State.answerRefused
  split
  · rfl
  · split
    · rfl
    · exact State.monReply_rd hk h1 h2 h3
  · exact hsat _ rfl
  · exact hsat _ rfl

theorem sticky_and_locked (s : State) (k : Nat) : stickyBits k &&& s.lockedBits k = 0 := by
  unfold State.lockedBits
  split
  · rename_i h; rw [h.1]; rfl
  · split
    · rename_i h; rw [h.1]; rfl
    · split
      · rename_i h; rw [h.1]; rfl
      · split
        · rename_i h; rw [h.1]; rfl
        · exact BitVec.and_zero

theorem xor_or_sticky {m o st l : Word} (h : st &&& l = 0) : ((m ||| (o &&& st)) ^^^ o) &&& l = (m ^^^ o) &&& l := by
  apply BitVec.eq_of_getLsbD_eq
  intro b hb
  have := congrArg (·.getLsbD b) h
  simp only [BitVec.getLsbD_and, BitVec.getLsbD_or, BitVec.getLsbD_xor, show (0 : Word) = 0#18 from rfl, BitVec.getLsbD_zero] at this ⊢
  grind

/-- The registers with a locked field, or with a lock bit, take writes and are no pair's slot. -/
theorem locked_row {k : Nat} (h : k = Reg.ARM_SRC ∨ k = Reg.NRG_CEIL_DRV ∨ k = Reg.RNG_JOIN ∨ k = Reg.MON_CTL) :
    (rowOf k).noWritable = false ∧ pairAt? k = none ∧ (∀ s : State, s.current k = s.rd k) := by
  rcases h with rfl | rfl | rfl | rfl <;> exact ⟨rfl, rfl, fun _ => rfl⟩

/-- A direct write that would change a locked field is refused (R45). -/
theorem State.rowWrite_locked {s : State} {r : RegRow} {k at_ : Nat} {req : Requester} {v : Word} (hres : v &&& r.reservedBits = 0)
    (hw : r.noWritable = false) (hp : pairAt? k = none) (hcur : s.current k = s.rd k)
    (hlock : (mergeWrite r (s.rd k) v ^^^ s.rd k) &&& s.lockedBits k ≠ 0) : s.rowWrite r k 0 req v at_ = .error 6 := by
  rw [State.rowWrite_direct hres hw hp, hcur]
  simp only [State.storeWrite, hcur]
  rw [xor_or_sticky (sticky_and_locked s k), if_pos hlock]

theorem lockedFieldKeepsItsValue : Claims.LockedFieldKeepsItsValue := by
  unfold Claims.LockedFieldKeepsItsValue
  intro s a i r hopen hr hb hal hres hlock hkey
  obtain ⟨hw, hp, hcur⟩ := locked_row hkey
  rw [rowOf_accKey hb hr] at hw
  have hrow : (s.onBus (busActivity a)).regWrite a s.now = .error 6 := by
    rw [State.regWrite_reg hb hr, hal]
    exact State.rowWrite_locked hres hw hp (hcur _) hlock
  have hrun : (s.onBus (busActivity a)).stopped .pln = false := (State.openFor_iff.1 hopen).2.1.2.1
  have hreg : s.regAccess true a = (s.onBus (busActivity a)).refuseAccess true a 6 := by
    rw [State.regAccess_of_open true hopen, State.perform_write_refused hrow]
  have hregs := State.accessRefused_regs (a := a) hrun (cause := 6) rfl
  have hans {k : Nat} (hk : eventReg k = false) (h1 : k ≠ Reg.MON_CMD_CNT) (h2 : k ≠ Reg.MON_ERR_CNT) (h3 : k ≠ Reg.MON_STS)
      (h4 : k ≠ Reg.SAT_EVT) : (s.regAccess true a).rd k =
        ((s.onBus (busActivity a)).logAccess a.req a.addr.toNat (causeCA 6) 6).rd k := by
    rw [hreg, State.refuseAccess, State.answerRefused_rd hk h1 h2 h3 h4, State.rd_of_regs hregs]
  refine ⟨s.regAccess true a, rfl, ?_, fun hfirst => ?_⟩
  · have hquiet : eventReg (accKey a) = false ∧ accKey a ≠ Reg.MON_CMD_CNT ∧ accKey a ≠ Reg.MON_ERR_CNT ∧ accKey a ≠ Reg.MON_STS ∧
        accKey a ≠ Reg.SAT_EVT ∧ accKey a ≠ Reg.PLN_ACC_STS ∧ accKey a ≠ Reg.PLN_ACC_BLK ∧ accKey a ≠ Reg.PLN_ACC_OFS := by
      rcases hkey with h | h | h | h <;> rw [h] <;> decide
    obtain ⟨hk, h1, h2, h3, h4, h5, h6, h7⟩ := hquiet
    rw [hans hk h1 h2 h3 h4, State.logAccess_rd_ne h5 h6 h7, State.onBus_rd]
  · have hfirst' : (s.onBus (busActivity a)).fld Reg.PLN_ACC_STS 0 2 = 0 := hfirst
    rw [State.fld, hans (by decide) (by decide) (by decide) (by decide) (by decide), State.logAccess_first hfirst']
    exact fieldOf_accBlk_cause _ 6 _ (by decide)

end Sys2Proof.Machine
end

section
/-!
PROOFS. Lock bits (R44): a write never clears one, whatever the write of its register starts.
-/

namespace Sys2Proof.Machine
open Sys2Proof.Claims

/-! ### Lock bits (R44) -/

/-- `t` has the RNG_JOIN of `s`, and no other work is about to start. -/
structure JoinKept (s t : State) : Prop where
  join : t.rd Reg.RNG_JOIN = s.rd Reg.RNG_JOIN
  ready : t.nrg.ready = s.nrg.ready

namespace JoinKept

variable {z s : State}

theorem refl (s : State) : JoinKept s s := ⟨rfl, rfl⟩

theorem upd {t : State} (h : JoinKept z s) (h1 : t.regs = s.regs := by rfl) (h2 : t.nrg.ready = s.nrg.ready := by rfl) :
    JoinKept z t := ⟨(State.rd_of_regs h1 _).trans h.join, h2.trans h.ready⟩

theorem wr {k : Nat} {v : Word} (h : JoinKept z s) (hk : Reg.RNG_JOIN ≠ k := by decide) : JoinKept z (s.wr k v) :=
  ⟨(State.wr_rd_ne s hk v).trans h.join, h.ready⟩

theorem setBit {k b : Nat} {v : Bool} (h : JoinKept z s) (hk : Reg.RNG_JOIN ≠ k := by decide) : JoinKept z (s.setBit k b v) :=
  h.wr hk

theorem setFld {k lo w n : Nat} (h : JoinKept z s) (hk : Reg.RNG_JOIN ≠ k := by decide) : JoinKept z (s.setFld k lo w n) :=
  h.wr hk

theorem reported {t : State} (h : JoinKept z s) (hr : Reported s t) : JoinKept z t :=
  ⟨(hr.rd _ (by decide)).trans h.join, (congrArg (·.ready) hr.nrg).trans h.ready⟩

theorem ite {a b : State} {c : Prop} [Decidable c] (ha : JoinKept z a) (hb : JoinKept z b) : JoinKept z (if c then a else b) := by
  split
  · exact ha
  · exact hb

theorem foldl {α : Type} {f : State → α → State} (l : List α) (h : JoinKept z s) (hf : ∀ t a, JoinKept z t → JoinKept z (f t a)) :
    JoinKept z (l.foldl f s) :=
  List.foldlRecOn l f (motive := JoinKept z) h fun t ht a _ => hf t a ht

theorem hsSend {c : ChannelId} {e : HsEntry} (h : JoinKept z s) : JoinKept z (s.hsSend c e) := by
  unfold State.hsSend
  exact .ite h.upd h.upd

theorem sendEstimate {v : Nat} (h : JoinKept z s) : JoinKept z (s.sendEstimate v) :=
  h.foldl _ fun _ _ ht => .ite ht.hsSend ht

theorem setRing {st : Nat} (h : JoinKept z s) : JoinKept z (s.setRing st) := by
  have ht : JoinKept z (if st = 6 then s.setFld Reg.RNG_STS 0 3 st else (s.setFld Reg.RNG_STS 0 3 st).setFld Reg.RNG_STS 15 2 0) :=
    .ite h.setFld h.setFld.setFld
  unfold State.setRing
  exact .ite (ht.foldl _ fun _ _ hu => .ite hu.upd hu) ht

theorem frameOut {side : Side} {f : RFrame} (h : JoinKept z s) : JoinKept z (s.frameOut side f) := by
  have hw : JoinKept z (s.wakeSide side) := .ite (h.reported (Reported.refl s).send) h
  unfold State.frameOut
  exact .ite (hw.reported (Reported.refl _).send) h

theorem stampSent {f : RFrame} (h : JoinKept z s) : JoinKept z (s.stampSent f) := .ite h.upd (.ite h.upd h)

theorem grantAt {t : State} {n a : Nat} (h : JoinKept z s) (ht : s.grantAt n a = some t) : JoinKept z t := by
  unfold State.grantAt State.grantsAt at ht
  split at ht
  · cases ht; exact h.upd
  · cases ht

theorem sendOwn {side : Side} {f : RFrame} (h : JoinKept z s) : JoinKept z (s.sendOwn side f) := by
  unfold State.sendOwn
  dsimp only
  split
  · exact h
  · split
    · rename_i t ht
      split at ht
      · cases ht
      · exact (h.grantAt ht).stampSent.frameOut
    · exact h.upd

theorem leaveGroup {left : Bool} (h : JoinKept z s) : JoinKept z (s.leaveGroup left) := by
  have h1 : JoinKept z (if s.ringState = 0 then s else s.control none [6]) := .ite h h.sendOwn
  have h2 : JoinKept z (if left then (if s.ringState = 0 then s else s.control none [6]).setBit Reg.RNG_STS 10 true
      else if s.ringState = 0 then s else s.control none [6]) := .ite h1.setBit h1
  unfold State.leaveGroup
  exact (h2.upd.setBit.setBit.wr.setRing).foldl _ fun _ _ ht => .ite ht.sendEstimate ht

theorem showNode (h : JoinKept z s) : JoinKept z s.showNode := by
  unfold State.showNode
  dsimp only
  split
  · exact h.wr.setBit.setBit.reported ((Reported.refl _).raise (by decide))
  · exact h.wr.setBit

theorem startTrain (h : JoinKept z s) : JoinKept z s.startTrain := by
  unfold State.startTrain
  exact (JoinKept.ite h.upd.setRing h.upd).showNode

end JoinKept

/-- The write of RNG_JOIN keeps a set LOCK and the field it guards (R44, R366). -/
theorem State.joinOp_rd (s : State) (v : Word) :
    (s.joinOp v).rd Reg.RNG_JOIN = (if s.bit Reg.RNG_JOIN 1 then s.rd Reg.RNG_JOIN else v &&& 3) ∧
      (s.joinOp v).nrg.ready = s.nrg.ready := by
  generalize hw : (if s.bit Reg.RNG_JOIN 1 then s.rd Reg.RNG_JOIN else v &&& 3) = w
  have key : JoinKept (s.wr Reg.RNG_JOIN w) (s.joinOp v) := by
    have h := JoinKept.refl (s.wr Reg.RNG_JOIN w)
    unfold State.joinOp
    dsimp only
    rw [hw]
    exact .ite h.leaveGroup (.ite (.ite h.setRing.upd.setRing h.startTrain) h)
  exact ⟨key.join.trans (State.wr_rd_self _ _ _), key.ready⟩

/-- MON_CTL and the work about to start, which the end of a session leaves as they are (R431, R433). -/
def State.monCtlView (s : State) : Word × List Work := (s.rd Reg.MON_CTL, s.nrg.ready)

theorem State.monCtlView_wr (s : State) {k : Nat} (hk : Reg.MON_CTL ≠ k) (v : Word) : (s.wr k v).monCtlView = s.monCtlView :=
  Prod.ext (State.wr_rd_ne s hk v) rfl

theorem State.monCtlView_session (s : State) (ws : List Waiter) (bs : List BusRequest) (m : MonSt) :
    { s with waiters := ws, busWait := bs, mon := m }.monCtlView = s.monCtlView := rfl

theorem State.monCtlView_abortLoad (s : State) : s.abortLoad.monCtlView = s.monCtlView := by
  unfold State.abortLoad
  split
  · rfl
  · exact s.dropStaged.monCtlView_wr (k := Reg.ARM_STS) (by decide) _

theorem State.monCtlView_breakLocks (s : State) (mine : LockOwner → Bool) : (s.breakLocks mine).monCtlView = s.monCtlView :=
  State.forAll_keeps State.monCtlView (fun t n => by
    split
    · split <;> rfl
    · rfl) _ s

theorem State.monCtlView_monEnds (s : State) : s.monEnds.monCtlView = s.monCtlView := by
  have habort : (if s.arm.monLoad then s.abortLoad else s).monCtlView = s.monCtlView := by
    split
    · exact s.monCtlView_abortLoad
    · rfl
  have hlocks := (State.monCtlView_breakLocks _ fun o => decide (o = .req .monitor)).trans habort
  have hne : Reg.MON_CTL ≠ Reg.MON_STS := by decide
  unfold State.monEnds
  exact (State.monCtlView_wr _ hne _).trans ((State.monCtlView_session _ _ _ _).trans hlocks)

/-- The lock bit as a word; a write never clears it (R44). -/
theorem stickyBits_lockReg (b : LockBit) : stickyBits b.reg = word (2 ^ b.bit) := by cases b <;> rfl

theorem lockReg_place (b : LockBit) : ownOffset b.reg ∧ regAt (b.reg / 65536) (b.reg % 65536) = .reg (rowOf b.reg) := by
  cases b <;> exact ⟨by decide, rfl⟩

theorem lockReg_row (b : LockBit) : (rowOf b.reg).noWritable = false ∧ pairAt? b.reg = none ∧ b.reg ≠ Reg.HST_PRBS_CTL ∧
    (rowOf b.reg).w1c = 0 ∧ stickyBits b.reg &&& (rowOf b.reg).writable = stickyBits b.reg ∧
    stickyBits b.reg &&& (rowOf b.reg).reservedBits = 0 := by
  cases b <;> exact ⟨rfl, rfl, by decide, rfl, rfl, rfl⟩

theorem lockReg_current (s : State) (b : LockBit) : s.current b.reg = s.rd b.reg := by cases b <;> rfl

theorem lockReg_selCause (s : State) (b : LockBit) (v : Word) : s.selCause b.reg v = false := by cases b <;> rfl

/-- A write that sets bits in a row without W1C bits. -/
theorem mergeWrite_or {r : RegRow} {old m : Word} (hw : r.w1c = 0) (hm : m &&& r.writable = m) : mergeWrite r old (old ||| m) = old ||| m := by
  apply BitVec.eq_of_getLsbD_eq
  intro b hb
  have := congrArg (·.getLsbD b) hm
  simp only [mergeWrite, hw, BitVec.getLsbD_and, BitVec.getLsbD_or, BitVec.getLsbD_not, BitVec.getLsbD_ofNat, Nat.zero_testBit, hb,
    decide_true, Bool.true_and] at this ⊢
  grind

/-- Setting a lock bit leaves the level that MON_CTL holds. -/
theorem fieldOf_or_lock (old : Word) : fieldOf (old ||| word 4) 0 2 = fieldOf old 0 2 := by
  simp only [fieldOf, BitVec.toNat_or, pow_zero, Nat.div_one, Nat.or_mod_two_pow]
  simp

theorem lockReg_writeJudged (s : State) (b : LockBit) (req : Requester) (old v : Word) :
    s.writeJudged b.reg req old v (old ||| stickyBits b.reg) = .ok (old ||| stickyBits b.reg) := by
  have hmon : ¬fieldOf old 0 2 < fieldOf (old ||| word 4) 0 2 := by rw [fieldOf_or_lock]; exact lt_irrefl _
  cases b
  case monCtl =>
    have hself : s.writeJudged Reg.MON_CTL req old v (old ||| word 4) =
        if Reg.MON_CTL = Reg.MON_CTL ∧ fieldOf old 0 2 < fieldOf (old ||| word 4) 0 2 then .error 13
        else .ok (old ||| word 4) := rfl
    exact hself.trans (if_neg fun h => hmon h.2)
  all_goals rfl

/-- A write of MON_CTL ends a session or starts nothing (R433). -/
theorem State.wrote_monCtl (s : State) (w : Written) : s.wrote Reg.MON_CTL w = s.monEnds ∨ s.wrote Reg.MON_CTL w = s :=
  ite_eq_or_eq (Reg.MON_CTL = Reg.MON_CTL ∧ fieldOf w.new 0 2 = 0 ∧ s.bit Reg.MON_STS 0 = true) s.monEnds s

/-- The value stored and what its write starts: the lock bit stands, and no work is about to start. -/
theorem lockReg_stored (s : State) (b : LockBit) (v : Word) (w : Written) (hv : v.getLsbD b.bit = true) :
    ((s.store b.reg v).wrote b.reg w).bit b.reg b.bit = true ∧
      ((s.store b.reg v).wrote b.reg w).nrg.ready = s.nrg.ready := by
  cases b
  case armSrc => exact ⟨(congrArg (·.getLsbD 4) (s.wr_rd_self Reg.ARM_SRC v)).trans hv, rfl⟩
  case ceilLock => exact ⟨(congrArg (·.getLsbD 0) (s.wr_rd_self Reg.NRG_CTL v)).trans hv, rfl⟩
  case ringJoin =>
    obtain ⟨hrd, hready⟩ := s.joinOp_rd v
    refine ⟨(congrArg (·.getLsbD 1) hrd).trans ?_, hready⟩
    cases hlock : s.bit Reg.RNG_JOIN 1
    · exact (BitVec.getLsbD_and).trans (by rw [show v.getLsbD 1 = true from hv]; rfl)
    · exact hlock
  case monCtl =>
    have hend : ((s.store LockBit.monCtl.reg v).wrote LockBit.monCtl.reg w).monCtlView = (v, s.nrg.ready) := by
      have hst : ((s.wr Reg.MON_CTL v).reparity Reg.MON_CTL).monCtlView = (v, s.nrg.ready) := Prod.ext (State.wr_rd_self _ _ _) rfl
      rcases State.wrote_monCtl ((s.wr Reg.MON_CTL v).reparity Reg.MON_CTL) w with h | h
      · exact (congrArg State.monCtlView h).trans ((State.monCtlView_monEnds _).trans hst)
      · exact (congrArg State.monCtlView h).trans hst
    obtain ⟨hrd, hready⟩ := Prod.mk.inj hend
    exact ⟨(congrArg (·.getLsbD 2) hrd).trans hv, hready⟩

theorem or_or_and_self {o m : Word} : (o ||| m) ||| (o &&& m) = o ||| m := by
  apply BitVec.eq_of_getLsbD_eq
  intro b hb
  simp only [BitVec.getLsbD_and, BitVec.getLsbD_or]
  grind

/-- The bits that a write has added to a value are the only ones that changed. -/
theorem or_xor_and_of_and_eq_zero {o m l : Word} (h : m &&& l = 0) : ((o ||| m) ^^^ o) &&& l = 0 := by
  apply BitVec.eq_of_getLsbD_eq
  intro b hb
  have := congrArg (·.getLsbD b) h
  simp only [BitVec.getLsbD_and, BitVec.getLsbD_or, BitVec.getLsbD_xor, show (0 : Word) = 0#18 from rfl, BitVec.getLsbD_zero] at this ⊢
  grind

theorem lockBitSets : Claims.LockBitSets := by
  unfold Claims.LockBitSets
  intro s req b i hopen hres
  obtain ⟨hw, hp, hprbs, hw1c, hmw, hmr⟩ := lockReg_row b
  obtain ⟨hown, hat⟩ := lockReg_place b
  rw [← stickyBits_lockReg] at hopen
  have hres' : (s.rd b.reg ||| stickyBits b.reg) &&& (rowOf b.reg).reservedBits = 0 := by
    rw [BitVec.and_or_distrib_right, hres, hmr]
    rfl
  have hrow {u : State} (hu : u.rd b.reg = s.rd b.reg) :
      ∃ w, u.rowWrite (rowOf b.reg) b.reg 0 req (s.rd b.reg ||| stickyBits b.reg) s.now =
        .ok ((u.store b.reg (s.rd b.reg ||| stickyBits b.reg)).wrote b.reg w) := by
    rw [State.rowWrite_direct hres' hw hp, lockReg_current, hu, mergeWrite_or hw1c hmw]
    refine ⟨_, State.storeWrite_ok (want := s.rd b.reg ||| stickyBits b.reg) ?_ ?_ (lockReg_selCause u b _) ?_ hprbs⟩
    · rw [lockReg_current, hu]
      exact or_or_and_self
    · rw [lockReg_current, hu]
      exact or_xor_and_of_and_eq_zero (sticky_and_locked u b.reg)
    · rw [lockReg_current, hu]
      exact lockReg_writeJudged u b _ _ _
  obtain ⟨w, hw⟩ := hrow (u := s.onBus (busActivity (regAcc req b.reg (s.rd b.reg ||| stickyBits b.reg)))) rfl
  have hbit : (s.rd b.reg ||| stickyBits b.reg).getLsbD b.bit = true := by
    rw [BitVec.getLsbD_or, show (stickyBits b.reg).getLsbD b.bit = true by cases b <;> rfl, Bool.or_true]
  obtain ⟨hset, hready⟩ := lockReg_stored (s.onBus (busActivity (regAcc req b.reg (s.rd b.reg ||| stickyBits b.reg)))) b _ w hbit
  obtain ⟨m, hm⟩ := State.writeReg_ok hopen hown hat hw hready
  refine ⟨s.writeReg req b.reg (s.rd b.reg ||| stickyBits b.reg), ?_, ?_⟩
  · rw [stickyBits_lockReg]
    rfl
  · rw [hm]
    exact hset

/-- Settles O4: the lock bit stands after its write, a locked field after a refused one, and a pair opens and fails by the clock. -/
theorem locksAndPairsGuard : Obligations.LocksAndPairsGuard := ⟨lockBitSets, lockedFieldKeepsItsValue, pairGuard⟩

end Sys2Proof.Machine
end

section
/-!
PROOFS. Mailboxes (R40 to R42): a capture, an apply and the write of their own _SEL do not see each other.
-/

namespace Sys2Proof.Machine
open Sys2Proof.Claims

/-! ### Where the words of a mailbox stand (R40) -/

theorem MailboxId.sel_place (m : MailboxId) : ownOffset m.sel ∧ regAt (m.sel / 65536) (m.sel % 65536) = .reg (rowOf m.sel) ∧
    (rowOf m.sel).noWritable = false ∧ (rowOf m.sel).reservedBits = 0 ∧ (rowOf m.sel).writable = BitVec.allOnes 18 ∧
    (rowOf m.sel).w1c = 0 ∧ pairAt? m.sel = none ∧ m.sel ≠ Reg.HST_PRBS_CTL ∧
    MailboxId.at? m.sel = some (m, 0) ∧ stickyBits m.sel = 0 := by
  cases m with
  | tqMb q => fin_cases q <;> decide
  | _ => decide

theorem MailboxId.word_place (m : MailboxId) (k : Fin 3) : ownOffset (m.sel + 8 + 4 * k.val) ∧
    regAt ((m.sel + 8 + 4 * k.val) / 65536) ((m.sel + 8 + 4 * k.val) % 65536) = .reg (rowOf (m.sel + 8 + 4 * k.val)) ∧
    pairAt? (m.sel + 8 + 4 * k.val) = none ∧ MailboxId.at? (m.sel + 8 + 4 * k.val) = some (m, k.val + 2) := by
  revert k
  cases m with
  | tqMb q => fin_cases q <;> decide
  | _ => decide

/-! ### What a write to _SEL has changed when its item is judged and taken -/

/-- The state in which a write to _SEL finds its item: the access has had its grant, and the register holds the word written. -/
def State.selStored (s : State) (act : Nat) (m : MailboxId) (v : Word) : State := ((s.onBus act).wr m.sel v).reparity m.sel

section
variable (s : State) (act : Nat) (m : MailboxId) (v : Word)

theorem State.selStored_rd_ne {k : Nat} (h : k ≠ m.sel) : (s.selStored act m v).rd k = s.rd k := State.wr_rd_ne _ h _

theorem State.selStored_bit_ne {k b : Nat} (h : k ≠ m.sel) : (s.selStored act m v).bit k b = s.bit k b :=
  congrArg (·.getLsbD b) (s.selStored_rd_ne act m v h)

theorem State.selStored_fld_ne {k lo w : Nat} (h : k ≠ m.sel) : (s.selStored act m v).fld k lo w = s.fld k lo w :=
  congrArg (fieldOf · lo w) (s.selStored_rd_ne act m v h)

/-- A grant counts for the cadence in progress, not for the last one, whose counts TMP_MB shows (R247, R272). -/
theorem State.selStored_arb (n : Nat) : ((s.selStored act m v).arb n).lastGrants = (s.arb n).lastGrants ∧
    ((s.selStored act m v).arb n).shorts = (s.arb n).shorts := by
  have h : (s.selStored act m v).arb n = (s.setArb 11 ((s.arb 11).grant act)).arb n := rfl
  rw [h]
  by_cases hn : n = 11
  · subst hn
    rw [State.setArb_arb_self]
    exact ⟨rfl, rfl⟩
  · rw [State.setArb_arb_ne _ hn]
    exact ⟨rfl, rfl⟩

theorem State.selStored_arbSum {f : Arb → Nat} (hf : ∀ n, f ((s.selStored act m v).arb n) = f (s.arb n)) (row : Nat) :
    (s.selStored act m v).arbSum row f = s.arbSum row f := by
  unfold State.arbSum
  simp only [hf]

theorem State.selStored_captureTmp (i : Nat) : (s.selStored act m v).captureTmp i = s.captureTmp i := by
  have hlast (a : Nat) := s.selStored_arbSum act m v (f := fun x => Tab.get 0 x.lastGrants a)
    fun n => by rw [(s.selStored_arb act m v n).1]
  have hshort (a : Nat) := s.selStored_arbSum act m v (f := fun x => (Tab.get 0 x.shorts a).toNat)
    fun n => by rw [(s.selStored_arb act m v n).2]
  unfold State.captureTmp
  simp only [hlast, hshort]
  rfl

theorem State.selStored_encPenOn (e : Nat) : (s.selStored act .nrgMb v).encPenOn e = s.encPenOn e := by
  have hctl := s.selStored_bit_ne act .nrgMb v (k := Reg.ENC_CTL e) (b := 1) (by simp only [Reg.ENC_CTL, MailboxId.sel]; omega)
  have hsts := s.selStored_bit_ne act .nrgMb v (k := Reg.ARM_STS) (b := 12) (by decide)
  have hheld : (s.selStored act .nrgMb v).held .mot = s.held .mot := s.selStored_bit_ne act .nrgMb v (by decide)
  unfold State.encPenOn
  rw [hctl, hsts, hheld]
  rfl

theorem State.selStored_loadsNow : (s.selStored act .nrgMb v).loadsNow = s.loadsNow := by
  have h (l : Nat) : (s.selStored act .nrgMb v).loadNow l = s.loadNow l := by
    unfold State.loadNow
    rw [State.selStored_encPenOn]
    rfl
  rw [State.loadsNow, State.loadsNow, funext h]

/-- A source's index has four bits, so no virtual encoder reads MOT_MB_SEL as an encoder's control register. -/
theorem sprueOf_index_lt (im : Option Image) (n : Nat) : (sprueOf im n).index < 16 := by
  unfold sprueOf
  split
  · decide
  · exact Nat.mod_lt _ (by decide)

theorem State.selStored_veNoSrc (n : Nat) : (s.selStored act .motMb v).veNoSrc n = s.veNoSrc n := by
  have hidx := sprueOf_index_lt s.image n
  have hctl := s.selStored_bit_ne act .motMb v (k := Reg.ENC_CTL (sprueOf s.image n).index) (b := 0)
    (by simp only [Reg.ENC_CTL, MailboxId.sel]; omega)
  have hge := s.selStored_bit_ne act .motMb v (k := Reg.RNG_GE_STS) (b := (sprueOf s.image n).index) (by decide)
  have him : (s.selStored act .motMb v).image = s.image := rfl
  unfold State.veNoSrc
  simp only [him, hctl, hge]
  rfl

theorem State.selStored_veEst (n : Nat) : (s.selStored act .motMb v).veEst n = s.veEst n := by
  unfold State.veEst
  rw [State.selStored_veNoSrc]
  rfl

theorem State.selStored_captureMot (i : Nat) : (s.selStored act .motMb v).captureMot i = s.captureMot i := by
  unfold State.captureMot
  by_cases hi : inItems i 0x160 32 = true
  · have hamax := s.selStored_rd_ne act .motMb v (k := Reg.VE_AMAX (i - 0x160)) (by
      simp only [inItems, decide_eq_true_eq] at hi
      simp only [Reg.VE_AMAX, MailboxId.sel]
      omega)
    simp only [hamax, State.selStored_veEst]
    rfl
  · simp only [hi]
    rfl

/-- A capture does not see the write of its own _SEL (R40). -/
theorem State.selStored_mbCapture (i : Nat) : (s.selStored act m v).mbCapture m i = s.mbCapture m i := by
  cases m with
  | tmpMb => exact s.selStored_captureTmp act .tmpMb v i
  | motMb => exact s.selStored_captureMot act v i
  | nrgMb =>
    have h := s.selStored_loadsNow act v
    simp only [State.mbCapture, h]
    rfl
  | _ => rfl

theorem State.selStored_hsSend (c : ChannelId) (e : HsEntry) :
    (s.selStored act m v).hsSend c e = (s.hsSend c e).selStored act m v := by
  have hhs : (s.selStored act m v).hs c = s.hs c := rfl
  have hstep : (s.selStored act m v).stepping c.receiver = s.stepping c.receiver := rfl
  have hgate : (s.selStored act m v).gateClosed c.receiver = s.gateClosed c.receiver := rfl
  simp only [State.hsSend, hhs, hstep, hgate]
  rw [apply_ite (State.selStored · act m v)]
  rfl

theorem State.selStored_sendEstimate (n : Nat) :
    (s.selStored act .motMb v).sendEstimate n = (s.sendEstimate n).selStored act .motMb v := by
  refine List.foldl_hom (State.selStored · act .motMb v) fun t q => ?_
  rw [State.selStored_veEst, apply_ite (State.selStored · act .motMb v), ← State.selStored_hsSend]
  rfl

theorem State.selStored_setSe (n : Nat) (x : Se) : (s.selStored act m v).setSe n x = (s.setSe n x).selStored act m v := rfl

theorem State.selStored_seRun (n : Nat) (run : Bool) : (s.selStored act m v).seRun n run = (s.seRun n run).selStored act m v := rfl

theorem State.selStored_setInterval (n : Nat) (hn : n < 4) (x : Word36) :
    (s.selStored act .motMb v).setInterval n x = (s.setInterval n x).selStored act .motMb v := by
  have hctl := s.selStored_bit_ne act .motMb v (k := Reg.SE_CTL n) (b := 0) (by
    simp only [Reg.SE_CTL, MailboxId.sel]
    omega)
  have hse : (s.selStored act .motMb v).se n = s.se n := rfl
  simp only [State.setInterval, hctl, hse, State.selStored_setSe, State.selStored_seRun]
  rw [apply_ite (State.selStored · act .motMb v)]

theorem State.selStored_setVe (n : Nat) (x : Ve) : (s.selStored act m v).setVe n x = (s.setVe n x).selStored act m v := rfl

theorem State.selStored_setPosition (n : Nat) (p : Word54) :
    (s.selStored act .motMb v).setPosition n p = (s.setPosition n p).selStored act .motMb v := by
  unfold State.setPosition
  rw [← State.selStored_sendEstimate]
  rfl

theorem State.selStored_modQueue (q : Nat) (f : Queue → Queue) :
    (s.selStored act m v).modQueue q f = (s.modQueue q f).selStored act m v := rfl

/-- An apply and the write of its own _SEL do not see each other (R42). -/
theorem State.selStored_mbApply (i : Nat) (ws : List Word) :
    (s.selStored act m v).mbApply m i ws = (s.mbApply m i ws).selStored act m v := by
  cases m with
  | queMb =>
    have hq : (s.selStored act .queMb v).queue (i / 8) = s.queue (i / 8) := rfl
    simp only [State.mbApply, hq, State.selStored_modQueue]
    by_cases hd : (s.queue (i / 8)).state ≠ .disabled
    · rw [if_pos hd, if_pos hd]
    · rw [if_neg hd, if_neg hd]
      by_cases h0 : i % 8 = 0
      · rw [if_pos h0, if_pos h0]
      · rw [if_neg h0, if_neg h0]
  | motMb =>
    have hve : (s.selStored act .motMb v).ve (i - 0x200) = s.ve (i - 0x200) := rfl
    by_cases hse : inItems i 0x060 4 = true
    · have hn : i - 0x060 < 4 := by
        simp only [inItems, decide_eq_true_eq] at hse
        omega
      simp only [State.mbApply, hse, if_true]
      exact s.selStored_setInterval act v _ hn _
    · simp only [State.mbApply, hse, State.selStored_setPosition, State.selStored_setVe, hve, Bool.false_eq_true, if_false]
      by_cases hpos : inItems i 0x100 32 = true
      · rw [if_pos hpos, if_pos hpos]
      · rw [if_neg hpos, if_neg hpos]
  | _ => rfl

theorem State.selStored_applyDone : (s.selStored act m v).applyDone m = (s.applyDone m).selStored act m v := by
  have hmb : (s.selStored act m v).mb m = s.mb m := rfl
  unfold State.applyDone
  rw [hmb]
  split
  · rfl
  · rw [State.selStored_mbApply]
    rfl

theorem State.selStored_prbsSettle : (s.selStored act .hstPrbs v).prbsSettle = s.prbsSettle.selStored act .hstPrbs v := by
  have hruns : (s.selStored act .hstPrbs v).link.prbsRuns = s.link.prbsRuns := rfl
  unfold State.prbsSettle
  rw [hruns]
  by_cases hr : (!s.link.prbsRuns) = true
  · rw [if_pos hr, if_pos hr]
  · rw [if_neg hr, if_neg hr]
    refine List.foldl_hom (State.selStored · act .hstPrbs v) fun t k => ?_
    have hsts := t.selStored_bit_ne act .hstPrbs v (k := Reg.HST_PRBS_STS) (b := k) (by decide)
    have hctl := t.selStored_fld_ne act .hstPrbs v (k := Reg.HST_PRBS_CTL) (lo := 4) (w := 2) (by decide)
    rw [hsts, hctl, apply_ite (State.selStored · act .hstPrbs v)]
    rfl

theorem State.selStored_beforeCapture (i : Nat) :
    (s.selStored act m v).beforeCapture m i = (s.beforeCapture m i).selStored act m v := by
  cases m with
  | hstPrbs => exact s.selStored_prbsSettle act v
  | motMb =>
    have hve : (s.selStored act .motMb v).ve (i - 0x100) = s.ve (i - 0x100) := rfl
    simp only [State.beforeCapture, hve, State.selStored_setVe]
    by_cases hpos : inItems i 0x100 32 = true
    · rw [if_pos hpos, if_pos hpos]
      rfl
    · rw [if_neg hpos, if_neg hpos]
  | _ => rfl

end

end Sys2Proof.Machine
end

section
/-!
PROOFS. The write of a mailbox's _SEL and the read of its words (R40 to R42).
-/

namespace Sys2Proof.Machine
open Sys2Proof.Claims

/-! ### A write to _SEL (R40, R42, R43) -/

/-- An item has one width, whatever the state; the state says only whether it exists now and can be written. -/
theorem State.mbItem_width (s t : State) (m : MailboxId) (i : Nat) :
    (s.mbItem m i).map Prod.fst = (t.mbItem m i).map Prod.fst := by
  cases m with
  | queMb =>
    simp only [State.mbItem, apply_ite (Option.map Prod.fst)]
    congr 1
    match i % 8 with
    | 0 | 1 | 2 | 3 | _ + 4 => rfl
  | motMb => simp only [State.mbItem, State.motItem, apply_ite (Option.map Prod.fst), Option.map_some]
  | tqMb q => simp only [State.mbItem, apply_ite (Option.map Prod.fst), Option.map_some]
  | _ => rfl

theorem State.mbItem_width_eq {s : State} (t : State) {m : MailboxId} {i n : Nat} {w : Bool} (h : s.mbItem m i = some (n, w)) :
    ∃ w', t.mbItem m i = some (n, w') := by
  have hw := s.mbItem_width t m i
  rw [h] at hw
  obtain ⟨⟨n', w'⟩, ht, hn⟩ := Option.map_eq_some_iff.1 hw.symm
  exact ⟨w', ht.trans (by rw [show n' = n from hn])⟩

/-- The mailboxes' slots, and the work that waits to start: what an access leaves to its answer. -/
def State.slots (s : State) : Tab Mb × List Work := (s.mbs, s.nrg.ready)

theorem State.slots_foldl {α : Type} {f : State → α → State} (hf : ∀ t a, (f t a).slots = t.slots) (l : List α) (s : State) :
    (l.foldl f s).slots = s.slots := by
  induction l generalizing s with
  | nil => rfl
  | cons a l ih => rw [List.foldl_cons, ih, hf]

section
variable (s : State)

theorem State.slots_hsSend (c : ChannelId) (e : HsEntry) : (s.hsSend c e).slots = s.slots := by
  simp only [State.hsSend, apply_ite State.slots]
  exact ite_self _

theorem State.slots_sendEstimate (n : Nat) : (s.sendEstimate n).slots = s.slots := by
  refine State.slots_foldl (fun t q => ?_) _ _
  rw [apply_ite State.slots, State.slots_hsSend, ite_self]

theorem State.slots_prbsSettle : s.prbsSettle.slots = s.slots := by
  unfold State.prbsSettle
  split
  · rfl
  · refine State.slots_foldl (fun t k => ?_) _ _
    rw [apply_ite State.slots]
    exact ite_self _

theorem State.slots_mbApply (m : MailboxId) (i : Nat) (ws : List Word) : (s.mbApply m i ws).slots = s.slots := by
  cases m with
  | queMb =>
    simp only [State.mbApply, apply_ite State.slots]
    exact (ite_congr rfl (fun _ => rfl) fun _ => ite_self _).trans (ite_self _)
  | motMb =>
    have hse (n : Nat) (x : Word36) : (s.setInterval n x).slots = s.slots := by
      unfold State.setInterval
      split <;> rfl
    have hpos (n : Nat) (x : Word54) : (s.setPosition n x).slots = s.slots := State.slots_sendEstimate _ _
    have hve (n : Nat) (x : Ve) : (s.setVe n x).slots = s.slots := rfl
    simp only [State.mbApply, apply_ite State.slots, hse, hpos, hve, ite_self]
  | _ => rfl

theorem State.slots_beforeCapture (m : MailboxId) (i : Nat) : (s.beforeCapture m i).slots = s.slots := by
  cases m with
  | hstPrbs => exact s.slots_prbsSettle
  | motMb =>
    simp only [State.beforeCapture, apply_ite State.slots]
    exact ite_self _
  | _ => rfl

/-- The slot as the pending apply leaves it. -/
theorem State.applyDone_mb_words (m : MailboxId) :
    ((s.applyDone m).mb m).w0 = (s.mb m).w0 ∧ ((s.applyDone m).mb m).w1 = (s.mb m).w1 ∧ ((s.applyDone m).mb m).w2 = (s.mb m).w2 := by
  unfold State.applyDone
  split
  · exact ⟨rfl, rfl, rfl⟩
  next i ws _ =>
    have hmbs : (s.mbApply m i ws).mbs = s.mbs := congrArg Prod.fst (s.slots_mbApply m i ws)
    have hmb : (s.mbApply m i ws).mb m = s.mb m := by rw [State.mb, hmbs, State.mb]
    rw [State.setMb_mb_self, hmb]
    exact ⟨rfl, rfl, rfl⟩

theorem State.applyDone_ready (m : MailboxId) : (s.applyDone m).nrg.ready = s.nrg.ready := by
  unfold State.applyDone
  split
  · rfl
  · exact congrArg Prod.snd (s.slots_mbApply m _ _)

theorem State.applyDone_of_pending {m : MailboxId} {i : Nat} {ws : List Word} (h : (s.mb m).applying = some (i, ws)) :
    s.applyDone m = (s.mbApply m i ws).setMb m { (s.mbApply m i ws).mb m with applying := none, done := true } := by
  rw [State.applyDone, h]

/-- An apply that is pending when _SEL is written again, or that completes on its own: a head port takes its offset. -/
theorem State.applyDone_offset {q : Fin 4} {i : Nat} {ws : List Word} (h : (s.mb (.tqMb q)).applying = some (i, ws)) :
    ((s.applyDone (.tqMb q)).port (8 * q.val + i)).offset = join36 (wordAt ws 0) (wordAt ws 1) := by
  rw [s.applyDone_of_pending h]
  exact congrArg Port.offset Tab.get_set_self

/-- A capture at a write to _SEL. -/
theorem State.selWritten_capture {m : MailboxId} {v : Word} {n : Nat} {w : Bool} (hv : v.getLsbD 17 = false)
    (hitem : s.mbItem m (fieldOf v 0 17) = some (n, w)) :
    let t := (s.applyDone m).beforeCapture m (fieldOf v 0 17)
    s.selWritten m v = t.setMb m { t.mb m with
      capturing := some (t.mbCapture m (fieldOf v 0 17)), applying := none, width := n, valid := false, done := false } := by
  obtain ⟨w', hw'⟩ := State.mbItem_width_eq (s.applyDone m) hitem
  simp only [State.selWritten, hw', hv, Bool.false_eq_true, if_false]

/-- An apply at a write to _SEL. -/
theorem State.selWritten_apply {m : MailboxId} {v : Word} {n : Nat} {w : Bool} (hv : v.getLsbD 17 = true)
    (hitem : s.mbItem m (fieldOf v 0 17) = some (n, w)) :
    s.selWritten m v = (s.applyDone m).setMb m { (s.applyDone m).mb m with
      applying := some (fieldOf v 0 17, [(s.mb m).w0, (s.mb m).w1, (s.mb m).w2].take n), capturing := none, width := n, valid := false,
      done := false } := by
  obtain ⟨w', hw'⟩ := State.mbItem_width_eq (s.applyDone m) hitem
  obtain ⟨h0, h1, h2⟩ := s.applyDone_mb_words m
  simp only [State.selWritten, hw', hv, if_true, h0, h1, h2]

theorem State.selWritten_ready (m : MailboxId) (v : Word) : (s.selWritten m v).nrg.ready = s.nrg.ready := by
  have hready := s.applyDone_ready m
  have hcap := congrArg Prod.snd ((s.applyDone m).slots_beforeCapture m (fieldOf v 0 17))
  simp only [State.selWritten]
  split
  · exact hready
  · split
    · exact hready
    · exact hcap.trans hready

end

/-! ### The write itself -/

theorem MailboxId.sel_unlocked (s : State) (m : MailboxId) : s.lockedBits m.sel = 0 := by
  cases m with
  | tqMb q => fin_cases q <;> rfl
  | _ => rfl

/-- _SEL has no rule of its own but that of its item, and is stored as any register. -/
theorem MailboxId.sel_plain (s : State) (m : MailboxId) (req : Requester) (old v new : Word) :
    s.writeJudged m.sel req old v new = .ok new ∧ s.store m.sel new = (s.wr m.sel new).reparity m.sel ∧
      s.selCause m.sel new = s.selRefused m new := by
  cases m with
  | tqMb q => fin_cases q <;> exact ⟨rfl, rfl, rfl⟩
  | _ => exact ⟨rfl, rfl, rfl⟩

theorem MailboxId.sel_wrote (s : State) (m : MailboxId) (w : Written) : s.wrote m.sel w = s.selWritten m w.new := by
  cases m with
  | tqMb q => fin_cases q <;> rfl
  | _ => rfl

theorem State.onBus_mbItem (s : State) (act : Nat) (m : MailboxId) (i : Nat) : (s.onBus act).mbItem m i = s.mbItem m i := by
  cases m <;> rfl

theorem State.selStored_mbItem (s : State) (act : Nat) (m : MailboxId) (v : Word) (i : Nat) :
    (s.selStored act m v).mbItem m i = s.mbItem m i := by
  cases m <;> rfl

theorem State.selStored_port (s : State) (act : Nat) (m : MailboxId) (v : Word) (p : Nat) :
    (s.selStored act m v).port p = s.port p := rfl

theorem State.setMb_port (s : State) (m : MailboxId) (b : Mb) (p : Nat) : (s.setMb m b).port p = s.port p := rfl

/-- A write to _SEL that names an item, and asks to apply only to a writable one, is taken (R33 cause 8). -/
theorem State.writeSel {s : State} {req : Requester} {m : MailboxId} {v : Word} {i : Island} {n : Nat} {w : Bool}
    (hopen : s.openFor (regAcc req m.sel v) i = true) (hitem : s.mbItem m (fieldOf v 0 17) = some (n, w))
    (hw : (v.getLsbD 17 && !w) = false) :
    ∃ mon, s.writeReg req m.sel v = ((s.selStored (busActivity (regAcc req m.sel v)) m v).selWritten m v).withMon mon := by
  obtain ⟨hown, hrow, hwrite, hres, hall, hw1c, hpair, hprbs, -, hsticky⟩ := MailboxId.sel_place m
  have hmerge (old : Word) : mergeWrite (rowOf m.sel) old v = v := by
    have hclr : (word 0 : Word) = 0#18 := rfl
    simp only [mergeWrite, hall, hw1c, hclr, BitVec.and_allOnes, BitVec.not_allOnes, BitVec.and_zero, BitVec.zero_or, BitVec.not_zero]
  refine State.writeReg_ok hopen hown hrow ?_ ?_
  · generalize busActivity (regAcc req m.sel v) = act
    obtain ⟨hjudged, hstore, hsel⟩ := MailboxId.sel_plain (s.onBus act) m req ((s.onBus act).current m.sel) v v
    have hnot : (s.onBus act).selCause m.sel v = false := by
      rw [hsel, State.selRefused, State.onBus_mbItem, hitem]
      exact hw
    rw [State.rowWrite_direct (by rw [hres]; simp) hwrite hpair, hmerge,
      State.storeWrite_ok (by rw [hsticky]; simp) (by rw [MailboxId.sel_unlocked]; simp) hnot hjudged hprbs, hstore,
      MailboxId.sel_wrote]
    rfl
  · exact State.selWritten_ready _ m v

/-- The two words that a mailbox's _SEL takes for an item (R40, R42). -/
theorem selWord_capture (item : BitVec 17) : fieldOf (word item.toNat) 0 17 = item.toNat ∧ (word item.toNat).getLsbD 17 = false := by
  have h : item.toNat < 2 ^ 18 := item.isLt.trans (by decide)
  have hn : (word item.toNat).toNat = item.toNat := by rw [word, BitVec.toNat_ofNat, Nat.mod_eq_of_lt h]
  refine ⟨?_, ?_⟩
  · rw [fieldOf, hn, pow_zero, Nat.div_one, Nat.mod_eq_of_lt item.isLt]
  · rw [← BitVec.testBit_toNat, hn, Nat.testBit_lt_two_pow item.isLt]

theorem selWord_apply (item : BitVec 17) : fieldOf (word (item.toNat + 131072)) 0 17 = item.toNat ∧
    (word (item.toNat + 131072)).getLsbD 17 = true := by
  have hlt := item.isLt
  have hn : (word (item.toNat + 131072)).toNat = item.toNat + 131072 := by
    rw [word, BitVec.toNat_ofNat, Nat.mod_eq_of_lt (by omega)]
  refine ⟨?_, ?_⟩
  · rw [fieldOf, hn]
    omega
  · rw [← BitVec.testBit_toNat, hn, Nat.testBit_eq_decide_div_mod_eq, decide_eq_true_eq]
    omega

/-! ### The claims -/

theorem State.captureDone_of_capturing {s : State} {m : MailboxId} {ws : List Word} (h : (s.mb m).capturing = some ws) :
    s.captureDone m = s.setMb m { s.mb m with
      capturing := none, valid := true, w0 := wordAt ws 0, w1 := wordAt ws 1, w2 := wordAt ws 2 } := by
  rw [State.captureDone, h]

/-- What the read of a word leaves: its answer, and VALID cleared by the last word of the width (R41). -/
theorem State.mbWordRead_valid (s : State) (m : MailboxId) (k : Nat) :
    ((s.mbWordRead m k).2.mb m).valid = ((s.mb m).valid && decide (k + 1 ≠ (s.mb m).width)) := by
  simp only [State.mbWordRead]
  split
  next hv =>
    rw [Bool.not_eq_true_eq_eq_false] at hv
    simp [hv]
  next hv =>
    dsimp only
    split
    next hk => simp [State.setMb_mb_self, hk]
    next hk => simp [hk]

theorem State.mbWordRead_word {s t : State} {m : MailboxId} (h : t.mb m = s.mb m) (k : Nat) :
    (t.mbWordRead m k).1 = (s.mbWordRead m k).1 := by
  simp only [State.mbWordRead, h]
  split <;> rfl

/-- The read of a word touches its slot only. -/
theorem State.mbWordRead_state (s : State) (m : MailboxId) (k : Nat) : ∃ x, (s.mbWordRead m k).2 = { s with mbs := x } := by
  unfold State.mbWordRead
  dsimp only
  split
  · exact ⟨_, rfl⟩
  · dsimp only
    split
    · exact ⟨_, rfl⟩
    · exact ⟨_, rfl⟩

/-- The read of a register at its own offset. -/
theorem State.readReg_ok {s : State} {req : Requester} {k : Nat} {i : Island} {x : Word × State}
    (hopen : s.openFor (readAcc req k) i = true)
    (h : ownOffset k) (hr : regAt (k / 65536) (k % 65536) = .reg (rowOf k))
    (hx : (s.onBus (busActivity (readAcc req k))).rowRead (rowOf k) k req = x) :
    s.readReg req k = x.2.answered false (readAcc req k) x.1 false := by
  have hkey : accKey (readAcc req k) = k := accKey_own rfl h
  have hb : accBlk (readAcc req k) ≤ 0x13 := accBlk_of_accKey (by rw [hkey]; exact h.1)
  have hrow : regAt (accBlk (readAcc req k)) (accOff (readAcc req k) % 0x4000) = .reg (rowOf k) :=
    regAt_of_accKey hb (by rw [hkey, hr])
  exact State.regAccess_read (a := readAcc req k) hopen hb hrow (by rw [hkey]; exact hx)

theorem State.readReg_mbWord {s : State} {req : Requester} {m : MailboxId} {k : Fin 3} {i : Island}
    (hopen : s.openFor (readAcc req (m.sel + 8 + 4 * k.val)) i = true) :
    Answered s (s.readReg req (m.sel + 8 + 4 * k.val)) (readAcc req (m.sel + 8 + 4 * k.val)) (s.mbWordRead m k.val).1 ∧
      ((s.readReg req (m.sel + 8 + 4 * k.val)).mb m).valid = ((s.mb m).valid && decide (k.val + 1 ≠ (s.mb m).width)) := by
  obtain ⟨hown, hrow, hpair, hat⟩ := MailboxId.word_place m k
  generalize m.sel + 8 + 4 * k.val = reg at *
  rw [State.readReg_ok hopen hown hrow (State.rowRead_word hpair hat)]
  have hflr := State.openFor_flr hopen
  generalize readAcc req reg = a at *
  obtain ⟨x, hx⟩ := (s.onBus (busActivity a)).mbWordRead_state m k.val
  have hvalid := (s.onBus (busActivity a)).mbWordRead_valid m k.val
  have hword : ((s.onBus (busActivity a)).mbWordRead m k.val).1 = (s.mbWordRead m k.val).1 :=
    State.mbWordRead_word (s := s) (t := s.onBus (busActivity a)) (m := m) rfl k.val
  rw [hx] at hvalid ⊢
  rw [hword]
  exact ⟨State.answered_read rfl rfl rfl rfl hflr,
    (congrArg (fun y => (Tab.get {} y m.idx).valid) (State.answered_keeps _ _ _ _ _).mbs).trans hvalid⟩

theorem mailboxCaptureTakesItsItem : Claims.MailboxCaptureTakesItsItem := by
  refine ⟨?_, ?_, ?_⟩
  · intro s req m item n w hopen hitem
    obtain ⟨hfield, hbit⟩ := selWord_capture item
    generalize hv : word item.toNat = v at hfield hbit hopen
    rw [← hfield] at hitem ⊢
    obtain ⟨mon, hs⟩ := State.writeSel hopen hitem (by rw [hbit]; rfl)
    generalize busActivity (regAcc req m.sel v) = act at hs
    have hitem' : (s.selStored act m v).mbItem m (fieldOf v 0 17) = some (n, w) := by
      rw [State.selStored_mbItem, hitem]
    rw [State.selWritten_capture _ hbit hitem', State.selStored_applyDone, State.selStored_beforeCapture,
      State.selStored_mbCapture] at hs
    refine ⟨s.writeReg req m.sel v, by rw [← hv]; rfl, ?_⟩
    dsimp only
    rw [hs, State.withMon_mb, State.setMb_mb_self]
    exact ⟨rfl, rfl, rfl, rfl⟩
  · intro s m ws hws
    refine ⟨_, rfl, ?_⟩
    dsimp only
    rw [State.captureDone_of_capturing hws, State.setMb_mb_self]
    exact ⟨rfl, rfl, rfl, rfl, rfl, fun _ _ => rfl, fun _ => rfl, rfl⟩
  · intro s req m k hopen
    obtain ⟨hans, hvalid⟩ := State.readReg_mbWord hopen
    refine ⟨_, rfl, (congrArg (Answered s _ _) ?_).mp hans, hvalid⟩
    simp only [State.mbWordRead]
    cases (s.mb m).valid <;> rfl

theorem mailboxApplyWritesItsItem : Claims.MailboxApplyWritesItsItem := by
  refine ⟨?_, ?_⟩
  · intro s req m item n hopen hitem
    obtain ⟨hfield, hbit⟩ := selWord_apply item
    generalize hv : word (item.toNat + 131072) = v at hfield hbit hopen
    rw [← hfield] at hitem ⊢
    obtain ⟨mon, hs⟩ := State.writeSel hopen hitem (by rw [hbit]; rfl)
    generalize busActivity (regAcc req m.sel v) = act at hs
    have hitem' : (s.selStored act m v).mbItem m (fieldOf v 0 17) = some (n, true) := by
      rw [State.selStored_mbItem, hitem]
    have hslot : (s.selStored act m v).mb m = s.mb m := rfl
    rw [State.selWritten_apply _ hbit hitem', hslot, State.selStored_applyDone] at hs
    refine ⟨s.writeReg req m.sel v, by rw [← hv]; rfl, ?_⟩
    dsimp only
    rw [hs, State.withMon_mb, State.setMb_mb_self]
    refine ⟨rfl, rfl, fun q i ws hm _ hpending => ?_⟩
    subst hm
    rw [State.withMon_port, State.setMb_port, State.selStored_port]
    exact s.applyDone_offset hpending
  · intro s m i ws happ
    refine ⟨s.applyDone m, rfl, ?_⟩
    have hslot : (s.applyDone m).mb m = { (s.mbApply m i ws).mb m with applying := none, done := true } := by
      rw [s.applyDone_of_pending happ, State.setMb_mb_self]
    dsimp only
    rw [hslot]
    refine ⟨rfl, rfl, fun q hm _ => ?_⟩
    subst hm
    exact s.applyDone_offset happ

/-- Settles O3: an apply, a capture and the write of their own _SEL do not see each other. -/
theorem mailboxesMoveTheirItems : Obligations.MailboxesMoveTheirItems :=
  ⟨mailboxCaptureTakesItsItem, mailboxApplyWritesItsItem⟩

end Sys2Proof.Machine
end

section
/-!
PROOFS. The parity scrub (R36, R37): the parity of a word of the CAN buffer window does not stand in the register file.
-/

namespace Sys2Proof.Machine
open Sys2Proof.Claims

/-- FLD is ON and the scrub stands at word 0 of the CAN buffer window, whose buffer holds an upset parity bit. The window's own place
in the register file is untouched, since a buffer's words and their parity stand in the FLD island's memory (R386). -/
def windowUpset : State :=
  { ({} : State).setIsland .fld { power := .on } with
    scrub := some (Island.fld.idx, 45)
    fb := { txbPar := [(txbIndex 0 0 0, true)] } }

/-- The scrub's next register is the window's word, and PLN's clock and the register bus let it be checked. -/
theorem windowUpset_scrubFrom : windowUpset.scrubFrom Island.fld.idx 45 = some (.fld, 45, Reg.FB_TXB_W 0) ∧
    windowUpset.stopped .pln = false ∧ (windowUpset.busGrant 14).isSome = true := by
  decide +kernel

/-- In the register file the value and the parity of the window's word agree, … -/
theorem windowUpset_parityOf :
    parityBit (rowOf (Reg.FB_TXB_W 0)) (windowUpset.rd (Reg.FB_TXB_W 0)) = windowUpset.parityOf (Reg.FB_TXB_W 0) := by
  decide +kernel

/-- … but the check goes by the word that the window shows, finds the upset and counts it. -/
theorem windowUpset_scrubGrant_parCnt :
    windowUpset.scrubGrant.rd Reg.PLN_PAR_CNT ≠ windowUpset.rd Reg.PLN_PAR_CNT := by
  decide +kernel

/-- Refutes O7: SCRUB_REGISTER_CHECK judges a word of the CAN buffer window by the buffer's own parity bit, while
`Claims.ScrubFindsMismatches` judges it by the register file; with an upset buffer the statement has no register change, but the
mismatch is counted in PLN_PAR_CNT. -/
theorem not_parityChannelsAndTime : ¬ Obligations.ParityChannelsAndTime := by
  unfold Obligations.ParityChannelsAndTime
  rintro ⟨hscrub, -⟩
  obtain ⟨hfrom, hruns, hbus⟩ := windowUpset_scrubFrom
  obtain ⟨t, ht, ⟨hregs, -, -⟩, -⟩ :=
    (hscrub windowUpset _ 45 45 (Reg.FB_TXB_W 0) .fld rfl hfrom hruns hbus).1 windowUpset_parityOf
  cases ht
  exact windowUpset_scrubGrant_parCnt (hregs Reg.PLN_PAR_CNT rfl)

end Sys2Proof.Machine
end

section
/-!
PROOFS. What reset leaves (R60, R84, R127, R128).
-/

namespace Sys2Proof.Machine

theorem State.reset_rd (k : Nat) : State.reset.rd k = resetVal k := rfl

theorem State.reset_island_power (i : Island) : (State.reset.island i).power = if i = .pln then .on else .gated := rfl

/-- Settles O58: at reset every table is empty, so an entry of it reads as its default. -/
theorem resetLeavesTheMachineEmpty : Obligations.ResetLeavesTheMachineEmpty := by
  unfold Obligations.ResetLeavesTheMachineEmpty
  refine ⟨rfl, rfl, rfl, rfl, fun k => ⟨State.reset_rd k, rfl⟩, State.reset_island_power, fun _ => ⟨rfl, rfl⟩, fun _ => rfl, fun _ => rfl,
    rfl, rfl, ?_, fun _ => ⟨rfl, rfl⟩⟩
  decide

end Sys2Proof.Machine
end

section
/-!
PROOFS. Fields and bits of a word, and of the registers of a state, after one of them has been written (R27).
-/

namespace Sys2Proof.Machine

/-! ### Words -/

theorem getLsbD_withField (v : Word) (lo w n b : Nat) :
    (withField v lo w n).getLsbD b =
      if lo ≤ b ∧ b < lo + w ∧ b < 18 then n.testBit (b - lo) else v.getLsbD b := by
  by_cases hb : b < 18
  · simp only [withField, BitVec.getLsbD_or, BitVec.getLsbD_and, BitVec.getLsbD_not, BitVec.getLsbD_ofNat, hb, decide_true,
      Bool.true_and, Nat.testBit_mul_two_pow, Nat.testBit_two_pow_sub_one, Nat.testBit_mod_two_pow]
    by_cases hlo : lo ≤ b
    · by_cases hw : b < lo + w
      · have : b - lo < w := by omega
        simp [hlo, hw, this]
      · have : ¬b - lo < w := by omega
        simp [hlo, hw, this]
    · simp [hlo]
  · rw [if_neg (fun ⟨_, _, hlt⟩ => hb hlt), BitVec.getLsbD_of_ge _ _ (by omega), BitVec.getLsbD_of_ge _ _ (by omega)]

theorem testBit_fieldOf (v : Word) (lo w j : Nat) : (fieldOf v lo w).testBit j = (decide (j < w) && v.getLsbD (lo + j)) := by
  rw [fieldOf, Nat.testBit_mod_two_pow, ← Nat.shiftRight_eq_div_pow, Nat.testBit_shiftRight, BitVec.testBit_toNat]

theorem fieldOf_withField_self {v : Word} {lo w n : Nat} (h : lo + w ≤ 18) : fieldOf (withField v lo w n) lo w = n % 2 ^ w := by
  apply Nat.eq_of_testBit_eq
  intro j
  rw [testBit_fieldOf, getLsbD_withField, Nat.testBit_mod_two_pow]
  by_cases hj : j < w
  · rw [if_pos (by omega), Nat.add_sub_cancel_left]
  · simp [hj]

theorem fieldOf_withField_of_disjoint {v : Word} {lo w n lo' w' : Nat} (h : lo' + w' ≤ lo ∨ lo + w ≤ lo') :
    fieldOf (withField v lo w n) lo' w' = fieldOf v lo' w' := by
  apply Nat.eq_of_testBit_eq
  intro j
  rw [testBit_fieldOf, testBit_fieldOf, getLsbD_withField]
  by_cases hj : j < w'
  · rw [if_neg (by omega)]
  · simp [hj]

theorem getLsbD_withField_bit {v : Word} {b : Nat} {x : Bool} (hb : b < 18) (c : Nat) :
    (withField v b 1 (flag x)).getLsbD c = if c = b then x else v.getLsbD c := by
  split
  case isTrue h => rw [h, getLsbD_withField_flag _ _ hb]
  case isFalse h => rw [getLsbD_withField, if_neg (by omega)]

/-! ### Registers -/

section
variable {s : State} {k lo w n b : Nat} {x : Bool}

theorem State.setFld_fld_self (h : lo + w ≤ 18) : (s.setFld k lo w n).fld k lo w = n % 2 ^ w := by
  rw [State.fld, State.setFld_rd_self, fieldOf_withField_self h]

theorem State.setFld_fld_of_disjoint {lo' w' : Nat} (h : lo' + w' ≤ lo ∨ lo + w ≤ lo') :
    (s.setFld k lo w n).fld k lo' w' = s.fld k lo' w' := by
  rw [State.fld, State.setFld_rd_self, fieldOf_withField_of_disjoint h, State.fld]

theorem State.setBit_bit_self (hb : b < 18) : (s.setBit k b x).bit k b = x := by
  rw [State.bit, State.setBit_rd_self, getLsbD_withField_flag _ _ hb]

theorem State.setBit_bit_of_ne {c : Nat} (hb : b < 18) (h : c ≠ b) : (s.setBit k b x).bit k c = s.bit k c := by
  rw [State.bit, State.setBit_rd_self, getLsbD_withField_bit hb, if_neg h, State.bit]

theorem State.setBit_bit_other {j c : Nat} (h : j ≠ k) : (s.setBit k b x).bit j c = s.bit j c := by
  rw [State.bit, State.setBit_rd_ne _ h, State.bit]

theorem State.setBit_fld_other {j : Nat} (h : j ≠ k) : (s.setBit k b x).fld j lo w = s.fld j lo w := by
  rw [State.fld, State.setBit_rd_ne _ h, State.fld]

theorem State.wr_fld_self {v : Word} : (s.wr k v).fld k lo w = fieldOf v lo w := by rw [State.fld, State.wr_rd_self]

theorem State.wr_fld_other {j : Nat} {v : Word} (h : j ≠ k) : (s.wr k v).fld j lo w = s.fld j lo w := by
  rw [State.fld, State.wr_rd_ne _ h, State.fld]

theorem State.wr_bit_self {v : Word} : (s.wr k v).bit k b = v.getLsbD b := by rw [State.bit, State.wr_rd_self]

theorem State.wr_bit_other {j : Nat} {v : Word} (h : j ≠ k) : (s.wr k v).bit j b = s.bit j b := by
  rw [State.bit, State.wr_rd_ne _ h, State.bit]
end

end Sys2Proof.Machine
end

section
/-!
PROOFS. What the report of an event leaves of the islands, beside the registers (R64, R66, R231), and what the refusal of an access
leaves (R33, R62, R67).
-/

namespace Sys2Proof.Machine
open Sys2Proof.Claims

/-! ### Rest

An event may wake the queue island or the host island and may be parked; a step of the sequencer may begin. Beyond that no island
moves, and nothing that a wake or a delivery takes along comes to stand (`calm`). -/

/-- An island but for what a wake cause and the sequencer set. -/
def IslSt.standing (x : IslSt) : IslSt := { x with waking := false, cause := false, seq := none }

/-- All that is parked for the island is events of the device. -/
def OnlyEvents (i : Island) (s : State) : Prop := ∀ e ∈ s.wakeBuf, e.1 = i → ∃ src, src < 576 ∧ e.2 = .event src

structure Rests (z s : State) : Prop where
  isl : ∀ i, (s.island i).standing = (z.island i).standing
  awake : ∀ i, (z.island i).power = .on → (s.island i).waking = (z.island i).waking
  quiet : calm z = true → calm s = true
  mon : z.mon.running = 0 → s.mon.running = 0
  jobs : z.sat.nonPosted = [] → s.sat.nonPosted = []
  waiters : s.waiters = z.waiters
  parked : ∀ i, OnlyEvents i z → OnlyEvents i s

theorem calm_iff {s : State} : calm s = true ↔
    s.arm.run = none ∧ s.mon.running = 0 ∧ s.nrg.ready = [] ∧ s.sat.toHost = [] ∧ s.sat.splits = [] ∧ s.sat.nonPosted = [] := by
  simp only [calm, Bool.and_eq_true, decide_eq_true_eq, Option.isNone_iff_eq_none, and_assoc]

theorem calm_congr {s t : State} (h1 : t.arm = s.arm) (h2 : t.mon.running = s.mon.running) (h3 : t.nrg.ready = s.nrg.ready)
    (h4 : t.sat = s.sat) : calm t = calm s := by
  rw [calm, calm, h1, h2, h3, h4]

namespace Rests

variable {z s : State}

theorem refl (s : State) : Rests s s := ⟨fun _ => rfl, fun _ _ => rfl, id, id, id, rfl, fun _ => id⟩

theorem power (h : Rests z s) (i : Island) : (s.island i).power = (z.island i).power := (congrArg IslSt.power (h.isl i) :)
theorem drain (h : Rests z s) (i : Island) : (s.island i).drain = (z.island i).drain := (congrArg IslSt.drain (h.isl i) :)
theorem force (h : Rests z s) (i : Island) : (s.island i).force = (z.island i).force := (congrArg IslSt.force (h.isl i) :)
theorem lost (h : Rests z s) (i : Island) : (s.island i).lost = (z.island i).lost := (congrArg IslSt.lost (h.isl i) :)
theorem broughtUp (h : Rests z s) (i : Island) : (s.island i).broughtUp = (z.island i).broughtUp :=
  (congrArg IslSt.broughtUp (h.isl i) :)

theorem trans {t : State} (h : Rests z s) (g : Rests s t) : Rests z t :=
  ⟨fun i => (g.isl i).trans (h.isl i), fun i hi => (g.awake i ((h.power i).trans hi)).trans (h.awake i hi),
    fun hz => g.quiet (h.quiet hz), fun hz => g.mon (h.mon hz), fun hz => g.jobs (h.jobs hz), g.waiters.trans h.waiters,
    fun i hz => g.parked i (h.parked i hz)⟩

/-- An update that moves no island and leaves the traffic at the gates; nothing that `calm` names comes to stand. -/
theorem quieted {t : State} (h : Rests z s) (hq : calm s = true → calm t = true) (h1 : t.isl = s.isl := by rfl)
    (h2 : t.waiters = s.waiters := by rfl) (h3 : t.wakeBuf = s.wakeBuf := by rfl)
    (hm : s.mon.running = 0 → t.mon.running = 0 := by exact id) (hj : s.sat.nonPosted = [] → t.sat.nonPosted = [] := by exact id) :
    Rests z t := by
  have hisl (i : Island) : t.island i = s.island i := congrArg (Tab.get (islDefault i) · i.idx) h1
  exact h.trans ⟨fun i => by rw [hisl], fun i _ => by rw [hisl], hq, hm, hj, h2, fun i hs e he => hs e (h3 ▸ he)⟩

/-- An update of other parts of the state. -/
theorem upd {t : State} (h : Rests z s) (h1 : t.isl = s.isl := by rfl) (h2 : t.waiters = s.waiters := by rfl)
    (h3 : t.wakeBuf = s.wakeBuf := by rfl) (h4 : t.arm = s.arm := by rfl) (h5 : t.mon.running = s.mon.running := by rfl)
    (h6 : t.nrg.ready = s.nrg.ready := by rfl) (h7 : t.sat = s.sat := by rfl) : Rests z t :=
  h.quieted (fun hs => (calm_congr h4 h5 h6 h7).trans hs) h1 h2 h3 h5.trans (congrArg SatSt.nonPosted h7).trans

theorem foldl {α : Type} {f : State → α → State} (l : List α) (h : Rests z s) (hf : ∀ t a, Rests z t → Rests z (f t a)) :
    Rests z (l.foldl f s) :=
  List.foldlRecOn l f (motive := Rests z) h fun t ht a _ => hf t a ht

theorem ite {a b : State} {c : Prop} [Decidable c] (ha : Rests z a) (hb : Rests z b) : Rests z (if c then a else b) := by
  split
  · exact ha
  · exact hb

theorem setIsland {i : Island} {x : IslSt} (h : Rests z s) (hx : x.standing = (s.island i).standing)
    (ha : (s.island i).power = .on → x.waking = (s.island i).waking) : Rests z (s.setIsland i x) := by
  refine h.trans ⟨fun j => ?_, fun j hj => ?_, id, id, id, rfl, fun _ => id⟩
  · by_cases hji : j = i
    · rw [hji, State.setIsland_island_self, hx]
    · rw [State.setIsland_island_ne _ hji]
  · by_cases hji : j = i
    · subst hji
      rw [State.setIsland_island_self, ha hj]
    · rw [State.setIsland_island_ne _ hji]

/-- A wake cause sets WAKE of a sleeping island, or is kept while the island drains (R64, R68). -/
theorem wake {i : Island} (h : Rests z s) : Rests z (s.wake i) := by
  unfold State.wake
  dsimp only
  split
  · exact h.setIsland rfl fun _ => rfl
  · split
    · exact h
    · split
      case h_1 hp => exact h.setIsland rfl fun hon => absurd (hp.symm.trans hon) (by decide)
      case h_2 hp => exact h.setIsland rfl fun hon => absurd (hp.symm.trans hon) (by decide)
      case h_3 => exact h

/-- A step of the sequencer begins (R82). -/
theorem kickSeq {i : Island} (h : Rests z s) : Rests z (s.kickSeq i) := by
  unfold State.kickSeq
  dsimp only
  split
  · split
    · exact h
    · exact h.setIsland rfl fun _ => rfl
  · exact h

theorem park_event {i : Island} {src : Nat} (h : Rests z s) (hs : src < 576) :
    Rests z { s with wakeBuf := s.wakeBuf ++ [(i, .event src)] } := by
  refine h.trans ⟨fun _ => rfl, fun _ _ => rfl, fun hs => (calm_congr rfl rfl rfl rfl).trans hs, id, id, rfl,
    fun j hj e he hej => ?_⟩
  rcases List.mem_append.1 he with hold | hnew
  · exact hj e hold hej
  · exact ⟨src, hs, congrArg Prod.snd (List.mem_singleton.1 hnew)⟩

end Rests

/-! ### The report of an event -/

/-- `t` rests on `s`, and of its registers only the event registers and the log of refused accesses may differ. -/
structure Settled (z s : State) : Prop extends Rests z s where
  rd : ∀ k, refusalReg k = false → s.rd k = z.rd k
  sram : s.sram = z.sram
  nrg : s.nrg = z.nrg
  arm : s.arm = z.arm
  pairs : s.pairs = z.pairs
  fpwr : s.fpwr = z.fpwr
  clk : s.clk = z.clk
  pending : s.pending = z.pending

theorem refusalReg_of_eventReg {k : Nat} (h : eventReg k = true) : refusalReg k = true := by
  rw [refusalReg, h, Bool.true_or]

namespace Settled

variable {z s : State}

theorem refl (s : State) : Settled s s := ⟨.refl s, fun _ _ => rfl, rfl, rfl, rfl, rfl, rfl, rfl, rfl⟩

/-- A change of the islands that leaves every other part of the state. -/
theorem moved {t : State} (h : Settled z s) (hr : Rests s t) (h1 : t.regs = s.regs := by rfl) (h2 : t.sram = s.sram := by rfl)
    (h3 : t.nrg = s.nrg := by rfl) (h4 : t.arm = s.arm := by rfl) (h5 : t.pairs = s.pairs := by rfl) (h6 : t.fpwr = s.fpwr := by rfl)
    (h7 : t.clk = s.clk := by rfl) (h8 : t.pending = s.pending := by rfl) : Settled z t :=
  ⟨h.toRests.trans hr, fun k hk => (State.rd_of_regs h1 k).trans (h.rd k hk), h2.trans h.sram, h3.trans h.nrg, h4.trans h.arm,
    h5.trans h.pairs, h6.trans h.fpwr, h7.trans h.clk, h8.trans h.pending⟩

theorem wr {k : Nat} {v : Word} (h : Settled z s) (hk : refusalReg k = true) : Settled z (s.wr k v) :=
  ⟨h.toRests.upd, fun j hj => (State.wr_rd_ne s (fun e => by rw [e, hk] at hj; cases hj) v).trans (h.rd j hj), h.sram, h.nrg, h.arm,
    h.pairs, h.fpwr, h.clk, h.pending⟩

theorem setFld {k lo w n : Nat} (h : Settled z s) (hk : refusalReg k = true) : Settled z (s.setFld k lo w n) := h.wr hk

theorem setBit {k b : Nat} {x : Bool} (h : Settled z s) (hk : refusalReg k = true) : Settled z (s.setBit k b x) := h.wr hk

theorem bump {k : Nat} (h : Settled z s) (hk : refusalReg k = true) : Settled z (s.bump k) := h.wr hk

theorem ite {a b : State} {c : Prop} [Decidable c] (ha : Settled z a) (hb : Settled z b) : Settled z (if c then a else b) := by
  split
  · exact ha
  · exact hb

theorem foldl {α : Type} {f : State → α → State} (l : List α) (h : Settled z s) (hf : ∀ t a, Settled z t → Settled z (f t a)) :
    Settled z (l.foldl f s) :=
  List.foldlRecOn l f (motive := Settled z) h fun t ht a _ => hf t a ht

theorem wake {i : Island} (h : Settled z s) : Settled z (s.wake i) := by
  have hr := (Rests.refl s).wake (i := i)
  revert hr
  unfold State.wake
  dsimp only
  split
  · exact fun hr => h.moved hr
  · split
    · exact fun _ => h
    · split
      · exact fun hr => h.moved hr
      · exact fun hr => h.moved hr
      · exact fun _ => h

theorem upd {t : State} (h : Settled z s) (h1 : t.isl = s.isl := by rfl) (h2 : t.waiters = s.waiters := by rfl)
    (h3 : t.wakeBuf = s.wakeBuf := by rfl) (h4 : t.arm = s.arm := by rfl) (h5 : t.mon.running = s.mon.running := by rfl)
    (h6 : t.nrg = s.nrg := by rfl) (h7 : t.sat = s.sat := by rfl) (h8 : t.regs = s.regs := by rfl) (h9 : t.sram = s.sram := by rfl)
    (h10 : t.pairs = s.pairs := by rfl) (h11 : t.fpwr = s.fpwr := by rfl) (h12 : t.clk = s.clk := by rfl)
    (h13 : t.pending = s.pending := by rfl) : Settled z t :=
  h.moved ((Rests.refl s).upd h1 h2 h3 h4 h5 (congrArg NrgSt.ready h6) h7) h8 h9 h6 h4 h10 h11 h12 h13

theorem send {o : Output} (h : Settled z s) : Settled z (s.send o) := by
  unfold State.send
  dsimp only
  exact .ite h (upd (.ite (h.setBit (k := Reg.HST_LINK_STS) (by decide)) h))

theorem toRecovery (h : Settled z s) : Settled z s.toRecovery := by
  have ht := ((h.setFld (k := Reg.HST_LINK_STS) (lo := 0) (w := 3) (n := 4) (by decide)).setFld (k := Reg.HST_LINK_STS) (lo := 13)
    (w := 3) (n := 0) (by decide)).bump (k := Reg.HST_RECOV_CNT) (by decide)
  exact ht.upd

theorem leaveL1 (h : Settled z s) : Settled z s.leaveL1 := .ite h.wake.toRecovery h

theorem sendMessage {v : Nat} (h : Settled z s) : Settled z (s.sendMessage v) := by
  unfold State.sendMessage
  split
  · exact .ite h.upd.leaveL1 h.upd.send
  · exact .ite h.upd.leaveL1 h.upd.send
  · exact h

theorem pmeFor {v : Nat} (h : Settled z s) : Settled z (s.pmeFor v) := .ite h.send h

theorem signalVector {v : Nat} (h : Settled z s) : Settled z (s.signalVector v) :=
  .ite h.pmeFor.sendMessage (.ite h.pmeFor.upd.sendMessage h.pmeFor.upd)

theorem takeEvent {src : Nat} (h : Settled z s) (hs : src < 576) : Settled z (s.takeEvent src) := by
  have hreg : eventReg (Reg.EVT_PEND (src / 18)) = true := by
    simp only [eventReg, Reg.EVT_PEND, Bool.or_eq_true, decide_eq_true_eq]
    omega
  have hset := h.setBit (b := src % 18) (x := true) (refusalReg_of_eventReg hreg)
  exact .ite h (.ite hset hset.signalVector)

theorem monEvent {src : Nat} (h : Settled z s) : Settled z (s.monEvent src) :=
  .ite (.ite h.upd (h.bump (by decide))) h

/-- An event is reported (R64, R66, R231, R438). -/
theorem raise {src : Nat} (h : Settled z s) (hs : src < 576) : Settled z (s.raise src) := by
  have hm := h.monEvent (src := src)
  have hpark := hm.moved ((Rests.refl _).park_event (i := .que) hs)
  exact .ite (.ite hpark.wake (.ite hm (hm.bump (by decide)))) (.ite (hm.takeEvent hs) hm)

/-- An event's own register is set and the event reported. -/
theorem raiseBit {reg b src : Nat} (h : Settled z s) (hk : refusalReg reg = true) (hs : src < 576) :
    Settled z (s.raiseBit reg b src) := (h.setBit hk).raise hs

end Settled

namespace Rests

variable {z s : State}

theorem raise {src : Nat} (h : Rests z s) (hs : src < 576) : Rests z (s.raise src) := h.trans ((Settled.refl s).raise hs).toRests

theorem raiseBit {reg b src : Nat} (h : Rests z s) (hs : src < 576) : Rests z (s.raiseBit reg b src) :=
  (h.upd (t := s.setBit reg b true)).raise hs

end Rests

end Sys2Proof.Machine
end

section
/-!
PROOFS. The refusal of an access changes the log and what reports it, and the end of a gated island's traffic no island (R33, R62, R67).
-/

namespace Sys2Proof.Machine
open Sys2Proof.Claims

namespace Settled

variable {z s : State}

theorem setCfg {d : Nat} {v : Dword} (h : Settled z s) : Settled z (s.setCfg d v) := h.upd

theorem drew (h : Settled z s) : Settled z s.drew := h.upd

theorem aerFirst {b : Nat} (h : Settled z s) : Settled z (s.aerFirst b) := by
  have hlog := (h.setCfg (d := 70) (v := (s.cfgD 70 &&& ~~~(31 : Dword)) ||| BitVec.ofNat 32 b)).foldl (List.range 4)
    (f := fun t k => t.setCfg (71 + k) (BitVec.ofNat 32 (Config.freeNat (t.freeIdx + k)))) fun _ _ ht => ht.setCfg
  exact .ite h.setCfg hlog.drew.drew.drew.drew

theorem aer {b : Nat} {advisory : Bool} (h : Settled z s) : Settled z (s.aer b advisory) := by
  have hfirst : Settled z (if !(s.cfgD 66).getLsbD b && decide (s.cfgD 65 &&& ~~~(s.cfgD 66) = 0) then s.aerFirst b else s) :=
    .ite h.aerFirst h
  unfold State.aer
  exact (Settled.ite hfirst.setCfg.setCfg hfirst.setCfg).setCfg.setCfg

theorem logAccess {req : Requester} {addr cause : Nat} {ca : Bool} (h : Settled z s) : Settled z (s.logAccess req addr ca cause) :=
  .ite (((h.setBit (by decide)).wr (by decide)).wr (by decide)) (h.setBit (by decide))

theorem raiseCause {cause : Nat} (h : Settled z s) : Settled z (s.raiseCause cause) := by
  unfold State.raiseCause
  split
  · exact h.raise (by decide)
  · exact h.raise (by decide)
  · exact (h.bump (by decide)).raise (by decide)
  · exact h

theorem accessRefused {write : Bool} {a : RegAccess} {cause : Nat} (h : Settled z s) : Settled z (s.accessRefused write a cause) := by
  have hlog : Settled z (if s.stopped .pln then s else (s.logAccess a.req a.addr.toNat (causeCA cause) cause).raiseCause cause) :=
    .ite h h.logAccess.raiseCause
  exact .ite hlog.aer hlog

/-- An update after which no monitor command runs, or no more requests stand in the bridge. -/
theorem quieted {t : State} (h : Settled z s) (hq : calm s = true → calm t = true) (h1 : t.isl = s.isl := by rfl)
    (h2 : t.waiters = s.waiters := by rfl) (h3 : t.wakeBuf = s.wakeBuf := by rfl) (h4 : t.regs = s.regs := by rfl)
    (h5 : t.sram = s.sram := by rfl) (h6 : t.nrg = s.nrg := by rfl) (h7 : t.arm = s.arm := by rfl) (h8 : t.pairs = s.pairs := by rfl)
    (h9 : t.fpwr = s.fpwr := by rfl) (h10 : t.clk = s.clk := by rfl) (h11 : t.pending = s.pending := by rfl)
    (hm : s.mon.running = 0 → t.mon.running = 0 := by exact id) (hj : s.sat.nonPosted = [] → t.sat.nonPosted = [] := by exact id) :
    Settled z t :=
  h.moved ((Rests.refl s).quieted hq h1 h2 h3 hm hj) h4 h5 h6 h7 h8 h9 h10 h11

theorem monOut {cs : List Char} (h : Settled z s) : Settled z (s.monOut cs) := .ite h h.send

/-- A refusal line of the monitor ends its command (R437). -/
theorem monNo {line : List Char} (h : Settled z s) : Settled z (s.monNo line) := by
  have hout := ((h.foldl ["! ".toList ++ line] (f := State.monLine) fun _ _ ht => ht.monOut).monOut (cs := "> ".toList)).bump
    (k := Reg.MON_ERR_CNT) (by decide)
  refine (hout.quieted (hm := fun _ => rfl) fun hc => ?_).setBit (k := Reg.MON_STS) (by decide)
  obtain ⟨hrun, -, hwork⟩ := calm_iff.1 hc
  exact calm_iff.2 ⟨hrun, rfl, hwork⟩

theorem splitAnswer {m : Nat} {ans : Option (List SatWord)} (h : Settled z s) : Settled z (s.splitAnswer m ans) := by
  unfold State.splitAnswer
  split
  next => exact h
  next x hx =>
    refine h.quieted fun hc => ?_
    obtain ⟨-, -, -, -, hsplits, -⟩ := calm_iff.1 hc
    rw [State.splitOf, hsplits] at hx
    cases hx

theorem satLog {cause window requester : Nat} {addr : BitVec 22} (h : Settled z s) :
    Settled z (s.satLog cause window requester addr) :=
  h.quieted fun hc => calm_iff.2 (calm_iff.1 hc)

theorem raiseSat {k : Nat} (h : Settled z s) (hk : k < 56) : Settled z (s.raiseSat k) := h.raiseBit (by decide) (by omega)

/-- The answer to a refused access of each requester (R33, R420, R437). -/
theorem answerRefused {write : Bool} {a : RegAccess} {cause : Nat} (h : Settled z s) : Settled z (s.answerRefused write a cause) := by
  unfold State.answerRefused
  split
  · exact .ite h h.send
  · exact .ite h h.monNo
  · exact .ite (h.satLog.raiseSat (by decide)) h.satLog.splitAnswer
  · exact .ite (h.satLog.raiseSat (by decide)) h.satLog.splitAnswer

theorem refuseAccess {write : Bool} {a : RegAccess} {cause : Nat} (h : Settled z s) : Settled z (s.refuseAccess write a cause) :=
  h.accessRefused.answerRefused

theorem burstRefused {cause : Nat} (h : Settled z s) : Settled z (s.burstRefused cause) := h.drew.logAccess.raiseCause.aer

theorem jobReply {j : BridgeJob} {st : CplStatus} {data : List Dword} {poisoned : Bool} (h : Settled z s) :
    Settled z (s.jobReply j st data poisoned) := .ite h h.send

theorem endJobs (h : Settled z s) : Settled z s.endJobs := by
  have hnone : Settled z { s with sat := { s.sat with nonPosted := [] } } := h.quieted (hj := fun _ => rfl) fun hc => by
    obtain ⟨hrun, hmon, hready, hhost, hsplits, -⟩ := calm_iff.1 hc
    exact calm_iff.2 ⟨hrun, hmon, hready, hhost, hsplits, rfl⟩
  exact hnone.foldl _ fun _ _ ht => ht.aer.jobReply

end Settled

/-- The state without what is parked or waits for an island. -/
def State.withoutTraffic (s : State) (i : Island) : State :=
  { s with wakeBuf := s.wakeBuf.filter (fun e => !decide (e.1 = i)), waiters := s.waiters.filter fun w => !decide (w.isl = i) }

/-- The end of a gated island's traffic is refusals (R62). -/
theorem State.gatedTrafficEnd_settled (s : State) (i : Island) : Settled (s.withoutTraffic i) (s.gatedTrafficEnd i) := by
  have hparked := (Settled.refl (s.withoutTraffic i)).foldl (s.wakeBuf.filter fun e => decide (e.1 = i))
    (f := fun t e => match e.2 with
      | .write a _ => t.accessRefused true a 9
      | .burst .. => t.burstRefused 9
      | .event _ => t) fun t e ht => by
    split
    · exact ht.accessRefused
    · exact ht.burstRefused
    · exact ht
  have hwaited := hparked.foldl (s.waiters.filter fun w => decide (w.isl = i))
    (f := fun t w => (t.accessRefused w.write w.acc 9).answerRefused w.write w.acc 9) fun t w ht => ht.accessRefused.answerRefused
  exact .ite hwaited.endJobs hwaited

end Sys2Proof.Machine
end

section
/-!
PROOFS. Judging the crystal (R70 to R73).
-/

namespace Sys2Proof.Machine
open Sys2Proof.Claims

/-! ### The clocks' own state beside the registers -/

/-- The state with another record of the clocks. -/
def State.withClk (s : State) (c : ClkSt) : State := { s with clk := c }

section
variable (s : State) (c : ClkSt)
@[simp] theorem State.withClk_clk : (s.withClk c).clk = c := rfl
@[simp] theorem State.withClk_boot : (s.withClk c).boot = s.boot := rfl
@[simp] theorem State.withClk_rd (k : Nat) : (s.withClk c).rd k = s.rd k := rfl
@[simp] theorem State.withClk_fld (k lo w : Nat) : (s.withClk c).fld k lo w = s.fld k lo w := rfl
@[simp] theorem State.withClk_bit (k b : Nat) : (s.withClk c).bit k b = s.bit k b := rfl
end

section
variable (s : State)

theorem State.showSource_rd_ne {k : Nat} (h : k ≠ Reg.CLK_STS) : s.showSource.rd k = s.rd k := State.setBit_rd_ne _ h _ _

@[simp] theorem State.showSource_clk : s.showSource.clk = s.clk := rfl

theorem State.showSource_bit_ne {b : Nat} (h : b ≠ 4) : s.showSource.bit Reg.CLK_STS b = s.bit Reg.CLK_STS b :=
  State.setBit_bit_of_ne (by decide) h

/-- The source of the Plinth that CLK_STS shows (R75). -/
theorem State.showSource_bit_source : s.showSource.bit Reg.CLK_STS 4 =
    (s.bit Reg.CLK_CTL 0 || !(s.bit Reg.CLK_STS 0 || s.bit Reg.CLK_STS 1)) := State.setBit_bit_self (by decide)

/-- Once XTAL is judged stable, or in IRC mode, the source is the one that PLN_SRC selects (R72, R73). -/
theorem State.showSource_bit_selected (h : s.bit Reg.CLK_STS 0 = true ∨ s.bit Reg.CLK_STS 1 = true) :
    s.showSource.bit Reg.CLK_STS 4 = s.showSource.bit Reg.CLK_CTL 0 := by
  have hctl : s.showSource.bit Reg.CLK_CTL 0 = s.bit Reg.CLK_CTL 0 := State.setBit_bit_other (by decide)
  rw [hctl, State.showSource_bit_source]
  rcases h with h | h <;> simp [h]

/-! ### Series of gates -/

/-- A new series of gates starts with no gate counted, and with the REFCLK gate where REFCLK is seen. -/
theorem State.newSeries_judge : s.newSeries.fld Reg.CLK_JUDGE 0 4 = 0 ∧
    s.newSeries.fld Reg.CLK_JUDGE 4 2 = if s.boot.refclk then 3 else 0 := by
  simp only [State.newSeries, State.wr_fld_self]
  cases s.boot.refclk <;> decide

theorem State.newSeries_rd_ne {k : Nat} (h : k ≠ Reg.CLK_JUDGE) : s.newSeries.rd k = s.rd k := State.wr_rd_ne _ h _

/-- A failed REFCLK test restarts both tests (R71). -/
theorem State.refFailed_judge : s.refFailed.fld Reg.CLK_JUDGE 4 2 = 2 ∧ s.refFailed.fld Reg.CLK_JUDGE 0 4 = 0 ∧
    s.refFailed.clk.gateCounts = false ∧ s.refFailed.clk.lastRefCount = s.clk.lastRefCount := by
  refine ⟨?_, ?_, rfl, rfl⟩
  · exact (State.wr_fld_self).trans (by decide)
  · exact (State.wr_fld_self).trans (by decide)

/-! ### The end of a judging -/

/-- Both tests have passed, or the first alone where REFCLK was not seen (R72). -/
abbrev State.judgedStable (s : State) : Prop :=
  s.fld Reg.CLK_JUDGE 0 4 = 8 ∧ (s.clk.refInSeries = false ∨ s.fld Reg.CLK_JUDGE 4 2 = 1)

/-- XTAL_OK and IRC_MODE show a stable crystal; the end of a REJUDGE is an event (R72, R74). -/
def State.xtalShown (s : State) : State :=
  let t := (s.setBit Reg.CLK_STS 0 true).setBit Reg.CLK_STS 1 false
  if s.clk.rejudging then t.setBit Reg.CLK_EVT 1 true else t

theorem State.xtalShown_clk : s.xtalShown.clk = s.clk := by
  unfold State.xtalShown
  dsimp only
  split <;> rfl

theorem State.xtalShown_rd_ne {k : Nat} (h : k ≠ Reg.CLK_STS) (h' : k ≠ Reg.CLK_EVT) : s.xtalShown.rd k = s.rd k := by
  have hsts : ((s.setBit Reg.CLK_STS 0 true).setBit Reg.CLK_STS 1 false).rd k = s.rd k := by
    rw [State.setBit_rd_ne _ h, State.setBit_rd_ne _ h]
  unfold State.xtalShown
  dsimp only
  split
  · rw [State.setBit_rd_ne _ h', hsts]
  · exact hsts

theorem State.xtalShown_bits : s.xtalShown.bit Reg.CLK_STS 0 = true ∧ s.xtalShown.bit Reg.CLK_STS 1 = false := by
  have hsts : s.xtalShown.rd Reg.CLK_STS = ((s.setBit Reg.CLK_STS 0 true).setBit Reg.CLK_STS 1 false).rd Reg.CLK_STS := by
    unfold State.xtalShown
    dsimp only
    split
    · exact State.setBit_rd_ne _ (by decide) _ _
    · rfl
  rw [State.bit, State.bit, hsts]
  exact ⟨(State.setBit_bit_of_ne (by decide) (by decide)).trans (State.setBit_bit_self (by decide)), State.setBit_bit_self (by decide)⟩

theorem State.judgeDone_of_stable (h : s.judgedStable) : s.judgeDone =
    (s.xtalShown.withClk { s.xtalShown.clk with pllXtal := true, timebase := true, judgeAt := none, rejudging := false }).showSource :=
  if_pos h

theorem State.judgeDone_of_not_stable (h : ¬s.judgedStable) : s.judgeDone = s := if_neg h

/-- The counts and results of the tests stay as they are when the judging ends. -/
theorem State.judgeDone_keeps : s.judgeDone.rd Reg.CLK_JUDGE = s.rd Reg.CLK_JUDGE ∧
    s.judgeDone.clk.lastRefCount = s.clk.lastRefCount := by
  by_cases h : s.judgedStable
  · rw [s.judgeDone_of_stable h, State.showSource_rd_ne _ (by decide), State.withClk_rd, s.xtalShown_rd_ne (by decide) (by decide),
      State.showSource_clk, State.withClk_clk, s.xtalShown_clk]
    exact ⟨rfl, rfl⟩
  · rw [s.judgeDone_of_not_stable h]
    exact ⟨rfl, rfl⟩

theorem State.judgeDone_fld (lo w : Nat) : s.judgeDone.fld Reg.CLK_JUDGE lo w = s.fld Reg.CLK_JUDGE lo w :=
  congrArg (fieldOf · lo w) s.judgeDone_keeps.1

/-- What a stable crystal is shown as, and that the PLLs lock to it (R72). -/
theorem State.judgeDone_stable (h : s.judgedStable) :
    s.judgeDone.bit Reg.CLK_STS 0 = true ∧ s.judgeDone.bit Reg.CLK_STS 1 = false ∧ s.judgeDone.clk.pllXtal = true ∧
      s.judgeDone.clk.judgeAt = none ∧ s.judgeDone.bit Reg.CLK_STS 4 = s.judgeDone.bit Reg.CLK_CTL 0 := by
  obtain ⟨hok, hirc⟩ := s.xtalShown_bits
  rw [s.judgeDone_of_stable h]
  refine ⟨?_, ?_, rfl, rfl, State.showSource_bit_selected _ (.inl hok)⟩
  · rw [State.showSource_bit_ne _ (by decide), State.withClk_bit, hok]
  · rw [State.showSource_bit_ne _ (by decide), State.withClk_bit, hirc]

end

/-! ### The ends of the gates -/

section
variable {s : State} {n : Nat}

/-- A gate that ends within its window counts, one that ends outside restarts the series (R70). -/
theorem State.ircGate_eq (hj : s.clk.judgeAt ≠ none) (hrun : s.stopped .pln = false) (hc : s.clk.gateCounts = true)
    (hk : s.fld Reg.CLK_JUDGE 0 4 < 8) :
    s.ircGate n = if 24625 ≤ n ∧ n ≤ 25375 then (s.setFld Reg.CLK_JUDGE 0 4 (s.fld Reg.CLK_JUDGE 0 4 + 1)).judgeDone
      else s.newSeries := by
  have hjudge : s.clk.judgeAt.isNone = false := Option.isNone_eq_false_iff.2 (Option.isSome_iff_ne_none.2 hj)
  simp only [State.ircGate, hjudge, hrun, hc, if_neg (Nat.ne_of_lt hk), Bool.or_self, Bool.not_true, Bool.false_eq_true, if_false]

theorem State.ircGate_counts (hj : s.clk.judgeAt ≠ none) (hrun : s.stopped .pln = false) (hc : s.clk.gateCounts = true)
    (hk : s.fld Reg.CLK_JUDGE 0 4 < 8) :
    (s.ircGate n).fld Reg.CLK_JUDGE 0 4 = if 24625 ≤ n ∧ n ≤ 25375 then s.fld Reg.CLK_JUDGE 0 4 + 1 else 0 := by
  rw [State.ircGate_eq hj hrun hc hk]
  split
  · rw [State.judgeDone_fld, State.setFld_fld_self (by decide)]
    omega
  · rw [s.newSeries_judge.1]

/-- The REFCLK gate ends (R71). -/
theorem State.refGate_ends (h : s.refGateRuns = true) :
    (s.refGate n).clk.lastRefCount = BitVec.ofNat 36 n ∧
      (249925 ≤ n → n ≤ 250700 → (s.refGate n).fld Reg.CLK_JUDGE 4 2 = 1) ∧
      ((n < 249925 ∨ 250700 < n) →
        (s.refGate n).fld Reg.CLK_JUDGE 4 2 = 2 ∧ (s.refGate n).fld Reg.CLK_JUDGE 0 4 = 0 ∧ (s.refGate n).clk.gateCounts = false) := by
  have hgate : s.refGate n = if 249925 ≤ n ∧ n ≤ 250700 then
      ((s.withClk { s.clk with lastRefCount := BitVec.ofNat 36 n }).setFld Reg.CLK_JUDGE 4 2 1).judgeDone
      else (s.withClk { s.clk with lastRefCount := BitVec.ofNat 36 n }).refFailed := if_pos h
  rw [hgate]
  split
  case isTrue hn =>
    refine ⟨(State.judgeDone_keeps _).2, fun _ _ => ?_, fun hout => by omega⟩
    exact (State.judgeDone_fld _ _ _).trans (State.setFld_fld_self (by decide))
  case isFalse hn =>
    obtain ⟨hres, hcnt, hgates, hlast⟩ := (s.withClk { s.clk with lastRefCount := BitVec.ofNat 36 n }).refFailed_judge
    exact ⟨hlast, fun h1 h2 => absurd ⟨h1, h2⟩ hn, fun _ => ⟨hres, hcnt, hgates⟩⟩

end

/-- The judging has lasted 50 ms (R73). -/
theorem State.judgeOver_late {s : State} {a : Nat} (h : s.clk.judgeAt = some a) (hlate : a + 20000000 ≤ s.now) :
    s.judgeOver = ((((s.withClk { s.clk with judgeAt := none, rejudging := false }).setBit Reg.CLK_STS 1 true).showSource).raiseBit
      Reg.CLK_EVT 0 560) := by
  have hpassed : s.passed a (msTicks 50) = true := decide_eq_true hlate
  simp only [State.judgeOver, h, hpassed, if_true]
  rfl

/-- The events' reports leave the clocks and their registers. -/
theorem judgeOver_enters_irc {s : State} {a : Nat} (h : s.clk.judgeAt = some a) (hlate : a + 20000000 ≤ s.now) :
    s.judgeOver.clk.judgeAt = none ∧ s.judgeOver.bit Reg.CLK_STS 1 = true ∧ s.judgeOver.bit Reg.CLK_EVT 0 = true ∧
      s.judgeOver.bit Reg.CLK_STS 4 = s.judgeOver.bit Reg.CLK_CTL 0 ∧
      SameRegsBut s s.judgeOver (fun k => eventReg k || decide (k = Reg.CLK_STS) || decide (k = Reg.CLK_EVT)) := by
  rw [State.judgeOver_late h hlate]
  generalize ht : ((s.withClk { s.clk with judgeAt := none, rejudging := false }).setBit Reg.CLK_STS 1 true).showSource = t
  have hirc : t.bit Reg.CLK_STS 1 = true := by
    rw [← ht, State.showSource_bit_ne _ (by decide), State.setBit_bit_self (by decide)]
  have hsrc : t.bit Reg.CLK_STS 4 = t.bit Reg.CLK_CTL 0 := by
    rw [← ht]
    exact State.showSource_bit_selected _ (.inr (State.setBit_bit_self (by decide)))
  have hrest (k : Nat) (hk : k ≠ Reg.CLK_STS) : t.rd k = s.rd k := by
    rw [← ht, State.showSource_rd_ne _ hk, State.setBit_rd_ne _ hk, State.withClk_rd]
  have hraise := (Reported.refl (t.setBit Reg.CLK_EVT 0 true)).raise (src := 560) (by decide)
  have hclk := ((Settled.refl (t.setBit Reg.CLK_EVT 0 true)).raise (src := 560) (by decide)).clk
  have hsts := (hraise.rd Reg.CLK_STS (by decide)).trans (State.setBit_rd_ne _ (by decide) _ _)
  have hctl := (hraise.rd Reg.CLK_CTL (by decide)).trans (State.setBit_rd_ne _ (by decide) _ _)
  refine ⟨?_, ?_, ?_, ?_, fun k hk => ?_, fun w => ?_, ?_⟩
  · exact (congrArg ClkSt.judgeAt hclk).trans (by rw [← ht]; rfl)
  · exact (congrArg (·.getLsbD 1) hsts).trans hirc
  · exact (congrArg (·.getLsbD 0) (hraise.rd Reg.CLK_EVT (by decide))).trans (State.setBit_bit_self (by decide))
  · exact (congrArg (·.getLsbD 4) hsts).trans (hsrc.trans (congrArg (·.getLsbD 0) hctl).symm)
  · simp only [Bool.or_eq_false_iff, decide_eq_false_iff_not] at hk
    obtain ⟨⟨hev, hk1⟩, hk2⟩ := hk
    exact (hraise.rd k hev).trans ((State.setBit_rd_ne _ hk2 _ _).trans (hrest k hk1))
  · rw [State.sramW, State.raiseBit, hraise.sram, ← ht]
    rfl
  · exact hraise.pending.trans (by rw [← ht]; rfl)

/-! ### The claims -/

theorem crystalJudging : Claims.CrystalJudging := by
  unfold Claims.CrystalJudging
  refine ⟨fun s n hj hrun hc hk => ⟨_, rfl, State.ircGate_counts hj hrun hc hk⟩, fun s n h => ⟨_, rfl, State.refGate_ends h⟩,
    fun s h => ⟨_, rfl, ?_⟩, fun s a h hlate => ⟨_, rfl, judgeOver_enters_irc h hlate⟩⟩
  obtain ⟨hres, -, hgates, -⟩ := s.refFailed_judge
  rw [State.refStall, if_pos h]
  exact ⟨hres, hgates⟩

/-- The eighth gate ends the judging where the REFCLK test has passed or was not run; else it waits for that test (R72). -/
theorem crystalJudgedStable : Claims.CrystalJudgedStable := by
  unfold Claims.CrystalJudgedStable
  intro s n hj hrun hc hk hlo hhi
  refine ⟨s.ircGate n, rfl, ?_⟩
  rw [State.ircGate_eq hj hrun hc (by omega), if_pos ⟨hlo, hhi⟩, hk]
  have height : (s.setFld Reg.CLK_JUDGE 0 4 8).fld Reg.CLK_JUDGE 0 4 = 8 := State.setFld_fld_self (by decide)
  have hres : (s.setFld Reg.CLK_JUDGE 0 4 8).fld Reg.CLK_JUDGE 4 2 = s.fld Reg.CLK_JUDGE 4 2 :=
    State.setFld_fld_of_disjoint (.inr (by decide))
  constructor
  · intro hpass
    exact State.judgeDone_stable _ ⟨height, by rw [hres]; exact hpass⟩
  · rintro ⟨hrefs, hwait⟩
    rw [State.judgeDone_of_not_stable]
    · exact ⟨rfl, State.setFld_rd_ne _ (by decide) _ _ _⟩
    · rintro ⟨-, hno | hpassed⟩
      · exact absurd (hno.symm.trans hrefs) (by decide)
      · exact hwait (hres.symm.trans hpassed)

/-- Settles O10: by the window of the gate, and for the judging's end by what the tests show. -/
theorem theCrystalIsJudged : Obligations.TheCrystalIsJudged := ⟨crystalJudging, crystalJudgedStable⟩

end Sys2Proof.Machine
end

section
/-!
PROOFS. Direct writes to registers that no lock, mailbox or pair guards: what is stored is by the access codes and the register's own
rule (R27, R30).
-/

namespace Sys2Proof.Machine
open Sys2Proof.Claims

/-- A register that takes direct writes and whose fields no lock bit, mailbox or pair guards. -/
structure Unguarded (k : Nat) : Prop where
  own : ownOffset k
  row : regAt (k / 65536) (k % 65536) = .reg (rowOf k)
  takes : (rowOf k).noWritable = false
  pair : pairAt? k = none
  current : ∀ s : State, s.current k = s.rd k
  sticky : stickyBits k = 0
  unlocked : ∀ s : State, s.lockedBits k = 0
  select : ∀ (s : State) (v : Word), s.selCause k v = false
  prbs : k ≠ Reg.HST_PRBS_CTL

theorem unguarded_islEn : Unguarded Reg.PLN_ISL_EN :=
  ⟨by decide, rfl, rfl, rfl, fun _ => rfl, rfl, fun _ => rfl, fun _ _ => rfl, by decide⟩

theorem unguarded_clkCtl : Unguarded Reg.CLK_CTL :=
  ⟨by decide, rfl, rfl, rfl, fun _ => rfl, rfl, fun _ => rfl, fun _ _ => rfl, by decide⟩

theorem unguarded_fmcCtl : Unguarded Reg.CLK_FMC_CTL :=
  ⟨by decide, rfl, rfl, rfl, fun _ => rfl, rfl, fun _ => rfl, fun _ _ => rfl, by decide⟩

/-- The operating-point requests of the variable-pace islands (R84). -/
theorem unguarded_opReq {i : Island} (h : i.variable = true) : Unguarded (Reg.PLN_ISL_OPREQ i.idx) := by
  cases i
  case hst | que | mem | sat =>
    exact ⟨by decide, rfl, rfl, rfl, fun _ => rfl, rfl, fun _ => rfl, fun _ _ => rfl, by decide⟩
  all_goals exact absurd h (by decide)

/-- The state after an admitted direct write of `v` to an unguarded register whose own rule leaves `fin`: stored, and with what the
write starts. -/
def State.directStored (s : State) (req : Requester) (k : Nat) (v fin : Word) : State :=
  ((s.onBus (busActivity (regAcc req k v))).store k fin).wrote k
    { req := req, old := s.rd k, v := v, want := mergeWrite (rowOf k) (s.rd k) v, new := fin, direct := true }

theorem State.writeReg_unguarded {s : State} {req : Requester} {k : Nat} {v fin : Word} {i : Island} (hu : Unguarded k)
    (hopen : s.openFor (regAcc req k v) i = true) (hres : v &&& (rowOf k).reservedBits = 0)
    (hjudge : (s.onBus (busActivity (regAcc req k v))).writeJudged k req (s.rd k) v (mergeWrite (rowOf k) (s.rd k) v) = .ok fin)
    (hready : (s.directStored req k v fin).nrg.ready = s.nrg.ready) :
    ∃ m, s.writeReg req k v = (s.directStored req k v fin).withMon m := by
  refine State.writeReg_ok hopen hu.own hu.row ?_ hready
  generalize hb : s.onBus (busActivity (regAcc req k v)) = b at hjudge
  have hcur : b.current k = s.rd k := by rw [hu.current, ← hb, State.onBus_rd]
  have hwant : mergeWrite (rowOf k) (s.rd k) v ||| (b.current k &&& stickyBits k) = mergeWrite (rowOf k) (s.rd k) v := by
    rw [hu.sticky]
    simp
  rw [State.rowWrite_direct hres hu.takes hu.pair, hcur, State.storeWrite_ok hwant (by rw [hu.unlocked]; simp) (hu.select _ _)
    (by rw [hcur]; exact hjudge) hu.prbs, hcur, ← hb]
  rfl

/-- A field of one bit outside a mask does not meet the mask. -/
theorem withField_bit_and {v m : Word} {b n : Nat} (h : v &&& m = 0) (hb : m.getLsbD b = false) : withField v b 1 n &&& m = 0 := by
  apply BitVec.eq_of_getLsbD_eq
  intro c hc
  have := congrArg (·.getLsbD c) h
  simp only [BitVec.getLsbD_and, show (0 : Word) = 0#18 from rfl, BitVec.getLsbD_zero, getLsbD_withField] at this ⊢
  split
  case isTrue hcb => rw [show c = b by omega, hb, Bool.and_false]
  case isFalse => exact this

end Sys2Proof.Machine
end

section
/-!
PROOFS. The clock sources (R74 to R76), the frequency-measuring counter (R78, R79) and the operating points (R81, R82).
-/

namespace Sys2Proof.Machine
open Sys2Proof.Claims

theorem State.sramW_of_sram {s t : State} (h : t.sram = s.sram) (w : Nat) : t.sramW w = s.sramW w := by
  rw [State.sramW, State.sramW, h]

/-! ### CLK_CTL (R74, R75) -/

theorem mergeWrite_clkCtl {old v : Word} : mergeWrite (rowOf Reg.CLK_CTL) old v = (old &&& ~~~1#18) ||| (v &&& 1#18) := by
  have hrow : (rowOf Reg.CLK_CTL).writable = 1#18 := rfl
  have hclr : word (rowOf Reg.CLK_CTL).w1c = 0#18 := rfl
  simp only [mergeWrite, hrow, hclr, BitVec.and_zero, BitVec.not_zero, BitVec.and_allOnes]

/-- The state in which CLK_CTL holds its new value. -/
def State.clkCtlStored (s : State) (req : Requester) (v : Word) : State :=
  ((s.onBus (busActivity (regAcc req Reg.CLK_CTL v))).wr Reg.CLK_CTL (mergeWrite (rowOf Reg.CLK_CTL) (s.rd Reg.CLK_CTL) v)).reparity
    Reg.CLK_CTL

theorem State.directStored_clkCtl (s : State) (req : Requester) (v : Word) :
    s.directStored req Reg.CLK_CTL v (mergeWrite (rowOf Reg.CLK_CTL) (s.rd Reg.CLK_CTL) v) = (s.clkCtlStored req v).clkCtlHook v :=
  rfl

section
variable (s : State) (req : Requester) (v : Word)

theorem State.clkCtlStored_ctl : (s.clkCtlStored req v).rd Reg.CLK_CTL = (s.rd Reg.CLK_CTL &&& ~~~1#18) ||| (v &&& 1#18) := by
  rw [← mergeWrite_clkCtl]
  exact State.wr_rd_self _ _ _

theorem State.clkCtlStored_rd_ne {k : Nat} (h : k ≠ Reg.CLK_CTL) : (s.clkCtlStored req v).rd k = s.rd k := State.wr_rd_ne _ h _

/-- The write itself leaves the clocks, the time, the SRAM and the queue of commands. -/
theorem State.clkCtlStored_frame : (s.clkCtlStored req v).clk = s.clk ∧ (s.clkCtlStored req v).now = s.now ∧
    (s.clkCtlStored req v).devTime = s.devTime ∧ (s.clkCtlStored req v).sram = s.sram ∧
    (s.clkCtlStored req v).pending = s.pending := by
  simp only [State.clkCtlStored, State.reparity_clk, State.reparity_now, State.reparity_devTime, State.reparity_sram,
    State.reparity_pending, State.wr_clk, State.wr_now, State.wr_devTime, State.wr_sram, State.wr_pending, State.onBus_now,
    State.onBus_sram, State.onBus_pending, true_and, and_true]
  exact ⟨rfl, rfl⟩

theorem State.clkCtlStored_island (i : Island) : (s.clkCtlStored req v).island i = s.island i := rfl

theorem State.clkCtlHook_ready : (s.clkCtlHook v).nrg.ready = s.nrg.ready := by
  have hre : s.showSource.rejudgeOp.nrg.ready = s.nrg.ready := by
    unfold State.rejudgeOp
    split <;> rfl
  unfold State.clkCtlHook
  dsimp only
  split
  · exact hre
  · rfl
end

theorem State.writeReg_clkCtl {s : State} {req : Requester} {v : Word} (hopen : s.openFor (regAcc req Reg.CLK_CTL v) .pln = true)
    (hres : v &&& (rowOf Reg.CLK_CTL).reservedBits = 0) :
    ∃ m, s.writeReg req Reg.CLK_CTL v = ((s.clkCtlStored req v).clkCtlHook v).withMon m := by
  rw [← State.directStored_clkCtl]
  refine State.writeReg_unguarded unguarded_clkCtl hopen hres rfl ?_
  rw [State.directStored_clkCtl, State.clkCtlHook_ready]
  rfl

/-- REJUDGE set in a word of CLK_CTL that is otherwise as it stands: no reserved bit is written, and the value stays (R74). -/
theorem clkCtl_rejudge_word {old : Word} (h : old &&& 0x3FFFE = 0) :
    withField old 1 1 1 &&& (rowOf Reg.CLK_CTL).reservedBits = 0 ∧ (withField old 1 1 1).getLsbD 1 = true ∧
      (old &&& ~~~1#18) ||| (withField old 1 1 1 &&& 1#18) = old := by
  have hres : old &&& (rowOf Reg.CLK_CTL).reservedBits = 0 := by
    rw [show (rowOf Reg.CLK_CTL).reservedBits = (0x3FFFE : Word) &&& 0x3FFFC from rfl, ← BitVec.and_assoc, h]
    rfl
  refine ⟨withField_bit_and hres rfl, getLsbD_withField_flag old 1 (by decide) true, ?_⟩
  apply BitVec.eq_of_getLsbD_eq
  intro b hb
  simp only [BitVec.getLsbD_or, BitVec.getLsbD_and, BitVec.getLsbD_not, BitVec.getLsbD_one, getLsbD_withField]
  by_cases h0 : b = 0
  · simp [h0]
  · simp [h0, hb]

/-- The word of PLN_SRC alone (R75). -/
theorem clkCtl_source_word (irc : Bool) (old : Word) :
    word (flag irc) &&& (rowOf Reg.CLK_CTL).reservedBits = 0 ∧ (word (flag irc)).getLsbD 1 = false ∧
      ((old &&& ~~~1#18) ||| (word (flag irc) &&& 1#18)).getLsbD 0 = irc := by
  cases irc <;> refine ⟨rfl, rfl, ?_⟩ <;> simp [flag]

/-- REJUDGE in IRC mode, with the islands GATED that the sources must not disturb, starts a judging (R74). -/
theorem State.rejudgeOp_starts {s : State} (hirc : s.bit Reg.CLK_STS 1 = true)
    (hgated : ∀ i ∈ [Island.fld, .sat, .que, .mem], (s.island i).power = .gated) :
    s.rejudgeOp = (s.withClk { s.clk with judgeAt := some s.now, rejudging := true }).newSeries := by
  have hall : ([Island.fld, .sat, .que, .mem].all fun i => decide ((s.island i).power = .gated)) = true := by
    simpa only [List.all_eq_true, decide_eq_true_eq] using hgated
  rw [State.rejudgeOp, hirc, hall]
  rfl

theorem clockSources : Claims.ClockSources := by
  unfold Claims.ClockSources
  refine ⟨?_, ?_, ?_⟩
  · intro s req hopen hctl hirc hfld hsat hque hmem
    obtain ⟨hres, hact, hval⟩ := clkCtl_rejudge_word hctl
    obtain ⟨m, hm⟩ := State.writeReg_clkCtl hopen hres
    refine ⟨_, rfl, ?_⟩
    generalize withField (s.rd Reg.CLK_CTL) 1 1 1 = v at *
    generalize hu : (s.clkCtlStored req v).showSource = u at *
    have hsts : u.bit Reg.CLK_STS 1 = true := by
      rw [← hu, State.showSource_bit_ne _ (by decide), State.bit, State.clkCtlStored_rd_ne _ _ _ (by decide)]
      exact hirc
    have hgated : ∀ i ∈ [Island.fld, .sat, .que, .mem], (u.island i).power = .gated := by
      have hisl (i : Island) : u.island i = s.island i := by rw [← hu, State.showSource, State.setBit_island, State.clkCtlStored_island]
      simp only [List.forall_mem_cons, hisl]
      exact ⟨hfld, hsat, hque, hmem, List.forall_mem_nil _⟩
    have hhook : (s.clkCtlStored req v).clkCtlHook v = (u.withClk { u.clk with judgeAt := some u.now, rejudging := true }).newSeries := by
      rw [State.clkCtlHook, hact, ← State.rejudgeOp_starts hsts hgated, ← hu]
      rfl
    obtain ⟨hcount, hresult⟩ := (u.withClk { u.clk with judgeAt := some u.now, rejudging := true }).newSeries_judge
    rw [hm, hhook]
    refine ⟨by rw [← hu]; rfl, hcount, hresult.trans (by rw [← hu]; rfl), ?_⟩
    rw [State.withMon_rd, State.newSeries_rd_ne _ (by decide), State.withClk_rd, ← hu, State.showSource_rd_ne _ (by decide),
      State.clkCtlStored_ctl, hval]
  · intro s req irc hopen
    obtain ⟨hres, hact, hsrc⟩ := clkCtl_source_word irc (s.rd Reg.CLK_CTL)
    obtain ⟨m, hm⟩ := State.writeReg_clkCtl hopen hres
    refine ⟨_, rfl, ?_⟩
    generalize word (flag irc) = v at *
    have hhook : (s.clkCtlStored req v).clkCtlHook v = (s.clkCtlStored req v).showSource := by
      rw [State.clkCtlHook, hact]
      rfl
    have hctl : (s.clkCtlStored req v).bit Reg.CLK_CTL 0 = irc := by
      rw [State.bit, State.clkCtlStored_ctl, hsrc]
    have hsts (b : Nat) : (s.clkCtlStored req v).bit Reg.CLK_STS b = s.bit Reg.CLK_STS b :=
      congrArg (·.getLsbD b) (s.clkCtlStored_rd_ne req v (by decide))
    rw [hm, hhook]
    obtain ⟨hclk, hnow, hdev, hsram, hpend⟩ := s.clkCtlStored_frame req v
    refine ⟨?_, ?_, hclk, hnow, hdev, fun k hk => ?_, State.sramW_of_sram hsram, hpend⟩
    · rw [State.withMon_bit, ← hctl]
      exact congrArg (·.getLsbD 0) (State.showSource_rd_ne (k := Reg.CLK_CTL) _ (by decide))
    · rw [State.withMon_bit, State.showSource_bit_source, hctl, hsts, hsts]
    · simp only [Bool.or_eq_false_iff, decide_eq_false_iff_not] at hk
      rw [State.withMon_rd, State.showSource_rd_ne _ hk.2, State.clkCtlStored_rd_ne _ _ _ hk.1]
  · intro s
    refine ⟨_, rfl, rfl, fun h => ?_, fun h => ?_, fun _ _ => rfl, fun _ => rfl, rfl⟩
    · simp only [State.xtalStops, h, Bool.not_true, Bool.and_false]
    · simp only [State.xtalStops, h, Bool.not_false, Bool.and_true]

end Sys2Proof.Machine
end

section
/-!
PROOFS. The frequency-measuring counter (R78, R79) and the operating points (R81, R82).
-/

namespace Sys2Proof.Machine
open Sys2Proof.Claims

/-! ### The frequency-measuring counter -/

/-- The state in which CLK_FMC_CTL holds a new value. -/
def State.fmcStored (s : State) (req : Requester) (v fin : Word) : State :=
  ((s.onBus (busActivity (regAcc req Reg.CLK_FMC_CTL v))).wr Reg.CLK_FMC_CTL fin).reparity Reg.CLK_FMC_CTL

section
variable {s : State} {req : Requester} {v fin : Word}

/-- START while BUSY is set leaves the register (R79). -/
theorem writeJudged_fmc (s : State) (req : Requester) (old v new : Word) : s.writeJudged Reg.CLK_FMC_CTL req old v new =
    .ok (if Reg.CLK_FMC_CTL = Reg.CLK_FMC_CTL ∧ v.getLsbD 13 = true ∧ old.getLsbD 14 = true then old else new) := rfl

/-- START begins a gate where none runs (R78, R79). -/
theorem State.directStored_fmc : s.directStored req Reg.CLK_FMC_CTL v fin =
    if Reg.CLK_FMC_CTL = Reg.CLK_FMC_CTL ∧ v.getLsbD 13 = true ∧ (s.rd Reg.CLK_FMC_CTL).getLsbD 14 = false
    then (s.fmcStored req v fin).fmcBegin else s.fmcStored req v fin := rfl

theorem State.directStored_fmc_ready : (s.directStored req Reg.CLK_FMC_CTL v fin).nrg.ready = s.nrg.ready := by
  rw [State.directStored_fmc]
  split <;> rfl

theorem State.fmcStored_rd : (s.fmcStored req v fin).rd Reg.CLK_FMC_CTL = fin := State.wr_rd_self _ _ _
end

/-- The codes and the length that a write to CLK_FMC_CTL stores (R78). -/
theorem fieldOf_mergeWrite_fmc (old v : Word) : fieldOf (mergeWrite (rowOf Reg.CLK_FMC_CTL) old v) 0 13 = fieldOf v 0 13 := by
  have hrow : (rowOf Reg.CLK_FMC_CTL).writable = BitVec.ofNat 18 (2 ^ 13 - 1) := rfl
  have hclr : word (rowOf Reg.CLK_FMC_CTL).w1c = 0#18 := rfl
  apply Nat.eq_of_testBit_eq
  intro j
  simp only [testBit_fieldOf, mergeWrite, hrow, hclr, BitVec.and_zero, BitVec.not_zero, BitVec.and_allOnes, BitVec.getLsbD_or,
    BitVec.getLsbD_and, BitVec.getLsbD_not, BitVec.getLsbD_ofNat, Nat.testBit_two_pow_sub_one]
  by_cases hj : j < 13
  · simp [hj, show j < 18 by omega]
  · simp [hj]

theorem State.fmcBegin_eq (s : State) : s.fmcBegin = ((s.setBit Reg.CLK_FMC_CTL 14 true).setBit Reg.CLK_FMC_CTL 15 false).withClk
    { s.clk with fmcAt := s.now, fmcEdgeAt := s.now } := rfl

theorem State.fmcBegin_ctl (s : State) : s.fmcBegin.bit Reg.CLK_FMC_CTL 14 = true ∧ s.fmcBegin.bit Reg.CLK_FMC_CTL 15 = false ∧
    s.fmcBegin.fld Reg.CLK_FMC_CTL 0 13 = s.fld Reg.CLK_FMC_CTL 0 13 := by
  rw [State.fmcBegin_eq, State.withClk_bit, State.withClk_bit, State.withClk_fld]
  refine ⟨?_, State.setBit_bit_self (by decide), ?_⟩
  · rw [State.setBit_bit_of_ne (by decide) (by decide), State.setBit_bit_self (by decide)]
  · rw [State.setBit, State.setFld_fld_of_disjoint (.inl (by decide)), State.setBit, State.setFld_fld_of_disjoint (.inl (by decide))]

theorem fmcStart_stores {s : State} {req : Requester} {ctl : Word}
    (hopen : s.openFor (regAcc req Reg.CLK_FMC_CTL (withField ctl 13 1 1)) .pln = true) (hctl : ctl &&& 0x30000 = 0) :
    (s.bit Reg.CLK_FMC_CTL 14 = false →
      (s.writeReg req Reg.CLK_FMC_CTL (withField ctl 13 1 1)).bit Reg.CLK_FMC_CTL 14 = true ∧
      (s.writeReg req Reg.CLK_FMC_CTL (withField ctl 13 1 1)).bit Reg.CLK_FMC_CTL 15 = false ∧
      (s.writeReg req Reg.CLK_FMC_CTL (withField ctl 13 1 1)).fld Reg.CLK_FMC_CTL 0 13 = fieldOf ctl 0 13) ∧
    (s.bit Reg.CLK_FMC_CTL 14 = true →
      (s.writeReg req Reg.CLK_FMC_CTL (withField ctl 13 1 1)).rd Reg.CLK_FMC_CTL = s.rd Reg.CLK_FMC_CTL) := by
  have hstart : (withField ctl 13 1 1).getLsbD 13 = true := getLsbD_withField_flag ctl 13 (by decide) true
  have hcodes : fieldOf (withField ctl 13 1 1) 0 13 = fieldOf ctl 0 13 := fieldOf_withField_of_disjoint (.inl (by decide))
  have hres : withField ctl 13 1 1 &&& (rowOf Reg.CLK_FMC_CTL).reservedBits = 0 := withField_bit_and hctl rfl
  generalize withField ctl 13 1 1 = v at *
  obtain ⟨m, hm⟩ := State.writeReg_unguarded unguarded_fmcCtl hopen hres (writeJudged_fmc _ _ _ _ _) State.directStored_fmc_ready
  rw [hm, State.directStored_fmc]
  constructor
  · intro hfree
    have hidle : ¬(Reg.CLK_FMC_CTL = Reg.CLK_FMC_CTL ∧ v.getLsbD 13 = true ∧ (s.rd Reg.CLK_FMC_CTL).getLsbD 14 = true) :=
      fun ⟨_, _, hset⟩ => absurd (hfree.symm.trans hset) (by decide)
    rw [if_pos ⟨rfl, hstart, hfree⟩, if_neg hidle]
    obtain ⟨hbusy, htimeout, hfld⟩ :=
      (s.fmcStored req v (mergeWrite (rowOf Reg.CLK_FMC_CTL) (s.rd Reg.CLK_FMC_CTL) v)).fmcBegin_ctl
    refine ⟨hbusy, htimeout, hfld.trans ?_⟩
    rw [State.fld, State.fmcStored_rd, fieldOf_mergeWrite_fmc, hcodes]
  · intro hbusy
    have hruns : ¬(Reg.CLK_FMC_CTL = Reg.CLK_FMC_CTL ∧ v.getLsbD 13 = true ∧ (s.rd Reg.CLK_FMC_CTL).getLsbD 14 = false) :=
      fun ⟨_, _, hclear⟩ => absurd (hbusy.symm.trans hclear) (by decide)
    rw [if_neg hruns, if_pos ⟨rfl, hstart, hbusy⟩, State.withMon_rd, State.fmcStored_rd]

theorem frequencyCounter : Claims.FrequencyCounter := by
  unfold Claims.FrequencyCounter
  refine ⟨fun s req ctl hopen hctl => ⟨_, rfl, fmcStart_stores hopen hctl⟩, ?_, ?_⟩
  · intro s count hbusy hrun href hover
    have hend : s.fmcEnd count = (s.setBit Reg.CLK_FMC_CTL 14 false).withClk
        { s.clk with fmcCount := if s.clockRuns (s.fld Reg.CLK_FMC_CTL 0 4) then count else 0 } := by
      simp only [State.fmcEnd, hbusy, hrun, href, hover, Bool.not_false, Bool.and_self, if_true]
      rfl
    refine ⟨_, rfl, ?_⟩
    rw [hend]
    refine ⟨by rw [State.withClk_bit, State.setBit_bit_self (by decide)], rfl, fun k hk => ?_, fun _ => rfl, rfl⟩
    rw [State.withClk_rd, State.setBit_rd_ne _ (of_decide_eq_false hk)]
  · intro s hbusy hrun href hlate
    have hend : s.fmcOver = ((s.setBit Reg.CLK_FMC_CTL 14 false).setBit Reg.CLK_FMC_CTL 15 true).withClk
        { s.clk with fmcCount := 0 } := by
      have hpassed : s.passed s.clk.fmcEdgeAt (msTicks 1000) = true := decide_eq_true hlate
      simp only [State.fmcOver, hbusy, hrun, href, hpassed, Bool.not_false, Bool.and_self, if_true]
      rfl
    refine ⟨_, rfl, ?_⟩
    rw [hend]
    refine ⟨?_, by rw [State.withClk_bit, State.setBit_bit_self (by decide)], rfl, fun k hk => ?_, fun _ => rfl, rfl⟩
    · rw [State.withClk_bit, State.setBit_bit_of_ne (by decide) (by decide), State.setBit_bit_self (by decide)]
    · have hk : k ≠ Reg.CLK_FMC_CTL := of_decide_eq_false hk
      rw [State.withClk_rd, State.setBit_rd_ne _ hk, State.setBit_rd_ne _ hk]

/-! ### Operating points -/

/-- The state in which a request of an operating point is stored. -/
def State.opReqStored (s : State) (req : Requester) (i : Island) (v fin : Word) : State :=
  ((s.onBus (busActivity (regAcc req (Reg.PLN_ISL_OPREQ i.idx) v))).wr (Reg.PLN_ISL_OPREQ i.idx) fin).reparity
    (Reg.PLN_ISL_OPREQ i.idx)

section
variable (s : State) (req : Requester) {i : Island} (v fin : Word)

/-- A request that is stored lets the sequencer look for a step (R82). -/
theorem State.directStored_opReq (h : i.variable = true) :
    s.directStored req (Reg.PLN_ISL_OPREQ i.idx) v fin = (s.opReqStored req i v fin).kickSeq i := by
  cases i
  case hst | que | mem | sat => rfl
  all_goals exact absurd h (by decide)

theorem writeJudged_opReq (h : i.variable = true) (old new : Word) :
    s.writeJudged (Reg.PLN_ISL_OPREQ i.idx) req old v new = .ok new := by
  cases i
  case hst | que | mem | sat => rfl
  all_goals exact absurd h (by decide)

/-- The row of a request has its two bits alone. -/
theorem opReq_row (h : i.variable = true) (old : Word) (p : BitVec 2) :
    word p.toNat &&& (rowOf (Reg.PLN_ISL_OPREQ i.idx)).reservedBits = 0 ∧
      fieldOf (mergeWrite (rowOf (Reg.PLN_ISL_OPREQ i.idx)) old (word p.toNat)) 0 2 = p.toNat := by
  have hlt := p.isLt
  have hrow : (rowOf (Reg.PLN_ISL_OPREQ i.idx)).writable = 3#18 ∧ (rowOf (Reg.PLN_ISL_OPREQ i.idx)).w1c = 0 ∧
      (rowOf (Reg.PLN_ISL_OPREQ i.idx)).reservedBits = ~~~3#18 := by
    cases i
    case hst | que | mem | sat => exact ⟨rfl, rfl, rfl⟩
    all_goals exact absurd h (by decide)
  obtain ⟨hw, hclr, hres⟩ := hrow
  have hmask : (3#18 : Word) = BitVec.ofNat 18 (2 ^ 2 - 1) := rfl
  have hlow (j : Nat) : (word p.toNat).getLsbD j = (decide (j < 2) && p.toNat.testBit j) := by
    rw [BitVec.getLsbD_ofNat]
    by_cases hj : j < 2
    · simp [hj, show j < 18 by omega]
    · rw [Nat.testBit_lt_two_pow (hlt.trans_le (Nat.pow_le_pow_right (by decide) (Nat.not_lt.1 hj)))]
      simp
  constructor
  · apply BitVec.eq_of_getLsbD_eq
    intro j hj
    rw [hres, hmask, BitVec.getLsbD_and, hlow, BitVec.getLsbD_not, BitVec.getLsbD_ofNat, Nat.testBit_two_pow_sub_one]
    by_cases hj2 : j < 2 <;> simp [hj, hj2]
  · apply Nat.eq_of_testBit_eq
    intro j
    have hzero : word 0 = 0#18 := rfl
    simp only [testBit_fieldOf, mergeWrite, hw, hclr, hmask, hzero, BitVec.and_zero, BitVec.not_zero, BitVec.and_allOnes,
      BitVec.getLsbD_or, BitVec.getLsbD_and, BitVec.getLsbD_not, BitVec.getLsbD_ofNat, Nat.testBit_two_pow_sub_one]
    by_cases hj : j < 2
    · simp [hj, show j < 18 by omega]
    · rw [Nat.testBit_lt_two_pow (hlt.trans_le (Nat.pow_le_pow_right (by decide) (Nat.not_lt.1 hj)))]
      simp [hj]
end

/-- A step of one point towards the point in force starts for an ON island at rest (R82). -/
theorem State.kickSeq_starts {s : State} {i : Island} (hv : i.variable = true) (hon : (s.island i).power = .on)
    (hseq : (s.island i).seq = none) (hdrain : (s.island i).drain = none) :
    (s.opInForce i = (s.island i).op → ((s.kickSeq i).island i).seq = none) ∧
    ((s.island i).op < s.opInForce i →
      ∃ x, ((s.kickSeq i).island i).seq = some x ∧ x.target = (s.island i).op + 1 ∧ x.raising = true) ∧
    (s.opInForce i < (s.island i).op →
      ∃ x, ((s.kickSeq i).island i).seq = some x ∧ x.target = (s.island i).op - 1 ∧ x.raising = false) := by
  have hrest : (i.variable && decide ((s.island i).power = .on) && (s.island i).seq.isNone && (s.island i).drain.isNone) = true := by
    rw [hv, hon, hseq, hdrain]
    rfl
  simp only [State.kickSeq, hrest, if_true]
  refine ⟨fun h => ?_, fun h => ?_, fun h => ?_⟩
  · rw [if_pos h.symm, hseq]
  · rw [if_neg (Nat.ne_of_lt h), State.setIsland_island_self]
    exact ⟨_, rfl, if_pos (decide_eq_true h), decide_eq_true h⟩
  · rw [if_neg (Nat.ne_of_gt h), State.setIsland_island_self]
    exact ⟨_, rfl, if_neg (by simpa using Nat.le_of_lt h), decide_eq_false (Nat.not_lt_of_gt h)⟩

/-- The sequencer's next step moves no register, and leaves the point and the end of the last step. -/
theorem State.kickSeq_frame (s : State) (i : Island) : (s.kickSeq i).regs = s.regs ∧ (s.kickSeq i).arm = s.arm ∧
    (s.kickSeq i).sram = s.sram ∧ (s.kickSeq i).pending = s.pending ∧ (s.kickSeq i).nrg = s.nrg ∧
    ((s.kickSeq i).island i).op = (s.island i).op ∧ ((s.kickSeq i).island i).seqEndAt = (s.island i).seqEndAt := by
  unfold State.kickSeq
  dsimp only
  split
  · split
    · exact ⟨rfl, rfl, rfl, rfl, rfl, rfl, rfl⟩
    · rw [State.setIsland_island_self]
      exact ⟨rfl, rfl, rfl, rfl, rfl, rfl, rfl⟩
  · exact ⟨rfl, rfl, rfl, rfl, rfl, rfl, rfl⟩

theorem State.kickSeq_opInForce (s : State) (i : Island) : (s.kickSeq i).opInForce i = s.opInForce i := by
  unfold State.kickSeq
  dsimp only
  split
  · split
    · rfl
    · rfl
  · rfl

theorem opRequest_starts {s : State} {req : Requester} {i : Island} {p : BitVec 2} (hv : i.variable = true)
    (hopen : s.openFor (regAcc req (Reg.PLN_ISL_OPREQ i.idx) (word p.toNat)) .pln = true) (hon : (s.island i).power = .on)
    (hseq : (s.island i).seq = none) (hdrain : (s.island i).drain = none) :
    Completes (.opRequest req i p) s fun t =>
      t.fld (Reg.PLN_ISL_OPREQ i.idx) 0 2 = p.toNat ∧
      (t.opInForce i = (s.island i).op → (t.island i).seq = none) ∧
      ((s.island i).op < t.opInForce i → ∃ x, (t.island i).seq = some x ∧ x.target = (s.island i).op + 1 ∧ x.raising = true) ∧
      (t.opInForce i < (s.island i).op → ∃ x, (t.island i).seq = some x ∧ x.target = (s.island i).op - 1 ∧ x.raising = false) := by
  obtain ⟨hres, hfld⟩ := opReq_row hv (s.rd (Reg.PLN_ISL_OPREQ i.idx)) p
  have hready (fin : Word) :
      (s.directStored req (Reg.PLN_ISL_OPREQ i.idx) (word p.toNat) fin).nrg.ready = s.nrg.ready := by
    obtain ⟨-, -, -, -, hnrg, -⟩ := (s.opReqStored req i (word p.toNat) fin).kickSeq_frame i
    rw [s.directStored_opReq req _ _ hv, hnrg]
    rfl
  obtain ⟨m, hm⟩ := State.writeReg_unguarded (unguarded_opReq hv) hopen hres (writeJudged_opReq _ req _ hv _ _) (hready _)
  refine ⟨s.writeReg req (Reg.PLN_ISL_OPREQ i.idx) (word p.toNat), rfl, ?_⟩
  rw [hm, s.directStored_opReq req _ _ hv]
  generalize hu : s.opReqStored req i (word p.toNat) _ = u
  have hisl : u.island i = s.island i := by rw [← hu]; rfl
  have hrd : u.rd (Reg.PLN_ISL_OPREQ i.idx) =
      mergeWrite (rowOf (Reg.PLN_ISL_OPREQ i.idx)) (s.rd (Reg.PLN_ISL_OPREQ i.idx)) (word p.toNat) := by
    rw [← hu]
    exact State.wr_rd_self _ _ _
  have hforce : ((u.kickSeq i).withMon m).opInForce i = u.opInForce i := u.kickSeq_opInForce i
  obtain ⟨hregs, -⟩ := u.kickSeq_frame i
  rw [hforce, ← hisl]
  refine ⟨?_, State.kickSeq_starts hv (by rw [hisl, hon]) (by rw [hisl, hseq]) (by rw [hisl, hdrain])⟩
  rw [State.fld, State.withMon_rd, State.rd_of_regs hregs, hrd, hfld]

theorem operatingPoints : Claims.OperatingPoints := by
  unfold Claims.OperatingPoints
  refine ⟨fun s req i p hv hopen hon hseq hdrain => opRequest_starts hv hopen hon hseq hdrain, ?_, ?_⟩
  · intro s i x hx hup hset hlate
    have hpassed : s.passed x.startAt (usTicks 20) = true := decide_eq_true hlate
    refine ⟨_, rfl, ?_⟩
    simp only [State.seqSettled, hx, hup, hset, hpassed, Bool.not_false, Bool.and_self, if_true]
    rw [State.modIsland, State.setIsland_island_self]
  · intro s i x hx hstart hset
    have hdone : (decide (x.startAt ≤ s.now) && (x.settled || !x.raising)) = true := by
      cases hr : x.raising
      · simp [hstart]
      · simp [hstart, hset hr]
    refine ⟨_, rfl, ?_⟩
    simp only [State.seqDone, hx, hdone, if_true]
    generalize hu : s.modIsland i (fun y => { y with op := x.target, seq := none, seqEndAt := some s.now }) = u
    obtain ⟨hregs, -, hsram, hpend, -, hop, hend⟩ := u.kickSeq_frame i
    have hisl : u.island i = { s.island i with op := x.target, seq := none, seqEndAt := some s.now } := by
      rw [← hu, State.modIsland, State.setIsland_island_self]
    refine ⟨by rw [hop, hisl], by rw [hend, hisl], fun k _ => ?_, State.sramW_of_sram (by rw [hsram, ← hu]; rfl),
      by rw [hpend, ← hu]; rfl⟩
    rw [State.rd_of_regs hregs, ← hu]
    rfl

/-- Settles O11: the writes of the Plinth's registers by their codes, the ends of a gate and of a step by the clock. -/
theorem clocksCountersAndPoints : Obligations.ClocksCountersAndPoints := ⟨clockSources, frequencyCounter, operatingPoints⟩

end Sys2Proof.Machine
end

section
/-!
PROOFS. The enables of the islands (R60, R61): a write to PLN_ISL_EN that changes one bit.
-/

namespace Sys2Proof.Machine
open Sys2Proof.Claims

/-! ### The word -/

theorem Island.idx_lt_18 (i : Island) : i.idx < 18 := by cases i <;> decide

theorem getLsbD_withField_idx (old : Word) (x : Bool) (i j : Island) :
    (withField old i.idx 1 (flag x)).getLsbD j.idx = if j = i then x else old.getLsbD j.idx := by
  rw [getLsbD_withField_bit (Island.idx_lt_18 i)]
  simp only [Island.idx_inj]

/-- A bit set and cleared again leaves the word. -/
theorem withField_idx_clear {old : Word} {i : Island} (h : old.getLsbD i.idx = false) :
    withField (withField old i.idx 1 1) i.idx 1 0 = old := by
  apply BitVec.eq_of_getLsbD_eq
  intro b _
  refine (getLsbD_withField_bit (x := false) (Island.idx_lt_18 i) b).trans ?_
  split
  case isTrue hb => rw [hb, h]
  case isFalse hb => exact (getLsbD_withField_bit (x := true) (Island.idx_lt_18 i) b).trans (if_neg hb)

theorem and_of_and_not {v m : Word} (h : v &&& ~~~m = 0) : v &&& m = v := by
  apply BitVec.eq_of_getLsbD_eq
  intro b hb
  have hbit : (v.getLsbD b && !m.getLsbD b) = false := by
    simpa [hb] using congrArg (·.getLsbD b) h
  rw [BitVec.getLsbD_and]
  revert hbit
  cases v.getLsbD b <;> simp

/-- A word without reserved bits is stored in PLN_ISL_EN as it is written. -/
theorem mergeWrite_islEn {old v : Word} (ho : old &&& (rowOf Reg.PLN_ISL_EN).reservedBits = 0)
    (hv : v &&& (rowOf Reg.PLN_ISL_EN).reservedBits = 0) : mergeWrite (rowOf Reg.PLN_ISL_EN) old v = v := by
  have hrow : (rowOf Reg.PLN_ISL_EN).writable = 0xFFE#18 := rfl
  have hclr : word (rowOf Reg.PLN_ISL_EN).w1c = 0#18 := rfl
  have hres : (rowOf Reg.PLN_ISL_EN).reservedBits = ~~~0xFFE#18 := rfl
  rw [hres] at ho hv
  simp only [mergeWrite, hrow, hclr, BitVec.and_zero, BitVec.not_zero, BitVec.and_allOnes]
  rw [ho, and_of_and_not hv, show (0 : Word) = 0#18 from rfl, BitVec.zero_or]

theorem islEn_word {s : State} {i : Island} (hi : i ≠ .pln) {n : Nat}
    (h : s.rd Reg.PLN_ISL_EN &&& (rowOf Reg.PLN_ISL_EN).reservedBits = 0) :
    withField (s.rd Reg.PLN_ISL_EN) i.idx 1 n &&& (rowOf Reg.PLN_ISL_EN).reservedBits = 0 :=
  by
  refine withField_bit_and h ?_
  cases i
  case pln => exact absurd rfl hi
  all_goals rfl

/-! ### The judged change -/

theorem enableOrder_only {i : Island} (hi : i ≠ .pln) : enableOrder.filter (fun j => decide (j = i)) = [i] := by
  cases i
  case pln => exact absurd rfl hi
  all_goals rfl

/-- A pass over the islands that acts on one of them. -/
theorem Island.foldl_only {α : Type} (f : α → Island → α) (a : α) (i : Island) :
    Island.all.foldl (fun t j => if j = i then f t j else t) a = f a i := by
  have hfilter : Island.all.filter (fun j => decide (j = i)) = [i] := by cases i <;> rfl
  have := List.foldl_filter (p := fun j => decide (j = i)) (f := f) (l := Island.all) (init := a)
  rw [hfilter] at this
  simpa using this.symm

theorem Island.foldl_reverse_only {α : Type} (f : α → Island → α) (a : α) (i : Island) :
    Island.all.reverse.foldl (fun t j => if j = i then f t j else t) a = f a i := by
  have hfilter : Island.all.reverse.filter (fun j => decide (j = i)) = [i] := by cases i <;> rfl
  have := List.foldl_filter (p := fun j => decide (j = i)) (f := f) (l := Island.all.reverse) (init := a)
  rw [hfilter] at this
  simpa using this.symm

section
variable {s : State} {i : Island}

/-- What changes where a bit is set. -/
theorem withField_idx_sets {old : Word} (h : old.getLsbD i.idx = false) (j : Island) :
    ((withField old i.idx 1 1).getLsbD j.idx && !old.getLsbD j.idx) = decide (j = i) ∧
      (!(withField old i.idx 1 1).getLsbD j.idx && old.getLsbD j.idx) = false := by
  have hbit := getLsbD_withField_idx old true i j
  rw [show flag true = 1 from rfl] at hbit
  rw [hbit]
  by_cases hj : j = i
  · simp [hj, h]
  · simp [hj]

/-- What changes where a bit is cleared. -/
theorem withField_idx_clears {old : Word} (h : old.getLsbD i.idx = true) (j : Island) :
    ((withField old i.idx 1 0).getLsbD j.idx && !old.getLsbD j.idx) = false ∧
      (!(withField old i.idx 1 0).getLsbD j.idx && old.getLsbD j.idx) = decide (j = i) := by
  have hbit := getLsbD_withField_idx old false i j
  rw [show flag false = 0 from rfl] at hbit
  rw [hbit]
  by_cases hj : j = i
  · simp [hj, h]
  · simp [hj]

theorem State.judgeEnables_set (hi : i ≠ .pln) {old : Word} (h : old.getLsbD i.idx = false)
    (hc : s.enableCause (withField old i.idx 1 1) i = none) :
    s.judgeEnables old (withField old i.idx 1 1) = (withField old i.idx 1 1, []) := by
  have hsets := fun j => (withField_idx_sets h j).1
  have hclears := fun j => (withField_idx_sets h j).2
  simp only [State.judgeEnables, hsets, hclears, enableOrder_only hi, List.filter_false, List.foldl_cons, List.foldl_nil, hc]

theorem State.judgeEnables_refused {c : Nat} (hi : i ≠ .pln) {old : Word} (h : old.getLsbD i.idx = false)
    (hc : s.enableCause (withField old i.idx 1 1) i = some c) :
    s.judgeEnables old (withField old i.idx 1 1) = (old, [(i, c)]) := by
  have hsets := fun j => (withField_idx_sets h j).1
  have hclears := fun j => (withField_idx_sets h j).2
  simp only [State.judgeEnables, hsets, hclears, enableOrder_only hi, List.filter_false, List.foldl_cons, List.foldl_nil, hc,
    withField_idx_clear h, List.nil_append]

theorem State.judgeEnables_clear (hi : i ≠ .pln) {old : Word} (h : old.getLsbD i.idx = true)
    (hc : s.gateCause (withField old i.idx 1 0) i = none) :
    s.judgeEnables old (withField old i.idx 1 0) = (withField old i.idx 1 0, []) := by
  have hsets := fun j => (withField_idx_clears h j).1
  have hclears := fun j => (withField_idx_clears h j).2
  have hrev : enableOrder.reverse.filter (fun j => decide (j = i)) = [i] := by
    rw [List.filter_reverse, enableOrder_only hi, List.reverse_singleton]
  simp only [State.judgeEnables, hsets, hclears, hrev, List.filter_false, List.foldl_cons, List.foldl_nil, hc]

/-- An admitted enable (R60). -/
theorem State.writeEnables_enable (hi : i ≠ .pln) (h : (s.rd Reg.PLN_ISL_EN).getLsbD i.idx = false)
    (hc : s.enableCause (withField (s.rd Reg.PLN_ISL_EN) i.idx 1 1) i = none) :
    s.writeEnables (withField (s.rd Reg.PLN_ISL_EN) i.idx 1 1) =
      (s.wr Reg.PLN_ISL_EN (withField (s.rd Reg.PLN_ISL_EN) i.idx 1 1)).islandEnabled i := by
  have hsets := fun j => (withField_idx_sets h j).1
  have hclears := fun j => (withField_idx_sets h j).2
  simp only [State.writeEnables, State.judgeEnables_set hi h hc, hsets, hclears, List.find?_nil, List.foldl_fixed, decide_eq_true_eq,
    Bool.false_eq_true, if_false]
  exact Island.foldl_only _ _ i

/-- An admitted gate (R60). -/
theorem State.writeEnables_gate (hi : i ≠ .pln) (h : (s.rd Reg.PLN_ISL_EN).getLsbD i.idx = true)
    (hc : s.gateCause (withField (s.rd Reg.PLN_ISL_EN) i.idx 1 0) i = none) :
    s.writeEnables (withField (s.rd Reg.PLN_ISL_EN) i.idx 1 0) =
      (s.wr Reg.PLN_ISL_EN (withField (s.rd Reg.PLN_ISL_EN) i.idx 1 0)).islandDisabled i := by
  have hsets := fun j => (withField_idx_clears h j).1
  have hclears := fun j => (withField_idx_clears h j).2
  simp only [State.writeEnables, State.judgeEnables_clear hi h hc, hsets, hclears, List.find?_nil, List.foldl_fixed, decide_eq_true_eq,
    Bool.false_eq_true, if_false]
  exact Island.foldl_reverse_only _ _ i

/-- A refused enable (R61). -/
theorem State.writeEnables_refused {c : Nat} (hi : i ≠ .pln) (h : (s.rd Reg.PLN_ISL_EN).getLsbD i.idx = false)
    (hc : s.enableCause (withField (s.rd Reg.PLN_ISL_EN) i.idx 1 1) i = some c) :
    s.writeEnables (withField (s.rd Reg.PLN_ISL_EN) i.idx 1 1) =
      (s.wr Reg.PLN_ISL_EN (s.rd Reg.PLN_ISL_EN)).enableRefused i.idx c := by
  simp only [State.writeEnables, State.judgeEnables_refused hi h hc, Bool.and_not_self, Bool.not_and_self, List.foldl_fixed,
    Bool.false_eq_true, if_false]
  refine Eq.trans (List.foldl_ext _ _ _ fun t j _ => ?_) (Island.foldl_only (fun (t : State) j => t.enableRefused j.idx c) _ i)
  by_cases hj : j = i
  · simp [hj]
  · simp [hj, Ne.symm hj]
end

/-! ### The write -/

theorem State.commitGated_of_none {s : State} (h : s.arm.run = none) : s.commitGated = s := by
  rw [State.commitGated, State.gateNext, h]

theorem State.withMon_island (s : State) (m : MonSt) (i : Island) : (s.withMon m).island i = s.island i := rfl

/-- The direct write of a word of PLN_ISL_EN. -/
theorem State.writeReg_islEn {s : State} {req : Requester} {v : Word} (hopen : s.openFor (regAcc req Reg.PLN_ISL_EN v) .pln = true)
    (ho : s.rd Reg.PLN_ISL_EN &&& (rowOf Reg.PLN_ISL_EN).reservedBits = 0) (hv : v &&& (rowOf Reg.PLN_ISL_EN).reservedBits = 0)
    (hrun : ((s.onBus (busActivity (regAcc req Reg.PLN_ISL_EN v))).writeEnables v).arm.run = none)
    (hready : ((s.onBus (busActivity (regAcc req Reg.PLN_ISL_EN v))).writeEnables v).nrg.ready = s.nrg.ready) :
    ∃ m, s.writeReg req Reg.PLN_ISL_EN v =
      (((s.onBus (busActivity (regAcc req Reg.PLN_ISL_EN v))).writeEnables v).reparity Reg.PLN_ISL_EN).withMon m := by
  have hstored : s.directStored req Reg.PLN_ISL_EN v (mergeWrite (rowOf Reg.PLN_ISL_EN) (s.rd Reg.PLN_ISL_EN) v) =
      ((s.onBus (busActivity (regAcc req Reg.PLN_ISL_EN v))).writeEnables
        (mergeWrite (rowOf Reg.PLN_ISL_EN) (s.rd Reg.PLN_ISL_EN) v)).commitGated.reparity Reg.PLN_ISL_EN := rfl
  rw [mergeWrite_islEn ho hv, State.commitGated_of_none hrun] at hstored
  rw [← hstored]
  refine State.writeReg_unguarded unguarded_islEn hopen hv ?_ ?_
  · rw [mergeWrite_islEn ho hv]
    rfl
  · rw [hstored, State.reparity_nrg, hready]

/-- A GATED island that is not held OFF starts to come up when it is enabled. -/
theorem State.islandEnabled_gated {s : State} {i : Island} (hpower : (s.island i).power = .gated) (hforce : (s.island i).force ≠ 2) :
    s.islandEnabled i = s.setIsland i { s.island i with waking := true } := by
  simp only [State.islandEnabled, hpower, if_neg hforce]

/-- An ON island that does not drain yet. -/
theorem State.sleepTo_on {s : State} {i : Island} {p : Power} (hpower : (s.island i).power = .on) (hdrain : (s.island i).drain = none) :
    s.sleepTo i p = s.setIsland i { s.island i with drain := some p, cause := false } := by
  simp only [State.sleepTo, hpower, hdrain]

theorem islandEnable_sets {s : State} {req : Requester} {i : Island} (hi : i ≠ .pln) (hrun : s.arm.run = none)
    (hword : s.rd Reg.PLN_ISL_EN &&& (rowOf Reg.PLN_ISL_EN).reservedBits = 0)
    (hopen : s.openFor (regAcc req Reg.PLN_ISL_EN (withField (s.rd Reg.PLN_ISL_EN) i.idx 1 1)) .pln = true)
    (hbit : s.bit Reg.PLN_ISL_EN i.idx = false) (hpower : (s.island i).power = .gated) (hforce : (s.island i).force ≠ 2)
    (hcause : s.enableCause (withField (s.rd Reg.PLN_ISL_EN) i.idx 1 1) i = none) :
    Completes (.islandEnable req i) s fun t =>
      (∀ j : Island, t.bit Reg.PLN_ISL_EN j.idx = (s.bit Reg.PLN_ISL_EN j.idx || decide (j = i))) ∧ (t.island i).waking = true ∧
      (t.island i).power = .gated := by
  refine ⟨s.writeReg req Reg.PLN_ISL_EN _, rfl, ?_⟩
  have hw := State.writeReg_islEn hopen hword (islEn_word hi hword)
  have hen := State.writeEnables_enable
    (s := s.onBus (busActivity (regAcc req Reg.PLN_ISL_EN (withField (s.rd Reg.PLN_ISL_EN) i.idx 1 1)))) hi hbit hcause
  rw [State.onBus_rd] at hen
  generalize hu : ((s.onBus _).wr Reg.PLN_ISL_EN _) = u at hen
  have hisl : u.island i = s.island i := by rw [← hu]; rfl
  rw [State.islandEnabled_gated (by rw [hisl, hpower]) (by rw [hisl]; exact hforce)] at hen
  rw [hen] at hw
  obtain ⟨m, hm⟩ := hw (by rw [State.setIsland_arm, ← hu]; exact hrun) (by rw [State.setIsland_nrg, ← hu]; rfl)
  rw [hm]
  refine ⟨fun j => ?_, ?_, ?_⟩
  · rw [State.withMon_bit, State.reparity_bit, State.setIsland_bit, ← hu, State.wr_bit_self]
    refine (getLsbD_withField_idx _ true i j).trans ?_
    by_cases hj : j = i
    · simp [hj]
    · simp [hj, State.bit]
  · rw [State.withMon_island, State.reparity_island, State.setIsland_island_self]
  · rw [State.withMon_island, State.reparity_island, State.setIsland_island_self, ← hpower, ← hisl]

theorem islandGate_drains {s : State} {req : Requester} {i : Island} (hi : i ≠ .pln) (hrun : s.arm.run = none)
    (hword : s.rd Reg.PLN_ISL_EN &&& (rowOf Reg.PLN_ISL_EN).reservedBits = 0)
    (hopen : s.openFor (regAcc req Reg.PLN_ISL_EN (withField (s.rd Reg.PLN_ISL_EN) i.idx 1 0)) .pln = true)
    (hbit : s.bit Reg.PLN_ISL_EN i.idx = true) (hpower : (s.island i).power = .on) (hdrain : (s.island i).drain = none)
    (hcause : s.gateCause (withField (s.rd Reg.PLN_ISL_EN) i.idx 1 0) i = none) :
    Completes (.islandGate req i) s fun t =>
      (∀ j : Island, t.bit Reg.PLN_ISL_EN j.idx = (s.bit Reg.PLN_ISL_EN j.idx && decide (j ≠ i))) ∧
      (t.island i).drain = some .gated := by
  refine ⟨s.writeReg req Reg.PLN_ISL_EN _, rfl, ?_⟩
  have hw := State.writeReg_islEn hopen hword (islEn_word hi hword)
  have hgate := State.writeEnables_gate
    (s := s.onBus (busActivity (regAcc req Reg.PLN_ISL_EN (withField (s.rd Reg.PLN_ISL_EN) i.idx 1 0)))) hi hbit hcause
  rw [State.onBus_rd] at hgate
  generalize hu : ((s.onBus _).wr Reg.PLN_ISL_EN _) = u at hgate
  have hend := u.gatedTrafficEnd_settled i
  have hpower' : ((u.gatedTrafficEnd i).island i).power = .on := (hend.power i).trans (by rw [← hu]; exact hpower)
  have hdrain' : ((u.gatedTrafficEnd i).island i).drain = none := (hend.drain i).trans (by rw [← hu]; exact hdrain)
  have harm : (u.gatedTrafficEnd i).arm = s.arm := hend.arm.trans (by rw [← hu]; rfl)
  have hready : (u.gatedTrafficEnd i).nrg.ready = s.nrg.ready := (congrArg NrgSt.ready hend.nrg).trans (by rw [← hu]; rfl)
  rw [State.islandDisabled, State.sleepTo_on hpower' hdrain'] at hgate
  rw [hgate] at hw
  obtain ⟨m, hm⟩ := hw (by rw [State.setIsland_arm, harm, hrun]) (by rw [State.setIsland_nrg, hready])
  rw [hm]
  refine ⟨fun j => ?_, by rw [State.withMon_island, State.reparity_island, State.setIsland_island_self]⟩
  have hrd : (u.gatedTrafficEnd i).rd Reg.PLN_ISL_EN = withField (s.rd Reg.PLN_ISL_EN) i.idx 1 0 :=
    (hend.rd _ (by decide)).trans (by rw [← hu]; exact State.wr_rd_self _ _ _)
  rw [State.withMon_bit, State.reparity_bit, State.setIsland_bit, State.bit, hrd]
  refine (getLsbD_withField_idx _ false i j).trans ?_
  by_cases hj : j = i
  · simp [hj]
  · simp [hj, State.bit]

theorem islandEnableAndGate : Claims.IslandEnableAndGate := by
  unfold Claims.IslandEnableAndGate
  exact fun s req i hi hrun hword => ⟨islandEnable_sets hi hrun hword, islandGate_drains hi hrun hword⟩

/-- A refusal is reported (R61): no island moves, and beside the log only the event registers change. -/
theorem State.enableRefused_logs (s : State) (n c : Nat) :
    SameIslands s (s.enableRefused n c) ∧ (s.enableRefused n c).arm = s.arm ∧ (s.enableRefused n c).nrg = s.nrg ∧
    (s.enableRefused n c).rd Reg.PLN_ISL_EN = s.rd Reg.PLN_ISL_EN ∧
    (s.bit Reg.PLN_EN_STS 0 = false → (s.enableRefused n c).bit Reg.PLN_EN_STS 0 = true ∧
      (s.enableRefused n c).rd Reg.PLN_EN_REFUSE = word (n % 16 + c * 16)) ∧
    (s.bit Reg.PLN_EN_STS 0 = true → (s.enableRefused n c).bit Reg.PLN_EN_STS 1 = true ∧
      (s.enableRefused n c).rd Reg.PLN_EN_REFUSE = s.rd Reg.PLN_EN_REFUSE) := by
  unfold State.enableRefused
  dsimp only
  cases hsts : s.bit Reg.PLN_EN_STS 0
  case false =>
    rw [if_neg (by decide)]
    have h := (Settled.refl ((s.setBit Reg.PLN_EN_STS 0 true).wr Reg.PLN_EN_REFUSE (word (n % 16 + c * 16)))).raise (src := 558) (by decide)
    have hbit := congrArg (·.getLsbD 0) (h.rd Reg.PLN_EN_STS (by decide))
    refine ⟨fun i => ⟨h.power i, h.drain i⟩, h.arm, h.nrg, ?_, fun _ => ⟨?_, ?_⟩, fun h => absurd h (by decide)⟩
    · rw [h.rd _ (by decide), State.wr_rd_ne _ (by decide), State.setBit_rd_ne _ (by decide)]
    · refine hbit.trans ?_
      exact (State.wr_bit_other (by decide)).trans (State.setBit_bit_self (by decide))
    · rw [h.rd _ (by decide), State.wr_rd_self]
  case true =>
    rw [if_pos rfl]
    have h := (Settled.refl (s.setBit Reg.PLN_EN_STS 1 true)).raise (src := 558) (by decide)
    have hbit := congrArg (·.getLsbD 1) (h.rd Reg.PLN_EN_STS (by decide))
    refine ⟨fun i => ⟨h.power i, h.drain i⟩, h.arm, h.nrg, ?_, fun h => absurd h (by decide), fun _ => ⟨?_, ?_⟩⟩
    · rw [h.rd _ (by decide), State.setBit_rd_ne _ (by decide)]
    · exact hbit.trans (State.setBit_bit_self (by decide))
    · rw [h.rd _ (by decide), State.setBit_rd_ne _ (by decide)]

theorem refusedEnableIsLogged : Claims.RefusedEnableIsLogged := by
  unfold Claims.RefusedEnableIsLogged
  intro s req i c hi hrun hword hopen hbit hcause
  refine ⟨s.writeReg req Reg.PLN_ISL_EN _, rfl, ?_⟩
  have hw := State.writeReg_islEn hopen hword (islEn_word hi hword)
  have hen := State.writeEnables_refused
    (s := s.onBus (busActivity (regAcc req Reg.PLN_ISL_EN (withField (s.rd Reg.PLN_ISL_EN) i.idx 1 1)))) hi hbit hcause
  rw [State.onBus_rd] at hen
  generalize hu : ((s.onBus _).wr Reg.PLN_ISL_EN _) = u at hen
  have hrd {k : Nat} (hk : k ≠ Reg.PLN_ISL_EN) : u.rd k = s.rd k := by
    rw [← hu, State.wr_rd_ne _ hk, State.onBus_rd]
  have hsts : u.rd Reg.PLN_EN_STS = s.rd Reg.PLN_EN_STS := hrd (by decide)
  have hlog : u.rd Reg.PLN_EN_REFUSE = s.rd Reg.PLN_EN_REFUSE := hrd (by decide)
  obtain ⟨hislands, harm, hnrg, hisl, hfirst, hmore⟩ := u.enableRefused_logs i.idx c
  rw [State.bit, hsts] at hfirst hmore
  rw [hen] at hw
  obtain ⟨m, hm⟩ := hw (by rw [harm, ← hu]; exact hrun) (by rw [hnrg, ← hu]; rfl)
  rw [hm]
  refine ⟨?_, fun j => ?_, hfirst, fun h => ?_⟩
  · rw [State.withMon_rd, State.reparity_rd, hisl, ← hu, State.wr_rd_self]
  · rw [State.withMon_island, State.reparity_island, (hislands j).1, (hislands j).2, ← hu]
    exact ⟨rfl, rfl⟩
  · rw [← hlog]
    exact hmore h

/-- Settles O8: one bit of PLN_ISL_EN changes, and the judging of the enables comes down to that island. -/
theorem islandsAreEnabledAndGated : Obligations.IslandsAreEnabledAndGated := ⟨islandEnableAndGate, refusedEnableIsLogged⟩

end Sys2Proof.Machine
end

section
/-!
PROOFS. Islands fall asleep (R57, R63): the idle timeout, the end of the drain and the planner's pass that it may start.
-/

namespace Sys2Proof.Machine
open Sys2Proof.Claims

/-! ### What an island loses with its supply

An island that loses its state loses registers and its own part of the state (R58): what follows belongs to no island but the Plinth. -/

def State.common (s : State) : Tab Word × Tab IslSt × Tab SramWord × ArmSt × Word × Tab (Option PairOpen) × NrgSt :=
  (s.regs, s.isl, s.sram, s.arm, s.fpwr, s.pairs, s.nrg)

theorem State.common_eq_iff {s t : State} : t.common = s.common ↔
    t.regs = s.regs ∧ t.isl = s.isl ∧ t.sram = s.sram ∧ t.arm = s.arm ∧ t.fpwr = s.fpwr ∧ t.pairs = s.pairs ∧
      t.nrg = s.nrg := by
  simp only [State.common, Prod.mk.injEq]

section
variable (s : State)

theorem State.common_setQue (x : QueSt) : { s with que := x }.common = s.common := rfl

theorem State.common_setTrg (x : TrgSt) : { s with trg := x }.common = s.common := rfl

theorem State.common_setQuad (q : Nat) (x : Quad) : (s.setQuad q x).common = s.common := rfl

theorem State.common_setPort (p : Nat) (x : Port) : (s.setPort p x).common = s.common := rfl

theorem State.common_loseRecord (slot port : Option Nat) : (s.loseRecord slot port).common = s.common := by
  cases slot <;> cases port <;> rfl

theorem State.common_loseUnits (i : Island) : (s.loseUnits i).common = s.common := by
  cases i
  case que =>
    refine (State.common_setQue _ _).trans (State.foldl_keeps State.common (fun t e => ?_) _ s)
    split
    · exact t.common_loseRecord _ _
    · rfl
  case tqa | tqb | tqc | tqd =>
    refine (State.common_setQuad _ _ _).trans ((State.common_setTrg _ _).trans ?_)
    exact State.forAll_keeps State.common (fun t k => t.common_setPort _ _) _ s
  all_goals rfl
end

/-- The island in its new power state, before it loses what that state loses (R58). -/
def State.fallen (s : State) (i : Island) (p : Power) : State :=
  s.setIsland i { s.island i with power := p, drain := none, waking := false, powered := false, seq := none, cause := false }

theorem State.fallen_island (s : State) (i : Island) (p : Power) : ((s.fallen i p).island i).power = p ∧
    ((s.fallen i p).island i).drain = none := by
  rw [State.fallen, State.setIsland_island_self]
  exact ⟨rfl, rfl⟩

/-! ### What other islands and the planner leave of an island -/

/-- Power state and drain of an island, the SRAM and the running commit are as in `z`. -/
structure Undisturbed (i : Island) (z s : State) : Prop where
  power : (s.island i).power = (z.island i).power
  drain : (s.island i).drain = (z.island i).drain
  sram : s.sram = z.sram
  run : s.arm.run = z.arm.run

namespace Undisturbed

variable {i j : Island} {z s : State} {p : Power}

theorem refl (s : State) : Undisturbed i s s := ⟨rfl, rfl, rfl, rfl⟩

/-- An update that moves no island. -/
theorem upd {t : State} (h : Undisturbed i z s) (h1 : t.isl = s.isl := by rfl) (h2 : t.sram = s.sram := by rfl)
    (h3 : t.arm = s.arm := by rfl) : Undisturbed i z t := by
  have hisl : t.island i = s.island i := congrArg (Tab.get (islDefault i) · i.idx) h1
  exact ⟨by rw [hisl, h.power], by rw [hisl, h.drain], h2.trans h.sram, (congrArg ArmSt.run h3).trans h.run⟩

theorem wr {k : Nat} {v : Word} (h : Undisturbed i z s) : Undisturbed i z (s.wr k v) := h.upd

theorem setFld {k lo w n : Nat} (h : Undisturbed i z s) : Undisturbed i z (s.setFld k lo w n) := h.wr

theorem setBit {k b : Nat} {x : Bool} (h : Undisturbed i z s) : Undisturbed i z (s.setBit k b x) := h.wr

theorem settled {t u : State} (h : Undisturbed i z u) (hs : Settled u t) : Undisturbed i z t :=
  ⟨(hs.power i).trans h.power, (hs.drain i).trans h.drain, hs.sram.trans h.sram, (congrArg ArmSt.run hs.arm).trans h.run⟩

theorem ite {a b : State} {c : Prop} [Decidable c] (ha : Undisturbed i z a) (hb : Undisturbed i z b) :
    Undisturbed i z (if c then a else b) := by
  split
  · exact ha
  · exact hb

theorem ite_of {a b : State} {c : Prop} [Decidable c] (ha : c → Undisturbed i z a) (hb : ¬c → Undisturbed i z b) :
    Undisturbed i z (if c then a else b) := by
  split
  case isTrue hc => exact ha hc
  case isFalse hc => exact hb hc

theorem foldl {α : Type} {f : State → α → State} (l : List α) (h : Undisturbed i z s)
    (hf : ∀ t a, Undisturbed i z t → Undisturbed i z (f t a)) : Undisturbed i z (l.foldl f s) :=
  List.foldlRecOn l f (motive := Undisturbed i z) h fun t ht a _ => hf t a ht

theorem setIsland {x : IslSt} (h : Undisturbed i z s) (hji : j ≠ i) : Undisturbed i z (s.setIsland j x) := by
  have hisl : (s.setIsland j x).island i = s.island i := State.setIsland_island_ne s (Ne.symm hji) x
  exact ⟨by rw [hisl, h.power], by rw [hisl, h.drain], h.sram, h.run⟩

/-- A step of the sequencer begins at no island that sleeps, and changes neither power nor drain (R82). -/
theorem kickSeq (h : Undisturbed i z s) : Undisturbed i z (s.kickSeq j) := by
  have hr := (Rests.refl s).kickSeq (i := j)
  obtain ⟨-, harm, hsram, -⟩ := s.kickSeq_frame j
  exact ⟨(hr.power i).trans h.power, (hr.drain i).trans h.drain, hsram.trans h.sram, (congrArg ArmSt.run harm).trans h.run⟩

theorem raise {src : Nat} (h : Undisturbed i z s) (hs : src < 576) : Undisturbed i z (s.raise src) :=
  h.settled ((Settled.refl s).raise hs)

theorem raiseBit {reg b src : Nat} (h : Undisturbed i z s) (hs : src < 576) : Undisturbed i z (s.raiseBit reg b src) :=
  (h.upd (t := s.setBit reg b true)).raise hs

theorem loseUnits (h : Undisturbed i z s) : Undisturbed i z (s.loseUnits j) := by
  obtain ⟨-, hisl, hsram, harm, -⟩ := State.common_eq_iff.1 (s.common_loseUnits j)
  exact h.upd hisl hsram harm

theorem loseState (h : Undisturbed i z s) : Undisturbed i z (s.loseState j) :=
  (h.upd (t := s.resetRegs j)).loseUnits

/-- Another island falls asleep. -/
theorem enterPower (h : Undisturbed i z s) (hji : j ≠ i) (hp : p ≠ .gated) : Undisturbed i z (s.enterPower j p) := by
  have hfall : Undisturbed i z (s.fallen j p) := h.setIsland hji
  have hlost : Undisturbed i z (if p = .off ∨ p = .gated then (s.fallen j p).loseState j else s.fallen j p) := .ite hfall.loseState hfall
  unfold State.enterPower
  dsimp only
  cases p
  case gated => exact absurd rfl hp
  all_goals exact .ite (hlost.setIsland hji) (.ite (hlost.setIsland hji) hlost)

theorem sleepTo (h : Undisturbed i z s) (hji : j ≠ i) (hp : p ≠ .gated) : Undisturbed i z (s.sleepTo j p) := by
  unfold State.sleepTo
  dsimp only
  split
  · exact h
  · exact .ite (h.enterPower hji hp) (.ite (h.setIsland hji) h)
  · exact .ite (h.enterPower hji hp) (.ite (h.setIsland hji) h)
  · split
    · exact .ite (h.setIsland hji) h
    · exact h.setIsland hji

/-! The planner's pass (R266 to R269). -/

theorem abortEye {x : Bool} (h : Undisturbed i z s) : Undisturbed i z (s.abortEye x) := by
  refine .ite (.ite (.raiseBit ?_ (by decide)) ?_) h
  · exact h.upd
  · exact h.upd

theorem prbsSettle (h : Undisturbed i z s) : Undisturbed i z s.prbsSettle :=
  .ite h (h.foldl _ fun _ _ ht => .ite ht ht.upd)

theorem shedPrbs (h : Undisturbed i z s) : Undisturbed i z s.shedPrbs :=
  .ite (.raiseBit (h.prbsSettle.upd) (by decide)) h.prbsSettle

theorem sleepAllIdle (h : Undisturbed i z s) (hz : (z.island i).power = .off ∨ (z.island i).power = .gated) :
    Undisturbed i z s.sleepAllIdle := by
  refine h.foldl _ fun t j ht => ?_
  dsimp only
  split
  case isFalse => exact ht
  case isTrue =>
    by_cases hji : j = i
    · subst hji
      rw [← ht.power] at hz
      rcases hz with hoff | hgated
      · rw [hoff]
        exact ht
      · rw [hgated]
        exact ht
    · split
      · exact ht.sleepTo hji (by split <;> decide)
      · exact .ite (ht.sleepTo hji (by decide)) ht
      · exact ht

theorem shedAction {n : Nat} (h : Undisturbed i z s) (hz : (z.island i).power = .off ∨ (z.island i).power = .gated) :
    Undisturbed i z (s.shedAction n) := by
  unfold State.shedAction
  split
  · exact h.abortEye.shedPrbs
  · exact .ite h.upd h
  · exact h.foldl _ fun _ _ ht => ht.kickSeq
  · exact h.sleepAllIdle hz
  · exact h

theorem admitWork (h : Undisturbed i z s) : Undisturbed i z s.admitWork := h.foldl _ fun _ _ ht => .ite ht.upd ht

theorem showNrg (h : Undisturbed i z s) : Undisturbed i z s.showNrg :=
  h.wr.setFld.setBit.wr.wr

theorem planPass (h : Undisturbed i z s) (hz : (z.island i).power = .off ∨ (z.island i).power = .gated) :
    Undisturbed i z s.planPass :=
  showNrg (admitWork (.ite (.raiseBit (.shedAction h.upd hz) (by decide)) h))

/-! What an island's own fall leaves. -/

theorem setIsland_self {x : IslSt} (h : Undisturbed i z s) (hp : x.power = (s.island i).power) (hd : x.drain = (s.island i).drain) :
    Undisturbed i z (s.setIsland i x) := by
  have hisl : (s.setIsland i x).island i = x := State.setIsland_island_self s i x
  exact ⟨by rw [hisl, hp, h.power], by rw [hisl, hd, h.drain], h.sram, h.run⟩

theorem gatedTrafficEnd (h : Undisturbed i z s) : Undisturbed i z (s.gatedTrafficEnd j) :=
  (h.upd (t := s.withoutTraffic j)).settled (s.gatedTrafficEnd_settled j)

end Undisturbed

/-! ### An island falls asleep -/

theorem Tab.get_filter {α : Type} (d : α) (keep : Nat → Bool) (t : Tab α) (k : Nat) :
    Tab.get d (t.filter fun e => keep e.1) k = if keep k then Tab.get d t k else d := by
  induction t with
  | nil => simp [Tab.get]
  | cons e t ih =>
    obtain ⟨j, v⟩ := e
    by_cases hk : k = j
    · subst hk
      cases hkeep : keep k <;> simp [Tab.get, hkeep, ih]
    · cases hkeep : keep j <;> simp [Tab.get, hkeep, hk, ih]

theorem State.loseUnits_regs (s : State) (i : Island) : (s.loseUnits i).regs = s.regs :=
  (State.common_eq_iff.1 (s.common_loseUnits i)).1

theorem State.resetRegs_rd (s : State) (i : Island) (k : Nat) : (s.resetRegs i).rd k = s.rd k ∨ (s.resetRegs i).rd k = resetVal k := by
  have h : (s.resetRegs i).rd k = if _ then s.rd k else resetVal k :=
    Tab.get_filter (resetVal k) (fun k => !(i.blocks.contains (k / 65536)) || (decide (k = Reg.RNG_JOIN) && s.bit Reg.RNG_JOIN 1)) s.regs k
  rw [h]
  exact ite_eq_or_eq _ _ _

/-- An island that loses its state enables no island. -/
theorem State.loseState_islEn {s : State} {i : Island} {b : Nat} (h : (s.loseState i).bit Reg.PLN_ISL_EN b = true) :
    s.bit Reg.PLN_ISL_EN b = true := by
  have hrd := s.resetRegs_rd i Reg.PLN_ISL_EN
  rw [State.loseState, State.bit, State.rd_of_regs ((s.resetRegs i).loseUnits_regs i)] at h
  rcases hrd with hkept | hreset
  · rwa [hkept] at h
  · rw [hreset, show resetVal Reg.PLN_ISL_EN = 0#18 from rfl, BitVec.getLsbD_zero] at h
    cases h

/-- The island enters the power state; a GATED island that is enabled and held OFF would go on to OFF (R60). -/
theorem State.enterPower_undisturbed {s : State} {i : Island} {p : Power}
    (h : p = .gated → s.bit Reg.PLN_ISL_EN i.idx = false ∨ (s.island i).force ≠ 2) :
    Undisturbed i (s.fallen i p) (s.enterPower i p) := by
  unfold State.enterPower
  dsimp only
  have hlost : Undisturbed i (s.fallen i p) (if p = .off ∨ p = .gated then (s.fallen i p).loseState i else s.fallen i p) :=
    .ite (Undisturbed.refl _).loseState (.refl _)
  have hwake {t : State} (ht : Undisturbed i (s.fallen i p) t) :
      Undisturbed i (s.fallen i p) (t.setIsland i { t.island i with waking := true }) := ht.setIsland_self rfl rfl
  have hbit {b : Nat} (hb : (if p = .off ∨ p = .gated then (s.fallen i p).loseState i else s.fallen i p).bit Reg.PLN_ISL_EN b = true) :
      s.bit Reg.PLN_ISL_EN b = true := by
    split at hb
    · exact State.loseState_islEn (s := s.fallen i p) hb
    · exact hb
  cases p
  case gated =>
    refine .ite_of (fun hen => ?_) fun _ => hlost.gatedTrafficEnd
    have hforce : (s.island i).force ≠ 2 := (h rfl).resolve_left fun hoff => absurd ((hbit hen).symm.trans hoff) (by decide)
    rw [if_neg hforce]
    exact hwake hlost
  all_goals exact .ite (hwake hlost) (.ite (hwake hlost) hlost)

theorem State.enterPower_ceilSources {s : State} {i : Island} {p : Power} (h : ¬(p = .off ∨ p = .gated)) :
    (s.enterPower i p).ceilSources = s.ceilSources := by
  unfold State.enterPower
  dsimp only
  rw [if_neg h]
  split
  · exact absurd (.inr rfl) h
  · split
    · rfl
    · split <;> rfl

theorem drainDone_falls {s : State} {i : Island} {p : Power} (hdrain : (s.island i).drain = some p) (hstep : s.stepping i = false)
    (hrun : s.arm.run = none) (hout : s.drainedOut i = true)
    (hforce : p = .gated → s.bit Reg.PLN_ISL_EN i.idx = false ∨ (s.island i).force ≠ 2) :
    Undisturbed i (s.fallen i p) (s.drained i) := by
  have hdone : s.drainDone i = s.enterPower i p := by
    simp only [State.drainDone, hdrain, hstep, Bool.false_eq_true, if_false]
  have hentered := State.enterPower_undisturbed hforce
  have hceil : Undisturbed i (s.fallen i p) ((s.drainDone i).ceilingFrom s.ceilSources) := by
    rw [hdone, State.ceilingFrom]
    by_cases hp : p = .off ∨ p = .gated
    · exact .ite hentered (hentered.planPass (by rw [(s.fallen_island i p).1]; exact hp))
    · rw [if_pos (State.enterPower_ceilSources hp)]
      exact hentered
  have hnone : ((s.drainDone i).ceilingFrom s.ceilSources).arm.run = none := hceil.run.trans hrun
  have hgo : ((s.island i).drain.isNone || s.stepping i || !s.drainedOut i) = false := by
    rw [hdrain, hstep, hout]
    rfl
  simp only [State.drained, hgo, Bool.false_eq_true, if_false, hnone]
  exact hceil

end Sys2Proof.Machine
end

section
/-!
PROOFS. Islands sleep and wake (R57 to R59, R63, R68).
-/

namespace Sys2Proof.Machine
open Sys2Proof.Claims

/-! ### What the initialisation of an island leaves of the islands -/

namespace Rests

variable {i : Island} {z s : State}

theorem wr {k : Nat} {v : Word} (h : Rests z s) : Rests z (s.wr k v) := h.upd

theorem setFld {k lo w n : Nat} (h : Rests z s) : Rests z (s.setFld k lo w n) := h.wr

theorem setBit {k b : Nat} {x : Bool} (h : Rests z s) : Rests z (s.setBit k b x) := h.wr

theorem bump {k : Nat} (h : Rests z s) : Rests z (s.bump k) := h.wr

theorem forAll {f : State → Nat → State} (l : List Nat) (h : Rests z s) (hf : ∀ t k, Rests z t → Rests z (f t k)) :
    Rests z (s.forAll l f) := h.foldl l hf

theorem setSram {w : Nat} {x : SramWord} (h : Rests z s) : Rests z (s.setSram w x) := h.upd

/-- The report of a wrong SRAM word (R26). -/
theorem eccNote {w : Nat} {ue : Bool} (h : Rests z s) : Rests z (s.eccNote w ue) := by
  have hnoted : Rests z ((if s.bit Reg.MEM_ECC_STS (flag ue) then s.setBit Reg.MEM_ECC_STS 2 true
      else (s.setBit Reg.MEM_ECC_STS (flag ue) true).wr (if ue then Reg.MEM_UE_ADDR else Reg.MEM_CE_ADDR) (word w)).bump
        (if ue then Reg.MEM_UE_CNT else Reg.MEM_CE_CNT (w / 32768)) |>.raise 559) :=
    .raise (.bump (.ite h.setBit h.setBit.wr)) (by decide)
  exact .ite (.raiseBit hnoted.wr (by decide)) hnoted

theorem sramRead {w : Nat} (h : Rests z s) : Rests z (s.sramRead w).2.2 := by
  unfold State.sramRead
  dsimp only
  split
  · exact h
  · dsimp only
    exact h.setSram.eccNote
  · exact h.eccNote

theorem foldl_sramRead (l : List Nat) {p : Bool × State} (h : Rests z p.2) :
    Rests z (l.foldl (fun p w => let r := p.2.sramRead w; (p.1 || r.2.1, r.2.2)) p).2 := by
  induction l generalizing p with
  | nil => exact h
  | cons w l ih =>
    rw [List.foldl_cons]
    refine ih ?_
    dsimp only
    exact h.sramRead

theorem readShadow (h : Rests z s) : Rests z (s.readShadow i).2 := foldl_sramRead _ h

theorem setPort {k : Nat} {x : Port} (h : Rests z s) : Rests z (s.setPort k x) := h.upd

theorem setCan {c : Nat} {x : Can} (h : Rests z s) : Rests z (s.setCan c x) := h.upd

theorem setVe {v : Nat} {x : Ve} (h : Rests z s) : Rests z (s.setVe v x) := h.upd

theorem setSe {n : Nat} {x : Se} (h : Rests z s) : Rests z (s.setSe n x) := h.upd

theorem setInterval {n : Nat} {v : Word36} (h : Rests z s) : Rests z (s.setInterval n v) := .ite h.setSe.setSe h.setSe

theorem idleDrive {p : Nat} (h : Rests z s) : Rests z (s.idleDrive p) := h.setPort

theorem directDrive {p : Nat} (h : Rests z s) : Rests z (s.directDrive p) := .ite h.setPort h

theorem fbLeaveInit {c : Nat} (h : Rests z s) : Rests z (s.fbLeaveInit c) := .ite h.setBit.wr.wr.wr.wr.setCan h

theorem fldInit (h : Rests z s) : Rests z s.fldInit :=
  .forAll _ h.wr fun _ _ ht => .ite ht.setFld ht.fbLeaveInit

theorem setRing {st : Nat} (h : Rests z s) : Rests z (s.setRing st) := by
  have hstate : Rests z (if st = 6 then s.setFld Reg.RNG_STS 0 3 st else (s.setFld Reg.RNG_STS 0 3 st).setFld Reg.RNG_STS 15 2 0) :=
    .ite h.setFld h.setFld.setFld
  exact .ite (.forAll _ hstate fun _ _ ht => .ite ht.idleDrive ht) hstate

theorem showNode (h : Rests z s) : Rests z s.showNode := .ite (.raiseBit h.wr.setBit (by decide)) h.wr.setBit

theorem startTrain (h : Rests z s) : Rests z s.startTrain := .showNode (.ite (.setRing h.upd) h.upd)

theorem setMot {x : MotSt} (h : Rests z s) : Rests z { s with mot := x } := h.upd

theorem initIsland (h : Rests z s) : Rests z (s.initIsland i) := by
  cases i
  case rng => exact .ite h h.setBit
  case fld => exact h.fldInit
  case mot =>
    exact .forAll _ (.forAll _ h.setMot fun _ _ ht => ht.setSe) fun _ _ ht => .ite ht ht.setFld
  case tqa | tqb | tqc | tqd => exact .forAll _ h fun _ _ ht => .ite ht ht.setPort
  all_goals exact h

theorem reinitialise (h : Rests z s) : Rests z (s.reinitialise i) := by
  unfold State.reinitialise
  dsimp only
  split
  · exact .forAll _ h.initIsland.setFld fun _ _ ht => ht.directDrive
  · exact .ite h.initIsland.startTrain h.initIsland

theorem setSat_prefetch (h : Rests z s) : Rests z { s with sat := { s.sat with prefetch := [] } } :=
  h.quieted fun hs => calm_iff.2 (calm_iff.1 hs)

theorem recastInit (h : Rests z s) : Rests z (s.recastInit i) := by
  cases i
  case mot =>
    exact .forAll _ (.forAll _ (.forAll _ h fun _ _ ht => .ite ht ht.setVe) fun _ _ ht => .ite ht ht.setInterval)
      fun _ _ ht => .ite ht.setFld ht
  case tqa | tqb | tqc | tqd => exact .forAll _ h fun _ _ ht => .ite ht.idleDrive.directDrive ht
  case fld => exact .foldl _ h.wr fun _ _ ht => .ite ht (.ite ht.setFld ht.fbLeaveInit)
  case sat => exact h.setSat_prefetch
  case rng => exact h.initIsland (i := .rng)
  all_goals exact h

/-- What is parked for the island is delivered: events of the device (R65, R66). -/
theorem deliverParked (h : Rests z s) (ho : OnlyEvents i s) : Rests z (s.deliverParked i) := by
  have hkept : Rests s { s with wakeBuf := s.wakeBuf.filter fun e => !decide (e.1 = i) } :=
    ⟨fun _ => rfl, fun _ _ => rfl, fun hs => (calm_congr rfl rfl rfl rfl).trans hs, id, id, rfl,
      fun j hj e he hej => hj e (List.mem_of_mem_filter he) hej⟩
  unfold State.deliverParked
  dsimp only
  refine List.foldlRecOn _ _ (motive := Rests z) (h.trans hkept) fun t ht e he => ?_
  obtain ⟨src, hsrc, hev⟩ := ho e (List.mem_of_mem_filter he) (of_decide_eq_true (List.mem_filter.1 he).2)
  rw [hev]
  exact ht.trans ((Settled.refl t).takeEvent hsrc).toRests

end Rests

/-! ### The end of a wake -/

section
variable {s : State} {i : Island}

theorem State.serveWaiters_of_none (h : ∀ w ∈ s.waiters, w.isl ≠ i) : s.serveWaiters i = s := by
  have hmine : (s.waiters.filter fun w => decide (w.isl = i)) = [] := by simpa using h
  have hothers : (s.waiters.filter fun w => !decide (w.isl = i)) = s.waiters := by simpa using h
  rw [State.serveWaiters, hmine, hothers]
  rfl

theorem State.commitRaised_of_none (h : s.arm.run = none) : s.commitRaised i = s := by
  rw [State.commitRaised, h]

theorem State.monPump_of_idle (h : s.mon.running = 0) : s.monPump = s := if_pos h

theorem State.flushToHost_of_none (h1 : s.sat.toHost = []) (h2 : s.sat.nonPosted = []) : s.flushToHost = s := by
  rw [State.flushToHost, h1, List.length_nil, List.range_zero, List.foldl_nil, State.finishAll, h2, List.length_nil, State.finishJobs,
    ite_self]

theorem State.issueSplits_of_none (h : s.sat.splits = []) : s.issueSplits = s := by
  have hone (m : Nat) : s.issueSplit m = s := by
    rw [State.issueSplit, State.splitOf, h]
    rfl
  rw [State.issueSplits, State.forAll, List.foldl_cons, List.foldl_cons, List.foldl_nil, hone, hone]

/-- Nothing that waits is taken along. -/
theorem State.wakeRest_of_calm (h : calm s = true) :
    (if i = .sat then (s.commitRaised i).flushToHost.issueSplits else s.commitRaised i).startReady.monPump = s := by
  obtain ⟨hrun, hmon, hready, hhost, hsplits, hwork⟩ := calm_iff.1 h
  rw [State.commitRaised_of_none hrun, State.flushToHost_of_none hhost hwork, State.issueSplits_of_none hsplits, ite_self,
    State.startReady_of_none hready, State.monPump_of_idle hmon]

/-- Once the island is ON, all that follows lets the islands rest. -/
theorem State.afterOn_rests {lost recast : Bool} (ho : OnlyEvents i s) (hw : ∀ w ∈ s.waiters, w.isl ≠ i) (hc : calm s = true) :
    Rests s (if i = .sat then (((((if lost then s.reinitialise i else if recast then s.recastInit i else s).kickSeq i).deliverParked
        i).serveWaiters i).commitRaised i).flushToHost.issueSplits
      else ((((if lost then s.reinitialise i else if recast then s.recastInit i else s).kickSeq i).deliverParked
        i).serveWaiters i).commitRaised i).startReady.monPump := by
  have hinit : Rests s (if lost then s.reinitialise i else if recast then s.recastInit i else s) :=
    .ite (Rests.refl s).reinitialise (.ite (Rests.refl s).recastInit (.refl s))
  have hserved := (hinit.kickSeq (i := i)).deliverParked (hinit.kickSeq.parked i ho)
  rw [State.serveWaiters_of_none (by rw [hserved.waiters]; exact hw), State.wakeRest_of_calm (hserved.quiet hc)]
  exact hserved

/-- The island is ON, LOST where it was without supply, but not the first time; beyond that islands rest (R58, R59). -/
theorem State.reachOn_rests (ho : OnlyEvents i s) (hw : ∀ w ∈ s.waiters, w.isl ≠ i) (hc : calm s = true) :
    ∃ y : IslSt, y.power = .on ∧ y.waking = false ∧
      y.lost = ((s.island i).lost || (decide ((s.island i).power ≠ .doze) && (s.island i).broughtUp)) ∧
      Rests (s.setIsland i y) (s.reachOn i) := by
  unfold State.reachOn
  dsimp only
  refine ⟨_, ?_, ?_, ?_, State.afterOn_rests (s := s.setIsland i _) ho hw hc⟩
  all_goals rfl

theorem wakeDone_reaches (hwaking : (s.island i).waking = true) (hoff : (s.island i).power ≠ .on) (hpln : s.stopped .pln = false)
    (hrun : s.stopped i = false) (hfree : s.wakeForbidden i = false) (hreset : s.inReset i = false) (hwork : s.hasWork i = false)
    (hc : calm s = true) (hshadow : (s.island i).power ≠ .doze → (s.island i).powered = true ∧ (s.readShadow i).1 = false) :
    Completes (.islandWakeDone i) s fun t =>
      (t.island i).power = .on ∧ (t.island i).waking = false ∧
      (t.island i).lost = ((s.island i).lost || (decide ((s.island i).power ≠ .doze) && (s.island i).broughtUp)) := by
  have hnone : s.recastHolds i = false := by rw [State.recastHolds, (calm_iff.1 hc).1]
  simp only [State.hasWork, Bool.or_eq_false_iff, List.any_eq_false, decide_eq_true_eq] at hwork
  obtain ⟨hbuf, hwait⟩ := hwork
  have hevents : OnlyEvents i s := fun e he hei => absurd hei (hbuf e he)
  obtain ⟨u, hu, hdone⟩ : ∃ u, Rests s u ∧ s.wakeDone i = u.reachOn i := by
    unfold State.wakeDone
    simp only [hwaking, hoff, hfree, hreset, hnone, hpln, hrun]
    by_cases hdoze : (s.island i).power = .doze
    · refine ⟨s, .refl s, ?_⟩
      simp [hdoze]
    · obtain ⟨hpow, hgood⟩ := hshadow hdoze
      refine ⟨(s.readShadow i).2, (Rests.refl s).readShadow, ?_⟩
      simp [hdoze, hpow, hgood]
  obtain ⟨y, hpower, hwake, hlost, hrest⟩ :=
    State.reachOn_rests (hu.parked i hevents) (by rw [hu.waiters]; exact hwait) (hu.quiet hc)
  refine ⟨s.wakeDone i, rfl, ?_⟩
  rw [hdone]
  have hisl : (u.setIsland i y).island i = y := State.setIsland_island_self u i y
  refine ⟨?_, ?_, ?_⟩
  · rw [hrest.power, hisl, hpower]
  · rw [hrest.awake i (by rw [hisl, hpower]), hisl, hwake]
  · rw [hrest.lost, hisl, hlost, hu.lost, hu.power, hu.broughtUp]
end

theorem islandSleepAndWake : Claims.IslandSleepAndWake := by
  unfold Claims.IslandSleepAndWake
  refine ⟨?_, ?_, ?_, fun s i hw hoff hpln hrun hfree hreset hwork hc hshadow =>
    wakeDone_reaches hw hoff hpln hrun hfree hreset hwork hc hshadow⟩
  · intro s i hon hdrain hidle hforce htimer hmay hlong
    obtain ⟨a, ha, hlate⟩ := hlong
    have hslept : s.idleTimeout i =
        s.setIsland i { s.island i with drain := some (if i.variable then .doze else .off), cause := false } := by
      have hpassed : s.passed a (usTicks (s.rd (Reg.PLN_ISL_IDLE i.idx)).toNat) = true := decide_eq_true hlate
      have hset : (s.rd (Reg.PLN_ISL_IDLE i.idx)).toNat ≠ 0 := fun h => htimer (BitVec.eq_of_toNat_eq h)
      rw [← State.sleepTo_on hon hdrain]
      simp [State.idleTimeout, hon, hdrain, hidle, ha, hpassed, hforce, hset, hmay, State.sleepIdle]
    have hstep : (s.setIsland i { s.island i with drain := some (if i.variable then .doze else .off), cause := false }).stepping i =
        s.stepping i := by
      unfold State.stepping
      rw [State.setIsland_island_self]
      rfl
    refine ⟨s.idleTimeout i, rfl, ?_⟩
    rw [hslept]
    refine ⟨by rw [State.setIsland_island_self], ?_, fun _ _ => rfl, fun _ => rfl, rfl⟩
    rw [State.gateClosed, hstep, State.setIsland_island_self]
    simp [hon]
  · intro s i p hdrain hstep hrun hout hforce
    have hfall := drainDone_falls hdrain hstep hrun hout hforce
    obtain ⟨hpower, hnone⟩ := s.fallen_island i p
    exact ⟨s.drained i, rfl, hfall.power.trans hpower, hfall.drain.trans hnone, State.sramW_of_sram hfall.sram⟩
  · intro s i hnext hpor hrun hlate
    have hup : s.powerUpNext = ({ s.modIsland i fun x => { x with powered := true } with
        boot := { s.boot with lastPowerUpAt := some s.now } }).setFld Reg.PLN_BOOT 4 4 i.idx := by
      unfold State.powerUpNext
      cases ha : s.boot.lastPowerUpAt with
      | none => simp [hnext, hpor, hrun]
      | some a =>
        have hpassed : s.passed a (usTicks 200) = true := decide_eq_true (hlate a ha)
        simp [hnext, hpor, hrun, hpassed]
    refine ⟨s.powerUpNext, rfl, ?_⟩
    rw [hup]
    refine ⟨?_, rfl, ?_, fun k hk => ?_, fun _ => rfl, rfl⟩
    · exact congrArg IslSt.powered (State.setIsland_island_self s i _)
    · rw [State.setFld_fld_self (by decide)]
      exact Nat.mod_eq_of_lt (by cases i <;> decide)
    · exact State.setFld_rd_ne _ (of_decide_eq_false hk) _ _ _

end Sys2Proof.Machine
end

section
/-!
PROOFS. The forced power modes (R46, R57, R61): the _C write of pair 5.
-/

namespace Sys2Proof.Machine
open Sys2Proof.Claims

/-! ### What a forced mode leaves -/

/-- The forced mode of an island, its value in PLN_FPWR_V, the pairs and the work admitted are as in `z`. -/
structure KeepsForce (i : Island) (z s : State) : Prop where
  force : (s.island i).force = (z.island i).force
  fpwr : s.fpwr = z.fpwr
  pairs : s.pairs = z.pairs
  ready : s.nrg.ready = z.nrg.ready

namespace KeepsForce

variable {i : Island} {z s : State}

theorem refl (s : State) : KeepsForce i s s := ⟨rfl, rfl, rfl, rfl⟩

theorem ite {a b : State} {c : Prop} [Decidable c] (ha : KeepsForce i z a) (hb : KeepsForce i z b) :
    KeepsForce i z (if c then a else b) := by
  split
  · exact ha
  · exact hb

theorem setIsland {x : IslSt} (h : KeepsForce i z s) (hx : x.force = (s.island i).force) : KeepsForce i z (s.setIsland i x) := by
  refine ⟨?_, h.fpwr, h.pairs, h.ready⟩
  rw [State.setIsland_island_self, hx, h.force]

theorem wake (h : KeepsForce i z s) : KeepsForce i z (s.wake i) := by
  have hs := (Settled.refl s).wake (i := i)
  exact ⟨(hs.force i).trans h.force, hs.fpwr.trans h.fpwr, hs.pairs.trans h.pairs, (congrArg NrgSt.ready hs.nrg).trans h.ready⟩

theorem loseState (h : KeepsForce i z s) : KeepsForce i z (s.loseState i) := by
  obtain ⟨-, hisl, -, -, hfpwr, hpairs, hnrg⟩ := State.common_eq_iff.1 ((s.resetRegs i).common_loseUnits i)
  have hi : (s.loseState i).island i = s.island i := congrArg (Tab.get (islDefault i) · i.idx) hisl
  exact ⟨by rw [hi, h.force], hfpwr.trans h.fpwr, hpairs.trans h.pairs, (congrArg NrgSt.ready hnrg).trans h.ready⟩

theorem enterOff (h : KeepsForce i z s) : KeepsForce i z (s.enterPower i .off) := by
  have hfall : KeepsForce i z (s.fallen i .off) := h.setIsland rfl
  have hlost := hfall.loseState
  unfold State.enterPower
  dsimp only
  exact .ite (.setIsland (.ite hlost hfall) rfl) (.ite (.setIsland (.ite hlost hfall) rfl) (.ite hlost hfall))

theorem sleepOff (h : KeepsForce i z s) : KeepsForce i z (s.sleepTo i .off) := by
  unfold State.sleepTo
  dsimp only
  split
  · exact h
  · exact .ite h.enterOff (.ite (h.setIsland rfl) h)
  · exact .ite h.enterOff (.ite (h.setIsland rfl) h)
  · split
    · exact .ite (h.setIsland rfl) h
    · exact h.setIsland rfl

end KeepsForce

/-! ### The mode comes into force -/

/-- The word of an island and a mode, taken apart (R61). -/
theorem forceWord (i : Island) {mode : Nat} (h : mode < 3) : fieldOf (word (i.idx + 16 * mode)) 0 4 = i.idx ∧
    fieldOf (word (i.idx + 16 * mode)) 4 2 = mode ∧ word (i.idx + 16 * mode) &&& 0x3F = word (i.idx + 16 * mode) ∧
    Island.ofIdx i.idx = some i := by
  revert h
  cases i <;> revert mode <;> decide

/-- The island with the mode in force, before what the mode starts. -/
def State.withForce (s : State) (i : Island) (mode : Nat) : State :=
  { s.modIsland i fun x => { x with force := mode } with fpwr := word (i.idx + 16 * mode) &&& 0x3F }

section
variable {s : State} {i : Island} {mode : Nat}

theorem State.withForce_island : (s.withForce i mode).island i = { s.island i with force := mode } :=
  State.setIsland_island_self s i _

theorem State.forcePower_keeps (hm : mode < 3) (hc : s.forceCause i.idx mode = none) :
    KeepsForce i (s.withForce i mode) (s.forcePower (word (i.idx + 16 * mode))) := by
  obtain ⟨hidx, hmode, -, hi⟩ := forceWord i hm
  have h := KeepsForce.refl (i := i) (s.withForce i mode)
  obtain rfl | rfl | rfl : mode = 0 ∨ mode = 1 ∨ mode = 2 := by omega
  all_goals simp only [State.forcePower, hidx, hmode, hc, hi]
  · exact .ite h.wake (.ite h.wake h)
  · exact h.wake
  · exact .ite (h.sleepOff.setIsland rfl) h.sleepOff

/-- An ON island drains to OFF, or goes on draining where it leads further down. -/
theorem State.sleepOff_on {s : State} (hon : (s.island i).power = .on) : ((s.sleepTo i .off).island i).power = .on ∧
    (((s.sleepTo i .off).island i).drain = some .off ∨ ((s.sleepTo i .off).island i).drain = some .gated) := by
  cases hd : (s.island i).drain with
  | none =>
    rw [State.sleepTo_on hon hd, State.setIsland_island_self]
    exact ⟨hon, .inl rfl⟩
  | some d =>
    simp only [State.sleepTo, hon, hd]
    split
    case isTrue =>
      rw [State.setIsland_island_self]
      exact ⟨rfl, .inl rfl⟩
    case isFalse hdeep =>
      rw [hd]
      refine ⟨hon, ?_⟩
      cases d
      case off => exact .inl rfl
      case gated => exact .inr rfl
      all_goals exact absurd (by decide) hdeep

theorem State.forcePower_off (hc : s.forceCause i.idx 2 = none) (hon : (s.island i).power = .on) :
    ((s.forcePower (word (i.idx + 16 * 2))).island i).drain = some .off ∨
      ((s.forcePower (word (i.idx + 16 * 2))).island i).drain = some .gated := by
  obtain ⟨hidx, hmode, -, hi⟩ := forceWord i (mode := 2) (by decide)
  have hforced : ((s.withForce i 2).island i).power = .on := by
    rw [State.withForce_island]
    exact hon
  obtain ⟨hpower, hdrain⟩ := State.sleepOff_on hforced
  have hstays : ¬((((s.withForce i 2).sleepTo i .off).island i).power = .gated ∧
      ((s.withForce i 2).sleepTo i .off).bit Reg.PLN_ISL_EN i.idx = true) := fun h => absurd (hpower.symm.trans h.1) (by decide)
  have hdone : s.forcePower (word (i.idx + 16 * 2)) = (s.withForce i 2).sleepTo i .off := by
    simp only [State.forcePower, hidx, hmode, hc, hi]
    exact if_neg hstays
  rw [hdone]
  exact hdrain
end

/-! ### The write -/

theorem regAt_pairC_own : ownOffset (pairV 5 + 4) ∧ (rowOf (pairV 5 + 4)).noWritable = false ∧
    regAt ((pairV 5 + 4) / 65536) ((pairV 5 + 4) % 65536) = .reg (rowOf (pairV 5 + 4)) := by
  obtain ⟨hb, ho, hr, hw⟩ := regAt_pairV 5 (by decide) (pairV 5 + 4) (by simp)
  exact ⟨⟨hb, ho⟩, hw, hr⟩

/-- The _C write with the complement of the open pair's value, in time and by its requester, applies it (R46). -/
theorem State.rowWrite_matches {s : State} {req : Requester} {at_ : Nat} {o : PairOpen} (hpair : s.pair 5 = some o) (hreq : o.req = req)
    (htime : at_ ≤ o.openAt + 400000) :
    s.rowWrite (rowOf (pairV 5 + 4)) (pairV 5 + 4) 0 req (~~~o.value) at_ = .ok ((s.setPair 5 none).forcePower o.value) := by
  obtain ⟨-, hw, -⟩ := regAt_pairC_own
  have hres : (~~~o.value) &&& (rowOf (pairV 5 + 4)).reservedBits = 0 := by
    rw [show (rowOf (pairV 5 + 4)).reservedBits = 0#18 from rfl]
    exact BitVec.and_zero
  have hstale : s.pairStale 5 at_ = s := by
    have : ¬o.openAt + msTicks 1 < at_ := Nat.not_lt.2 htime
    simp only [State.pairStale, hpair, this, if_false]
  rw [State.rowWrite, if_neg (by simp [hres]), if_pos rfl, hw, (pairAt?_pairV 5 (by decide)).2]
  simp only [State.pairWrite, hstale, hpair, hreq, State.pairApply]
  simp

theorem forcedPowerModes : Claims.ForcedPowerModes := by
  unfold Claims.ForcedPowerModes
  intro s req i mode c o hmode hpair hreq htime hvalue hopen hcause
  obtain ⟨hm, hexec⟩ : mode < 3 ∧ exec c s = .next (s.forceWrite req i mode) := by
    rcases hmode with ⟨rfl, rfl⟩ | ⟨rfl, rfl⟩ | ⟨rfl, rfl⟩
    · exact ⟨by decide, rfl⟩
    · exact ⟨by decide, rfl⟩
    · exact ⟨by decide, rfl⟩
  refine ⟨_, hexec, ?_⟩
  obtain ⟨hown, -, hrow⟩ := regAt_pairC_own
  rw [← hvalue] at hopen
  generalize hb : (s.onBus (busActivity (regAcc req (pairV 5 + 4) (~~~o.value)))).setPair 5 none = b
  have hc : b.forceCause i.idx mode = none := by
    rw [← hb]
    exact hcause
  have hkeeps := State.forcePower_keeps hm hc
  obtain ⟨-, -, hmask, -⟩ := forceWord i hm
  have hrules := State.rowWrite_matches (s := s.onBus (busActivity (regAcc req (pairV 5 + 4) (~~~o.value)))) (at_ := s.now) hpair hreq htime
  rw [hb, hvalue] at hrules
  rw [hvalue] at hopen
  obtain ⟨m, hw⟩ := State.writeReg_ok hopen hown hrow hrules (hkeeps.ready.trans (by rw [← hb]; rfl))
  have hwrite : s.forceWrite req i mode = (b.forcePower (word (i.idx + 16 * mode))).withMon m := hw
  rw [hwrite]
  refine ⟨?_, ?_, ?_, ?_⟩
  · rw [State.withMon_island, hkeeps.force, State.withForce_island]
  · exact hkeeps.fpwr.trans hmask
  · have hnone : b.pair 5 = none := by
      rw [← hb]
      exact State.setPair_pair_self _ _ _
    exact (congrArg (Tab.get none · 5) hkeeps.pairs).trans hnone
  · rintro rfl hon
    rw [State.withMon_island]
    exact State.forcePower_off hc (by rw [← hb]; exact hon)

end Sys2Proof.Machine
end

section
/-!
PROOFS. Parked writes and waiting requests (R65, R67).
-/

namespace Sys2Proof.Machine
open Sys2Proof.Claims

/-! ### The delivery of a parked write -/

theorem State.answered_write_running (s : State) (a : RegAccess) (v : Word) (ue : Bool) :
    (s.answered true a v ue).mon.running = s.mon.running := by
  cases hq : a.req <;> simp only [State.answered, hq, if_true]

theorem parkedWrite_delivered {s u : State} {i : Island} {a : RegAccess} {n : Nat} (hon : s.isOn i = true) (hgate : s.gateClosed i = false)
    (hrun : s.stopped i = false) (hbuf : s.wakeBuf = [(i, .write a n)]) (hstored : ({ s with wakeBuf := [] } : State).regWrite a n = .ok u)
    (hready : u.nrg.ready = []) (hmon : u.mon.running = 0) (hpark : u.wakeBuf = []) :
    Completes (.parkedWriteDeliver i) s fun t => t.wakeBuf = [] ∧ SameRegsBut u t (fun _ => false) := by
  have hdeliver : s.deliverParked i = ({ s with wakeBuf := [] } : State).perform true a n := by
    simp [State.deliverParked, hbuf, State.deliver]
  have hperform : s.deliverParked i = u.answered true a 0 false := by
    rw [hdeliver]
    simp only [State.perform, if_true, hstored, State.startReady_of_none hready]
  have hdone : exec (.parkedWriteDeliver i) s = .next (u.answered true a 0 false) := by
    have hpump := State.monPump_of_idle ((u.answered_write_running a 0 false).trans hmon)
    rw [← hpump, ← hperform]
    exact congrArg Host.Outcome.next (if_pos (by rw [hon, hgate, hrun]; rfl))
  obtain ⟨m, hm⟩ := u.answered_write a 0 false
  refine ⟨_, hdone, ?_⟩
  rw [hm]
  exact ⟨hpark, fun _ _ => rfl, fun _ => rfl, rfl⟩

/-! ### The end of a wait -/

/-- The answer to a refused access leaves the counter of failed wakes. -/
theorem State.answerRefused_wakeFail (s : State) (write : Bool) (a : RegAccess) (cause : Nat) :
    (s.answerRefused write a cause).rd Reg.PLN_WAKE_FAIL = s.rd Reg.PLN_WAKE_FAIL := by
  cases write
  case true => exact State.answerRefused_rd (by decide) (by decide) (by decide) (by decide) (by decide)
  case false =>
    unfold State.answerRefused
    split
    · exact (s.send_keeps _).rd _ (by decide)
    · split
      · rfl
      · exact State.monReply_rd (by decide) (by decide) (by decide) (by decide)
    · exact (State.splitAnswer_keeps _ _ _).rd _ (by decide)
    · exact (State.splitAnswer_keeps _ _ _).rd _ (by decide)

/-- A refused wait is counted once (R67). -/
theorem State.refuseAccess_wakeFail {s : State} (hrun : s.stopped .pln = false) (write : Bool) (a : RegAccess) :
    (s.refuseAccess write a 11).rd Reg.PLN_WAKE_FAIL = satAdd (s.rd Reg.PLN_WAKE_FAIL) 1 := by
  have hcounted : ((s.logAccess a.req a.addr.toNat (causeCA 11) 11).raiseCause 11).rd Reg.PLN_WAKE_FAIL =
      satAdd (s.rd Reg.PLN_WAKE_FAIL) 1 := by
    rw [State.raiseCause, ((Reported.refl _).raise (by decide)).rd _ (by decide), State.bump, State.bumpBy, State.wr_rd_self,
      State.logAccess_rd_ne (by decide) (by decide) (by decide)]
  rw [State.refuseAccess, State.answerRefused_wakeFail, State.accessRefused, hrun]
  simp only [Bool.false_eq_true, if_false]
  split
  · rw [State.rd_of_regs (State.aer_regs _ _ _)]
    exact hcounted
  · exact hcounted

/-- Jobs of the bridge that wait for SAT end one by one; here none does. -/
theorem State.jobWaitOver_of_none {s : State} (h : s.sat.nonPosted = []) : s.jobWaitOver = s := by
  unfold State.jobWaitOver
  split
  · rfl
  · simp only [h, List.filter_nil, List.foldl_nil]
    rw [← h]

theorem wait_ends {s : State} {i : Island} {w : Waiter} (hoff : s.isOn i = false) (hwaiters : s.waiters = [w]) (hisl : w.isl = i)
    (hlate : w.sinceAt + 400000 ≤ s.now) (hjobs : s.sat.nonPosted = []) (hrun : s.stopped .pln = false) (hmon : s.mon.running = 0) :
    Completes (.wakeFail i) s fun t =>
      t.waiters = [] ∧ t.rd Reg.PLN_WAKE_FAIL = satAdd (s.rd Reg.PLN_WAKE_FAIL) 1 ∧ SameRegsBut s t refusalReg := by
  have hover : s.waitOver i = ({ s with waiters := [] } : State).refuseAccess w.write w.acc 11 := by
    have hpassed : s.passed w.sinceAt (msTicks 1) = true := decide_eq_true hlate
    simp [State.waitOver, hoff, hwaiters, hisl, hpassed]
  have hended := (Settled.refl ({ s with waiters := [] } : State)).refuseAccess (write := w.write) (a := w.acc) (cause := 11)
  have hcount := State.refuseAccess_wakeFail (s := { s with waiters := [] }) hrun w.write w.acc
  rw [← hover] at hended hcount
  have hdone : exec (.wakeFail i) s = .next (s.waitOver i) := by
    have hpump := State.monPump_of_idle (hended.mon hmon)
    have hjob := State.jobWaitOver_of_none (hended.jobs hjobs)
    have hsat : (if i = .sat then (s.waitOver i).jobWaitOver else s.waitOver i) = s.waitOver i := by rw [hjob, ite_self]
    exact congrArg Host.Outcome.next ((congrArg State.monPump hsat).trans hpump)
  exact ⟨_, hdone, hended.waiters, hcount, hended.rd, State.sramW_of_sram hended.sram, hended.pending⟩

theorem parkedTrafficAndWaits : Claims.ParkedTrafficAndWaits := by
  unfold Claims.ParkedTrafficAndWaits
  exact ⟨fun s u i a n hon hgate hrun hbuf _ _ hstored hready hmon hpark =>
    parkedWrite_delivered hon hgate hrun hbuf hstored hready hmon hpark,
    fun s i w hoff hwaiters hisl hlate hjobs hrun hmon => wait_ends hoff hwaiters hisl hlate hjobs hrun hmon⟩

/-- Settles O9: the islands fall asleep and wake by the clock, and what waits for them is delivered or ends. -/
theorem islandsSleepAndWake : Obligations.IslandsSleepAndWake := ⟨islandSleepAndWake, forcedPowerModes, parkedTrafficAndWaits⟩

end Sys2Proof.Machine
end

section
/-!
PROOFS. The armature's operations beside the registers: the stage, the report of an armature event, what is sent to the flash, and the
words staged (R111 to R113, R116, R117, R126).
-/

namespace Sys2Proof.Machine
open Sys2Proof.Claims

/-! ### The armature's record and what is sent -/

/-- The state with another record of the armature. -/
def State.withArm (s : State) (a : ArmSt) : State := { s with arm := a }

/-- The state with other things sent. -/
def State.withSent (s : State) (l : List Output) : State := { s with sent := l }

section
variable (s : State)
@[simp] theorem State.withArm_arm (a : ArmSt) : (s.withArm a).arm = a := rfl
@[simp] theorem State.withArm_rd (a : ArmSt) (k : Nat) : (s.withArm a).rd k = s.rd k := rfl
@[simp] theorem State.withSent_arm (l : List Output) : (s.withSent l).arm = s.arm := rfl
@[simp] theorem State.withSent_rd (l : List Output) (k : Nat) : (s.withSent l).rd k = s.rd k := rfl
@[simp] theorem State.withSent_nrg (l : List Output) : (s.withSent l).nrg = s.nrg := rfl
@[simp] theorem State.withMon_arm (m : MonSt) : (s.withMon m).arm = s.arm := rfl
@[simp] theorem State.withMon_fld (m : MonSt) (k lo w : Nat) : (s.withMon m).fld k lo w = s.fld k lo w := rfl
@[simp] theorem State.withMon_stage (m : MonSt) : (s.withMon m).stage = s.stage := rfl
end

/-! ### The stage (R126) -/

theorem State.stage_of_rd {s t : State} (h : t.rd Reg.ARM_STS = s.rd Reg.ARM_STS) : t.stage = s.stage :=
  congrArg (fieldOf · 0 3) h

theorem State.setStage_stage {s : State} {n : Nat} (h : n < 8) : (s.setStage n).stage = n :=
  (State.setFld_fld_self (by decide)).trans (Nat.mod_eq_of_lt h)

theorem State.setStage_rd_ne {s : State} {n k : Nat} (h : k ≠ Reg.ARM_STS) : (s.setStage n).rd k = s.rd k := State.setFld_rd_ne _ h _ _ _

@[simp] theorem State.setStage_arm (s : State) (n : Nat) : (s.setStage n).arm = s.arm := rfl

/-- A failure as it is recorded; the stage is not touched (R117). -/
theorem State.armRecord_recorded (s : State) (e : ArmFail) : ArmRecorded (s.armRecord e) e.cause e.typ e.word :=
  ⟨(State.wr_rd_ne _ (by decide) _).trans (State.wr_rd_self _ _ _), State.wr_rd_self _ _ _⟩

theorem State.armRecord_stage (s : State) (e : ArmFail) : (s.armRecord e).stage = s.stage :=
  State.stage_of_rd ((State.wr_rd_ne _ (by decide) _).trans (State.wr_rd_ne _ (by decide) _))

theorem State.armRecord_arm (s : State) (e : ArmFail) : (s.armRecord e).arm = s.arm := rfl

theorem State.armRecord_nrg (s : State) (e : ArmFail) : (s.armRecord e).nrg = s.nrg := rfl

/-! ### The report of an armature event (R117, R126, R231) -/

section
variable {s : State} {b k : Nat}

/-- The event's bit is set; beyond that it is reported. -/
theorem State.raiseArm_settled (hb : b < 15) : Settled (s.setBit Reg.ARM_EVT b true) (s.raiseArm b) :=
  (Settled.refl _).raise (by omega)

theorem State.raiseArm_arm (hb : b < 15) : (s.raiseArm b).arm = s.arm := (State.raiseArm_settled hb).arm

theorem State.raiseArm_nrg (hb : b < 15) : (s.raiseArm b).nrg = s.nrg := (State.raiseArm_settled hb).nrg

theorem State.raiseArm_rd (hb : b < 15) (hk : refusalReg k = false) (hne : k ≠ Reg.ARM_EVT) : (s.raiseArm b).rd k = s.rd k :=
  ((State.raiseArm_settled hb).rd k hk).trans (State.setBit_rd_ne _ hne _ _)

theorem State.raiseArm_stage (hb : b < 15) : (s.raiseArm b).stage = s.stage :=
  State.stage_of_rd (State.raiseArm_rd hb (by decide) (by decide))

theorem State.raiseArm_bit (hb : b < 15) : (s.raiseArm b).bit Reg.ARM_EVT b = true :=
  (congrArg (·.getLsbD b) ((State.raiseArm_settled hb).rd Reg.ARM_EVT (by decide))).trans (State.setBit_bit_self (by omega))

theorem State.raiseArm_recorded {c typ w : Nat} (hb : b < 15) (h : ArmRecorded s c typ w) : ArmRecorded (s.raiseArm b) c typ w :=
  ⟨(State.raiseArm_rd hb (by decide) (by decide)).trans h.1, (State.raiseArm_rd hb (by decide) (by decide)).trans h.2⟩
end

/-! ### The flash (R111 to R113) -/

theorem State.flashCmd_eq (s : State) (cmd : BitVec 8) (addr : Nat) (data : List (BitVec 8)) :
    s.flashCmd cmd addr data = s.withSent (.flash cmd (BitVec.ofNat 24 addr) data s.flashMHz :: s.sent) := rfl

/-- Commands to the flash only leave the device. -/
theorem State.foldl_flashCmd (cmd : BitVec 8) (addr : Nat → Nat) (data : Nat → List (BitVec 8)) (l : List Nat) (s : State) :
    ∃ o, l.foldl (fun t k => t.flashCmd cmd (addr k) (data k)) s = s.withSent o := by
  induction l generalizing s with
  | nil => exact ⟨s.sent, rfl⟩
  | cons k l ih =>
    obtain ⟨o, ho⟩ := ih (s.flashCmd cmd (addr k) (data k))
    exact ⟨o, ho⟩

theorem State.eraseSlot_eq (s : State) (slotB : Bool) : ∃ o, s.eraseSlot slotB = (s.withSent o).setFlash slotB [] := by
  obtain ⟨o, ho⟩ := State.foldl_flashCmd flashEraseCmd (fun k => slotBase slotB + 4096 * k) (fun _ => []) (List.range 64) s
  exact ⟨o, congrArg (State.setFlash · slotB []) ho⟩

theorem State.programSlot_eq (s : State) (slotB : Bool) (bs : List (BitVec 8)) :
    ∃ o, s.programSlot slotB bs = (s.withSent o).setFlash slotB bs := by
  obtain ⟨o, ho⟩ := State.foldl_flashCmd flashPageCmd (fun k => slotBase slotB + 256 * k) (fun k => (bs.drop (256 * k)).take 256)
    (List.range (ceilDiv bs.length 256)) s
  exact ⟨o, congrArg (State.setFlash · slotB bs) ho⟩

section
variable (s : State) (slotB : Bool) (bs : List (BitVec 8))

@[simp] theorem State.setFlash_flashOf : (s.setFlash slotB bs).flashOf slotB = bs := by cases slotB <;> rfl

@[simp] theorem State.setFlash_flashOf_not : (s.setFlash slotB bs).flashOf (!slotB) = s.flashOf (!slotB) := by cases slotB <;> rfl

@[simp] theorem State.setFlash_rd (k : Nat) : (s.setFlash slotB bs).rd k = s.rd k := by cases slotB <;> rfl

@[simp] theorem State.setFlash_nrg : (s.setFlash slotB bs).nrg = s.nrg := by cases slotB <;> rfl

@[simp] theorem State.setFlash_prog : (s.setFlash slotB bs).arm.prog = s.arm.prog := by cases slotB <;> rfl

@[simp] theorem State.setFlash_staged : (s.setFlash slotB bs).arm.staged = s.arm.staged := by cases slotB <;> rfl
end

theorem State.flashOf_of_arm {s t : State} (h : t.arm = s.arm) (slotB : Bool) : t.flashOf slotB = s.flashOf slotB := by
  rw [State.flashOf, State.flashOf, h]

/-! ### Words staged (R116, R445) -/

theorem wordAt_setWordAt (ws : List Word) (k : Nat) (v : Word) (j : Nat) :
    wordAt (setWordAt ws k v) j = if j = k then v else wordAt ws j := by
  induction ws, k, v using setWordAt.induct generalizing j with
  | case1 v => cases j <;> simp [setWordAt, wordAt]
  | case2 v k ih => cases j <;> simp_all [setWordAt, wordAt]
  | case3 v w t => cases j <;> simp [setWordAt, wordAt]
  | case4 v w t k ih => cases j <;> simp_all [setWordAt, wordAt]

end Sys2Proof.Machine
end

section
/-!
PROOFS. Loads and verification (R112, R114 to R117, R126): the writes of ARM_LOAD_CTL and ARM_DATA, and the ends of a slot's read and of
a verification.
-/

namespace Sys2Proof.Machine
open Sys2Proof.Claims

/-! ### Writes of the armature's registers -/

theorem unguarded_loadCtl : Unguarded Reg.ARM_LOAD_CTL :=
  ⟨by decide, rfl, rfl, rfl, fun _ => rfl, rfl, fun _ => rfl, fun _ _ => rfl, by decide⟩

theorem unguarded_armData : Unguarded Reg.ARM_DATA :=
  ⟨by decide, rfl, rfl, rfl, fun _ => rfl, rfl, fun _ => rfl, fun _ _ => rfl, by decide⟩

/-- The state in which an admitted write of `v` has left `fin` in its register, before what the write starts. -/
def State.armStored (s : State) (req : Requester) (k : Nat) (v fin : Word) : State :=
  ((s.onBus (busActivity (regAcc req k v))).wr k fin).reparity k

section
variable {s : State} {req : Requester} {k : Nat} {v fin : Word}

@[simp] theorem State.armStored_arm : (s.armStored req k v fin).arm = s.arm := rfl

@[simp] theorem State.armStored_ready : (s.armStored req k v fin).nrg.ready = s.nrg.ready := rfl

theorem State.armStored_rd_self : (s.armStored req k v fin).rd k = fin := State.wr_rd_self _ _ _

theorem State.armStored_rd_ne {j : Nat} (h : j ≠ k) : (s.armStored req k v fin).rd j = s.rd j := State.wr_rd_ne _ h _

theorem State.armStored_stage (h : Reg.ARM_STS ≠ k) : (s.armStored req k v fin).stage = s.stage :=
  State.stage_of_rd (State.armStored_rd_ne h)

/-- No register of the armature beside the load registers has a rule of its own on ARM_LOAD_CTL and ARM_DATA (R116). -/
theorem writeJudged_load {old new : Word} (hk : k = Reg.ARM_LOAD_CTL ∨ k = Reg.ARM_DATA) (h : s.loadRefuses k req v = false) :
    s.writeJudged k req old v new = .ok new := by
  rw [State.writeJudged, if_neg (by simp [h])]
  rcases hk with rfl | rfl
  · rfl
  · rfl

/-- One bit of ARM_LOAD_CTL, which the requester may write, starts its operation. -/
theorem State.writeReg_loadCtl {i : Island} (hopen : s.openFor (regAcc req Reg.ARM_LOAD_CTL v) i = true)
    (hres : v &&& (rowOf Reg.ARM_LOAD_CTL).reservedBits = 0) (hmay : s.loadRefuses Reg.ARM_LOAD_CTL req v = false) :
    ∃ fin, ∀ t, (s.armStored req Reg.ARM_LOAD_CTL v fin).loadCtl req v = t → t.nrg.ready = s.nrg.ready →
      ∃ m, s.writeReg req Reg.ARM_LOAD_CTL v = t.withMon m := by
  refine ⟨mergeWrite (rowOf Reg.ARM_LOAD_CTL) (s.rd Reg.ARM_LOAD_CTL) v, fun t ht hready => ?_⟩
  subst ht
  exact State.writeReg_unguarded unguarded_loadCtl hopen hres (writeJudged_load (.inl rfl) hmay) hready

/-- A word for the staging area, from the requester of the load. -/
theorem State.writeReg_armData {i : Island} (hopen : s.openFor (regAcc req Reg.ARM_DATA v) i = true) (hload : s.arm.loader = some req) :
    ∃ fin, ∀ t, (s.armStored req Reg.ARM_DATA v fin).armData v = t → t.nrg.ready = s.nrg.ready →
      ∃ m, s.writeReg req Reg.ARM_DATA v = t.withMon m := by
  refine ⟨mergeWrite (rowOf Reg.ARM_DATA) (s.rd Reg.ARM_DATA) v, fun t ht hready => ?_⟩
  subst ht
  have hres : v &&& (rowOf Reg.ARM_DATA).reservedBits = 0 := by
    rw [show (rowOf Reg.ARM_DATA).reservedBits = 0#18 from rfl]
    exact BitVec.and_zero
  have hmay : s.loadRefuses Reg.ARM_DATA req v = false := by simp [State.loadRefuses, hload]
  exact State.writeReg_unguarded unguarded_armData hopen hres (writeJudged_load (.inr rfl) hmay) hready
end

/-! ### The operations of the staging area (R114 to R117, R126) -/

section
variable {s t : State} {src c : Nat} {req : Requester}

theorem State.loadRefusal_congr (hsrc : t.rd Reg.ARM_SRC = s.rd Reg.ARM_SRC) (hsts : t.rd Reg.ARM_STS = s.rd Reg.ARM_STS)
    (hboot : t.rd Reg.PLN_BOOT = s.rd Reg.PLN_BOOT) (hring : t.ring = s.ring) : t.loadRefusal src = s.loadRefusal src := by
  have hruns : t.powerUpRuns = s.powerUpRuns := by rw [State.powerUpRuns, State.powerUpRuns, State.fld, State.fld, hboot]
  have hbusy : t.stagingBusy = s.stagingBusy := by
    rw [State.stagingBusy, State.stagingBusy, State.stage_of_rd hsts, hruns, hring]
  rw [State.loadRefusal, State.loadRefusal, hsrc, hbusy]

theorem State.armStored_loadRefusal {v fin : Word} :
    (s.armStored req Reg.ARM_LOAD_CTL v fin).loadRefusal src = s.loadRefusal src :=
  State.loadRefusal_congr (State.armStored_rd_ne (by decide)) (State.armStored_rd_ne (by decide)) (State.armStored_rd_ne (by decide)) rfl

/-- A load begins with the staging area empty and the pointer at 0 (R115, R116). -/
theorem State.beginLoad_spec (s : State) (h : src < 4) : (s.beginLoad src).stage = 1 ∧ (s.beginLoad src).fld Reg.ARM_STS 3 2 = src ∧
    (s.beginLoad src).rd Reg.ARM_PTR = 0 ∧ (s.beginLoad src).arm = s.dropStaged.arm := by
  refine ⟨?_, ?_, State.wr_rd_self _ _ _, rfl⟩
  · exact (State.wr_fld_other (by decide)).trans ((State.setFld_fld_of_disjoint (.inl (by decide))).trans
      (State.setStage_stage (by decide)))
  · exact (State.wr_fld_other (by decide)).trans ((State.setFld_fld_self (by decide)).trans (Nat.mod_eq_of_lt h))

theorem State.hostLoad_permitted (h : s.loadRefusal 1 = none) :
    s.hostLoad req = (s.beginLoad 1).withArm { (s.beginLoad 1).arm with loader := some req } := by
  simp only [State.hostLoad, h]
  rfl

theorem State.hostLoad_refused (h : s.loadRefusal 1 = some c) : s.hostLoad req = s.loadRefused c := by
  simp only [State.hostLoad, h]

/-- A refused load is recorded and reported (R117). -/
theorem State.loadRefused_spec (s : State) (c : Nat) : ArmRecorded (s.loadRefused c) c 15 0 ∧ (s.loadRefused c).stage = s.stage ∧
    (s.loadRefused c).arm = s.arm ∧ (s.loadRefused c).bit Reg.ARM_EVT 0 = true ∧ (s.loadRefused c).nrg = s.nrg := 
  ⟨State.raiseArm_recorded (by decide) (s.armRecord_recorded { cause := c }),
    (State.raiseArm_stage (by decide)).trans (s.armRecord_stage _), (State.raiseArm_arm (by decide)).trans (s.armRecord_arm _),
    State.raiseArm_bit (by decide), (State.raiseArm_nrg (by decide)).trans (s.armRecord_nrg _)⟩

theorem State.flashLoad_permitted (h : s.loadRefusal 0 = none) : s.flashLoad = s.readSlot false false := by
  simp only [State.flashLoad, h]

theorem State.readSlot_eq (s : State) (slotB powerUp : Bool) : ∃ o, s.readSlot slotB powerUp =
    ((s.beginLoad 0).withArm { (s.beginLoad 0).arm with reading := some (slotB, powerUp) }).withSent o := ⟨_, State.flashCmd_eq _ _ _ _⟩

/-- Outside power-up an abort is that of the load alone (R126). -/
theorem State.abortCtl_running (h : s.powerUpRuns = false) : s.abortCtl = s.abortLoad := by
  simp only [State.abortCtl, h, Bool.false_and, Bool.false_eq_true, if_false]

theorem State.abortLoad_spec (h5 : s.stage ≠ 5) (h6 : s.stage ≠ 6) :
    s.abortLoad.stage = 0 ∧ s.abortLoad.arm = s.dropStaged.arm ∧ s.abortLoad.nrg = s.nrg := by
  rw [State.abortLoad, if_neg (not_or.2 ⟨h5, h6⟩)]
  exact ⟨State.setStage_stage (s := s.dropStaged) (by decide), rfl, rfl⟩

/-- A load or verification that fails (R117). -/
theorem State.verifyFails_spec (s : State) (e : ArmFail) : (s.verifyFails e).stage = 4 ∧ (s.verifyFails e).arm = s.dropStaged.arm ∧
    ArmRecorded (s.verifyFails e) e.cause e.typ e.word ∧ (s.verifyFails e).bit Reg.ARM_EVT 0 = true ∧ (s.verifyFails e).nrg = s.nrg :=
  ⟨(State.raiseArm_stage (by decide)).trans ((State.armRecord_stage _ _).trans (State.setStage_stage (by decide))),
    State.raiseArm_arm (by decide), State.raiseArm_recorded (by decide) (State.armRecord_recorded _ _), State.raiseArm_bit (by decide),
    State.raiseArm_nrg (by decide)⟩
end

/-! ### ARM_LOAD_CTL -/

section
variable {s : State} {req : Requester}

theorem loadStart_completes (hopen : s.openFor (regAcc req Reg.ARM_LOAD_CTL 1) .pln = true) :
    Completes (.loadStart req) s fun t =>
      (s.loadRefusal 1 = none → t.stage = 1 ∧ t.fld Reg.ARM_STS 3 2 = 1 ∧ t.rd Reg.ARM_PTR = 0 ∧ t.arm.loader = some req ∧
        t.arm.staged = none ∧ t.arm.staging = []) ∧
      (∀ c, s.loadRefusal 1 = some c → ArmRecorded t c 15 0 ∧ t.stage = s.stage ∧ t.arm = s.arm ∧ t.bit Reg.ARM_EVT 0 = true) := by
  refine ⟨_, rfl, ?_⟩
  obtain ⟨fin, hwrite⟩ := State.writeReg_loadCtl hopen rfl rfl
  generalize hu : s.armStored req Reg.ARM_LOAD_CTL 1 fin = u at hwrite
  have hsts : u.stage = s.stage := by rw [← hu, State.armStored_stage (by decide)]
  have harm : u.arm = s.arm := by rw [← hu, State.armStored_arm]
  have hready : u.nrg.ready = s.nrg.ready := by rw [← hu, State.armStored_ready]
  have hrefusal : u.loadRefusal 1 = s.loadRefusal 1 := by rw [← hu, State.armStored_loadRefusal]
  constructor
  · intro h
    obtain ⟨hstage, hsrc, hptr, hload⟩ := u.beginLoad_spec (src := 1) (by decide)
    obtain ⟨m, hm⟩ := hwrite _ (State.hostLoad_permitted (hrefusal.trans h)) hready
    rw [hm]
    exact ⟨hstage, hsrc, hptr, rfl, congrArg ArmSt.staged hload, congrArg ArmSt.staging hload⟩
  · intro c h
    obtain ⟨hrec, hstage, hkept, hevt, hnrg⟩ := u.loadRefused_spec c
    obtain ⟨m, hm⟩ := hwrite _ (State.hostLoad_refused (hrefusal.trans h)) ((congrArg NrgSt.ready hnrg).trans hready)
    rw [hm]
    exact ⟨hrec, hstage.trans hsts, hkept.trans harm, hevt⟩

theorem loadFlash_completes (hopen : s.openFor (regAcc req Reg.ARM_LOAD_CTL 8) .pln = true) (h : s.loadRefusal 0 = none) :
    Completes (.loadFlash req) s fun t =>
      t.stage = 1 ∧ t.fld Reg.ARM_STS 3 2 = 0 ∧ t.arm.reading = some (false, false) ∧ t.arm.staged = none := by
  refine ⟨_, rfl, ?_⟩
  obtain ⟨fin, hwrite⟩ := State.writeReg_loadCtl hopen rfl rfl
  generalize hu : s.armStored req Reg.ARM_LOAD_CTL 8 fin = u at hwrite
  have hready : u.nrg.ready = s.nrg.ready := by rw [← hu, State.armStored_ready]
  have hload : u.flashLoad = u.readSlot false false :=
    State.flashLoad_permitted (by rw [← hu, State.armStored_loadRefusal, h])
  obtain ⟨hstage, hsrc, -, hdrop⟩ := u.beginLoad_spec (src := 0) (by decide)
  obtain ⟨o, ho⟩ := u.readSlot_eq false false
  obtain ⟨m, hm⟩ := hwrite _ (hload.trans ho) hready
  rw [hm]
  exact ⟨hstage, hsrc, rfl, congrArg ArmSt.staged hdrop⟩

theorem loadAbort_completes (hopen : s.openFor (regAcc req Reg.ARM_LOAD_CTL 4) .pln = true) (h5 : s.stage ≠ 5) (h6 : s.stage ≠ 6)
    (hboot : s.powerUpRuns = false) :
    Completes (.loadAbort req) s fun t =>
      t.stage = 0 ∧ t.arm.staged = none ∧ t.arm.loader = none ∧ t.arm.committed = s.arm.committed := by
  refine ⟨_, rfl, ?_⟩
  obtain ⟨fin, hwrite⟩ := State.writeReg_loadCtl hopen rfl rfl
  generalize hu : s.armStored req Reg.ARM_LOAD_CTL 4 fin = u at hwrite
  have hsts : u.stage = s.stage := by rw [← hu, State.armStored_stage (by decide)]
  have hready : u.nrg.ready = s.nrg.ready := by rw [← hu, State.armStored_ready]
  have hruns : u.powerUpRuns = false := by
    rw [← hu, State.powerUpRuns, State.fld, State.armStored_rd_ne (by decide)]
    exact hboot
  obtain ⟨hstage, hdrop, hnrg⟩ := State.abortLoad_spec (s := u) (by rwa [hsts]) (by rwa [hsts])
  obtain ⟨m, hm⟩ := hwrite _ (State.abortCtl_running hruns) ((congrArg NrgSt.ready hnrg).trans hready)
  rw [hm]
  refine ⟨hstage, congrArg ArmSt.staged hdrop, congrArg ArmSt.loader hdrop, (congrArg ArmSt.committed hdrop).trans ?_⟩
  rw [← hu]
  rfl

theorem loadEnd_completes (hopen : s.openFor (regAcc req Reg.ARM_LOAD_CTL 2) .pln = true) (hload : s.arm.loader = some req) :
    Completes (.loadEnd req) s fun t => t.stage = 2 ∧ t.arm.loader = none ∧ t.arm.staging = s.arm.staging := by
  refine ⟨_, rfl, ?_⟩
  have hmay : s.loadRefuses Reg.ARM_LOAD_CTL req 2 = false := by
    simp only [State.loadRefuses, hload, ne_eq, not_true_eq_false, decide_false, Bool.and_false, Bool.or_false]
    rfl
  obtain ⟨fin, hwrite⟩ := State.writeReg_loadCtl hopen rfl hmay
  obtain ⟨m, hm⟩ := hwrite (s.armStored req Reg.ARM_LOAD_CTL 2 fin).beginVerify rfl rfl
  rw [hm]
  exact ⟨State.setStage_stage (by decide), rfl, rfl⟩
end

theorem loadControl : Claims.LoadControl := by
  unfold Claims.LoadControl
  exact fun s req => ⟨loadStart_completes, loadFlash_completes, loadAbort_completes, loadEnd_completes⟩

/-! ### ARM_DATA -/

section
variable {s : State} {k c : Nat} {v : Word}

theorem State.lt_of_wordCause_none (h : s.wordCause k = none) : k < 65536 := by
  by_contra hk
  rw [State.wordCause] at h
  simp only [if_pos (Or.inl (Nat.not_lt.1 hk) : 65536 ≤ k ∨ _)] at h
  cases h

theorem State.armData_taken (h : s.wordCause (s.rd Reg.ARM_PTR).toNat = none) : s.armData v =
    (s.stageWord (s.rd Reg.ARM_PTR).toNat v).wr Reg.ARM_PTR (word ((s.rd Reg.ARM_PTR).toNat + 1)) := by
  simp only [State.armData, h]

theorem State.armData_refused (h : s.wordCause (s.rd Reg.ARM_PTR).toNat = some c) :
    s.armData v = s.verifyFails { cause := c, word := (s.rd Reg.ARM_PTR).toNat } := by
  simp only [State.armData, h]

/-- A word is staged in its place, and in no other (R116). -/
theorem State.stageWord_wordAt (j : Nat) :
    wordAt (s.stageWord k v).arm.staging j = if j = k then v else wordAt s.arm.staging j := wordAt_setWordAt _ _ _ _

theorem word_toNat {n : Nat} (h : n < 262144) : (word n).toNat = n := by
  rw [BitVec.toNat_ofNat]
  exact Nat.mod_eq_of_lt h
end

theorem loadedWords : Claims.LoadedWords := by
  unfold Claims.LoadedWords
  intro s req v hopen hload
  refine ⟨_, rfl, ?_⟩
  obtain ⟨fin, hwrite⟩ := State.writeReg_armData hopen hload
  generalize hu : s.armStored req Reg.ARM_DATA v fin = u at hwrite
  have hptr : u.rd Reg.ARM_PTR = s.rd Reg.ARM_PTR := by rw [← hu, State.armStored_rd_ne (by decide)]
  have hsts : u.stage = s.stage := by rw [← hu, State.armStored_stage (by decide)]
  have hready : u.nrg.ready = s.nrg.ready := by rw [← hu, State.armStored_ready]
  have harm : u.arm = s.arm := by rw [← hu, State.armStored_arm]
  have hcause (k : Nat) : u.wordCause k = s.wordCause k := by
    rw [← hu]
    rfl
  rw [← hptr, ← harm, ← hsts, ← hcause]
  generalize hk : (u.rd Reg.ARM_PTR).toNat = k
  subst hk
  constructor
  · intro h
    obtain ⟨m, hm⟩ := hwrite _ (State.armData_taken h) hready
    rw [hm]
    refine ⟨(State.stageWord_wordAt _).trans (if_pos rfl), ?_, fun j hj => (State.stageWord_wordAt j).trans (if_neg hj), ?_⟩
    · rw [State.withMon_rd, State.wr_rd_self, word_toNat]
      have := State.lt_of_wordCause_none h
      omega
    · exact State.stage_of_rd (State.wr_rd_ne _ (by decide) _)
  · intro c h
    obtain ⟨hstage, hdrop, hrec, -, hnrg⟩ := u.verifyFails_spec { cause := c, word := (u.rd Reg.ARM_PTR).toNat }
    obtain ⟨m, hm⟩ := hwrite _ (State.armData_refused h) ((congrArg NrgSt.ready hnrg).trans hready)
    rw [hm]
    exact ⟨hstage, congrArg ArmSt.staging hdrop, congrArg ArmSt.loader hdrop, hrec⟩

/-! ### The report of an event leaves the monitor's command (R231, R438) -/

section
variable (s : State)

theorem State.wake_mon (i : Island) : (s.wake i).mon = s.mon := by
  unfold State.wake
  dsimp only
  split
  · rfl
  · split
    · rfl
    · split <;> rfl

theorem State.send_mon (o : Output) : (s.send o).mon = s.mon := by
  unfold State.send
  split
  · rfl
  · dsimp only
    split <;> rfl

theorem State.leaveL1_mon : s.leaveL1.mon = s.mon := by
  unfold State.leaveL1
  split
  · exact s.wake_mon .hst
  · rfl

theorem State.sendMessage_mon (v : Nat) : (s.sendMessage v).mon = s.mon := by
  unfold State.sendMessage
  split
  · split
    · exact State.leaveL1_mon _
    · exact State.send_mon _ _
  · dsimp only
    split
    · exact State.leaveL1_mon _
    · exact State.send_mon _ _
  · rfl

theorem State.pmeFor_mon (v : Nat) : (s.pmeFor v).mon = s.mon := by
  unfold State.pmeFor
  split
  · exact s.send_mon _
  · rfl

theorem State.signalVector_mon (v : Nat) : (s.signalVector v).mon = s.mon := by
  unfold State.signalVector
  split
  · exact (State.sendMessage_mon _ _).trans (s.pmeFor_mon 0)
  · dsimp only
    split
    · exact (State.sendMessage_mon _ _).trans (s.pmeFor_mon v)
    · exact s.pmeFor_mon v

theorem State.takeEvent_mon (src : Nat) : (s.takeEvent src).mon = s.mon := by
  unfold State.takeEvent
  split
  · rfl
  · dsimp only
    split
    · rfl
    · exact State.signalVector_mon _ _

/-- An event may be held for the monitor's unsolicited lines; its command goes on as it was. -/
theorem State.monEvent_command (src : Nat) :
    (s.monEvent src).mon.running = s.mon.running ∧ (s.monEvent src).mon.loadWait = s.mon.loadWait := by
  unfold State.monEvent
  split
  · split <;> exact ⟨rfl, rfl⟩
  · exact ⟨rfl, rfl⟩

theorem State.raise_command (src : Nat) :
    (s.raise src).mon.running = s.mon.running ∧ (s.raise src).mon.loadWait = s.mon.loadWait := by
  have hmon : (s.raise src).mon = (s.monEvent src).mon := by
    unfold State.raise
    dsimp only
    split
    · split
      · exact State.wake_mon _ _
      · split <;> rfl
    · split
      · exact State.takeEvent_mon _ _
      · rfl
  rw [hmon]
  exact s.monEvent_command src
end

/-! ### The ends of a slot's read and of a verification (R112, R117) -/

section
variable {s : State}

theorem State.slotRead_spec {r : Bool × Bool} (h : s.arm.reading = some r) :
    s.slotRead.stage = 2 ∧ s.slotRead.arm.staging = flashRead (s.flashOf r.1) ∧ s.slotRead.arm.committed = s.arm.committed := by
  simp only [State.slotRead, h]
  exact ⟨State.setStage_stage (by decide), rfl, rfl⟩

/-- The state with an image verified and staged. -/
def State.verified (s : State) (im : Image) : State := (s.withArm { s.arm with staged := some im, reading := none }).setStage 3

theorem State.verifyDone_ok {im : Image} (hstage : s.stage = 2) (hread : s.arm.reading = none)
    (h : verifyImage s.fuses s.arm.committed s.arm.staging s.arm.received = .ok im) :
    s.verifyDone = (s.verified im).raiseArm 1 ∨ s.verifyDone = s.verified im := by
  simp only [State.verifyDone, hstage, h, hread, ne_eq, not_true_eq_false, if_false]
  exact ite_eq_or_eq _ _ _

theorem State.verifyDone_error {e : ArmFail} (hstage : s.stage = 2) (hread : s.arm.reading = none)
    (h : verifyImage s.fuses s.arm.committed s.arm.staging s.arm.received = .error e) : s.verifyDone = s.verifyFails e := by
  simp only [State.verifyDone, hstage, h, hread, ne_eq, not_true_eq_false, if_false]

/-- Without a command of the monitor that waits for it, the end of a verification is the armature's alone (R445). -/
theorem exec_armVerifyDone (hrun : s.verifyDone.mon.running = 0) (hwait : s.verifyDone.mon.loadWait = false) :
    exec .armVerifyDone s = .next s.verifyDone := by
  have hver : s.verifyDone.monVerified = s.verifyDone := if_neg (by simp [hwait])
  exact congrArg Host.Outcome.next ((congrArg State.monPump hver).trans (State.monPump_of_idle hrun))

theorem State.raiseArm_command {b : Nat} : (s.raiseArm b).mon.running = s.mon.running ∧ (s.raiseArm b).mon.loadWait = s.mon.loadWait :=
  State.raise_command _ _

/-- An image that verifies is staged; under WARN the missing signature is reported (R109). -/
theorem State.verifyDone_ok_spec {im : Image} (hstage : s.stage = 2) (hread : s.arm.reading = none)
    (h : verifyImage s.fuses s.arm.committed s.arm.staging s.arm.received = .ok im) :
    s.verifyDone.stage = 3 ∧ s.verifyDone.arm = { s.arm with staged := some im, reading := none } ∧
      s.verifyDone.mon.running = s.mon.running ∧ s.verifyDone.mon.loadWait = s.mon.loadWait := by
  have hver : (s.verified im).stage = 3 := State.setStage_stage (by decide)
  obtain ⟨hrun, hwait⟩ := (s.verified im).raiseArm_command (b := 1)
  rcases State.verifyDone_ok hstage hread h with hdone | hdone
  · rw [hdone]
    exact ⟨(State.raiseArm_stage (by decide)).trans hver, State.raiseArm_arm (by decide), hrun, hwait⟩
  · rw [hdone]
    exact ⟨hver, rfl, rfl, rfl⟩

theorem armVerifyDone_completes (hstage : s.stage = 2) (hread : s.arm.reading = none) (hrun : s.mon.running = 0)
    (hwait : s.mon.loadWait = false) :
    Completes .armVerifyDone s fun t =>
      (∀ im, verifyImage s.fuses s.arm.committed s.arm.staging s.arm.received = .ok im → t.stage = 3 ∧ t.arm.staged = some im) ∧
      (∀ e, verifyImage s.fuses s.arm.committed s.arm.staging s.arm.received = .error e →
        t.stage = 4 ∧ t.arm.staged = none ∧ ArmRecorded t e.cause e.typ e.word ∧ t.bit Reg.ARM_EVT 0 = true) ∧
      t.arm.committed = s.arm.committed := by
  cases h : verifyImage s.fuses s.arm.committed s.arm.staging s.arm.received with
  | ok im =>
    obtain ⟨hdone, harm, hrun', hwait'⟩ := State.verifyDone_ok_spec hstage hread h
    refine ⟨_, exec_armVerifyDone (hrun'.trans hrun) (hwait'.trans hwait), fun im' heq => ?_, fun e heq => (by cases heq),
      (congrArg ArmSt.committed harm :)⟩
    cases heq
    exact ⟨hdone, congrArg ArmSt.staged harm⟩
  | error e =>
    have hdone := State.verifyDone_error hstage hread h
    obtain ⟨hfail, hdrop, hrec, hevt, -⟩ := s.verifyFails_spec e
    obtain ⟨hrun', hwait'⟩ := ((s.dropStaged.setStage 4).armRecord e).raiseArm_command (b := 0)
    refine ⟨_, exec_armVerifyDone (by rw [hdone]; exact hrun'.trans hrun) (by rw [hdone]; exact hwait'.trans hwait), ?_⟩
    rw [hdone]
    refine ⟨fun im heq => (by cases heq), fun e' heq => ?_, (congrArg ArmSt.committed hdrop :)⟩
    cases heq
    exact ⟨hfail, congrArg ArmSt.staged hdrop, hrec, hevt⟩
end

theorem verificationEnds : Claims.VerificationEnds := by
  unfold Claims.VerificationEnds
  exact ⟨fun s r h => ⟨_, rfl, State.slotRead_spec h⟩,
    fun s hstage hread hrun hwait => armVerifyDone_completes hstage hread hrun hwait⟩

/-- Settles O12: the bits of ARM_LOAD_CTL each by its operation, ARM_DATA by the bounds of its word, the verification by its result. -/
theorem armatureLoadsAndVerifies : Obligations.ArmatureLoadsAndVerifies := ⟨loadControl, loadedWords, verificationEnds⟩

end Sys2Proof.Machine
end

section
/-!
PROOFS. The flash slots and the fuses (R110, R111, R113): PROG_A and PROG_B with their end, the _C write of a pair, and the _C write of
pair 6 with the end of its programming.
-/

namespace Sys2Proof.Machine
open Sys2Proof.Claims

/-! ### The flash slots (R111, R113) -/

section
variable {s : State} {slotB : Bool}

/-- A VERIFIED image starts to be programmed into its slot, which is erased. -/
theorem State.program_verified (h : s.stage = 3) : ∃ o, s.program slotB =
    (((s.withArm { s.arm with prog := some slotB }).setStage 6).withSent o).setFlash slotB [] := by
  rw [State.program, if_pos h]
  exact State.eraseSlot_eq _ _

theorem State.program_ignored (h : s.stage ≠ 3) : s.program slotB = s := if_neg h

/-- The programming ends without a mismatch (R113). -/
theorem State.programDone_matches {im : Image} (hprog : s.arm.prog = some slotB) (hstaged : s.arm.staged = some im) :
    ∃ o, s.programDone none = ((((s.withArm { s.arm with prog := none }).withSent o).setFlash slotB
      (slotBytes (im.words ++ im.sig))).setStage 3).raiseArm 7 := by
  obtain ⟨o, ho⟩ := (s.withArm { s.arm with prog := none }).programSlot_eq slotB (slotBytes (im.words ++ im.sig))
  refine ⟨o, ?_⟩
  rw [← ho]
  simp only [State.programDone, hprog, hstaged]
  rfl

theorem prog_completes {req : Requester} (hopen : s.openFor (regAcc req Reg.ARM_LOAD_CTL (if slotB then 32 else 16)) .pln = true) :
    Completes (if slotB then .progB req else .progA req) s fun t =>
      (s.stage = 3 → t.stage = 6 ∧ t.arm.prog = some slotB ∧ t.flashOf slotB = []) ∧ (s.stage ≠ 3 → t.stage = s.stage ∧ t.arm = s.arm) ∧
      t.arm.staged = s.arm.staged := by
  have hexec : exec (if slotB then .progB req else .progA req) s =
      .next (s.writeReg req Reg.ARM_LOAD_CTL (if slotB then 32 else 16)) := by cases slotB <;> rfl
  refine ⟨_, hexec, ?_⟩
  obtain ⟨fin, hwrite⟩ := State.writeReg_loadCtl hopen (by cases slotB <;> rfl) (by cases slotB <;> rfl)
  generalize hu : s.armStored req Reg.ARM_LOAD_CTL _ fin = u at hwrite
  have hsts : u.stage = s.stage := by rw [← hu, State.armStored_stage (by decide)]
  have harm : u.arm = s.arm := by rw [← hu, State.armStored_arm]
  have hstaged : u.arm.staged = s.arm.staged := by rw [harm]
  have hready : u.nrg.ready = s.nrg.ready := by rw [← hu, State.armStored_ready]
  have hctl : u.loadCtl req (if slotB then 32 else 16) = u.program slotB := by cases slotB <;> rfl
  by_cases h3 : s.stage = 3
  · obtain ⟨o, ho⟩ := State.program_verified (slotB := slotB) (hsts.trans h3)
    obtain ⟨m, hm⟩ := hwrite _ (hctl.trans ho) (by rw [State.setFlash_nrg]; exact hready)
    rw [hm]
    refine ⟨fun _ => ⟨?_, ?_, State.setFlash_flashOf _ _ _⟩, fun hne => absurd h3 hne, ?_⟩
    · exact (State.stage_of_rd (State.setFlash_rd _ _ _ _)).trans (State.setStage_stage (by decide))
    · exact State.setFlash_prog _ _ _
    · exact (State.setFlash_staged _ _ _).trans hstaged
  · obtain ⟨m, hm⟩ := hwrite _ (hctl.trans (State.program_ignored (by rwa [hsts]))) hready
    rw [hm]
    exact ⟨fun h => absurd h h3, fun _ => ⟨hsts, harm⟩, hstaged⟩

theorem armProgdone_completes {im : Image} (hprog : s.arm.prog = some slotB) (hstaged : s.arm.staged = some im) :
    Completes (.armProgdone none) s fun t =>
      t.flashOf slotB = slotBytes (im.words ++ im.sig) ∧ t.flashOf (!slotB) = s.flashOf (!slotB) ∧ t.stage = 3 ∧
      t.arm.staged = some im ∧ t.bit Reg.ARM_EVT 7 = true ∧ t.rd Reg.ARM_ERR = s.rd Reg.ARM_ERR := by
  obtain ⟨o, ho⟩ := State.programDone_matches hprog hstaged
  refine ⟨s.programDone none, rfl, ?_⟩
  rw [ho]
  generalize hu : ((s.withArm { s.arm with prog := none }).withSent o).setFlash slotB (slotBytes (im.words ++ im.sig)) = u
  have harm : ((u.setStage 3).raiseArm 7).arm = u.arm := State.raiseArm_arm (by decide)
  refine ⟨?_, ?_, ?_, ?_, State.raiseArm_bit (by decide), ?_⟩
  · rw [State.flashOf_of_arm harm, ← hu, State.setFlash_flashOf]
  · rw [State.flashOf_of_arm harm, ← hu, State.setFlash_flashOf_not]
    rfl
  · exact (State.raiseArm_stage (by decide)).trans (State.setStage_stage (by decide))
  · rw [harm, ← hu, State.setFlash_staged]
    exact hstaged
  · rw [State.raiseArm_rd (by decide) (by decide) (by decide), State.setStage_rd_ne (by decide), ← hu, State.setFlash_rd]
    rfl
end

theorem flashProgramming : Claims.FlashProgramming := by
  unfold Claims.FlashProgramming
  exact ⟨fun s req slotB hopen => prog_completes hopen, fun s slotB im hprog hstaged => armProgdone_completes hprog hstaged⟩

/-! ### The _C write of a pair (R46) -/

/-- A write that takes place: admitted work starts, and the requester is answered. -/
theorem State.perform_write_ready {s t : State} {a : RegAccess} {at_ : Nat} (h : s.regWrite a at_ = .ok t) :
    ∃ m, s.perform true a at_ = t.startReady.withMon m := by
  simp only [State.perform, if_true, h]
  exact t.startReady.answered_write a 0 false

theorem reservedBits_pairC : ∀ p < 9, (rowOf (pairV p + 4)).reservedBits = 0 := by decide

/-- The state in which the value `v` of a pair is applied: its _C write has had its grant, and the pair is closed. -/
def State.pairClosed (s : State) (req : Requester) (p : Nat) (v : Word) : State :=
  (s.onBus (busActivity (regAcc req (pairV p + 4) (~~~v)))).setPair p none

section
variable {s : State} {req : Requester} {p : Nat} {o : PairOpen} {i : Island}

@[simp] theorem State.pairClosed_arm (v : Word) : (s.pairClosed req p v).arm = s.arm := rfl

@[simp] theorem State.pairClosed_fuses (v : Word) : (s.pairClosed req p v).fuses = s.fuses := rfl

@[simp] theorem State.pairClosed_rd (v : Word) (k : Nat) : (s.pairClosed req p v).rd k = s.rd k := rfl

@[simp] theorem State.pairClosed_mb (v : Word) (x : MailboxId) : (s.pairClosed req p v).mb x = s.mb x := rfl

@[simp] theorem State.pairClosed_ready (v : Word) : (s.pairClosed req p v).nrg.ready = s.nrg.ready := rfl

/-- The complement of the open pair's value, in time and by its requester, applies the pair. -/
theorem State.rowWrite_pairC {at_ : Nat} (hp : p < 9) (hpair : s.pair p = some o) (hreq : o.req = req)
    (htime : at_ ≤ o.openAt + 400000) :
    s.rowWrite (rowOf (pairV p + 4)) (pairV p + 4) 0 req (~~~o.value) at_ = .ok ((s.setPair p none).pairApply p o.value) := by
  obtain ⟨-, -, -, hw⟩ := regAt_pairV p hp (pairV p + 4) (by simp)
  have hres : (~~~o.value) &&& (rowOf (pairV p + 4)).reservedBits = 0 := by
    rw [reservedBits_pairC p hp]
    exact BitVec.and_zero
  have hstale : s.pairStale p at_ = s := by
    have : ¬o.openAt + msTicks 1 < at_ := Nat.not_lt.2 htime
    simp only [State.pairStale, hpair, this, if_false]
  rw [State.rowWrite, if_neg (by simp [hres]), if_pos rfl, hw, (pairAt?_pairV p hp).2]
  simp only [State.pairWrite, hstale, hpair, hreq, ne_eq, not_true_eq_false, Bool.false_eq_true, if_false]

theorem State.writeReg_pairC (hp : p < 9) (hpair : s.pair p = some o) (hreq : o.req = req) (htime : s.now ≤ o.openAt + 400000)
    (hopen : s.openFor (regAcc req (pairV p + 4) (~~~o.value)) i = true) :
    ∃ m, s.writeReg req (pairV p + 4) (~~~o.value) = ((s.pairClosed req p o.value).pairApply p o.value).startReady.withMon m := by
  obtain ⟨hblk, hofs, hr, -⟩ := regAt_pairV p hp (pairV p + 4) (by simp)
  obtain ⟨hkey, hal, hb, hr'⟩ := regAcc_place (req := req) (v := ~~~o.value) ⟨hblk, hofs⟩ hr
  have hwrite : s.writeReg req (pairV p + 4) (~~~o.value) = s.regAccess true (regAcc req (pairV p + 4) (~~~o.value)) := rfl
  rw [hwrite, State.regAccess_of_open true hopen]
  refine State.perform_write_ready ?_
  rw [State.regWrite_reg hb hr', hkey, hal, accWord_regAcc]
  exact State.rowWrite_pairC hp hpair hreq htime
end

/-! ### Fuse programming (R110) -/

section
variable {s : State} {item : Nat} {x : Nat × Word} {f : Fuses}

/-- The programming of an item runs. -/
def State.fuseStarted (s : State) (item : Nat) (w : Word) : State :=
  (s.withArm { s.arm with fusing := some (item, w) }).setBit Reg.ARM_FUSE_STS 0 true

@[simp] theorem State.fuseStarted_fusing (w : Word) : (s.fuseStarted item w).arm.fusing = some (item, w) := rfl

@[simp] theorem State.fuseStarted_lastFuseV (w : Word) : (s.fuseStarted item w).arm.lastFuseV = s.arm.lastFuseV := rfl

@[simp] theorem State.withMon_fuses (m : MonSt) : (s.withMon m).fuses = s.fuses := rfl

@[simp] theorem State.fuseStarted_fuses (w : Word) : (s.fuseStarted item w).fuses = s.fuses := rfl

theorem State.fuseStarted_busy (w : Word) : (s.fuseStarted item w).bit Reg.ARM_FUSE_STS 0 = true := State.setBit_bit_self (by decide)

/-- ARM_FUSE_V reads the item programmed last. -/
theorem State.pairValue_fuse : s.pairValue 6 = s.arm.lastFuseV := rfl

theorem State.fuseOp_busy (h : s.arm.fusing = some x) : s.fuseOp item = s.setBit Reg.ARM_FUSE_STS 1 true := by
  simp only [State.fuseOp, h, Option.isSome_some, if_true]

theorem State.fuseOp_refused (h : s.arm.fusing = none) (hp : s.fuses.programmed item (s.mb .armFuse).w0 = none) :
    s.fuseOp item = s.setBit Reg.ARM_FUSE_STS 1 true := by
  simp only [State.fuseOp, h, hp, Option.isSome_none, Bool.false_eq_true, if_false]

theorem State.fuseOp_starts (h : s.arm.fusing = none) (hp : s.fuses.programmed item (s.mb .armFuse).w0 = some f) :
    s.fuseOp item = s.fuseStarted item (s.mb .armFuse).w0 := by
  simp only [State.fuseOp, h, hp, Option.isSome_none, Bool.false_eq_true, if_false]
  rfl

/-- The state in which no programming runs any more, before its result is shown. -/
def State.fuseEnded (s : State) : State := (s.withArm { s.arm with fusing := none }).setBit Reg.ARM_FUSE_STS 0 false

theorem State.fuseDone_programs (h : s.arm.fusing = some x) (hp : s.fuses.programmed x.1 x.2 = some f) : s.fuseDone true =
    ({ s.fuseEnded with fuses := f, arm := { s.fuseEnded.arm with lastFuseV := word x.1 } } : State).setFld Reg.ARM_STS 9 2
      f.secmode.toNat := by
  simp only [State.fuseDone, h, State.setBit_fuses, hp, if_true]
  rfl

theorem State.fuseDone_fails (h : s.arm.fusing = some x) : s.fuseDone false = s.fuseEnded.setBit Reg.ARM_FUSE_STS 1 true := by
  simp only [State.fuseDone, h, Bool.false_eq_true, if_false]
  rfl

theorem State.fuseEnded_idle : s.fuseEnded.bit Reg.ARM_FUSE_STS 0 = false := State.setBit_bit_self (by decide)

/-- The _C write of pair 6 leaves what the programming starts; no work of the ledger waits to start. -/
theorem fuseProgram_writes {req : Requester} {o : PairOpen} {t : State} (hpair : s.pair 6 = some o) (hreq : o.req = req)
    (htime : s.now ≤ o.openAt + 400000) (hopen : s.openFor (regAcc req Reg.ARM_FUSE_C (~~~o.value)) .pln = true)
    (ht : (s.pairClosed req 6 o.value).fuseOp o.value.toNat = t) (hready : t.nrg.ready = s.nrg.ready) :
    ∃ m, exec (.fuseProgram req (~~~o.value)) s = .next (t.withMon m) := by
  have hC : pairV 6 + 4 = Reg.ARM_FUSE_C := rfl
  obtain ⟨m, hm⟩ := State.writeReg_pairC (p := 6) (by decide) hpair hreq htime (hC ▸ hopen)
  have happly : (s.pairClosed req 6 o.value).pairApply 6 o.value = (s.pairClosed req 6 o.value).fuseOp o.value.toNat := rfl
  rw [happly, ht, State.startReady_of_none (hready.trans (State.openFor_ready hopen)), hC] at hm
  have hexec : exec (.fuseProgram req (~~~o.value)) s = .next (s.writeReg req Reg.ARM_FUSE_C (~~~o.value)) := rfl
  exact ⟨m, hexec.trans (congrArg Host.Outcome.next hm)⟩

theorem fuseProgram_completes {req : Requester} {o : PairOpen} (hpair : s.pair 6 = some o) (hreq : o.req = req)
    (htime : s.now ≤ o.openAt + 400000) (hopen : s.openFor (regAcc req Reg.ARM_FUSE_C (~~~o.value)) .pln = true)
    (hidle : s.arm.fusing = none) :
    Completes (.fuseProgram req (~~~o.value)) s fun t =>
      t.pairValue 6 = s.pairValue 6 ∧ t.fuses = s.fuses ∧
      (s.fuses.programmed o.value.toNat (s.mb .armFuse).w0 = none → t.bit Reg.ARM_FUSE_STS 1 = true ∧ t.arm.fusing = none) ∧
      (s.fuses.programmed o.value.toNat (s.mb .armFuse).w0 ≠ none →
        t.bit Reg.ARM_FUSE_STS 0 = true ∧ t.arm.fusing = some (o.value.toNat, (s.mb .armFuse).w0)) := by
  have hidle' : (s.pairClosed req 6 o.value).arm.fusing = none := hidle
  cases hp : s.fuses.programmed o.value.toNat (s.mb .armFuse).w0 with
  | none =>
    obtain ⟨m, hm⟩ := fuseProgram_writes hpair hreq htime hopen (State.fuseOp_refused hidle' hp) rfl
    refine ⟨_, hm, ?_, ?_, fun _ => ⟨?_, hidle⟩, fun hne => absurd rfl hne⟩
    · rw [State.pairValue_fuse, State.pairValue_fuse, State.withMon_arm, State.setBit_arm, State.pairClosed_arm]
    · rw [State.withMon_fuses, State.setBit_fuses, State.pairClosed_fuses]
    · rw [State.withMon_bit, State.setBit_bit_self (by decide)]
  | some f =>
    have hstart := State.fuseOp_starts (s := s.pairClosed req 6 o.value) hidle' hp
    obtain ⟨m, hm⟩ := fuseProgram_writes hpair hreq htime hopen hstart rfl
    refine ⟨_, hm, ?_, ?_, ?_, ?_⟩
    · rw [State.pairValue_fuse, State.pairValue_fuse, State.withMon_arm, State.fuseStarted_lastFuseV, State.pairClosed_arm]
    · rw [State.withMon_fuses, State.fuseStarted_fuses, State.pairClosed_fuses]
    · exact fun hnone => nomatch hnone
    · exact fun _ => ⟨by rw [State.withMon_bit, State.fuseStarted_busy], by rw [State.withMon_arm, State.fuseStarted_fusing, State.pairClosed_mb]⟩

theorem fuseProgramDone_completes {ok : Bool} (h : s.arm.fusing = some x) (hp : s.fuses.programmed x.1 x.2 = some f) :
    Completes (.fuseProgramDone ok) s fun t =>
      t.arm.fusing = none ∧ t.bit Reg.ARM_FUSE_STS 0 = false ∧ t.fuses = (if ok then f else s.fuses) ∧
      t.pairValue 6 = (if ok then word x.1 else s.pairValue 6) ∧ (ok = false → t.bit Reg.ARM_FUSE_STS 1 = true) := by
  refine ⟨s.fuseDone ok, rfl, ?_⟩
  cases ok with
  | true =>
    rw [State.fuseDone_programs h hp]
    refine ⟨rfl, ?_, rfl, rfl, fun hfalse => (by cases hfalse)⟩
    have hsts : ∀ u : State, (u.setFld Reg.ARM_STS 9 2 f.secmode.toNat).rd Reg.ARM_FUSE_STS = u.rd Reg.ARM_FUSE_STS :=
      fun u => State.setFld_rd_ne u (by decide) 9 2 _
    exact (congrArg (·.getLsbD 0) (hsts _)).trans s.fuseEnded_idle
  | false =>
    rw [State.fuseDone_fails h]
    refine ⟨rfl, ?_, rfl, rfl, fun _ => State.setBit_bit_self (by decide)⟩
    exact (State.setBit_bit_of_ne (by decide) (by decide)).trans s.fuseEnded_idle
end

theorem fuseProgramming : Claims.FuseProgramming := by
  unfold Claims.FuseProgramming
  refine ⟨fun s req o hpair hreq htime hopen hidle => fuseProgram_completes hpair hreq htime hopen hidle,
    fun s ok x f h hp => fuseProgramDone_completes h hp, fun s req o x hpair hreq htime hopen hbusy => ?_⟩
  have hbusy' : (s.pairClosed req 6 o.value).arm.fusing = some x := hbusy
  obtain ⟨m, hm⟩ := fuseProgram_writes hpair hreq htime hopen (State.fuseOp_busy hbusy') rfl
  refine ⟨_, hm, hbusy, ?_, ?_⟩
  · rw [State.withMon_fuses, State.setBit_fuses, State.pairClosed_fuses]
  · rw [State.withMon_bit, State.setBit_bit_self (by decide)]

/-! ### The fuses (R110) -/

/-- SECMODE takes ones where its result is no code 2, and code 3 only with a key; a KEYHASH item takes ones while SECMODE is OPEN. -/
theorem Fuses.programmed_cases {f g : Fuses} {item : Nat} {w : Word} (h : f.programmed item w = some g) :
    (∃ m : BitVec 2, g = { f with secmode := f.secmode ||| m } ∧ g.secmode ≠ 2 ∧ (g.secmode = 3 → f.keyhash ≠ [])) ∨
      (f.secmode = 0 ∧ ∃ (k : Nat) (x : BitVec 16), g = { f with keyhash := Tab.set 0 f.keyhash k (Tab.get 0 f.keyhash k ||| x) }) := by
  unfold Sys2Proof.Machine.Fuses.programmed at h
  split at h
  · dsimp only at h
    split at h
    · cases h
    case isFalse hcode =>
      cases h
      exact .inl ⟨_, rfl, fun h2 => hcode (.inl h2), fun h3 hkey => hcode (.inr ⟨h3, hkey⟩)⟩
  · split at h
    · split at h
      · cases h
      case isFalse hopen =>
        cases h
        exact .inr ⟨not_not.1 hopen, _, _, rfl⟩
    · cases h

theorem and_or_absorb {n : Nat} (x y : BitVec n) : x &&& (x ||| y) = x := by
  apply BitVec.eq_of_getLsbD_eq
  intro b _
  rw [BitVec.getLsbD_and, BitVec.getLsbD_or]
  cases x.getLsbD b <;> rfl

theorem fusesOnlyGainBits : Claims.FusesOnlyGainBits := by
  unfold Claims.FusesOnlyGainBits
  intro f g item w h
  rcases Sys2Proof.Machine.Fuses.programmed_cases h with ⟨m, rfl, h2, h3⟩ | ⟨hopen, j, x, rfl⟩
  · exact ⟨and_or_absorb _ _, fun _ => BitVec.and_self, h2, h3, fun _ => rfl, rfl, rfl⟩
  · refine ⟨BitVec.and_self, fun k => ?_, ?_, ?_, fun hne => absurd hopen hne, rfl, rfl⟩
    · by_cases hk : k = j
      · rw [hk, Tab.get_set_self, and_or_absorb]
      · rw [Tab.get_set_ne hk, BitVec.and_self]
    · rw [hopen]
      decide
    · rw [hopen]
      exact fun h3 => absurd h3 (by decide)

/-- Settles O14: a slot by the end of its programming, a fuse item by what R110 permits of it. -/
theorem flashAndFusesAreProgrammed : Obligations.FlashAndFusesAreProgrammed := ⟨flashProgramming, fuseProgramming, fusesOnlyGainBits⟩

end Sys2Proof.Machine
end

section
/-!
PROOFS. The fused security mode (R109) and maquette mode (R123, R124).
-/

namespace Sys2Proof.Machine
open Sys2Proof.Claims

/-! ### Verification under the fused security mode (R109, R117) -/

/-- What verifies has passed the checks of its signature, and shows whether that is valid. -/
theorem verifyImage_ok {f : Fuses} {com : Option Image} {ws : List Word} {got : Nat} {im : Image} (h : verifyImage f com ws got = .ok im) :
    checkSignature f ((com.map fun i => i.epoch.toNat).getD 0) { words := im.words } im.sig = none ∧
      im.signed = signatureValid f im.words im.sig := by
  unfold verifyImage at h
  dsimp only at h
  split at h
  case h_1 => cases h
  case h_2 hpass =>
    simp only [Option.orElse_eq_or, Option.or_eq_none_iff] at hpass
    obtain ⟨-, -, -, -, -, -, -, hsig⟩ := hpass
    cases h
    exact ⟨hsig, rfl⟩

/-- Under ENFORCE the checks pass with a valid signature alone, and with no EPOCH below the committed one. -/
theorem checkSignature_none {f : Fuses} {epoch : Nat} {im : Image} {sig : List Word} (henf : f.enforce = true)
    (h : checkSignature f epoch im sig = none) : sig ≠ [] ∧ signatureValid f im.words sig = true ∧ epoch ≤ im.epoch.toNat := by
  unfold checkSignature at h
  simp only [henf, Bool.not_true, Bool.false_eq_true, if_false] at h
  split at h
  · cases h
  next hsig =>
    split at h
    · cases h
    · split at h
      · cases h
      next hvalid =>
        split at h
        · cases h
        next hepoch => exact ⟨fun hnil => hsig (by simp [hnil]), by simpa using hvalid, Nat.not_lt.1 hepoch⟩

theorem enforceNeedsSignature : Claims.EnforceNeedsSignature := by
  unfold Claims.EnforceNeedsSignature
  intro f com ws got im h
  obtain ⟨hsig, hsigned⟩ := verifyImage_ok h
  refine ⟨fun henf => ?_, hsigned⟩
  obtain ⟨hne, hvalid, hepoch⟩ := checkSignature_none henf hsig
  refine ⟨hne, hsigned.trans hvalid, fun c hc => ?_⟩
  rw [hc] at hepoch
  exact hepoch

/-! ### Maquette mode (R123, R124) -/

theorem unguarded_maq : Unguarded Reg.ARM_MAQ :=
  ⟨by decide, rfl, rfl, rfl, fun _ => rfl, rfl, fun _ => rfl, fun _ _ => rfl, by decide⟩

theorem mergeWrite_maq {old v : Word} : mergeWrite (rowOf Reg.ARM_MAQ) old v = (old &&& ~~~1#18) ||| (v &&& 1#18) := by
  have hrow : (rowOf Reg.ARM_MAQ).writable = 1#18 := rfl
  have hclr : word (rowOf Reg.ARM_MAQ).w1c = 0#18 := rfl
  simp only [mergeWrite, hrow, hclr, BitVec.and_zero, BitVec.not_zero, BitVec.and_allOnes]

/-- The bit EN that a write of ARM_MAQ leaves is the one written. -/
theorem mergeWrite_maq_en (old : Word) (en : Bool) : (mergeWrite (rowOf Reg.ARM_MAQ) old (word (flag en))).getLsbD 0 = en := by
  rw [mergeWrite_maq, BitVec.getLsbD_or, BitVec.getLsbD_and, BitVec.getLsbD_and]
  cases en <;> simp [word, flag]

/-- A head port's outputs are high-impedance, with nothing driven (R123). -/
def Port.HighZ (x : Port) : Prop := x.drive = .hiZ ∧ x.trg = false ∧ x.stb = false ∧ x.pen = false

/-- A port whose outputs are set takes the update, and another keeps its own. -/
theorem State.forAll_modPort_port {f : Port → Port} {Q : Port → Prop} (hQ : ∀ x, Q (f x)) {ps : List Nat} {p : Nat} (s : State)
    (h : p ∈ ps ∨ Q (s.port p)) : Q ((s.forAll ps fun t k => t.modPort k f).port p) := by
  induction ps generalizing s with
  | nil => exact h.resolve_left List.not_mem_nil
  | cons k ps ih =>
    refine ih (s.modPort k f) ?_
    by_cases hk : p = k
    · subst hk
      exact .inr (by rw [State.modPort_port_self]; exact hQ _)
    · refine h.imp (fun hm => (List.mem_cons.1 hm).resolve_left hk) fun hq => ?_
      rw [State.modPort, State.setPort_port_ne _ hk]
      exact hq

section
variable (s : State) (on : Bool)

/-- Entering and leaving the mode changes ports, and of the registers ARM_MAQ and ARM_STS. -/
theorem State.setMaquette_frame : (s.setMaquette on).regs = ((s.setBit Reg.ARM_MAQ 0 on).setBit Reg.ARM_STS 12 on).regs ∧
    (s.setMaquette on).nrg = s.nrg := by
  have hport : ∀ (t : State) (p : Nat), (fun t : State => (t.regs, t.nrg)) (if on then t.modPort p fun x =>
      { x with drive := .hiZ, trg := false, stb := false, pen := false }
    else if t.drives p then t.modPort p fun x =>
      { x with drive := .idle, pen := decide (x.slot = .powering ∨ x.slot = .powered) && !x.penDue }
    else t) = (t.regs, t.nrg) := by
    intro t p
    split
    · rfl
    · split
      · rfl
      · rfl
  exact Prod.mk.inj (State.forAll_keeps (fun t : State => (t.regs, t.nrg)) hport (List.range 32)
    ((s.setBit Reg.ARM_MAQ 0 on).setBit Reg.ARM_STS 12 on))

theorem State.setMaquette_rd (k : Nat) : (s.setMaquette on).rd k = ((s.setBit Reg.ARM_MAQ 0 on).setBit Reg.ARM_STS 12 on).rd k :=
  congrArg (Tab.get (resetVal k) · k) (s.setMaquette_frame on).1

theorem State.setMaquette_maq : (s.setMaquette on).bit Reg.ARM_MAQ 0 = on := by
  rw [State.bit, State.setMaquette_rd, State.setBit_rd_ne _ (by decide)]
  exact State.setBit_bit_self (by decide)

theorem State.setMaquette_sts : (s.setMaquette on).bit Reg.ARM_STS 12 = on := by
  rw [State.bit, State.setMaquette_rd]
  exact State.setBit_bit_self (by decide)

theorem State.setMaquette_highZ {p : Nat} (hp : p < 32) : Port.HighZ ((s.setMaquette true).port p) := by
  simp only [State.setMaquette, if_true]
  exact State.forAll_modPort_port (fun _ => ⟨rfl, rfl, rfl, rfl⟩) _ (.inl (List.mem_range.2 hp))
end

section
variable {s : State} {req : Requester} {v fin : Word}

/-- A write of ARM_MAQ that leaves `fin` is followed by the change of the mode, where it changes the word. -/
theorem State.directStored_maq : s.directStored req Reg.ARM_MAQ v fin =
    if s.rd Reg.ARM_MAQ ≠ fin then (s.armStored req Reg.ARM_MAQ v fin).setMaquette (fin.getLsbD 0)
    else s.armStored req Reg.ARM_MAQ v fin := by
  have hhook : s.directStored req Reg.ARM_MAQ v fin = if Reg.ARM_MAQ = Reg.ARM_MAQ ∧ s.rd Reg.ARM_MAQ ≠ fin then
      (s.armStored req Reg.ARM_MAQ v fin).setMaquette (fin.getLsbD 0) else s.armStored req Reg.ARM_MAQ v fin := rfl
  rw [hhook]
  simp only [true_and]

theorem State.directStored_maq_ready : (s.directStored req Reg.ARM_MAQ v fin).nrg.ready = s.nrg.ready := by
  rw [State.directStored_maq]
  split
  · rw [(State.setMaquette_frame _ _).2, State.armStored_ready]
  · rw [State.armStored_ready]

theorem writeJudged_maq {u : State} {old new : Word} :
    u.writeJudged Reg.ARM_MAQ req old v new = .ok (if u.anyLive = true then old else new) := by
  have hrule : u.writeJudged Reg.ARM_MAQ req old v new = .ok (if Reg.ARM_MAQ = Reg.ARM_MAQ ∧ u.anyLive = true then old else new) := rfl
  rw [hrule]
  simp only [true_and]

theorem State.writeReg_maq {en : Bool} (hopen : s.openFor (regAcc req Reg.ARM_MAQ (word (flag en))) .pln = true)
    (hfin : (if s.anyLive = true then s.rd Reg.ARM_MAQ else mergeWrite (rowOf Reg.ARM_MAQ) (s.rd Reg.ARM_MAQ) (word (flag en))) = fin) :
    ∃ m, s.writeReg req Reg.ARM_MAQ (word (flag en)) = (s.directStored req Reg.ARM_MAQ (word (flag en)) fin).withMon m := by
  refine State.writeReg_unguarded unguarded_maq hopen (by cases en <;> rfl) ?_ State.directStored_maq_ready
  rw [writeJudged_maq, ← hfin]
  rfl
end

theorem maquetteMode : Claims.MaquetteMode := by
  unfold Claims.MaquetteMode
  intro s req en hopen _
  refine ⟨s.writeReg req Reg.ARM_MAQ (word (flag en)), rfl, ?_⟩
  obtain ⟨m, hm⟩ := State.writeReg_maq hopen rfl
  rw [hm, State.directStored_maq]
  cases hlive : s.anyLive
  case true =>
    rw [if_pos rfl, if_neg (not_not.2 rfl)]
    refine ⟨fun _ => ⟨?_, ?_, rfl⟩, fun h => (by cases h)⟩
    · rw [State.withMon_rd, State.armStored_rd_self]
    · rw [State.withMon_bit, State.bit, State.armStored_rd_ne (by decide), State.bit]
  case false =>
    have hen := mergeWrite_maq_en (s.rd Reg.ARM_MAQ) en
    rw [if_neg Bool.false_ne_true]
    generalize mergeWrite (rowOf Reg.ARM_MAQ) (s.rd Reg.ARM_MAQ) (word (flag en)) = fin at hen
    refine ⟨fun h => (by cases h), fun _ => ?_⟩
    by_cases hsame : s.rd Reg.ARM_MAQ = fin
    · rw [if_neg (not_not.2 hsame)]
      refine ⟨by rw [State.withMon_bit, State.bit, State.armStored_rd_self, hen], fun hne => absurd ?_ hne⟩
      rw [State.bit, hsame, hen]
    · rw [if_pos hsame, hen]
      simp only [State.withMon_bit, State.withMon_port]
      refine ⟨State.setMaquette_maq _ _, fun _ => ⟨State.setMaquette_sts _ _, fun hon p hp => ?_⟩⟩
      rw [hon]
      exact State.setMaquette_highZ _ hp

end Sys2Proof.Machine
end

section
/-!
PROOFS. Commits and re-casts (R119 to R121): the _C write of pair 4.
-/

namespace Sys2Proof.Machine
open Sys2Proof.Claims

/-! ### What leaves the armature's record -/

theorem State.arm_ite {a b : State} {c : Prop} [Decidable c] {x : ArmSt} (ha : a.arm = x) (hb : b.arm = x) :
    (if c then a else b).arm = x := by
  split
  · exact ha
  · exact hb

section
variable (s : State)

theorem State.raiseBit_arm {reg b src : Nat} (h : src < 576) : (s.raiseBit reg b src).arm = s.arm :=
  ((Settled.refl (s.setBit reg b true)).raise h).arm

theorem State.send_arm (o : Output) : (s.send o).arm = s.arm := (Settled.refl s).send.arm

theorem State.abortEye_arm (x : Bool) : (s.abortEye x).arm = s.arm :=
  State.arm_ite (State.arm_ite (State.raiseBit_arm _ (by decide)) rfl) rfl

theorem State.prbsSettle_arm : s.prbsSettle.arm = s.arm := by
  refine State.arm_ite rfl (State.forAll_keeps State.arm (fun t k => ?_) _ s)
  exact State.arm_ite rfl rfl

theorem State.shedPrbs_arm : s.shedPrbs.arm = s.arm :=
  State.arm_ite ((State.raiseBit_arm _ (by decide)).trans s.prbsSettle_arm) s.prbsSettle_arm

theorem State.shedRingArm_arm : s.shedRingArm.arm = s.arm := State.arm_ite rfl rfl

theorem State.loseState_arm (i : Island) : (s.loseState i).arm = s.arm := by
  obtain ⟨-, -, -, harm, -⟩ := State.common_eq_iff.1 ((s.resetRegs i).common_loseUnits i)
  exact harm

/-- An island that falls asleep and is not gated takes nothing from the armature. -/
theorem State.enterPower_arm (i : Island) {p : Power} (hp : p ≠ .gated) : (s.enterPower i p).arm = s.arm := by
  have hlost : (if p = .off ∨ p = .gated then (s.fallen i p).loseState i else s.fallen i p).arm = s.arm := by
    exact State.arm_ite (State.loseState_arm _ i) rfl
  unfold State.enterPower
  dsimp only
  cases p
  case gated => exact absurd rfl hp
  all_goals exact State.arm_ite hlost (State.arm_ite hlost hlost)

theorem State.sleepTo_arm (i : Island) {p : Power} (hp : p ≠ .gated) : (s.sleepTo i p).arm = s.arm := by
  unfold State.sleepTo
  dsimp only
  split
  · rfl
  · exact State.arm_ite (s.enterPower_arm i hp) (State.arm_ite rfl rfl)
  · exact State.arm_ite (s.enterPower_arm i hp) (State.arm_ite rfl rfl)
  · split
    · exact State.arm_ite rfl rfl
    · rfl

theorem State.sleepAllIdle_arm : s.sleepAllIdle.arm = s.arm := by
  refine State.foldl_keeps State.arm (fun t i => ?_) _ s
  dsimp only
  refine State.arm_ite ?_ rfl
  split
  · exact t.sleepTo_arm i (by split <;> decide)
  · exact State.arm_ite (t.sleepTo_arm i (by decide)) rfl
  · rfl

/-- No step of the shed order touches the armature's record (R268). -/
theorem State.shedAction_arm (n : Nat) : (s.shedAction n).arm = s.arm := by
  unfold State.shedAction
  split
  · exact (State.shedPrbs_arm _).trans (s.abortEye_arm true)
  · exact s.shedRingArm_arm
  · exact State.foldl_keeps State.arm (fun t i => (t.kickSeq_frame i).2.1) _ s
  · exact s.sleepAllIdle_arm
  · rfl

theorem State.admitWork_arm : s.admitWork.arm = s.arm := by
  refine State.foldl_keeps State.arm (fun t w => ?_) _ s
  exact State.arm_ite rfl rfl

theorem State.showNrg_arm : s.showNrg.arm = s.arm := by
  simp only [State.showNrg, State.wr_arm, State.setBit_arm, State.setFld_arm]

/-- Neither does a planner pass (R266). -/
theorem State.planPass_arm : s.planPass.arm = s.arm := by
  unfold State.planPass
  dsimp only
  rw [State.showNrg_arm, State.admitWork_arm]
  exact State.arm_ite ((State.raiseBit_arm _ (by decide)).trans (State.shedAction_arm _ _)) rfl

theorem State.requestWork_arm (w : Work) : (s.requestWork w).arm = s.arm := State.planPass_arm _

/-! Frames of the ring (R344). -/

theorem State.frameOut_arm (side : Side) (f : RFrame) : (s.frameOut side f).arm = s.arm := by
  have hwake : (s.wakeSide side).arm = s.arm := State.arm_ite (s.send_arm _) rfl
  exact State.arm_ite ((State.send_arm _ _).trans hwake) rfl

theorem State.stampSent_arm (f : RFrame) : (s.stampSent f).arm = s.arm := State.arm_ite rfl (State.arm_ite rfl rfl)

theorem State.grantAt_arm {n a : Nat} {t : State} (h : s.grantAt n a = some t) : t.arm = s.arm := by
  unfold State.grantAt State.grantsAt at h
  split at h
  · cases h
    rfl
  · cases h

theorem State.sendOwn_arm (side : Side) (f : RFrame) : (s.sendOwn side f).arm = s.arm := by
  unfold State.sendOwn
  dsimp only
  split
  · rfl
  · split
    next t ht =>
      have hgrant : s.grantAt arbRing (ringActivity f) = some t := by
        split at ht
        · cases ht
        · exact ht
      rw [State.frameOut_arm, State.stampSent_arm, s.grantAt_arm hgrant]
    · rfl

theorem State.sendImage_arm (n off : Nat) : (s.sendImage n off).arm = s.arm := by
  unfold State.sendImage
  split
  · rfl
  · exact State.foldl_keeps State.arm (fun t k => t.sendOwn_arm _ _) _ s

theorem State.beginServe_arm : s.beginServe.arm = s.arm := by
  unfold State.beginServe
  split
  · rfl
  next n off _ =>
    exact State.arm_ite (s.sendImage_arm n off) (s.sendImage_arm n off)

theorem State.beginEcho_arm : s.beginEcho.arm = s.arm := s.sendOwn_arm _ _
end

end Sys2Proof.Machine
end

section
/-!
PROOFS. Commits and re-casts (R119 to R121): the _C write of pair 4 refused, a whole commit that starts to gate, and a re-cast under way
or done.
-/

namespace Sys2Proof.Machine
open Sys2Proof.Claims

/-! ### The identity and the pins that a commit takes (R94, R122) -/

section
variable (s : State)

/-- The identity of an image, applied or pending, leaves all but the identity of the armature's record, and of the registers ARM_STS. -/
theorem State.applyIdentity_frame (im : Option Image) : ∃ ids b, (s.applyIdentity im).arm = { s.arm with identity := ids, bar2Log2 := b } ∧
    (s.applyIdentity im).isl = s.isl ∧ (s.applyIdentity im).nrg = s.nrg ∧
    ∀ k, k ≠ Reg.ARM_STS → (s.applyIdentity im).rd k = s.rd k := by
  unfold State.applyIdentity
  split
  · exact ⟨s.arm.identity, s.arm.bar2Log2, rfl, rfl, rfl, fun k hk => State.setBit_rd_ne _ hk _ _⟩
  · split
    · exact ⟨s.arm.identity, s.arm.bar2Log2, rfl, rfl, rfl, fun k hk => State.setBit_rd_ne _ hk _ _⟩
    · exact ⟨s.identityOf im, bar2LogOf im, rfl, rfl, rfl, fun k hk => State.setBit_rd_ne _ hk _ _⟩

theorem State.writeShadow_arm (im : Image) : (s.writeShadow im).arm = s.arm :=
  List.foldlRecOn (im.words ++ im.sig) _ (motive := fun p : Nat × State => p.2.arm = s.arm) rfl fun _ hp _ _ => hp

theorem State.lockPins_arm (im : Image) : ∃ locks, (s.lockPins im).arm = { s.arm with pinLocks := locks } := ⟨_, rfl⟩

/-- An image cast for a re-cast changes no more of the armature's record than the locks of its pins. -/
theorem State.castImage_arm (im : Image) : ∃ locks, (s.castImage im false).arm = { s.arm with pinLocks := locks } := by
  obtain ⟨locks, h⟩ := (s.writeShadow im).lockPins_arm im
  exact ⟨locks, h.trans (by rw [State.writeShadow_arm])⟩

variable {s} in
/-- A re-cast that ends commits the staged image (R121). -/
theorem State.commitDone_recast {r : CommitRun} {im : Image} (hrun : s.arm.run = some r) (hpart : r.whole = false)
    (hst : s.arm.staged = some im) : ∃ ids b, s.commitDone.arm = { s.arm with
      committed := some im, staged := none, staging := [], received := 0, run := none, identity := ids, bar2Log2 := b } := by
  simp only [State.commitDone, hrun, hst, hpart, Bool.false_eq_true, if_false]
  generalize hu : State.setBit _ Reg.ARM_STS 14 false = u
  obtain ⟨ids, b, harm, -⟩ := u.applyIdentity_frame (some im)
  have hu' : u.arm = { s.arm with committed := some im, staged := none, staging := [], received := 0, run := none } := by rw [← hu]; rfl
  rw [hu'] at harm
  refine ⟨ids, b, (State.raiseArm_arm (by decide)).trans ?_⟩
  exact State.arm_ite harm harm
end

/-! ### A re-cast under way or done -/

/-- The commit of value `v` is the last applied, and the re-cast of `im` is under way or done; a fetch may have taken its image away. -/
def Recasting (im : Image) (v : Word) (a : ArmSt) : Prop :=
  a.lastCommitV = v ∧
    ((a.run = none ∧ a.committed = some im) ∨ ∃ r, a.run = some r ∧ r.whole = false ∧ ∀ x, a.staged = some x → x = im)

namespace Recasting

variable {im : Image} {v : Word} {s t : State}

theorem of_arm (h : Recasting im v s.arm) (harm : t.arm = s.arm) : Recasting im v t.arm := harm ▸ h

/-- The result is that of the statement: a run, or the image committed. -/
theorem runs_or_committed (h : Recasting im v s.arm) : s.arm.run ≠ none ∨ s.arm.committed = some im := by
  obtain ⟨-, ⟨-, hcom⟩ | ⟨r, hrun, -⟩⟩ := h
  · exact .inr hcom
  · exact .inl (by rw [hrun]; simp)

/-- A running re-cast goes on with other islands. -/
theorem goesOn {r r' : CommitRun} (h : Recasting im v s.arm) (hrun : s.arm.run = some r) (hwhole : r'.whole = r.whole) :
    Recasting im v { s.arm with run := some r' } := by
  obtain ⟨hv, ⟨hnone, -⟩ | ⟨r₀, hr₀, hpart, hst⟩⟩ := h
  · rw [hrun] at hnone
    cases hnone
  · rw [hrun] at hr₀
    cases hr₀
    exact ⟨hv, .inr ⟨r', rfl, hwhole.trans hpart, hst⟩⟩

theorem castImage {x : Image} (h : Recasting im v s.arm) : Recasting im v (s.castImage x false).arm := by
  obtain ⟨locks, harm⟩ := s.castImage_arm x
  rw [harm]
  exact h

theorem commitDone (h : Recasting im v s.arm) : Recasting im v s.commitDone.arm := by
  obtain ⟨hv, ⟨hnone, hcom⟩ | ⟨r, hrun, hpart, hst⟩⟩ := h
  · have hsame : s.commitDone = s := by simp only [State.commitDone, hnone]
    rw [hsame]
    exact ⟨hv, .inl ⟨hnone, hcom⟩⟩
  · cases hx : s.arm.staged with
    | none =>
      have hsame : s.commitDone = s := by simp only [State.commitDone, hrun, hx]
      rw [hsame]
      exact ⟨hv, .inr ⟨r, hrun, hpart, hst⟩⟩
    | some x =>
      obtain ⟨ids, b, harm⟩ := State.commitDone_recast hrun hpart hx
      rw [harm, hst x hx]
      exact ⟨hv, .inl ⟨rfl, rfl⟩⟩

theorem ite {a b : State} {c : Prop} [Decidable c] (ha : Recasting im v a.arm) (hb : Recasting im v b.arm) :
    Recasting im v (if c then a else b).arm := by
  split
  · exact ha
  · exact hb

/-- An island of the re-cast has drained (R121). -/
theorem recastDrained {i : Island} (h : Recasting im v s.arm) : Recasting im v (s.recastDrained i).arm := by
  unfold State.recastDrained
  split
  next r x hrun hx =>
    refine .ite ?_ h
    exact .ite (commitDone (.ite (castImage (h.goesOn hrun rfl)) (h.goesOn hrun rfl)))
      (.ite (castImage (h.goesOn hrun rfl)) (h.goesOn hrun rfl))
  · exact h

/-- The planner has admitted the re-cast (R121). -/
theorem startRecast (h : Recasting im v s.arm) : Recasting im v s.startRecast.arm := by
  unfold State.startRecast
  split
  next r x hrun hx =>
    dsimp only
    refine .ite (commitDone (castImage (h.goesOn hrun rfl))) ?_
    refine List.foldlRecOn _ _ (motive := fun t : State => Recasting im v t.arm) (h.goesOn hrun rfl) fun t ht i _ => ?_
    exact .ite (recastDrained ht) (.of_arm ht (State.sleepTo_arm _ _ (by decide)))
  · exact h

/-- A fetch that begins takes the staged image away, and leaves the re-cast. -/
theorem beginFetch (h : Recasting im v s.arm) : Recasting im v s.beginFetch.arm := by
  refine .ite ?_ h
  have hload : Recasting im v (s.beginLoad 2).arm := by
    obtain ⟨hv, ⟨hnone, hcom⟩ | ⟨r, hrun, hpart, -⟩⟩ := h
    · exact ⟨hv, .inl ⟨hnone, hcom⟩⟩
    · exact ⟨hv, .inr ⟨r, hrun, hpart, fun x hx => nomatch hx⟩⟩
  exact hload.of_arm (State.sendOwn_arm _ _ _)

/-- The work that starts behind the re-cast, the re-cast itself among it, leaves it under way or done. -/
theorem startReady (h : Recasting im v s.arm) : Recasting im v s.startReady.arm := by
  refine List.foldlRecOn _ _ (motive := fun t : State => Recasting im v t.arm) h fun t ht w _ => ?_
  cases w
  case eyeScan => exact ht
  case prbs => exact ht
  case recast => exact .ite ht.startRecast (.of_arm ht (State.showNrg_arm _))
  case ringArm => exact .ite (.of_arm ht t.beginServe_arm) ht.beginFetch
  case ringDiag => exact .of_arm ht t.beginEcho_arm

end Recasting

/-! ### Pair 4 is judged (R119) -/

section
variable {s : State} {v : Word} {c : Nat × Nat} {im : Image}

theorem State.commitOp_refused (h : s.commitRefusal v = some c) : s.commitOp v = s.commitRefused c := by
  simp only [State.commitOp, h]

/-- A refused commit is recorded and reported; the armature's record and its stage stay (R119). -/
theorem State.commitRefused_spec (s : State) (c : Nat × Nat) : (s.commitRefused c).rd Reg.ARM_CMT_ERR = word (c.1 + c.2 * 8) ∧
    (s.commitRefused c).bit Reg.ARM_EVT 3 = true ∧ (s.commitRefused c).arm = s.arm ∧ (s.commitRefused c).stage = s.stage ∧
    (s.commitRefused c).nrg = s.nrg := by
  refine ⟨?_, State.raiseArm_bit (by decide), State.raiseArm_arm (by decide), ?_, State.raiseArm_nrg (by decide)⟩
  · exact (State.raiseArm_rd (by decide) (by decide) (by decide)).trans (State.wr_rd_self _ _ _)
  · exact (State.raiseArm_stage (by decide)).trans (State.stage_of_rd (State.wr_rd_ne _ (by decide) _))

/-- The state in which the value `v` of pair 4 is applied. -/
def State.commitApplied (s : State) (v : Word) : State := s.withArm { s.arm with lastCommitV := v }

/-- An admitted re-cast of a staged image is under way once the planner is asked. -/
theorem State.commitOp_recasting (h : s.commitRefusal v = none) (hv : v.getLsbD 17 = false) (hst : s.arm.staged = some im) :
    Recasting im v (s.commitOp v).arm := by
  simp only [State.commitOp, h, hv, Bool.false_eq_true, if_false]
  refine Recasting.of_arm ?_ (State.requestWork_arm _ _)
  exact ⟨rfl, .inr ⟨_, rfl, rfl, fun x hx => Option.some.inj (hx.symm.trans hst)⟩⟩
end

/-! ### A whole commit starts to gate (R120) -/

section
variable {s : State} {im : Image} {i : Island} {rest : List Island}

/-- The islands of a commit that are still to be gated begin with its last one, where that is not gated yet. -/
theorem toGate_of_last {l : List Island} {p : Island → Bool} (hlast : l.getLast? = some i) (hp : p i = true) :
    ∃ rest, l.reverse.filter p = i :: rest := by
  obtain ⟨front, rfl⟩ := List.getLast?_eq_some_iff.1 hlast
  refine ⟨front.reverse.filter p, ?_⟩
  rw [List.reverse_append, List.reverse_singleton, List.singleton_append, List.filter_cons_of_pos hp]

/-- The state of a whole commit that has islands to gate (R120). -/
def State.gating (s : State) (im : Image) (gate : List Island) : State :=
  let t := (s.applyIdentity (some im)).setStage 5
  { t with arm := { t.arm with run := some { whole := true, toGate := gate, toRaise := presentIslands (some im), powerUp := false } }
           boot := { t.boot with waitXtal := false } }

theorem State.startWhole_gates (hst : s.arm.staged = some im) (hcom : s.arm.committed ≠ none)
    (hgate : ((presentIslands s.arm.committed).reverse.filter fun i => decide ((s.island i).power ≠ .gated)) = i :: rest) :
    s.startWhole false = (s.gating im (i :: rest)).commitGated := by
  have hsome : s.arm.committed.isSome = true := Option.isSome_iff_ne_none.2 hcom
  simp only [State.startWhole, hst, hsome, if_true, Bool.false_eq_true, if_false, hgate, List.isEmpty_cons]
  rfl

/-- What a whole commit begins with: of the Plinth's registers only ARM_STS changes, and no island moves. -/
theorem State.gating_frame (s : State) (im : Image) (gate : List Island) : (s.gating im gate).isl = s.isl ∧
    (s.gating im gate).nrg = s.nrg ∧ (s.gating im gate).stage = 5 ∧
    (∀ k, k ≠ Reg.ARM_STS → (s.gating im gate).rd k = s.rd k) ∧ (s.gating im gate).arm.lastCommitV = s.arm.lastCommitV ∧
    (s.gating im gate).arm.committed = s.arm.committed ∧ (s.gating im gate).arm.staged = s.arm.staged ∧
    (s.gating im gate).arm.run = some { whole := true, toGate := gate, toRaise := presentIslands (some im), powerUp := false } := by
  obtain ⟨ids, b, harm, hisl, hnrg, hrd⟩ := s.applyIdentity_frame (some im)
  refine ⟨hisl, hnrg, ?_, fun k hk => (State.setStage_rd_ne hk).trans (hrd k hk), ?_, ?_, ?_, rfl⟩
  · exact State.setStage_stage (s := s.applyIdentity (some im)) (by decide)
  · exact (congrArg ArmSt.lastCommitV harm :)
  · exact (congrArg ArmSt.committed harm :)
  · exact (congrArg ArmSt.staged harm :)

theorem State.withoutTraffic_rd (s : State) (i : Island) (k : Nat) : (s.withoutTraffic i).rd k = s.rd k := rfl

/-- An ON island that the Plinth disables drains to be gated; beside the registers of refusals only its enable bit changes (R60, R62). -/
theorem State.plinthDisable_on (hpower : (s.island i).power = .on) (hdrain : (s.island i).drain = none) :
    ((s.plinthDisable i).island i).power = .on ∧ ((s.plinthDisable i).island i).drain = some .gated ∧
    (s.plinthDisable i).arm = s.arm ∧ (s.plinthDisable i).nrg = s.nrg ∧ (s.plinthDisable i).stage = s.stage := by
  have hend := (s.setBit Reg.PLN_ISL_EN i.idx false).gatedTrafficEnd_settled i
  rw [State.plinthDisable, State.islandDisabled, State.sleepTo_on ((hend.power i).trans hpower) ((hend.drain i).trans hdrain)]
  refine ⟨?_, ?_, hend.arm, hend.nrg, ?_⟩
  · rw [State.setIsland_island_self]
    exact (hend.power i).trans hpower
  · rw [State.setIsland_island_self]
  · refine State.stage_of_rd ((State.setIsland_rd _ _ _ _).trans ((hend.rd _ (by decide)).trans ?_))
    rw [State.withoutTraffic_rd, State.setBit_rd_ne _ (by decide)]

/-- The commit waits for the first island to be gated, where that is ON. -/
theorem State.commitGated_drains {r : CommitRun} (hrun : s.arm.run = some r) (hwhole : r.whole = true) (hdef : r.deferred = false)
    (hst : s.arm.staged = some im) (hgate : r.toGate = i :: rest) (hen : s.bit Reg.PLN_ISL_EN i.idx = true)
    (hpower : (s.island i).power = .on) (hdrain : (s.island i).drain = none) : s.commitGated = s.plinthDisable i := by
  obtain ⟨hon, -⟩ := State.plinthDisable_on hpower hdrain
  have hnext (fuel : Nat) : s.gateNext (fuel + 1) = s.plinthDisable i := by
    simp only [State.gateNext, hrun, hst, hwhole, hdef, hgate, hen, hon, if_true, Bool.or_false, Bool.not_true,
      Bool.false_eq_true, if_false, reduceCtorEq]
  exact hnext 11

/-- A whole commit whose last island is ON starts to gate it. -/
theorem State.startWhole_spec (hst : s.arm.staged = some im) (hcom : s.arm.committed ≠ none)
    (hlast : (presentIslands s.arm.committed).getLast? = some i) (hpower : (s.island i).power = .on) (hdrain : (s.island i).drain = none)
    (hen : s.bit Reg.PLN_ISL_EN i.idx = true) :
    (s.startWhole false).arm.lastCommitV = s.arm.lastCommitV ∧ (s.startWhole false).stage = 5 ∧
    ((s.startWhole false).island i).drain = some .gated ∧ (s.startWhole false).arm.committed = s.arm.committed ∧
    (s.startWhole false).nrg = s.nrg := by
  obtain ⟨rest, hgate⟩ := toGate_of_last (p := fun i => decide ((s.island i).power ≠ .gated)) hlast (by simp [hpower])
  obtain ⟨hisl, hnrg, hstage, hrd, hv, hcom', hst', hrun⟩ := s.gating_frame im (i :: rest)
  rw [State.startWhole_gates hst hcom hgate]
  generalize s.gating im (i :: rest) = u at hisl hnrg hstage hrd hv hcom' hst' hrun
  have hisl' : u.island i = s.island i := congrArg (Tab.get (islDefault i) · i.idx) hisl
  have hpower' : (u.island i).power = .on := by rw [hisl', hpower]
  have hdrain' : (u.island i).drain = none := by rw [hisl', hdrain]
  have hen' : u.bit Reg.PLN_ISL_EN i.idx = true := by rw [State.bit, hrd _ (by decide)]; exact hen
  rw [State.commitGated_drains hrun rfl rfl (hst'.trans hst) rfl hen' hpower' hdrain']
  obtain ⟨-, hgated, harm, hnrg', hstage'⟩ := State.plinthDisable_on hpower' hdrain'
  exact ⟨by rw [harm, hv], hstage'.trans hstage, hgated, by rw [harm, hcom'], hnrg'.trans hnrg⟩

theorem State.commitOp_whole {v : Word} (h : s.commitRefusal v = none) (hv : v.getLsbD 17 = true) (hxtal : s.boot.waitXtal = false) :
    s.commitOp v = (s.commitApplied v).startWhole false := by
  simp only [State.commitOp, h, hv, hxtal, if_true]
  rfl

/-- An admitted whole commit is the last applied, and starts to gate. -/
theorem State.commitOp_gates {v : Word} (h : s.commitRefusal v = none) (hv : v.getLsbD 17 = true) (hxtal : s.boot.waitXtal = false)
    (hst : s.arm.staged = some im) (hcom : s.arm.committed ≠ none) (hlast : (presentIslands s.arm.committed).getLast? = some i)
    (hpower : (s.island i).power = .on) (hdrain : (s.island i).drain = none) (hen : s.bit Reg.PLN_ISL_EN i.idx = true) :
    (s.commitOp v).arm.lastCommitV = v ∧ (s.commitOp v).stage = 5 ∧ ((s.commitOp v).island i).drain = some .gated ∧
    (s.commitOp v).arm.committed = s.arm.committed ∧ (s.commitOp v).nrg = s.nrg := by
  rw [State.commitOp_whole h hv hxtal]
  exact State.startWhole_spec (s := s.commitApplied v) hst hcom hlast hpower hdrain hen
end

/-! ### The _C write of pair 4 -/

section
variable {s : State} {req : Requester} {o : PairOpen} {r : Nat × Nat} {i : Island}

/-- ARM_CMT_V reads the value applied last. -/
theorem State.pairValue_commit : s.pairValue 4 = s.arm.lastCommitV := rfl

/-- COMMIT_WHOLE and RECAST are the same write. -/
theorem exec_commit {c : Instr} {v : Word} (hc : c = .commitWhole req v ∨ c = .recast req v) :
    exec c s = .next (s.writeReg req Reg.ARM_CMT_C v) := by
  rcases hc with rfl | rfl
  · rfl
  · rfl

/-- The matching _C write applies the pair's value, and admitted work starts. -/
theorem State.writeReg_commit (hpair : s.pair 4 = some o) (hreq : o.req = req) (htime : s.now ≤ o.openAt + 400000)
    (hopen : s.openFor (regAcc req Reg.ARM_CMT_C (~~~o.value)) .pln = true) :
    ∃ m, s.writeReg req Reg.ARM_CMT_C (~~~o.value) = ((s.pairClosed req 4 o.value).commitOp o.value).startReady.withMon m := by
  have hC : pairV 4 + 4 = Reg.ARM_CMT_C := rfl
  obtain ⟨m, hm⟩ := State.writeReg_pairC (p := 4) (by decide) hpair hreq htime (hC ▸ hopen)
  have happly : (s.pairClosed req 4 o.value).pairApply 4 o.value = (s.pairClosed req 4 o.value).commitOp o.value := rfl
  rw [happly, hC] at hm
  exact ⟨m, hm⟩

theorem State.pairClosed_commitRefusal (v w : Word) : (s.pairClosed req 4 v).commitRefusal w = s.commitRefusal w := rfl

section
variable (hpair : s.pair 4 = some o) (hreq : o.req = req) (htime : s.now ≤ o.openAt + 400000)
  (hopen : s.openFor (regAcc req Reg.ARM_CMT_C (~~~o.value)) .pln = true)
include hpair hreq htime hopen

theorem commit_refused {c : Instr} (hc : c = .commitWhole req (~~~o.value) ∨ c = .recast req (~~~o.value))
    (hr : s.commitRefusal o.value = some r) :
    Completes c s fun t =>
      t.rd Reg.ARM_CMT_ERR = word (r.1 + r.2 * 8) ∧ t.bit Reg.ARM_EVT 3 = true ∧ t.arm = s.arm ∧ t.stage = s.stage := by
  obtain ⟨m, hm⟩ := State.writeReg_commit hpair hreq htime hopen
  rw [State.commitOp_refused ((State.pairClosed_commitRefusal _ _).trans hr)] at hm
  obtain ⟨herr, hevt, harm, hstage, hnrg⟩ := (s.pairClosed req 4 o.value).commitRefused_spec r
  have hready : ((s.pairClosed req 4 o.value).commitRefused r).nrg.ready = [] := by
    rw [hnrg, State.pairClosed_ready, State.openFor_ready hopen]
  rw [State.startReady_of_none hready] at hm
  refine ⟨_, exec_commit hc, ?_⟩
  rw [hm]
  simp only [State.withMon_rd, State.withMon_bit, State.withMon_arm, State.withMon_stage]
  exact ⟨herr, hevt, harm, hstage⟩

theorem commitWhole_gates (hr : s.commitRefusal o.value = none) (hv : o.value.getLsbD 17 = true) (hxtal : s.boot.waitXtal = false)
    (hlast : (presentIslands s.arm.committed).getLast? = some i) (hpower : (s.island i).power = .on)
    (hdrain : (s.island i).drain = none) (hen : s.bit Reg.PLN_ISL_EN i.idx = true) (hcom : s.arm.committed ≠ none)
    (hst : s.arm.staged ≠ none) :
    Completes (.commitWhole req (~~~o.value)) s fun t =>
      t.pairValue 4 = o.value ∧ t.stage = 5 ∧ (t.island i).drain = some .gated ∧ t.arm.committed = s.arm.committed := by
  obtain ⟨im, him⟩ := Option.ne_none_iff_exists'.1 hst
  obtain ⟨m, hm⟩ := State.writeReg_commit hpair hreq htime hopen
  obtain ⟨hlastV, hstage, hgated, hcommitted, hnrg⟩ := State.commitOp_gates (s := s.pairClosed req 4 o.value)
    ((State.pairClosed_commitRefusal _ _).trans hr) hv hxtal him hcom hlast hpower hdrain hen
  have hready : ((s.pairClosed req 4 o.value).commitOp o.value).nrg.ready = [] := by
    rw [hnrg, State.pairClosed_ready, State.openFor_ready hopen]
  rw [State.startReady_of_none hready] at hm
  refine ⟨_, exec_commit (.inl rfl), ?_⟩
  rw [hm]
  simp only [State.pairValue_commit, State.withMon_arm, State.withMon_stage, State.withMon_island]
  exact ⟨hlastV, hstage, hgated, hcommitted⟩

theorem recast_runs (hr : s.commitRefusal o.value = none) (hv : o.value.getLsbD 17 = false) (hst : s.arm.staged ≠ none) :
    Completes (.recast req (~~~o.value)) s fun t =>
      t.pairValue 4 = o.value ∧ (t.arm.run ≠ none ∨ t.arm.committed = s.arm.staged) := by
  obtain ⟨im, him⟩ := Option.ne_none_iff_exists'.1 hst
  obtain ⟨m, hm⟩ := State.writeReg_commit hpair hreq htime hopen
  have hrecast := (State.commitOp_recasting (s := s.pairClosed req 4 o.value) ((State.pairClosed_commitRefusal _ _).trans hr) hv
    him).startReady
  refine ⟨_, exec_commit (.inr rfl), ?_⟩
  rw [hm]
  simp only [State.pairValue_commit, State.withMon_arm, him]
  exact ⟨hrecast.1, hrecast.runs_or_committed⟩
end
end

theorem commitsAreJudged : Claims.CommitsAreJudged := by
  unfold Claims.CommitsAreJudged
  exact fun s req o hpair hreq htime hopen =>
    ⟨fun c hc r hr => commit_refused hpair hreq htime hopen hc hr,
      fun hr hv hxtal i hlast hpower hdrain hen hcom hst =>
        commitWhole_gates hpair hreq htime hopen hr hv hxtal hlast hpower hdrain hen hcom hst,
      fun hr hv hst => recast_runs hpair hreq htime hopen hr hv hst⟩

/-- Settles O13: a whole commit by its first island to be gated, a re-cast by what every admitted work leaves of it. -/
theorem commitsAreJudgedAndEnforced : Obligations.CommitsAreJudgedAndEnforced := ⟨enforceNeedsSignature, commitsAreJudged, maquetteMode⟩

end Sys2Proof.Machine
end

section
/-!
PROOFS. What events, refusals and the answers to the host leave of the work of the function: its channels, queues and locks, and
what has left the device.
-/

namespace Sys2Proof.Machine
open Sys2Proof.Claims

/-- A control register of a head port. -/
def headCtl (k : Nat) : Bool := (List.range 32).any fun p => decide (k = Reg.HP_CTL (qOf p) (iOf p))

/-- The Plinth's registers that tell what has reset the device, what its clocks are and how its boot stands. -/
def plinthReg (k : Nat) : Bool := decide (k = Reg.PLN_RST_CAUSE) || decide (k = Reg.CLK_STS) || decide (k = Reg.PLN_BOOT)

/-- The bits of registers that tell whether the link is up, a head has power, what has reset the device, what its clocks are and how its boot
stands. -/
def watched (k b : Nat) : Bool :=
  if plinthReg k then true else if k = Reg.HST_LINK_STS then decide (b = 17) else headCtl k && decide (b = 0)

/-- From `z` to `s` the work of the function stands, and what leaves the device joins what has left it. Where `still` holds, no
island has lost its state and no read has been issued; where `heads` does not hold, nothing is said of the heads' power. -/
structure Onward (still heads : Prop) (z s : State) : Prop where
  boot : s.boot = z.boot
  fuses : s.fuses = z.fuses
  sram : s.sram = z.sram
  committed : s.arm.committed = z.arm.committed
  chn : ∀ k, (s.chn k).state = (z.chn k).state ∧ (s.chn k).gen = (z.chn k).gen
  queue : ∀ q, (s.queue q).state = .enabled → (z.queue q).state = .enabled
  locks : s.que.locks = z.que.locks
  op : z.que.op = none → s.que.op = none
  sent : z.sent <:+ s.sent
  bits : ∀ k b, watched k b = true → (headCtl k = true → heads) →
    s.bit k b = z.bit k b ∨ ¬still ∧ plinthReg k = false ∧ s.bit k b = false
  ltssm : still → z.linkUp = false → s.ltssm = z.ltssm
  tags : still ∨ z.linkUp = false → z.txn.tags = [] → s.txn.tags = []
  ready : still → s.nrg.ready = z.nrg.ready

/-- What the function's work and its traces in the device are made of. -/
def State.work (s : State) : BootSt × Fuses × Tab SramWord × Option Image × Tab Chan × Tab Queue × Tab HwLock × Option ChOp × List Output ×
    Tab Word × List Tag × List Work :=
  (s.boot, s.fuses, s.sram, s.arm.committed, s.que.chans, s.que.queues, s.que.locks, s.que.op, s.sent, s.regs, s.txn.tags, s.nrg.ready)

/-- A register without watched bits. -/
def unwatched (k : Nat) : Bool := !plinthReg k && decide (k ≠ Reg.HST_LINK_STS) && !headCtl k

theorem watched_of_unwatched {k b : Nat} (h : unwatched k = true) : watched k b = false := by
  simp only [unwatched, Bool.and_eq_true, decide_eq_true_eq, Bool.not_eq_true'] at h
  obtain ⟨⟨hplinth, hlink⟩, hheads⟩ := h
  rw [watched, hplinth, if_neg (by decide), if_neg hlink, hheads, Bool.false_and]

/-- A register of a block that has none of the watched ones. -/
theorem unwatched_of_block {k : Nat} (h : 1 < k / 65536 ∧ k / 65536 ≠ 5 ∧ (k / 65536 < 0xB ∨ 0xE < k / 65536)) : unwatched k = true := by
  obtain ⟨h0, h5, hq⟩ := h
  have hheads : headCtl k = false := by
    simp only [headCtl, List.any_eq_false, List.mem_range, decide_eq_true_eq, Reg.HP_CTL, qOf, iOf]
    intro p hp
    omega
  simp only [unwatched, plinthReg, hheads, Bool.not_false, Bool.and_true, Bool.and_eq_true, decide_eq_true_eq, Bool.not_eq_true',
    Bool.or_eq_false_iff, decide_eq_false_iff_not, Reg.PLN_RST_CAUSE, Reg.CLK_STS, Reg.PLN_BOOT, Reg.HST_LINK_STS]
  omega

namespace Onward

variable {p q : Prop} {z s : State}

theorem refl (s : State) : Onward p q s s :=
  ⟨rfl, rfl, rfl, rfl, fun _ => ⟨rfl, rfl⟩, fun _ => id, rfl, id, List.suffix_refl _, fun _ _ _ _ => .inl rfl, fun _ _ => rfl, fun _ => id,
    fun _ => rfl⟩

/-- A link that is down stays down. -/
theorem down (h : Onward p q z s) (hz : z.linkUp = false) : s.linkUp = false :=
  (h.bits Reg.HST_LINK_STS 17 (by decide) fun hh => absurd hh (by decide)).elim (·.trans hz) fun hlost => hlost.2.2

theorem linkUp (h : Onward p q z s) (hp : p) : s.linkUp = z.linkUp :=
  (h.bits Reg.HST_LINK_STS 17 (by decide) fun hh => absurd hh (by decide)).resolve_right fun hlost => hlost.1 hp

theorem plinth (h : Onward p q z s) {k : Nat} (hk : plinthReg k = true) (b : Nat) : s.bit k b = z.bit k b := by
  have hw : watched k b = true := by rw [watched, if_pos hk]
  refine (h.bits k b hw fun hh => ?_).resolve_right fun hlost => absurd (hk.symm.trans hlost.2.1) (by decide)
  simp only [plinthReg, Bool.or_eq_true, decide_eq_true_eq] at hk
  rcases hk with (rfl | rfl) | rfl
  · exact absurd hh (by decide)
  · exact absurd hh (by decide)
  · exact absurd hh (by decide)

theorem cause (h : Onward p q z s) (b : Nat) : s.bit Reg.PLN_RST_CAUSE b = z.bit Reg.PLN_RST_CAUSE b := h.plinth rfl b

theorem trans {t : State} (h : Onward p q z s) (g : Onward p q s t) : Onward p q z t where
  boot := g.boot.trans h.boot
  fuses := g.fuses.trans h.fuses
  sram := g.sram.trans h.sram
  committed := g.committed.trans h.committed
  chn k := ⟨(g.chn k).1.trans (h.chn k).1, (g.chn k).2.trans (h.chn k).2⟩
  queue q hq := h.queue q (g.queue q hq)
  locks := g.locks.trans h.locks
  op hz := g.op (h.op hz)
  sent := h.sent.trans g.sent
  bits k b hw hq := (g.bits k b hw hq).elim (fun e => (h.bits k b hw hq).imp e.trans fun ⟨h1, h2, h3⟩ => ⟨h1, h2, e.trans h3⟩) .inr
  ltssm hp hz := (g.ltssm hp (h.down hz)).trans (h.ltssm hp hz)
  tags hd hz := g.tags (hd.imp_right h.down) (h.tags hd hz)
  ready hp := (g.ready hp).trans (h.ready hp)

/-- An update of what the function's work does not include. -/
theorem upd {t : State} (h : Onward p q z s) (hw : t.work = s.work) : Onward p q z t := by
  simp only [State.work, Prod.mk.injEq] at hw
  obtain ⟨hboot, hfuses, hsram, hcom, hchans, hqueues, hlocks, hop, hsent, hregs, htags, hready⟩ := hw
  have hchn (k : Nat) : t.chn k = s.chn k := by rw [State.chn, hchans, State.chn]
  have hqueue (n : Nat) : t.queue n = s.queue n := by rw [State.queue, hqueues, State.queue]
  have hrd (k : Nat) : t.rd k = s.rd k := State.rd_of_regs hregs k
  exact h.trans ⟨hboot, hfuses, hsram, hcom, fun k => by rw [hchn]; exact ⟨rfl, rfl⟩, fun n hn => by rwa [hqueue] at hn, hlocks,
    fun hs => hop.trans hs, hsent ▸ List.suffix_refl _, fun k b _ _ => .inl (by rw [State.bit, hrd, State.bit]),
    fun _ _ => by rw [State.ltssm, State.fld, hrd, State.ltssm, State.fld], fun _ hs => htags.trans hs, fun _ => hready⟩

theorem ite {a b : State} {c : Prop} [Decidable c] (ha : Onward p q z a) (hb : Onward p q z b) : Onward p q z (if c then a else b) := by
  split
  · exact ha
  · exact hb

theorem foldl {α : Type} {f : State → α → State} (l : List α) (h : Onward p q z s) (hf : ∀ t a, Onward p q z t → Onward p q z (f t a)) :
    Onward p q z (l.foldl f s) :=
  List.foldlRecOn l f (motive := Onward p q z) h fun t ht a _ => hf t a ht

theorem forAll {f : State → Nat → State} (l : List Nat) (h : Onward p q z s) (hf : ∀ t k, Onward p q z t → Onward p q z (f t k)) :
    Onward p q z (s.forAll l f) := h.foldl l hf

/-! ### Registers -/

/-- A register write that leaves the watched bits as they are, and LTSSM of a link that is down. -/
theorem wr_of_bits {k : Nat} {v : Word} (h : Onward p q z s)
    (hv : ∀ b, watched k b = true → (headCtl k = true → q) → v.getLsbD b = s.bit k b)
    (hl : k = Reg.HST_LINK_STS → s.linkUp = false → fieldOf v 0 3 = s.fld k 0 3) : Onward p q z (s.wr k v) := by
  refine h.trans { (refl (p := p) (q := q) s) with bits := fun j b hw hq => .inl ?_, ltssm := fun _ hdown => ?_ }
  · by_cases hj : j = k
    · subst hj
      rw [State.wr_bit_self, hv b hw hq]
    · rw [State.wr_bit_other hj]
  · by_cases hk : k = Reg.HST_LINK_STS
    · subst hk
      rw [State.ltssm, State.wr_fld_self, hl rfl hdown, State.ltssm]
    · rw [State.ltssm, State.wr_fld_other (Ne.symm hk), State.ltssm]

theorem wr {k : Nat} {v : Word} (h : Onward p q z s) (hk : unwatched k = true) : Onward p q z (s.wr k v) :=
  h.wr_of_bits (fun _ hw _ => absurd ((watched_of_unwatched hk).symm.trans hw) (by decide)) fun hlink =>
    absurd hk (by rw [hlink]; decide)

theorem setFld {k lo w n : Nat} (h : Onward p q z s) (hk : unwatched k = true) : Onward p q z (s.setFld k lo w n) := h.wr hk

theorem setBit {k b : Nat} {x : Bool} (h : Onward p q z s) (hk : unwatched k = true) : Onward p q z (s.setBit k b x) := h.wr hk

theorem bumpBy {k n : Nat} (h : Onward p q z s) (hk : unwatched k = true) : Onward p q z (s.bumpBy k n) := h.wr hk

theorem bump {k : Nat} (h : Onward p q z s) (hk : unwatched k = true) : Onward p q z (s.bump k) := h.wr hk

/-- A field of HST_LINK_STS beside DL_UP; one of LTSSM only while the link is up. -/
theorem setLink {lo w n : Nat} (h : Onward p q z s) (hw : lo + w ≤ 17) (hlo : 3 ≤ lo ∨ s.linkUp = true) :
    Onward p q z (s.setFld Reg.HST_LINK_STS lo w n) := by
  refine h.wr_of_bits (fun b hb _ => ?_) fun _ hdown => ?_
  · rw [show b = 17 from of_decide_eq_true hb, getLsbD_withField, if_neg (by omega), State.bit]
  · have hlo : 3 ≤ lo := hlo.resolve_right fun hup => absurd (hdown.symm.trans hup) (by decide)
    exact fieldOf_withField_of_disjoint (by omega)

/-! ### Events (R64, R66, R161, R162, R231, R438) -/

theorem setIsland {i : Island} {x : IslSt} (h : Onward p q z s) : Onward p q z (s.setIsland i x) := h.upd (by rfl)

theorem wake {i : Island} (h : Onward p q z s) : Onward p q z (s.wake i) := by
  unfold State.wake
  refine .ite h.setIsland (.ite h ?_)
  split
  · exact h.setIsland
  · exact h.setIsland
  · exact h

theorem send {o : Output} (h : Onward p q z s) : Onward p q z (s.send o) := by
  have hsts : Onward p q z (if o.onLink && s.bit Reg.HST_LINK_STS 13 then s.setBit Reg.HST_LINK_STS 13 false else s) :=
    .ite (h.setLink (by decide) (.inl (by decide))) h
  exact .ite h (hsts.trans { (refl (p := p) (q := q) _) with sent := List.suffix_cons _ _ })

theorem toRecovery (h : Onward p q z s) (hup : s.linkUp = true) : Onward p q z s.toRecovery := by
  have hst := h.setLink (lo := 0) (w := 3) (n := 4) (by decide) (.inr hup)
  exact ((hst.setLink (lo := 13) (w := 3) (n := 0) (by decide) (.inl (by decide))).bump (k := Reg.HST_RECOV_CNT) (by decide)).upd (by rfl)

/-- A link that is down stays where it is. -/
theorem leaveL1 (h : Onward p q z s) : Onward p q z s.leaveL1 := by
  unfold State.leaveL1
  split
  case isTrue hup =>
    rw [Bool.and_eq_true, Bool.and_eq_true] at hup
    exact h.wake.toRecovery (((refl (p := True) (q := True) s).wake.linkUp trivial).trans hup.1.1)
  case isFalse => exact h

theorem setCfg {d : Nat} {v : Dword} (h : Onward p q z s) : Onward p q z (s.setCfg d v) := h.upd (by rfl)

theorem sendMessage {v : Nat} (h : Onward p q z s) : Onward p q z (s.sendMessage v) := by
  unfold State.sendMessage
  split
  · exact .ite (h.upd (by rfl)).leaveL1 (h.upd (by rfl)).send
  · exact .ite (h.upd (by rfl)).leaveL1 (h.upd (by rfl)).send
  · exact h

theorem pmeFor {v : Nat} (h : Onward p q z s) : Onward p q z (s.pmeFor v) := .ite h.send h

theorem signalVector {v : Nat} (h : Onward p q z s) : Onward p q z (s.signalVector v) :=
  .ite h.pmeFor.sendMessage (.ite (h.pmeFor.upd (by rfl)).sendMessage (h.pmeFor.upd (by rfl)))

/-- EVT_PEND has no watched bits; the number of a source beyond the table's end reaches no register of the link. -/
theorem takeEvent {src : Nat} (h : Onward p q z s) (hs : q → src < 576) : Onward p q z (s.takeEvent src) := by
  have hset : Onward p q z (s.setBit (Reg.EVT_PEND (src / 18)) (src % 18) true) := by
    have hlink : Reg.EVT_PEND (src / 18) ≠ Reg.HST_LINK_STS := by
      simp only [Reg.EVT_PEND, Reg.HST_LINK_STS]
      omega
    have hplinth : plinthReg (Reg.EVT_PEND (src / 18)) = false := by
      simp only [plinthReg, Reg.EVT_PEND, Reg.PLN_RST_CAUSE, Reg.CLK_STS, Reg.PLN_BOOT, Bool.or_eq_false_iff, decide_eq_false_iff_not]
      omega
    refine h.wr_of_bits (fun b hw hq => ?_) fun he => absurd he hlink
    exfalso
    rw [watched, hplinth, if_neg (by decide), if_neg hlink, Bool.and_eq_true] at hw
    have hsrc := hs (hq hw.1)
    have hno := unwatched_of_block (k := Reg.EVT_PEND (src / 18)) (by simp only [Reg.EVT_PEND]; omega)
    simp [unwatched, hw.1] at hno
  exact .ite h (.ite hset hset.signalVector)

theorem monEvent {src : Nat} (h : Onward p q z s) : Onward p q z (s.monEvent src) := .ite (.ite (h.upd (by rfl)) (h.bump (by decide))) h

theorem raise_any {src : Nat} (h : Onward p q z s) (hs : q → src < 576) : Onward p q z (s.raise src) := by
  have hm := h.monEvent (src := src)
  exact .ite (.ite (wake (hm.upd (by rfl))) (.ite hm (hm.bump (by decide)))) (.ite (hm.takeEvent hs) hm)

theorem raise {src : Nat} (h : Onward p q z s) (hs : src < 576) : Onward p q z (s.raise src) := h.raise_any fun _ => hs

theorem raiseBit {reg b src : Nat} (h : Onward p q z s) (hk : unwatched reg = true) (hs : src < 576) :
    Onward p q z (s.raiseBit reg b src) := (h.setBit hk).raise hs

theorem raiseQue {b : Nat} (h : Onward p q z s) (hb : q → b < 40) : Onward p q z (s.raiseQue b) :=
  raise_any (h.setBit (k := Reg.QUE_EVT) (by decide)) fun hq => by have := hb hq; omega

theorem raiseSat {b : Nat} (h : Onward p q z s) (hb : b < 56) : Onward p q z (s.raiseSat b) := h.raiseBit (by decide) (by omega)

theorem raiseLink {b : Nat} (h : Onward p q z s) (hb : b < 72) : Onward p q z (s.raiseLink b) := h.raiseBit (by decide) (by omega)

/-! ### Refused accesses and the end of a gated island's traffic (R33, R62, R67) -/

theorem drew (h : Onward p q z s) : Onward p q z s.drew := h.upd (by rfl)

theorem aerFirst {b : Nat} (h : Onward p q z s) : Onward p q z (s.aerFirst b) := by
  have hlog := (h.setCfg (d := 70) (v := (s.cfgD 70 &&& ~~~(31 : Dword)) ||| BitVec.ofNat 32 b)).foldl (List.range 4)
    (f := fun t k => t.setCfg (71 + k) (BitVec.ofNat 32 (Config.freeNat (t.freeIdx + k)))) fun _ _ ht => ht.setCfg
  exact .ite h.setCfg hlog.drew.drew.drew.drew

theorem aer {b : Nat} {advisory : Bool} (h : Onward p q z s) : Onward p q z (s.aer b advisory) := by
  have hfirst : Onward p q z (if !(s.cfgD 66).getLsbD b && decide (s.cfgD 65 &&& ~~~(s.cfgD 66) = 0) then s.aerFirst b else s) :=
    .ite h.aerFirst h
  unfold State.aer
  exact (ite hfirst.setCfg.setCfg hfirst.setCfg).setCfg.setCfg

theorem logAccess {req : Requester} {addr cause : Nat} {ca : Bool} (h : Onward p q z s) : Onward p q z (s.logAccess req addr ca cause) :=
  .ite (((h.setBit (by decide)).wr (by decide)).wr (by decide)) (h.setBit (by decide))

theorem raiseCause {cause : Nat} (h : Onward p q z s) : Onward p q z (s.raiseCause cause) := by
  unfold State.raiseCause
  split
  · exact h.raise (by decide)
  · exact h.raise (by decide)
  · exact (h.bump (by decide)).raise (by decide)
  · exact h

theorem accessRefused {write : Bool} {a : RegAccess} {cause : Nat} (h : Onward p q z s) : Onward p q z (s.accessRefused write a cause) := by
  have hlog : Onward p q z (if s.stopped .pln then s else (s.logAccess a.req a.addr.toNat (causeCA cause) cause).raiseCause cause) :=
    .ite h h.logAccess.raiseCause
  exact .ite hlog.aer hlog

theorem monOut {cs : List Char} (h : Onward p q z s) : Onward p q z (s.monOut cs) := .ite h h.send

/-- A refusal line of the monitor (R437). -/
theorem monNo {line : List Char} (h : Onward p q z s) : Onward p q z (s.monNo line) := by
  have hout := ((h.foldl ["! ".toList ++ line] (f := State.monLine) fun _ _ ht => ht.monOut).monOut (cs := "> ".toList)).bump
    (k := Reg.MON_ERR_CNT) (by decide)
  exact (hout.upd (by rfl)).setBit (k := Reg.MON_STS) (by decide)

theorem splitAnswer {m : Nat} {ans : Option (List SatWord)} (h : Onward p q z s) : Onward p q z (s.splitAnswer m ans) := by
  unfold State.splitAnswer
  split
  · exact h
  · exact h.upd (by rfl)

theorem satLog {cause window requester : Nat} {addr : BitVec 22} (h : Onward p q z s) :
    Onward p q z (s.satLog cause window requester addr) := h.upd (by rfl)

theorem answerRefused {write : Bool} {a : RegAccess} {cause : Nat} (h : Onward p q z s) : Onward p q z (s.answerRefused write a cause) := by
  unfold State.answerRefused
  split
  · exact .ite h h.send
  · exact .ite h h.monNo
  · exact .ite (h.satLog.raiseSat (by decide)) h.satLog.splitAnswer
  · exact .ite (h.satLog.raiseSat (by decide)) h.satLog.splitAnswer

theorem burstRefused {cause : Nat} (h : Onward p q z s) : Onward p q z (s.burstRefused cause) := h.drew.logAccess.raiseCause.aer

theorem jobReply {j : BridgeJob} {st : CplStatus} {data : List Dword} {poisoned : Bool} (h : Onward p q z s) :
    Onward p q z (s.jobReply j st data poisoned) := .ite h h.send

theorem endJobs (h : Onward p q z s) : Onward p q z s.endJobs :=
  foldl (s := { s with sat := { s.sat with nonPosted := [] } }) _ (h.upd (by rfl)) fun _ _ ht => ht.aer.jobReply

theorem gatedTrafficEnd {i : Island} (h : Onward p q z s) : Onward p q z (s.gatedTrafficEnd i) := by
  have hparked := (h.upd (t := s.withoutTraffic i) rfl).foldl (s.wakeBuf.filter fun e => decide (e.1 = i))
    (f := fun t e => match e.2 with
      | .write a _ => t.accessRefused true a 9
      | .burst .. => t.burstRefused 9
      | .event _ => t) fun t e ht => by
    split
    · exact ht.accessRefused
    · exact ht.burstRefused
    · exact ht
  have hwaited := hparked.foldl (s.waiters.filter fun w => decide (w.isl = i))
    (f := fun t w => (t.accessRefused w.write w.acc 9).answerRefused w.write w.acc 9) fun t w ht => ht.accessRefused.answerRefused
  exact .ite hwaited.endJobs hwaited

/-! ### Islands that fall asleep (R57, R58), and the planner (R266 to R269) -/

/-- A record that an island loses is counted with its channel, which stays what it is. -/
theorem loseRecord {slot port : Option Nat} (h : Onward p q z s) : Onward p q z (s.loseRecord slot port) := by
  have hslot : Onward p q z (match slot with
      | some k => s.setChn k { s.chn k with lost := (s.chn k).lost + 1 }
      | none => s) := by
    cases slot with
    | none => exact h
    | some k =>
      refine h.trans { (refl (p := p) (q := q) s) with chn := fun j => ?_ }
      by_cases hj : j = k
      · rw [hj, State.setChn_chn_self]
        exact ⟨rfl, rfl⟩
      · rw [State.setChn_chn_ne _ hj]
        exact ⟨rfl, rfl⟩
  cases port with
  | none => exact hslot
  | some _ => exact hslot.upd (by rfl)

/-- The queue island without its supply has no queue and no command under way. -/
theorem withoutQueues (h : Onward False q z s) : Onward False q z { s with
    que := { s.que with op := none, opRes := [0, 0], queues := [], stageFull := false, vecs := [], lockWait := [] } } :=
  h.trans { (refl (p := False) (q := q) s) with
    queue := fun _ hq => QState.noConfusion (hq : QState.disabled = .enabled)
    op := fun _ => rfl }

theorem setPort {n : Nat} {x : Port} (h : Onward p q z s) : Onward p q z (s.setPort n x) := h.upd (by rfl)

theorem setTrg {x : TrgSt} (h : Onward p q z s) : Onward p q z { s with trg := x } := h.upd (by rfl)

theorem setQuad {n : Nat} {x : Quad} (h : Onward p q z s) : Onward p q z (s.setQuad n x) := h.upd (by rfl)

theorem loseUnits {i : Island} (h : Onward False q z s) : Onward False q z (s.loseUnits i) := by
  cases i
  case pln => exact h
  case hst => exact h.trans { (refl (p := False) (q := q) s) with tags := fun _ _ => rfl }
  case que => exact withoutQueues (h.foldl _ fun _ _ ht => .ite ht.loseRecord ht)
  case tqa | tqb | tqc | tqd => exact .setQuad (.setTrg (h.forAll _ fun _ _ ht => ht.setPort))
  all_goals exact h.upd (by rfl)

theorem resetVal_headCtl {k : Nat} (h : headCtl k = true) : (resetVal k).getLsbD 0 = false := by
  simp only [headCtl, List.any_eq_true, List.mem_range, decide_eq_true_eq] at h
  obtain ⟨n, hn, rfl⟩ := h
  revert n
  decide

theorem resetVal_watched {k b : Nat} (h : watched k b = true) (hk : plinthReg k = false) : (resetVal k).getLsbD b = false := by
  unfold watched at h
  split at h
  case isTrue hplinth => exact absurd (hk.symm.trans hplinth) (by decide)
  case isFalse =>
    split at h
    case isTrue hlink =>
      rw [hlink, of_decide_eq_true h]
      rfl
    case isFalse =>
      obtain ⟨hhead, hb⟩ := Bool.and_eq_true_iff.1 h
      rw [of_decide_eq_true hb]
      exact resetVal_headCtl hhead

/-- The registers of an island take their reset values; those of the Plinth outlast every loss. -/
theorem resetRegs {i : Island} (hi : i ≠ .pln) (h : Onward False q z s) : Onward False q z (s.resetRegs i) := by
  refine h.trans { (refl (p := False) (q := q) s) with bits := fun k b hw _ => ?_, ltssm := False.elim }
  have hrd : (s.resetRegs i).rd k = if _ then s.rd k else resetVal k := Tab.get_filter (resetVal k)
    (fun k => !(i.blocks.contains (k / 65536)) || (decide (k = Reg.RNG_JOIN) && s.bit Reg.RNG_JOIN 1)) s.regs k
  rw [State.bit, hrd]
  split
  case isTrue => exact .inl rfl
  case isFalse hkeep =>
    have hk : plinthReg k = false := by
      by_contra hplinth
      simp only [plinthReg, Bool.not_eq_false, Bool.or_eq_true, decide_eq_true_eq] at hplinth
      refine hkeep ?_
      rcases hplinth with (rfl | rfl) | rfl
      all_goals
        cases i
        case pln => exact absurd rfl hi
        all_goals rfl
    exact .inr ⟨not_false, hk, resetVal_watched hw hk⟩

theorem loseState {i : Island} (hi : i ≠ .pln) (h : Onward False q z s) : Onward False q z (s.loseState i) := (h.resetRegs hi).loseUnits

theorem enterPower {i : Island} {w : Power} (hi : i ≠ .pln) (h : Onward False q z s) : Onward False q z (s.enterPower i w) := by
  have hfall : Onward False q z (s.fallen i w) := h.setIsland
  have hlost : Onward False q z (if w = .off ∨ w = .gated then (s.fallen i w).loseState i else s.fallen i w) :=
    .ite (hfall.loseState hi) hfall
  unfold State.enterPower
  dsimp only
  cases w
  case gated => exact .ite hlost.setIsland hlost.gatedTrafficEnd
  all_goals exact .ite hlost.setIsland (.ite hlost.setIsland hlost)

theorem sleepTo {i : Island} {w : Power} (hi : i ≠ .pln) (h : Onward False q z s) : Onward False q z (s.sleepTo i w) := by
  unfold State.sleepTo
  dsimp only
  split
  · exact h
  · exact .ite (h.enterPower hi) (.ite h.setIsland h)
  · exact .ite (h.enterPower hi) (.ite h.setIsland h)
  · split
    · exact .ite h.setIsland h
    · exact h.setIsland

theorem abortEye {x : Bool} (h : Onward p q z s) : Onward p q z (s.abortEye x) := by
  have hstop := (h.setBit (k := Reg.HST_EYE_CTL) (b := 3) (x := false) (by decide)).setBit (k := Reg.HST_EYE_CTL) (b := 4) (x := true)
    (by decide)
  exact .ite (.ite (raiseLink (hstop.upd (by rfl)) (by decide)) (hstop.upd (by rfl))) h

theorem prbsSettle (h : Onward p q z s) : Onward p q z s.prbsSettle := .ite h (h.foldl _ fun _ _ ht => .ite ht (ht.upd (by rfl)))

theorem shedPrbs (h : Onward p q z s) : Onward p q z s.shedPrbs :=
  .ite (raiseLink (setBit (h.prbsSettle.upd (by rfl)) (by decide)) (by decide)) h.prbsSettle

theorem kickSeq {i : Island} (h : Onward p q z s) : Onward p q z (s.kickSeq i) := .ite (.ite h h.setIsland) h

theorem sleepAllIdle (h : Onward False q z s) : Onward False q z s.sleepAllIdle := by
  refine h.foldl _ fun t i ht => ?_
  by_cases hi : i = .pln
  · subst hi
    exact ht
  · refine .ite ?_ ht
    split
    · exact ht.sleepTo hi
    · exact .ite (ht.sleepTo hi) ht
    · exact ht

theorem shedAction {n : Nat} (h : Onward False q z s) : Onward False q z (s.shedAction n) := by
  unfold State.shedAction
  split
  · exact h.abortEye.shedPrbs
  · exact .ite (h.upd (by rfl)) h
  · exact h.foldl _ fun _ _ ht => ht.kickSeq
  · exact h.sleepAllIdle
  · exact h

theorem admitWork (h : Onward False q z s) : Onward False q z s.admitWork :=
  h.foldl _ fun t _ ht => .ite (ht.trans { (refl (p := False) (q := q) t) with ready := False.elim }) ht

theorem showNrg (h : Onward p q z s) : Onward p q z s.showNrg :=
  ((((h.wr (by decide)).setFld (by decide)).setBit (by decide)).wr (by decide)).wr (by decide)

theorem planPass (h : Onward False q z s) : Onward False q z s.planPass := by
  have hstep := h.setFld (k := Reg.NRG_STS) (lo := 0) (w := 3) (n := s.fld Reg.NRG_STS 0 3 + 1) (by decide)
  exact showNrg (admitWork (.ite (raiseBit (shedAction (hstep.upd (by rfl))) (by decide) (by decide)) h))

theorem ceilingFrom {old : Nat × Word × Word} (h : Onward False q z s) : Onward False q z (s.ceilingFrom old) := .ite h h.planPass

/-! ### What waited for the link goes (R166, R184, R417, R418) -/

theorem sendPending (h : Onward p q z s) : Onward p q z s.sendPending := by
  have hltr : Onward p q z s.sendLtrDue := .ite (send (h.upd (by rfl))) h
  unfold State.sendPending
  dsimp only
  split
  · exact hltr.forAll _ fun _ _ ht => .ite ht.sendMessage ht
  · exact hltr.forAll _ fun _ _ ht => .ite ht.sendMessage ht
  · exact hltr

theorem masterParity (h : Onward p q z s) : Onward p q z s.masterParity := .ite h.setCfg h

theorem grantAt {n a : Nat} {t : State} (h : Onward p q z s) (hg : s.grantAt n a = some t) : Onward p q z t := by
  unfold State.grantAt State.grantsAt at hg
  split at hg
  · cases hg
    exact h.upd (by rfl)
  · cases hg

theorem noteAsked {n : Nat} {acts : List Nat} (h : Onward p q z s) : Onward p q z (s.noteAsked n acts) := h.upd (by rfl)

theorem issueToHost (h : Onward p q z s) : Onward p q z s.issueToHost := by
  unfold State.issueToHost
  split
  next => exact h
  next addr ws rest hheld =>
    split
    next => exact h.noteAsked
    next t hgrant =>
      have htaken := (h.grantAt hgrant).upd
        (t := { t with
          sat := { t.sat with toHost := rest, nonPosted := t.sat.nonPosted.map fun j => { j with behind := j.behind - 1 } } }) rfl
      have hsent := (ite htaken.masterParity htaken (c := poisonedIn ws = true)).send
        (o := .memWrite addr (ws.map fun w => dwordOf w.data) false (poisonedIn ws))
      exact .ite (hsent.raiseSat (by decide)) hsent

theorem completeJob {j : BridgeJob} (h : Onward p q z s) : Onward p q z (s.completeJob j) := by
  unfold State.completeJob
  dsimp only
  split
  · refine .ite h.satLog.aer.jobReply (jobReply (drew ?_))
    exact .ite (h.raiseSat (by decide)) h
  · exact (h.bump (by decide)).jobReply

theorem finishJobs (n : Nat) (h : Onward p q z s) : Onward p q z (s.finishJobs n) := by
  induction n generalizing s with
  | zero => exact h
  | succ n ih =>
    unfold State.finishJobs
    split
    · exact .ite (ih (completeJob (h.upd (by rfl)))) (h.upd (by rfl))
    · exact h

theorem flushToHost (h : Onward p q z s) : Onward p q z s.flushToHost :=
  .ite (finishJobs _ (h.foldl _ fun _ _ ht => ht.issueToHost)) h

theorem satLogNo {cause requester : Nat} {addr : Option (BitVec 22)} (h : Onward p q z s) :
    Onward p q z (s.satLogNo cause requester addr) := (h.satLog).drew

/-- A read leaves only while the link is up. -/
theorem issue {who : Consumer} {out : Nat → Output} {page : Option (BitVec 52)} {t : State} (h : Onward False q z s)
    (hi : s.issue who out page = some t) : Onward False q z t := by
  unfold State.issue at hi
  split at hi
  case isTrue => cases hi
  case isFalse hsend =>
    have hup : s.linkUp = true := by
      simp only [State.canSend, State.inL0, Bool.not_eq_true', Bool.not_eq_false, Bool.and_eq_true] at hsend
      exact hsend.1.1.1.1.1
    split at hi
    next u _ hgrant =>
      cases hi
      have hu : u.linkUp = true := (((refl (p := True) (q := q) s).grantAt hgrant).linkUp trivial).trans hup
      exact send ((h.grantAt hgrant).trans { (refl (p := False) (q := q) u) with
        tags := fun hd => absurd (hu.symm.trans (hd.resolve_left not_false)) (by decide) })
    next => cases hi

theorem setSplit {m : Nat} {x : Option Split} (h : Onward p q z s) : Onward p q z (s.setSplit m x) := h.upd (by rfl)

theorem issueWaits {who : Consumer} (h : Onward p q z s) : Onward p q z (s.issueWaits who) := .ite h.noteAsked h

theorem issueSplit {m : Nat} (h : Onward False q z s) : Onward False q z (s.issueSplit m) := by
  have hf := h.flushToHost
  unfold State.issueSplit
  split
  next => exact h
  next x _ =>
    refine .ite h ?_
    split
    next => exact h
    next host _ =>
      refine .ite hf.splitAnswer.satLogNo ?_
      extract_lets _ sent
      have hsent : ∀ u, sent = some u → Onward False q z u := by
        intro u hu
        dsimp only [sent] at hu
        split at hu
        · split at hu
          · exact hf.issue hu
          · cases hu
        · exact hf.issue hu
      clear_value sent
      cases sent with
      | some u => exact (hsent u rfl).setSplit
      | none => exact hf.issueWaits

theorem released (h : Onward False q z s) : Onward False q z s.released :=
  h.sendPending.flushToHost.forAll _ fun _ _ ht => ht.issueSplit

end Onward
end Sys2Proof.Machine
end

section
/-!
PROOFS. What the end of channels, of locks and of the heads' power leaves of the rest of the device (R139, R144).
-/

namespace Sys2Proof.Machine
open Sys2Proof.Claims

/-- What neither the end of a channel nor a head port that goes to idle drive touches. -/
def State.core (s : State) : List Instr × Nat × BootSt × Fuses × Tab SramWord × ArmSt × List Output × NrgSt :=
  (s.pending, s.now, s.boot, s.fuses, s.sram, s.arm, s.sent, s.nrg)

theorem State.core_eq_iff {s t : State} : t.core = s.core ↔ t.pending = s.pending ∧ t.now = s.now ∧ t.boot = s.boot ∧ t.fuses = s.fuses ∧
    t.sram = s.sram ∧ t.arm = s.arm ∧ t.sent = s.sent ∧ t.nrg = s.nrg := by
  simp only [State.core, Prod.mk.injEq]

/-! ### Locks break -/

/-- A lock breaks where its owner is one of those named. -/
def State.breakOwned (mine : LockOwner → Bool) (s : State) (n : Nat) : State := if (s.lock n).owner.any mine then s.breakLock n else s

/-- A lock that has been broken. -/
abbrev brokenLock : HwLock := { owner := none, broken := true }

section
variable {s : State} {mine : LockOwner → Bool}

theorem State.breakLocks_eq : s.breakLocks mine = s.forAll (List.range 64) (State.breakOwned mine) := by
  refine congrArg (State.forAll s (List.range 64)) (funext fun t => funext fun n => ?_)
  unfold State.breakOwned
  cases (t.lock n).owner with
  | none => rfl
  | some o => rfl

theorem State.breakLocks_keeps {β : Type} (view : State → β) (hv : ∀ t n x, view (State.setLock t n x) = view t) :
    view (s.breakLocks mine) = view s := by
  rw [State.breakLocks_eq]
  exact State.forAll_keeps view (fun t n => (apply_ite view _ _ _).trans (by rw [State.breakLock, hv, ite_self])) _ s

theorem State.breakOwned_lock (k n : Nat) :
    (s.breakOwned mine k).lock n = if n = k ∧ (s.lock n).owner.any mine = true then brokenLock else s.lock n := by
  unfold State.breakOwned
  by_cases hk : n = k
  · subst hk
    by_cases hm : (s.lock n).owner.any mine = true
    · rw [if_pos hm, if_pos (And.intro rfl hm), State.breakLock, State.setLock_lock_self]
    · rw [if_neg hm, if_neg fun h : n = n ∧ _ => hm h.2]
  · have hrest : (s.breakLock k).lock n = s.lock n := State.setLock_lock_ne s hk _
    rw [if_neg fun h : n = k ∧ _ => hk h.1, apply_ite (State.lock · n), hrest, ite_self]

theorem State.forAll_breakOwned_lock (l : List Nat) (n : Nat) :
    (s.forAll l (State.breakOwned mine)).lock n = if n ∈ l ∧ (s.lock n).owner.any mine = true then brokenLock else s.lock n := by
  induction l generalizing s with
  | nil => rw [if_neg fun h => absurd h.1 (List.not_mem_nil)]; rfl
  | cons k l ih =>
    refine (ih (s := s.breakOwned mine k)).trans ?_
    rw [State.breakOwned_lock]
    by_cases hm : (s.lock n).owner.any mine = true
    · by_cases hk : n = k
      · rw [if_pos (And.intro hk hm), if_pos (And.intro (by simp [hk]) hm), ite_self]
      · simp [hk, hm]
    · simp [hm]

/-- Just the locks of the owners named break. -/
theorem State.breakLocks_lock (n : Nat) :
    (s.breakLocks mine).lock n = if n < 64 ∧ (s.lock n).owner.any mine = true then brokenLock else s.lock n := by
  rw [State.breakLocks_eq, State.forAll_breakOwned_lock]
  simp only [List.mem_range]

/-- A broken lock stays broken. -/
theorem State.breakLocks_broken {n : Nat} (h : s.lock n = brokenLock) : (s.breakLocks mine).lock n = brokenLock := by
  rw [State.breakLocks_lock, h, ite_self]

end

/-! ### Queues end -/

/-- A map of the entries that keeps a view of them keeps the view of what is read. -/
theorem Tab.get_map {α β : Type} {view : α → β} {f : α → α} (hf : ∀ x, view (f x) = view x) (d : α) (t : Tab α) (k : Nat) :
    view (Tab.get d (t.map fun e => (e.1, f e.2)) k) = view (Tab.get d t k) := by
  induction t with
  | nil => rfl
  | cons e t ih =>
    rw [List.map_cons, Tab.get, Tab.get, apply_ite view, apply_ite view, hf, ih]

section
variable {s : State}

/-- A queue that has been ended. -/
def Queue.killed (x : Queue) : Queue :=
  { x with state := .disabled, staged := [], fetched := [], fetching := false, faultCause := 0, needDoorbell := false }

theorem State.killQueue_state (q j : Nat) : ((s.killQueue q).queue j).state = if j = q then .disabled else (s.queue j).state := by
  have hq : (s.killQueue q).queue j = (s.setQueue q (s.queue q).killed).queue j := rfl
  rw [hq]
  split
  case isTrue h => rw [h, State.setQueue_queue_self, Queue.killed]
  case isFalse h => rw [State.setQueue_queue_ne _ h]

theorem State.killQueue_enabled {q j : Nat} (h : ((s.killQueue q).queue j).state = .enabled) : (s.queue j).state = .enabled := by
  rw [State.killQueue_state] at h
  split at h
  · cases h
  · exact h

theorem State.foldl_killQueue_disabled {qs : List Nat} {j : Nat} (h : j ∈ qs ∨ (s.queue j).state ≠ .enabled) :
    ((qs.foldl State.killQueue s).queue j).state ≠ .enabled := by
  induction qs generalizing s with
  | nil => exact h.resolve_left List.not_mem_nil
  | cons q qs ih =>
    refine ih ?_
    by_cases hj : j = q
    · exact .inr (by rw [State.killQueue_state, if_pos hj]; decide)
    · refine h.imp (fun hm => (List.mem_cons.1 hm).resolve_left hj) fun hs => ?_
      rwa [State.killQueue_state, if_neg hj]

theorem Tab.get_of_not_mem {α : Type} {d : α} {t : Tab α} {k : Nat} (h : k ∉ t.map (·.1)) : Tab.get d t k = d := by
  induction t with
  | nil => rfl
  | cons e t ih =>
    rw [List.map_cons, List.mem_cons, not_or] at h
    rw [Tab.get, if_neg h.1, ih h.2]

/-- No queue is enabled when all have been ended. -/
theorem State.killQueues_disabled (j : Nat) : ((s.killQueues).queue j).state ≠ .enabled := by
  refine State.foldl_killQueue_disabled ((Classical.em _).imp_right fun hno => ?_)
  rw [State.queue, Tab.get_of_not_mem hno]
  decide

end

/-! ### Channels end -/

/-- From `z` to `s` locks may have broken and queues may have ended; where `kept` holds, no channel has. -/
structure Ends (kept : Prop) (z s : State) : Prop where
  core : s.core = z.core
  regs : s.regs = z.regs
  chans : kept → s.que.chans = z.que.chans
  queue : ∀ q, (s.queue q).state = .enabled → (z.queue q).state = .enabled
  lock : ∀ n, s.lock n = z.lock n ∨ s.lock n = brokenLock

namespace Ends

variable {p : Prop} {z s : State}

theorem refl (s : State) : Ends p s s := ⟨rfl, rfl, fun _ => rfl, fun _ => id, fun _ => .inl rfl⟩

theorem trans {t : State} (h : Ends p z s) (g : Ends p s t) : Ends p z t :=
  ⟨g.core.trans h.core, g.regs.trans h.regs, fun hp => (g.chans hp).trans (h.chans hp), fun q hq => h.queue q (g.queue q hq),
    fun n => (g.lock n).elim (fun e => (h.lock n).imp e.trans e.trans) .inr⟩

theorem upd {t : State} (h : Ends p z s) (hcore : t.core = s.core) (hregs : t.regs = s.regs) (hchans : t.que.chans = s.que.chans)
    (hqueues : t.que.queues = s.que.queues) (hlocks : t.que.locks = s.que.locks) : Ends p z t :=
  h.trans ⟨hcore, hregs, fun _ => hchans, fun q hq => by rwa [State.queue, hqueues] at hq,
    fun n => .inl (by rw [State.lock, hlocks, State.lock])⟩

theorem foldl {α : Type} {f : State → α → State} (l : List α) (h : Ends p z s) (hf : ∀ t a, Ends p z t → Ends p z (f t a)) :
    Ends p z (l.foldl f s) :=
  List.foldlRecOn l f (motive := Ends p z) h fun t ht a _ => hf t a ht

theorem ite {a b : State} {c : Prop} [Decidable c] (ha : Ends p z a) (hb : Ends p z b) : Ends p z (if c then a else b) := by
  split
  · exact ha
  · exact hb

theorem setHs {c : ChannelId} {x : HsChan} (h : Ends p z s) : Ends p z (s.setHs c x) := h.upd rfl rfl rfl rfl rfl

theorem setPort {n : Nat} {x : Port} (h : Ends p z s) : Ends p z (s.setPort n x) := h.upd rfl rfl rfl rfl rfl

theorem breakLocks {mine : LockOwner → Bool} (h : Ends p z s) : Ends p z (s.breakLocks mine) :=
  h.trans ⟨s.breakLocks_keeps State.core (fun _ _ _ => rfl), s.breakLocks_keeps State.regs (fun _ _ _ => rfl),
    fun _ => s.breakLocks_keeps (·.que.chans) (fun _ _ _ => rfl),
    fun q hq => by rwa [s.breakLocks_keeps (State.queue · q) (fun _ _ _ => rfl)] at hq, fun n => by
      rw [State.breakLocks_lock]
      exact (ite_eq_or_eq _ _ _).symm⟩

/-- Queues lose entries. -/
theorem setQueues (f : Queue → Queue) (hf : ∀ x, (f x).state = x.state) (h : Ends p z s) :
    Ends p z { s with que := { s.que with queues := s.que.queues.map fun e => (e.1, f e.2) } } :=
  h.trans ⟨rfl, rfl, fun _ => rfl, fun q hq => (Tab.get_map hf {} s.que.queues q).symm.trans hq, fun _ => .inl rfl⟩

theorem killQueue {q : Nat} (h : Ends p z s) : Ends p z (s.killQueue q) :=
  h.trans ⟨rfl, rfl, fun _ => rfl, fun _ => State.killQueue_enabled, fun _ => .inl rfl⟩

theorem discardRecords {k : Nat} (h : Ends p z s) : Ends p z (s.discardRecords k) :=
  setQueues (fun x => { x with staged := x.staged.filter fun e => !decide (e.slot = some k ∧ e.typ ≠ 0x10) }) (fun _ => rfl)
    (h.foldl _ fun _ _ ht => ht.setHs)

theorem setWaits {x : TrgSt} {w : List (Nat × Nat × Nat)} (h : Ends p z s) :
    Ends p z { s with trg := x, que := { s.que with lockWait := w } } := h.upd rfl rfl rfl rfl rfl

theorem idlePorts {ps : List Nat} (h : Ends p z s) : Ends p z (s.idlePorts ps) := h.foldl _ fun _ _ ht => .ite ht.setPort ht

end Ends

/-- A channel that has ended, its records counted as lost or not; its slot's generation advances. -/
def Chan.ended (c : Chan) (lost : Word36) : Chan := { gen := if c.gen = 2047 then 1 else c.gen + 1, lost := lost }

section
variable {s : State}

/-- The end of a channel ends its queue, breaks its locks and frees its slot. -/
theorem State.endChan_ends (k : Nat) :
    ∃ u, Ends True s u ∧ Ends True (u.setChn k ((s.chn k).ended (s.chn k).lost)) (s.endChan k false) := by
  refine ⟨_, ?_, (Ends.refl _).foldl _ fun _ _ ht => ht.setPort⟩
  exact ((Ends.refl s).discardRecords.killQueue).setWaits.breakLocks

/-- A channel's end with its ports in idle drive, as `destroyAll` takes them one by one. -/
def State.destroyOne (s : State) (k : Nat) : State := (s.endChan k false).idlePorts (s.chn k).portList

theorem State.destroyAll_eq : s.destroyAll = s.liveSlots.foldl State.destroyOne s := rfl

theorem State.destroyOne_chn (k j : Nat) :
    (s.destroyOne k).chn j = if j = k then (s.chn k).ended (s.chn k).lost else s.chn j := by
  obtain ⟨u, hu, ht⟩ := s.endChan_ends k
  have hone : (s.destroyOne k).chn j = (u.setChn k ((s.chn k).ended (s.chn k).lost)).chn j := by
    exact congrArg (Tab.get {} · j) (ht.idlePorts.chans trivial)
  rw [hone]
  split
  case isTrue h => rw [h, State.setChn_chn_self]
  case isFalse h => rw [State.setChn_chn_ne _ h, State.chn, State.chn, hu.chans trivial]

theorem Ends.setChn {z : State} {k : Nat} {x : Chan} (h : Ends False z s) : Ends False z (s.setChn k x) :=
  h.trans ⟨rfl, rfl, False.elim, fun _ => id, fun _ => .inl rfl⟩

theorem Ends.weaken {p : Prop} {z : State} (h : Ends p z s) : Ends False z s := ⟨h.core, h.regs, False.elim, h.queue, h.lock⟩

theorem State.destroyOne_ends (k : Nat) : Ends False s (s.destroyOne k) := by
  obtain ⟨u, hu, ht⟩ := s.endChan_ends k
  exact hu.weaken.setChn.trans ht.idlePorts.weaken

theorem State.destroyAll_ends : Ends False s s.destroyAll :=
  (Ends.refl s).foldl _ fun t k ht => ht.trans (t.destroyOne_ends k)

theorem State.foldl_destroyOne_chn {l : List Nat} (hl : l.Nodup) (j : Nat) :
    (l.foldl State.destroyOne s).chn j = if j ∈ l then (s.chn j).ended (s.chn j).lost else s.chn j := by
  induction l generalizing s with
  | nil => rfl
  | cons k l ih =>
    obtain ⟨hk, hl⟩ := List.nodup_cons.1 hl
    refine (ih (s := s.destroyOne k) hl).trans ?_
    rw [State.destroyOne_chn]
    by_cases hj : j = k
    · subst hj
      rw [if_neg hk, if_pos rfl, if_pos List.mem_cons_self]
    · simp only [List.mem_cons, hj, false_or, if_false]

/-- Every channel in use ends, once. -/
theorem State.destroyAll_chn (j : Nat) :
    s.destroyAll.chn j = if j < 128 ∧ (s.chn j).inUse = true then (s.chn j).ended (s.chn j).lost else s.chn j := by
  have hslots : s.liveSlots.Nodup := List.nodup_range.filter _
  rw [State.destroyAll_eq, State.foldl_destroyOne_chn hslots]
  simp only [State.liveSlots, List.mem_filter, List.mem_range]

theorem State.destroyAll_inUse {j : Nat} (hj : j < 128) : (s.destroyAll.chn j).inUse = false := by
  rw [State.destroyAll_chn]
  cases h : (s.chn j).inUse with
  | true => simp [hj, Chan.ended, Chan.inUse]
  | false => simpa using h

end

/-! ### Head ports in idle drive -/

section
variable {s : State}

/-- What head ports in idle drive leave of the state. -/
def State.inner (s : State) : (List Instr × Nat × BootSt × Fuses × Tab SramWord × ArmSt × List Output × NrgSt) × QueSt × TxnSt :=
  (s.core, s.que, s.txn)

/-- One head port loses its power and takes idle drive. -/
def State.idleHead (s : State) (p : Nat) : State :=
  let t := (s.setFld (Reg.HP_CTL (qOf p) (iOf p)) 0 3 0).powerDrop p
  let t := t.modPort p fun x =>
    { x with atnEndAt := none, fires := (x.fires.filter fun f => f.made).map fun f => { f with strobe := f.strobe && f.stbBegun } }
  if (t.port p).fires.isEmpty then t.idleDrive p else t

/-- No master of a quad is enabled. -/
def State.mastersOff (s : State) : State := s.forAll (List.range 4) fun t q => t.setQuad q { t.quad q with men := false }

theorem State.mastersOff_keeps {β : Type} (view : State → β) (hv : ∀ t q x, view (State.setQuad t q x) = view t) :
    view s.mastersOff = view s := State.forAll_keeps view (fun t q => hv t q _) _ s

/-- Beside its control register, only the port itself changes. -/
theorem State.idleHead_keeps {β : Type} (view : State → β) (hv : ∀ t n x, view (State.setPort t n x) = view t) (p : Nat) :
    view (s.idleHead p) = view (s.setFld (Reg.HP_CTL (qOf p) (iOf p)) 0 3 0) := by
  have hdrop (t : State) : view (t.powerDrop p) = view t := by
    unfold State.powerDrop
    split
    · exact hv _ _ _
    · exact hv _ _ _
    · rfl
  unfold State.idleHead
  dsimp only
  rw [apply_ite view]
  refine (ite_congr rfl (fun _ => hv _ _ _) fun _ => rfl).trans ?_
  rw [ite_self]
  exact (hv _ _ _).trans (hdrop _)

theorem State.idleAllPorts_inner : s.idleAllPorts.inner = s.inner :=
  (State.forAll_keeps State.inner (fun _ _ => State.idleHead_keeps State.inner (fun _ _ _ => rfl) _) _ _).trans
    (State.mastersOff_keeps State.inner fun _ _ _ => rfl)

theorem State.idleHead_rd (p k : Nat) : (s.idleHead p).rd k = (s.setFld (Reg.HP_CTL (qOf p) (iOf p)) 0 3 0).rd k :=
  State.idleHead_keeps (State.rd · k) (fun _ _ _ => rfl) p

/-- The control registers of the heads alone change. -/
theorem State.idleAllPorts_rd {k : Nat} (h : headCtl k = false) : s.idleAllPorts.rd k = s.rd k := by
  have hlist (l : List Nat) (hl : ∀ p ∈ l, p < 32) (t : State) : (t.forAll l State.idleHead).rd k = t.rd k := by
    induction l generalizing t with
    | nil => rfl
    | cons p l ih =>
      refine (ih (fun q hq => hl q (List.mem_cons_of_mem _ hq)) (t.idleHead p)).trans ?_
      refine (State.idleHead_rd p k).trans (State.setFld_rd_ne _ (fun hk => ?_) _ _ _)
      simp only [headCtl, List.any_eq_false, List.mem_range, decide_eq_true_eq] at h
      exact h p (hl p List.mem_cons_self) hk
  exact (hlist _ (fun _ => List.mem_range.1) _).trans (State.mastersOff_keeps (State.rd · k) fun _ _ _ => rfl)

/-- No head has power. -/
theorem State.idleAllPorts_power {p : Nat} (hp : p < 32) : s.idleAllPorts.bit (Reg.HP_CTL (qOf p) (iOf p)) 0 = false := by
  have hlist (l : List Nat) (t : State) (h : p ∈ l ∨ t.bit (Reg.HP_CTL (qOf p) (iOf p)) 0 = false) :
      (t.forAll l State.idleHead).bit (Reg.HP_CTL (qOf p) (iOf p)) 0 = false := by
    induction l generalizing t with
    | nil => exact h.resolve_left List.not_mem_nil
    | cons n l ih =>
      refine ih (t.idleHead n) ?_
      rw [State.bit, State.idleHead_rd]
      by_cases hn : Reg.HP_CTL (qOf p) (iOf p) = Reg.HP_CTL (qOf n) (iOf n)
      · rw [hn, State.setFld_rd_self, getLsbD_withField, if_pos ⟨Nat.le_refl 0, by decide, by decide⟩]
        exact .inr rfl
      · rw [State.setFld_rd_ne _ hn]
        exact h.imp_left fun hm => (List.mem_cons.1 hm).resolve_left fun he => hn (by rw [he])
  exact hlist _ _ (.inl (List.mem_range.2 hp))

end

end Sys2Proof.Machine
end

section
/-!
PROOFS. Resets of the whole device, and the purge (R127, R128, R142, R147).
-/

namespace Sys2Proof.Machine
open Sys2Proof.Claims

section
variable {s : State} {por : Bool} {n : Nat} {straps : BitVec 4}

/-- The device as a reset leaves it, before the registers that tell of the reset are written and HST is enabled. -/
def State.resetCore (s : State) : State :=
  { pending := s.pending, now := s.now, freeIdx := s.freeIdx, fuses := s.fuses, sram := s.sram, sent := s.sent
    arm := { flashA := s.arm.flashA, flashB := s.arm.flashB,
             identity := [wordAt s.fuses.prov 0, wordAt s.fuses.prov 1, wordAt s.fuses.prov 2, 0] }
    boot := { originAt := s.now, perstN := s.boot.perstN, refclk := s.boot.refclk, refclkSeenEver := s.boot.refclk, vio5 := s.boot.vio5
              stbLim := s.boot.stbLim, trgLim := s.boot.trgLim }
    clk := { xtalRuns := s.clk.xtalRuns, judgeAt := some s.now, refInSeries := s.boot.refclk }
    sat := { mrst := s.sat.mrst, intPin := s.sat.intPin, reqPin := s.sat.reqPin, lockPin := s.sat.lockPin }
    nrg := { cadStartAt := s.now }
    mon := { bannerDueAt := some (s.now + msTicks 1) } }

/-- What a reset shows: its cause, the straps, REFCLK and the security mode. -/
def State.resetShown (s : State) (por : Bool) (n : Nat) (straps : BitVec 4) : State :=
  ((((s.resetCore.wr Reg.PLN_RST_CAUSE ((if por then 0 else s.rd Reg.PLN_RST_CAUSE) ||| word (2 ^ n))).wr Reg.PLN_STRAP
    (word straps.toNat)).setBit Reg.CLK_STS 2 s.boot.refclk).wr Reg.CLK_JUDGE (word (if s.boot.refclk then 48 else 0))).setFld
      Reg.ARM_STS 9 2 s.fuses.secmode.toNat

theorem State.resetDevice_eq : s.resetDevice por n straps = (s.resetShown por n straps).enableHst := rfl

theorem State.plinthEnable_free {i : Island} (hpower : (s.island i).power = .gated) (hforce : (s.island i).force ≠ 2) :
    s.plinthEnable i = (s.setBit Reg.PLN_ISL_EN i.idx true).setIsland i { s.island i with waking := true } :=
  State.islandEnabled_gated (s := s.setBit Reg.PLN_ISL_EN i.idx true) hpower hforce

/-- HST alone may start to come up (R130). -/
theorem State.resetDevice_cases (s : State) (por : Bool) (n : Nat) (straps : BitVec 4) :
    s.resetDevice por n straps = s.resetShown por n straps ∨
      ∃ x, s.resetDevice por n straps = ((s.resetShown por n straps).setBit Reg.PLN_ISL_EN 1 true).setIsland .hst x := by
  rw [State.resetDevice_eq, State.enableHst]
  split
  · exact .inr ⟨_, State.plinthEnable_free rfl (show (0 : Nat) ≠ 2 by decide)⟩
  · exact .inl rfl

theorem State.resetDevice_rd {k : Nat} (hk : k ≠ Reg.PLN_ISL_EN) : (s.resetDevice por n straps).rd k = (s.resetShown por n straps).rd k := by
  rcases s.resetDevice_cases por n straps with h | ⟨x, h⟩
  · rw [h]
  · rw [h, State.setIsland_rd, State.setBit_rd_ne _ hk]

theorem State.resetDevice_keeps {β : Type} (view : State → β) (hisl : ∀ t i x, view (State.setIsland t i x) = view t)
    (hbit : ∀ t k v, view (State.wr t k v) = view t) : view (s.resetDevice por n straps) = view s.resetCore := by
  have hshown : view (s.resetShown por n straps) = view s.resetCore := by
    simp only [State.resetShown, State.setBit, State.setFld, hbit]
  rcases s.resetDevice_cases por n straps with h | ⟨x, h⟩
  · rw [h, hshown]
  · rw [h, hisl, State.setBit, State.setFld, hbit, hshown]

/-- What a reset of the whole device is said to leave. -/
def State.worked (s : State) : ArmSt × QueSt × RingSt × MotSt × TrgSt × List (Island × Parked) × List Waiter × Fuses × List Instr × Nat :=
  (s.arm, s.que, s.ring, s.mot, s.trg, s.wakeBuf, s.waiters, s.fuses, s.pending, s.now)

theorem State.resetDevice_gated {i : Island} (hp : i ≠ .pln) (hh : i ≠ .hst) : ((s.resetDevice por n straps).island i).power = .gated := by
  have hshown : ((s.resetShown por n straps).island i).power = .gated := by
    cases i
    case pln => exact absurd rfl hp
    all_goals rfl
  rcases s.resetDevice_cases por n straps with h | ⟨x, h⟩
  · rw [h, hshown]
  · rw [h, State.setIsland_island_ne _ hh]
    exact hshown

theorem State.resetDevice_worked : (s.resetDevice por n straps).worked = s.resetCore.worked :=
  State.resetDevice_keeps State.worked (fun _ _ _ => rfl) fun _ _ _ => rfl

theorem wholeReset_of_worked {t : State} (h : t.worked = s.resetCore.worked)
    (hg : ∀ i : Island, i ≠ .pln → i ≠ .hst → (t.island i).power = .gated) : WholeReset s t := by
  simp only [State.worked, Prod.mk.injEq] at h
  obtain ⟨harm, hque, hring, hmot, htrg, hbuf, hwait, hfuses, hpend, hnow⟩ := h
  rw [WholeReset, harm, hque, hring, hmot, htrg, hbuf, hwait, hfuses, hpend, hnow]
  exact ⟨rfl, rfl, rfl, rfl, rfl, rfl, rfl, rfl, rfl, rfl, rfl, rfl, rfl, hg⟩

theorem State.resetDevice_whole : WholeReset s (s.resetDevice por n straps) :=
  wholeReset_of_worked State.resetDevice_worked fun _ => State.resetDevice_gated

/-- The registers that a reset sets. -/
theorem State.resetDevice_shows :
    (s.resetDevice por n straps).rd Reg.PLN_RST_CAUSE = (if por then 0 else s.rd Reg.PLN_RST_CAUSE) ||| word (2 ^ n) ∧
    (s.resetDevice por n straps).fld Reg.PLN_STRAP 0 4 = straps.toNat ∧ (s.resetDevice por n straps).rd Reg.PLN_BOOT = 0 := by
  have hne {k j lo w n : Nat} {t : State} (h : j ≠ k) : (t.setFld k lo w n).rd j = t.rd j := State.setFld_rd_ne _ h _ _ _
  refine ⟨?_, ?_, ?_⟩
  · rw [State.resetDevice_rd (by decide), State.resetShown, hne (by decide), State.wr_rd_ne _ (by decide), State.setBit_rd_ne _ (by decide),
      State.wr_rd_ne _ (by decide), State.wr_rd_self]
  · rw [State.fld, State.resetDevice_rd (by decide), State.resetShown, hne (by decide), State.wr_rd_ne _ (by decide),
      State.setBit_rd_ne _ (by decide), State.wr_rd_self]
    revert straps
    decide
  · rw [State.resetDevice_rd (by decide), State.resetShown, hne (by decide), State.wr_rd_ne _ (by decide), State.setBit_rd_ne _ (by decide),
      State.wr_rd_ne _ (by decide), State.wr_rd_ne _ (by decide)]
    rfl

/-! ### POR and RESET_N -/

theorem wholeDeviceResets : Claims.WholeDeviceResets := by
  refine ⟨fun s => ⟨_, rfl, ?_⟩, fun s straps hpor => ⟨_, rfl, ?_⟩, fun s ns taken straps hpor => ⟨_, rfl, ?_⟩⟩
  · obtain ⟨hcause, -, -⟩ := State.resetDevice_shows (s := s) (por := true) (n := 0) (straps := 0)
    rw [if_pos rfl] at hcause
    refine ⟨wholeReset_of_worked (State.resetDevice_worked (s := s) (por := true) (n := 0) (straps := 0)) fun _ => State.resetDevice_gated, rfl, ?_⟩
    exact (congrArg (fieldOf · 0 9) hcause).trans (by decide)
  · obtain ⟨hcause, hstrap, hboot⟩ := State.resetDevice_shows (s := s) (por := true) (n := 0) (straps := straps)
    have hin : (s.resetDevice true 0 straps).boot.inPor = false :=
      State.resetDevice_keeps (·.boot.inPor) (fun _ _ _ => rfl) fun _ _ _ => rfl
    rw [if_pos rfl] at hcause
    rw [if_pos hpor]
    exact ⟨State.resetDevice_whole, hin, (congrArg (fieldOf · 0 9) hcause).trans (by decide), hstrap,
      (congrArg (fieldOf · 0 3) hboot).trans (by decide)⟩
  · obtain ⟨hcause, hstrap, -⟩ := State.resetDevice_shows (s := s) (por := false) (n := 1) (straps := straps)
    unfold State.resetPulse
    rw [hpor]
    refine ⟨fun h => ?_, fun h => ?_, fun h h' htaken => ?_⟩
    · rw [if_pos (by simp [h])]
    · rw [if_neg (by simp; omega)]
      exact ⟨State.resetDevice_whole, hcause, hstrap⟩
    · rw [if_pos (by simp [h', htaken])]

end

/-! ### The purge (R147) -/

section
variable {s : State}

/-- Nothing is parked, the SRAM is zero, and no image is staged. -/
def State.cleared (s : State) : State := ({ s with wakeBuf := [], sram := [] }).dropStaged

/-- The device after the purge has ended its channels and cleared the SRAM, before the flash is erased or the device reset. -/
def State.purged (s : State) : State := s.destroyAll.idleAllPorts.cleared

/-- The purge goes on with the erase of both slots, whose commands leave on the flash's bus. -/
def State.erasing (s : State) (a : ArmSt) (o : List Output) : State :=
  { s with boot := { s.boot with erasing := true }, arm := a, sent := o }

theorem State.setFlash_eq (slotB : Bool) (bs : List (BitVec 8)) : ∃ a, s.setFlash slotB bs = s.withArm a := by
  cases slotB
  · exact ⟨_, rfl⟩
  · exact ⟨_, rfl⟩

/-- The erase of a slot changes the flash and what has left the device. -/
theorem State.eraseSlot_cases (slotB : Bool) : ∃ a o, s.eraseSlot slotB = { s with arm := a, sent := o } := by
  obtain ⟨o, ho⟩ := s.eraseSlot_eq slotB
  obtain ⟨a, ha⟩ := State.setFlash_eq (s := s.withSent o) slotB []
  exact ⟨a, o, ho.trans ha⟩

theorem State.purgeOp_resets {v : Word} (h0 : v.getLsbD 0 = true) (h1 : v.getLsbD 1 = false) :
    s.purgeOp v = s.purged.resetDevice false 3 (BitVec.ofNat 4 (s.fld Reg.PLN_STRAP 0 4)) := by
  rw [State.purgeOp, if_pos h0]
  exact if_neg (by rw [h1]; decide)

theorem State.purgeOp_erases {v : Word} (h0 : v.getLsbD 0 = true) (h1 : v.getLsbD 1 = true) :
    ∃ a o, s.purgeOp v = s.purged.erasing a o := by
  have hboth : s.purgeOp v = ({ s.purged with boot := { s.purged.boot with erasing := true } }.eraseSlot false).eraseSlot true := by
    rw [State.purgeOp, if_pos h0]
    exact if_pos h1
  generalize s.purged = t at hboth
  obtain ⟨a, o, ha⟩ := State.eraseSlot_cases (s := { t with boot := { t.boot with erasing := true } }) false
  obtain ⟨b, o', hb⟩ := State.eraseSlot_cases (s := t.erasing a o) true
  exact ⟨b, o', hboth.trans ((congrArg (State.eraseSlot · true) ha).trans hb)⟩

/-- What the purge leaves of the rest of the device. -/
theorem State.purged_frame : s.purged.pending = s.pending ∧ s.purged.now = s.now ∧ s.purged.fuses = s.fuses ∧ s.purged.nrg = s.nrg ∧
    (∀ k, k < 128 → (s.purged.chn k).inUse = false) := by
  have hends := State.destroyAll_ends (s := s)
  have hidle := State.idleAllPorts_inner (s := s.destroyAll)
  have hchn := fun k hk => State.destroyAll_inUse (s := s) (j := k) hk
  unfold State.purged
  generalize s.destroyAll = d at hends hidle hchn
  generalize d.idleAllPorts = t at hidle
  simp only [State.inner, Prod.mk.injEq] at hidle
  obtain ⟨hcore, hque, -⟩ := hidle
  obtain ⟨hpend, hnow, -, hfuses, -, -, -, hnrg⟩ := State.core_eq_iff.1 (hcore.trans hends.core)
  refine ⟨hpend, hnow, hfuses, hnrg, fun k hk => ?_⟩
  have hsame : t.cleared.chn k = d.chn k := by
    show Tab.get {} t.que.chans k = Tab.get {} d.que.chans k
    rw [hque]
  rw [hsame, hchn k hk]

theorem State.purged_cleared : s.purged.sram = [] ∧ s.purged.wakeBuf = [] := by
  unfold State.purged
  generalize s.destroyAll.idleAllPorts = t
  exact ⟨rfl, rfl⟩

/-- A reset of a device whose clock, queue of commands and fuses are those of `s`. -/
theorem wholeReset_of_frame {u t : State} (h : WholeReset u t) (hpend : u.pending = s.pending) (hnow : u.now = s.now)
    (hfuses : u.fuses = s.fuses) : WholeReset s t := by
  rw [WholeReset, hpend, hnow, hfuses] at h
  exact h

theorem purgeEraseDone_completes (h : s.boot.erasing = true) :
    Completes .purgeEraseDone s fun t =>
      WholeReset s t ∧ t.arm.flashA = [] ∧ t.arm.flashB = [] ∧ t.bit Reg.PLN_RST_CAUSE 3 = true ∧ t.boot.erasing = false := by
  refine ⟨s.purgeDone, rfl, ?_⟩
  rw [State.purgeDone, if_pos h]
  obtain ⟨hcause, -, -⟩ := State.resetDevice_shows (s := (s.setFlash false []).setFlash true []) (por := false) (n := 3)
    (straps := BitVec.ofNat 4 (s.fld Reg.PLN_STRAP 0 4))
  refine ⟨wholeReset_of_frame State.resetDevice_whole rfl rfl rfl, ?_, ?_, ?_, ?_⟩
  · exact State.resetDevice_keeps (·.arm.flashA) (fun _ _ _ => rfl) fun _ _ _ => rfl
  · exact State.resetDevice_keeps (·.arm.flashB) (fun _ _ _ => rfl) fun _ _ _ => rfl
  · rw [State.bit, hcause, BitVec.getLsbD_or]
    exact Bool.or_true _
  · exact State.resetDevice_keeps (·.boot.erasing) (fun _ _ _ => rfl) fun _ _ _ => rfl

theorem devicePurge_completes {req : Requester} {o : PairOpen} (hpair : s.pair 8 = some o) (hreq : o.req = req)
    (htime : s.now ≤ o.openAt + 400000) (hopen : s.openFor (regAcc req Reg.PLN_PURGE_C (~~~o.value)) .pln = true)
    (h0 : o.value.getLsbD 0 = true) :
    Completes (.devicePurge req (~~~o.value)) s fun t =>
      (∀ w, t.sramW w = { stored := 0, checked := 0 }) ∧ (∀ k, k < 128 → (t.chn k).inUse = false) ∧ t.fuses = s.fuses ∧
      (o.value.getLsbD 1 = false → WholeReset s t ∧ t.bit Reg.PLN_RST_CAUSE 3 = true) ∧
      (o.value.getLsbD 1 = true → t.boot.erasing = true ∧ t.wakeBuf = []) := by
  have hC : pairV 8 + 4 = Reg.PLN_PURGE_C := rfl
  obtain ⟨m, hm⟩ := State.writeReg_pairC (p := 8) (by decide) hpair hreq htime (hC ▸ hopen)
  refine ⟨_, rfl, ?_⟩
  rw [hm]
  generalize hu : s.pairClosed req 8 o.value = u
  have hup : u.pending = s.pending := by rw [← hu]; rfl
  have hun : u.now = s.now := by rw [← hu]; rfl
  have huf : u.fuses = s.fuses := by rw [← hu]; rfl
  have hur : u.nrg.ready = [] := by rw [← hu, State.pairClosed_ready, State.openFor_ready hopen]
  obtain ⟨hpend, hnow, hfuses, hnrg, hchn⟩ := State.purged_frame (s := u)
  obtain ⟨hsram, hbuf⟩ := State.purged_cleared (s := u)
  cases h1 : o.value.getLsbD 1
  case false =>
    have happly : u.pairApply 8 o.value = _ := State.purgeOp_resets (s := u) h0 h1
    rw [happly]
    generalize u.purged = x at hpend hnow hfuses hsram
    have hready : (x.resetDevice false 3 (BitVec.ofNat 4 (u.fld Reg.PLN_STRAP 0 4))).nrg.ready = [] :=
      State.resetDevice_keeps (·.nrg.ready) (fun _ _ _ => rfl) fun _ _ _ => rfl
    have hclear : (x.resetDevice false 3 (BitVec.ofNat 4 (u.fld Reg.PLN_STRAP 0 4))).sram = x.sram :=
      State.resetDevice_keeps (·.sram) (fun _ _ _ => rfl) fun _ _ _ => rfl
    have hwhole : WholeReset s (x.resetDevice false 3 (BitVec.ofNat 4 (u.fld Reg.PLN_STRAP 0 4))) :=
      wholeReset_of_frame State.resetDevice_whole (hpend.trans hup) (hnow.trans hun) (hfuses.trans huf)
    have hcause : (x.resetDevice false 3 (BitVec.ofNat 4 (u.fld Reg.PLN_STRAP 0 4))).bit Reg.PLN_RST_CAUSE 3 = true := by
      rw [State.bit, State.resetDevice_shows.1, BitVec.getLsbD_or]
      exact Bool.or_true _
    rw [State.startReady_of_none hready]
    generalize x.resetDevice false 3 _ = r at hclear hwhole hcause
    obtain ⟨-, -, hchans, -, -, -, -, -, -, -, hrf, -⟩ := id hwhole
    refine ⟨fun w => ?_, fun k _ => ?_, hrf, fun _ => ⟨hwhole, hcause⟩, fun h => by cases h⟩
    · rw [State.withMon_sramW, State.sramW, hclear, hsram]
      rfl
    · have hfree : (r.withMon m).chn k = Tab.get {} r.que.chans k := rfl
      rw [hfree, hchans]
      rfl
  case true =>
    obtain ⟨a, out, hout⟩ := State.purgeOp_erases (s := u) h0 h1
    have happly : u.pairApply 8 o.value = _ := hout
    rw [happly]
    generalize u.purged = x at hpend hnow hfuses hnrg hchn hsram hbuf
    have hready : (x.erasing a out).nrg.ready = [] := by rw [show (x.erasing a out).nrg = x.nrg from rfl, hnrg, hur]
    rw [State.startReady_of_none hready]
    refine ⟨fun w => ?_, fun k hk => hchn k hk, hfuses.trans huf, fun h => absurd h (by decide), fun _ => ⟨rfl, hbuf⟩⟩
    rw [State.withMon_sramW, State.sramW, show (x.erasing a out).sram = x.sram from rfl, hsram]
    rfl

theorem purgeClearsTheDevice : Claims.PurgeClearsTheDevice :=
  ⟨fun _ _ _ hpair hreq htime hopen h0 => devicePurge_completes hpair hreq htime hopen h0, fun _ h => purgeEraseDone_completes h⟩

end

end Sys2Proof.Machine
end

section
/-!
PROOFS. Island reset (R146), and the settling of O17.
-/

namespace Sys2Proof.Machine
open Sys2Proof.Claims

theorem unguarded_islRst : Unguarded Reg.PLN_ISL_RST :=
  ⟨by decide, rfl, rfl, rfl, fun _ => rfl, rfl, fun _ => rfl, fun _ _ => rfl, by decide⟩

variable {s : State}

/-- GO with the code of an island (R148). -/
theorem islandResetWord (n : BitVec 4) : word (n.toNat + 16) &&& (rowOf Reg.PLN_ISL_RST).reservedBits = 0 ∧
    (word (n.toNat + 16)).getLsbD 4 = true ∧ fieldOf (word (n.toNat + 16)) 0 4 = n.toNat := by
  revert n
  decide

theorem State.islandReset_refused {isl c : Nat} (h : s.islandResetCause isl = some c) : s.islandReset isl = s.enableRefused isl c := by
  simp only [State.islandReset, h]

/-- Only an island that is ON is reset. -/
theorem State.on_of_islandResetCause {isl : Nat} {i : Island} (hi : Island.ofIdx isl = some i) (h : s.islandResetCause isl = none) :
    (s.island i).power = .on := by
  simp only [State.islandResetCause, hi] at h
  split at h
  case isTrue => exact absurd h (by simp)
  case isFalse hno => exact Decidable.not_not.1 fun hp => hno (.inr (.inr (.inr hp)))

theorem State.islandReset_drains {isl : Nat} {i : Island} (hi : Island.ofIdx isl = some i) (h : s.islandResetCause isl = none)
    (hdrain : (s.island i).drain = none) :
    ((s.islandReset isl).island i).drain = some .off ∧ ((s.islandReset isl).island i).recast = true ∧
    (s.islandReset isl).bit Reg.PLN_RST_CAUSE 7 = true ∧ (s.islandReset isl).nrg = s.nrg := by
  have hon := State.on_of_islandResetCause hi h
  simp only [State.islandReset, h, hi]
  rw [State.sleepTo_on (by rw [State.modIsland_island_self]; exact hon) (by rw [State.modIsland_island_self]; exact hdrain)]
  simp only [State.setIsland_island_self, State.setIsland_bit, State.modIsland, true_and]
  exact ⟨State.setBit_bit_self (by decide), rfl⟩

theorem State.directStored_islRst (s : State) (req : Requester) (n : BitVec 4) (fin : Word) :
    s.directStored req Reg.PLN_ISL_RST (word (n.toNat + 16)) fin =
      (((s.onBus (busActivity (regAcc req Reg.PLN_ISL_RST (word (n.toNat + 16))))).wr Reg.PLN_ISL_RST fin).reparity
        Reg.PLN_ISL_RST).islandReset n.toNat := by
  obtain ⟨-, hgo, hcode⟩ := islandResetWord n
  have hhook : ∀ (u : State) (w : Written), u.plnHook Reg.PLN_ISL_RST w = if w.v.getLsbD 4 then u.islandReset (fieldOf w.v 0 4) else u :=
    fun _ _ => rfl
  show State.plnHook _ Reg.PLN_ISL_RST _ = _
  rw [hhook, if_pos hgo, hcode]
  rfl

theorem islandResets : Claims.IslandResets := by
  intro s req n hopen
  obtain ⟨hres, -, -⟩ := islandResetWord n
  have hd := fun fin => State.directStored_islRst s req n fin
  generalize hfin : mergeWrite (rowOf Reg.PLN_ISL_RST) (s.rd Reg.PLN_ISL_RST) (word (n.toNat + 16)) = fin
  have hw := State.writeReg_unguarded (fin := fin) unguarded_islRst hopen hres (by rw [hfin]; rfl)
  rw [hd] at hw
  generalize hu : State.reparity _ Reg.PLN_ISL_RST = u at hw
  have hcause : u.islandResetCause n.toNat = s.islandResetCause n.toNat := by rw [← hu]; rfl
  have hisl : ∀ i, u.island i = s.island i := fun i => by rw [← hu]; rfl
  have hready : u.nrg.ready = s.nrg.ready := by rw [← hu]; rfl
  constructor
  · intro i hi hc hdrain
    obtain ⟨hdr, hre, hbit, hnrg⟩ := State.islandReset_drains hi (hcause.trans hc) (by rw [hisl]; exact hdrain)
    obtain ⟨m, hm⟩ := hw (by rw [hnrg, hready])
    exact ⟨_, rfl, by rw [hm]; exact ⟨hdr, hre, hbit⟩⟩
  · intro c hc hsts
    rw [State.islandReset_refused (hcause.trans hc)] at hw
    obtain ⟨hsame, -, hnrg, -, hlog, -⟩ := u.enableRefused_logs n.toNat c
    obtain ⟨hbit, hrd⟩ := hlog (by
      rw [← hu, State.reparity_bit, State.wr_bit_other (by decide)]
      exact hsts)
    obtain ⟨m, hm⟩ := hw (by rw [hnrg, hready])
    refine ⟨_, rfl, ?_⟩
    rw [hm]
    exact ⟨fun i => (hsame i).imp (·.trans (congrArg IslSt.power (hisl i))) (·.trans (congrArg IslSt.drain (hisl i))), hrd, hbit⟩

/-- Settles O17: an island reset drains or is logged; the purge frees the slots and clears the SRAM, and the reset of the device that
follows at once or after the erase leaves nothing of its work. -/
theorem islandsResetAndThePurgeClears : Obligations.IslandsResetAndThePurgeClears := ⟨islandResets, purgeClearsTheDevice⟩

end Sys2Proof.Machine
end

section
/-!
PROOFS. The steps that every reset of the function takes (R144).
-/

namespace Sys2Proof.Machine
open Sys2Proof.Claims

namespace Onward

variable {p q : Prop} {z s : State}

/-- A loop over the numbers below a bound. -/
theorem forAll_lt {n : Nat} {f : State → Nat → State} (h : Onward p q z s) (hf : ∀ t k, k < n → Onward p q z t → Onward p q z (f t k)) :
    Onward p q z (s.forAll (List.range n) f) :=
  List.foldlRecOn _ f (motive := Onward p q z) h fun t ht k hk => hf t k (List.mem_range.1 hk) ht

theorem setHs {c : ChannelId} {x : HsChan} (h : Onward p q z s) : Onward p q z (s.setHs c x) := h.upd rfl

/-- Queues lose entries. -/
theorem setQueues (f : Queue → Queue) (b : Bool) (hf : ∀ x, (f x).state = x.state) (h : Onward p q z s) :
    Onward p q z { s with que := { s.que with queues := s.que.queues.map fun e => (e.1, f e.2), stageFull := b } } :=
  h.trans { (refl (p := p) (q := q) s) with queue := fun n hn => (Tab.get_map hf {} s.que.queues n).symm.trans hn }

theorem sinkTags {mine : Consumer → Bool} (h : Onward p q z s) : Onward p q z (s.sinkTags mine) :=
  h.trans { (refl (p := p) (q := q) s) with tags := fun _ hs => List.map_eq_nil_iff.2 hs }

theorem killQueue {n : Nat} (h : Onward p q z s) : Onward p q z (s.killQueue n) := by
  have hgone : Onward p q s { s with que := { s.que with
      lockWait := s.que.lockWait.filter fun w => !decide (w.2.2 = n)
      queues := (s.setQueue n (s.queue n).killed).que.queues } } :=
    { (refl (p := p) (q := q) s) with queue := fun _ => State.killQueue_enabled }
  exact (h.trans hgone).sinkTags

theorem killQueues (h : Onward p q z s) : Onward p q z s.killQueues := h.foldl _ fun _ _ ht => ht.killQueue

theorem sinkHostReads (h : Onward p q z s) : Onward p q z s.sinkHostReads := h.upd rfl

theorem discardAllRecords (h : Onward p q z s) : Onward p q z s.discardAllRecords :=
  setQueues (fun x => { x with staged := [] }) false (fun _ => rfl)
    ((h.bumpBy (k := Reg.PLN_RST_LOST) (by decide)).forAll _ fun _ _ ht => ht.setHs)

theorem forgetEvents {v : Tab VecSt} {x : BitVec 128} (h : Onward p q z s) :
    Onward p q z { s with que := { s.que with vecs := v }, txn := { s.txn with pba := x } } := h.upd rfl

theorem clearEvents (h : Onward p q z s) : Onward p q z s.clearEvents := by
  have hpend := h.forAll_lt (n := 32) (f := fun t k => t.wr (Reg.EVT_PEND k) 0) fun t k hk ht =>
    ht.wr (unwatched_of_block (by simp only [Reg.EVT_PEND]; omega))
  exact hpend.forgetEvents

theorem setSat {x : SatSt} (h : Onward p q z s) : Onward p q z { s with sat := x } := h.upd rfl

theorem dropHostBound (h : Onward p q z s) : Onward p q z s.dropHostBound := by
  refine foldl _ h.setSat fun t m ht => ?_
  split
  · exact .ite ht.splitAnswer ht
  · exact ht

theorem setCan {c : Nat} {x : Can} (h : Onward p q z s) : Onward p q z (s.setCan c x) := h.upd rfl

theorem keepOnBus {c : Nat} {src : TxSource} (h : Onward p q z s) : Onward p q z (s.keepOnBus c src) := by
  unfold State.keepOnBus
  split
  · exact .ite h.setCan h
  · exact h

theorem discardHead {c k : Nat} (hc : c < 4) (h : Onward p q z s) : Onward p q z (s.discardHead c k) := by
  unfold State.discardHead
  split
  · exact h
  · exact setCan (.ite h.keepOnBus (h.keepOnBus.bump (unwatched_of_block (by simp only [Reg.FB_TXDISC]; omega))))

theorem clearRequests {c : Nat} (hc : c < 4) (h : Onward p q z s) : Onward p q z (s.clearRequests c) := by
  have hcancel := h.forAll_lt (n := 64) (f := fun t j => t.cancelBuffer c j) fun t j hj ht =>
    .ite (ht.keepOnBus.setBit (unwatched_of_block (by simp only [Reg.FB_TXREQ]; omega))) ht
  exact hcancel.forAll _ fun _ _ ht => ht.discardHead hc

theorem fldRequestsEnd (h : Onward p q z s) : Onward p q z s.fldRequestsEnd := .ite (h.forAll_lt fun _ _ hc ht => ht.clearRequests hc) h

end Onward

/-! ### The use of the device by the function has ended -/

section
variable {s t u : State}

/-- What has ended for `s` has ended for an earlier state too. -/
theorem functionEnded_of_onward {p q : Prop} (h : Onward p q s t) (g : FunctionEnded t u) : FunctionEnded s u := by
  obtain ⟨hfree, hgen, hqueue, hlock, hhead, hcom, hfuses, hsram⟩ := g
  have huse (k : Nat) : (t.chn k).inUse = (s.chn k).inUse := congrArg (fun x : ChState => decide (x ≠ .free)) (h.chn k).1
  have hlk (n : Nat) : t.lock n = s.lock n := by rw [State.lock, h.locks, State.lock]
  refine ⟨hfree, fun k hk hu => ?_, hqueue, fun n hn ho => hlock n hn ?_, hhead, hcom.trans h.committed, hfuses.trans h.fuses,
    fun w => (hsram w).trans (State.sramW_of_sram h.sram w)⟩
  · rw [hgen k hk ((huse k).trans hu), (h.chn k).2]
  · rwa [hlk]

/-- What has ended stays ended. -/
theorem functionEnded_onward {p : Prop} (g : FunctionEnded s t) (h : Onward p True t u) : FunctionEnded s u := by
  obtain ⟨hfree, hgen, hqueue, hlock, hhead, hcom, hfuses, hsram⟩ := g
  have huse (k : Nat) : (u.chn k).inUse = (t.chn k).inUse := congrArg (fun x : ChState => decide (x ≠ .free)) (h.chn k).1
  have hlk (n : Nat) : u.lock n = t.lock n := by rw [State.lock, h.locks, State.lock]
  refine ⟨fun k hk => (huse k).trans (hfree k hk), fun k hk hu => (h.chn k).2.trans (hgen k hk hu), fun q hq => hqueue q (h.queue q hq),
    fun n hn ho => (hlk n).trans (hlock n hn ho), fun p hp => ?_, h.committed.trans hcom, h.fuses.trans hfuses,
    fun w => (State.sramW_of_sram h.sram w).trans (hsram w)⟩
  have hw : watched (Reg.HP_CTL (qOf p) (iOf p)) 0 = true := by
    revert p
    decide
  exact (h.bits _ _ hw fun _ => trivial).elim (·.trans (hhead p hp)) fun hlost => hlost.2.2

/-- The owners whose locks a reset of the function breaks (R144). -/
def functionOwner (mine : LockOwner → Bool) : Prop := mine (.req .host) = true ∧ ∀ k, mine (.chan k) = true

/-- Channels end, locks break and heads lose their power. -/
theorem functionEnded_destroyed {mine : LockOwner → Bool} (hmine : functionOwner mine) (hq : ∀ n, (s.queue n).state ≠ .enabled) :
    FunctionEnded s (s.destroyAll.breakLocks mine).idleAllPorts := by
  have hends := State.destroyAll_ends (s := s)
  have hbroken := (Ends.refl (p := True) s.destroyAll).breakLocks (mine := mine)
  have hinner := State.idleAllPorts_inner (s := s.destroyAll.breakLocks mine)
  have hpower := fun p hp => State.idleAllPorts_power (s := s.destroyAll.breakLocks mine) (p := p) hp
  generalize State.idleAllPorts _ = t at hinner hpower
  simp only [State.inner, Prod.mk.injEq] at hinner
  obtain ⟨hcore, hque, -⟩ := hinner
  obtain ⟨-, -, -, hfuses, hsram, harm, -⟩ := State.core_eq_iff.1 ((hcore.trans hbroken.core).trans hends.core)
  have hchn (k : Nat) : t.chn k = s.destroyAll.chn k := by
    rw [State.chn, hque, hbroken.chans trivial, State.chn]
  have hlk (n : Nat) : t.lock n = (s.destroyAll.breakLocks mine).lock n := by rw [State.lock, hque, State.lock]
  refine ⟨fun k hk => ?_, fun k hk hu => ?_, fun n hn => ?_, fun n hn ho => ?_, hpower, congrArg ArmSt.committed harm, hfuses,
    State.sramW_of_sram hsram⟩
  · rw [hchn, State.destroyAll_inUse hk]
  · rw [hchn, State.destroyAll_chn, if_pos ⟨hk, hu⟩, Chan.ended]
  · rw [State.queue, hque] at hn
    exact hq n (hends.queue n (hbroken.queue n hn))
  · rw [hlk]
    have hown : (s.lock n).owner.any mine = true := by
      rcases ho with hhost | ⟨k, hk⟩
      · rw [hhost]
        exact hmine.1
      · rw [hk]
        exact hmine.2 k
    rcases hends.lock n with hsame | hgone
    · rw [State.breakLocks_lock, hsame, if_pos ⟨hn, hown⟩]
    · exact State.breakLocks_broken hgone

/-- What the steps of R144 leave beside what they end: the cause of the reset, the link and what has left the device. -/
structure FunctionDone (s t : State) : Prop where
  ended : FunctionEnded s t
  boot : t.boot = s.boot
  sent : s.sent <:+ t.sent
  cause : ∀ b, t.bit Reg.PLN_RST_CAUSE b = s.bit Reg.PLN_RST_CAUSE b
  linkUp : t.linkUp = s.linkUp

theorem FunctionDone.onward (h : FunctionDone s t) (g : Onward True True t u) : FunctionDone s u :=
  ⟨functionEnded_onward h.ended g, g.boot.trans h.boot, h.sent.trans g.sent, fun b => (g.cause b).trans (h.cause b),
    (g.linkUp trivial).trans h.linkUp⟩

theorem FunctionDone.of_onward (h : Onward True True s t) (g : FunctionDone t u) : FunctionDone s u :=
  ⟨functionEnded_of_onward h g.ended, g.boot.trans h.boot, h.sent.trans g.sent, fun b => (g.cause b).trans (h.cause b),
    g.linkUp.trans (h.linkUp trivial)⟩

theorem functionDone_destroyed {mine : LockOwner → Bool} (hmine : functionOwner mine) (hq : ∀ n, (s.queue n).state ≠ .enabled) :
    FunctionDone s (s.destroyAll.breakLocks mine).idleAllPorts := by
  have hends := State.destroyAll_ends (s := s)
  have hbroken := (Ends.refl (p := True) s.destroyAll).breakLocks (mine := mine)
  have hinner := State.idleAllPorts_inner (s := s.destroyAll.breakLocks mine)
  have hrd {k : Nat} (hk : headCtl k = false) : (s.destroyAll.breakLocks mine).idleAllPorts.rd k = s.rd k :=
    (State.idleAllPorts_rd hk).trans (State.rd_of_regs (hbroken.regs.trans hends.regs) k)
  simp only [State.inner, Prod.mk.injEq] at hinner
  obtain ⟨-, -, hboot, -, -, -, hsent, -⟩ := State.core_eq_iff.1 ((hinner.1.trans hbroken.core).trans hends.core)
  refine ⟨functionEnded_destroyed hmine hq, hboot, ?_, fun b => ?_, ?_⟩
  · rw [hsent]
  · rw [State.bit, hrd (by decide), State.bit]
  · rw [State.linkUp, State.bit, hrd (by decide), State.linkUp, State.bit]

theorem State.functionSteps_done : FunctionDone s s.functionSteps := by
  have hbefore : Onward True True s ((s.sinkHostReads.discardAllRecords.sinkTags fun _ => true).killQueues.clearEvents) :=
    (Onward.refl s).sinkHostReads.discardAllRecords.sinkTags.killQueues.clearEvents
  have hqueues (n : Nat) :
      (((s.sinkHostReads.discardAllRecords.sinkTags fun _ => true).killQueues.clearEvents).queue n).state ≠ .enabled := by
    intro hn
    generalize s.sinkHostReads.discardAllRecords.sinkTags (fun _ => true) = u at hn
    exact State.killQueues_disabled (s := u) n (((Onward.refl (p := True) (q := True) u.killQueues).clearEvents).queue n hn)
  unfold State.functionSteps
  dsimp only
  generalize State.clearEvents _ = u at hbefore hqueues
  have hmine : functionOwner fun o => match o with | .req .host => true | .chan _ => true | _ => false := ⟨rfl, fun _ => rfl⟩
  exact .of_onward hbefore ((functionDone_destroyed hmine hqueues).onward (Onward.refl _).dropHostBound.fldRequestsEnd)

end

end Sys2Proof.Machine
end

section
/-!
PROOFS. PERST_N, hot reset and FLR (R130, R143 to R145).
-/

namespace Sys2Proof.Machine
open Sys2Proof.Claims

namespace Onward

variable {p q : Prop} {z s : State}

/-- The link leaves L0: DL_UP clears. -/
theorem wrLinkDown {v : Word} (h : Onward False q z s) (hv : v.getLsbD 17 = false) : Onward False q z (s.wr Reg.HST_LINK_STS v) := by
  refine h.trans { (refl (p := False) (q := q) s) with bits := fun k b hw _ => ?_, ltssm := False.elim }
  by_cases hk : k = Reg.HST_LINK_STS
  · subst hk
    have hb : b = 17 := of_decide_eq_true hw
    rw [hb, State.wr_bit_self]
    exact .inr ⟨not_false, rfl, hv⟩
  · exact .inl (State.wr_bit_other hk)

theorem setLinkSt {x : LinkSt} (h : Onward p q z s) : Onward p q z { s with link := x } := h.upd rfl

theorem takeIdentity {im : Option Image} (h : Onward p q z s) : Onward p q z (s.takeIdentity im) :=
  setBit (s := { s with arm := { s.arm with identity := s.identityOf im, bar2Log2 := bar2LogOf im } }) (h.upd rfl) (by decide)

theorem enterDetect (h : Onward p q z s) : Onward p q z s.enterDetect := .ite h.setLinkSt.takeIdentity h.setLinkSt

theorem laneLeaves {l : Nat} (hl : l < 4) (h : Onward p q z s) : Onward p q z (s.setFld (Reg.HST_LANE_STS l) 0 2 0) :=
  h.setFld (by revert l; decide)

/-- What the lanes hold of a link that has left L0. -/
theorem lanesDetect (h : Onward p q z s) :
    Onward p q z ((s.abortEye false).forAll (List.range 4) fun t l => t.setFld (Reg.HST_LANE_STS l) 0 2 0) :=
  h.abortEye.forAll_lt fun _ _ hl ht => ht.laneLeaves hl

theorem linkDetect (h : Onward False q z s) : Onward False q z s.linkDetect :=
  (h.wrLinkDown (v := s.rd Reg.HST_LINK_STS &&& 0x10000) (by simp)).lanesDetect.setLinkSt.enterDetect

theorem resetConfig {b : Bool} (h : Onward p q z s) : Onward p q z (s.resetConfig b) := h.upd rfl

end Onward

section
variable {s t : State}

/-- HST_LINK_STS as the link leaves it, but for NARROWED. -/
theorem State.linkDetect_shown :
    Onward True True (s.wr Reg.HST_LINK_STS (s.rd Reg.HST_LINK_STS &&& 0x10000)) s.linkDetect :=
  (Onward.refl _).lanesDetect.setLinkSt.enterDetect

theorem State.wrLinkDown_linkUp : (s.wr Reg.HST_LINK_STS (s.rd Reg.HST_LINK_STS &&& 0x10000)).linkUp = false := by
  rw [State.linkUp, State.wr_bit_self]
  simp

theorem State.linkDetect_down : s.linkDetect.linkUp = false := State.linkDetect_shown.down State.wrLinkDown_linkUp

theorem State.linkDetect_ltssm : s.linkDetect.ltssm = 0 := by
  rw [State.linkDetect_shown.ltssm trivial State.wrLinkDown_linkUp, State.ltssm, State.wr_fld_self]
  generalize s.rd Reg.HST_LINK_STS = v
  apply Nat.eq_of_testBit_eq
  intro j
  rw [testBit_fieldOf, Nat.zero_testBit]
  by_cases hj : j < 3
  · have hbit : (0x10000 : Word).getLsbD j = false := by
      revert j
      decide
    rw [BitVec.getLsbD_and, Nat.zero_add, hbit, Bool.and_false, Bool.and_false]
  · simp [hj]

/-! ### PERST_N (R130, R145) -/

theorem State.islandEnabled_rd (i : Island) (k : Nat) : (s.islandEnabled i).rd k = s.rd k := by
  unfold State.islandEnabled
  dsimp only
  split
  · exact (apply_ite (State.rd · k) _ _ _).trans (by rw [State.setIsland_rd, State.setIsland_rd, ite_self])
  · exact (apply_ite (State.rd · k) _ _ _).trans (by rw [State.setIsland_rd, ite_self])
  · rfl

theorem State.islandEnabled_boot (i : Island) : (s.islandEnabled i).boot = s.boot := by
  unfold State.islandEnabled
  dsimp only
  split
  · exact (apply_ite State.boot _ _ _).trans (by rw [State.setIsland_boot, State.setIsland_boot, ite_self])
  · exact (apply_ite State.boot _ _ _).trans (by rw [State.setIsland_boot, ite_self])
  · rfl

theorem State.enableHst_boot : s.enableHst.boot = s.boot := by
  unfold State.enableHst
  split
  · exact State.islandEnabled_boot (s := s.setBit Reg.PLN_ISL_EN Island.hst.idx true) .hst
  · rfl

theorem perstDeassert_completes (s : State) :
    Completes .perstDeassert s fun t =>
      t.boot.perstN = true ∧
      (s.boot.refclk = true → s.boot.inPor = false → t.bit Reg.PLN_ISL_EN 1 = true ∧
        ((s.island .hst).power = .gated → (s.island .hst).force ≠ 2 → (t.island .hst).waking = true)) := by
  refine ⟨({ s with boot := { s.boot with perstN := true } } : State).enableHst, rfl, ?_⟩
  generalize hu : ({ s with boot := { s.boot with perstN := true } } : State) = u
  have hperst : u.boot.perstN = true := by rw [← hu]
  have hisl : u.island .hst = s.island .hst := by rw [← hu]; rfl
  refine ⟨?_, fun hclk hpor => ?_⟩
  · rw [State.enableHst_boot, hperst]
  · have hen : u.enableHst = u.plinthEnable .hst := if_pos (by rw [hperst, ← hu]; simp [hclk, hpor])
    rw [hen]
    refine ⟨?_, fun hpower hforce => ?_⟩
    · rw [State.plinthEnable, State.bit, State.islandEnabled_rd]
      exact State.setBit_bit_self (by decide)
    · rw [State.plinthEnable_free (hisl ▸ hpower) (hisl ▸ hforce), State.setIsland_island_self]

/-- The function's use of the device has ended, the cause noted, and the boot state is as the reset sets it. -/
theorem FunctionDone.linkDetect (h : FunctionDone s t) {b : Bool} :
    FunctionEnded s (t.linkDetect.resetConfig b) ∧ (t.linkDetect.resetConfig b).boot = s.boot ∧
    (∀ n, (t.linkDetect.resetConfig b).bit Reg.PLN_RST_CAUSE n = s.bit Reg.PLN_RST_CAUSE n) ∧
    (t.linkDetect.resetConfig b).linkUp = false := by
  have hon : Onward False True t (t.linkDetect.resetConfig b) := (Onward.refl t).linkDetect.resetConfig
  exact ⟨functionEnded_onward h.ended hon, hon.boot.trans h.boot, fun n => (hon.cause n).trans (h.cause n),
    ((Onward.refl (p := True) (q := True) t.linkDetect).resetConfig).down State.linkDetect_down⟩

/-- What has ended is told from the channels, the locks, the armature, the fuses and the SRAM. -/
theorem functionEnded_of_same {x : State} (h : FunctionEnded x t) (hque : x.que = s.que) (harm : x.arm = s.arm) (hfuses : x.fuses = s.fuses)
    (hsram : x.sram = s.sram) : FunctionEnded s t := by
  have hchn (k : Nat) : x.chn k = s.chn k := by rw [State.chn, hque, State.chn]
  have hlock (n : Nat) : x.lock n = s.lock n := by rw [State.lock, hque, State.lock]
  simp only [FunctionEnded, hchn, hlock, harm, hfuses, State.sramW_of_sram hsram] at h ⊢
  exact h

theorem hotReset_completes (h : s.linkUp = true) :
    Completes .hotReset s fun t =>
      FunctionEnded s t ∧ t.bit Reg.PLN_RST_CAUSE 5 = true ∧ t.linkUp = false ∧ t.boot.perstN = s.boot.perstN := by
  have hop : s.hotResetOp = (s.setBit Reg.PLN_RST_CAUSE 5 true).functionSteps.linkDetect.resetConfig true := if_neg (by rw [h]; decide)
  obtain ⟨hend, hboot, hcause, hdown⟩ :=
    (State.functionSteps_done (s := s.setBit Reg.PLN_RST_CAUSE 5 true)).linkDetect (b := true)
  refine ⟨_, rfl, ?_⟩
  rw [hop]
  exact ⟨functionEnded_of_same hend rfl rfl rfl rfl, (hcause 5).trans (State.setBit_bit_self (by decide)), hdown,
    congrArg BootSt.perstN hboot⟩

/-- HST is disabled, and drains no longer. -/
def State.hstDisabled (s : State) : State :=
  (s.setBit Reg.PLN_ISL_EN Island.hst.idx false).setIsland .hst { s.island .hst with drain := none }

/-- No link and no tag of it is left. -/
def State.withoutLink (s : State) : State := { s with link := {}, txn := { s.txn with tags := [], quarantine := [] } }

/-- HST falls to GATED as PERST_N is asserted. -/
def State.hstFallen (s : State) : State := (s.hstDisabled.enterPower .hst .gated).withoutLink

theorem State.hstFallen_gated (s : State) : (s.hstFallen.island .hst).power = .gated := by
  have hoff : s.hstDisabled.bit Reg.PLN_ISL_EN Island.hst.idx = false := by
    rw [State.hstDisabled, State.setIsland_bit, State.setBit_bit_self (by decide)]
  have hund : Undisturbed .hst (s.hstDisabled.fallen .hst .gated) (s.hstDisabled.enterPower .hst .gated) :=
    State.enterPower_undisturbed fun _ => .inl hoff
  exact hund.power.trans (State.fallen_island _ _ _).1

theorem Onward.hstFallen {z : State} {q : Prop} (h : Onward False q z s) : Onward False q z s.hstFallen := by
  have hoff : Onward False q z s.hstDisabled := (h.setBit (by decide)).setIsland
  have hfall := hoff.enterPower (i := .hst) (w := .gated) (by decide)
  exact hfall.trans { (Onward.refl (p := False) (q := q) _) with tags := fun _ _ => rfl }

theorem State.perstOp_eq : s.perstOp =
    State.ceilingFrom ((({ s with boot := { s.boot with perstN := false, flr := false } }.setBit Reg.PLN_RST_CAUSE 4
      true).functionSteps.linkDetect).resetConfig false).hstFallen s.ceilSources := rfl

theorem perstAssert_completes (h : s.boot.perstN = true) :
    Completes .perstAssert s fun t =>
      FunctionEnded s t ∧ t.boot.perstN = false ∧ (t.island .hst).power = .gated ∧ t.bit Reg.PLN_RST_CAUSE 4 = true ∧
      t.linkUp = false ∧ t.txn.tags = [] := by
  refine ⟨_, rfl, ?_⟩
  rw [if_pos h, State.perstOp_eq]
  have hdone := State.functionSteps_done
    (s := { s with boot := { s.boot with perstN := false, flr := false } }.setBit Reg.PLN_RST_CAUSE 4 true)
  obtain ⟨hend, hboot, hcause, hdown⟩ := hdone.linkDetect (b := false)
  generalize State.resetConfig _ false = u at hend hboot hcause hdown
  have hfall : Onward False True u u.hstFallen := (Onward.refl u).hstFallen
  have hon : Onward False True u.hstFallen (u.hstFallen.ceilingFrom s.ceilSources) := (Onward.refl _).ceilingFrom
  have hund : Undisturbed .hst u.hstFallen (u.hstFallen.ceilingFrom s.ceilSources) :=
    .ite (.refl _) ((Undisturbed.refl _).planPass (.inr u.hstFallen_gated))
  have hall := hfall.trans hon
  have hlast : (u.hstFallen.ceilingFrom s.ceilSources).txn.tags = [] := hon.tags (.inr (hfall.down hdown)) rfl
  refine ⟨functionEnded_onward (functionEnded_of_same hend rfl rfl rfl rfl) hall, ?_, hund.power.trans u.hstFallen_gated, ?_,
    hall.down hdown, hlast⟩
  · exact congrArg BootSt.perstN (hall.boot.trans hboot)
  · exact (hall.cause 4).trans ((hcause 4).trans (State.setBit_bit_self (by decide)))

theorem fundamentalReset : Claims.FundamentalReset := ⟨perstDeassert_completes, fun _ h => perstAssert_completes h⟩

end

end Sys2Proof.Machine
end

section
/-!
PROOFS. Configuration writes, FLR, and the answers to configuration requests (R131, R143); the settling of O16.
-/

namespace Sys2Proof.Machine
open Sys2Proof.Claims

namespace Onward

variable {p q : Prop} {z s : State}

/-- What the staged entries would have reported is raised; their number may lie beyond the sources, which reaches no head alone. -/
theorem dropStagedInto {k : Nat} (h : Onward p False z s) (hk : unwatched k = true) : Onward p False z (s.dropStagedInto k) := by
  have hdropped := setQueues (fun x => { x with staged := [] }) false (fun _ => rfl) h
  exact (hdropped.bumpBy hk).foldl _ fun _ _ ht => ht.raiseQue False.elim

theorem bmeOp {b : Bool} (h : Onward p False z s) : Onward p False z (s.bmeOp b) :=
  .ite h.setCfg.sendPending (h.setCfg.dropStagedInto (by decide))

theorem setTxnPower {b : Bool} (h : Onward p q z s) : Onward p q z { s with txn := { s.txn with d3hot := b } } := h.upd rfl

theorem d3Op {b : Bool} (h : Onward p False z s) : Onward p False z (s.d3Op b) :=
  .ite (h.setTxnPower.setCfg.dropStagedInto (by decide)) h.setTxnPower.setCfg.sendPending

theorem flushAtc (h : Onward p q z s) : Onward p q z s.flushAtc := .ite (h.upd (by rfl)) (h.upd (by rfl))

/-- A queue that faults is enabled no longer. -/
theorem faultQueue {n cause : Nat} (h : Onward p False z s) : Onward p False z (s.faultQueue n cause) := by
  have hfault (x : Queue) (hx : x.state ≠ .enabled) : Onward p False z (s.modQueue n fun _ => x) := by
    refine h.trans { (refl (p := p) (q := False) s) with queue := fun j hj => ?_ }
    by_cases hjn : j = n
    · subst hjn
      rw [State.modQueue, State.setQueue_queue_self] at hj
      exact absurd hj hx
    · rwa [State.modQueue, State.setQueue_queue_ne _ hjn] at hj
  have hstopped := (hfault { s.queue n with state := .fault, faultCause := cause, fetching := false, needDoorbell := true }
    (fun he => nomatch he)).sinkTags (mine := fetchesFor n)
  exact .ite h (raiseQue (.ite (hstopped.wr (by decide)) hstopped) False.elim)

theorem atsOff (h : Onward p False z s) : Onward p False z s.atsOff := by
  have hflushed := (h.setCfg (d := 87) (v := s.cfgD 87 &&& ~~~(0x80000000 : Dword))).flushAtc
  exact foldl _ (.ite hflushed (hflushed.raiseBit (by decide) (by decide))) fun _ _ ht => ht.faultQueue

end Onward

section
variable {s t : State}

/-- The state in which the steps of an FLR begin. -/
def State.flrBegun (s : State) : State := { s with boot := { s.boot with flr := true } }.setBit Reg.PLN_RST_CAUSE 6 true

theorem State.flrOp_eq (hflr : s.boot.flr = false) (hperst : s.boot.perstN = true) :
    s.flrOp = s.flrBegun.functionSteps.resetConfig true := if_neg (by rw [hflr, hperst]; decide)

theorem State.flrBegun_done : FunctionDone s.flrBegun (s.flrBegun.functionSteps.resetConfig true) :=
  State.functionSteps_done.onward (Onward.refl _).resetConfig

theorem State.flrOp_sent : s.sent <:+ s.flrOp.sent := by
  have hdone := (State.flrBegun_done (s := s)).sent
  unfold State.flrOp
  split
  · exact List.suffix_refl _
  · exact hdone

/-- What leaves the device in a configuration write joins what has left it. -/
theorem State.cfgWrite_sent (d : Nat) (be : BitVec 4) (data : Dword) : s.sent <:+ (s.cfgWrite d be data).sent := by
  have hset (v : Dword) : Onward True False s (s.setCfg d v) := (Onward.refl s).setCfg
  unfold State.cfgWrite
  dsimp only
  split
  · exact (Onward.ite (hset _).bmeOp (.ite (hset _).bmeOp (hset _))).sent
  · exact (Onward.ite (hset _).d3Op (.ite (hset _).d3Op (hset _))).sent
  · split
    · exact (hset _).sent.trans State.flrOp_sent
    · exact (hset _).sent
  · exact (Onward.ite (hset _).atsOff (hset _)).sent
  · exact (hset _).sendPending.sent
  · exact (hset _).sendPending.sent
  · exact (hset _).sendPending.sent
  · exact (hset _).sent

/-- A configuration completion leaves whatever goes on (R143). -/
theorem State.send_config (x : Option Dword) : (s.send (.config x)).sent = .config x :: s.sent := by
  have hgo : ¬((Output.config x).onLink && s.boot.flr && !(Output.config x).isConfig) = true := by
    simp [Output.isConfig]
  rw [State.send, if_neg hgo]
  split
  · rfl
  · rfl

/-- What waited for the link leaves after what has left. -/
theorem State.released_sent : ∃ l, s.released.sent = l ++ s.sent :=
  (((Onward.refl (p := False) (q := True) s).released).sent).imp fun _ h => h.symm

theorem State.configOp_retry {r : ConfigReq} (hup : s.linkUp = true) (hon : s.isOn .hst = true)
    (h : s.bit Reg.PLN_BOOT 3 = false ∨ s.boot.flr = true) : s.configOp r = s.send (.config none) := by
  rw [State.configOp, if_neg (by rw [hup, hon]; decide), if_pos (by rcases h with h | h <;> simp [h])]

theorem State.configOp_write {r : ConfigReq} (hup : s.linkUp = true) (hon : s.isOn .hst = true) (hready : s.bit Reg.PLN_BOOT 3 = true)
    (hflr : s.boot.flr = false) (hw : r.write = true) :
    s.configOp r = (s.cfgWrite r.dword.toNat r.be r.data).send (.config (some 0)) := by
  rw [State.configOp, if_neg (by rw [hup, hon]; decide), if_neg (by rw [hready, hflr]; decide)]
  exact if_pos hw

theorem State.configOp_read {r : ConfigReq} (hup : s.linkUp = true) (hon : s.isOn .hst = true) (hready : s.bit Reg.PLN_BOOT 3 = true)
    (hflr : s.boot.flr = false) (hw : r.write = false) : (s.configOp r).sent = .config (some (s.cfgRead r.dword.toNat)) :: s.sent := by
  rw [State.configOp, if_neg (by rw [hup, hon]; decide), if_neg (by rw [hready, hflr]; decide)]
  dsimp only
  rw [hw, if_neg (by decide)]
  split
  · exact State.send_config _
  · exact State.send_config _
  · exact State.send_config _

theorem configRequestAnswers : Claims.ConfigRequestAnswers := by
  refine fun s r hup hon => ⟨fun h => ⟨_, rfl, ?_⟩, fun hready hflr hw => ⟨_, rfl, ?_⟩, fun hready hflr hw => ⟨_, rfl, ?_⟩⟩
  · obtain ⟨l, hl⟩ := (s.configOp r).released_sent
    rw [State.configOp_retry hup hon h] at hl ⊢
    exact ⟨l, by rw [hl, State.send_config]⟩
  · obtain ⟨l, hl⟩ := (s.configOp r).released_sent
    exact ⟨l, by rw [hl, State.configOp_read hup hon hready hflr hw]⟩
  · obtain ⟨l, hl⟩ := (s.configOp r).released_sent
    obtain ⟨m, hm⟩ := State.cfgWrite_sent (s := s) r.dword.toNat r.be r.data
    rw [State.configOp_write hup hon hready hflr hw] at hl ⊢
    exact ⟨l, m, by rw [hl, State.send_config, hm]⟩

/-! ### FLR (R143) -/

/-- The write of Initiate Function Level Reset begins one. -/
theorem State.cfgWrite_flr : ∃ v, s.cfgWrite 30 2 (s.cfgD 30 ||| 0x8000) = (s.setCfg 30 v).flrOp := by
  refine ⟨_, if_pos ?_⟩
  have hbe : (beMask 2).getLsbD 15 = true := by decide
  have hbit : (0x8000 : Dword).getLsbD 15 = true := by decide
  rw [BitVec.getLsbD_or, hbe, hbit, Bool.or_true, Bool.and_true]

theorem flr_completes (hup : s.linkUp = true) (hon : s.isOn .hst = true) (hready : s.bit Reg.PLN_BOOT 3 = true) (hflr : s.boot.flr = false)
    (hperst : s.boot.perstN = true) :
    Completes .flr s fun t => FunctionEnded s t ∧ t.boot.flr = true ∧ t.bit Reg.PLN_RST_CAUSE 6 = true ∧ t.linkUp = true := by
  refine ⟨_, rfl, ?_⟩
  have hop := State.configOp_write (r := { write := true, dword := 30, be := 2, data := s.cfgD 30 ||| 0x8000 }) hup hon hready hflr rfl
  obtain ⟨v, hv⟩ := State.cfgWrite_flr (s := s)
  have hbegun := State.flrOp_eq (s := s.setCfg 30 v) hflr hperst
  have hwritten : s.cfgWrite ((30 : BitVec 10).toNat) 2 (s.cfgD 30 ||| 0x8000) = (s.setCfg 30 v).flrBegun.functionSteps.resetConfig true :=
    hv.trans hbegun
  rw [hop, hwritten]
  have hdone := State.flrBegun_done (s := s.setCfg 30 v)
  obtain ⟨hend, hboot, -, hcause, hlink⟩ := hdone.onward ((Onward.refl _).send (o := .config (some 0)))
  exact ⟨functionEnded_of_same hend rfl rfl rfl rfl, congrArg BootSt.flr hboot, (hcause 6).trans (State.setBit_bit_self (by decide)),
    (hlink.trans (State.setBit_bit_other (by decide))).trans hup⟩

theorem State.hsSend_boot (c : ChannelId) (e : HsEntry) : (s.hsSend c e).boot = s.boot :=
  (apply_ite State.boot _ _ _).trans (ite_self _)

theorem State.sendEstimate_boot (v : Nat) : (s.sendEstimate v).boot = s.boot :=
  State.foldl_keeps State.boot (fun _ _ => (apply_ite State.boot _ _ _).trans (by rw [State.hsSend_boot, ite_self])) _ s

theorem State.opResult_boot (code status : Nat) (handle : Word) : (s.opResult code status handle).boot = s.boot :=
  (Onward.refl (p := True) (q := True) _).raiseQue (fun _ => by decide) |>.boot

theorem State.createOp_boot : s.createOp.boot = s.boot := by
  unfold State.createOp
  split
  · exact (State.opResult_boot _ _ _).trans (State.sendEstimate_boot _)
  · dsimp only
    rw [State.opResult_boot]
    exact (apply_ite State.boot _ _ _).trans (ite_self _)

/-- A parameter block of CHANNEL CREATE is put in place. -/
def State.putParams (s : State) (ws : List Word) : State := s.forAll (List.range 16) fun t k => t.wr (Reg.CHN_P k) (wordAt ws k)

theorem State.putParams_boot (ws : List Word) : (s.putParams ws).boot = s.boot := by
  have hput (t : State) (k : Nat) : (t.wr (Reg.CHN_P k) (wordAt ws k)).boot = t.boot := rfl
  exact State.forAll_keeps State.boot hput _ s

theorem State.createAfterFlr_eq {o : ChOp} (h : s.que.op = some o) :
    s.createAfterFlr =
      State.putParams { s.putParams o.params with que := { s.que with op := none } }.createOp ((List.range 16).map s.chnP) := by
  rw [State.createAfterFlr, h]
  rfl

theorem State.createAfterFlr_boot : s.createAfterFlr.boot = s.boot := by
  cases hop : s.que.op with
  | none => rw [State.createAfterFlr, hop]
  | some o =>
    rw [State.createAfterFlr_eq hop, State.putParams_boot, State.createOp_boot]
    dsimp only
    rw [State.putParams_boot]

theorem flrComplete_completes (h : s.boot.flr = true) :
    Completes .flrComplete s fun t => t.boot.flr = false ∧ (s.que.op = none → t.que.op = none) := by
  refine ⟨s.flrDone, rfl, ?_⟩
  rw [State.flrDone, if_pos h]
  generalize hu : ({ s with boot := { s.boot with flr := false } } : State) = u
  have hclear : u.boot.flr = false := by rw [← hu]
  have hop : u.que.op = s.que.op := by rw [← hu]
  have hrel : Onward False True u.createAfterFlr u.createAfterFlr.released := (Onward.refl _).released
  refine ⟨(congrArg BootSt.flr (hrel.boot.trans State.createAfterFlr_boot)).trans hclear, fun hnone => hrel.op ?_⟩
  rw [State.createAfterFlr, hop, hnone]
  exact hop.trans hnone

theorem functionResets : Claims.FunctionResets :=
  ⟨fun _ => hotReset_completes, fun _ => flr_completes, fun _ => flrComplete_completes⟩

end

/-- Settles O16: each reset runs the steps of R144, which end every channel, break the locks and keep what the device has committed. -/
theorem theFunctionIsReset : Obligations.TheFunctionIsReset := ⟨fundamentalReset, functionResets, configRequestAnswers⟩

end Sys2Proof.Machine
end

section
/-!
PROOFS. The loss of the link (R130, R151, R163, R170).
-/

namespace Sys2Proof.Machine
open Sys2Proof.Claims

section
variable {s t : State}

/-! ### What the loss of the link ends (R170) -/

theorem Onward.endReads {p q : Prop} {z : State} (h : Onward p q z s) : Onward p q z s.endReads := by
  have hanswered (l : List Tag) : Onward p q z (l.foldl (fun t x => match x.who with
      | .satRead m | .satAtomic m => if x.sunk then t else t.splitAnswer m none
      | _ => t) s) := h.foldl l fun t x ht => by
    split
    · exact .ite ht ht.splitAnswer
    · exact .ite ht ht.splitAnswer
    · exact ht
  exact (hanswered _).trans { (refl (p := p) (q := q) _) with tags := fun _ _ => rfl }

/-- The reads and the queues have ended, and the locks of the host are broken. -/
def State.linkWorkEnded (s : State) : State :=
  ((s.sinkHostReads.endReads.dropStagedInto Reg.HST_LL_DROP).killQueues.fldRequestsEnd).breakLocks isHostOwner

/-- HST_LINK_STS of a link in Detect. -/
def State.linkLowered (s : State) : State := s.wr Reg.HST_LINK_STS (s.rd Reg.HST_LINK_STS &&& 0x10000)

/-- The link is in Detect and configuration space has its values of a reset; HST_LL_STS.DOWN is set. -/
def State.linkDropped (s : State) : State :=
  let t := (s.linkDetect.resetConfig true).setBit Reg.HST_LL_STS 1 true
  { t with link := { t.link with holdDue := policyHold t.arm.plnImage } }

theorem State.surpriseDown_eq (h : s.linkUp = true) : s.surpriseDown = s.linkWorkEnded.linkDropped.raiseLink 1 :=
  if_neg (by rw [h]; decide)

theorem State.surpriseDown_of_down (h : s.linkUp = false) : s.surpriseDown = s := if_pos (by rw [h]; rfl)

/-- Up to the locks, the reads and the queues end and nothing else does. -/
theorem State.linkWorkEnded_eq : ∃ u, Onward True False s u ∧ u.txn.tags = [] ∧ (∀ q, (u.queue q).state ≠ .enabled) ∧
    s.linkWorkEnded = u.breakLocks isHostOwner := by
  have hread : Onward True False s s.sinkHostReads.endReads := (Onward.refl s).sinkHostReads.endReads
  have hnone : s.sinkHostReads.endReads.txn.tags = [] := rfl
  have hdropped := (Onward.refl (p := True) (q := False) s.sinkHostReads.endReads).dropStagedInto (k := Reg.HST_LL_DROP) (by decide)
  have htags := hdropped.tags (.inl trivial) hnone
  unfold State.linkWorkEnded
  generalize State.dropStagedInto _ _ = v at hdropped htags
  have hended : Onward True False v v.killQueues.fldRequestsEnd := (Onward.refl v).killQueues.fldRequestsEnd
  have hfield : Onward True False v.killQueues v.killQueues.fldRequestsEnd := (Onward.refl _).fldRequestsEnd
  exact ⟨_, (hread.trans hdropped).trans hended, hended.tags (.inl trivial) htags,
    fun q hq => State.killQueues_disabled q (hfield.queue q hq), rfl⟩

/-- What follows the end of the work leaves it so; the link is in Detect. -/
theorem State.linkDropped_lowered : Onward True True s.linkLowered (s.linkDropped.raiseLink 1) := by
  have hset : Onward True True s.linkLowered ((s.linkDetect.resetConfig true).setBit Reg.HST_LL_STS 1 true) :=
    State.linkDetect_shown.resetConfig.setBit (by decide)
  exact hset.setLinkSt.raiseLink (by decide)

theorem State.raiseLink_settled {b : Nat} (hb : b < 72) : Settled (s.setBit Reg.HST_LINK_EVT b true) (s.raiseLink b) :=
  (Settled.refl _).raise (by omega)

theorem State.raiseLink_bit {b : Nat} (hb : b < 18) : (s.raiseLink b).bit Reg.HST_LINK_EVT b = true :=
  (congrArg (·.getLsbD b) ((State.raiseLink_settled (by omega)).rd Reg.HST_LINK_EVT (by decide))).trans (State.setBit_bit_self hb)

theorem State.raiseLink_rd {b k : Nat} (hb : b < 72) (hk : refusalReg k = false) (hne : k ≠ Reg.HST_LINK_EVT) :
    (s.raiseLink b).rd k = s.rd k := ((State.raiseLink_settled hb).rd k hk).trans (State.setBit_rd_ne _ hne _ _)

theorem State.linkDropped_down : (s.linkDropped).bit Reg.HST_LL_STS 1 = true := State.setBit_bit_self (by decide)

/-- What the loss of a link that was up leaves (R170). -/
structure LinkLost (s t : State) : Prop where
  down : t.linkUp = false
  ltssm : t.ltssm = 0
  lost : t.bit Reg.HST_LL_STS 1 = true
  event : t.bit Reg.HST_LINK_EVT 1 = true
  queues : ∀ q, (t.queue q).state ≠ .enabled
  tags : t.txn.tags = []
  locks : ∀ n, n < 64 → (s.lock n).owner = some (.req .host) → t.lock n = { owner := none, broken := true }
  chn : ∀ k, (t.chn k).state = (s.chn k).state
  boot : t.boot = s.boot
  ready : t.nrg.ready = s.nrg.ready
  clock : ∀ b, t.bit Reg.CLK_STS b = s.bit Reg.CLK_STS b

theorem State.surpriseDown_lost (h : s.linkUp = true) : LinkLost s s.surpriseDown := by
  rw [State.surpriseDown_eq h]
  obtain ⟨u, hu, htags, hqueues, he⟩ := State.linkWorkEnded_eq (s := s)
  have hends : Ends True u s.linkWorkEnded := he ▸ (Ends.refl u).breakLocks
  have htxn : s.linkWorkEnded.txn = u.txn := by rw [he]; exact u.breakLocks_keeps State.txn fun _ _ _ => rfl
  have hlock (n : Nat) (hn : n < 64) (ho : (s.lock n).owner = some (.req .host)) : s.linkWorkEnded.lock n = brokenLock := by
    have hown : u.lock n = s.lock n := by rw [State.lock, hu.locks, State.lock]
    rw [he, State.breakLocks_lock, hown, if_pos ⟨hn, by rw [ho]; rfl⟩]
  clear he
  generalize s.linkWorkEnded = v at hends htxn hlock
  have hon := State.linkDropped_lowered (s := v)
  have hshut : v.linkDetect.ltssm = 0 := State.linkDetect_ltssm
  have hlowered : v.linkLowered.linkUp = false := State.wrLinkDown_linkUp
  obtain ⟨-, -, hboot, -, -, -, -, hnrg⟩ := State.core_eq_iff.1 hends.core
  refine ⟨hon.down hlowered, ?_, ?_, State.raiseLink_bit (by decide), fun q hq => ?_, ?_, fun n hn ho => ?_, fun k => ?_, ?_, ?_,
    fun b => ?_⟩
  · exact ((hon.ltssm trivial hlowered).trans (State.linkDetect_shown.ltssm trivial hlowered).symm).trans hshut
  · rw [State.bit, State.raiseLink_rd (by decide) (by decide) (by decide)]
    exact State.linkDropped_down
  · exact hqueues q (hends.queue q (hon.queue q hq))
  · exact hon.tags (.inl trivial) ((congrArg TxnSt.tags htxn).trans htags)
  · rw [State.lock, hon.locks]
    exact hlock n hn ho
  · rw [(hon.chn k).1, ← (hu.chn k).1]
    exact congrArg (fun c => (Tab.get {} c k).state) (hends.chans trivial)
  · exact hon.boot.trans (hboot.trans hu.boot)
  · exact (hon.ready trivial).trans ((congrArg NrgSt.ready hnrg).trans (hu.ready trivial))
  · refine (hon.plinth rfl b).trans (((State.wr_bit_other (by decide)).trans ?_).trans (hu.plinth rfl b))
    rw [State.bit, State.rd_of_regs hends.regs, State.bit]

/-- A link that was down stays so: nothing happens. -/
theorem State.surpriseDown_keeps : s.surpriseDown.boot = s.boot ∧ ∀ b, s.surpriseDown.bit Reg.CLK_STS b = s.bit Reg.CLK_STS b := by
  cases h : s.linkUp with
  | true => exact ⟨(State.surpriseDown_lost h).boot, (State.surpriseDown_lost h).clock⟩
  | false =>
    rw [State.surpriseDown_of_down h]
    exact ⟨rfl, fun _ => rfl⟩

/-! ### REFCLK (R130, R163) -/

/-- REFCLK has stopped. -/
def State.clockGone (s : State) : State := { s with boot := { s.boot with refclk := false } }.setBit Reg.CLK_STS 2 false

theorem State.refclkStop_eq : s.refclkStop =
    if s.ltssm = 5 ∧ s.bit Reg.HST_LINK_STS 15 = true then s.clockGone else s.clockGone.surpriseDown := by
  have hrd : s.clockGone.rd Reg.HST_LINK_STS = s.rd Reg.HST_LINK_STS := State.setBit_rd_ne _ (by decide) _ _
  have hstate : s.clockGone.ltssm = s.ltssm := congrArg (fieldOf · 0 3) hrd
  have hsleep : s.clockGone.bit Reg.HST_LINK_STS 15 = s.bit Reg.HST_LINK_STS 15 := congrArg (·.getLsbD 15) hrd
  rw [← hstate, ← hsleep]
  rfl

theorem refclkStop_completes (s : State) :
    Completes .refclkStop s fun t =>
      t.boot.refclk = false ∧ t.bit Reg.CLK_STS 2 = false ∧
      (s.linkUp = true → ¬(s.ltssm = 5 ∧ s.bit Reg.HST_LINK_STS 15 = true) → t.linkUp = false ∧ t.bit Reg.HST_LINK_EVT 1 = true) ∧
      (s.ltssm = 5 → s.bit Reg.HST_LINK_STS 15 = true → t.linkUp = s.linkUp) := by
  refine ⟨_, rfl, ?_⟩
  rw [State.refclkStop_eq]
  have hgone : s.clockGone.bit Reg.CLK_STS 2 = false := State.setBit_bit_self (by decide)
  have hup : s.clockGone.linkUp = s.linkUp := State.setBit_bit_other (by decide)
  split
  case isTrue h => exact ⟨rfl, hgone, fun _ hno => absurd h hno, fun _ _ => hup⟩
  case isFalse hno =>
    obtain ⟨hboot, hclk⟩ := State.surpriseDown_keeps (s := s.clockGone)
    refine ⟨congrArg BootSt.refclk hboot, (hclk 2).trans hgone, fun hlink _ => ?_, fun h5 h15 => absurd ⟨h5, h15⟩ hno⟩
    have hlost := State.surpriseDown_lost (hup.trans hlink)
    exact ⟨hlost.down, hlost.event⟩

/-! ### Recovery (R162, R163, R166) -/

/-- Waking concerns the island alone. -/
theorem State.wake_keeps {β : Type} (view : State → β) (i : Island) (hv : ∀ (t : State) x, view (t.setIsland i x) = view t) :
    view (s.wake i) = view s := by
  unfold State.wake
  dsimp only
  split
  · exact hv _ _
  · split
    · rfl
    · split
      · exact hv _ _
      · exact hv _ _
      · rfl

theorem State.wake_rd (i : Island) (k : Nat) : (s.wake i).rd k = s.rd k := State.wake_keeps (State.rd · k) i fun _ _ => rfl

theorem State.toRecovery_link : s.toRecovery.rd Reg.HST_LINK_STS = withField (withField (s.rd Reg.HST_LINK_STS) 0 3 4) 13 3 0 :=
  (State.wr_rd_ne _ (by decide) _).trans ((State.wr_rd_self _ _ _).trans (congrArg (withField · 13 3 0) (State.wr_rd_self _ _ _)))

theorem State.toRecovery_ltssm : s.toRecovery.ltssm = 4 := by
  rw [State.ltssm, State.fld, State.toRecovery_link, fieldOf_withField_of_disjoint (by decide), fieldOf_withField_self (by decide)]
  rfl

theorem State.toRecovery_asleep : s.toRecovery.bit Reg.HST_LINK_STS 15 = false := by
  rw [State.bit, State.toRecovery_link, getLsbD_withField]
  exact Nat.zero_testBit _

/-- Each Recovery is counted. -/
theorem State.toRecovery_count : s.toRecovery.rd Reg.HST_RECOV_CNT = satAdd (s.rd Reg.HST_RECOV_CNT) 1 := by
  refine (State.wr_rd_self _ _ _).trans (congrArg (satAdd · 1) ?_)
  rw [State.setFld_rd_ne _ (by decide), State.setFld_rd_ne _ (by decide)]

theorem State.toRecovery_rd {k : Nat} (hk : k ≠ Reg.HST_LINK_STS) (hcount : k ≠ Reg.HST_RECOV_CNT) : s.toRecovery.rd k = s.rd k :=
  (State.wr_rd_ne _ hcount _).trans ((State.setFld_rd_ne _ hk _ _ _).trans (State.setFld_rd_ne _ hk _ _ _))

theorem State.exitL1_eq (h : s.ltssm = 5) : s.exitL1 = (s.wake .hst).toRecovery := if_pos h

/-- REFCLK runs, and enables HST. -/
def State.clockSeen (s : State) : State :=
  ({ s with boot := { s.boot with refclk := true, refclkSeenEver := true } }.setBit Reg.CLK_STS 2 true).enableHst

theorem State.enableHst_rd {k : Nat} (hk : k ≠ Reg.PLN_ISL_EN) : s.enableHst.rd k = s.rd k := by
  unfold State.enableHst
  split
  · exact (State.islandEnabled_rd .hst k).trans (State.setBit_rd_ne _ hk _ _)
  · rfl

theorem State.clockSeen_rd {k : Nat} (hen : k ≠ Reg.PLN_ISL_EN) (hclk : k ≠ Reg.CLK_STS) : s.clockSeen.rd k = s.rd k :=
  (State.enableHst_rd hen).trans (State.setBit_rd_ne _ hclk _ _)

theorem State.clockSeen_clk : s.clockSeen.bit Reg.CLK_STS 2 = true := by
  rw [State.clockSeen, State.bit, State.enableHst_rd (by decide)]
  exact State.setBit_bit_self (by decide)

theorem State.refclkStart_eq : s.refclkStart =
    if s.ltssm = 5 ∧ s.bit Reg.HST_LINK_STS 15 = true then { s.clockSeen with link := { s.clockSeen.link with clkreq := true } }.exitL1
    else s.clockSeen := by
  have hrd : s.clockSeen.rd Reg.HST_LINK_STS = s.rd Reg.HST_LINK_STS := State.clockSeen_rd (by decide) (by decide)
  have hstate : s.clockSeen.ltssm = s.ltssm := congrArg (fieldOf · 0 3) hrd
  have hsleep : s.clockSeen.bit Reg.HST_LINK_STS 15 = s.bit Reg.HST_LINK_STS 15 := congrArg (·.getLsbD 15) hrd
  rw [← hstate, ← hsleep]
  rfl

theorem State.wake_boot (i : Island) : (s.wake i).boot = s.boot := State.wake_keeps State.boot i fun _ _ => rfl

theorem State.wake_link (i : Island) : (s.wake i).link = s.link := State.wake_keeps State.link i fun _ _ => rfl

theorem refclkStart_completes (s : State) :
    Completes .refclkStart s fun t =>
      t.boot.refclk = true ∧ t.bit Reg.CLK_STS 2 = true ∧
      (s.ltssm = 5 → s.bit Reg.HST_LINK_STS 15 = true → t.link.clkreq = true ∧ t.ltssm = 4) := by
  refine ⟨_, rfl, ?_⟩
  have hboot : s.clockSeen.boot.refclk = true := congrArg BootSt.refclk State.enableHst_boot
  have hclk := State.clockSeen_clk (s := s)
  have hrd : s.clockSeen.rd Reg.HST_LINK_STS = s.rd Reg.HST_LINK_STS := State.clockSeen_rd (by decide) (by decide)
  rw [State.refclkStart_eq]
  split
  case isFalse hno => exact ⟨hboot, hclk, fun h5 h15 => absurd ⟨h5, h15⟩ hno⟩
  case isTrue h =>
    generalize hu : ({ s.clockSeen with link := { s.clockSeen.link with clkreq := true } } : State) = u
    have h5 : u.ltssm = 5 := by
      rw [← hu]
      exact (congrArg (fieldOf · 0 3) hrd).trans h.1
    have hreq : u.link.clkreq = true := by rw [← hu]
    have hon : Onward True True u (u.wake .hst) := (Onward.refl u).wake
    rw [State.exitL1_eq h5]
    refine ⟨?_, ?_, fun _ _ => ⟨(congrArg LinkSt.clkreq (State.wake_link .hst)).trans hreq, State.toRecovery_ltssm⟩⟩
    · rw [← hboot, show s.clockSeen.boot = u.boot by rw [← hu], ← State.wake_boot (s := u) .hst]
      rfl
    · rw [← hclk, show s.clockSeen.bit Reg.CLK_STS 2 = u.bit Reg.CLK_STS 2 by rw [← hu]; rfl]
      rw [State.bit, State.toRecovery_rd (by decide) (by decide), State.wake_rd, State.bit]

/-! ### REDETECT (R170, R173) -/

/-- A bit that a write leaves as it stands stays. -/
theorem getLsbD_mergeWrite_of_eq {r : RegRow} {old v : Word} {b : Nat} (hclr : r.w1c = 0) (hv : v.getLsbD b = old.getLsbD b) :
    (mergeWrite r old v).getLsbD b = old.getLsbD b := by
  simp only [mergeWrite, hclr, BitVec.getLsbD_and, BitVec.getLsbD_or, BitVec.getLsbD_not, hv]
  by_cases hb : b < 18
  · cases r.writable.getLsbD b <;> simp [hb, word]
  · simp [hb, BitVec.getLsbD_of_ge old b (Nat.le_of_not_lt hb)]

/-- One bit set in a register's word leaves the other bits of what the write stores. -/
theorem getLsbD_mergeWrite_withField {r : RegRow} {old : Word} {b c n : Nat} (hclr : r.w1c = 0) (h : c ≠ b) :
    (mergeWrite r old (withField old b 1 n)).getLsbD c = old.getLsbD c :=
  getLsbD_mergeWrite_of_eq hclr (by rw [getLsbD_withField, if_neg (by omega)])

theorem unguarded_phyCtl : Unguarded Reg.HST_PHY_CTL :=
  ⟨by decide, rfl, rfl, rfl, fun _ => rfl, rfl, fun _ => rfl, fun _ _ => rfl, by decide⟩

/-- What a write of HST_PHY_CTL stores: TESTMODE is not the host's to set. -/
def phyKept (req : Requester) (old new : Word) : Word :=
  if req = .host then withField new 6 1 (flag (old.getLsbD 6 && new.getLsbD 6)) else new

theorem writeJudged_phyCtl (req : Requester) (old v new : Word) :
    s.writeJudged Reg.HST_PHY_CTL req old v new = .ok (phyKept req old new) := by
  cases req with
  | host => rfl
  | monitor => rfl
  | sat0 => rfl
  | sat1 => rfl

/-- The state in which HST_PHY_CTL holds its new value. -/
def State.phyStored (s : State) (req : Requester) (v fin : Word) : State :=
  ((s.onBus (busActivity (regAcc req Reg.HST_PHY_CTL v))).wr Reg.HST_PHY_CTL fin).reparity Reg.HST_PHY_CTL

/-- REDETECT outside the test mode. -/
theorem State.directStored_phyCtl {req : Requester} {v fin : Word} (hold : s.bit Reg.HST_PHY_CTL 6 = false) (hfin : fin.getLsbD 6 = false)
    (hwant : (mergeWrite (rowOf Reg.HST_PHY_CTL) (s.rd Reg.HST_PHY_CTL) v).getLsbD 6 = false) (hv : v.getLsbD 5 = true) :
    s.directStored req Reg.HST_PHY_CTL v fin = (s.phyStored req v fin).redetectOp := by
  have hhook (u : State) (w : Written) (hold : w.old.getLsbD 6 = false) (hnew : w.new.getLsbD 6 = false) (hwant : w.want.getLsbD 6 = false)
      (hv : w.v.getLsbD 5 = true) : u.phyHook w = u.redetectOp := by
    unfold State.phyHook
    simp only [hold, hnew, hwant, hv, Bool.false_and, Bool.and_false, Bool.false_eq_true, false_and, and_false, if_true, if_false]
  exact hhook (s.phyStored req v fin) _ hold hfin hwant hv

/-- The write itself leaves the link and its work. -/
theorem State.phyStored_onward {req : Requester} {v fin : Word} : Onward True True s (s.phyStored req v fin) :=
  ((((Onward.refl s).upd (by rfl)).wr (k := Reg.HST_PHY_CTL) (by decide)).upd (by rfl))

theorem redetect_completes {req : Requester} (hup : s.linkUp = true)
    (hopen : s.openFor (regAcc req Reg.HST_PHY_CTL (withField (s.rd Reg.HST_PHY_CTL) 5 1 1)) .hst = true)
    (hres : s.rd Reg.HST_PHY_CTL &&& (rowOf Reg.HST_PHY_CTL).reservedBits = 0) (htest : s.bit Reg.HST_PHY_CTL 6 = false) :
    ∃ u, Onward True True s u ∧ Completes (.redetect req) s fun t => ∃ m, u.linkUp = true ∧ t = u.surpriseDown.withMon m := by
  generalize hv : withField (s.rd Reg.HST_PHY_CTL) 5 1 1 = v at hopen
  have hwant : (mergeWrite (rowOf Reg.HST_PHY_CTL) (s.rd Reg.HST_PHY_CTL) v).getLsbD 6 = false := by
    rw [← hv, getLsbD_mergeWrite_withField rfl (by decide)]
    exact htest
  have hgo : v.getLsbD 5 = true := by
    rw [← hv]
    exact getLsbD_withField_flag _ 5 (by decide) true
  have hresv : v &&& (rowOf Reg.HST_PHY_CTL).reservedBits = 0 := hv ▸ withField_bit_and hres rfl
  have hold : (s.rd Reg.HST_PHY_CTL).getLsbD 6 = false := htest
  generalize hf : phyKept req (s.rd Reg.HST_PHY_CTL) (mergeWrite (rowOf Reg.HST_PHY_CTL) (s.rd Reg.HST_PHY_CTL) v) = fin
  have hfin : fin.getLsbD 6 = false := by
    rw [← hf, phyKept, hold, Bool.false_and]
    split
    · exact getLsbD_withField_flag _ 6 (by decide) false
    · exact hwant
  have hstored := State.directStored_phyCtl (req := req) htest hfin hwant hgo
  have hon := State.phyStored_onward (s := s) (req := req) (v := v) (fin := fin)
  have hmode : (s.phyStored req v fin).bit Reg.HST_PHY_CTL 6 = false := State.wr_bit_self.trans hfin
  have hw := State.writeReg_unguarded (fin := fin) unguarded_phyCtl hopen hresv (by rw [writeJudged_phyCtl, hf])
  rw [hstored] at hw
  generalize s.phyStored req v fin = u at hw hon hmode
  have hlink : u.linkUp = true := (hon.linkUp trivial).trans hup
  have hop : u.redetectOp = u.surpriseDown := (if_neg (by rw [hmode]; decide)).trans (if_pos hlink)
  rw [hop] at hw
  obtain ⟨m, hm⟩ := hw ((State.surpriseDown_lost hlink).ready.trans (hon.ready trivial))
  exact ⟨u, hon, _, rfl, m, hlink, hv ▸ hm⟩

/-- The loss of a link is told from the state that the loss meets. -/
theorem LinkLost.of_onward {u : State} (g : LinkLost u t) (h : Onward True True s u) : LinkLost s t where
  down := g.down
  ltssm := g.ltssm
  lost := g.lost
  event := g.event
  queues := g.queues
  tags := g.tags
  locks n hn ho := g.locks n hn (by rw [State.lock, h.locks]; exact ho)
  chn k := (g.chn k).trans (h.chn k).1
  boot := g.boot.trans h.boot
  ready := g.ready.trans (h.ready trivial)
  clock b := (g.clock b).trans (h.plinth rfl b)

/-- What R170 says of the loss. -/
theorem LinkLost.shown (h : LinkLost s t) : t.linkUp = false ∧ t.ltssm = 0 ∧ t.bit Reg.HST_LL_STS 1 = true ∧
    t.bit Reg.HST_LINK_EVT 1 = true ∧ (∀ q, (t.queue q).state ≠ .enabled) ∧ t.txn.tags = [] ∧
    (∀ n, n < 64 → (s.lock n).owner = some (.req .host) → t.lock n = { owner := none, broken := true }) ∧
    (∀ k, (t.chn k).state = (s.chn k).state) :=
  ⟨h.down, h.ltssm, h.lost, h.event, h.queues, h.tags, h.locks, h.chn⟩

theorem linkIsLost : Claims.LinkIsLost := by
  refine ⟨refclkStart_completes, refclkStop_completes, fun s c hup hc => ?_⟩
  rcases hc with ⟨rfl, hperst⟩ | ⟨req, rfl, hopen, hres, htest⟩
  · refine ⟨_, rfl, ?_⟩
    rw [if_pos hperst]
    exact (State.surpriseDown_lost hup).shown
  · obtain ⟨u, hon, t, hexec, m, hlink, rfl⟩ := redetect_completes hup hopen hres htest
    have hlost : LinkLost s u.surpriseDown := (State.surpriseDown_lost hlink).of_onward hon
    exact ⟨_, hexec, hlost.shown⟩

end

end Sys2Proof.Machine
end

section
/-!
PROOFS. The sleep of the link and its end, and the LTR messages (R161 to R165); the settling of O21.
-/

namespace Sys2Proof.Machine
open Sys2Proof.Claims

section
variable {s t : State}

/-! ### L0s and L1 (R161, R162) -/

theorem State.inL0_iff : s.inL0 = true ↔ s.linkUp = true ∧ s.ltssm = 3 := by
  rw [State.inL0, Bool.and_eq_true, decide_eq_true_eq, State.ltssm]

/-- A sleep of the link writes what it writes; a pause of the eye scan is noted beside it. -/
theorem State.eyePause_keeps {β : Type} (view : State → β) (enter : State → State)
    (hv : ∀ (u : State) x, view { u with link := x } = view u) :
    view (s.eyePause enter) = view (enter s) := by
  unfold State.eyePause
  dsimp only
  split
  · exact hv _ _
  · rfl

theorem State.eyePause_clkreq (enter : State → State) : (s.eyePause enter).link.clkreq = (enter s).link.clkreq := by
  unfold State.eyePause
  dsimp only
  split
  · rfl
  · rfl

/-- Only HST_LINK_STS changes. -/
theorem sameRegsBut_link (hregs : ∀ j, j ≠ Reg.HST_LINK_STS → t.rd j = s.rd j) (hsram : t.sram = s.sram) (hpending : t.pending = s.pending) :
    SameRegsBut s t (fun k => decide (k = Reg.HST_LINK_STS)) :=
  ⟨fun j hj => hregs j (of_decide_eq_false hj), State.sramW_of_sram hsram, hpending⟩

/-- The link sleeps in the direction of bit `b` of HST_LINK_STS. -/
theorem State.l0sOp_enters {b : Nat} (hl0 : s.inL0 = true) (hon : s.isOn .hst = true) (haspm : s.aspmL0s = true)
    (hb : (if s.txL0sDue then 13 else 14) = b) (hlink : 3 ≤ b ∧ b < 18) :
    s.l0sOp.bit Reg.HST_LINK_STS b = true ∧ s.l0sOp.ltssm = 3 ∧ SameRegsBut s s.l0sOp (fun k => decide (k = Reg.HST_LINK_STS)) := by
  have hop : s.l0sOp = s.eyePause fun t => t.setBit Reg.HST_LINK_STS (if s.txL0sDue then 13 else 14) true :=
    if_neg (by rw [haspm, hl0, hon]; decide)
  have hregs (k : Nat) : s.l0sOp.rd k = (s.setBit Reg.HST_LINK_STS b true).rd k := by
    rw [hop, hb, State.eyePause_keeps (State.rd · k) _ fun _ _ => rfl]
  refine ⟨?_, ?_, sameRegsBut_link (fun j hj => (hregs j).trans (State.setBit_rd_ne _ hj _ _)) ?_ ?_⟩
  · rw [State.bit, hregs]
    exact State.setBit_bit_self hlink.2
  · rw [State.ltssm, State.fld, hregs, State.setBit_rd_self, fieldOf_withField_of_disjoint (.inl (by omega))]
    exact (State.inL0_iff.1 hl0).2
  · rw [hop, State.eyePause_keeps State.sram _ fun _ _ => rfl]
    rfl
  · rw [hop, State.eyePause_keeps State.pending _ fun _ _ => rfl]
    rfl

theorem l0sEntry_receiver (hl0 : s.inL0 = true) (hon : s.isOn .hst = true) (haspm : s.aspmL0s = true)
    (h : s.bit Reg.HST_LINK_STS 13 = true ∨ s.txWork = true) :
    Completes .l0sEntry s fun t =>
      t.bit Reg.HST_LINK_STS 14 = true ∧ t.ltssm = 3 ∧ SameRegsBut s t (fun k => decide (k = Reg.HST_LINK_STS)) := by
  have hdue : s.txL0sDue = false := by
    rcases h with h | h
    · simp [State.txL0sDue, h]
    · simp [State.txL0sDue, h]
  exact ⟨_, rfl, State.l0sOp_enters hl0 hon haspm (by rw [hdue]; rfl) (by decide)⟩

theorem l0sEntry_transmitter {a : Nat} (hl0 : s.inL0 = true) (hon : s.isOn .hst = true) (haspm : s.aspmL0s = true)
    (hawake : s.bit Reg.HST_LINK_STS 13 = false) (hidle : s.txWork = false) (hquiet : s.link.quietAt = some a)
    (hlong : a + 400 * max 1 (s.fld Reg.HST_L0S_IDLE 0 3) ≤ s.now)
    (hsent : s.link.sentAt + 400 * max 1 (s.fld Reg.HST_L0S_IDLE 0 3) ≤ s.now) :
    Completes .l0sEntry s fun t =>
      t.bit Reg.HST_LINK_STS 13 = true ∧ t.ltssm = 3 ∧ SameRegsBut s t (fun k => decide (k = Reg.HST_LINK_STS)) := by
  have hdue : s.txL0sDue = true := by
    simp only [State.txL0sDue, State.quietFor, State.passed, usTicks, hawake, hidle, hquiet, Option.any_some, Bool.not_false, Bool.true_and,
      Bool.and_eq_true, decide_eq_true_eq]
    exact ⟨hlong, hsent⟩
  exact ⟨_, rfl, State.l0sOp_enters hl0 hon haspm (by rw [hdue]; rfl) (by decide)⟩

/-- L1, or L1.1 where it is enabled, in which CLKREQ_N is released. -/
def State.inL1 (l11 : Bool) (s : State) : State :=
  let t := (s.setFld Reg.HST_LINK_STS 0 3 5).setFld Reg.HST_LINK_STS 13 3 (4 * flag l11)
  { t with link := { t.link with clkreq := !l11 } }

theorem State.inL1_link (l11 : Bool) :
    (s.inL1 l11).rd Reg.HST_LINK_STS = withField (withField (s.rd Reg.HST_LINK_STS) 0 3 5) 13 3 (4 * flag l11) :=
  (State.wr_rd_self _ _ _).trans (congrArg (withField · 13 3 (4 * flag l11)) (State.wr_rd_self _ _ _))

theorem State.inL1_rd {k : Nat} (l11 : Bool) (hk : k ≠ Reg.HST_LINK_STS) : (s.inL1 l11).rd k = s.rd k :=
  (State.setFld_rd_ne _ hk _ _ _).trans (State.setFld_rd_ne _ hk _ _ _)

theorem State.inL1_ltssm (l11 : Bool) : (s.inL1 l11).ltssm = 5 := by
  rw [State.ltssm, State.fld, State.inL1_link, fieldOf_withField_of_disjoint (by decide), fieldOf_withField_self (by decide)]
  rfl

/-- Only L1.1 shows in the bits of the sleeping directions. -/
theorem State.inL1_bits (l11 : Bool) : (s.inL1 l11).bit Reg.HST_LINK_STS 13 = false ∧ (s.inL1 l11).bit Reg.HST_LINK_STS 15 = l11 := by
  have hbit {b : Nat} (hb : 13 ≤ b ∧ b < 13 + 3 ∧ b < 18) : (s.inL1 l11).bit Reg.HST_LINK_STS b = (4 * flag l11).testBit (b - 13) := by
    rw [State.bit, State.inL1_link, getLsbD_withField, if_pos hb]
  rw [hbit (by decide), hbit (by decide)]
  cases l11 with
  | true => decide
  | false => decide

theorem l1Request_completes (hl0 : s.inL0 = true) (hon : s.isOn .hst = true) (hidle : s.txWork = false)
    (h : s.txn.d3hot = true ∨ s.aspmL1 = true ∧ ∃ a, s.link.quietAt = some a ∧ a + 400 * (s.rd Reg.HST_L1_IDLE).toNat ≤ s.now) :
    Completes .l1Request s fun t =>
      t.ltssm = 5 ∧ t.bit Reg.HST_LINK_STS 13 = false ∧ t.link.clkreq = !t.bit Reg.HST_LINK_STS 15 ∧
      SameRegsBut s t (fun k => decide (k = Reg.HST_LINK_STS)) := by
  have hwish : (s.txn.d3hot || (s.aspmL1 && s.quietFor (s.rd Reg.HST_L1_IDLE).toNat)) = true := by
    rcases h with h | ⟨haspm, a, hquiet, hlong⟩
    · rw [h, Bool.true_or]
    · have hlong : s.quietFor (s.rd Reg.HST_L1_IDLE).toNat = true := by
        rw [State.quietFor, hquiet]
        exact decide_eq_true hlong
      rw [haspm, hlong, Bool.and_true, Bool.or_true]
  have hop : ∃ l11, s.l1Op = s.eyePause (State.inL1 l11) := ⟨_, if_pos (by rw [hwish, hl0, hon, hidle]; rfl)⟩
  obtain ⟨l11, hop⟩ := hop
  have hregs (k : Nat) : s.l1Op.rd k = (s.inL1 l11).rd k := by
    rw [hop, State.eyePause_keeps (State.rd · k) _ fun _ _ => rfl]
  have hbit (b : Nat) : s.l1Op.bit Reg.HST_LINK_STS b = (s.inL1 l11).bit Reg.HST_LINK_STS b := congrArg (·.getLsbD b) (hregs _)
  obtain ⟨h13, h15⟩ := State.inL1_bits (s := s) l11
  refine ⟨_, rfl, ?_, (hbit 13).trans h13, ?_, sameRegsBut_link (fun j hj => (hregs j).trans (State.inL1_rd l11 hj)) ?_ ?_⟩
  · exact (congrArg (fieldOf · 0 3) (hregs _)).trans (State.inL1_ltssm l11)
  · rw [hbit, h15, hop, State.eyePause_clkreq]
    rfl
  · rw [hop, State.eyePause_keeps State.sram _ fun _ _ => rfl]
    rfl
  · rw [hop, State.eyePause_keeps State.pending _ fun _ _ => rfl]
    rfl

/-! ### The end of the sleep (R161, R163, R164) -/

/-- HST wakes from DOZE where nothing forbids it. -/
theorem State.wake_waking {i : Island} (hpower : (s.island i).power = .doze) (hdrain : (s.island i).drain = none)
    (h : s.wakeForbidden i = false) :
    ((s.wake i).island i).waking = true := by
  have hwake : s.wake i = s.setIsland i { s.island i with waking := true } := by
    simp only [State.wake, hdrain, h, hpower, Option.isSome_none, Bool.false_eq_true, if_false]
  rw [hwake, State.setIsland_island_self]

theorem electricalIdleExit_l1 (h5 : s.ltssm = 5) (h15 : s.bit Reg.HST_LINK_STS 15 = false) :
    Completes .electricalIdleExit s fun t =>
      t.ltssm = 4 ∧ t.rd Reg.HST_RECOV_CNT = satAdd (s.rd Reg.HST_RECOV_CNT) 1 ∧
      ((s.island .hst).power = .doze → (s.island .hst).drain = none → s.wakeForbidden .hst = false → (t.island .hst).waking = true) := by
  have hop : s.idleExit = (s.wake .hst).toRecovery :=
    (if_pos h5).trans ((if_neg (by rw [h15]; decide)).trans (State.exitL1_eq h5))
  refine ⟨_, rfl, ?_⟩
  rw [hop]
  refine ⟨State.toRecovery_ltssm, ?_, fun hpower hdrain hfree => State.wake_waking hpower hdrain hfree⟩
  rw [State.toRecovery_count, State.wake_rd]

theorem electricalIdleExit_l0 (hl0 : s.inL0 = true) :
    Completes .electricalIdleExit s fun t =>
      t.bit Reg.HST_LINK_STS 14 = false ∧ SameRegsBut s t (fun k => decide (k = Reg.HST_LINK_STS)) := by
  have hop : s.idleExit = s.setBit Reg.HST_LINK_STS 14 false :=
    (if_neg (by rw [(State.inL0_iff.1 hl0).2]; decide)).trans (if_pos hl0)
  refine ⟨_, rfl, ?_⟩
  rw [hop]
  exact ⟨State.setBit_bit_self (by decide), sameRegsBut_link (fun j hj => State.setBit_rd_ne _ hj _ _) rfl rfl⟩

/-- In L1.1 CLKREQ_N is asserted first. -/
theorem l11Exit_completes (h5 : s.ltssm = 5) (h15 : s.bit Reg.HST_LINK_STS 15 = true) :
    Completes .l11Exit s fun t =>
      t.link.clkreq = true ∧ (s.boot.refclk = false → t.ltssm = 5) ∧
      (s.boot.refclk = true → t.ltssm = 4 ∧ t.bit Reg.HST_LINK_STS 15 = false ∧
        t.rd Reg.HST_RECOV_CNT = satAdd (s.rd Reg.HST_RECOV_CNT) 1) := by
  have hop : s.l11Exit = if s.boot.refclk then ({ s with link := { s.link with clkreq := true } } : State).exitL1
      else ({ s with link := { s.link with clkreq := true } } : State).wake .hst := if_pos ⟨h5, h15⟩
  refine ⟨_, rfl, ?_⟩
  rw [hop]
  generalize hu : ({ s with link := { s.link with clkreq := true } } : State) = u
  have hreq : u.link.clkreq = true := by rw [← hu]
  have hstate : u.ltssm = 5 := by
    rw [← hu]
    exact h5
  have hcount : u.rd Reg.HST_RECOV_CNT = s.rd Reg.HST_RECOV_CNT := by
    rw [← hu]
    rfl
  have hasserted : (u.wake .hst).link.clkreq = true := (congrArg LinkSt.clkreq (State.wake_link .hst)).trans hreq
  cases hclk : s.boot.refclk with
  | true =>
    rw [if_pos rfl, State.exitL1_eq hstate]
    refine ⟨hasserted, fun hno => absurd hno (by decide), fun _ => ⟨State.toRecovery_ltssm, State.toRecovery_asleep, ?_⟩⟩
    rw [State.toRecovery_count, State.wake_rd, hcount]
  | false =>
    rw [if_neg (by decide)]
    refine ⟨hasserted, fun _ => ?_, fun hno => absurd hno (by decide)⟩
    rw [State.ltssm, State.fld, State.wake_rd]
    exact hstate

/-! ### LTR messages (R165) -/

theorem State.flr_of_canSend (h : s.canSend = true) : s.boot.flr = false := by
  simp only [State.canSend, Bool.and_eq_true, Bool.not_eq_true'] at h
  exact h.1.2

theorem State.sendLtr_link (us : Nat) : (s.sendLtr us).link.ltrLast = us ∧ (s.sendLtr us).link.ltrAt = some s.now := by
  unfold State.sendLtr State.send
  dsimp only
  split
  · exact ⟨rfl, rfl⟩
  · split
    · exact ⟨rfl, rfl⟩
    · exact ⟨rfl, rfl⟩

theorem Onward.sendLtr {p q : Prop} {z : State} {us : Nat} (h : Onward p q z s) : Onward p q z (s.sendLtr us) := by
  have hnoted : Onward p q z { s with link := { s.link with ltrLast := us, ltrAt := some s.now, ltrDue := false } } := h.upd rfl
  exact hnoted.send

theorem State.sendLtr_sent (h : s.canSend = true) (us : Nat) : (s.sendLtr us).sent = Output.ltr us :: s.sent :=
  State.send_sent (s := { s with link := { s.link with ltrLast := us, ltrAt := some s.now, ltrDue := false } }) (State.flr_of_canSend h)

/-- AUTO sends where the time and the value ask for it. -/
theorem State.ltrAuto_eq (hen : s.ltrEn = true) (hcan : s.canSend = true) (hauto : s.bit Reg.HST_LTR_CTL 0 = true) :
    s.ltrAuto = match s.link.ltrAt with
      | none => s.sendLtr s.ltrValue
      | some a =>
        if decide (s.link.ltrLast < 4 * (s.ltrValue - s.link.ltrLast) ∨ s.link.ltrLast < 4 * (s.link.ltrLast - s.ltrValue)) &&
          s.passed a (msTicks 1) then s.sendLtr s.ltrValue else s :=
  if_neg (by rw [hauto, hen, hcan]; decide)

theorem ltrAutoSend_first (hen : s.ltrEn = true) (hcan : s.canSend = true) (hauto : s.bit Reg.HST_LTR_CTL 0 = true)
    (hnone : s.link.ltrAt = none) :
    Completes .ltrAutoSend s fun t => t.sent = Output.ltr s.ltrValue :: s.sent ∧ t.link.ltrLast = s.ltrValue := by
  refine ⟨_, rfl, ?_⟩
  rw [State.ltrAuto_eq hen hcan hauto, hnone]
  exact ⟨State.sendLtr_sent hcan _, (State.sendLtr_link _).1⟩

theorem ltrAutoSend_grown {a : Nat} (hen : s.ltrEn = true) (hcan : s.canSend = true) (hauto : s.bit Reg.HST_LTR_CTL 0 = true)
    (hlast : s.link.ltrAt = some a) (hlong : a + 400000 ≤ s.now) (hmoved : s.link.ltrLast < 4 * (s.ltrValue - s.link.ltrLast)) :
    Completes .ltrAutoSend s fun t => t.sent = Output.ltr s.ltrValue :: s.sent ∧ t.link.ltrAt = some s.now := by
  have hgo : (decide (s.link.ltrLast < 4 * (s.ltrValue - s.link.ltrLast) ∨ s.link.ltrLast < 4 * (s.link.ltrLast - s.ltrValue)) &&
      s.passed a (msTicks 1)) = true := by
    rw [Bool.and_eq_true, decide_eq_true_eq, State.passed, decide_eq_true_eq]
    exact ⟨.inl hmoved, hlong⟩
  refine ⟨_, rfl, ?_⟩
  rw [State.ltrAuto_eq hen hcan hauto, hlast]
  dsimp only
  rw [if_pos hgo]
  exact ⟨State.sendLtr_sent hcan _, (State.sendLtr_link _).2⟩

/-! ### SEND (R165) -/

theorem unguarded_ltrCtl : Unguarded Reg.HST_LTR_CTL :=
  ⟨by decide, rfl, rfl, rfl, fun _ => rfl, rfl, fun _ => rfl, fun _ _ => rfl, by decide⟩

/-- The state in which HST_LTR_CTL holds its new value. -/
def State.ltrStored (s : State) (req : Requester) (v fin : Word) : State :=
  ((s.onBus (busActivity (regAcc req Reg.HST_LTR_CTL v))).wr Reg.HST_LTR_CTL fin).reparity Reg.HST_LTR_CTL

theorem State.directStored_ltrCtl {req : Requester} {v fin : Word} (hv : v.getLsbD 1 = true) :
    s.directStored req Reg.HST_LTR_CTL v fin = (s.ltrStored req v fin).ltrSendOp := by
  have hhook (u : State) (w : Written) : u.hstHook Reg.HST_LTR_CTL w = if w.v.getLsbD 1 then u.ltrSendOp else u := rfl
  exact (hhook (s.ltrStored req v fin) _).trans (if_pos hv)

theorem State.ltrStored_rd {req : Requester} {v fin : Word} {k : Nat} (hk : k ≠ Reg.HST_LTR_CTL) : (s.ltrStored req v fin).rd k = s.rd k :=
  State.wr_rd_ne _ hk _

/-- The write itself leaves what the link can carry. -/
theorem State.ltrStored_canSend {req : Requester} {v fin : Word} : (s.ltrStored req v fin).canSend = s.canSend := by
  have hl0 : (s.ltrStored req v fin).inL0 = s.inL0 := by
    rw [State.inL0, State.inL0, State.linkUp, State.linkUp, State.bit, State.bit, State.fld, State.fld, State.ltrStored_rd (by decide)]
  rw [State.canSend, hl0, State.canSend]
  rfl

/-- The state that SEND meets: as the write of HST_LTR_CTL leaves it. -/
theorem ltrSend_meets {req : Requester} (hauto : s.bit Reg.HST_LTR_CTL 0 = false)
    (hres : s.rd Reg.HST_LTR_CTL &&& (rowOf Reg.HST_LTR_CTL).reservedBits = 0)
    (hopen : s.openFor (regAcc req Reg.HST_LTR_CTL (withField (s.rd Reg.HST_LTR_CTL) 1 1 1)) .hst = true) :
    ∃ v fin, (s.ltrStored req v fin).bit Reg.HST_LTR_CTL 0 = false ∧
      ((s.ltrStored req v fin).ltrSendOp.nrg.ready = s.nrg.ready →
        ∃ m, exec (.ltrSend req) s = .next ((s.ltrStored req v fin).ltrSendOp.withMon m)) := by
  generalize hv : withField (s.rd Reg.HST_LTR_CTL) 1 1 1 = v at hopen
  generalize hf : mergeWrite (rowOf Reg.HST_LTR_CTL) (s.rd Reg.HST_LTR_CTL) v = fin
  have hfin : fin.getLsbD 0 = false := by
    rw [← hf, ← hv, getLsbD_mergeWrite_withField rfl (by decide)]
    exact hauto
  have hgo : v.getLsbD 1 = true := by
    rw [← hv]
    exact getLsbD_withField_flag _ 1 (by decide) true
  have hresv : v &&& (rowOf Reg.HST_LTR_CTL).reservedBits = 0 := hv ▸ withField_bit_and hres rfl
  have hw := State.writeReg_unguarded (fin := fin) unguarded_ltrCtl hopen hresv (by rw [hf]; rfl)
  rw [State.directStored_ltrCtl hgo] at hw
  refine ⟨v, fin, State.wr_bit_self.trans hfin, fun hready => ?_⟩
  obtain ⟨m, hm⟩ := hw hready
  exact ⟨m, congrArg Host.Outcome.next (hv ▸ hm)⟩

theorem ltrSend_sends {req : Requester} (hen : s.ltrEn = true) (hcan : s.canSend = true) (hauto : s.bit Reg.HST_LTR_CTL 0 = false)
    (hres : s.rd Reg.HST_LTR_CTL &&& (rowOf Reg.HST_LTR_CTL).reservedBits = 0)
    (hopen : s.openFor (regAcc req Reg.HST_LTR_CTL (withField (s.rd Reg.HST_LTR_CTL) 1 1 1)) .hst = true) :
    Completes (.ltrSend req) s fun t => t.sent = Output.ltr (s.rd Reg.HST_LTR_US).toNat :: s.sent := by
  obtain ⟨v, fin, hmode, hexec⟩ := ltrSend_meets hauto hres hopen
  have hcan' := (State.ltrStored_canSend (s := s) (req := req) (v := v) (fin := fin)).trans hcan
  have hus : (s.ltrStored req v fin).rd Reg.HST_LTR_US = s.rd Reg.HST_LTR_US := State.ltrStored_rd (by decide)
  have henu : (s.ltrStored req v fin).ltrEn = true := hen
  have hsent : (s.ltrStored req v fin).sent = s.sent := rfl
  have hready : (s.ltrStored req v fin).nrg.ready = s.nrg.ready := rfl
  generalize s.ltrStored req v fin = u at hmode hexec hcan' hus henu hsent hready
  have hup : u.linkUp = true := by
    rw [State.canSend, State.inL0] at hcan'
    simp only [Bool.and_eq_true] at hcan'
    exact hcan'.1.1.1.1.1
  have hop : u.ltrSendOp = u.sendLtr (u.rd Reg.HST_LTR_US).toNat :=
    (if_neg (by rw [hmode, henu, hup]; decide)).trans (if_pos hcan')
  have hon : Onward True True u (u.sendLtr (u.rd Reg.HST_LTR_US).toNat) := (Onward.refl u).sendLtr
  rw [hop] at hexec
  obtain ⟨m, hm⟩ := hexec ((hon.ready trivial).trans hready)
  refine ⟨_, hm, (State.sendLtr_sent hcan' _).trans ?_⟩
  rw [hus, hsent]

/-- An LTR message is due. -/
def State.ltrAwaited (s : State) : State := { s with link := { s.link with ltrDue := true } }

/-- The exits from L1 leave what leaves the device, what waits for it, and the planner. -/
structure Exits (s t : State) : Prop where
  sent : t.sent = s.sent
  due : t.link.ltrDue = s.link.ltrDue
  ready : t.nrg.ready = s.nrg.ready

namespace Exits

variable {z s : State}

theorem wake {i : Island} (h : Exits z s) : Exits z (s.wake i) :=
  ⟨(State.wake_keeps State.sent i fun _ _ => rfl).trans h.sent, (congrArg LinkSt.ltrDue (State.wake_link i)).trans h.due,
    (State.wake_keeps (·.nrg.ready) i fun _ _ => rfl).trans h.ready⟩

theorem toRecovery (h : Exits z s) : Exits z s.toRecovery := ⟨h.sent, h.due, h.ready⟩

theorem leaveL1 (h : Exits z s) : Exits z s.leaveL1 := by
  unfold State.leaveL1
  split
  · exact h.wake.toRecovery
  · exact h

theorem clkreq (h : Exits z s) : Exits z { s with link := { s.link with clkreq := true } } := ⟨h.sent, h.due, h.ready⟩

theorem exitL1 (h : Exits z s) : Exits z s.exitL1 := by
  unfold State.exitL1
  split
  · exact h.wake.toRecovery
  · exact h

theorem l11Exit (h : Exits z s) : Exits z s.l11Exit := by
  unfold State.l11Exit
  split
  · dsimp only
    split
    · exact h.clkreq.exitL1
    · exact h.clkreq.wake
  · exact h

end Exits

theorem State.leaveL1_eq (hup : s.linkUp = true) (h5 : s.ltssm = 5) (h15 : s.bit Reg.HST_LINK_STS 15 = false) :
    s.leaveL1 = (s.wake .hst).toRecovery := if_pos (by rw [hup, h15, decide_eq_true (p := s.fld Reg.HST_LINK_STS 0 3 = 5) h5]; rfl)

theorem State.l11Exit_of_recovery (h : s.ltssm = 4) : s.l11Exit = s := if_neg fun h5 => absurd (h.symm.trans h5.1) (by decide)

/-- Where the link cannot carry the message, the message waits and the link leaves L1. -/
theorem ltrSend_waits {req : Requester} (hen : s.ltrEn = true) (hup : s.linkUp = true) (hcan : s.canSend = false)
    (hauto : s.bit Reg.HST_LTR_CTL 0 = false) (hres : s.rd Reg.HST_LTR_CTL &&& (rowOf Reg.HST_LTR_CTL).reservedBits = 0)
    (hopen : s.openFor (regAcc req Reg.HST_LTR_CTL (withField (s.rd Reg.HST_LTR_CTL) 1 1 1)) .hst = true) :
    Completes (.ltrSend req) s fun t =>
      t.link.ltrDue = true ∧ t.sent = s.sent ∧ (s.ltssm = 5 → s.bit Reg.HST_LINK_STS 15 = false → t.ltssm = 4) := by
  obtain ⟨v, fin, hmode, hexec⟩ := ltrSend_meets hauto hres hopen
  have hcan' := (State.ltrStored_canSend (s := s) (req := req) (v := v) (fin := fin)).trans hcan
  have hlink : (s.ltrStored req v fin).rd Reg.HST_LINK_STS = s.rd Reg.HST_LINK_STS := State.ltrStored_rd (by decide)
  have henu : (s.ltrStored req v fin).ltrEn = true := hen
  have hsent : (s.ltrStored req v fin).sent = s.sent := rfl
  have hready : (s.ltrStored req v fin).nrg.ready = s.nrg.ready := rfl
  generalize s.ltrStored req v fin = u at hmode hexec hcan' hlink henu hsent hready
  have hup' : u.linkUp = true := (congrArg (·.getLsbD 17) hlink).trans hup
  have hop : u.ltrSendOp = u.ltrAwaited.leaveL1.l11Exit :=
    (if_neg (by rw [hmode, henu, hup']; decide)).trans (if_neg (by rw [hcan']; decide))
  have hexits : Exits u.ltrAwaited u.ltrAwaited.leaveL1.l11Exit := Exits.l11Exit (Exits.leaveL1 ⟨rfl, rfl, rfl⟩)
  rw [hop] at hexec
  obtain ⟨m, hm⟩ := hexec (hexits.ready.trans hready)
  refine ⟨_, hm, hexits.due, hexits.sent.trans hsent, fun h5 h15 => ?_⟩
  have hleft : u.ltrAwaited.leaveL1 = (u.ltrAwaited.wake .hst).toRecovery :=
    State.leaveL1_eq hup' ((congrArg (fieldOf · 0 3) hlink).trans h5) ((congrArg (·.getLsbD 15) hlink).trans h15)
  have hstate : u.ltrAwaited.leaveL1.ltssm = 4 := by
    rw [hleft]
    exact State.toRecovery_ltssm
  exact (congrArg State.ltssm (State.l11Exit_of_recovery hstate)).trans hstate

theorem linkSleepsAndWakes : Claims.LinkSleepsAndWakes :=
  ⟨fun _ hl0 hon => ⟨l0sEntry_receiver hl0 hon, fun _ => l0sEntry_transmitter hl0 hon, l1Request_completes hl0 hon⟩,
    fun _ h5 => ⟨l11Exit_completes h5, electricalIdleExit_l1 h5⟩, fun _ => electricalIdleExit_l0,
    fun _ hen hcan => ⟨ltrAutoSend_first hen hcan, fun _ => ltrAutoSend_grown hen hcan, fun _ => ltrSend_sends hen hcan⟩,
    fun _ _ => ltrSend_waits⟩

end

/-- Settles O21: the sleeps and exits are told from HST_LINK_STS alone, and the loss of the link ends queues, reads and the host's locks
before the link goes to Detect. -/
theorem linkSleepsAndIsLost : Obligations.LinkSleepsAndIsLost := ⟨linkSleepsAndWakes, linkIsLost⟩

end Sys2Proof.Machine
end

section
/-!
PROOFS. The power-up: the SRAM is cleared, slot A is read, and the commit starts (R129, R131, R136); the settling of O15.
-/

namespace Sys2Proof.Machine
open Sys2Proof.Claims

section
variable {s t u : State} {im : Image}

/-! ### What tells that the boot goes on -/

/-- From `s` to `t` the boot's state, PLN_BOOT and the committed image stand. -/
structure BootStands (s t : State) : Prop where
  boot : t.boot = s.boot
  reg : ∀ b, t.bit Reg.PLN_BOOT b = s.bit Reg.PLN_BOOT b
  committed : t.arm.committed = s.arm.committed

namespace BootStands

variable {z : State}

theorem refl (s : State) : BootStands s s := ⟨rfl, fun _ => rfl, rfl⟩

theorem trans (h : BootStands s t) (g : BootStands t u) : BootStands s u :=
  ⟨g.boot.trans h.boot, fun b => (g.reg b).trans (h.reg b), g.committed.trans h.committed⟩

theorem onward {p q : Prop} (h : BootStands z s) (g : Onward p q s t) : BootStands z t := h.trans ⟨g.boot, g.plinth rfl, g.committed⟩

/-- An update beside the boot. -/
theorem upd (h : BootStands z s) (hboot : t.boot = s.boot) (hregs : t.regs = s.regs) (hcom : t.arm.committed = s.arm.committed) :
    BootStands z t :=
  h.trans ⟨hboot, fun b => by rw [State.bit, State.rd_of_regs hregs, State.bit], hcom⟩

theorem wr {k : Nat} {v : Word} (h : BootStands z s) (hk : k ≠ Reg.PLN_BOOT) : BootStands z (s.wr k v) :=
  h.trans ⟨rfl, fun _ => State.wr_bit_other hk.symm, rfl⟩

theorem ite {a b : State} {c : Prop} [Decidable c] (ha : BootStands z a) (hb : BootStands z b) : BootStands z (if c then a else b) := by
  split
  · exact ha
  · exact hb

theorem foldl {α : Type} {f : State → α → State} (l : List α) (h : BootStands z s) (hf : ∀ t a, BootStands z t → BootStands z (f t a)) :
    BootStands z (l.foldl f s) :=
  List.foldlRecOn l f (motive := BootStands z) h fun t ht a _ => hf t a ht

theorem breakLocks {mine : LockOwner → Bool} (h : BootStands z s) : BootStands z (s.breakLocks mine) :=
  h.upd (s.breakLocks_keeps State.boot fun _ _ _ => rfl) (s.breakLocks_keeps State.regs fun _ _ _ => rfl)
    (s.breakLocks_keeps (·.arm.committed) fun _ _ _ => rfl)

theorem abortLoad (h : BootStands z s) : BootStands z s.abortLoad := by
  have hdropped : BootStands z (s.dropStaged.setStage 0) := (h.upd (t := s.dropStaged) rfl rfl rfl).wr (by decide)
  exact .ite h (hdropped.upd rfl rfl rfl)

theorem monEnds (h : BootStands z s) : BootStands z s.monEnds := by
  unfold State.monEnds
  extract_lets loaded broken ended
  have hloaded : BootStands z loaded := .ite h.abortLoad h
  have hbroken : BootStands z broken := hloaded.breakLocks
  clear_value broken
  have hended : BootStands z ended := hbroken.upd rfl rfl rfl
  exact hended.wr (by decide)

theorem ceilingFrom {old : Nat × Word × Word} (h : BootStands z s) : BootStands z (s.ceilingFrom old) :=
  h.onward ((Onward.refl (p := False) (q := True) s).ceilingFrom)

/-- The sections of the Plinth come into force beside the boot. -/
theorem applyPlinth {x : Option Image} (h : BootStands z s) : BootStands z (s.applyPlinth x) := by
  unfold State.applyPlinth
  extract_lets _ placed locked level ended events quota
  have hplaced : BootStands z placed := h.upd rfl rfl rfl
  have hlocked : BootStands z locked := .ite (hplaced.wr (by decide)) hplaced
  have hlevel : BootStands z level := .ite (hlocked.wr (by decide)) hlocked
  have hended : BootStands z ended := .ite hlevel.monEnds hlevel
  have hquota : BootStands z quota := (hended.wr (k := Reg.MON_CTL) (by decide)).wr (by decide)
  exact hquota.ceilingFrom

end BootStands

/-! ### The end of a commit (R120) -/

/-- The first three bits of PLN_BOOT apart, the boot goes on as it does. -/
structure BootGoesOn (s t : State) : Prop where
  boot : t.boot = s.boot
  ready : t.bit Reg.PLN_BOOT 3 = s.bit Reg.PLN_BOOT 3

theorem BootStands.goesOn (h : BootStands s t) : BootGoesOn s t := ⟨h.boot, h.reg 3⟩

theorem BootGoesOn.trans (h : BootGoesOn s t) (g : BootGoesOn t u) : BootGoesOn s u := ⟨g.boot.trans h.boot, g.ready.trans h.ready⟩

/-- The stage of the boot changes. -/
theorem State.setBootStage_goesOn (n : Nat) : BootGoesOn s (s.setFld Reg.PLN_BOOT 0 3 n) :=
  ⟨rfl, by rw [State.bit, State.setFld_rd_self, getLsbD_withField, if_neg (by decide), State.bit]⟩

/-- The staged image is the committed one. -/
def State.commitTaken (s : State) (im : Image) : State :=
  { s with arm := { s.arm with committed := some im, staged := none, staging := [], received := 0, run := none } }

/-- ARM_STS shows the committed image, whose sections of the Plinth come into force. -/
def State.commitShown (s : State) (src : Nat) (im : Image) : State :=
  ((((((s.setStage 0).setFld Reg.ARM_STS 5 2 src).setBit Reg.ARM_STS 8 false).setBit Reg.ARM_STS 11 im.signed).setBit Reg.ARM_STS 14
    false)).applyPlinth (some im)

/-- No island is in the commit any more, and the commit is reported. -/
def State.commitClosed (s : State) (powerUp : Bool) : State :=
  let t := Island.all.foldl (fun t i => t.modIsland i fun x => { x with inCommit := false }) s
  let t := if powerUp then t.wr Reg.PLN_CMT_T (word (min 0x3FFFF ((t.now - t.boot.originAt) / usTicks 10))) else t
  (t.raiseArm 2).refreshVsec

theorem State.commitShown_stands (src : Nat) : BootStands s (s.commitShown src im) := by
  have hstage : BootStands s (s.setStage 0) := (BootStands.refl s).wr (by decide)
  have hsource := hstage.wr (k := Reg.ARM_STS) (v := withField ((s.setStage 0).rd Reg.ARM_STS) 5 2 src) (by decide)
  exact (((hsource.wr (by decide)).wr (by decide)).wr (by decide)).applyPlinth

theorem State.commitClosed_stands (powerUp : Bool) : BootStands s (s.commitClosed powerUp) := by
  unfold State.commitClosed
  extract_lets idle timed
  have hidle : BootStands s idle := (BootStands.refl s).foldl _ fun _ _ ht => ht.upd rfl rfl rfl
  have htimed : BootStands s timed := .ite (hidle.wr (by decide)) hidle
  clear_value timed
  exact (htimed.onward ((Onward.refl (p := True) (q := True) timed).raiseBit (by decide) (by decide))).upd rfl rfl rfl

theorem State.commitDone_eq {r : CommitRun} (hrun : s.arm.run = some r) (hwhole : r.whole = true) (hst : s.arm.staged = some im) :
    s.commitDone = (((s.commitTaken im).commitShown (s.fld Reg.ARM_STS 3 2) im).setFld Reg.PLN_BOOT 0 3 4).commitClosed r.powerUp := by
  unfold State.commitDone
  rw [hrun, hst]
  dsimp only
  rw [if_pos hwhole, if_pos hwhole]
  rfl

/-- The commit of a whole image ends with the image committed. -/
theorem State.commitDone_whole {r : CommitRun} (hrun : s.arm.run = some r) (hwhole : r.whole = true) (hst : s.arm.staged = some im) :
    BootGoesOn s s.commitDone ∧ s.commitDone.arm.committed = some im := by
  rw [State.commitDone_eq hrun hwhole hst]
  have hshown := State.commitShown_stands (s := s.commitTaken im) (im := im) (s.fld Reg.ARM_STS 3 2)
  generalize State.commitShown _ _ im = shown at hshown
  have hstage := State.setBootStage_goesOn (s := shown) 4
  have hclosed := State.commitClosed_stands (s := shown.setFld Reg.PLN_BOOT 0 3 4) r.powerUp
  have htaken : BootGoesOn s (s.commitTaken im) := ⟨rfl, rfl⟩
  exact ⟨htaken.trans (hshown.goesOn.trans (hstage.trans hclosed.goesOn)), hclosed.committed.trans hshown.committed⟩

/-! ### The commit of the power-up (R129, R131) -/

/-- A commit of a whole image runs, and the device is READY. -/
structure Commits (im : Image) (s : State) : Prop where
  ready : s.bit Reg.PLN_BOOT 3 = true
  wait : s.boot.waitXtal = false
  staged : s.arm.staged = some im
  run : ∃ r, s.arm.run = some r ∧ r.whole = true

theorem Commits.upd (h : Commits im s) (hready : t.bit Reg.PLN_BOOT 3 = s.bit Reg.PLN_BOOT 3) (hboot : t.boot = s.boot)
    (hst : t.arm.staged = s.arm.staged) (hrun : t.arm.run = s.arm.run) : Commits im t :=
  ⟨hready.trans h.ready, hboot ▸ h.wait, hst.trans h.staged, hrun ▸ h.run⟩

theorem Commits.wr {k : Nat} {v : Word} (h : Commits im s) (hk : k ≠ Reg.PLN_BOOT) : Commits im (s.wr k v) :=
  h.upd (State.wr_bit_other hk.symm) rfl rfl rfl

theorem State.writeShadow_keeps {β : Type} (view : State → β) (hv : ∀ (t : State) w x, view (t.setSram w x) = view t) :
    view (s.writeShadow im) = view s := by
  unfold State.writeShadow
  dsimp only
  generalize partBase (some im) 3 = base
  generalize im.words ++ im.sig = l
  have hfold : ∀ p : Nat × State, view (l.foldl (fun p w => (p.1 + 1, p.2.sramWrite p.1 w)) p).2 = view p.2 := by
    induction l with
    | nil => exact fun _ => rfl
    | cons w l ih => exact fun p => (ih (p.1 + 1, p.2.sramWrite p.1 w)).trans (hv _ _ _)
  exact hfold (base, s)

/-- An island's number in an ISLANDS entry has four bits. -/
theorem islandEntries_lt {x : Option Image} {e : IslandEntry} (h : e ∈ islandEntries x) : e.island < 16 := by
  unfold islandEntries at h
  split at h
  · exact absurd h List.not_mem_nil
  · obtain ⟨k, -, rfl⟩ := List.mem_map.1 h
    exact Nat.mod_lt _ (by decide)

theorem Commits.copyIdle {x : Option Image} (h : Commits im s) : Commits im (s.copyIdle x) := by
  refine List.foldlRecOn _ _ (motive := Commits im) h fun t ht e he => ht.wr ?_
  have hlt := islandEntries_lt he
  simp only [Reg.PLN_ISL_IDLE, Reg.PLN_BOOT]
  omega

/-- What maquette mode does to a head port. -/
def State.maquettePort (on : Bool) (s : State) (p : Nat) : State :=
  if on then s.modPort p fun x => { x with drive := .hiZ, trg := false, stb := false, pen := false }
  else if s.drives p then
    s.modPort p fun x => { x with drive := .idle, pen := decide (x.slot = .powering ∨ x.slot = .powered) && !x.penDue }
  else s

theorem State.setMaquette_eq (on : Bool) :
    s.setMaquette on = ((s.setBit Reg.ARM_MAQ 0 on).setBit Reg.ARM_STS 12 on).forAll (List.range 32) (State.maquettePort on) := rfl

theorem State.setMaquette_keeps {β : Type} (view : State → β) (on : Bool) (hport : ∀ (t : State) p x, view (t.setPort p x) = view t) :
    view (s.setMaquette on) = view ((s.setBit Reg.ARM_MAQ 0 on).setBit Reg.ARM_STS 12 on) := by
  have hone (t : State) (p : Nat) : view (t.maquettePort on p) = view t := by
    unfold State.maquettePort
    split
    · exact hport _ _ _
    · split
      · exact hport _ _ _
      · rfl
  rw [State.setMaquette_eq]
  exact State.forAll_keeps view hone _ _

theorem Commits.setMaquette {on : Bool} (h : Commits im s) : Commits im (s.setMaquette on) := by
  have hset : Commits im ((s.setBit Reg.ARM_MAQ 0 on).setBit Reg.ARM_STS 12 on) :=
    Commits.wr (k := Reg.ARM_STS) (h.wr (k := Reg.ARM_MAQ) (by decide)) (by decide)
  exact hset.upd (State.setMaquette_keeps (State.bit · Reg.PLN_BOOT 3) on fun _ _ _ => rfl)
    (State.setMaquette_keeps State.boot on fun _ _ _ => rfl) (State.setMaquette_keeps (·.arm.staged) on fun _ _ _ => rfl)
    (State.setMaquette_keeps (·.arm.run) on fun _ _ _ => rfl)

theorem Commits.castImage {x : Image} {whole : Bool} (h : Commits im s) : Commits im (s.castImage x whole) := by
  have hshadow : Commits im (s.writeShadow x) :=
    h.upd (State.writeShadow_keeps (State.bit · Reg.PLN_BOOT 3) fun _ _ _ => rfl) (State.writeShadow_keeps State.boot fun _ _ _ => rfl)
      (congrArg ArmSt.staged (State.writeShadow_arm s x)) (congrArg ArmSt.run (State.writeShadow_arm s x))
  have hpins : Commits im ((s.writeShadow x).lockPins x) := hshadow.upd rfl rfl rfl rfl
  unfold State.castImage
  dsimp only
  split
  · split
    · exact hpins.copyIdle.setMaquette
    · exact hpins.copyIdle
  · exact hpins

theorem Commits.modIsland {i : Island} {f : IslSt → IslSt} (h : Commits im s) : Commits im (s.modIsland i f) := h.upd rfl rfl rfl rfl

theorem Commits.plinthEnable {i : Island} (h : Commits im s) : Commits im (s.plinthEnable i) := by
  have hset : Commits im (s.setBit Reg.PLN_ISL_EN i.idx true) := h.wr (by decide)
  unfold State.plinthEnable
  generalize s.setBit Reg.PLN_ISL_EN i.idx true = t at hset
  have harm : (t.islandEnabled i).arm = t.arm := by
    unfold State.islandEnabled
    dsimp only
    split
    · split
      · rfl
      · rfl
    · split
      · rfl
      · rfl
    · rfl
  exact hset.upd (congrArg (·.getLsbD 3) (State.islandEnabled_rd i _)) (State.islandEnabled_boot i) (congrArg ArmSt.staged harm)
    (congrArg ArmSt.run harm)

/-- The islands are on their way up, or the commit has ended. -/
theorem Commits.raiseIslands (h : Commits im s) : s.raiseIslands.bit Reg.PLN_BOOT 3 = true ∧ s.raiseIslands.boot.waitXtal = false ∧
    (s.raiseIslands.arm.run ≠ none ∨ s.raiseIslands.arm.committed = some im) := by
  obtain ⟨r, hrun, hwhole⟩ := h.run
  unfold State.raiseIslands
  rw [hrun]
  dsimp only
  generalize r.toRaise.filter (fun i => !crystalBound i || s.bit Reg.CLK_STS 0) = up
  generalize hu : ({ s with arm := { s.arm with run := some { r with toRaise := up } } } : State) = u
  have hset : Commits im u := by
    rw [← hu]
    exact ⟨h.ready, h.wait, h.staged, _, rfl, hwhole⟩
  have hskipped : Commits im (u.setBit Reg.PLN_BOOT 8 true) := hset.upd (State.setBit_bit_of_ne (by decide) (by decide)) rfl rfl rfl
  have hany : Commits im (if up.length = r.toRaise.length then u else u.setBit Reg.PLN_BOOT 8 true) := by
    split
    · exact hset
    · exact hskipped
  have hraised := List.foldlRecOn up (fun t i => (t.modIsland i fun x => { x with inCommit := true }).plinthEnable i) (motive := Commits im)
    hany fun _ ht _ _ => ht.modIsland.plinthEnable
  generalize List.foldl _ _ up = t at hraised
  obtain ⟨r', hrun', hwhole'⟩ := hraised.run
  split
  · obtain ⟨hboot, hcom⟩ := State.commitDone_whole hrun' hwhole' hraised.staged
    exact ⟨hboot.ready.trans hraised.ready, hboot.boot ▸ hraised.wait, .inr hcom⟩
  · exact ⟨hraised.ready, hraised.wait, .inl (by rw [hrun']; exact Option.some_ne_none _)⟩

/-- READY is set and timed. -/
def State.bootReady (s : State) : State :=
  let t := (s.setFld Reg.PLN_BOOT 0 3 3).setBit Reg.PLN_BOOT 3 true
  t.wr Reg.PLN_READY_T (word (min 0x3FFFF ((t.now - t.boot.originAt) / usTicks 10)))

theorem State.bootReady_ready : s.bootReady.bit Reg.PLN_BOOT 3 = true :=
  (State.wr_bit_other (by decide)).trans (State.setBit_bit_self (by decide))

/-- The commit of an image under way, which waits for no crystal. -/
def State.withRun (s : State) (r : CommitRun) : State :=
  { s with arm := { s.arm with run := some r }, boot := { s.boot with waitXtal := false } }

theorem State.startWhole_powerUp (h : s.arm.staged = some im) :
    ∃ r, r.whole = true ∧
      s.startWhole true = ((((s.applyIdentity (some im)).setStage 5).bootReady.withRun r).castImage im true).raiseIslands := by
  refine ⟨{ whole := true, toGate := [], toRaise := presentIslands (some im), powerUp := true }, rfl, ?_⟩
  rw [State.startWhole, h]
  rfl

theorem powerUpCommit_starts (hwait : s.boot.waitXtal = true) (hstage : s.stage = 3) (hst : s.arm.staged = some im)
    (hclk : s.bit Reg.CLK_STS 0 = true ∨ s.bit Reg.CLK_STS 1 = true) :
    Completes .powerupCommitStart s fun t =>
      t.bit Reg.PLN_BOOT 3 = true ∧ t.boot.waitXtal = false ∧ (t.arm.run ≠ none ∨ t.arm.committed = some im) := by
  have hgo : (s.boot.waitXtal && decide (s.stage = 3) && (s.bit Reg.CLK_STS 0 || s.bit Reg.CLK_STS 1)) = true := by
    rw [hwait, decide_eq_true hstage, Bool.or_eq_true_iff.2 hclk]
    rfl
  obtain ⟨r, hwhole, hstart⟩ := State.startWhole_powerUp hst
  obtain ⟨ids, b, hident, -⟩ := s.applyIdentity_frame (some im)
  have hcommits : Commits im (((s.applyIdentity (some im)).setStage 5).bootReady.withRun r) :=
    ⟨State.bootReady_ready, rfl, (congrArg ArmSt.staged hident).trans hst, r, rfl, hwhole⟩
  refine ⟨_, rfl, ?_⟩
  rw [State.powerUpCommit, if_pos hgo, hstart]
  exact hcommits.castImage.raiseIslands

/-! ### The SRAM is cleared (R129) -/

theorem State.beginLoad_rd {src k : Nat} (hsts : k ≠ Reg.ARM_STS) (hptr : k ≠ Reg.ARM_PTR) : (s.beginLoad src).rd k = s.rd k :=
  (State.wr_rd_ne _ hptr _).trans ((State.setFld_rd_ne _ hsts _ _ _).trans (State.setFld_rd_ne _ hsts _ _ _))

theorem sramClearDone_completes (hpor : s.boot.inPor = false) (hstage : s.fld Reg.PLN_BOOT 0 3 = 0) :
    Completes .sramClearDone s fun t =>
      (∀ w, t.sramW w = { stored := 0, checked := 0 }) ∧ t.fld Reg.PLN_BOOT 0 3 = 1 ∧ t.arm.reading = some (false, true) := by
  have hop : s.sramCleared = ({ s with sram := [] }.setFld Reg.PLN_BOOT 0 3 1).readSlot false true :=
    if_neg (by rw [hpor, hstage]; decide)
  obtain ⟨o, hread⟩ := State.readSlot_eq ({ s with sram := [] }.setFld Reg.PLN_BOOT 0 3 1) false true
  refine ⟨_, rfl, ?_⟩
  rw [hop, hread]
  refine ⟨fun _ => rfl, ?_, rfl⟩
  exact (congrArg (fieldOf · 0 3) (State.beginLoad_rd (src := 0) (by decide) (by decide))).trans (State.setFld_fld_self (by decide))

theorem powerUpSteps : Claims.PowerUpSteps := ⟨fun _ => sramClearDone_completes, fun _ _ => powerUpCommit_starts⟩

/-- The device does not watch the supply of the field pins (R136). -/
theorem fieldSupply : Claims.FieldSupply := fun _ =>
  ⟨⟨_, rfl, rfl, rfl, rfl, fun _ _ => rfl, fun _ => rfl, rfl⟩, ⟨_, rfl, rfl, rfl, rfl, fun _ _ => rfl, fun _ => rfl, rfl⟩⟩

end

/-- Settles O15: a reset of the device rebuilds the state from its values of reset, and the boot keeps READY from the start of the commit
on. -/
theorem theDevicePowersUp : Obligations.TheDevicePowersUp := ⟨wholeDeviceResets, powerUpSteps, fieldSupply⟩

end Sys2Proof.Machine
end

section
/-!
PROOFS. What the report of an event and the messages that waited leave of the host link (R64, R161, R162, R184, R231).
-/

namespace Sys2Proof.Machine
open Sys2Proof.Claims

/-- The record of the link, but for the times at which its last messages and its last Recovery were. -/
def LinkSt.training (x : LinkSt) : LinkSt := { x with sentAt := 0, ltrLast := 0, ltrAt := none, ltrDue := false, recoveryAt := 0 }

/-- The link stands from `z` to `s` as the reports of events and messages leave it: of HST_LINK_STS only LTSSM and the sleep bits 13 to 15
may differ, and LTSSM and the count of Recoveries only where the link was in L1. -/
structure LinkShown (z s : State) : Prop where
  training : s.link.training = z.link.training
  bits : ∀ b, 3 ≤ b → b < 13 ∨ 16 ≤ b → s.bit Reg.HST_LINK_STS b = z.bit Reg.HST_LINK_STS b
  awake : z.ltssm ≠ 5 → s.ltssm = z.ltssm ∧ s.rd Reg.HST_RECOV_CNT = z.rd Reg.HST_RECOV_CNT

/-- Events are reported from `z` to `s`, and messages leave. -/
structure LinkStands (z s : State) : Prop extends Reported z s, LinkShown z s

/-- From `z` to `s` the bit `b` of HST_LINK_EVT is set, and events are reported. -/
structure LinkRaised (b : Nat) (z s : State) : Prop extends LinkShown z s where
  rd : ∀ k, eventReg k = false → k ≠ Reg.HST_LINK_EVT → s.rd k = z.rd k
  event : s.bit Reg.HST_LINK_EVT b = true

theorem Reported.trans {z s t : State} (h : Reported z s) (g : Reported s t) : Reported z t :=
  ⟨fun k hk => (g.rd k hk).trans (h.rd k hk), g.sram.trans h.sram, g.pairs.trans h.pairs, g.pending.trans h.pending, g.nrg.trans h.nrg⟩

/-- What is sent takes the transmitter out of L0s at most (R161). -/
theorem State.send_regs (s : State) (o : Output) :
    (s.send o).regs = s.regs ∨ (s.send o).regs = (s.setBit Reg.HST_LINK_STS 13 false).regs := by
  unfold State.send
  split
  · exact .inl rfl
  · dsimp only
    split
    · exact .inr rfl
    · exact .inl rfl

theorem State.send_training (s : State) (o : Output) : (s.send o).link.training = s.link.training := by
  unfold State.send
  split
  · rfl
  · dsimp only
    split
    · split
      · rfl
      · rfl
    · split
      · rfl
      · rfl

namespace LinkShown

variable {z s t : State}

/-- The link's own registers and its record are as they were. -/
theorem of_rd (hsts : s.rd Reg.HST_LINK_STS = z.rd Reg.HST_LINK_STS) (hcount : s.rd Reg.HST_RECOV_CNT = z.rd Reg.HST_RECOV_CNT)
    (hlink : s.link.training = z.link.training) : LinkShown z s :=
  ⟨hlink, fun b _ _ => congrArg (·.getLsbD b) hsts, fun _ => ⟨congrArg (fieldOf · 0 3) hsts, hcount⟩⟩

theorem trans (h : LinkShown z s) (g : LinkShown s t) : LinkShown z t where
  training := g.training.trans h.training
  bits b hb hb' := (g.bits b hb hb').trans (h.bits b hb hb')
  awake hz := by
    obtain ⟨hstate, hcount⟩ := h.awake hz
    obtain ⟨hstate', hcount'⟩ := g.awake (hstate ▸ hz)
    exact ⟨hstate'.trans hstate, hcount'.trans hcount⟩

theorem fld (h : LinkShown z s) {lo w : Nat} (hlo : 3 ≤ lo) (hw : lo + w ≤ 13) :
    s.fld Reg.HST_LINK_STS lo w = z.fld Reg.HST_LINK_STS lo w := by
  apply Nat.eq_of_testBit_eq
  intro j
  rw [State.fld, State.fld, testBit_fieldOf, testBit_fieldOf]
  by_cases hj : j < w
  · exact congrArg (decide (j < w) && ·) (h.bits (lo + j) (by omega) (.inl (by omega)))
  · simp [hj]

theorem linkUp (h : LinkShown z s) : s.linkUp = z.linkUp := h.bits 17 (by decide) (.inr (by decide))

end LinkShown

namespace LinkStands

variable {z s t : State}

theorem refl (s : State) : LinkStands s s := ⟨.refl s, .of_rd rfl rfl rfl⟩

theorem trans (h : LinkStands z s) (g : LinkStands s t) : LinkStands z t :=
  ⟨h.toReported.trans g.toReported, h.toLinkShown.trans g.toLinkShown⟩

/-- A report that leaves the link's own registers. -/
theorem moved (h : LinkStands z s) (hr : Reported s t) (hsts : t.rd Reg.HST_LINK_STS = s.rd Reg.HST_LINK_STS)
    (hcount : t.rd Reg.HST_RECOV_CNT = s.rd Reg.HST_RECOV_CNT) (hlink : t.link.training = s.link.training) : LinkStands z t :=
  h.trans ⟨hr, .of_rd hsts hcount hlink⟩

theorem upd (h : LinkStands z s) (h1 : t.regs = s.regs := by rfl) (h2 : t.sram = s.sram := by rfl) (h3 : t.pairs = s.pairs := by rfl)
    (h4 : t.pending = s.pending := by rfl) (h5 : t.nrg = s.nrg := by rfl) (h6 : t.link.training = s.link.training := by rfl) :
    LinkStands z t :=
  h.moved ((Reported.refl s).upd h1 h2 h3 h4 h5) (State.rd_of_regs h1 _) (State.rd_of_regs h1 _) h6

theorem wr {k : Nat} {v : Word} (h : LinkStands z s) (hk : eventReg k = true) (hsts : Reg.HST_LINK_STS ≠ k)
    (hcount : Reg.HST_RECOV_CNT ≠ k) : LinkStands z (s.wr k v) :=
  h.moved ((Reported.refl s).wr hk) (State.wr_rd_ne _ hsts _) (State.wr_rd_ne _ hcount _) rfl

theorem ite {a b : State} {c : Prop} [Decidable c] (ha : LinkStands z a) (hb : LinkStands z b) : LinkStands z (if c then a else b) := by
  split
  · exact ha
  · exact hb

theorem forAll {f : State → Nat → State} (l : List Nat) (h : LinkStands z s) (hf : ∀ u k, LinkStands z u → LinkStands z (f u k)) :
    LinkStands z (s.forAll l f) :=
  List.foldlRecOn l f (motive := LinkStands z) h fun u hu k _ => hf u k hu

theorem wake {i : Island} (h : LinkStands z s) : LinkStands z (s.wake i) :=
  h.moved (Reported.refl s).wake (State.wake_rd i _) (State.wake_rd i _) (congrArg LinkSt.training (State.wake_link i))

theorem send {o : Output} (h : LinkStands z s) : LinkStands z (s.send o) := by
  have hr := (Reported.refl s).send (o := o)
  rcases s.send_regs o with hregs | hregs
  · exact h.moved hr (State.rd_of_regs hregs _) (State.rd_of_regs hregs _) (s.send_training o)
  · have hsts := State.rd_of_regs hregs Reg.HST_LINK_STS
    have hcount := State.rd_of_regs hregs Reg.HST_RECOV_CNT
    refine h.trans ⟨hr, s.send_training o, fun b _ hb => ?_, fun _ => ⟨?_, hcount.trans (State.setBit_rd_ne _ (by decide) _ _)⟩⟩
    · rw [State.bit, hsts]
      exact State.setBit_bit_of_ne (by decide) (by omega)
    · rw [State.ltssm, State.fld, hsts]
      exact State.setFld_fld_of_disjoint (by decide)

/-- Only a link that is in L1 enters Recovery for an event. -/
theorem toRecovery (h : LinkStands z s) (hs : s.ltssm = 5) : LinkStands z s.toRecovery := by
  refine h.trans ⟨(Reported.refl s).toRecovery, rfl, fun b hb hb' => ?_, fun hne => absurd hs hne⟩
  rw [State.bit, State.toRecovery_link, getLsbD_withField, getLsbD_withField, if_neg (by omega), if_neg (by omega), State.bit]

theorem leaveL1 (h : LinkStands z s) : LinkStands z s.leaveL1 := by
  unfold State.leaveL1
  split
  case isFalse => exact h
  case isTrue hl1 =>
    simp only [Bool.and_eq_true, decide_eq_true_eq] at hl1
    exact h.wake.toRecovery ((congrArg (fieldOf · 0 3) (State.wake_rd .hst Reg.HST_LINK_STS)).trans hl1.1.2)

theorem sendMessage {v : Nat} (h : LinkStands z s) : LinkStands z (s.sendMessage v) := by
  unfold State.sendMessage
  split
  · exact .ite h.upd.leaveL1 h.upd.send
  · exact .ite h.upd.leaveL1 h.upd.send
  · exact h

theorem pmeFor {v : Nat} (h : LinkStands z s) : LinkStands z (s.pmeFor v) := .ite h.send h

theorem signalVector {v : Nat} (h : LinkStands z s) : LinkStands z (s.signalVector v) :=
  .ite h.pmeFor.sendMessage (.ite h.pmeFor.upd.sendMessage h.pmeFor.upd)

theorem takeEvent {src : Nat} (h : LinkStands z s) (hs : src < 576) : LinkStands z (s.takeEvent src) := by
  have hreg : eventReg (Reg.EVT_PEND (src / 18)) = true := by
    simp only [eventReg, Reg.EVT_PEND, Bool.or_eq_true, decide_eq_true_eq]
    omega
  have hset : LinkStands z (s.setBit (Reg.EVT_PEND (src / 18)) (src % 18) true) :=
    h.wr hreg (by simp only [Reg.HST_LINK_STS, Reg.EVT_PEND]; omega) (by simp only [Reg.HST_RECOV_CNT, Reg.EVT_PEND]; omega)
  exact .ite h (.ite hset hset.signalVector)

theorem monEvent {src : Nat} (h : LinkStands z s) : LinkStands z (s.monEvent src) :=
  .ite (.ite h.upd (h.wr (by decide) (by decide) (by decide))) h

/-- An event is reported (R64, R66, R231, R438). -/
theorem raise {src : Nat} (h : LinkStands z s) (hs : src < 576) : LinkStands z (s.raise src) := by
  have hm := h.monEvent (src := src)
  exact .ite (.ite hm.upd.wake (.ite hm (hm.wr (by decide) (by decide) (by decide)))) (.ite (hm.takeEvent hs) hm)

/-- What waits and may leave now leaves (R165, R184, R234). -/
theorem sendPending (h : LinkStands z s) : LinkStands z s.sendPending := by
  have hltr : LinkStands z s.sendLtrDue := .ite (send h.upd) h
  unfold State.sendPending
  dsimp only
  split
  · exact hltr.forAll _ fun _ _ hu => .ite hu.sendMessage hu
  · exact hltr.forAll _ fun _ _ hu => .ite hu.sendMessage hu
  · exact hltr

theorem reg_bit (h : LinkStands z s) {k : Nat} (hk : eventReg k = false) (b : Nat) : s.bit k b = z.bit k b :=
  congrArg (·.getLsbD b) (h.rd k hk)

theorem reg_fld (h : LinkStands z s) {k : Nat} (hk : eventReg k = false) (lo w : Nat) : s.fld k lo w = z.fld k lo w :=
  congrArg (fieldOf · lo w) (h.rd k hk)

theorem dropped (h : LinkStands z s) : s.dropped = z.dropped := congrArg (BitVec.ofNat 4) (h.reg_fld (by decide) 0 4)

end LinkStands

section
variable {s t z : State} {b k : Nat}

/-! ### An event of the link (R173) -/

theorem State.raiseLink_raised (hb : b < 18) : LinkRaised b s (s.raiseLink b) := by
  have h : LinkStands (s.setBit Reg.HST_LINK_EVT b true) (s.raiseLink b) := (LinkStands.refl _).raise (by omega)
  have hset : LinkShown s (s.setBit Reg.HST_LINK_EVT b true) :=
    .of_rd (State.setBit_rd_ne _ (by decide) _ _) (State.setBit_rd_ne _ (by decide) _ _) rfl
  exact ⟨hset.trans h.toLinkShown, fun k hk hne => (h.rd k hk).trans (State.setBit_rd_ne _ hne _ _),
    (h.reg_bit (by decide) b).trans (State.setBit_bit_self hb)⟩

theorem LinkStands.raised (h : LinkStands z s) (g : LinkRaised b s t) : LinkRaised b z t :=
  ⟨h.toLinkShown.trans g.toLinkShown, fun k hk hne => (g.rd k hk hne).trans (h.rd k hk), g.event⟩

theorem LinkRaised.stands (h : LinkRaised b z s) (g : LinkStands s t) : LinkRaised b z t :=
  ⟨h.toLinkShown.trans g.toLinkShown, fun k hk hne => (g.rd k hk).trans (h.rd k hk hne), (g.reg_bit (by decide) b).trans h.event⟩

theorem LinkRaised.reg_bit (h : LinkRaised b z s) (hk : eventReg k = false) (hne : k ≠ Reg.HST_LINK_EVT) (c : Nat) :
    s.bit k c = z.bit k c := congrArg (·.getLsbD c) (h.rd k hk hne)

theorem LinkRaised.reg_fld (h : LinkRaised b z s) (hk : eventReg k = false) (hne : k ≠ Reg.HST_LINK_EVT) (lo w : Nat) :
    s.fld k lo w = z.fld k lo w := congrArg (fieldOf · lo w) (h.rd k hk hne)

theorem LinkRaised.dropped (h : LinkRaised b z s) : s.dropped = z.dropped :=
  congrArg (BitVec.ofNat 4) (h.reg_fld (by decide) (by decide) 0 4)

/-! ### What waited for the link, while nothing waits in the bridge -/

theorem State.sendPending_rests : Rests s s.sendPending := by
  have hltr : Rests s s.sendLtrDue := .ite ((Settled.refl s).upd.send (o := .ltr (s.rd Reg.HST_LTR_US).toNat)).toRests (.refl s)
  unfold State.sendPending
  dsimp only
  split
  · exact hltr.forAll _ fun _ _ ht => .ite (ht.trans (Settled.refl _).sendMessage.toRests) ht
  · exact hltr.forAll _ fun _ _ ht => .ite (ht.trans (Settled.refl _).sendMessage.toRests) ht
  · exact hltr

/-- Nothing of the satellite bridge goes where nothing waits there. -/
theorem State.released_of_calm (h : calm s = true) : s.released = s.sendPending := by
  obtain ⟨-, -, -, htohost, hsplits, hjobs⟩ := calm_iff.1 (State.sendPending_rests.quiet h)
  generalize hu : s.sendPending = u at htohost hsplits hjobs
  have hflush : u.flushToHost = u := by
    simp only [State.flushToHost, State.finishAll, htohost, hjobs, List.length_nil, List.range_zero, List.foldl_nil, State.finishJobs,
      ite_self]
  have hsplit (m : Nat) : u.issueSplit m = u := by
    have hnone : u.splitOf m = none := by
      rw [State.splitOf, hsplits]
      rfl
    rw [State.issueSplit, hnone]
  rw [State.released, hu, hflush]
  exact (congrArg (State.issueSplit · 1) (hsplit 0)).trans (hsplit 1)

theorem LinkStands.released (h : LinkStands z s) (hcalm : calm s = true) : LinkStands z s.released := by
  rw [State.released_of_calm hcalm]
  exact h.sendPending

end

end Sys2Proof.Machine
end

section
/-!
PROOFS. The lanes of the host link, its training and its equalisation (R149, R152 to R155, R172, R173); the settling of O18.
-/

namespace Sys2Proof.Machine
open Sys2Proof.Claims

section
variable {s t : State} {b c k l : Nat}

/-! ### One bit of every lane -/

/-- A bit of every HST_LANE_STS is set anew. -/
def State.laneBits (s : State) (b : Nat) (g : Nat → Bool) : State :=
  s.forAll (List.range 4) fun t l => t.setBit (Reg.HST_LANE_STS l) b (g l)

theorem State.setLane_bit {a : Nat} {x : Bool} (hb : b < 18) : (s.setBit (Reg.HST_LANE_STS a) b x).bit (Reg.HST_LANE_STS l) c =
    if l = a ∧ c = b then x else s.bit (Reg.HST_LANE_STS l) c := by
  by_cases hl : l = a
  · subst hl
    by_cases hc : c = b
    · rw [hc, State.setBit_bit_self hb, if_pos ⟨rfl, rfl⟩]
    · rw [State.setBit_bit_of_ne hb hc, if_neg fun h => hc h.2]
  · rw [State.setBit_bit_other (by simp only [Reg.HST_LANE_STS]; omega), if_neg fun h => hl h.1]

theorem State.foldl_setLane_bit {g : Nat → Bool} (hb : b < 18) (ls : List Nat) :
    (ls.foldl (fun t l => t.setBit (Reg.HST_LANE_STS l) b (g l)) s).bit (Reg.HST_LANE_STS l) c =
      if l ∈ ls ∧ c = b then g l else s.bit (Reg.HST_LANE_STS l) c := by
  induction ls generalizing s with
  | nil => simp
  | cons a ls ih =>
    rw [List.foldl_cons, ih, State.setLane_bit hb]
    by_cases hl : l = a
    · subst hl
      by_cases hc : c = b
      · simp [hc]
      · simp [hc]
    · simp [hl]

theorem State.laneBits_bit {g : Nat → Bool} (hb : b < 18) (hl : l < 4) : (s.laneBits b g).bit (Reg.HST_LANE_STS l) b = g l :=
  (State.foldl_setLane_bit hb _).trans (if_pos ⟨List.mem_range.2 hl, rfl⟩)

theorem State.laneBits_bit_ne {g : Nat → Bool} (hb : b < 18) (hc : c ≠ b) :
    (s.laneBits b g).bit (Reg.HST_LANE_STS l) c = s.bit (Reg.HST_LANE_STS l) c :=
  (State.foldl_setLane_bit hb _).trans (if_neg fun h => hc h.2)

/-- A register that is none of the HST_LANE_STS. -/
abbrev offLanes (k : Nat) : Prop := k < Reg.HST_LANE_STS 0 ∨ Reg.HST_LANE_STS 4 ≤ k

theorem offLanes.ne (h : offLanes k) (hl : l < 4) : k ≠ Reg.HST_LANE_STS l := by
  simp only [offLanes, Reg.HST_LANE_STS] at h ⊢
  omega

theorem State.forAll_lanes_rd {f : State → Nat → State} (hk : offLanes k)
    (hf : ∀ u l, l < 4 → k ≠ Reg.HST_LANE_STS l → (f u l).rd k = u.rd k) : (s.forAll (List.range 4) f).rd k = s.rd k :=
  List.foldlRecOn (List.range 4) f (motive := fun u => u.rd k = s.rd k) rfl fun u hu l hl =>
    (hf u l (List.mem_range.1 hl) (hk.ne (List.mem_range.1 hl))).trans hu

theorem State.laneBits_rd {g : Nat → Bool} (hk : offLanes k) : (s.laneBits b g).rd k = s.rd k :=
  State.forAll_lanes_rd hk fun _ _ _ hne => State.setBit_rd_ne _ hne _ _

/-- Events are not reported through the HST_LANE_STS. -/
theorem lane_quiet (hl : l < 4) : eventReg (Reg.HST_LANE_STS l) = false ∧ Reg.HST_LANE_STS l ≠ Reg.HST_LINK_EVT := by
  revert l
  decide

/-! ### The configured and the dropped lanes (R149, R168, R173) -/

/-- The width of a configuration of lanes; 0 for lanes that form none. -/
def laneWidth (m : BitVec 4) : Nat := ((laneConfig m).map (·.1)).getD 0

theorem laneWidth_lt (m : BitVec 4) : laneWidth m < 8 := by
  revert m
  decide

theorem State.setLanes_eq (m : BitVec 4) (rev : Bool) : s.setLanes m rev =
    (((s.setFld Reg.HST_LINK_STS 5 3 (laneWidth m)).setBit Reg.HST_LINK_STS 8 rev).setFld Reg.HST_LINK_STS 9 4 m.toNat).laneBits 0 m.getLsbD :=
  rfl

theorem State.setLanes_link (m : BitVec 4) (rev : Bool) : (s.setLanes m rev).rd Reg.HST_LINK_STS =
    withField (withField (withField (s.rd Reg.HST_LINK_STS) 5 3 (laneWidth m)) 8 1 (flag rev)) 9 4 m.toNat := by
  rw [State.setLanes_eq, State.laneBits_rd (by decide), State.setFld_rd_self, State.setBit_rd_self, State.setFld_rd_self]

theorem State.setLanes_rd {m : BitVec 4} {rev : Bool} (hk : offLanes k) (hne : k ≠ Reg.HST_LINK_STS) : (s.setLanes m rev).rd k = s.rd k := by
  rw [State.setLanes_eq, State.laneBits_rd hk, State.setFld_rd_ne _ hne, State.setBit_rd_ne _ hne, State.setFld_rd_ne _ hne]

theorem State.setLanes_bit {m : BitVec 4} {rev : Bool} (hl : l < 4) : (s.setLanes m rev).bit (Reg.HST_LANE_STS l) 0 = m.getLsbD l :=
  State.laneBits_bit (by decide) hl

theorem State.setDropped_eq (m : BitVec 4) : s.setDropped m =
    ((s.setFld Reg.HST_DROP_STS 0 4 m.toNat).setBit Reg.HST_LINK_STS 16 (decide (m ≠ 0))).laneBits 3 m.getLsbD := rfl

theorem State.setDropped_link (m : BitVec 4) :
    (s.setDropped m).rd Reg.HST_LINK_STS = withField (s.rd Reg.HST_LINK_STS) 16 1 (flag (decide (m ≠ 0))) := by
  rw [State.setDropped_eq, State.laneBits_rd (by decide), State.setBit_rd_self, State.setFld_rd_ne _ (by decide)]

theorem State.setDropped_drop (m : BitVec 4) : (s.setDropped m).rd Reg.HST_DROP_STS = withField (s.rd Reg.HST_DROP_STS) 0 4 m.toNat := by
  rw [State.setDropped_eq, State.laneBits_rd (by decide), State.setBit_rd_ne _ (by decide), State.setFld_rd_self]

theorem State.setDropped_bit {m : BitVec 4} (hl : l < 4) (hc : c ≠ 3) :
    (s.setDropped m).bit (Reg.HST_LANE_STS l) c = s.bit (Reg.HST_LANE_STS l) c := by
  rw [State.setDropped_eq, State.laneBits_bit_ne (by decide) hc, State.setBit_bit_other (offLanes.ne (by decide) hl).symm, State.bit,
    State.setFld_rd_ne _ (offLanes.ne (by decide) hl).symm, State.bit]

theorem State.setLanes_rests (m : BitVec 4) (rev : Bool) : Rests s (s.setLanes m rev) :=
  (Rests.refl s).setFld.setBit.setFld.forAll _ fun _ _ hu => hu.setBit

theorem State.setDropped_rests (m : BitVec 4) : Rests s (s.setDropped m) :=
  (Rests.refl s).setFld.setBit.forAll _ fun _ _ hu => hu.setBit

theorem State.laneBits_linkSt {g : Nat → Bool} : (s.laneBits b g).link = s.link :=
  State.forAll_keeps State.link (f := fun t l => t.setBit (Reg.HST_LANE_STS l) b (g l)) (fun _ _ => rfl) _ s

theorem State.setLanes_linkSt (m : BitVec 4) (rev : Bool) : (s.setLanes m rev).link = s.link := State.laneBits_linkSt

theorem State.setDropped_linkSt (m : BitVec 4) : (s.setDropped m).link = s.link := State.laneBits_linkSt

/-- The lanes that HST_DROP_STS shows as dropped. -/
theorem State.dropped_of_rd {m : BitVec 4} {v : Word} (h : s.rd Reg.HST_DROP_STS = v) (hv : fieldOf v 0 4 = m.toNat) : s.dropped = m := by
  rw [State.dropped, State.fld, h, hv, BitVec.ofNat_toNat, BitVec.setWidth_eq]

theorem fieldOf_withField_toNat {v : Word} {lo : Nat} {m : BitVec 4} (h : lo + 4 ≤ 18) : fieldOf (withField v lo 4 m.toNat) lo 4 = m.toNat := by
  rw [fieldOf_withField_self h, Nat.mod_eq_of_lt m.isLt]

/-! ### Host transmit for a width and a rate (R258) -/

theorem State.replanTransmit_frame : s.replanTransmit.regs = s.regs ∧ s.replanTransmit.link = s.link ∧ Rests s s.replanTransmit := by
  unfold State.replanTransmit
  dsimp only
  split
  · exact ⟨rfl, rfl, .refl s⟩
  · exact ⟨rfl, rfl, (Rests.refl s).upd⟩

/-! ### Training (R149, R172) -/

/-- The registers of a link that has trained at a rate, over the lanes `lanes`, while the lanes `d` stay dropped. -/
def State.lanesTrained (s : State) (rate : Nat) (lanes inverted : BitVec 4) (rev : Bool) (d : BitVec 4) : State :=
  let t := ((s.wr Reg.HST_LINK_STS (word (3 + rate * 8 + 2 ^ 17))).setLanes lanes rev).setDropped d
  let t := t.laneBits 1 fun l => lanes.getLsbD l && inverted.getLsbD l
  (t.setFld Reg.HST_DROP_STS 4 4 0).setBit Reg.HST_LL_STS 1 false

/-- The record of a link that has trained: no lane has lost its lock, and no upconfigure is due before one has been dropped. -/
def State.trained (s : State) (rate : Nat) (lanes : BitVec 4) (upcfg : Bool) (w : Nat) (d : BitVec 4) : State :=
  { s with link := { s.link with partnerUpcfg := upcfg, detectRate := rate, detectWidth := w, detectLanes := lanes ||| d, unlocked := 0,
                                 l0At := none, eqRedo := false, upcfgRun := false, dropAt := if d = 0 then none else some s.now,
                                 noPartnerNoted := false, eq8 := s.link.eq8 || decide (2 ≤ rate), eq16 := s.link.eq16 || decide (3 ≤ rate),
                                 ltrAt := none, ltrDue := false, clkreq := true, quietAt := none }
           nrg := { s.nrg with nextScale := some (1, 1) } }

/-- The lanes in use are told the N_FTS of their rate. -/
def State.nFtsSent (s : State) (rate : Nat) (lanes : BitVec 4) : State :=
  (List.range 4).foldl (fun t l => if lanes.getLsbD l then t.send (.laneMsg l (.nFts (nFts rate))) else t) s

section
variable {rate w : Nat} {lanes inv d : BitVec 4} {rev upcfg : Bool}

theorem State.linkUpOp_trains {wiring : LaneWiring} {r : Bool} (htrain : s.training = true) (hdown : s.linkUp = false)
    (hlanes : laneConfig lanes = some (w, r)) (hrate : rate ≤ s.rateCap) (hwidth : w ≤ s.widthCap) :
    s.linkUpOp rate lanes wiring upcfg = ((((s.lanesTrained rate lanes wiring.inverted (if w = 4 then wiring.reversed else r)
      (s.dropped &&& ~~~lanes)).trained rate lanes upcfg w (s.dropped &&& ~~~lanes)).nFtsSent rate lanes).raiseLink 0).sendPending := by
  have hgo : (!s.training || decide (s.rateCap < rate ∨ s.widthCap < w)) = false := by
    rw [htrain, decide_eq_false (by omega)]
    rfl
  unfold State.linkUpOp
  simp only [hlanes, hgo, hdown, Bool.false_eq_true, if_false, State.trained, State.lanesTrained, State.nFtsSent, State.laneBits]

theorem State.lanesTrained_link : (s.lanesTrained rate lanes inv rev d).rd Reg.HST_LINK_STS =
    withField (withField (withField (withField (word (3 + rate * 8 + 2 ^ 17)) 5 3 (laneWidth lanes)) 8 1 (flag rev)) 9 4 lanes.toNat) 16 1
      (flag (decide (d ≠ 0))) := by
  rw [State.lanesTrained, State.setBit_rd_ne _ (by decide), State.setFld_rd_ne _ (by decide), State.laneBits_rd (by decide),
    State.setDropped_link, State.setLanes_link, State.wr_rd_self]

/-- A link that has trained is in L0, awake, at its rate and over its lanes. -/
structure LinkUpShown (rate : Nat) (lanes inverted : BitVec 4) (s : State) : Prop where
  up : s.linkUp = true
  state : s.ltssm = 3
  rate : s.linkRate = rate
  width : s.linkWidth = laneWidth lanes
  mask : s.fld Reg.HST_LINK_STS 9 4 = lanes.toNat
  awake : s.bit Reg.HST_LL_STS 1 = false
  lane : ∀ l, l < 4 → s.bit (Reg.HST_LANE_STS l) 0 = lanes.getLsbD l ∧
    s.bit (Reg.HST_LANE_STS l) 1 = (lanes.getLsbD l && inverted.getLsbD l)

theorem State.lanesTrained_lane (hl : l < 4) : (s.lanesTrained rate lanes inv rev d).bit (Reg.HST_LANE_STS l) 0 = lanes.getLsbD l ∧
    (s.lanesTrained rate lanes inv rev d).bit (Reg.HST_LANE_STS l) 1 = (lanes.getLsbD l && inv.getLsbD l) := by
  have hrd (u : State) : (((u.setFld Reg.HST_DROP_STS 4 4 0).setBit Reg.HST_LL_STS 1 false).rd (Reg.HST_LANE_STS l)) = u.rd (Reg.HST_LANE_STS l) :=
    (State.setBit_rd_ne _ (offLanes.ne (by decide) hl).symm _ _).trans (State.setFld_rd_ne _ (offLanes.ne (by decide) hl).symm _ _ _)
  refine ⟨(congrArg (·.getLsbD 0) (hrd _)).trans ?_, (congrArg (·.getLsbD 1) (hrd _)).trans (State.laneBits_bit (by decide) hl)⟩
  exact (State.laneBits_bit_ne (by decide) (by decide)).trans ((State.setDropped_bit hl (by decide)).trans (State.setLanes_bit hl))

theorem State.lanesTrained_shows (hrate : rate < 4) : LinkUpShown rate lanes inv (s.lanesTrained rate lanes inv rev d) := by
  have hword : (word (3 + rate * 8 + 2 ^ 17)).toNat = 3 + rate * 8 + 2 ^ 17 := word_toNat (by omega)
  refine ⟨?_, ?_, ?_, ?_, ?_, State.setBit_bit_self (by decide), fun l hl => State.lanesTrained_lane hl⟩
  · rw [State.linkUp, State.bit, State.lanesTrained_link]
    simp only [getLsbD_withField]
    rw [if_neg (by omega), if_neg (by omega), if_neg (by omega), if_neg (by omega)]
    interval_cases rate <;> rfl
  · rw [State.ltssm, State.fld, State.lanesTrained_link]
    iterate 4 rw [fieldOf_withField_of_disjoint (by omega)]
    rw [fieldOf, hword]
    omega
  · rw [State.linkRate, State.fld, State.lanesTrained_link]
    iterate 4 rw [fieldOf_withField_of_disjoint (by omega)]
    rw [fieldOf, hword]
    omega
  · rw [State.linkWidth, State.fld, State.lanesTrained_link]
    iterate 3 rw [fieldOf_withField_of_disjoint (by omega)]
    exact (fieldOf_withField_self (by omega)).trans (Nat.mod_eq_of_lt (laneWidth_lt lanes))
  · rw [State.fld, State.lanesTrained_link, fieldOf_withField_of_disjoint (by omega), fieldOf_withField_toNat (by omega)]

theorem LinkUpShown.raised {u v : State} (h : LinkUpShown rate lanes inv v) (hu : u.regs = v.regs) (ht : LinkRaised b u t) :
    LinkUpShown rate lanes inv t := by
  have hbit (k c : Nat) : u.bit k c = v.bit k c := congrArg (·.getLsbD c) (State.rd_of_regs hu k)
  have hfld (k lo w : Nat) : u.fld k lo w = v.fld k lo w := congrArg (fieldOf · lo w) (State.rd_of_regs hu k)
  have hstate : u.ltssm = 3 := (hfld _ _ _).trans h.state
  have hawake : u.ltssm ≠ 5 := by
    rw [hstate]
    decide
  refine ⟨ht.linkUp.trans ((hbit _ _).trans h.up), (ht.awake hawake).1.trans hstate,
    (ht.fld (by decide) (by decide)).trans ((hfld _ _ _).trans h.rate), (ht.fld (by decide) (by decide)).trans ((hfld _ _ _).trans h.width),
    (ht.fld (by decide) (by decide)).trans ((hfld _ _ _).trans h.mask),
    (ht.reg_bit (by decide) (by decide) 1).trans ((hbit _ _).trans h.awake), fun l hl => ?_⟩
  obtain ⟨hlock, hinv⟩ := h.lane l hl
  obtain ⟨hreg, hne⟩ := lane_quiet hl
  exact ⟨(ht.reg_bit hreg hne 0).trans ((hbit _ _).trans hlock), (ht.reg_bit hreg hne 1).trans ((hbit _ _).trans hinv)⟩

theorem State.lanesTrained_rests : Rests s (s.lanesTrained rate lanes inv rev d) :=
  ((((((Rests.refl s).wr.trans (State.setLanes_rests lanes rev)).trans (State.setDropped_rests d)).forAll _ fun _ _ hu => hu.setBit).setFld).setBit)

theorem State.trained_regs : (s.trained rate lanes upcfg w d).regs = s.regs := rfl

theorem State.trained_upcfg : (s.trained rate lanes upcfg w d).link.training.partnerUpcfg = upcfg := rfl

theorem State.trained_rests : Rests s (s.trained rate lanes upcfg w d) := (Rests.refl s).upd

theorem State.nFtsSent_stands : LinkStands s (s.nFtsSent rate lanes) :=
  List.foldlRecOn _ _ (motive := LinkStands s) (.refl s) fun _ hu _ _ => .ite hu.send hu

theorem State.nFtsSent_rests : Rests s (s.nFtsSent rate lanes) :=
  (Rests.refl s).foldl _ fun _ _ hu => .ite (hu.trans (Settled.refl _).send.toRests) hu

theorem State.linkUpOp_raised {wiring : LaneWiring} {r : Bool} (htrain : s.training = true) (hdown : s.linkUp = false)
    (hlanes : laneConfig lanes = some (w, r)) (hrate : rate ≤ s.rateCap) (hwidth : w ≤ s.widthCap) (hcalm : calm s = true) :
    ∃ rev d, LinkRaised 0 ((s.lanesTrained rate lanes wiring.inverted rev d).trained rate lanes upcfg w d)
      (s.linkUpOp rate lanes wiring upcfg).released := by
  refine ⟨if w = 4 then wiring.reversed else r, s.dropped &&& ~~~lanes, ?_⟩
  rw [State.linkUpOp_trains htrain hdown hlanes hrate hwidth]
  exact (State.nFtsSent_stands.raised (State.raiseLink_raised (by decide))).stands ((LinkStands.refl _).sendPending.released
    (((((State.lanesTrained_rests.trans State.trained_rests).trans State.nFtsSent_rests).raiseBit (by decide)).trans
      State.sendPending_rests).quiet hcalm))

end

theorem laneWidth_of_config {lanes : BitVec 4} {w : Nat} {r : Bool} (hlanes : laneConfig lanes = some (w, r)) : laneWidth lanes = w := by
  rw [laneWidth, hlanes]
  rfl

theorem linkUp_completes {rate : Fin 4} {lanes : BitVec 4} {wiring : LaneWiring} {up : Bool} {w : Nat} {r : Bool}
    (htrain : s.training = true) (hdown : s.linkUp = false) (hlanes : laneConfig lanes = some (w, r)) (hrate : rate.val ≤ s.rateCap)
    (hwidth : w ≤ s.widthCap) (hcalm : calm s = true) :
    Completes (.linkUp rate lanes wiring up) s fun t =>
      t.linkUp = true ∧ t.ltssm = 3 ∧ t.linkRate = rate.val ∧ t.linkWidth = w ∧ t.fld Reg.HST_LINK_STS 9 4 = lanes.toNat ∧
      t.bit Reg.HST_LINK_EVT 0 = true ∧ t.bit Reg.HST_LL_STS 1 = false ∧ t.link.partnerUpcfg = up ∧
      ∀ l, l < 4 → t.bit (Reg.HST_LANE_STS l) 0 = lanes.getLsbD l ∧
        t.bit (Reg.HST_LANE_STS l) 1 = (lanes.getLsbD l && wiring.inverted.getLsbD l) := by
  obtain ⟨rev, d, ht⟩ := State.linkUpOp_raised (wiring := wiring) (upcfg := up) htrain hdown hlanes hrate hwidth hcalm
  have hshown := (State.lanesTrained_shows rate.isLt).raised State.trained_regs ht
  exact ⟨_, rfl, hshown.up, hshown.state, hshown.rate, hshown.width.trans (laneWidth_of_config hlanes), hshown.mask, ht.event, hshown.awake,
    (congrArg LinkSt.partnerUpcfg ht.training).trans State.trained_upcfg, hshown.lane⟩

end

section
variable {s t : State} {b c k l : Nat}

/-! ### Equalisation (R152 to R155) -/

theorem State.changeRate_shows {r : Nat} (hr : r < 4) : (s.changeRate r).linkRate = r ∧ (s.changeRate r).link.training = s.link.training ∧
    ∀ k, eventReg k = false → k ≠ Reg.HST_LINK_EVT → k ≠ Reg.HST_LINK_STS → (s.changeRate r).rd k = s.rd k := by
  by_cases hsame : s.linkRate = r
  · rw [State.changeRate, if_pos hsame]
    exact ⟨hsame, rfl, fun _ _ _ _ => rfl⟩
  · rw [State.changeRate, if_neg hsame]
    have hraise : LinkRaised 6 (s.setFld Reg.HST_LINK_STS 3 2 r) ((s.setFld Reg.HST_LINK_STS 3 2 r).raiseLink 6) :=
      State.raiseLink_raised (by decide)
    generalize (s.setFld Reg.HST_LINK_STS 3 2 r).raiseLink 6 = u at hraise
    obtain ⟨hregs, hlink, -⟩ := u.replanTransmit_frame
    refine ⟨?_, (congrArg LinkSt.training hlink).trans hraise.training, fun k hk hevt hsts => ?_⟩
    · rw [State.linkRate, State.fld, State.rd_of_regs hregs]
      exact (hraise.fld (by decide) (by decide)).trans ((State.setFld_fld_self (by decide)).trans (Nat.mod_eq_of_lt hr))
    · exact (State.rd_of_regs hregs k).trans ((hraise.rd k hk hevt).trans (State.setFld_rd_ne _ hsts _ _ _))

/-- What the device asks of the partner in Phase 2. -/
def State.phase2Asked (s : State) (mask : Word) (rs : List LaneEq) : State :=
  rs.foldl (fun t r => (phase2Requests mask r).foldl (fun t m => t.send (.laneMsg r.lane.val m)) t) s

/-- The chosen presets are shown. -/
def State.presetsShown (s : State) (mask : Word) (rs : List LaneEq) : State :=
  rs.foldl (fun t r => match bestPreset mask r.passing with
    | some e => t.setFld (Reg.HST_LANE_STS r.lane.val) 8 4 e.1.val
    | none => t) s

/-- Phase 2 has ended with the results `rs`. -/
def State.eqEnded (s : State) (mask : Word) (rs : List LaneEq) : State :=
  let t := (s.phase2Asked mask rs).presetsShown mask rs
  { t with link := { t.link with eqRedo := false } }

/-- What is said on a lane is not a packet: nothing else changes. -/
theorem State.send_laneMsg (m : LaneMsg) : s.send (.laneMsg l m) = { s with sent := .laneMsg l m :: s.sent } := rfl

theorem State.phase2Asked_regs (mask : Word) (rs : List LaneEq) : (s.phase2Asked mask rs).regs = s.regs :=
  State.foldl_keeps State.regs
    (fun u (r : LaneEq) => State.foldl_keeps State.regs (f := fun t m => t.send (.laneMsg r.lane.val m)) (fun _ _ => rfl) _ u) rs s

theorem State.eqEnded_rd {mask : Word} {rs : List LaneEq} (hk : offLanes k) : (s.eqEnded mask rs).rd k = s.rd k := by
  refine (State.foldl_keeps (State.rd · k) (fun u r => ?_) rs (s.phase2Asked mask rs)).trans (State.rd_of_regs (s.phase2Asked_regs mask rs) k)
  split
  · exact State.setFld_rd_ne _ (hk.ne r.lane.isLt) _ _ _
  · rfl

theorem State.eqEnded_preset {mask : Word} {r : LaneEq} {e : Fin 11 × BitVec 7} (he : bestPreset mask r.passing = some e) :
    (s.eqEnded mask [r]).fld (Reg.HST_LANE_STS r.lane.val) 8 4 = e.1.val := by
  have hshown (u : State) : u.presetsShown mask [r] = u.setFld (Reg.HST_LANE_STS r.lane.val) 8 4 e.1.val := by
    simp only [State.presetsShown, List.foldl_cons, List.foldl_nil, he]
  have hfld (u : State) : (u.presetsShown mask [r]).fld (Reg.HST_LANE_STS r.lane.val) 8 4 = e.1.val := by
    rw [hshown, State.setFld_fld_self (by decide), Nat.mod_eq_of_lt (by omega)]
  exact hfld _

/-- Where an equalisation of a rate fails, the rate is not offered again. -/
def State.eqLowered (s : State) (rate : Nat) : State := { s with link := { s.link with eqCap := rate - 1 } }

/-- An equalisation of a rate has been passed. -/
def State.eqPassed (s : State) (rate : Nat) : State :=
  { s with link := { s.link with eq8 := true, eq16 := s.link.eq16 || decide (rate = 3) } }

theorem State.eqDone_eq {rate : Nat} {rs : List LaneEq} (htrain : s.training = true) (hlow : 2 ≤ rate) (hcap : rate ≤ s.rateCap)
    (h16 : rate = 3 → s.link.eq8 = true) : s.eqDone rate rs =
      let t := s.eqEnded s.eqMask (eqMine s rs)
      if eqPasses s rs then if t.linkUp then (t.eqPassed rate).changeRate rate else t.eqPassed rate
      else (if t.linkUp && decide (rate ≤ t.linkRate) then (t.eqLowered rate).changeRate (rate - 1) else t.eqLowered rate).raiseLink 5 := by
  have hgo : (!s.training || decide (rate < 2) || decide (s.rateCap < rate) || (decide (rate = 3) && !s.link.eq8)) = false := by
    rw [htrain, decide_eq_false (by omega), decide_eq_false (by omega)]
    by_cases h : rate = 3
    · rw [h16 h]
      simp
    · simp [h]
  unfold State.eqDone
  rw [if_neg (by rw [hgo]; decide)]
  rfl

/-- The lanes' own registers are as the equalisation left them, whether it passed or not. -/
theorem State.eqDone_lane {rate : Nat} {rs : List LaneEq} (htrain : s.training = true) (hlow : 2 ≤ rate) (hcap : rate ≤ s.rateCap)
    (hrate : rate < 4) (h16 : rate = 3 → s.link.eq8 = true) (hl : l < 4) :
    (s.eqDone rate rs).rd (Reg.HST_LANE_STS l) = (s.eqEnded s.eqMask (eqMine s rs)).rd (Reg.HST_LANE_STS l) := by
  rw [State.eqDone_eq htrain hlow hcap h16]
  generalize s.eqEnded s.eqMask (eqMine s rs) = e
  obtain ⟨hreg, hevt⟩ := lane_quiet hl
  have hsts : Reg.HST_LANE_STS l ≠ Reg.HST_LINK_STS := (offLanes.ne (by decide) hl).symm
  have hchange (u : State) {r : Nat} (hr : r < 4) : (u.changeRate r).rd (Reg.HST_LANE_STS l) = u.rd (Reg.HST_LANE_STS l) :=
    (State.changeRate_shows hr).2.2 _ hreg hevt hsts
  have hraise (u : State) : (u.raiseLink 5).rd (Reg.HST_LANE_STS l) = u.rd (Reg.HST_LANE_STS l) :=
    (State.raiseLink_raised (by decide)).rd _ hreg hevt
  dsimp only
  split
  · split
    · exact hchange _ hrate
    · rfl
  · rw [hraise]
    split
    · exact hchange _ (by omega)
    · rfl

theorem State.eqDone_passes {rate : Nat} {rs : List LaneEq} (htrain : s.training = true) (hlow : 2 ≤ rate) (hcap : rate ≤ s.rateCap)
    (hrate : rate < 4) (h16 : rate = 3 → s.link.eq8 = true) (hok : eqPasses s rs = true) (hup : s.linkUp = true) : (s.eqDone rate rs).linkRate = rate := by
  have hup' : (s.eqEnded s.eqMask (eqMine s rs)).linkUp = true := (congrArg (·.getLsbD 17) (State.eqEnded_rd (by decide))).trans hup
  rw [State.eqDone_eq htrain hlow hcap h16, if_pos hok, if_pos hup']
  exact (State.changeRate_shows hrate).1

/-- An equalisation that fails ends below its rate (R155). -/
theorem State.eqDone_fails {rate : Nat} {rs : List LaneEq} (htrain : s.training = true) (hlow : 2 ≤ rate) (hcap : rate ≤ s.rateCap)
    (hrate : rate < 4) (h16 : rate = 3 → s.link.eq8 = true) (hok : eqPasses s rs = false) : (s.eqDone rate rs).bit Reg.HST_LINK_EVT 5 = true ∧
      (s.eqDone rate rs).link.eqCap = rate - 1 ∧ (s.linkUp = true → (s.eqDone rate rs).linkRate < rate) := by
  have hup : (s.eqEnded s.eqMask (eqMine s rs)).linkUp = s.linkUp := congrArg (·.getLsbD 17) (State.eqEnded_rd (by decide))
  rw [State.eqDone_eq htrain hlow hcap h16, if_neg (by rw [hok]; decide), ← hup]
  generalize s.eqEnded s.eqMask (eqMine s rs) = e
  split
  case isTrue =>
    obtain ⟨hrate', htraining, -⟩ := State.changeRate_shows (s := e.eqLowered rate) (r := rate - 1) (by omega)
    have hraise := State.raiseLink_raised (s := (e.eqLowered rate).changeRate (rate - 1)) (b := 5) (by decide)
    refine ⟨hraise.event, (congrArg LinkSt.eqCap (hraise.training.trans htraining)).trans rfl, fun _ => ?_⟩
    rw [State.linkRate, hraise.fld (by decide) (by decide), ← State.linkRate, hrate']
    omega
  case isFalse h =>
    have hraise := State.raiseLink_raised (s := e.eqLowered rate) (b := 5) (by decide)
    refine ⟨hraise.event, (congrArg LinkSt.eqCap hraise.training).trans rfl, fun he => ?_⟩
    rw [he, Bool.true_and, decide_eq_true_eq, Nat.not_le] at h
    rw [State.linkRate, hraise.fld (by decide) (by decide)]
    exact h

theorem eqPhase2Done_completes {rate : Fin 4} {rs : List LaneEq} (htrain : s.training = true) (hlow : 2 ≤ rate.val) (hcap : rate.val ≤ s.rateCap)
    (h16 : rate.val = 3 → s.link.eq8 = true) :
    Completes (.eqPhase2Done rate rs) s fun t =>
      (eqPasses s rs = true → s.linkUp = true → t.linkRate = rate.val) ∧
      (eqPasses s rs = false → t.bit Reg.HST_LINK_EVT 5 = true ∧ t.link.eqCap = rate.val - 1 ∧ (s.linkUp = true → t.linkRate < rate.val)) ∧
      (∀ r e, eqMine s rs = [r] → bestPreset s.eqMask r.passing = some e → t.fld (Reg.HST_LANE_STS r.lane.val) 8 4 = e.1.val) := by
  refine ⟨_, rfl, State.eqDone_passes htrain hlow hcap rate.isLt h16, State.eqDone_fails htrain hlow hcap rate.isLt h16, fun r e hmine he => ?_⟩
  have hrd := State.eqDone_lane (rs := rs) htrain hlow hcap rate.isLt h16 r.lane.isLt
  rw [hmine] at hrd
  exact (congrArg (fieldOf · 8 4) hrd).trans (State.eqEnded_preset he)

theorem eqPhase3Request_completes {lane : Fin 4} {q : EqRequest} (htrain : s.training = true) :
    Completes (.eqPhase3Request lane q) s fun t =>
      match q with
      | .preset p =>
        (p.toNat ≤ 10 → t.fld (Reg.HST_LANE_STS lane.val) 4 4 = p.toNat) ∧
        (10 < p.toNat → SameRegsBut s t eventReg ∧ t.sent = Output.laneMsg lane.val .rejected :: s.sent)
      | .coefficients a b c legal =>
        (legal = true → Tab.get 0 t.link.coefficients lane.val = a.toNat + 64 * b.toNat + 4096 * c.toNat) ∧
        (legal = false → t.link = s.link ∧ t.sent = Output.laneMsg lane.val .rejected :: s.sent) ∧ SameRegsBut s t eventReg := by
  refine ⟨s.eqRequest lane.val q, rfl, ?_⟩
  unfold State.eqRequest
  rw [if_neg (by rw [htrain]; decide)]
  cases q with
  | preset p =>
    refine ⟨fun hp => ?_, fun hp => ?_⟩
    · dsimp only
      rw [if_pos hp]
      have hset := State.setFld_fld_self (s := s) (k := Reg.HST_LANE_STS lane.val) (lo := 4) (w := 4) (n := p.toNat) (by decide)
      exact hset.trans (Nat.mod_eq_of_lt (by omega))
    · dsimp only
      rw [if_neg (by omega)]
      exact ⟨⟨fun _ _ => rfl, fun _ => rfl, rfl⟩, rfl⟩
  | coefficients a b c legal =>
    cases legal with
    | true =>
      dsimp only
      rw [if_pos rfl, State.send_laneMsg]
      exact ⟨fun _ => Tab.get_set_self, nofun, fun _ _ => rfl, fun _ => rfl, rfl⟩
    | false =>
      dsimp only
      rw [if_neg (by decide), State.send_laneMsg]
      exact ⟨nofun, fun _ => ⟨rfl, rfl⟩, fun _ _ => rfl, fun _ => rfl, rfl⟩

end

/-- Settles O18: a training, a Phase 2 result and a Phase 3 request each read off from what their operation leaves. -/
theorem linkTrains : Obligations.LinkTrains := by
  unfold Obligations.LinkTrains
  exact ⟨fun _ _ _ _ _ _ _ htrain hdown hlanes hrate hwidth hcalm => linkUp_completes htrain hdown hlanes hrate hwidth hcalm,
    fun _ _ _ htrain hlow hcap h16 => eqPhase2Done_completes htrain hlow hcap h16, fun _ _ _ htrain => eqPhase3Request_completes htrain⟩

end Sys2Proof.Machine
end

section
/-!
PROOFS. A lane that fails, is dropped and comes back (R166 to R169); the settling of O19.
-/

namespace Sys2Proof.Machine
open Sys2Proof.Claims

section
variable {s t u : State} {b k l : Nat} {m d : BitVec 4}

/-! ### Entering Recovery (R157, R166) -/

theorem State.abortEye_rd (hk : k ≠ Reg.HST_EYE_CTL) : (s.abortEye false).rd k = s.rd k := by
  unfold State.abortEye
  split
  · exact (State.setBit_rd_ne _ hk _ _).trans (State.setBit_rd_ne _ hk _ _)
  · rfl

theorem State.abortEye_rests : Rests s (s.abortEye false) := by
  have hset : Rests s ((s.setBit Reg.HST_EYE_CTL 3 false).setBit Reg.HST_EYE_CTL 4 true) := (Rests.refl s).setBit.setBit
  unfold State.abortEye
  split
  · exact hset.upd
  · exact .refl s

theorem State.enterRecovery_rd (hsts : k ≠ Reg.HST_LINK_STS) (hcount : k ≠ Reg.HST_RECOV_CNT) (heye : k ≠ Reg.HST_EYE_CTL) :
    s.enterRecovery.rd k = s.rd k :=
  (State.abortEye_rd heye).trans (State.toRecovery_rd hsts hcount)

theorem State.enterRecovery_ltssm : s.enterRecovery.ltssm = 4 :=
  (congrArg (fieldOf · 0 3) (State.abortEye_rd (by decide))).trans State.toRecovery_ltssm

theorem State.enterRecovery_count : s.enterRecovery.rd Reg.HST_RECOV_CNT = satAdd (s.rd Reg.HST_RECOV_CNT) 1 :=
  (State.abortEye_rd (by decide)).trans State.toRecovery_count

theorem State.enterRecovery_rests : Rests s s.enterRecovery := (Settled.refl s).toRecovery.toRests.trans State.abortEye_rests

/-! ### A link in Recovery, or back from it -/

theorem State.released_stands (h : Rests s u) (hcalm : calm s = true) : LinkStands u u.released :=
  (LinkStands.refl u).released (h.quiet hcalm)

/-- In Recovery nothing that waited takes the link on. -/
theorem LinkStands.recovering (h : LinkStands u t) (hu : u.ltssm = 4) :
    t.ltssm = 4 ∧ t.rd Reg.HST_RECOV_CNT = u.rd Reg.HST_RECOV_CNT := by
  obtain ⟨hstate, hcount⟩ := h.awake (by rw [hu]; decide)
  exact ⟨hstate.trans hu, hcount⟩

/-! ### A loss of lock (R166) -/

/-- A lane has lost its lock. -/
def State.lockLost (s : State) (l : Nat) : State :=
  let t := s.setBit (Reg.HST_LANE_STS l) 0 false
  if 2 ≤ s.linkRate then t.setCfg 94 (t.cfgD 94 ||| BitVec.ofNat 32 (2 ^ l)) else t

/-- The lane is the first to be noted; no failure of a Recovery is. -/
def State.firstLoss (s : State) (l : Nat) : State :=
  let t := { s with link := { s.link with unlocked := 0 } }.setFld Reg.HST_DROP_STS 4 4 0
  { t with link := { t.link with unlocked := t.link.unlocked ||| BitVec.ofNat 4 (2 ^ l) } }

/-- The loss of lock of a lane is counted, with the link in L0 and no loss in the last 100 ms. -/
def State.lossNoted (s : State) (l : Nat) : State :=
  ((s.lockLost l).setFld (Reg.HST_LANE_STS l) 12 6 (satTo 63 ((s.lockLost l).fld (Reg.HST_LANE_STS l) 12 6) 1)).firstLoss l

theorem State.lockLoss_eq (hup : s.linkUp = true) (hactive : s.activeLane l = true) (hlock : s.bit (Reg.HST_LANE_STS l) 0 = true)
    (hstate : s.ltssm = 3) (hfirst : s.link.l0At = none) : s.lockLoss l = (s.lossNoted l).enterRecovery := by
  unfold State.lockLoss
  simp only [hup, hactive, hlock, hstate, hfirst, State.lossNoted, State.lockLost, State.firstLoss, Bool.not_true, Bool.or_false,
    Bool.false_eq_true, if_false, if_true, Bool.false_and]

theorem State.lockLost_regs : (s.lockLost l).regs = (s.setBit (Reg.HST_LANE_STS l) 0 false).regs := by
  unfold State.lockLost
  split
  · rfl
  · rfl

theorem State.lockLost_rests : Rests s (s.lockLost l) := by
  have hset : Rests s (s.setBit (Reg.HST_LANE_STS l) 0 false) := (Rests.refl s).setBit
  unfold State.lockLost
  split
  · exact hset.upd
  · exact hset

theorem State.firstLoss_rd (hk : k ≠ Reg.HST_DROP_STS) : (s.firstLoss l).rd k = s.rd k :=
  State.setFld_rd_ne { s with link := { s.link with unlocked := 0 } } hk _ _ _

theorem State.firstLoss_rests : Rests s (s.firstLoss l) := by
  have hnone : Rests s { s with link := { s.link with unlocked := 0 } } := (Rests.refl s).upd
  have hset := hnone.setFld (k := Reg.HST_DROP_STS) (lo := 4) (w := 4) (n := 0)
  exact hset.upd

theorem State.lossNoted_lane (hl : l < 4) : (s.lossNoted l).rd (Reg.HST_LANE_STS l) =
    withField (withField (s.rd (Reg.HST_LANE_STS l)) 0 1 0) 12 6 (min 63 (s.fld (Reg.HST_LANE_STS l) 12 6 + 1)) := by
  have hlost : (s.lockLost l).rd (Reg.HST_LANE_STS l) = withField (s.rd (Reg.HST_LANE_STS l)) 0 1 0 :=
    (State.rd_of_regs State.lockLost_regs _).trans (State.setBit_rd_self _ _ _ _)
  rw [State.lossNoted, State.firstLoss_rd (offLanes.ne (by decide) hl).symm, State.setFld_rd_self, State.fld, hlost,
    fieldOf_withField_of_disjoint (by omega), satTo, State.fld]

theorem State.lossNoted_rd (hk : offLanes k) (hne : k ≠ Reg.HST_DROP_STS) (hl : l < 4) : (s.lossNoted l).rd k = s.rd k := by
  rw [State.lossNoted, State.firstLoss_rd hne, State.setFld_rd_ne _ (hk.ne hl), State.rd_of_regs State.lockLost_regs,
    State.setBit_rd_ne _ (hk.ne hl)]

theorem State.lossNoted_rests : Rests s (s.lossNoted l) := (State.lockLost_rests.setFld).trans State.firstLoss_rests

theorem laneLockLoss_completes {lane : Fin 4} (hup : s.linkUp = true) (hactive : s.activeLane lane.val = true)
    (hlock : s.bit (Reg.HST_LANE_STS lane.val) 0 = true) (hstate : s.ltssm = 3) (hfirst : s.link.l0At = none) (hcalm : calm s = true) :
    Completes (.laneLockLoss lane) s fun t =>
      t.ltssm = 4 ∧ t.bit (Reg.HST_LANE_STS lane.val) 0 = false ∧
      t.fld (Reg.HST_LANE_STS lane.val) 12 6 = min 63 (s.fld (Reg.HST_LANE_STS lane.val) 12 6 + 1) ∧
      t.rd Reg.HST_RECOV_CNT = satAdd (s.rd Reg.HST_RECOV_CNT) 1 := by
  have hrests : Rests s (s.lossNoted lane.val).enterRecovery := State.lossNoted_rests.trans State.enterRecovery_rests
  have ht := State.released_stands hrests hcalm
  obtain ⟨hltssm, hcount⟩ := ht.recovering State.enterRecovery_ltssm
  obtain ⟨hreg, -⟩ := lane_quiet lane.isLt
  have hlane : (s.lossNoted lane.val).enterRecovery.released.rd (Reg.HST_LANE_STS lane.val) = _ :=
    (ht.rd _ hreg).trans ((State.enterRecovery_rd (offLanes.ne (by decide) lane.isLt).symm (offLanes.ne (by decide) lane.isLt).symm
      (offLanes.ne (by decide) lane.isLt).symm).trans (State.lossNoted_lane lane.isLt))
  have hop := State.lockLoss_eq hup hactive hlock hstate hfirst
  rw [← hop] at hltssm hcount hlane
  refine ⟨_, rfl, hltssm, ?_, ?_, ?_⟩
  · rw [State.bit, hlane, getLsbD_withField, getLsbD_withField]
    rfl
  · rw [State.fld, hlane, fieldOf_withField_self (by omega)]
    omega
  · rw [hcount, hop, State.enterRecovery_count, State.lossNoted_rd (by decide) (by decide) lane.isLt]

/-! ### A Recovery that fails (R166, R167) -/

theorem fieldOf_withField_within {v : Word} {lo w n lo' w' : Nat} (hlo : lo ≤ lo') (hin : lo' + w' ≤ lo + w) (h : lo + w ≤ 18) :
    fieldOf (withField v lo w n) lo' w' = n / 2 ^ (lo' - lo) % 2 ^ w' := by
  apply Nat.eq_of_testBit_eq
  intro j
  rw [testBit_fieldOf, getLsbD_withField, Nat.testBit_mod_two_pow, ← Nat.shiftRight_eq_div_pow, Nat.testBit_shiftRight]
  by_cases hj : j < w'
  · rw [if_pos (by omega), show lo' + j - lo = lo' - lo + j by omega]
  · simp [hj]

/-- The next Recovery asks for an equalisation redo, or not. -/
def State.redoAsked (s : State) (redo : Bool) : State :=
  let t := { s with link := { s.link with eqRedo := redo } }
  if redo then t.forAll (List.range 4) fun t l => if t.activeLane l then t.send (.laneMsg l .redo) else t else t

theorem State.redoAsked_regs {redo : Bool} : (s.redoAsked redo).regs = s.regs := by
  have hsend (v : State) (i : Nat) : (if v.activeLane i then v.send (.laneMsg i .redo) else v).regs = v.regs := by
    split
    · rfl
    · rfl
  unfold State.redoAsked
  split
  · exact State.forAll_keeps State.regs hsend _ _
  · rfl

theorem State.redoAsked_rests {redo : Bool} : Rests s (s.redoAsked redo) := by
  have hset : Rests s { s with link := { s.link with eqRedo := redo } } := (Rests.refl s).upd
  unfold State.redoAsked
  split
  · exact hset.forAll _ fun _ _ hu => .ite (hu.trans (Settled.refl _).send.toRests) hu
  · exact hset

/-- The first failure is noted for the lane, and the next Recovery is entered. -/
theorem State.recoveryFailed_first (h : s.fld Reg.HST_DROP_STS 4 2 = 0) :
    ∃ redo, s.recoveryFailed l = (s.setFld Reg.HST_DROP_STS 4 4 (0 + 1 + 4 * l)).enterRecovery.redoAsked redo := by
  unfold State.recoveryFailed
  simp only [h, true_or, decide_true, if_true]
  exact ⟨_, if_neg (by decide)⟩

theorem State.recoveryFailed_third (h : 2 ≤ s.fld Reg.HST_DROP_STS 4 2) (hl : s.fld Reg.HST_DROP_STS 6 2 = l) :
    s.recoveryFailed l = s.dropLane l := by
  unfold State.recoveryFailed
  simp only [hl, or_true, decide_true]
  exact if_pos ⟨trivial, h⟩

theorem State.recoveryTimeout_eq (hup : s.linkUp = true) (hactive : s.activeLane l = true) (hlock : s.bit (Reg.HST_LANE_STS l) 0 = false)
    (hstate : s.ltssm = 4) (hlong : s.link.recoveryAt + 9600000 ≤ s.now) : s.recoveryTimeout l = s.recoveryFailed l := by
  have hpassed : s.passed s.link.recoveryAt (msTicks 24) = true := decide_eq_true hlong
  rw [State.recoveryTimeout, hup, hactive, hlock, hstate, hpassed]
  exact if_pos rfl

theorem State.recoveryFailed_counts (hl : l < 4) (hcalm : calm s = true) (h : s.fld Reg.HST_DROP_STS 4 2 = 0) :
    (s.recoveryFailed l).released.fld Reg.HST_DROP_STS 4 2 = 1 ∧ (s.recoveryFailed l).released.fld Reg.HST_DROP_STS 6 2 = l ∧
    (s.recoveryFailed l).released.ltssm = 4 ∧
    (s.recoveryFailed l).released.rd Reg.HST_RECOV_CNT = satAdd (s.rd Reg.HST_RECOV_CNT) 1 := by
  obtain ⟨redo, hop⟩ := State.recoveryFailed_first (l := l) h
  have hrd (j : Nat) := State.rd_of_regs (State.redoAsked_regs (s := (s.setFld Reg.HST_DROP_STS 4 4 (0 + 1 + 4 * l)).enterRecovery) (redo := redo)) j
  have hrests : Rests s (s.recoveryFailed l) :=
    hop ▸ ((Rests.refl s).setFld.trans State.enterRecovery_rests).trans State.redoAsked_rests
  have ht := State.released_stands hrests hcalm
  rw [← hop] at hrd
  obtain ⟨hltssm, hcount⟩ := ht.recovering ((congrArg (fieldOf · 0 3) (hrd _)).trans State.enterRecovery_ltssm)
  have hdrop : (s.recoveryFailed l).released.rd Reg.HST_DROP_STS = withField (s.rd Reg.HST_DROP_STS) 4 4 (0 + 1 + 4 * l) := by
    rw [ht.rd _ (by decide), hrd, State.enterRecovery_rd (by decide) (by decide) (by decide), State.setFld_rd_self]
  refine ⟨?_, ?_, hltssm, ?_⟩
  · rw [State.fld, hdrop, fieldOf_withField_within (by omega) (by omega) (by omega)]
    omega
  · rw [State.fld, hdrop, fieldOf_withField_within (by omega) (by omega) (by omega)]
    omega
  · rw [hcount, hrd, State.enterRecovery_count, State.setFld_rd_ne _ (by decide)]

/-! ### Other lanes are configured (R168, R169) -/

/-- The lanes `m` are configured, and the lanes `d` dropped. -/
def State.lanesSet (s : State) (m d : BitVec 4) : State := (s.setLanes m (((laneConfig m).map (·.2)).getD false)).setDropped d

theorem State.lanesSet_link : ∃ rev, (s.lanesSet m d).rd Reg.HST_LINK_STS =
    withField (withField (withField (withField (s.rd Reg.HST_LINK_STS) 5 3 (laneWidth m)) 8 1 rev) 9 4 m.toNat) 16 1 (flag (decide (d ≠ 0))) := by
  refine ⟨flag (((laneConfig m).map (·.2)).getD false), ?_⟩
  rw [State.lanesSet, State.setDropped_link, State.setLanes_link]

theorem State.lanesSet_shows : (s.lanesSet m d).linkWidth = laneWidth m ∧ (s.lanesSet m d).fld Reg.HST_LINK_STS 9 4 = m.toNat ∧
    (s.lanesSet m d).ltssm = s.ltssm := by
  obtain ⟨rev, hrd⟩ := State.lanesSet_link (s := s) (m := m) (d := d)
  refine ⟨?_, ?_, ?_⟩
  · rw [State.linkWidth, State.fld, hrd]
    iterate 3 rw [fieldOf_withField_of_disjoint (by omega)]
    exact (fieldOf_withField_self (by omega)).trans (Nat.mod_eq_of_lt (laneWidth_lt m))
  · rw [State.fld, hrd, fieldOf_withField_of_disjoint (by omega), fieldOf_withField_toNat (by omega)]
  · rw [State.ltssm, State.fld, hrd]
    iterate 4 rw [fieldOf_withField_of_disjoint (by omega)]
    rfl

theorem State.lanesSet_dropped : (s.lanesSet m d).fld Reg.HST_DROP_STS 0 4 = d.toNat := by
  rw [State.fld, State.lanesSet, State.setDropped_drop, fieldOf_withField_toNat (by omega)]

theorem State.lanesSet_rests : Rests s (s.lanesSet m d) := (State.setLanes_rests _ _).trans (State.setDropped_rests _)

theorem State.lanesSet_linkSt : (s.lanesSet m d).link = s.link := (State.setDropped_linkSt _).trans (State.setLanes_linkSt _ _)

theorem State.dropped_of_fld (h : s.fld Reg.HST_DROP_STS 0 4 = d.toNat) : s.dropped = d := by
  rw [State.dropped, h, BitVec.ofNat_toNat, BitVec.setWidth_eq]

/-- An event of the link, and what waited for it. -/
theorem State.raiseLink_released (hb : b < 18) (h : Rests s u) (hcalm : calm s = true) :
    LinkRaised b u ((u.raiseLink b).sendPending).released :=
  (State.raiseLink_raised hb).stands ((LinkStands.refl _).sendPending.released
    (((h.raiseBit (by omega)).trans State.sendPending_rests).quiet hcalm))

/-- The same with Host transmit planned anew before it. -/
theorem State.replanned_released (hb : b < 18) (h : Rests s u) (hcalm : calm s = true) :
    LinkRaised b u ((u.replanTransmit.raiseLink b).sendPending).released := by
  obtain ⟨hregs, hlink, hrests⟩ := u.replanTransmit_frame
  have ht := State.raiseLink_released hb (h.trans hrests) hcalm
  exact ⟨(LinkShown.of_rd (State.rd_of_regs hregs _) (State.rd_of_regs hregs _) (congrArg LinkSt.training hlink)).trans ht.toLinkShown,
    fun k hk hne => (ht.rd k hk hne).trans (State.rd_of_regs hregs k), ht.event⟩

/-! ### The third failure drops the lane (R168) -/

/-- The record of a link that has lost a lane. -/
def State.lossForgotten (s : State) : State :=
  { s with link := { s.link with unlocked := 0, l0At := none, eqRedo := false, dropAt := some s.now } }

theorem State.lossForgotten_rd : s.lossForgotten.rd k = s.rd k := rfl

theorem State.lossForgotten_rests : Rests s s.lossForgotten := (Rests.refl s).upd

/-- The lane `l` is dropped: the link trains on over the lanes `m`. -/
def State.laneDropped (s : State) (l : Nat) (m : BitVec 4) : State :=
  (((s.lanesSet m (s.dropped ||| BitVec.ofNat 4 (2 ^ l))).setFld Reg.HST_DROP_STS 4 4 0).setFld Reg.HST_LINK_STS 0 3 3).lossForgotten

theorem State.dropLane_eq (hen : s.bit Reg.HST_PHY_CTL 7 = true)
    (hbest : bestLanes (s.link.detectLanes &&& ~~~(s.dropped ||| BitVec.ofNat 4 (2 ^ l))) = some m) :
    s.dropLane l = ((s.laneDropped l m).replanTransmit.raiseLink 2).sendPending := by
  unfold State.dropLane
  simp only [hen, hbest, Bool.not_true, Bool.false_eq_true, if_false, State.laneDropped, State.lanesSet,
    State.lossForgotten]

theorem State.laneDropped_rests : Rests s (s.laneDropped l m) := State.lanesSet_rests.setFld.setFld.trans State.lossForgotten_rests

theorem State.laneDropped_shows : (s.laneDropped l m).linkWidth = laneWidth m ∧ (s.laneDropped l m).fld Reg.HST_LINK_STS 9 4 = m.toNat ∧
    (s.laneDropped l m).ltssm = 3 ∧ (s.laneDropped l m).fld Reg.HST_DROP_STS 4 4 = 0 ∧
    (s.laneDropped l m).fld Reg.HST_DROP_STS 0 4 = (s.dropped ||| BitVec.ofNat 4 (2 ^ l)).toNat := by
  obtain ⟨hwidth, hmask, -⟩ := State.lanesSet_shows (s := s) (m := m) (d := s.dropped ||| BitVec.ofNat 4 (2 ^ l))
  have hdropped := State.lanesSet_dropped (s := s) (m := m) (d := s.dropped ||| BitVec.ofNat 4 (2 ^ l))
  generalize hv : s.lanesSet m (s.dropped ||| BitVec.ofNat 4 (2 ^ l)) = v at hwidth hmask hdropped
  have hlink : (s.laneDropped l m).rd Reg.HST_LINK_STS = withField (v.rd Reg.HST_LINK_STS) 0 3 3 := by
    rw [← hv, State.laneDropped, State.lossForgotten_rd, State.setFld_rd_self, State.setFld_rd_ne _ (by decide)]
  have hdrop : (s.laneDropped l m).rd Reg.HST_DROP_STS = withField (v.rd Reg.HST_DROP_STS) 4 4 0 := by
    rw [← hv, State.laneDropped, State.lossForgotten_rd, State.setFld_rd_ne _ (by decide), State.setFld_rd_self]
  refine ⟨?_, ?_, ?_, ?_, ?_⟩
  · rw [State.linkWidth, State.fld, hlink, fieldOf_withField_of_disjoint (by omega)]
    exact hwidth
  · rw [State.fld, hlink, fieldOf_withField_of_disjoint (by omega)]
    exact hmask
  · rw [State.ltssm, State.fld, hlink]
    exact fieldOf_withField_self (by omega)
  · rw [State.fld, hdrop]
    exact fieldOf_withField_self (by omega)
  · rw [State.fld, hdrop, fieldOf_withField_of_disjoint (by omega)]
    exact hdropped

theorem State.dropLane_drops (hen : s.bit Reg.HST_PHY_CTL 7 = true) (hcalm : calm s = true)
    (hbest : bestLanes (s.link.detectLanes &&& ~~~(s.dropped ||| BitVec.ofNat 4 (2 ^ l))) = some m) :
    LaneDropped s (s.dropLane l).released l m := by
  rw [State.dropLane_eq hen hbest]
  have ht := State.replanned_released (b := 2) (by decide) (State.laneDropped_rests (l := l) (m := m)) hcalm
  obtain ⟨hwidth, hmask, hstate, hfails, hdropped⟩ := State.laneDropped_shows (s := s) (l := l) (m := m)
  exact ⟨State.dropped_of_fld ((ht.reg_fld (by decide) (by decide) 0 4).trans hdropped), (ht.fld (by decide) (by decide)).trans hwidth,
    (ht.fld (by decide) (by decide)).trans hmask, ht.event, (ht.awake (by rw [hstate]; decide)).1.trans hstate,
    (ht.reg_fld (by decide) (by decide) 4 4).trans hfails⟩

theorem recoveryTimeout_completes {lane : Fin 4} (hup : s.linkUp = true) (hactive : s.activeLane lane.val = true)
    (hlock : s.bit (Reg.HST_LANE_STS lane.val) 0 = false) (hstate : s.ltssm = 4) (hlong : s.link.recoveryAt + 9600000 ≤ s.now)
    (hcalm : calm s = true) :
    Completes (.recoveryTimeout lane) s fun t =>
      (s.fld Reg.HST_DROP_STS 4 2 = 0 →
        t.fld Reg.HST_DROP_STS 4 2 = 1 ∧ t.fld Reg.HST_DROP_STS 6 2 = lane.val ∧ t.ltssm = 4 ∧
        t.rd Reg.HST_RECOV_CNT = satAdd (s.rd Reg.HST_RECOV_CNT) 1) ∧
      (∀ m, 2 ≤ s.fld Reg.HST_DROP_STS 4 2 → s.fld Reg.HST_DROP_STS 6 2 = lane.val → s.bit Reg.HST_PHY_CTL 7 = true →
        bestLanes (s.link.detectLanes &&& ~~~(s.dropped ||| BitVec.ofNat 4 (2 ^ lane.val))) = some m → LaneDropped s t lane.val m) := by
  have hop := State.recoveryTimeout_eq hup hactive hlock hstate hlong
  refine ⟨_, rfl, fun hfirst => ?_, fun m hfails hmine hen hbest => ?_⟩
  · rw [hop]
    exact State.recoveryFailed_counts lane.isLt hcalm hfirst
  · rw [hop, State.recoveryFailed_third hfails hmine]
    exact State.dropLane_drops hen hcalm hbest

/-! ### 100 ms without a loss, and back in L0 (R166) -/

theorem recoverySurvived_completes {a : Nat} (hl0 : s.link.l0At = some a) (hin : s.inL0 = true) (hlong : a + 40000000 ≤ s.now) :
    Completes .recoverySurvived s fun t =>
      t.fld Reg.HST_DROP_STS 4 4 = 0 ∧ t.dropped = s.dropped ∧ t.link.l0At = none ∧
      SameRegsBut s t (fun k => decide (k = Reg.HST_DROP_STS)) := by
  have hpassed : s.passed a (msTicks 100) = true := decide_eq_true hlong
  have hop : s.survived = { s with link := { s.link with l0At := none, unlocked := 0 } }.setFld Reg.HST_DROP_STS 4 4 0 := by
    simp only [State.survived, hl0, hin, hpassed, Bool.and_self, if_true]
  refine ⟨_, rfl, ?_⟩
  rw [hop]
  exact ⟨State.setFld_fld_self (by decide), congrArg (BitVec.ofNat 4) (State.setFld_fld_of_disjoint (by decide)), rfl,
    fun _ hj => State.setFld_rd_ne _ (of_decide_eq_false hj) _ _ _, fun _ => rfl, rfl⟩

/-- The losses since are dated from here on. -/
def State.lossesDated (s : State) : State :=
  { s with link := { s.link with l0At := if s.link.unlocked = 0 then none else some s.now, eqRedo := false } }

theorem State.lossesDated_rd : s.lossesDated.rd k = s.rd k := rfl

theorem State.lossesDated_rests : Rests s s.lossesDated := (Rests.refl s).upd

/-- The link is in L0 with its configured lanes locked. -/
def State.lanesLocked (s : State) : State :=
  let t := s.setFld Reg.HST_LINK_STS 0 3 3
  (t.setLanes (BitVec.ofNat 4 (t.fld Reg.HST_LINK_STS 9 4)) (t.bit Reg.HST_LINK_STS 8)).lossesDated

theorem State.returnL0_eq (hup : s.linkUp = true) (hstate : s.ltssm = 4) (hrun : s.link.upcfgRun = false) (hon : s.isOn .hst = true) :
    s.returnL0 = s.lanesLocked.sendPending := by
  have hgo : (s.linkUp && decide (s.ltssm = 4) && !s.link.upcfgRun && s.isOn .hst) = true := by
    rw [hup, hstate, hrun, hon]
    rfl
  rw [State.returnL0, if_pos hgo]
  rfl

/-- The configured lanes as HST_LINK_STS shows them. -/
theorem State.activeLanes_bit (hl : l < 4) : (BitVec.ofNat 4 (s.fld Reg.HST_LINK_STS 9 4)).getLsbD l = s.activeLane l := by
  rw [BitVec.getLsbD_ofNat, State.fld, testBit_fieldOf, decide_eq_true hl, Bool.true_and, Bool.true_and, State.activeLane, State.bit]

theorem State.lanesLocked_rests : Rests s s.lanesLocked :=
  ((Rests.refl s).setFld.trans (State.setLanes_rests _ _)).trans State.lossesDated_rests

theorem State.lanesLocked_shows : s.lanesLocked.ltssm = 3 ∧ s.lanesLocked.fld Reg.HST_LINK_STS 9 4 = s.fld Reg.HST_LINK_STS 9 4 ∧
    s.lanesLocked.dropped = s.dropped ∧ ∀ l, l < 4 → s.lanesLocked.bit (Reg.HST_LANE_STS l) 0 = s.activeLane l := by
  have hmask : (s.setFld Reg.HST_LINK_STS 0 3 3).fld Reg.HST_LINK_STS 9 4 = s.fld Reg.HST_LINK_STS 9 4 :=
    State.setFld_fld_of_disjoint (by decide)
  have hlt : s.fld Reg.HST_LINK_STS 9 4 < 2 ^ 4 := Nat.mod_lt _ (by decide)
  refine ⟨?_, ?_, ?_, fun l hl => ?_⟩
  · rw [State.lanesLocked, State.ltssm, State.fld, State.lossesDated_rd, State.setLanes_link]
    iterate 3 rw [fieldOf_withField_of_disjoint (by omega)]
    exact State.setFld_fld_self (by decide)
  · rw [State.lanesLocked, State.fld, State.lossesDated_rd, State.setLanes_link, fieldOf_withField_toNat (by omega), hmask, BitVec.toNat_ofNat,
      Nat.mod_eq_of_lt hlt]
  · rw [State.lanesLocked, State.dropped, State.fld, State.lossesDated_rd, State.setLanes_rd (by decide) (by decide),
      State.setFld_rd_ne _ (by decide), State.dropped, State.fld]
  · rw [State.lanesLocked, State.bit, State.lossesDated_rd, ← State.bit, State.setLanes_bit hl, hmask, State.activeLanes_bit hl]

theorem linkReturnToL0_completes (hup : s.linkUp = true) (hstate : s.ltssm = 4) (hrun : s.link.upcfgRun = false) (hon : s.isOn .hst = true)
    (hcalm : calm s = true) :
    Completes .linkReturnToL0 s fun t =>
      t.ltssm = 3 ∧ (∀ l, l < 4 → t.bit (Reg.HST_LANE_STS l) 0 = s.activeLane l) ∧
      t.fld Reg.HST_LINK_STS 9 4 = s.fld Reg.HST_LINK_STS 9 4 ∧ t.dropped = s.dropped := by
  have ht : LinkStands s.lanesLocked s.returnL0.released := by
    rw [State.returnL0_eq hup hstate hrun hon]
    exact (LinkStands.refl _).sendPending.released ((State.lanesLocked_rests.trans State.sendPending_rests).quiet hcalm)
  obtain ⟨hstate', hmask, hdropped, hlane⟩ := State.lanesLocked_shows (s := s)
  exact ⟨_, rfl, (ht.awake (by rw [hstate']; decide)).1.trans hstate', fun l hl => (ht.reg_bit (lane_quiet hl).1 0).trans (hlane l hl),
    (ht.fld (by decide) (by decide)).trans hmask, ht.dropped.trans hdropped⟩

theorem lanesFailAndDrop : LanesFailAndDrop :=
  ⟨fun _ _ hup hactive hlock hstate hfirst hcalm => laneLockLoss_completes hup hactive hlock hstate hfirst hcalm,
    fun _ _ hup hactive hlock hstate hlong hcalm => recoveryTimeout_completes hup hactive hlock hstate hlong hcalm,
    fun _ _ hl0 hin hlong => recoverySurvived_completes hl0 hin hlong,
    fun _ hup hstate hrun hon hcalm => linkReturnToL0_completes hup hstate hrun hon hcalm⟩

/-! ### Lanes that come back (R169) -/

/-- Through Recovery the link goes to Configuration. -/
def State.upcfgTried (s : State) : State :=
  let t := s.enterRecovery.setFld Reg.HST_LINK_STS 0 3 2
  { t with link := { t.link with upcfgRun := true, dropAt := some t.now } }

theorem State.upcfgAttempt_eq {a : Nat} (hdrop : s.link.dropAt = some a) (hin : s.inL0 = true) (hsome : s.dropped ≠ 0)
    (hen : s.bit Reg.HST_PHY_CTL 4 = true) (hlong : a + 400000000 * max 10 (s.rd Reg.HST_UPCFG_T).toNat ≤ s.now) : s.upcfgAttempt =
      if !s.link.partnerUpcfg then
        if s.link.noPartnerNoted then s else { s with link := { s.link with noPartnerNoted := true } }.setFld Reg.HST_UPCFG_STS 0 2 1
      else s.upcfgTried := by
  have hpassed : s.passed a s.upcfgTicks = true := by
    rw [State.passed, State.upcfgTicks, msTicks]
    exact decide_eq_true (by omega)
  have hgo : (!s.inL0 || decide (s.dropped = 0) || !s.bit Reg.HST_PHY_CTL 4 || !s.passed a s.upcfgTicks) = false := by
    rw [hin, decide_eq_false hsome, hen, hpassed]
    rfl
  rw [State.upcfgAttempt, hdrop]
  dsimp only
  rw [if_neg (by rw [hgo]; decide)]
  rfl

theorem State.upcfgTried_rd (hk : k ≠ Reg.HST_LINK_STS) : s.upcfgTried.rd k = s.enterRecovery.rd k :=
  State.setFld_rd_ne s.enterRecovery hk _ _ _

theorem State.upcfgTried_ltssm : s.upcfgTried.ltssm = 2 := State.setFld_fld_self (s := s.enterRecovery) (by decide)

theorem State.upcfgTried_run : s.upcfgTried.link.upcfgRun = true := rfl

theorem upconfigureAttempt_completes {a : Nat} (hdrop : s.link.dropAt = some a) (hin : s.inL0 = true) (hsome : s.dropped ≠ 0)
    (hen : s.bit Reg.HST_PHY_CTL 4 = true) (hlong : a + 400000000 * max 10 (s.rd Reg.HST_UPCFG_T).toNat ≤ s.now) :
    Completes .upconfigureAttempt s fun t =>
      (s.link.partnerUpcfg = true → t.ltssm = 2 ∧ t.link.upcfgRun = true ∧ t.rd Reg.HST_RECOV_CNT = satAdd (s.rd Reg.HST_RECOV_CNT) 1) ∧
      (s.link.partnerUpcfg = false → s.link.noPartnerNoted = false → t.fld Reg.HST_UPCFG_STS 0 2 = 1 ∧ t.ltssm = 3) ∧
      t.dropped = s.dropped := by
  have hop := State.upcfgAttempt_eq hdrop hin hsome hen hlong
  have hl0 : s.ltssm = 3 := (State.inL0_iff.1 hin).2
  refine ⟨_, rfl, ?_⟩
  rw [hop]
  cases s.link.partnerUpcfg with
  | true =>
    rw [if_neg (by decide)]
    refine ⟨fun _ => ⟨State.upcfgTried_ltssm, State.upcfgTried_run, ?_⟩, nofun, ?_⟩
    · rw [State.upcfgTried_rd (by decide), State.enterRecovery_count]
    · rw [State.dropped, State.fld, State.upcfgTried_rd (by decide), State.enterRecovery_rd (by decide) (by decide) (by decide), State.dropped,
        State.fld]
  | false =>
    rw [if_pos (by decide)]
    refine ⟨nofun, fun _ hnoted => ?_, ?_⟩
    · rw [if_neg (by rw [hnoted]; decide)]
      exact ⟨State.setFld_fld_self (by decide), (congrArg (fieldOf · 0 3) (State.setFld_rd_ne _ (by decide) _ _ _)).trans hl0⟩
    · split
      · rfl
      · exact congrArg (fun v => BitVec.ofNat 4 (fieldOf v 0 4)) (State.setFld_rd_ne _ (by decide) _ _ _)

/-- The upconfigure is over: the link is in L0. -/
def State.upcfgOver (s : State) : State := { s with link := { s.link with upcfgRun := false } }.setFld Reg.HST_LINK_STS 0 3 3

theorem State.upcfgOver_rd (hk : k ≠ Reg.HST_LINK_STS) : s.upcfgOver.rd k = s.rd k :=
  State.setFld_rd_ne { s with link := { s.link with upcfgRun := false } } hk _ _ _

theorem State.upcfgOver_ltssm : s.upcfgOver.ltssm = 3 := State.setFld_fld_self (by decide)

theorem State.upcfgOver_dropped : s.upcfgOver.dropped = s.dropped := congrArg (fun v => BitVec.ofNat 4 (fieldOf v 0 4)) (State.upcfgOver_rd (by decide))

theorem State.upcfgOver_rests : Rests s s.upcfgOver := by
  have hrun : Rests s { s with link := { s.link with upcfgRun := false } } := (Rests.refl s).upd
  exact hrun.setFld

/-- The time of the next upconfigure, if lanes stay dropped. -/
def State.upcfgDated (s : State) (d : BitVec 4) : State := { s with link := { s.link with dropAt := if d = 0 then none else some s.now } }

theorem State.upcfgDated_rd : (s.upcfgDated d).rd k = s.rd k := rfl

theorem State.upcfgDated_run : (s.upcfgDated d).link.upcfgRun = s.link.upcfgRun := rfl

theorem State.upcfgDated_rests : Rests s (s.upcfgDated d) := (Rests.refl s).upd

section
variable {passed : BitVec 4} {trained : Bool}

theorem State.upcfgDone_fails (hrun : s.link.upcfgRun = true) (hup : s.linkUp = true) (h : passed &&& s.dropped = 0 ∨ trained = false) :
    s.upcfgDone passed trained =
      ((s.upcfgOver.setFld Reg.HST_UPCFG_STS 0 2 (if passed &&& s.dropped = 0 then 2 else 3)).raiseLink 4).sendPending := by
  rw [← State.upcfgOver_dropped] at h ⊢
  unfold State.upcfgDone
  rw [hrun, hup, if_neg (by decide)]
  exact if_pos h

theorem State.upcfgDone_trains (hrun : s.link.upcfgRun = true) (hup : s.linkUp = true) (hsome : passed &&& s.dropped ≠ 0) :
    s.upcfgDone passed true = match bestLanes (s.link.detectLanes &&& ~~~(s.dropped &&& ~~~(passed &&& s.dropped))) with
      | none => s.upcfgOver
      | some m => ((((s.upcfgOver.lanesSet m (s.dropped &&& ~~~(passed &&& s.dropped))).upcfgDated
          (s.dropped &&& ~~~(passed &&& s.dropped))).replanTransmit.raiseLink 3).sendPending) := by
  rw [← State.upcfgOver_dropped] at hsome ⊢
  unfold State.upcfgDone
  rw [hrun, hup, if_neg (by decide)]
  refine if_neg ?_
  rintro (hnone | hfail)
  · exact hsome hnone
  · cases hfail

/-- Of the dropped lanes those stay dropped that have not passed. -/
theorem dropped_and_not_returned (p d : BitVec 4) : d &&& ~~~(p &&& d) = d &&& ~~~p := by
  apply BitVec.eq_of_getLsbD_eq
  intro i hi
  simp only [BitVec.getLsbD_and, BitVec.getLsbD_not, hi, decide_true, Bool.true_and]
  cases p.getLsbD i
  · simp
  · cases d.getLsbD i
    · rfl
    · rfl

/-- What keeps the link in L0 keeps the upconfigure over. -/
theorem LinkShown.upcfg_over (h : LinkShown u t) (hrun : u.link.upcfgRun = false) (hstate : u.ltssm = 3) :
    t.link.upcfgRun = false ∧ t.ltssm = 3 :=
  ⟨(congrArg LinkSt.upcfgRun h.training).trans hrun, (h.awake (by rw [hstate]; decide)).1.trans hstate⟩

theorem State.upcfgOver_run : s.upcfgOver.link.upcfgRun = false := rfl

theorem State.upcfgDone_failed (hrun : s.link.upcfgRun = true) (hup : s.linkUp = true) (hcalm : calm s = true)
    (h : passed &&& s.dropped = 0 ∨ trained = false) :
    LinkRaised 4 (s.upcfgOver.setFld Reg.HST_UPCFG_STS 0 2 (if passed &&& s.dropped = 0 then 2 else 3)) (s.upcfgDone passed trained).released := by
  rw [State.upcfgDone_fails hrun hup h]
  exact State.raiseLink_released (by decide) State.upcfgOver_rests.setFld hcalm

/-- A failed attempt records its cause (R169). -/
theorem State.upcfgDone_records (hrun : s.link.upcfgRun = true) (hup : s.linkUp = true) (hcalm : calm s = true)
    (h : passed &&& s.dropped = 0 ∨ trained = false) : (s.upcfgDone passed trained).released.link.upcfgRun = false ∧
      (s.upcfgDone passed trained).released.ltssm = 3 ∧
      (s.upcfgDone passed trained).released.fld Reg.HST_UPCFG_STS 0 2 = (if passed &&& s.dropped = 0 then 2 else 3) ∧
      (s.upcfgDone passed trained).released.bit Reg.HST_LINK_EVT 4 = true ∧ (s.upcfgDone passed trained).released.dropped = s.dropped := by
  have ht := State.upcfgDone_failed hrun hup hcalm h
  obtain ⟨hrun', hstate'⟩ := ht.toLinkShown.upcfg_over State.upcfgOver_run
    ((congrArg (fieldOf · 0 3) (State.setFld_rd_ne _ (by decide) _ _ _)).trans State.upcfgOver_ltssm)
  refine ⟨hrun', hstate', ?_, ht.event, ?_⟩
  · rw [ht.reg_fld (by decide) (by decide), State.setFld_fld_self (by decide)]
    split
    · rfl
    · rfl
  · rw [ht.dropped, State.dropped, State.fld, State.setFld_rd_ne _ (by decide), State.upcfgOver_rd (by decide), State.dropped, State.fld]

/-- The lanes that pass and train are configured again (R169). -/
theorem State.upcfgDone_widens (hrun : s.link.upcfgRun = true) (hup : s.linkUp = true) (hcalm : calm s = true) (hsome : passed &&& s.dropped ≠ 0)
    (hbest : bestLanes (s.link.detectLanes &&& ~~~(s.dropped &&& ~~~(passed &&& s.dropped))) = some m) :
    (s.upcfgDone passed true).released.link.upcfgRun = false ∧ (s.upcfgDone passed true).released.ltssm = 3 ∧
    (s.upcfgDone passed true).released.dropped = s.dropped &&& ~~~(passed &&& s.dropped) ∧
    (s.upcfgDone passed true).released.fld Reg.HST_LINK_STS 9 4 = m.toNat ∧
    (s.upcfgDone passed true).released.bit Reg.HST_LINK_EVT 3 = true := by
  rw [State.upcfgDone_trains hrun hup hsome, hbest]
  generalize s.dropped &&& ~~~(passed &&& s.dropped) = d
  dsimp only
  have hrests : Rests s ((s.upcfgOver.lanesSet m d).upcfgDated d) :=
    (State.upcfgOver_rests.trans State.lanesSet_rests).trans State.upcfgDated_rests
  have ht := State.replanned_released (b := 3) (by decide) hrests hcalm
  obtain ⟨-, hmask, hstate⟩ := State.lanesSet_shows (s := s.upcfgOver) (m := m) (d := d)
  have hdropped := State.lanesSet_dropped (s := s.upcfgOver) (m := m) (d := d)
  have hlink : ((s.upcfgOver.lanesSet m d).upcfgDated d).link.upcfgRun = s.upcfgOver.link.upcfgRun :=
    State.upcfgDated_run.trans (congrArg LinkSt.upcfgRun State.lanesSet_linkSt)
  have hltssm : ((s.upcfgOver.lanesSet m d).upcfgDated d).ltssm = 3 := by
    rw [State.ltssm, State.fld, State.upcfgDated_rd, ← State.fld, ← State.ltssm, hstate, State.upcfgOver_ltssm]
  obtain ⟨hrun', hstate'⟩ := ht.toLinkShown.upcfg_over (hlink.trans State.upcfgOver_run) hltssm
  refine ⟨hrun', hstate', State.dropped_of_fld ?_, ?_, ht.event⟩
  · rw [ht.reg_fld (by decide) (by decide), State.fld, State.upcfgDated_rd, ← State.fld, hdropped]
  · rw [ht.fld (by decide) (by decide), State.fld, State.upcfgDated_rd, ← State.fld, hmask]

theorem upconfigureDone_completes (hrun : s.link.upcfgRun = true) (hup : s.linkUp = true) (hcalm : calm s = true) :
    Completes (.upconfigureDone passed trained) s fun t =>
      t.link.upcfgRun = false ∧ t.ltssm = 3 ∧
      (passed &&& s.dropped = 0 → t.fld Reg.HST_UPCFG_STS 0 2 = 2 ∧ t.bit Reg.HST_LINK_EVT 4 = true ∧ t.dropped = s.dropped) ∧
      (passed &&& s.dropped ≠ 0 → trained = false →
        t.fld Reg.HST_UPCFG_STS 0 2 = 3 ∧ t.bit Reg.HST_LINK_EVT 4 = true ∧ t.dropped = s.dropped) ∧
      (∀ m, passed &&& s.dropped ≠ 0 → trained = true →
        bestLanes (s.link.detectLanes &&& ~~~(s.dropped &&& ~~~(passed &&& s.dropped))) = some m →
        t.dropped = s.dropped &&& ~~~passed ∧ t.fld Reg.HST_LINK_STS 9 4 = m.toNat ∧ t.bit Reg.HST_LINK_EVT 3 = true) := by
  refine ⟨_, rfl, ?_⟩
  by_cases hfail : passed &&& s.dropped = 0 ∨ trained = false
  · obtain ⟨hrun', hstate', hcause, hevent, hdropped⟩ := State.upcfgDone_records hrun hup hcalm hfail
    refine ⟨hrun', hstate', fun hnone => ?_, fun hsome _ => ?_, fun _ hsome htrained => ?_⟩
    · exact ⟨hcause.trans (if_pos hnone), hevent, hdropped⟩
    · exact ⟨hcause.trans (if_neg hsome), hevent, hdropped⟩
    · subst htrained
      exact absurd (hfail.resolve_left hsome) (by decide)
  · obtain ⟨hsome, htrained⟩ := not_or.1 hfail
    obtain rfl : trained = true := eq_true_of_ne_false htrained
    cases hbest : bestLanes (s.link.detectLanes &&& ~~~(s.dropped &&& ~~~(passed &&& s.dropped))) with
    | none =>
      have hop : s.upcfgDone passed true = s.upcfgOver := by
        rw [State.upcfgDone_trains hrun hup hsome, hbest]
      have ht := State.released_stands State.upcfgOver_rests hcalm
      rw [← hop] at ht
      obtain ⟨hrun', hstate'⟩ := ht.toLinkShown.upcfg_over (hop ▸ State.upcfgOver_run) (hop ▸ State.upcfgOver_ltssm)
      exact ⟨hrun', hstate', fun hnone => absurd hnone hsome, nofun, nofun⟩
    | some m =>
      obtain ⟨hrun', hstate', hdropped, hmask, hevent⟩ := State.upcfgDone_widens hrun hup hcalm hsome hbest
      refine ⟨hrun', hstate', fun hnone => absurd hnone hsome, nofun, fun m' _ _ hm => ?_⟩
      obtain rfl : m = m' := Option.some.inj hm
      exact ⟨hdropped.trans (dropped_and_not_returned passed s.dropped), hmask, hevent⟩

end

theorem lanesComeBack : LanesComeBack :=
  ⟨fun _ _ hdrop hin hsome hen hlong => upconfigureAttempt_completes hdrop hin hsome hen hlong,
    fun _ _ _ hrun hup hcalm => upconfigureDone_completes hrun hup hcalm⟩

end

/-- Settles O19: what each operation leaves of the lanes, read through the reports and the messages that follow it. -/
theorem lanesDropAndComeBack : Obligations.LanesDropAndComeBack := ⟨lanesFailAndDrop, lanesComeBack⟩

end Sys2Proof.Machine
end

section
/-!
PROOFS. The eye scan and the margining of lanes (R156 to R158).
-/

namespace Sys2Proof.Machine
open Sys2Proof.Claims

section
variable {s t u : State} {k l : Nat}

/-! ### A write that may start work (R266) -/

/-- The write of a word to an unguarded register, and the work that it starts. -/
theorem State.writeReg_starts {req : Requester} {v fin : Word} {i : Island} (hu : Unguarded k)
    (hopen : s.openFor (regAcc req k v) i = true) (hres : v &&& (rowOf k).reservedBits = 0)
    (hjudge : (s.onBus (busActivity (regAcc req k v))).writeJudged k req (s.rd k) v (mergeWrite (rowOf k) (s.rd k) v) = .ok fin) :
    ∃ m, s.writeReg req k v = (s.directStored req k v fin).startReady.withMon m := by
  obtain ⟨hkey, hal, hb, hr⟩ := regAcc_place (req := req) (v := v) hu.own hu.row
  have hwrite : s.writeReg req k v = s.regAccess true (regAcc req k v) := rfl
  rw [hwrite, State.regAccess_of_open true hopen]
  refine State.perform_write_ready ?_
  rw [State.regWrite_reg hb hr, hkey, hal, accWord_regAcc]
  generalize hbus : s.onBus (busActivity (regAcc req k v)) = b at hjudge
  have hcur : b.current k = s.rd k := by rw [hu.current, ← hbus, State.onBus_rd]
  have hwant : mergeWrite (rowOf k) (s.rd k) v ||| (b.current k &&& stickyBits k) = mergeWrite (rowOf k) (s.rd k) v := by
    rw [hu.sticky]
    simp
  rw [State.rowWrite_direct hres hu.takes hu.pair, hcur, State.storeWrite_ok hwant (by rw [hu.unlocked]; simp) (hu.select _ _)
    (by rw [hcur]; exact hjudge) hu.prbs, hcur, ← hbus]
  rfl

/-! ### The planner below the ceiling (R266) -/

theorem State.showNrg_rd (hk : k ≠ Reg.NRG_CEIL ∧ k ≠ Reg.NRG_STS ∧ k ≠ Reg.NRG_FORECAST ∧ k ≠ Reg.NRG_DEFER) : s.showNrg.rd k = s.rd k := by
  obtain ⟨hceil, hsts, hfore, hdefer⟩ := hk
  unfold State.showNrg
  dsimp only
  rw [State.wr_rd_ne _ hdefer, State.wr_rd_ne _ hfore, State.setBit_rd_ne _ hsts, State.setFld_rd_ne _ hsts, State.wr_rd_ne _ hceil]

/-- The work that a pass admits has waited, and no shed step defers it. -/
theorem State.admitWork_admits : ∀ w ∈ s.admitWork.nrg.ready,
    w ∈ s.nrg.ready ∨ w ∈ s.nrg.deferred ∧ s.fld Reg.NRG_STS 0 3 < (workInfo (workNum w)).1 := by
  have hall : s.admitWork.regs = s.regs ∧ (∀ w ∈ s.admitWork.nrg.deferred, w ∈ s.nrg.deferred) ∧ ∀ w ∈ s.admitWork.nrg.ready,
      w ∈ s.nrg.ready ∨ w ∈ s.nrg.deferred ∧ s.fld Reg.NRG_STS 0 3 < (workInfo (workNum w)).1 := by
    refine List.foldlRecOn (motive := fun (t : State) => t.regs = s.regs ∧ (∀ w ∈ t.nrg.deferred, w ∈ s.nrg.deferred) ∧
      ∀ w ∈ t.nrg.ready, w ∈ s.nrg.ready ∨ w ∈ s.nrg.deferred ∧ s.fld Reg.NRG_STS 0 3 < (workInfo (workNum w)).1) _ _
      ⟨rfl, fun _ hw => hw, fun _ hw => .inl hw⟩ fun t ht a _ => ?_
    obtain ⟨hregs, hdeferred, hready⟩ := ht
    split
    case isFalse => exact ⟨hregs, hdeferred, hready⟩
    case isTrue h =>
      rw [Bool.and_eq_true] at h
      obtain ⟨hwaits, hadmits⟩ := h
      have hstep : t.fld Reg.NRG_STS 0 3 < (workInfo (workNum a)).1 := (of_decide_eq_true hadmits).1
      rw [State.fld, State.rd_of_regs hregs] at hstep
      refine ⟨hregs, fun w hw => hdeferred w (List.mem_of_mem_filter hw), fun w hw => ?_⟩
      rcases List.mem_append.1 hw with hold | hnew
      · exact hready w hold
      · obtain rfl := List.mem_singleton.1 hnew
        exact .inr ⟨hdeferred w (List.contains_iff_mem.1 hwaits), hstep⟩
  exact hall.2.2

theorem State.admitWork_keeps {β : Type} (view : State → β) (hv : ∀ (t : State) x, view { t with nrg := x } = view t) :
    view s.admitWork = view s :=
  State.foldl_keeps view (fun t w => by
    split
    · exact hv _ _
    · rfl) _ s

/-- A scan begins without a report. -/
theorem State.startReady_of_eyes (h : ∀ w ∈ s.nrg.ready, w = Work.eyeScan) : s.startReady.regs = s.regs ∧ s.startReady.link = s.link := by
  refine List.foldlRecOn (motive := fun (t : State) => t.regs = s.regs ∧ t.link = s.link) s.nrg.ready _ ⟨rfl, rfl⟩ fun t ht w hw => ?_
  rw [h w hw]
  exact ht

/-- What a register holds after a direct write, without bits that a one clears. -/
theorem getLsbD_mergeWrite {r : RegRow} {old v : Word} {b : Nat} (hclr : r.w1c = 0) :
    (mergeWrite r old v).getLsbD b = if r.writable.getLsbD b then v.getLsbD b else old.getLsbD b := by
  simp only [mergeWrite, hclr, BitVec.getLsbD_and, BitVec.getLsbD_or, BitVec.getLsbD_not]
  by_cases hb : b < 18
  · cases r.writable.getLsbD b <;> simp [hb, word]
  · simp [hb, BitVec.getLsbD_of_ge _ b (Nat.le_of_not_lt hb)]

/-! ### A scan begins (R156, R266) -/

theorem belowCeiling_moved (h : belowCeiling s) (hdef : u.nrg.deferred = s.nrg.deferred) (hadm : u.nrg.admitted = s.nrg.admitted)
    (harm : u.arm = s.arm) (hrd : ∀ k, k ≠ Reg.HST_EYE_CTL → u.rd k = s.rd k) : belowCeiling u := by
  obtain ⟨hdeferred, hpower, hforecast⟩ := h
  have hpow : u.rd Reg.NRG_POWER = s.rd Reg.NRG_POWER := hrd _ (by decide)
  have hceil : u.ceiling = s.ceiling := by
    rw [State.ceiling, State.ceiling, harm, hrd Reg.NRG_CEIL_DRV (by decide), hrd Reg.HST_SPL (by decide)]
  have hfore : u.forecast = s.forecast := by
    rw [State.forecast, State.forecast, hadm, hpow]
  exact ⟨by rw [hdef, hdeferred], by rwa [hpow, hceil], by rwa [hfore, hceil]⟩

/-- The scan of a lane has been asked for. -/
def State.eyeNoted (s : State) (l : Nat) : State :=
  { s with link := { s.link with eyeLane := l, eyePausedAt := none, eyeRestart := false, eyeLastAt := s.now } }

/-- BUSY is set, and the scan waits for the planner. -/
def State.eyeAsked (s : State) (l : Nat) : State := (((s.eyeNoted l).setBit Reg.HST_EYE_CTL 3 true).setBit Reg.HST_EYE_CTL 4 false)

theorem State.eyeStart_eq (hbusy : s.bit Reg.HST_EYE_CTL 3 = false) (hin : s.inL0 = true) (hactive : s.activeLane l = true) :
    s.eyeStart l = (s.eyeAsked l).requestWork .eyeScan := by
  have hgo : (s.inL0 && s.activeLane l) = true := by
    rw [hin, hactive]
    rfl
  rw [State.eyeStart, if_neg (by rw [hbusy]; decide)]
  exact if_pos hgo

theorem State.eyeNoted_rd : (s.eyeNoted l).rd k = s.rd k := rfl

theorem State.eyeAsked_rd (hk : k ≠ Reg.HST_EYE_CTL) : (s.eyeAsked l).rd k = s.rd k := by
  rw [State.eyeAsked, State.setBit_rd_ne _ hk, State.setBit_rd_ne _ hk, State.eyeNoted_rd]

theorem State.eyeAsked_ctl :
    (s.eyeAsked l).rd Reg.HST_EYE_CTL = withField (withField (s.rd Reg.HST_EYE_CTL) 3 1 (flag true)) 4 1 (flag false) := by
  rw [State.eyeAsked, State.setBit_rd_self, State.setBit_rd_self, State.eyeNoted_rd]

theorem State.eyeAsked_link : (s.eyeAsked l).link.eyeLane = l ∧ (s.eyeAsked l).link.eyeLastAt = s.now := ⟨rfl, rfl⟩

/-- A pass below the ceiling takes no step. -/
theorem State.planPass_below (hpower : (s.rd Reg.NRG_POWER).toNat ≤ s.ceiling.1) (hforecast : s.forecast ≤ s.ceiling.1) :
    s.planPass = s.admitWork.showNrg := by
  unfold State.planPass
  dsimp only
  rw [if_neg (by omega)]

/-- Work that a request leaves waiting. -/
def State.workAsked (s : State) (w : Work) : State :=
  { s with nrg := { s.nrg with deferred := s.nrg.deferred.filter (fun x => !decide (x = w)) ++ [w] } }

theorem State.requestWork_eq (w : Work) : s.requestWork w = (s.workAsked w).planPass := rfl

theorem State.workAsked_rd (w : Work) : (s.workAsked w).rd k = s.rd k := rfl

theorem State.workAsked_link (w : Work) : (s.workAsked w).link = s.link := rfl

theorem State.workAsked_arm (w : Work) : (s.workAsked w).arm = s.arm := rfl

theorem State.workAsked_admitted (w : Work) : (s.workAsked w).nrg.admitted = s.nrg.admitted := rfl

theorem State.workAsked_ceiling (w : Work) : (s.workAsked w).ceiling = s.ceiling := by
  rw [State.ceiling, State.ceiling, s.workAsked_arm, s.workAsked_rd, s.workAsked_rd]

theorem State.workAsked_forecast (w : Work) : (s.workAsked w).forecast = s.forecast := by
  rw [State.forecast, State.forecast, s.workAsked_admitted, s.workAsked_rd]

/-- The planner's registers show what stands. -/
theorem State.showNrg_keeps {β : Type} (view : State → β) (hv : ∀ (t : State) k v, view (t.wr k v) = view t) : view s.showNrg = view s := by
  unfold State.showNrg
  exact (hv _ _ _).trans ((hv _ _ _).trans ((hv _ _ _).trans ((hv _ _ _).trans (hv _ _ _))))

theorem State.showNrg_link : s.showNrg.link = s.link := State.showNrg_keeps State.link fun _ _ _ => rfl

theorem State.showNrg_nrg : s.showNrg.nrg = s.nrg := State.showNrg_keeps State.nrg fun _ _ _ => rfl

/-- A request below the ceiling leaves the registers of HST and the record of the link, and starts nothing else. -/
theorem State.requestWork_below {w : Work} (h : belowCeiling s) :
    (s.requestWork w).rd Reg.HST_EYE_CTL = s.rd Reg.HST_EYE_CTL ∧ (s.requestWork w).link = s.link ∧
    ∀ x ∈ (s.requestWork w).nrg.ready, x ∈ s.nrg.ready ∨ x = w := by
  have hlist : (s.workAsked w).nrg.deferred = [w] := by
    rw [State.workAsked, h.1]
    rfl
  have hpower : ((s.workAsked w).rd Reg.NRG_POWER).toNat ≤ (s.workAsked w).ceiling.1 := by
    rw [s.workAsked_rd, s.workAsked_ceiling]
    exact h.2.1
  have hforecast : (s.workAsked w).forecast ≤ (s.workAsked w).ceiling.1 := by
    rw [s.workAsked_forecast, s.workAsked_ceiling]
    exact h.2.2
  rw [State.requestWork_eq, State.planPass_below hpower hforecast, State.showNrg_rd (by decide), State.showNrg_link, State.showNrg_nrg]
  refine ⟨?_, ?_, fun x hx => ?_⟩
  · exact (State.admitWork_keeps (State.rd · Reg.HST_EYE_CTL) fun _ _ => rfl).trans (s.workAsked_rd w)
  · exact (State.admitWork_keeps State.link fun _ _ => rfl).trans (s.workAsked_link w)
  · refine (State.admitWork_admits x hx).imp_right fun hw => ?_
    rw [hlist] at hw
    exact List.mem_singleton.1 hw.1

/-- A scan that may begin is busy; the planner starts it without a report. -/
theorem State.eyeStart_begins (hbusy : s.bit Reg.HST_EYE_CTL 3 = false) (hin : s.inL0 = true) (hactive : s.activeLane l = true)
    (hbelow : belowCeiling s) (hready : s.nrg.ready = []) :
    (s.eyeStart l).startReady.rd Reg.HST_EYE_CTL = withField (withField (s.rd Reg.HST_EYE_CTL) 3 1 (flag true)) 4 1 (flag false) ∧
    (s.eyeStart l).startReady.link.eyeLane = l ∧ (s.eyeStart l).startReady.link.eyeLastAt = s.now := by
  obtain ⟨hctl, hlink, hwork⟩ := State.requestWork_below (w := .eyeScan)
    (belowCeiling_moved (u := s.eyeAsked l) hbelow rfl rfl rfl fun _ hk => State.eyeAsked_rd hk)
  have hready' : (s.eyeAsked l).nrg.ready = [] := hready
  rw [State.eyeStart_eq hbusy hin hactive]
  obtain ⟨hregs, hlink'⟩ := State.startReady_of_eyes (s := (s.eyeAsked l).requestWork .eyeScan) fun w hw =>
    (hwork w hw).resolve_left (by rw [hready']; exact List.not_mem_nil)
  refine ⟨?_, ?_, ?_⟩
  · rw [State.rd_of_regs hregs, hctl, State.eyeAsked_ctl]
  · rw [hlink', hlink, State.eyeAsked_link.1]
  · rw [hlink', hlink, State.eyeAsked_link.2]

theorem eyeCtl_begun (v : Word) : (withField (withField v 3 1 (flag true)) 4 1 (flag false)).getLsbD 3 = true ∧
    (withField (withField v 3 1 (flag true)) 4 1 (flag false)).getLsbD 4 = false ∧
    (withField (withField v 3 1 (flag true)) 4 1 (flag false)).getLsbD 5 = v.getLsbD 5 := by
  simp only [getLsbD_withField_bit (by decide : 3 < 18), getLsbD_withField_bit (by decide : 4 < 18)]
  exact ⟨rfl, rfl, rfl⟩

/-! ### EYE_SCAN_START and EYE_SCAN_AUTO (R156, R157) -/

theorem unguarded_eyeCtl : Unguarded Reg.HST_EYE_CTL :=
  ⟨by decide, rfl, rfl, rfl, fun _ => rfl, rfl, fun _ => rfl, fun _ _ => rfl, by decide⟩

theorem writeJudged_eyeCtl (req : Requester) (old v new : Word) : s.writeJudged Reg.HST_EYE_CTL req old v new = .ok new := by
  cases req with
  | host => rfl
  | monitor => rfl
  | sat0 => rfl
  | sat1 => rfl

/-- The word that asks for a scan of a lane. -/
abbrev eyeWord (lane : Fin 4) (auto : Bool) : Word := word (lane.val + 4 + 32 * flag auto)

theorem eyeWord_bits (lane : Fin 4) (auto : Bool) : eyeWord lane auto &&& (rowOf Reg.HST_EYE_CTL).reservedBits = 0 ∧
    (eyeWord lane auto).getLsbD 2 = true ∧ (eyeWord lane auto).getLsbD 5 = auto ∧ fieldOf (eyeWord lane auto) 0 2 = lane.val := by
  revert lane auto
  decide

/-- The state in which HST_EYE_CTL holds its new value. -/
def State.eyeStored (s : State) (req : Requester) (v fin : Word) : State :=
  ((s.onBus (busActivity (regAcc req Reg.HST_EYE_CTL v))).wr Reg.HST_EYE_CTL fin).reparity Reg.HST_EYE_CTL

theorem State.directStored_eyeCtl {req : Requester} {v fin : Word} (hv : v.getLsbD 2 = true) :
    s.directStored req Reg.HST_EYE_CTL v fin = (s.eyeStored req v fin).eyeStart (fieldOf fin 0 2) := if_pos hv

theorem State.eyeStored_rd {req : Requester} {v fin : Word} (hk : k ≠ Reg.HST_EYE_CTL) : (s.eyeStored req v fin).rd k = s.rd k :=
  State.wr_rd_ne (s.onBus (busActivity (regAcc req Reg.HST_EYE_CTL v))) hk fin

theorem State.eyeStored_ctl {req : Requester} {v fin : Word} : (s.eyeStored req v fin).rd Reg.HST_EYE_CTL = fin :=
  State.wr_rd_self (s.onBus (busActivity (regAcc req Reg.HST_EYE_CTL v))) _ fin

theorem State.eyeStored_work {req : Requester} {v fin : Word} : (s.eyeStored req v fin).nrg.deferred = s.nrg.deferred ∧
    (s.eyeStored req v fin).nrg.admitted = s.nrg.admitted ∧ (s.eyeStored req v fin).nrg.ready = s.nrg.ready ∧
    (s.eyeStored req v fin).arm = s.arm := ⟨rfl, rfl, rfl, rfl⟩

theorem eyeScanStart_completes {req : Requester} {lane : Fin 4}
    (hopen : s.openFor (regAcc req Reg.HST_EYE_CTL (word (lane.val + 4 + 32 * flag (s.bit Reg.HST_EYE_CTL 5)))) .hst = true)
    (hbusy : s.bit Reg.HST_EYE_CTL 3 = false) (hin : s.inL0 = true) (hactive : s.activeLane lane.val = true) (hbelow : belowCeiling s) :
    Completes (.eyeScanStart req lane) s fun t =>
      t.bit Reg.HST_EYE_CTL 3 = true ∧ t.bit Reg.HST_EYE_CTL 4 = false ∧ t.bit Reg.HST_EYE_CTL 5 = s.bit Reg.HST_EYE_CTL 5 ∧
      t.link.eyeLane = lane.val := by
  obtain ⟨hres, hstart, hauto, hlane⟩ := eyeWord_bits lane (s.bit Reg.HST_EYE_CTL 5)
  change s.openFor (regAcc req Reg.HST_EYE_CTL (eyeWord lane (s.bit Reg.HST_EYE_CTL 5))) .hst = true at hopen
  refine ⟨s.writeReg req Reg.HST_EYE_CTL (eyeWord lane (s.bit Reg.HST_EYE_CTL 5)), rfl, ?_⟩
  generalize eyeWord lane (s.bit Reg.HST_EYE_CTL 5) = v at hopen hres hstart hauto hlane
  generalize hf : mergeWrite (rowOf Reg.HST_EYE_CTL) (s.rd Reg.HST_EYE_CTL) v = fin
  have hfin (b : Nat) : fin.getLsbD b = if (rowOf Reg.HST_EYE_CTL).writable.getLsbD b then v.getLsbD b else (s.rd Reg.HST_EYE_CTL).getLsbD b := by
    rw [← hf, getLsbD_mergeWrite rfl]
  have hsel : fieldOf fin 0 2 = lane.val := by
    rw [← hlane]
    apply Nat.eq_of_testBit_eq
    intro j
    rw [testBit_fieldOf, testBit_fieldOf]
    by_cases hj : j < 2
    · rw [hfin, if_pos (by revert j; decide)]
    · simp [hj]
  obtain ⟨m, hm⟩ := State.writeReg_starts (fin := fin) unguarded_eyeCtl hopen hres (by rw [writeJudged_eyeCtl, hf])
  rw [State.directStored_eyeCtl hstart, hsel] at hm
  have hlink : (s.eyeStored req v fin).rd Reg.HST_LINK_STS = s.rd Reg.HST_LINK_STS := State.eyeStored_rd (by decide)
  have hin' : (s.eyeStored req v fin).inL0 = true := by
    obtain ⟨hup, hstate⟩ := State.inL0_iff.1 hin
    exact State.inL0_iff.2 ⟨(congrArg (·.getLsbD 17) hlink).trans hup, (congrArg (fieldOf · 0 3) hlink).trans hstate⟩
  have hctl : (s.eyeStored req v fin).rd Reg.HST_EYE_CTL = fin := State.eyeStored_ctl
  obtain ⟨hdef, hadm, hready, harm⟩ := State.eyeStored_work (s := s) (req := req) (v := v) (fin := fin)
  obtain ⟨hbegun, hlane', -⟩ := State.eyeStart_begins (s := s.eyeStored req v fin) (l := lane.val)
    ((congrArg (·.getLsbD 3) hctl).trans ((hfin 3).trans hbusy)) hin' ((congrArg (·.getLsbD (9 + lane.val)) hlink).trans hactive)
    (belowCeiling_moved hbelow hdef hadm harm fun _ hk => State.eyeStored_rd hk) (hready.trans (State.openFor_ready hopen))
  obtain ⟨h3, h4, h5⟩ := eyeCtl_begun fin
  rw [hctl] at hbegun
  rw [hm]
  refine ⟨(congrArg (·.getLsbD 3) hbegun).trans h3, (congrArg (·.getLsbD 4) hbegun).trans h4, ?_, hlane'⟩
  exact (congrArg (·.getLsbD 5) hbegun).trans (h5.trans ((hfin 5).trans hauto))

theorem eyeScanAuto_again (hauto : s.bit Reg.HST_EYE_CTL 5 = true) (hbusy : s.bit Reg.HST_EYE_CTL 3 = false) (hin : s.inL0 = true)
    (hbelow : belowCeiling s) (hready : s.nrg.ready = []) (hrestart : s.link.eyeRestart = true) (hactive : s.activeLane s.link.eyeLane = true)
    (hmargin : s.link.margining.getLsbD s.link.eyeLane = false) (hstep : s.fld Reg.NRG_STS 0 3 = 0) :
    Completes .eyeScanAuto s fun t => t.bit Reg.HST_EYE_CTL 3 = true ∧ t.link.eyeLane = s.link.eyeLane := by
  have hop : s.eyeAuto = s.eyeStart s.link.eyeLane := by
    rw [State.eyeAuto, hauto, hbusy, hin, if_neg (by decide), if_pos hrestart, hmargin, hstep]
    rfl
  obtain ⟨hbegun, hlane, -⟩ := State.eyeStart_begins hbusy hin hactive hbelow hready
  rw [← hop] at hbegun hlane
  exact ⟨_, rfl, (congrArg (·.getLsbD 3) hbegun).trans (eyeCtl_begun _).1, hlane⟩

theorem eyeScanAuto_next (hauto : s.bit Reg.HST_EYE_CTL 5 = true) (hbusy : s.bit Reg.HST_EYE_CTL 3 = false) (hin : s.inL0 = true)
    (hbelow : belowCeiling s) (hready : s.nrg.ready = []) (hrestart : s.link.eyeRestart = false) (hlong : s.link.eyeLastAt + 400000000 ≤ s.now)
    (hactive : s.activeLane (s.nextLane s.link.eyeLane) = true) :
    Completes .eyeScanAuto s fun t =>
      t.bit Reg.HST_EYE_CTL 3 = true ∧ t.link.eyeLane = s.nextLane s.link.eyeLane ∧ t.link.eyeLastAt = s.now := by
  have hpassed : s.passed s.link.eyeLastAt (msTicks 1000) = true := decide_eq_true hlong
  have hop : s.eyeAuto = s.eyeStart (s.nextLane s.link.eyeLane) := by
    rw [State.eyeAuto, hauto, hbusy, hin, if_neg (by decide), if_neg (by rw [hrestart]; decide), if_pos hpassed]
  obtain ⟨hbegun, hlane, hlast⟩ := State.eyeStart_begins hbusy hin hactive hbelow hready
  rw [← hop] at hbegun hlane hlast
  exact ⟨_, rfl, (congrArg (·.getLsbD 3) hbegun).trans (eyeCtl_begun _).1, hlane, hlast⟩

/-! ### The end of a scan (R156, R157) -/

/-- The result of a scan. -/
abbrev State.eyeResult (s : State) (w h : Nat) : EyeRes :=
  { word := word (w + h * 2 ^ 7 + flag (decide (s.fld Reg.HST_EYE_PASS 0 6 ≤ w ∧ s.fld Reg.HST_EYE_PASS 6 8 ≤ h)) * 2 ^ 16 + 2 ^ 17)
    endT := s.devTime }

/-- A result is stored for the lane. -/
def State.eyeStoredAs (s : State) (r : EyeRes) : State := { s with link := { s.link with eyes := Tab.set {} s.link.eyes s.link.eyeLane r } }

theorem State.eyeStoredAs_rd {r : EyeRes} : (s.eyeStoredAs r).rd k = s.rd k := rfl

theorem State.eyeStoredAs_eyes {r : EyeRes} : (s.eyeStoredAs r).link.training.eyes = Tab.set {} s.link.eyes s.link.eyeLane r := rfl

theorem State.eyeStoredAs_memory {r : EyeRes} : (s.eyeStoredAs r).sram = s.sram ∧ (s.eyeStoredAs r).pending = s.pending := ⟨rfl, rfl⟩

theorem State.eyeDone_eq {w h : Nat} (hruns : s.eyeRuns = true) (hgrant : (s.busGrant 10).isSome = true) :
    s.eyeDone w h = (((s.onBus 10).eyeStoredAs (s.eyeResult w h)).setBit Reg.HST_EYE_CTL 3 false).raiseLink 7 := by
  unfold State.eyeDone
  rw [if_pos hruns, State.busGrant_eq hgrant]
  rfl

theorem eyeScanDone_completes {w : Fin 65} {h : Fin 251} (hruns : s.eyeRuns = true) (hgrant : (s.busGrant 10).isSome = true) :
    Completes (.eyeScanDone w h) s fun t =>
      t.bit Reg.HST_EYE_CTL 3 = false ∧ t.bit Reg.HST_LINK_EVT 7 = true ∧
      Tab.get {} t.link.eyes s.link.eyeLane =
        { word := word (w.val + h.val * 128 +
            flag (decide (s.fld Reg.HST_EYE_PASS 0 6 ≤ w.val ∧ s.fld Reg.HST_EYE_PASS 6 8 ≤ h.val)) * 65536 + 131072)
          endT := s.devTime } ∧
      SameRegsBut s t (fun k => eventReg k || decide (k = Reg.HST_EYE_CTL) || decide (k = Reg.HST_LINK_EVT)) := by
  have hop := State.eyeDone_eq (w := w.val) (h := h.val) hruns hgrant
  generalize hu : ((s.onBus 10).eyeStoredAs (s.eyeResult w.val h.val)).setBit Reg.HST_EYE_CTL 3 false = u at hop
  have hrd (k : Nat) (hk : k ≠ Reg.HST_EYE_CTL) : u.rd k = s.rd k := by
    rw [← hu, State.setBit_rd_ne _ hk, State.eyeStoredAs_rd, State.onBus_rd]
  have hidle : u.bit Reg.HST_EYE_CTL 3 = false := by
    rw [← hu]
    exact State.setBit_bit_self (by decide)
  have hsram : u.sram = s.sram := by
    rw [← hu, State.setBit_sram, State.eyeStoredAs_memory.1, State.onBus_sram]
  have hpending : u.pending = s.pending := by
    rw [← hu, State.setBit_pending, State.eyeStoredAs_memory.2, State.onBus_pending]
  have heyes : u.link.training.eyes = Tab.set {} s.link.eyes s.link.eyeLane (s.eyeResult w.val h.val) := by
    rw [← hu]
    exact State.eyeStoredAs_eyes (s := s.onBus 10)
  have ht := State.raiseLink_raised (s := u) (b := 7) (by decide)
  have hsettled := State.raiseLink_settled (s := u) (b := 7) (by decide)
  refine ⟨_, rfl, ?_⟩
  rw [hop]
  refine ⟨(ht.reg_bit (by decide) (by decide) 3).trans hidle, ht.event, ?_, fun j hj => ?_, ?_, hsettled.pending.trans hpending⟩
  · rw [show (u.raiseLink 7).link.eyes = _ from (congrArg LinkSt.eyes ht.training).trans heyes]
    exact Tab.get_set_self
  · simp only [Bool.or_eq_false_iff, decide_eq_false_iff_not] at hj
    obtain ⟨⟨hevent, heye⟩, hlink⟩ := hj
    exact (ht.rd j hevent hlink).trans (hrd j heye)
  · exact State.sramW_of_sram (hsettled.sram.trans hsram)

/-- The scan is forgotten, but that it starts again. -/
def State.eyeForgotten (s : State) : State :=
  { s with link := { s.link with eyePausedAt := none, eyeRestart := true }
           nrg := { s.nrg with deferred := s.nrg.deferred.filter fun w => !decide (w = .eyeScan) } }

theorem State.abortEye_eq : s.abortEye false =
    if s.bit Reg.HST_EYE_CTL 3 then ((s.setBit Reg.HST_EYE_CTL 3 false).setBit Reg.HST_EYE_CTL 4 true).eyeForgotten else s := rfl

/-- What an abort leaves of the state. -/
theorem State.abortEye_keeps {β : Type} (view : State → β) (hwr : ∀ (t : State) v, view (t.wr Reg.HST_EYE_CTL v) = view t)
    (hrest : ∀ t : State, view t.eyeForgotten = view t) : view (s.abortEye false) = view s := by
  rw [State.abortEye_eq]
  split
  · exact (hrest _).trans ((hwr _ _).trans (hwr _ _))
  · rfl

theorem State.eyeForgotten_rd : s.eyeForgotten.rd k = s.rd k := rfl

theorem State.abortEye_idle : (s.abortEye false).bit Reg.HST_EYE_CTL 3 = false := by
  rw [State.abortEye_eq]
  split
  case isTrue =>
    rw [State.bit, State.eyeForgotten_rd]
    exact (State.setBit_bit_of_ne (by decide) (by decide)).trans (State.setBit_bit_self (by decide))
  case isFalse h => exact eq_false_of_ne_true h

theorem State.abortEye_aborted (h : s.bit Reg.HST_EYE_CTL 3 = true) : (s.abortEye false).bit Reg.HST_EYE_CTL 4 = true := by
  rw [State.abortEye_eq, if_pos h, State.bit, State.eyeForgotten_rd]
  exact State.setBit_bit_self (by decide)

theorem State.abortEye_sameRegs : SameRegsBut s (s.abortEye false) (fun k => decide (k = Reg.HST_EYE_CTL)) :=
  ⟨fun _ hj => State.abortEye_rd (of_decide_eq_false hj),
    State.sramW_of_sram (State.abortEye_keeps State.sram (fun _ _ => rfl) fun _ => rfl),
    State.abortEye_keeps State.pending (fun _ _ => rfl) fun _ => rfl⟩

theorem eyeScanPauseTimeout_completes {a : Nat} (hpaused : s.link.eyePausedAt = some a) (hasleep : s.lanesAsleep = true)
    (hlong : a + 40000000 < s.now) (hbusy : s.bit Reg.HST_EYE_CTL 3 = true) :
    Completes .eyeScanPauseTimeout s fun t =>
      t.bit Reg.HST_EYE_CTL 3 = false ∧ t.bit Reg.HST_EYE_CTL 4 = true ∧ t.link.eyes = s.link.eyes ∧
      SameRegsBut s t (fun k => decide (k = Reg.HST_EYE_CTL)) := by
  have hgo : (s.lanesAsleep && decide (a + msTicks 100 < s.now)) = true := by
    rw [hasleep, Bool.true_and]
    exact decide_eq_true hlong
  have hop : s.eyePauseOver = s.abortEye false := by
    rw [State.eyePauseOver, hpaused]
    exact if_pos hgo
  refine ⟨_, rfl, ?_⟩
  rw [hop]
  exact ⟨State.abortEye_idle, State.abortEye_aborted hbusy,
    State.abortEye_keeps (fun t => t.link.eyes) (fun _ _ => rfl) fun _ => rfl, State.abortEye_sameRegs⟩

/-! ### Lane margining (R158) -/

theorem getLsbD_lane {l : Nat} (hl : l < 4) (j : Nat) : (BitVec.ofNat 4 (2 ^ l)).getLsbD j = decide (j = l) := by
  rw [BitVec.getLsbD_ofNat, Nat.testBit_two_pow]
  by_cases hj : j = l
  · simp [hj, hl]
  · simp [hj, Ne.symm hj]

/-- A lane taken out of a set of lanes. -/
theorem getLsbD_laneOut {m : BitVec 4} {l : Nat} (hl : l < 4) (j : Nat) :
    (m &&& ~~~(BitVec.ofNat 4 (2 ^ l))).getLsbD j = if j = l then false else m.getLsbD j := by
  rw [BitVec.getLsbD_and, BitVec.getLsbD_not, getLsbD_lane hl]
  by_cases hj : j < 4
  · by_cases he : j = l
    · simp [he]
    · simp [he, hj]
  · simp [hj, BitVec.getLsbD_of_ge m j (by omega)]

/-- A lane put into a set of lanes. -/
theorem getLsbD_laneIn {m : BitVec 4} {l : Nat} (hl : l < 4) (j : Nat) :
    (m ||| BitVec.ofNat 4 (2 ^ l)).getLsbD j = if j = l then true else m.getLsbD j := by
  rw [BitVec.getLsbD_or, getLsbD_lane hl]
  by_cases he : j = l
  · simp [he]
  · simp [he]

/-- The lanes in margining are `m`, and something is said on a lane. -/
def State.marginSaid (s : State) (m : BitVec 4) (lane : Nat) (msg : LaneMsg) : State :=
  { s with link := { s.link with margining := m }, sent := .laneMsg lane msg :: s.sent }

/-- The lane is margined with `n` errors: it stays so unless they are too many. -/
def State.margined (s : State) (lane n : Nat) : State :=
  let tooMany := decide (Tab.get marginLimitDefault s.link.marginLimit lane < n)
  let b := BitVec.ofNat 4 (2 ^ lane)
  (s.marginSaid (if tooMany then s.link.margining &&& ~~~b else s.link.margining ||| b) lane (.marginErrors tooMany n)).drew

theorem State.marginStep_eq (lane : Nat) : s.marginStep lane =
    (if s.link.eyeLane = lane then s.abortEye false else s).margined lane
      (Config.freeNat (if s.link.eyeLane = lane then s.abortEye false else s).freeIdx % 64) := rfl

theorem State.margined_regs {lane n : Nat} : (s.margined lane n).regs = s.regs ∧ (s.margined lane n).sram = s.sram ∧
    (s.margined lane n).pending = s.pending := ⟨rfl, rfl, rfl⟩

theorem State.margined_sent {lane n : Nat} : (s.margined lane n).sent = Output.laneMsg lane
    (.marginErrors (decide (Tab.get marginLimitDefault s.link.marginLimit lane < n)) n) :: s.sent := rfl

theorem State.margined_lanes {lane n : Nat} : (s.margined lane n).link.margining =
    if decide (Tab.get marginLimitDefault s.link.marginLimit lane < n) then s.link.margining &&& ~~~(BitVec.ofNat 4 (2 ^ lane))
    else s.link.margining ||| BitVec.ofNat 4 (2 ^ lane) := rfl

theorem State.margined_lane {lane n : Nat} (hl : lane < 4) (j : Nat) : (s.margined lane n).link.margining.getLsbD j =
    if j = lane then decide (n ≤ Tab.get marginLimitDefault s.link.marginLimit lane) else s.link.margining.getLsbD j := by
  rw [State.margined_lanes]
  by_cases hmany : Tab.get marginLimitDefault s.link.marginLimit lane < n
  · rw [if_pos (decide_eq_true hmany), getLsbD_laneOut hl, decide_eq_false (by omega)]
  · rw [if_neg (by simpa using hmany), getLsbD_laneIn hl, decide_eq_true (by omega)]

/-- What every margining command leaves: the other lanes, and the registers but for those of an aborted scan. -/
abbrev MarginKept (s : State) (lane : Nat) (t : State) : Prop :=
  (∀ l, l ≠ lane → t.link.margining.getLsbD l = s.link.margining.getLsbD l) ∧
  SameRegsBut s t (fun k => eventReg k || decide (k = Reg.HST_EYE_CTL))

/-- A scan of the lane is aborted before it is margined. -/
theorem State.marginStep_shows {lane : Nat} (hl : lane < 4) :
    ((s.link.eyeLane = lane → (s.marginStep lane).bit Reg.HST_EYE_CTL 3 = false) ∧
      ∃ n, n ≤ 63 ∧ (s.marginStep lane).link.margining.getLsbD lane = decide (n ≤ Tab.get marginLimitDefault s.link.marginLimit lane) ∧
        (s.marginStep lane).sent = Output.laneMsg lane
          (.marginErrors (decide (Tab.get marginLimitDefault s.link.marginLimit lane < n)) n) :: s.sent) ∧
    MarginKept s lane (s.marginStep lane) := by
  rw [State.marginStep_eq]
  generalize hu : (if s.link.eyeLane = lane then s.abortEye false else s) = u
  have hidle : s.link.eyeLane = lane → u.bit Reg.HST_EYE_CTL 3 = false := by
    intro he
    rw [← hu, if_pos he]
    exact State.abortEye_idle
  have hregs : SameRegsBut s u (fun k => decide (k = Reg.HST_EYE_CTL)) := by
    rw [← hu]
    split
    · exact State.abortEye_sameRegs
    · exact ⟨fun _ _ => rfl, fun _ => rfl, rfl⟩
  have hkeeps {β : Type} (view : State → β) (hwr : ∀ (t : State) v, view (t.wr Reg.HST_EYE_CTL v) = view t)
      (hrest : ∀ t : State, view t.eyeForgotten = view t) : view u = view s := by
    rw [← hu]
    split
    · exact State.abortEye_keeps view hwr hrest
    · rfl
  have hlimit : u.link.marginLimit = s.link.marginLimit := hkeeps (fun t => t.link.marginLimit) (fun _ _ => rfl) fun _ => rfl
  have hlanes : u.link.margining = s.link.margining := hkeeps (fun t => t.link.margining) (fun _ _ => rfl) fun _ => rfl
  have hsent : u.sent = s.sent := hkeeps State.sent (fun _ _ => rfl) fun _ => rfl
  have hn : Config.freeNat u.freeIdx % 64 ≤ 63 := by omega
  generalize Config.freeNat u.freeIdx % 64 = n at hn
  obtain ⟨hregs', hsram', hpending'⟩ := State.margined_regs (s := u) (lane := lane) (n := n)
  obtain ⟨hrd, hsram, hpending⟩ := hregs
  refine ⟨⟨fun he => ?_, n, hn, ?_, ?_⟩, fun l hne => ?_, fun j hj => ?_, fun w => ?_, hpending'.trans hpending⟩
  · exact (congrArg (·.getLsbD 3) (State.rd_of_regs hregs' _)).trans (hidle he)
  · rw [State.margined_lane hl, if_pos rfl, hlimit]
  · rw [State.margined_sent, hlimit, hsent]
  · rw [State.margined_lane hl, if_neg hne, hlanes]
  · rw [Bool.or_eq_false_iff] at hj
    exact (State.rd_of_regs hregs' j).trans (hrd j hj.2)
  · exact (State.sramW_of_sram hsram' w).trans (hsram w)

theorem State.marginOp_eq {lane : Nat} {c : MarginCmd} (hin : s.inL0 = true) (hrate : s.linkRate = 3) (hactive : s.activeLane lane = true) :
    marginOk c = true → s.marginOp lane c = match c with
    | .goToNormal => s.marginSaid (s.link.margining &&& ~~~(BitVec.ofNat 4 (2 ^ lane))) lane .marginNormal
    | .report what => s.marginSaid s.link.margining lane (.marginFigure what (marginFigure what))
    | .errorLimit n => { s with link := { s.link with marginLimit := Tab.set marginLimitDefault s.link.marginLimit lane n.toNat } }.marginSaid
        s.link.margining lane (.marginLimit n.toNat)
    | .clearErrors => s.marginSaid s.link.margining lane .marginCleared
    | .timing _ _ => s.marginStep lane
    | .voltage _ _ => s.marginStep lane := by
  intro hok
  have hgo : (!s.inL0 || decide (s.linkRate ≠ 3) || !s.activeLane lane || !marginOk c) = false := by
    rw [hin, hrate, hactive, hok]
    rfl
  unfold State.marginOp
  rw [if_neg (by rw [hgo]; decide)]
  cases c with
  | goToNormal => rfl
  | report what => rfl
  | errorLimit n => rfl
  | clearErrors => rfl
  | timing a b => rfl
  | voltage a b => rfl

/-- A command that only says something on its lane. -/
theorem State.marginSaid_kept {m : BitVec 4} {lane : Nat} {msg : LaneMsg}
    (hm : ∀ l, l ≠ lane → m.getLsbD l = s.link.margining.getLsbD l) : MarginKept s lane (s.marginSaid m lane msg) :=
  ⟨hm, fun _ _ => rfl, fun _ => rfl, rfl⟩

theorem laneMarginCommand_completes {lane : Fin 4} {c : MarginCmd} (hin : s.inL0 = true) (hrate : s.linkRate = 3)
    (hactive : s.activeLane lane.val = true) :
    marginOk c = true → Completes (.laneMarginCommand lane c) s fun t =>
      (match c with
        | .goToNormal => t.link.margining.getLsbD lane.val = false ∧ t.sent = Output.laneMsg lane.val .marginNormal :: s.sent
        | .timing _ _ | .voltage _ _ =>
          (s.link.eyeLane = lane.val → t.bit Reg.HST_EYE_CTL 3 = false) ∧
          ∃ n, n ≤ 63 ∧
            t.link.margining.getLsbD lane.val = decide (n ≤ Tab.get marginLimitDefault s.link.marginLimit lane.val) ∧
            t.sent = Output.laneMsg lane.val
              (.marginErrors (decide (Tab.get marginLimitDefault s.link.marginLimit lane.val < n)) n) :: s.sent
        | .report what => t.link = s.link ∧ t.sent = Output.laneMsg lane.val (.marginFigure what (marginFigure what)) :: s.sent
        | .errorLimit n =>
          Tab.get marginLimitDefault t.link.marginLimit lane.val = n.toNat ∧ t.link.margining = s.link.margining ∧
          t.sent = Output.laneMsg lane.val (.marginLimit n.toNat) :: s.sent
        | .clearErrors => t.link = s.link ∧ t.sent = Output.laneMsg lane.val .marginCleared :: s.sent) ∧
      MarginKept s lane.val t := by
  intro hok
  have hop := State.marginOp_eq hin hrate hactive hok
  refine ⟨s.marginOp lane.val c, rfl, ?_⟩
  rw [hop]
  cases c with
  | goToNormal =>
    have hlane (j : Nat) := getLsbD_laneOut (m := s.link.margining) lane.isLt j
    exact ⟨⟨(hlane _).trans (if_pos rfl), rfl⟩, State.marginSaid_kept fun l hne => (hlane l).trans (if_neg hne)⟩
  | report what => exact ⟨⟨rfl, rfl⟩, State.marginSaid_kept fun _ _ => rfl⟩
  | errorLimit n => exact ⟨⟨Tab.get_set_self, rfl, rfl⟩, fun _ _ => rfl, fun _ _ => rfl, fun _ => rfl, rfl⟩
  | clearErrors => exact ⟨⟨rfl, rfl⟩, State.marginSaid_kept fun _ _ => rfl⟩
  | timing a b => exact State.marginStep_shows lane.isLt
  | voltage a b => exact State.marginStep_shows lane.isLt

theorem eyesAreScanned : EyesAreScanned :=
  ⟨fun _ _ _ hopen hbusy hin hactive hbelow => eyeScanStart_completes hopen hbusy hin hactive hbelow,
    fun _ hauto hbusy hin hbelow hready =>
      ⟨fun hrestart hactive hmargin hstep => eyeScanAuto_again hauto hbusy hin hbelow hready hrestart hactive hmargin hstep,
        fun hrestart hlong hactive => eyeScanAuto_next hauto hbusy hin hbelow hready hrestart hlong hactive⟩,
    fun _ _ _ hruns hgrant => eyeScanDone_completes hruns hgrant,
    fun _ _ hpaused hasleep hlong hbusy => eyeScanPauseTimeout_completes hpaused hasleep hlong hbusy,
    fun _ _ _ hin hrate hactive hok => laneMarginCommand_completes hin hrate hactive hok⟩

end

end Sys2Proof.Machine
end

section
/-!
PROOFS. What events, the planner and the loss of the link leave of the PRBS test mode (R159, R160).
-/

namespace Sys2Proof.Machine
open Sys2Proof.Claims

/-- The registers that tell of the test mode: TESTMODE itself, what HST_PRBS_STS and HST_LINK_STS show, and the shed step. -/
abbrev testReg (k : Nat) : Prop := k = Reg.HST_PHY_CTL ∨ k = Reg.HST_PRBS_STS ∨ k = Reg.HST_LINK_STS ∨ k = Reg.NRG_STS

/-- From `z` to `s` the test mode stands: HST is ON, TESTMODE and ACTIVE are as they were, stopped generators stay stopped, and no other work
waits or is ready, but that shed step 2 defers a ring distribution. Where `held`, the state of the link stands too, unless it is in L1. -/
structure TestKept (held : Prop) (z s : State) : Prop where
  on : (s.island .hst).power = .on
  phy : s.rd Reg.HST_PHY_CTL = z.rd Reg.HST_PHY_CTL
  mode : s.bit Reg.HST_PRBS_STS 4 = z.bit Reg.HST_PRBS_STS 4
  stopped : z.link.prbsRuns = false → s.link.prbsRuns = false
  link : held → z.ltssm ≠ 5 → s.ltssm = z.ltssm ∧ s.linkUp = z.linkUp
  step : s.fld Reg.NRG_STS 0 3 = z.fld Reg.NRG_STS 0 3
  waits : ∀ w ∈ s.nrg.deferred, w ∈ z.nrg.deferred ∨ w = .ringArm ∧ 2 ≤ z.fld Reg.NRG_STS 0 3
  ready : s.nrg.ready = z.nrg.ready

/-- What the test mode is told from. -/
def State.testView (s : State) : Tab Word × Tab IslSt × Bool × List Work × List Work :=
  (s.regs, s.isl, s.link.prbsRuns, s.nrg.deferred, s.nrg.ready)

namespace TestKept

variable {p : Prop} {z s t : State} {k lo w n b : Nat} {v : Word} {x : Bool} {i : Island}

theorem refl (h : (s.island .hst).power = .on) : TestKept p s s :=
  ⟨h, rfl, rfl, id, fun _ _ => ⟨rfl, rfl⟩, rfl, fun _ hw => .inl hw, rfl⟩

theorem trans (h : TestKept p z s) (g : TestKept p s t) : TestKept p z t where
  on := g.on
  phy := g.phy.trans h.phy
  mode := g.mode.trans h.mode
  stopped hz := g.stopped (h.stopped hz)
  link hp hz := by
    obtain ⟨hstate, hup⟩ := h.link hp hz
    obtain ⟨hstate', hup'⟩ := g.link hp (hstate ▸ hz)
    exact ⟨hstate'.trans hstate, hup'.trans hup⟩
  step := g.step.trans h.step
  waits w hw := by
    rcases g.waits w hw with hold | ⟨he, hstep⟩
    · exact h.waits w hold
    · exact .inr ⟨he, h.step ▸ hstep⟩
  ready := g.ready.trans h.ready

/-- Where nothing is said of the link. -/
theorem unheld (h : TestKept p z s) : TestKept False z s := { h with link := False.elim }

/-- A change that leaves the registers of the test mode. -/
theorem moved (h : TestKept p z s) (hrd : ∀ j, testReg j → t.rd j = s.rd j) (hon : (t.island .hst).power = .on)
    (hruns : t.link.prbsRuns = s.link.prbsRuns) (hdeferred : t.nrg.deferred = s.nrg.deferred) (hready : t.nrg.ready = s.nrg.ready) :
    TestKept p z t := by
  have hphy : t.rd Reg.HST_PHY_CTL = s.rd Reg.HST_PHY_CTL := hrd _ (.inl rfl)
  have hprbs : t.rd Reg.HST_PRBS_STS = s.rd Reg.HST_PRBS_STS := hrd _ (.inr (.inl rfl))
  have hlink : t.rd Reg.HST_LINK_STS = s.rd Reg.HST_LINK_STS := hrd _ (.inr (.inr (.inl rfl)))
  have hnrg : t.rd Reg.NRG_STS = s.rd Reg.NRG_STS := hrd _ (.inr (.inr (.inr rfl)))
  exact h.trans ⟨hon, hphy, congrArg (·.getLsbD 4) hprbs, fun hs => hruns.trans hs,
    fun _ _ => ⟨congrArg (fieldOf · 0 3) hlink, congrArg (·.getLsbD 17) hlink⟩, congrArg (fieldOf · 0 3) hnrg,
    fun _ hw => .inl (hdeferred ▸ hw), hready⟩

theorem upd (h : TestKept p z s) (hw : t.testView = s.testView) : TestKept p z t := by
  simp only [State.testView, Prod.mk.injEq] at hw
  obtain ⟨hregs, hisl, hruns, hdeferred, hready⟩ := hw
  have hisland : t.island .hst = s.island .hst := congrArg (Tab.get (islDefault .hst) · Island.hst.idx) hisl
  exact h.moved (fun j _ => State.rd_of_regs hregs j) (hisland ▸ h.on) hruns hdeferred hready

theorem ite {a b : State} {c : Prop} [Decidable c] (ha : TestKept p z a) (hb : TestKept p z b) : TestKept p z (if c then a else b) := by
  split
  · exact ha
  · exact hb

theorem foldl {α : Type} {f : State → α → State} (l : List α) (h : TestKept p z s) (hf : ∀ t a, TestKept p z t → TestKept p z (f t a)) :
    TestKept p z (l.foldl f s) :=
  List.foldlRecOn l f (motive := TestKept p z) h fun t ht a _ => hf t a ht

/-- A loop over the numbers below a bound. -/
theorem forAll_lt {f : State → Nat → State} (h : TestKept p z s) (hf : ∀ t k, k < n → TestKept p z t → TestKept p z (f t k)) :
    TestKept p z (s.forAll (List.range n) f) :=
  List.foldlRecOn _ f (motive := TestKept p z) h fun t ht k hk => hf t k (List.mem_range.1 hk) ht

/-! ### Registers -/

theorem wr (h : TestKept p z s) (hk : ¬testReg k) : TestKept p z (s.wr k v) :=
  h.moved (fun _ hj => State.wr_rd_ne _ (fun he : _ = k => hk (he ▸ hj)) _) h.on rfl rfl rfl

theorem setFld (h : TestKept p z s) (hk : ¬testReg k) : TestKept p z (s.setFld k lo w n) := h.wr hk

theorem setBit (h : TestKept p z s) (hk : ¬testReg k) : TestKept p z (s.setBit k b x) := h.wr hk

theorem bumpBy (h : TestKept p z s) (hk : ¬testReg k) : TestKept p z (s.bumpBy k n) := h.wr hk

/-- A write of HST_LINK_STS, which leaves LTSSM and DL_UP where they are held. -/
theorem wrLink (h : TestKept p z s) (hv : p → fieldOf v 0 3 = s.ltssm ∧ v.getLsbD 17 = s.linkUp) : TestKept p z (s.wr Reg.HST_LINK_STS v) := by
  have hrd (j : Nat) (hj : j ≠ Reg.HST_LINK_STS) : (s.wr Reg.HST_LINK_STS v).rd j = s.rd j := State.wr_rd_ne _ hj _
  have hsts : (s.wr Reg.HST_LINK_STS v).rd Reg.HST_LINK_STS = v := State.wr_rd_self _ _ _
  exact h.trans { refl (p := p) h.on with
    on := h.on
    phy := hrd _ (by decide)
    mode := congrArg (·.getLsbD 4) (hrd Reg.HST_PRBS_STS (by decide))
    link := fun hp _ => ⟨(congrArg (fieldOf · 0 3) hsts).trans (hv hp).1, (congrArg (·.getLsbD 17) hsts).trans (hv hp).2⟩
    step := congrArg (fieldOf · 0 3) (hrd Reg.NRG_STS (by decide)) }

/-- A field of HST_LINK_STS between LTSSM and DL_UP. -/
theorem setLink (h : TestKept p z s) (hlo : 3 ≤ lo) (hw : lo + w ≤ 17) : TestKept p z (s.setFld Reg.HST_LINK_STS lo w n) :=
  h.wrLink fun _ => ⟨fieldOf_withField_of_disjoint (by omega), by rw [getLsbD_withField, if_neg (by omega)]; rfl⟩

/-- A bit of HST_PRBS_STS but ACTIVE. -/
theorem setPrbs (h : TestKept p z s) (hb : b < 18) (hne : b ≠ 4) : TestKept p z (s.setBit Reg.HST_PRBS_STS b x) := by
  have hrd (j : Nat) (hj : j ≠ Reg.HST_PRBS_STS) : (s.setBit Reg.HST_PRBS_STS b x).rd j = s.rd j := State.setBit_rd_ne _ hj _ _
  have hlink := hrd Reg.HST_LINK_STS (by decide)
  exact h.trans { refl (p := p) h.on with
    on := h.on
    phy := hrd _ (by decide)
    mode := State.setBit_bit_of_ne hb hne.symm
    link := fun _ _ => ⟨congrArg (fieldOf · 0 3) hlink, congrArg (·.getLsbD 17) hlink⟩
    step := congrArg (fieldOf · 0 3) (hrd Reg.NRG_STS (by decide)) }

/-! ### Events (R64, R66, R161, R162, R231, R438) -/

theorem setIsland {y : IslSt} (h : TestKept p z s) (hy : i = .hst → y.power = .on) : TestKept p z (s.setIsland i y) := by
  refine h.moved (fun _ _ => rfl) ?_ rfl rfl rfl
  by_cases hi : i = .hst
  · subst hi
    rw [State.setIsland_island_self]
    exact hy rfl
  · rw [State.setIsland_island_ne _ (Ne.symm hi)]
    exact h.on

/-- An island keeps its power state. -/
theorem setIsland_same {y : IslSt} (h : TestKept p z s) (hy : y.power = (s.island i).power) : TestKept p z (s.setIsland i y) :=
  h.setIsland fun hi => by
    subst hi
    exact hy.trans h.on

theorem wake (h : TestKept p z s) : TestKept p z (s.wake i) := by
  unfold State.wake
  refine .ite (h.setIsland_same rfl) (.ite h ?_)
  split
  · exact h.setIsland_same rfl
  · exact h.setIsland_same rfl
  · exact h

theorem send {o : Output} (h : TestKept p z s) : TestKept p z (s.send o) := by
  have hon : ((s.send o).island .hst).power = .on := ((Settled.refl s).send.toRests.power .hst).trans h.on
  have hnrg : (s.send o).nrg = s.nrg := (Settled.refl s).send.nrg
  have hruns : (s.send o).link.prbsRuns = s.link.prbsRuns := (congrArg LinkSt.prbsRuns (s.send_training o) :)
  rcases s.send_regs o with hregs | hregs
  · exact h.moved (fun j _ => State.rd_of_regs hregs j) hon hruns (congrArg NrgSt.deferred hnrg) (congrArg NrgSt.ready hnrg)
  · have hset : TestKept p z (s.setBit Reg.HST_LINK_STS 13 false) := h.setLink (by decide) (by decide)
    exact hset.moved (fun j _ => State.rd_of_regs hregs j) hon hruns (congrArg NrgSt.deferred hnrg) (congrArg NrgSt.ready hnrg)

theorem setCfg {d : Nat} {y : Dword} (h : TestKept p z s) : TestKept p z (s.setCfg d y) := h.upd rfl

theorem setTxn {y : TxnSt} (h : TestKept p z s) : TestKept p z { s with txn := y } := h.upd rfl

/-- Only a link in L1 enters Recovery for an event. -/
theorem toRecovery (h : TestKept p z s) (hs : s.ltssm = 5) : TestKept p z s.toRecovery := by
  have hlow := h.unheld.wrLink (v := withField (s.rd Reg.HST_LINK_STS) 0 3 4) False.elim
  have hst := (hlow.setLink (lo := 13) (w := 3) (n := 0) (by decide) (by decide)).bumpBy (k := Reg.HST_RECOV_CNT) (n := 1) (by decide)
  have hend : TestKept False z s.toRecovery := hst.upd rfl
  exact { hend with link := fun hp hz => absurd ((h.link hp hz).1.symm.trans hs) hz }

theorem leaveL1 (h : TestKept p z s) : TestKept p z s.leaveL1 := by
  unfold State.leaveL1
  split
  case isFalse => exact h
  case isTrue hl1 =>
    simp only [Bool.and_eq_true, decide_eq_true_eq] at hl1
    exact h.wake.toRecovery ((congrArg (fieldOf · 0 3) (State.wake_rd .hst Reg.HST_LINK_STS)).trans hl1.1.2)

theorem sendMessage {c : Nat} (h : TestKept p z s) : TestKept p z (s.sendMessage c) := by
  unfold State.sendMessage
  split
  · exact .ite h.setTxn.leaveL1 h.setTxn.send
  · exact .ite h.setCfg.leaveL1 h.setCfg.send
  · exact h

theorem pmeFor {c : Nat} (h : TestKept p z s) : TestKept p z (s.pmeFor c) := .ite h.send h

theorem setVec {c : Nat} {y : VecSt} (h : TestKept p z s) : TestKept p z (s.setVec c y) := h.upd rfl

theorem signalVector {c : Nat} (h : TestKept p z s) : TestKept p z (s.signalVector c) :=
  .ite h.pmeFor.sendMessage (.ite h.pmeFor.setVec.sendMessage h.pmeFor.setVec)

/-- The registers of the events lie beyond those of the test mode. -/
theorem takeEvent {src : Nat} (h : TestKept p z s) : TestKept p z (s.takeEvent src) := by
  have hset : TestKept p z (s.setBit (Reg.EVT_PEND (src / 18)) (src % 18) true) :=
    h.setBit (by simp only [testReg, Reg.EVT_PEND, Reg.HST_PHY_CTL, Reg.HST_PRBS_STS, Reg.HST_LINK_STS, Reg.NRG_STS]; omega)
  exact .ite h (.ite hset hset.signalVector)

theorem setMon {y : MonSt} (h : TestKept p z s) : TestKept p z { s with mon := y } := h.upd rfl

theorem monEvent {src : Nat} (h : TestKept p z s) : TestKept p z (s.monEvent src) := .ite (.ite h.setMon (h.bumpBy (by decide))) h

theorem park {y : List (Island × Parked)} (h : TestKept p z s) : TestKept p z { s with wakeBuf := y } := h.upd rfl

theorem raise {src : Nat} (h : TestKept p z s) : TestKept p z (s.raise src) := by
  have hm := h.monEvent (src := src)
  exact .ite (.ite hm.park.wake (.ite hm (hm.bumpBy (by decide)))) (.ite hm.takeEvent hm)

theorem raiseBit {c src : Nat} (h : TestKept p z s) (hk : ¬testReg k) : TestKept p z (s.raiseBit k c src) := (h.setBit hk).raise

theorem raiseLink {c : Nat} (h : TestKept p z s) : TestKept p z (s.raiseLink c) := h.raiseBit (by decide)

/-! ### The planner's steps (R266 to R269) -/

theorem setLinkSt {y : LinkSt} (h : TestKept p z s) (hy : y.prbsRuns = s.link.prbsRuns) : TestKept p z { s with link := y } :=
  h.moved (fun _ _ => rfl) h.on hy rfl rfl

/-- Work that waits no longer. -/
theorem lessWork {y : NrgSt} (h : TestKept p z s) (hy : ∀ a ∈ y.deferred, a ∈ s.nrg.deferred) (hr : y.ready = s.nrg.ready) :
    TestKept p z { s with nrg := y } :=
  h.trans { refl (p := p) h.on with
    on := h.on
    waits := fun a ha => .inl (hy a ha)
    ready := hr }

theorem eyeForgotten (h : TestKept p z s) : TestKept p z s.eyeForgotten := by
  have hlink := h.setLinkSt (y := { s.link with eyePausedAt := none, eyeRestart := true }) rfl
  exact hlink.lessWork (fun _ ha => List.mem_of_mem_filter ha) rfl

theorem abortEye (h : TestKept p z s) : TestKept p z (s.abortEye x) := by
  have hstop := ((h.setBit (k := Reg.HST_EYE_CTL) (b := 3) (x := false) (by decide)).setBit (k := Reg.HST_EYE_CTL) (b := 4) (x := true)
    (by decide)).eyeForgotten
  exact .ite (.ite hstop.raiseLink hstop) h

theorem prbsSettle (h : TestKept p z s) : TestKept p z s.prbsSettle := .ite h (h.foldl _ fun _ _ ht => .ite ht (ht.upd rfl))

/-- The generators stop. -/
theorem stop (h : TestKept p z s) : TestKept p z { s with link := { s.link with prbsRuns := false } } :=
  h.trans { refl (p := p) h.on with
    on := h.on
    stopped := fun _ => rfl }

theorem shedPrbs (h : TestKept p z s) : TestKept p z s.shedPrbs :=
  .ite (h.prbsSettle.stop.setPrbs (b := 5) (x := true) (by decide) (by decide)).raiseLink h.prbsSettle

theorem kickSeq (h : TestKept p z s) : TestKept p z (s.kickSeq i) := .ite (.ite h (h.setIsland_same rfl)) h

/-- Step 2 defers a distribution. -/
theorem shedRingArm (h : TestKept p z s) (hstep : 2 ≤ s.fld Reg.NRG_STS 0 3) : TestKept p z s.shedRingArm := by
  have hdeferred : TestKept p s { s with nrg := { s.nrg with
      deferred := (s.nrg.deferred.filter fun w => !decide (w = Work.ringArm)) ++ [Work.ringArm] } } :=
    { refl (p := p) h.on with
      on := h.on
      waits := fun a ha => (List.mem_append.1 ha).imp List.mem_of_mem_filter fun hnew => ⟨List.mem_singleton.1 hnew, hstep⟩ }
  exact .ite ((h.trans hdeferred).upd rfl) h

theorem setQue {y : QueSt} (h : TestKept p z s) : TestKept p z { s with que := y } := h.upd rfl

theorem setTrg {y : TrgSt} (h : TestKept p z s) : TestKept p z { s with trg := y } := h.upd rfl

theorem setPort {c : Nat} {y : Port} (h : TestKept p z s) : TestKept p z (s.setPort c y) := h.setTrg

theorem setQuad {c : Nat} {y : Quad} (h : TestKept p z s) : TestKept p z (s.setQuad c y) := h.upd rfl

theorem setChn {c : Nat} {y : Chan} (h : TestKept p z s) : TestKept p z (s.setChn c y) := h.upd rfl

theorem loseRecord {slot port : Option Nat} (h : TestKept p z s) : TestKept p z (s.loseRecord slot port) := by
  have hslot : TestKept p z (match slot with
      | some k => s.setChn k { s.chn k with lost := (s.chn k).lost + 1 }
      | none => s) := by
    cases slot with
    | none => exact h
    | some k => exact h.setChn
  cases port with
  | none => exact hslot
  | some _ => exact hslot.setPort

theorem loseUnits (h : TestKept p z s) : TestKept p z (s.loseUnits i) := by
  cases i
  case pln => exact h
  case hst => exact (h.setLinkSt (y := { s.link with margining := 0 }) rfl).setTxn
  case que => exact setQue (h.foldl _ fun _ _ ht => .ite ht.loseRecord ht)
  case tqa | tqb | tqc | tqd => exact .setQuad (.setTrg (h.foldl _ fun _ _ ht => ht.setPort))
  all_goals exact h.upd rfl

/-- The registers of the test mode are those of HST and of the Plinth. -/
theorem resetRegs (h : TestKept p z s) (hi : i ≠ .hst) (hpln : i ≠ .pln) : TestKept p z (s.resetRegs i) := by
  refine h.moved (fun j hj => ?_) h.on rfl rfl rfl
  have hblock : i.blocks.contains (j / 65536) = false := by
    rcases hj with rfl | rfl | rfl | rfl
    all_goals
      cases i
      case hst => exact absurd rfl hi
      case pln => exact absurd rfl hpln
      all_goals rfl
  have hrd : (s.resetRegs i).rd j = if _ then s.rd j else resetVal j := Tab.get_filter (resetVal j)
    (fun k => !(i.blocks.contains (k / 65536)) || (decide (k = Reg.RNG_JOIN) && s.bit Reg.RNG_JOIN 1)) s.regs j
  rw [hrd, hblock]
  rfl

theorem enterPower {w : Power} (h : TestKept p z s) (hi : i ≠ .hst) (hpln : i ≠ .pln) (hw : w ≠ .gated) :
    TestKept p z (s.enterPower i w) := by
  have hfall : TestKept p z (s.fallen i w) := h.setIsland fun he => absurd he hi
  have hlost : TestKept p z (if w = .off ∨ w = .gated then (s.fallen i w).loseState i else s.fallen i w) :=
    .ite (hfall.resetRegs hi hpln).loseUnits hfall
  unfold State.enterPower
  dsimp only
  cases w
  case gated => exact absurd rfl hw
  all_goals exact .ite (hlost.setIsland_same rfl) (.ite (hlost.setIsland_same rfl) hlost)

/-- HST, which is ON, begins to drain at most. -/
theorem sleepTo {w : Power} (h : TestKept p z s) (hpln : i ≠ .pln) (hw : w ≠ .gated) : TestKept p z (s.sleepTo i w) := by
  have hasleep (hne : (s.island i).power ≠ .on) : i ≠ .hst := fun he => hne (he ▸ h.on)
  unfold State.sleepTo
  dsimp only
  split
  · exact h
  case h_2 hp => exact .ite (h.enterPower (hasleep (by rw [hp]; decide)) hpln hw) (.ite (h.setIsland_same rfl) h)
  case h_3 hp => exact .ite (h.enterPower (hasleep (by rw [hp]; decide)) hpln hw) (.ite (h.setIsland_same rfl) h)
  · split
    · exact .ite (h.setIsland_same rfl) h
    · exact h.setIsland_same rfl

theorem sleepAllIdle (h : TestKept p z s) : TestKept p z s.sleepAllIdle := by
  refine h.foldl _ fun t i ht => ?_
  by_cases hi : i = .pln
  · subst hi
    exact ht
  · refine .ite ?_ ht
    split
    · exact ht.sleepTo hi (by split <;> decide)
    · exact .ite (ht.sleepTo hi (by decide)) ht
    · exact ht

theorem shedAction (h : TestKept p z s) (hn : s.fld Reg.NRG_STS 0 3 = n) : TestKept p z (s.shedAction n) := by
  unfold State.shedAction
  split
  · exact h.abortEye.shedPrbs
  · exact h.shedRingArm (by omega)
  · exact h.foldl _ fun _ _ ht => ht.kickSeq
  · exact h.sleepAllIdle
  · exact h

/-! ### The loss of the link (R170) -/

theorem sinkHostReads (h : TestKept p z s) : TestKept p z s.sinkHostReads := h.upd rfl

theorem splitAnswer {m : Nat} {ans : Option (List SatWord)} (h : TestKept p z s) : TestKept p z (s.splitAnswer m ans) := by
  unfold State.splitAnswer
  split
  · exact h
  · exact h.upd rfl

theorem endReads (h : TestKept p z s) : TestKept p z s.endReads := by
  have hanswered (l : List Tag) : TestKept p z (l.foldl (fun t x => match x.who with
      | .satRead m | .satAtomic m => if x.sunk then t else t.splitAnswer m none
      | _ => t) s) := h.foldl l fun t x ht => by
    split
    · exact .ite ht ht.splitAnswer
    · exact .ite ht ht.splitAnswer
    · exact ht
  exact (hanswered _).setTxn

theorem dropStagedInto (h : TestKept p z s) (hk : ¬testReg k) : TestKept p z (s.dropStagedInto k) :=
  foldl _ (h.setQue.bumpBy hk) fun _ _ ht => ht.raiseBit (by decide)

theorem killQueues (h : TestKept p z s) : TestKept p z s.killQueues := h.foldl _ fun _ _ ht => ht.upd rfl

theorem setCan {c : Nat} {y : Can} (h : TestKept p z s) : TestKept p z (s.setCan c y) := h.upd rfl

theorem keepOnBus {c : Nat} {src : TxSource} (h : TestKept p z s) : TestKept p z (s.keepOnBus c src) := by
  unfold State.keepOnBus
  split
  · exact .ite h.setCan h
  · exact h

theorem fieldReg_free {r : Nat} (hr : 0xF0000 ≤ r) : ¬testReg r := by
  simp only [testReg, Reg.HST_PHY_CTL, Reg.HST_PRBS_STS, Reg.HST_LINK_STS, Reg.NRG_STS]
  omega

theorem discardHead {c j : Nat} (h : TestKept p z s) : TestKept p z (s.discardHead c j) := by
  unfold State.discardHead
  split
  · exact h
  · exact setCan (.ite h.keepOnBus (h.keepOnBus.bumpBy (fieldReg_free (by simp only [Reg.FB_TXDISC]; omega))))

theorem clearRequests {c : Nat} (h : TestKept p z s) : TestKept p z (s.clearRequests c) := by
  have hcancel := h.forAll_lt (n := 64) (f := fun t j => t.cancelBuffer c j) fun t j _ ht =>
    .ite (ht.keepOnBus.setBit (fieldReg_free (by simp only [Reg.FB_TXREQ]; omega))) ht
  exact hcancel.foldl _ fun _ _ ht => ht.discardHead

theorem fldRequestsEnd (h : TestKept p z s) : TestKept p z s.fldRequestsEnd := .ite (h.foldl _ fun _ _ ht => ht.clearRequests) h

theorem breakLocks {mine : LockOwner → Bool} (h : TestKept p z s) : TestKept p z (s.breakLocks mine) :=
  h.upd (State.breakLocks_keeps State.testView fun _ _ _ => rfl)

theorem takeIdentity {im : Option Image} (h : TestKept p z s) : TestKept p z (s.takeIdentity im) :=
  setBit (s := { s with arm := { s.arm with identity := s.identityOf im, bar2Log2 := bar2LogOf im } }) (h.upd rfl) (by decide)

theorem enterDetect (h : TestKept p z s) : TestKept p z s.enterDetect := by
  have hlink := h.setLinkSt (y := { s.link with eqCap := 3, eq8 := false, eq16 := false, eqRedo := false }) rfl
  exact .ite hlink.takeIdentity hlink

theorem lane_free {l : Nat} (hl : l < 4) : ¬testReg (Reg.HST_LANE_STS l) := by
  revert l
  decide

theorem linkDetect (h : TestKept False z s) : TestKept False z s.linkDetect := by
  have hlow := h.wrLink (v := s.rd Reg.HST_LINK_STS &&& 0x10000) False.elim
  have hlanes := hlow.abortEye (x := false).forAll_lt (n := 4) (f := fun t l => t.setFld (Reg.HST_LANE_STS l) 0 2 0) fun _ _ hl ht =>
    ht.setFld (lane_free hl)
  have hend {u : State} (hu : TestKept False z u) : TestKept False z { u with
      link := { u.link with unlocked := 0, l0At := none, margining := 0, marginLimit := [], upcfgRun := false, ltrDue := false } } :=
    hu.setLinkSt rfl
  exact (hend hlanes).enterDetect

theorem linkWorkEnded (h : TestKept p z s) : TestKept p z s.linkWorkEnded :=
  ((h.sinkHostReads.endReads.dropStagedInto (k := Reg.HST_LL_DROP) (by decide)).killQueues.fldRequestsEnd).breakLocks

theorem linkDropped (h : TestKept False z s) : TestKept False z s.linkDropped := by
  have hset := (h.linkDetect.setTxn (y := (s.linkDetect.resetConfig true).txn)).setBit (k := Reg.HST_LL_STS) (b := 1) (x := true) (by decide)
  exact hset.setLinkSt rfl

theorem surpriseDown (h : TestKept False z s) : TestKept False z s.surpriseDown := by
  cases hup : s.linkUp with
  | true =>
    rw [State.surpriseDown_eq hup]
    exact h.linkWorkEnded.linkDropped.raiseLink
  | false =>
    rw [State.surpriseDown_of_down hup]
    exact h

end TestKept

end Sys2Proof.Machine
end

section
/-!
PROOFS. How the PRBS test mode is entered (R159, R266 to R269).
-/

namespace Sys2Proof.Machine
open Sys2Proof.Claims

section
variable {s t u : State} {k : Nat} {req : Requester} {v fin : Word}

/-! ### A pass of the planner in the test mode (R266 to R269) -/

/-- At most one shed step comes before the work that is admitted: `u` has counted it, `v` has taken it. -/
theorem State.planPass_kept (hon : (s.island .hst).power = .on) : ∃ u v : State, (∀ k, k ≠ Reg.NRG_STS → u.rd k = s.rd k) ∧
    s.fld Reg.NRG_STS 0 3 ≤ u.fld Reg.NRG_STS 0 3 ∧ u.nrg.deferred = s.nrg.deferred ∧ u.nrg.ready = s.nrg.ready ∧ TestKept True u v ∧
    s.planPass = v.admitWork.showNrg := by
  by_cases hshed : (s.ceiling.1 < (s.rd Reg.NRG_POWER).toNat ∨ s.ceiling.1 < s.forecast) ∧ s.fld Reg.NRG_STS 0 3 < 7
  · have hstep : (s.setFld Reg.NRG_STS 0 3 (s.fld Reg.NRG_STS 0 3 + 1)).fld Reg.NRG_STS 0 3 = s.fld Reg.NRG_STS 0 3 + 1 :=
      (State.setFld_fld_self (by decide)).trans (Nat.mod_eq_of_lt (by omega))
    have hrd (k : Nat) (hk : k ≠ Reg.NRG_STS) := s.setFld_rd_ne hk 0 3 (s.fld Reg.NRG_STS 0 3 + 1)
    have hpass : s.planPass = _ := congrArg (fun t : State => t.admitWork.showNrg) (if_pos hshed)
    have hnrg : (s.setFld Reg.NRG_STS 0 3 (s.fld Reg.NRG_STS 0 3 + 1)).nrg = s.nrg := rfl
    have hisl : ((s.setFld Reg.NRG_STS 0 3 (s.fld Reg.NRG_STS 0 3 + 1)).island .hst).power = .on := hon
    generalize s.setFld Reg.NRG_STS 0 3 (s.fld Reg.NRG_STS 0 3 + 1) = w at hstep hrd hpass hnrg hisl
    have hkept : TestKept True w { w with nrg := { w.nrg with over7 := 0, step7Whole := false } } := (TestKept.refl hisl).upd rfl
    refine ⟨w, _, hrd, by omega, congrArg NrgSt.deferred hnrg, congrArg NrgSt.ready hnrg, ?_, hpass⟩
    exact (hkept.shedAction (hkept.step.trans hstep)).raiseBit (by decide)
  · exact ⟨s, s, fun _ _ => rfl, le_rfl, rfl, rfl, TestKept.refl hon, congrArg (fun t : State => t.admitWork.showNrg) (if_neg hshed)⟩

/-- The generators start without a report; ACTIVE stands. -/
theorem State.startReady_of_prbs (h : ∀ w ∈ s.nrg.ready, w = Work.prbs) :
    s.startReady.bit Reg.HST_PRBS_STS 4 = s.bit Reg.HST_PRBS_STS 4 ∧ ∀ k, k ≠ Reg.HST_PRBS_STS → s.startReady.rd k = s.rd k := by
  refine List.foldlRecOn (motive := fun (t : State) => t.bit Reg.HST_PRBS_STS 4 = s.bit Reg.HST_PRBS_STS 4 ∧
    ∀ k, k ≠ Reg.HST_PRBS_STS → t.rd k = s.rd k) s.nrg.ready _ ⟨rfl, fun _ _ => rfl⟩ fun t ht w hw => ?_
  obtain ⟨hmode, hrd⟩ := ht
  rw [h w hw]
  exact ⟨(State.setBit_bit_of_ne (by decide) (by decide)).trans hmode, fun k hk => (State.setBit_rd_ne _ hk _ _).trans (hrd k hk)⟩

/-- The generators wait for the planner, or start at once; a distribution that step 2 has deferred goes on waiting. -/
theorem State.requestPrbs_kept (hon : (s.island .hst).power = .on) (hready : s.nrg.ready = [])
    (hwaits : ∀ w ∈ s.nrg.deferred, w = .ringArm ∧ 2 ≤ s.fld Reg.NRG_STS 0 3) :
    (s.requestWork .prbs).startReady.rd Reg.HST_PHY_CTL = s.rd Reg.HST_PHY_CTL ∧
    (s.requestWork .prbs).startReady.bit Reg.HST_PRBS_STS 4 = s.bit Reg.HST_PRBS_STS 4 ∧
    (s.ltssm ≠ 5 → (s.requestWork .prbs).startReady.ltssm = s.ltssm ∧ (s.requestWork .prbs).startReady.linkUp = s.linkUp) := by
  obtain ⟨u, w, hu, hstep, hdeferred, hready', hkept, hpass⟩ := State.planPass_kept (s := s.workAsked .prbs) hon
  have hrd (k : Nat) (hk : k ≠ Reg.NRG_STS) : u.rd k = s.rd k := (hu k hk).trans (s.workAsked_rd .prbs)
  have hlist : (s.workAsked .prbs).nrg.deferred = s.nrg.deferred.filter (fun x => !decide (x = .prbs)) ++ [.prbs] := rfl
  have hnone : (s.workAsked .prbs).nrg.ready = [] := hready
  have hnrg : (s.workAsked .prbs).fld Reg.NRG_STS 0 3 = s.fld Reg.NRG_STS 0 3 := congrArg (fieldOf · 0 3) (s.workAsked_rd .prbs)
  have hadmitted : ∀ x ∈ (s.requestWork .prbs).nrg.ready, x = .prbs := by
    intro x hx
    rw [State.requestWork_eq, hpass, State.showNrg_nrg] at hx
    rcases State.admitWork_admits x hx with hold | ⟨hwait, hstep'⟩
    · rw [hkept.ready, hready', hnone] at hold
      cases hold
    · rw [hkept.step] at hstep'
      have hring (he : x = .ringArm) (h2 : 2 ≤ u.fld Reg.NRG_STS 0 3) : x = .prbs := by
        subst he
        exact absurd hstep' (Nat.not_lt.2 h2)
      rcases hkept.waits x hwait with hwas | ⟨he, h2⟩
      · rw [hdeferred, hlist] at hwas
        rcases List.mem_append.1 hwas with hother | hnew
        · obtain ⟨he, h2⟩ := hwaits x (List.mem_of_mem_filter hother)
          exact hring he (by omega)
        · exact List.mem_singleton.1 hnew
      · exact hring he h2
  have hshown (k : Nat) (hk : testReg k) (hne : k ≠ Reg.NRG_STS) : (s.requestWork .prbs).rd k = w.rd k := by
    rw [State.requestWork_eq, hpass, State.showNrg_rd ?_]
    · exact State.admitWork_keeps (State.rd · k) fun _ _ => rfl
    · rcases hk with rfl | rfl | rfl | rfl
      · decide
      · decide
      · decide
      · exact absurd rfl hne
  obtain ⟨hmode, hrest⟩ := State.startReady_of_prbs hadmitted
  have hlink : (s.requestWork .prbs).startReady.rd Reg.HST_LINK_STS = w.rd Reg.HST_LINK_STS :=
    (hrest _ (by decide)).trans (hshown _ (.inr (.inr (.inl rfl))) (by decide))
  have hlink' : u.rd Reg.HST_LINK_STS = s.rd Reg.HST_LINK_STS := hrd _ (by decide)
  refine ⟨?_, ?_, fun hne => ?_⟩
  · rw [hrest _ (by decide), hshown _ (.inl rfl) (by decide), hkept.phy, hrd _ (by decide)]
  · rw [hmode, State.bit, hshown _ (.inr (.inl rfl)) (by decide), ← State.bit, hkept.mode, State.bit, hrd _ (by decide), State.bit]
  · have hstate : u.ltssm = s.ltssm := congrArg (fieldOf · 0 3) hlink'
    obtain ⟨hltssm, hup⟩ := hkept.link trivial (hstate ▸ hne)
    exact ⟨(congrArg (fieldOf · 0 3) hlink).trans (hltssm.trans hstate),
      (congrArg (·.getLsbD 17) hlink).trans (hup.trans (congrArg (·.getLsbD 17) hlink'))⟩

/-! ### TESTMODE is set (R159) -/

/-- HST takes accesses while it is ON. -/
theorem State.openFor_on {a : RegAccess} (h : s.openFor a .hst = true) : (s.island .hst).power = .on := by
  obtain ⟨-, -, ⟨hcause, hgate⟩, -⟩ := State.openFor_iff.1 h
  have hgated : (s.island .hst).power ≠ .gated := by
    intro hp
    rw [State.islandCause, if_neg (by decide), hp, decide_eq_true rfl, Bool.or_true, if_pos rfl] at hcause
    cases hcause
  simp only [State.gateClosed, Bool.or_eq_false_iff, decide_eq_false_iff_not] at hgate
  obtain ⟨⟨-, hdoze⟩, hoff⟩ := hgate
  cases hp : (s.island .hst).power with
  | on => rfl
  | doze => exact absurd hp hdoze
  | off => exact absurd hp hoff
  | gated => exact absurd hp hgated

theorem State.prbsPreset_rd (hk : offLanes k) : s.prbsPreset.rd k = s.rd k := by
  unfold State.prbsPreset
  split
  · refine State.forAll_lanes_rd hk fun t l _ hne => ?_
    split
    · exact State.setFld_rd_ne _ hne _ _ _
    · rfl
  · rfl

theorem State.prbsPreset_keeps {β : Type} (view : State → β) (hv : ∀ (t : State) k w, view (t.wr k w) = view t) : view s.prbsPreset = view s := by
  unfold State.prbsPreset
  split
  · refine State.forAll_keeps view (fun t l => ?_) _ s
    split
    · exact hv _ _ _
    · rfl
  · rfl

/-- The checkers and generators have not started yet. -/
def State.prbsStopped (s : State) : State := { s with link := { s.link with prbsRuns := false } }

theorem State.prbsStopped_rd : s.prbsStopped.rd k = s.rd k := rfl

/-- The link is held in the test mode, with ACTIVE set. -/
def State.testHeld (s : State) : State := (((s.setFld Reg.HST_LINK_STS 0 3 7).prbsPreset).wr Reg.HST_PRBS_STS 0x10).prbsStopped

theorem State.testEnter_eq : s.testEnter = s.surpriseDown.testHeld.requestWork .prbs := rfl

theorem State.testHeld_rd (hk : offLanes k) (hlink : k ≠ Reg.HST_LINK_STS) (hprbs : k ≠ Reg.HST_PRBS_STS) : s.testHeld.rd k = s.rd k := by
  rw [State.testHeld, State.prbsStopped_rd, State.wr_rd_ne _ hprbs, State.prbsPreset_rd hk, State.setFld_rd_ne _ hlink]

theorem State.testHeld_link : s.testHeld.rd Reg.HST_LINK_STS = withField (s.rd Reg.HST_LINK_STS) 0 3 7 := by
  rw [State.testHeld, State.prbsStopped_rd, State.wr_rd_ne _ (by decide), State.prbsPreset_rd (by decide), State.setFld_rd_self]

theorem State.testHeld_shows : s.testHeld.bit Reg.HST_PRBS_STS 4 = true ∧ s.testHeld.ltssm = 7 ∧ s.testHeld.linkUp = s.linkUp := by
  refine ⟨?_, ?_, ?_⟩
  · rw [State.testHeld, State.bit, State.prbsStopped_rd, State.wr_rd_self]
    rfl
  · rw [State.ltssm, State.fld, State.testHeld_link]
    exact fieldOf_withField_self (by decide)
  · rw [State.linkUp, State.bit, State.testHeld_link, getLsbD_withField, if_neg (by omega)]
    rfl

theorem State.testHeld_keeps {β : Type} (view : State → β) (hv : ∀ (t : State) k w, view (t.wr k w) = view t)
    (hstop : ∀ t : State, view t.prbsStopped = view t) : view s.testHeld = view s :=
  (hstop _).trans ((hv _ _ _).trans ((State.prbsPreset_keeps view hv).trans (hv _ _ _)))

theorem State.surpriseDown_down : s.surpriseDown.linkUp = false := by
  cases hup : s.linkUp with
  | true => exact (State.surpriseDown_lost hup).down
  | false =>
    rw [State.surpriseDown_of_down hup]
    exact hup

/-- The test mode is entered: the link is down and held (R159). -/
theorem State.testEnter_shows (hon : (s.island .hst).power = .on) (hready : s.nrg.ready = []) (hdeferred : s.nrg.deferred = []) :
    s.testEnter.startReady.rd Reg.HST_PHY_CTL = s.rd Reg.HST_PHY_CTL ∧ s.testEnter.startReady.linkUp = false ∧
    s.testEnter.startReady.ltssm = 7 ∧ s.testEnter.startReady.bit Reg.HST_PRBS_STS 4 = true := by
  have hdown := (TestKept.refl (p := False) hon).surpriseDown
  obtain ⟨hmode, hstate, hup⟩ := State.testHeld_shows (s := s.surpriseDown)
  have hisl : (s.surpriseDown.testHeld.island .hst).power = .on :=
    (State.testHeld_keeps (fun t : State => (t.island .hst).power) (fun _ _ _ => rfl) fun _ => rfl).trans hdown.on
  have hnrg : s.surpriseDown.testHeld.nrg = s.surpriseDown.nrg := State.testHeld_keeps State.nrg (fun _ _ _ => rfl) fun _ => rfl
  have hstep : s.surpriseDown.testHeld.fld Reg.NRG_STS 0 3 = s.fld Reg.NRG_STS 0 3 :=
    (congrArg (fieldOf · 0 3) (State.testHeld_rd (by decide) (by decide) (by decide))).trans hdown.step
  have hphy : s.surpriseDown.testHeld.rd Reg.HST_PHY_CTL = s.rd Reg.HST_PHY_CTL :=
    (State.testHeld_rd (by decide) (by decide) (by decide)).trans hdown.phy
  obtain ⟨hphy', hmode', hlink⟩ := State.requestPrbs_kept hisl ((congrArg NrgSt.ready hnrg).trans (hdown.ready.trans hready))
    fun x hx => by
      rw [hnrg] at hx
      rw [hstep]
      refine (hdown.waits x hx).resolve_left ?_
      rw [hdeferred]
      exact List.not_mem_nil
  obtain ⟨hstate', hup'⟩ := hlink (by rw [hstate]; decide)
  rw [State.testEnter_eq]
  exact ⟨hphy'.trans hphy, hup'.trans (hup.trans State.surpriseDown_down), hstate'.trans hstate, hmode'.trans hmode⟩

/-! ### Writes of HST_PHY_CTL (R159, R160) -/

theorem State.phyStored_rd (hk : k ≠ Reg.HST_PHY_CTL) : (s.phyStored req v fin).rd k = s.rd k :=
  State.wr_rd_ne (s.onBus (busActivity (regAcc req Reg.HST_PHY_CTL v))) hk fin

theorem State.phyStored_phy : (s.phyStored req v fin).rd Reg.HST_PHY_CTL = fin :=
  State.wr_rd_self (s.onBus (busActivity (regAcc req Reg.HST_PHY_CTL v))) _ fin

theorem State.phyStored_work : (s.phyStored req v fin).isl = s.isl ∧ (s.phyStored req v fin).nrg.deferred = s.nrg.deferred ∧
    (s.phyStored req v fin).nrg.ready = s.nrg.ready := ⟨rfl, rfl, rfl⟩

/-- What a write of HST_PHY_CTL has been asked for. -/
abbrev phyWanted (old v : Word) : Word := mergeWrite (rowOf Reg.HST_PHY_CTL) old v

theorem State.directStored_phy : s.directStored req Reg.HST_PHY_CTL v fin = (s.phyStored req v fin).phyHook
    { req := req, old := s.rd Reg.HST_PHY_CTL, v := v, want := phyWanted (s.rd Reg.HST_PHY_CTL) v, new := fin, direct := true } := rfl

end

end Sys2Proof.Machine
end

section
/-!
PROOFS. The PRBS test mode's start and end, its checkers and counters (R159, R160); the settling of O20.
-/

namespace Sys2Proof.Machine
open Sys2Proof.Claims

section
variable {s t u : State} {k : Nat} {req : Requester} {v fin : Word}

/-! ### What a write of TESTMODE starts (R159, R160) -/

theorem State.phyHook_enters {w : Written} (hreq : w.req ≠ .host) (hold : w.old.getLsbD 6 = false) (hnew : w.new.getLsbD 6 = true)
    (hv : w.v.getLsbD 5 = false) : s.phyHook w = s.testEnter := by
  unfold State.phyHook
  simp only [hreq, hold, hnew, hv, false_and, if_false, Bool.not_false, Bool.and_true, if_true, Bool.false_eq_true]

theorem State.phyHook_refused {w : Written} (hreq : w.req = .host) (hwant : w.want.getLsbD 6 = true) (hset : w.v.getLsbD 6 = true)
    (hold : w.old.getLsbD 6 = false) (hnew : w.new.getLsbD 6 = false) (hv : w.v.getLsbD 5 = false) : s.phyHook w = s.raiseLink 8 := by
  unfold State.phyHook
  simp only [hreq, hwant, hset, hold, hnew, hv, and_self, if_true, Bool.and_false, Bool.false_and, if_false, Bool.false_eq_true]

theorem State.phyHook_leaves {w : Written} (hset : w.v.getLsbD 6 = false) (hold : w.old.getLsbD 6 = true) (hnew : w.new.getLsbD 6 = false) :
    s.phyHook w = if w.v.getLsbD 5 then s.testExit.redetectOp else s.testExit := by
  unfold State.phyHook
  simp only [hset, hold, hnew, and_false, Bool.false_eq_true, if_false, Bool.false_and, Bool.not_false, Bool.and_self, if_true]

/-- TESTMODE is the requester's to set, but for the host (R159). -/
theorem phyWanted_testmode (old v : Word) : (phyWanted old v).getLsbD 6 = v.getLsbD 6 := by
  rw [phyWanted, getLsbD_mergeWrite rfl, if_pos (by decide)]

theorem phyKept_of_ne {old new : Word} (hreq : req ≠ .host) : phyKept req old new = new := if_neg hreq

theorem phyKept_host_testmode {old new : Word} (h : (old.getLsbD 6 && new.getLsbD 6) = false) : (phyKept .host old new).getLsbD 6 = false := by
  rw [phyKept, if_pos rfl, getLsbD_withField_flag _ _ (by decide), h]

/-- What is written to HST_PHY_CTL, and what it holds before and after. -/
abbrev phyWritten (req : Requester) (old v fin : Word) : Written :=
  { req := req, old := old, v := v, want := phyWanted old v, new := fin, direct := true }

/-- A write of HST_PHY_CTL that sets TESTMODE to `n`: what it stores, and what that starts. -/
theorem State.writeTestmode {n : Nat} (hopen : s.openFor (regAcc req Reg.HST_PHY_CTL (withField (s.rd Reg.HST_PHY_CTL) 6 1 n)) .hst = true)
    (hres : s.rd Reg.HST_PHY_CTL &&& (rowOf Reg.HST_PHY_CTL).reservedBits = 0) (hv : withField (s.rd Reg.HST_PHY_CTL) 6 1 n = v)
    (hfin : phyKept req (s.rd Reg.HST_PHY_CTL) (phyWanted (s.rd Reg.HST_PHY_CTL) v) = fin) :
    ∃ m, s.writeReg req Reg.HST_PHY_CTL (withField (s.rd Reg.HST_PHY_CTL) 6 1 n) =
      ((s.phyStored req v fin).phyHook (phyWritten req (s.rd Reg.HST_PHY_CTL) v fin)).startReady.withMon m := by
  rw [← State.directStored_phy, hv]
  refine State.writeReg_starts unguarded_phyCtl (hv ▸ hopen) (hv ▸ withField_bit_and hres rfl) ?_
  rw [writeJudged_phyCtl, ← hfin]

/-! ### TESTMODE is set (R159) -/

theorem testmodeEnter_completes (hopen : s.openFor (regAcc req Reg.HST_PHY_CTL (withField (s.rd Reg.HST_PHY_CTL) 6 1 1)) .hst = true)
    (hres : s.rd Reg.HST_PHY_CTL &&& (rowOf Reg.HST_PHY_CTL).reservedBits = 0) (hredetect : s.bit Reg.HST_PHY_CTL 5 = false)
    (htest : s.bit Reg.HST_PHY_CTL 6 = false) (hdeferred : s.nrg.deferred = []) :
    Completes (.testmodeEnter req) s fun t =>
      (req ≠ .host → t.bit Reg.HST_PHY_CTL 6 = true ∧ t.linkUp = false ∧ t.ltssm = 7 ∧ t.bit Reg.HST_PRBS_STS 4 = true) ∧
      (req = .host → t.bit Reg.HST_PHY_CTL 6 = false ∧ t.bit Reg.HST_LINK_EVT 8 = true ∧ t.linkUp = s.linkUp) := by
  have hon : (s.island .hst).power = .on := State.openFor_on hopen
  have hready : s.nrg.ready = [] := State.openFor_ready hopen
  generalize hv : withField (s.rd Reg.HST_PHY_CTL) 6 1 1 = v
  have hv5 : v.getLsbD 5 = false := by
    rw [← hv, getLsbD_withField, if_neg (by omega)]
    exact hredetect
  have hv6 : v.getLsbD 6 = true := hv ▸ getLsbD_withField_flag _ 6 (by decide) true
  have hwant : (phyWanted (s.rd Reg.HST_PHY_CTL) v).getLsbD 6 = true := (phyWanted_testmode _ _).trans hv6
  generalize hfin : phyKept req (s.rd Reg.HST_PHY_CTL) (phyWanted (s.rd Reg.HST_PHY_CTL) v) = fin
  obtain ⟨m, hm⟩ := State.writeTestmode (n := 1) hopen hres hv hfin
  obtain ⟨hisl, hwaits, hwork⟩ := State.phyStored_work (s := s) (req := req) (v := v) (fin := fin)
  have hlink : (s.phyStored req v fin).rd Reg.HST_LINK_STS = s.rd Reg.HST_LINK_STS := State.phyStored_rd (by decide)
  have hphy : (s.phyStored req v fin).rd Reg.HST_PHY_CTL = fin := State.phyStored_phy
  by_cases hreq : req = .host
  case neg =>
    have hfin6 : fin.getLsbD 6 = true := by rw [← hfin, phyKept_of_ne hreq, hwant]
    rw [State.phyHook_enters (w := phyWritten req (s.rd Reg.HST_PHY_CTL) v fin) hreq htest hfin6 hv5] at hm
    generalize s.phyStored req v fin = u at hm hisl hwaits hwork hphy
    have hon' : (u.island .hst).power = .on := by rw [State.island, hisl]; exact hon
    obtain ⟨hctl, hdown, hstate, hmode⟩ := State.testEnter_shows hon' (hwork.trans hready) (hwaits.trans hdeferred)
    have hset : u.testEnter.startReady.bit Reg.HST_PHY_CTL 6 = true := by rw [State.bit, hctl, hphy, hfin6]
    generalize u.testEnter.startReady = t at hm hset hdown hstate hmode
    exact ⟨_, congrArg Host.Outcome.next hm, fun _ => ⟨hset, hdown, hstate, hmode⟩, fun he => absurd he hreq⟩
  case pos =>
    have hold : (s.rd Reg.HST_PHY_CTL).getLsbD 6 = false := htest
    have hfin6 : fin.getLsbD 6 = false := by
      subst hreq
      rw [← hfin, phyKept_host_testmode (by rw [hold, Bool.false_and])]
    rw [State.phyHook_refused (w := phyWritten req (s.rd Reg.HST_PHY_CTL) v fin) hreq hwant hv6 htest hfin6 hv5] at hm
    generalize s.phyStored req v fin = u at hm hwork hlink hphy
    have hraised := State.raiseLink_raised (s := u) (b := 8) (by decide)
    rw [State.startReady_of_none ((congrArg NrgSt.ready (State.raiseLink_settled (by decide)).nrg).trans (hwork.trans hready))] at hm
    have hclear : (u.raiseLink 8).bit Reg.HST_PHY_CTL 6 = false := by rw [hraised.reg_bit (by decide) (by decide), State.bit, hphy, hfin6]
    have hup : (u.raiseLink 8).linkUp = s.linkUp := (hraised.bits 17 (by decide) (.inr (by decide))).trans (congrArg (·.getLsbD 17) hlink)
    have hevent := hraised.event
    generalize u.raiseLink 8 = t at hm hclear hevent hup
    exact ⟨_, congrArg Host.Outcome.next hm, fun hne => absurd hreq hne, fun _ => ⟨hclear, hevent, hup⟩⟩

/-! ### TESTMODE is cleared (R160) -/

/-- The test mode is over: the LTSSM is in Detect, and neither generators nor checkers run. -/
structure TestOver (s : State) : Prop where
  on : (s.island .hst).power = .on
  phy : s.bit Reg.HST_PHY_CTL 6 = false
  ltssm : s.ltssm = 0
  mode : s.bit Reg.HST_PRBS_STS 4 = false
  stopped : s.link.prbsRuns = false
  ready : s.nrg.ready = []

/-- Whatever the test mode stands through, with the LTSSM in Detect. -/
theorem TestOver.kept {p : Prop} (h : TestOver s) (g : TestKept p s t) (hstate : t.ltssm = 0) : TestOver t where
  on := g.on
  phy := (congrArg (·.getLsbD 6) g.phy).trans h.phy
  ltssm := hstate
  mode := g.mode.trans h.mode
  stopped := g.stopped h.stopped
  ready := g.ready.trans h.ready

theorem TestOver.enterDetect (h : TestOver s) : TestOver s.enterDetect := by
  have hkept := (TestKept.refl (p := True) h.on).enterDetect
  exact h.kept hkept ((hkept.link trivial (by rw [h.ltssm]; decide)).1.trans h.ltssm)

/-- The generators have stopped, and no start of them waits. -/
def State.prbsEnded (s : State) : State :=
  { s with link := { s.link with prbsRuns := false }, nrg := { s.nrg with deferred := s.nrg.deferred.filter fun w => !decide (w = Work.prbs) } }

/-- Nothing of the test mode shows. -/
def State.testCleared (s : State) : State :=
  ((s.setFld Reg.HST_LINK_STS 0 3 0).setBit Reg.HST_PRBS_STS 4 false).setFld Reg.HST_PRBS_STS 0 4 0

theorem State.testExit_eq : s.testExit = s.prbsSettle.prbsEnded.testCleared.enterDetect.showNrg := rfl

theorem State.testCleared_rd (hlink : k ≠ Reg.HST_LINK_STS) (hprbs : k ≠ Reg.HST_PRBS_STS) : s.testCleared.rd k = s.rd k := by
  rw [State.testCleared, State.setFld_rd_ne _ hprbs, State.setBit_rd_ne _ hprbs, State.setFld_rd_ne _ hlink]

theorem State.testCleared_ltssm : s.testCleared.ltssm = 0 := by
  rw [State.ltssm, State.fld, State.testCleared, State.setFld_rd_ne _ (by decide), State.setBit_rd_ne _ (by decide), State.setFld_rd_self]
  exact fieldOf_withField_self (by decide)

theorem State.testCleared_mode : s.testCleared.bit Reg.HST_PRBS_STS 4 = false := by
  rw [State.bit, State.testCleared, State.setFld_rd_self, getLsbD_withField, if_neg (by omega)]
  exact State.setBit_bit_self (by decide)

theorem State.testCleared_keeps {β : Type} (view : State → β) (hv : ∀ (t : State) k w, view (t.wr k w) = view t) :
    view s.testCleared = view s := (hv _ _ _).trans ((hv _ _ _).trans (hv _ _ _))

theorem State.prbsEnded_rd : s.prbsEnded.rd k = s.rd k := rfl

theorem State.prbsEnded_isl : s.prbsEnded.isl = s.isl := rfl

theorem State.prbsEnded_stopped : s.prbsEnded.link.prbsRuns = false := rfl

theorem State.prbsEnded_ready : s.prbsEnded.nrg.ready = s.nrg.ready := rfl

theorem TestOver.showNrg (h : TestOver s) : TestOver s.showNrg where
  on := (State.showNrg_keeps (fun t : State => (t.island .hst).power) fun _ _ _ => rfl).trans h.on
  phy := (congrArg (·.getLsbD 6) (State.showNrg_rd (by decide))).trans h.phy
  ltssm := (congrArg (fieldOf · 0 3) (State.showNrg_rd (by decide))).trans h.ltssm
  mode := (congrArg (·.getLsbD 4) (State.showNrg_rd (by decide))).trans h.mode
  stopped := (congrArg LinkSt.prbsRuns State.showNrg_link).trans h.stopped
  ready := (congrArg NrgSt.ready State.showNrg_nrg).trans h.ready

theorem State.testCleared_over (hon : (s.island .hst).power = .on) (hphy : s.bit Reg.HST_PHY_CTL 6 = false) (hruns : s.link.prbsRuns = false)
    (hready : s.nrg.ready = []) : TestOver s.testCleared where
  on := (State.testCleared_keeps (fun t : State => (t.island .hst).power) fun _ _ _ => rfl).trans hon
  phy := (congrArg (·.getLsbD 6) (State.testCleared_rd (by decide) (by decide))).trans hphy
  ltssm := State.testCleared_ltssm
  mode := State.testCleared_mode
  stopped := (State.testCleared_keeps (fun t : State => t.link.prbsRuns) fun _ _ _ => rfl).trans hruns
  ready := (State.testCleared_keeps (fun t : State => t.nrg.ready) fun _ _ _ => rfl).trans hready

theorem State.testExit_over (hon : (s.island .hst).power = .on) (hphy : s.bit Reg.HST_PHY_CTL 6 = false) (hready : s.nrg.ready = []) :
    TestOver s.testExit := by
  have hkept := (TestKept.refl (p := True) hon).prbsSettle
  rw [State.testExit_eq]
  refine (State.testCleared_over ?_ ?_ State.prbsEnded_stopped (State.prbsEnded_ready.trans (hkept.ready.trans hready))).enterDetect.showNrg
  · rw [State.island, State.prbsEnded_isl]
    exact hkept.on
  · rw [State.bit, State.prbsEnded_rd, hkept.phy]
    exact hphy

/-- The LTSSM is put into Detect. -/
theorem TestOver.setDetect (h : TestOver s) : TestOver (s.setFld Reg.HST_LINK_STS 0 3 0) where
  on := h.on
  phy := (congrArg (·.getLsbD 6) (State.setFld_rd_ne _ (by decide) _ _ _)).trans h.phy
  ltssm := State.setFld_fld_self (by decide)
  mode := (congrArg (·.getLsbD 4) (State.setFld_rd_ne _ (by decide) _ _ _)).trans h.mode
  stopped := h.stopped
  ready := h.ready

theorem TestOver.redetectOp (h : TestOver s) : TestOver s.redetectOp := by
  rw [State.redetectOp, if_neg (by rw [h.phy]; decide)]
  split
  case isTrue hup => exact h.kept (TestKept.refl (p := False) h.on).surpriseDown (State.surpriseDown_lost hup).ltssm
  case isFalse => exact h.setDetect.enterDetect

theorem testmodeExit_completes (hopen : s.openFor (regAcc req Reg.HST_PHY_CTL (withField (s.rd Reg.HST_PHY_CTL) 6 1 0)) .hst = true)
    (hres : s.rd Reg.HST_PHY_CTL &&& (rowOf Reg.HST_PHY_CTL).reservedBits = 0) (htest : s.bit Reg.HST_PHY_CTL 6 = true) :
    Completes (.testmodeExit req) s fun t =>
      t.bit Reg.HST_PHY_CTL 6 = false ∧ t.ltssm = 0 ∧ t.bit Reg.HST_PRBS_STS 4 = false ∧ t.link.prbsRuns = false := by
  have hon : (s.island .hst).power = .on := State.openFor_on hopen
  generalize hv : withField (s.rd Reg.HST_PHY_CTL) 6 1 0 = v
  have hv6 : v.getLsbD 6 = false := hv ▸ getLsbD_withField_flag _ 6 (by decide) false
  have hwant : (phyWanted (s.rd Reg.HST_PHY_CTL) v).getLsbD 6 = false := (phyWanted_testmode _ _).trans hv6
  generalize hfin : phyKept req (s.rd Reg.HST_PHY_CTL) (phyWanted (s.rd Reg.HST_PHY_CTL) v) = fin
  have hfin6 : fin.getLsbD 6 = false := by
    rw [← hfin]
    by_cases hreq : req = .host
    · subst hreq
      exact phyKept_host_testmode (by rw [hwant, Bool.and_false])
    · rw [phyKept_of_ne hreq, hwant]
  obtain ⟨m, hm⟩ := State.writeTestmode (n := 0) hopen hres hv hfin
  obtain ⟨hisl, -, hwork⟩ := State.phyStored_work (s := s) (req := req) (v := v) (fin := fin)
  have hphy : (s.phyStored req v fin).rd Reg.HST_PHY_CTL = fin := State.phyStored_phy
  have hon' : ((s.phyStored req v fin).island .hst).power = .on := by rw [State.island, hisl]; exact hon
  have hexit := State.testExit_over hon' (by rw [State.bit, hphy, hfin6]) (hwork.trans (State.openFor_ready hopen))
  rw [State.phyHook_leaves (w := phyWritten req (s.rd Reg.HST_PHY_CTL) v fin) hv6 htest hfin6] at hm
  generalize s.phyStored req v fin = u at hm hexit
  have hover : TestOver (if v.getLsbD 5 then u.testExit.redetectOp else u.testExit) := by
    split
    · exact hexit.redetectOp
    · exact hexit
  refine ⟨_, congrArg Host.Outcome.next hm, ?_⟩
  rw [State.startReady_of_none hover.ready]
  exact ⟨hover.phy, hover.ltssm, hover.mode, hover.stopped⟩

/-! ### The checkers (R160) -/

/-- A lane counts from now on. -/
def State.prbsFrom (s : State) (lane : Nat) : State := { s with link := { s.link with prbsAt := Tab.insert s.link.prbsAt lane s.now } }

theorem prbsCheckerLock_completes {lane : Fin 4} (hruns : s.link.prbsRuns = true) (hon : s.bit Reg.HST_PRBS_CTL lane.val = true) :
    Completes (.prbsCheckerLock lane) s fun t =>
      t.bit Reg.HST_PRBS_STS lane.val = true ∧ (∀ b, b ≠ lane.val → t.bit Reg.HST_PRBS_STS b = s.bit Reg.HST_PRBS_STS b) ∧
      SameRegsBut s t (fun k => decide (k = Reg.HST_PRBS_STS)) := by
  refine ⟨_, rfl, ?_⟩
  cases hlocked : s.bit Reg.HST_PRBS_STS lane.val with
  | true =>
    have hstays : s.prbsLock lane.val = s := if_neg (by rw [hlocked]; simp)
    rw [hstays]
    exact ⟨hlocked, fun _ _ => rfl, fun _ _ => rfl, fun _ => rfl, rfl⟩
  | false =>
    have hlocks : s.prbsLock lane.val = (s.prbsFrom lane.val).setBit Reg.HST_PRBS_STS lane.val true :=
      if_pos (by rw [hruns, hon, hlocked]; rfl)
    have hlane : lane.val < 18 := by omega
    rw [hlocks]
    exact ⟨State.setBit_bit_self hlane, fun b hb => State.setBit_bit_of_ne hlane hb,
      fun k hk => State.setBit_rd_ne _ (of_decide_eq_false hk) _ _, fun _ => rfl, rfl⟩

/-! ### CLEAR (R160) -/

/-- The counts are brought up to date without a change of what runs and of what waits. -/
theorem State.prbsSettle_keeps {β : Type} (view : State → β)
    (hv : ∀ (t : State) n c m a, view { t with freeIdx := n, link := { t.link with prbsCmp := c, prbsMis := m, prbsAt := a } } = view t) :
    view s.prbsSettle = view s := by
  unfold State.prbsSettle
  split
  · rfl
  · refine State.forAll_keeps view (fun t l => ?_) _ s
    split
    · rfl
    · exact hv _ _ _ _ _

theorem State.prbsCtl_keeps {β : Type} {old new : Word} (view : State → β) (hv : ∀ (t : State) k w, view (t.wr k w) = view t)
    (hz : ∀ t : State, view { t with link := { t.link with prbsMis := [], prbsCmp := [] } } = view t) :
    view (s.prbsCtl old new) = view s := by
  unfold State.prbsCtl
  dsimp only
  split
  · rw [hz]
    split
    · exact hv _ _ _
    · exact hv _ _ _
  · split
    · exact hv _ _ _
    · exact hv _ _ _

theorem State.prbsCtl_zeroes {old new : Word} (h : new.getLsbD 10 = true) :
    (s.prbsCtl old new).link.prbsMis = [] ∧ (s.prbsCtl old new).link.prbsCmp = [] := by
  unfold State.prbsCtl
  dsimp only
  rw [if_pos h]
  exact ⟨rfl, rfl⟩

/-- `new` is stored in HST_PRBS_CTL after the counts so far have been taken, and the checkers follow it. -/
def State.prbsWritten (s : State) (old v new : Word) : State :=
  (((s.prbsSettle.wr Reg.HST_PRBS_CTL new).reparity Reg.HST_PRBS_CTL).prbsCtl old (new ||| (v &&& 0x400))).prbsPreset

/-- A write of HST_PRBS_CTL takes place after the counts so far. -/
theorem State.storeWrite_prbs (new : Word) : s.storeWrite Reg.HST_PRBS_CTL req v new true =
    .ok (s.prbsWritten (s.rd Reg.HST_PRBS_CTL) v new) := by
  have hwant : new ||| (s.rd Reg.HST_PRBS_CTL &&& stickyBits Reg.HST_PRBS_CTL) = new := by simp [show stickyBits Reg.HST_PRBS_CTL = 0 from rfl]
  have hlock : (new ^^^ s.rd Reg.HST_PRBS_CTL) &&& s.lockedBits Reg.HST_PRBS_CTL = 0 := by
    simp [show s.lockedBits Reg.HST_PRBS_CTL = 0 from rfl]
  have hsel : s.selCause Reg.HST_PRBS_CTL new = false := rfl
  have hjudge : s.writeJudged Reg.HST_PRBS_CTL req (s.rd Reg.HST_PRBS_CTL) v new = .ok new := by cases req <;> rfl
  have hcur : s.current Reg.HST_PRBS_CTL = s.rd Reg.HST_PRBS_CTL := rfl
  unfold State.storeWrite
  simp only [hcur, hwant, hlock, hsel, hjudge, ne_eq, not_true_eq_false, if_false, Bool.false_eq_true, if_true]
  rfl

theorem State.prbsWritten_zeroes {old new : Word} (h : (new ||| (v &&& 0x400)).getLsbD 10 = true) :
    (s.prbsWritten old v new).link.prbsMis = [] ∧ (s.prbsWritten old v new).link.prbsCmp = [] := by
  have hpreset (t : State) : t.prbsPreset.link = t.link := State.prbsPreset_keeps State.link fun _ _ _ => rfl
  rw [State.prbsWritten, hpreset]
  exact State.prbsCtl_zeroes h

theorem State.prbsWritten_keeps {β : Type} {old new : Word} (view : State → β) (hw : ∀ (t : State) k w, view (t.wr k w) = view t)
    (hp : ∀ (t : State) k, view (t.reparity k) = view t)
    (hv : ∀ (t : State) n c m a, view { t with freeIdx := n, link := { t.link with prbsCmp := c, prbsMis := m, prbsAt := a } } = view t) :
    view (s.prbsWritten old v new) = view s :=
  (State.prbsPreset_keeps view hw).trans <| (State.prbsCtl_keeps view hw fun t => hv t _ _ _ _).trans <|
    (hp _ _).trans <| (hw _ _ _).trans (State.prbsSettle_keeps view hv)

theorem prbsClear_completes (hopen : s.openFor (regAcc req Reg.HST_PRBS_CTL (withField (s.rd Reg.HST_PRBS_CTL) 10 1 1)) .hst = true)
    (hres : s.rd Reg.HST_PRBS_CTL &&& (rowOf Reg.HST_PRBS_CTL).reservedBits = 0) :
    Completes (.prbsClear req) s fun t => t.link.prbsMis = [] ∧ t.link.prbsCmp = [] ∧ t.link.prbsRuns = s.link.prbsRuns := by
  generalize hv : withField (s.rd Reg.HST_PRBS_CTL) 10 1 1 = v at hopen
  have hresv : v &&& (rowOf Reg.HST_PRBS_CTL).reservedBits = 0 := hv ▸ withField_bit_and hres rfl
  have hclear : v.getLsbD 10 = true := hv ▸ getLsbD_withField_flag _ 10 (by decide) true
  generalize hnew : mergeWrite (rowOf Reg.HST_PRBS_CTL) (s.rd Reg.HST_PRBS_CTL) v = new
  have hgo : (new ||| (v &&& 0x400)).getLsbD 10 = true := by
    rw [BitVec.getLsbD_or, BitVec.getLsbD_and, hclear, Bool.true_and]
    exact Bool.or_true _
  generalize hbus : s.onBus (busActivity (regAcc req Reg.HST_PRBS_CTL v)) = b
  have hrd : b.rd Reg.HST_PRBS_CTL = s.rd Reg.HST_PRBS_CTL := by rw [← hbus, State.onBus_rd]
  have hwork : b.nrg.ready = s.nrg.ready ∧ b.link = s.link := by
    subst hbus
    exact ⟨rfl, rfl⟩
  have hstored : b.rowWrite (rowOf Reg.HST_PRBS_CTL) Reg.HST_PRBS_CTL 0 req v s.now = .ok (b.prbsWritten (s.rd Reg.HST_PRBS_CTL) v new) := by
    rw [State.rowWrite_direct hresv (by decide) (by decide), State.storeWrite_prbs, hrd, ← hnew, ← hrd]
    rfl
  have hready : (b.prbsWritten (s.rd Reg.HST_PRBS_CTL) v new).nrg.ready = s.nrg.ready :=
    (State.prbsWritten_keeps (fun t : State => t.nrg.ready) (fun _ _ _ => rfl) (fun _ _ => rfl) fun _ _ _ _ _ => rfl).trans hwork.1
  have hruns : (b.prbsWritten (s.rd Reg.HST_PRBS_CTL) v new).link.prbsRuns = s.link.prbsRuns :=
    (State.prbsWritten_keeps (fun t : State => t.link.prbsRuns) (fun _ _ _ => rfl) (fun _ _ => rfl) fun _ _ _ _ _ => rfl).trans
      (congrArg LinkSt.prbsRuns hwork.2)
  obtain ⟨hmis, hcmp⟩ := State.prbsWritten_zeroes (s := b) (old := s.rd Reg.HST_PRBS_CTL) hgo
  obtain ⟨m, hm⟩ := State.writeReg_ok hopen (by decide) rfl (hbus ▸ hstored) hready
  generalize b.prbsWritten (s.rd Reg.HST_PRBS_CTL) v new = t at hm hmis hcmp hruns
  rw [← hv] at hm
  exact ⟨_, congrArg Host.Outcome.next hm, hmis, hcmp, hruns⟩

end

/-- The PRBS test mode starts and ends, its checkers lock, and CLEAR empties the counters (R159, R160). -/
theorem testModeRuns : TestModeRuns :=
  ⟨fun _ _ => testmodeEnter_completes, fun _ _ => testmodeExit_completes, fun _ _ => prbsCheckerLock_completes,
    fun _ _ => prbsClear_completes⟩

/-- Settles O20: the scan and the margining of the lanes, and the test mode with its checkers and counters. -/
theorem eyesAndTestModeRun : Obligations.EyesAndTestModeRun := ⟨eyesAreScanned, testModeRuns⟩

end Sys2Proof.Machine
end
